-- ==== Sys2Proof/Word.lean ====
section
/-! DEFINITION. The word of the Board and its plainest bit-field arithmetic (R7, R8). -/

namespace Sys2Proof

/-- A word is 20 bits, numbered 19 down to 0 (R7). -/
abbrev Word := BitVec 20

/-- Bits `hi` down to `lo` of a word, as a number. -/
def Word.field (w : Word) (hi lo : Nat) : Nat := (w.toNat >>> lo) % 2 ^ (hi + 1 - lo)

/-- Bit `i` of a word. -/
def Word.bit (w : Word) (i : Nat) : Bool := w.getLsbD i

/-- A word with bits `hi` down to `lo` replaced by `v` and every other bit kept. -/
def Word.put (w : Word) (hi lo v : Nat) : Word :=
  BitVec.ofNat 20 (w.toNat - w.field hi lo * 2 ^ lo + v % 2 ^ (hi + 1 - lo) * 2 ^ lo)

/-- A word with bit `i` set to `b`. -/
def Word.setBit (w : Word) (i : Nat) (b : Bool) : Word := w.put i i b.toNat

/-- A number as a word, wrapping at 2^20. -/
def Word.ofN (n : Nat) : Word := BitVec.ofNat 20 n

/-- A number as a word that saturates at FFFFFh. -/
def Word.sat (n : Nat) : Word := BitVec.ofNat 20 (min n 0xFFFFF)

/-- A field value saturating at the width of the field. -/
def satTo (limit n : Nat) : Nat := min n limit

/-- A word as the s20 number it spells (R7). -/
def Word.s20 (w : Word) : Int := w.toInt

/-- A two-state flag at bit `i` of a number under construction. -/
def flagAt (b : Bool) (i : Nat) : Nat := b.toNat * 2 ^ i

/-- A quantity wider than one word, least significant word first (R8): word `i` of `n`. -/
def wordOf (n i : Nat) : Word := BitVec.ofNat 20 (n >>> (20 * i))

/-- The words of a quantity of `k` words, least significant first (R8). -/
def wordsOf (n : Nat) : Nat → List Word
  | 0 => []
  | k + 1 => BitVec.ofNat 20 n :: wordsOf (n >>> 20) k

/-- The quantity that a list of words spells, least significant word first (R8). -/
def ofWords : List Word → Nat
  | [] => 0
  | w :: ws => w.toNat + 2 ^ 20 * ofWords ws

end Sys2Proof
end

