-- ==== Sys2Proof/Syntax.lean ====
section
/-! DEFINITION. The commands of the CHX-176D: one constructor for each row of the table of operations and events, with the
operands the event or command carries. -/

namespace Sys2Proof

/-- The logic and power feeds come in pairs A and B (R22, R46). -/
inductive Feed where
  | a | b
deriving DecidableEq, Repr

/-- The three rails of a lane (R53). -/
inductive Rail where
  | core | io | ana
deriving DecidableEq, Repr

/-- The two control lanes (R77). -/
inductive Lane where
  | white | black
deriving DecidableEq, Repr

/-- Why a tile resets by itself (R60, R195). -/
inductive TileCause where
  | rail | clock | selfCheck
deriving DecidableEq, Repr

/-- Why a lane takes a lane reset (R60, R72). -/
inductive LaneCause where
  | watchdog | coreRail | ioRail | anaRail | memory | coreFault | command | wake | update | sequencer | link
deriving DecidableEq, Repr

/-- What makes a core fault (R62). -/
inductive CoreFault where
  | lockstep | stack | watchdog
deriving DecidableEq, Repr

/-- Why a lane withdraws (R99), with the cause codes 1 to 5 of R544. -/
inductive WithdrawCause where
  | coreFault | memory | sequencer | link | command
deriving DecidableEq, Repr

/-- The cross-link paths (R96). -/
inductive Path where
  | xa | xb
deriving DecidableEq, Repr

/-- The lock flag of a Board request (R142). -/
inductive LockFlag where
  | none | start | release
deriving DecidableEq, Repr

/-- What mark M10 or K10 applies of a configuration image (R65, R557): register values by Board address, the cores' kinds
and programs, the digest compared at M11, the start lane, and the access-table entries. -/
structure ConfigImage where
  digest : Nat
  startBlack : Bool
  regs : List (Word × Word)
  /-- Identities of the local-program cores with their programs, word by word. -/
  programs : List (Nat × List Word)
deriving DecidableEq, Repr

/-- What a command carries to its target (R89, R92, R94, R376, R558). -/
inductive Content where
  /-- A register write. -/
  | write (a v : Word)
  /-- A ply close. -/
  | close
  /-- A claim with the restore sequence: the count and stamp it restores. -/
  | claim (count : Nat) (ply idx : Nat)
  /-- A restore sequence alone, after a tile reset. -/
  | restore (count : Nat) (ply idx : Nat)
  /-- A handover to the other lane from a stamp on (R107). -/
  | handover (ply idx : Nat)
  /-- A bus submission: OP, OBJ, TAG and the frame record (R376). -/
  | bus (op : BitVec 2) (obj : BitVec 6) (tag : BitVec 12) (rec : List Word)
  /-- A round that the lanes command for a door check, or for the test of an enrolment, which it names (R344, R348). -/
  | round (trigger : BitVec 4) (ant : BitVec 6) (test : Option (BitVec 4))
  /-- The park notice of an entry (R468). -/
  | park
deriving DecidableEq, Repr

/-- Which VLOG inputs' reduced monitors trip, and a sample (R47, R56). -/
structure ReducedTrip where
  a : Bool
  b : Bool
  sample : Word
deriving DecidableEq, Repr

/-- The sample of a power feed whose monitor releases, and whether the feed is still below its low threshold (R56). -/
structure FeedReturn where
  sample : Word
  low : Bool
deriving DecidableEq, Repr

/-- An LED position, and the tick of the period in which it opens (R305, R310). -/
structure LedMoment where
  k : Fin 16
  tick : Nat
deriving DecidableEq, Repr

/-- What one arc window measured of one channel: mean in 0.1 A and ratio in 0.5 % (R214). -/
structure ArcMeasure where
  k : Fin 16
  mean : Nat
  ratio : Nat
deriving DecidableEq, Repr

/-- One ranging port's hearing of a reply: the STS it correlated and the time of flight in timestamp units (R332). -/
structure Leg where
  port : Fin 4
  sts : Nat
  tof : Int
deriving DecidableEq, Repr

/-- What a round hears in one slot (R340, R341). -/
inductive Reply where
  | collided
  | reply (id resp : Nat) (legs : List Leg)
deriving DecidableEq, Repr

/-- How a LIN response ends (R393). -/
inductive LinResult where
  /-- A response with its start; `same`: the listening controller's own reception agrees (R363). -/
  | frame (rec : List Word) (sof : Nat) (same : Bool)
  | missing | checksum | framing | readback | collision
deriving DecidableEq, Repr

/-- Where a host request came from, and where its reply goes: Ethernet address, IPv4 address and UDP port (R409). -/
structure Peer where
  mac : BitVec 48
  ip : BitVec 32
  udp : BitVec 16
deriving DecidableEq, Repr

/-- The Ethernet, IPv4 and UDP headers of a frame that a host port receives (R408). -/
structure HostFrame where
  destMac : BitVec 48
  /-- The IPv4 header has no options, is not a fragment and carries a correct header checksum. -/
  plain : Bool
  destIp : BitVec 32
  destUdp : BitVec 16
  /-- The UDP checksum is correct, or is zero. -/
  checksum : Bool
  source : Peer
deriving DecidableEq, Repr

/-- What the lanes know of a host request beside its payload: the port it arrived on and its sender, SEC, SESSION, REQ_ID, and
its sequence number (R409, R411, R417). -/
structure ReqHead where
  port : Lane
  source : Peer
  sec : Bool
  session : BitVec 16
  reqId : BitVec 40
  seq : Nat
deriving DecidableEq, Repr

/-- The commands of the block: every row of the table of operations and events. -/
inductive Instr where
  -- Supplies, resets and start (R44 to R76, R558)
  | vlogLost (f : Feed) (sample : Word)
  | vlogBack (f : Feed) (sample : Word) (red : Bool)
  | reducedOn (trip : ReducedTrip)
  | reducedOff (f : Feed) (sample : Word)
  | vpwrLow (f : Feed) (sample : Word)
  | vpwrMissing (f : Feed) (sample : Word)
  | vpwrOk (f : Feed) (back : FeedReturn)
  | powerFail (a b : Word)
  | holdUpEnd
  | laneRailBrownout (l : Lane) (r : Rail)
  | fabAnaLost
  | fabAnaSettled
  | tileReset (t : Fin 11) (cause : TileCause)
  | aoRailBrownout
  | lowPowerBrownout
  | wakeInputRise (i : Feed)
  | wakeInputFall (i : Feed)
  | coldStart (vlogA vlogB vpwrA vpwrB calOk : Bool)
  | laneResetRelease (l : Lane)
  | pllLocked (l : Lane)
  | imageVerified (l : Lane) (activeOk fallbackOk : Bool)
  | configApplied (l : Lane) (ok : Bool) (image : ConfigImage)
  | lanesMeet
  | soloTimeout (l : Lane)
  | firstActivePly (startMs : BitVec 8)
  | hostLinkUp (l : Lane)
  | hostLinkLoss (l : Lane)
  | laneResetEvent (l : Lane) (cause : LaneCause)
  | laneWatchdog (l : Lane)
  | coreFault (l : Lane) (c : Fin 24) (k : CoreFault)
  | uncorrectableError (l : Lane)
  | epochEndReset
  -- Plies, the sequencer and the lanes (R77 to R121)
  | plyBoundary
  | inputPresented (src : BitVec 8) (at_ : Nat) (payload : List Word)
  | assignmentReceived (n : Nat)
  | phaseBStart
  | phaseCEmit (endWhite endBlack : Nat) (failed : Option (Fin 45))
  | phaseDDigest (diff : Option (Fin 4))
  | phaseECommit (fits : Bool)
  | commandReceived (t : Fin 45) (l : Lane) (count : BitVec 20) (ply idx : Nat) (c : Content)
  | keepAlive (l : Lane) (t : Fin 45)
  | shadowReceived (t : Fin 45) (count : BitVec 20) (c : Content)
  | shadowMissing (t : Fin 45) (count : BitVec 20)
  | pathDown (p : Path)
  | pathUp (p : Path)
  | withdraw (l : Lane) (cause : WithdrawCause)
  | withdrawReceived (cause : WithdrawCause)
  | markerTimeout
  | claimReceived (t : Fin 45) (l : Lane) (ply idx : Nat)
  | superseded (l : Lane)
  | joinAbandoned
  | joinRetry
  | laneCtlCastle
  | joinEn (v : Bool)
  | divUnlock
  | scoTimeRead (l : Lane) (m : Fin 32)
  -- The Board and its arbiters (R122 to R150)
  /-- `secure`: the attribute that the request shows. -/
  | boardRequest (l : Lane) (t : Fin 18) (m : Fin 32) (secure : Bool) (addr : Word) (wr : Bool) (lk : LockFlag) (cycle : Nat)
  | arbiterGrant (l : Lane) (t : Fin 18) (bank : Fin 8) (cycle : Nat)
  | lockAbandoned (l : Lane) (t : Fin 18)
  | lockRecoveryEnd (l : Lane) (t : Fin 18)
  | accessTableWrite (t : Fin 18) (e : Fin 64) (w : Fin 3) (v : Word)
  | commit
  | clear (t m : BitVec 5)
  | clearAll (t m : BitVec 5)
  | arbGrantsRead (l : Lane) (m : Fin 32)
  | arbSwinWrite (writer : Fin 32) (m : Fin 32) (v : Word)
  -- Protected channels (R151 to R196)
  | chOn (n : Fin 176)
  | chOff (n : Fin 176)
  | chClear (n : Fin 176)
  | chProbe (n : Fin 176)
  | chCfgWrite (n : Fin 176) (v : Word)
  | firstTurnOnProbeEnd (n : Fin 176) (vOff vProbe : Word)
  | freewheelProbeEnd (n : Fin 176) (vNeg : Word)
  | retryOffTimeEnd (n : Fin 176)
  | inrushWindowEnd (n : Fin 176)
  | tileSilent (t : Fin 11)
  | holdTimeExpiry (n : Fin 176)
  | tileSilentReport (t : Fin 14)
  -- Protection (R197 to R233)
  | shortCircuit (n : Fin 176)
  | currentSample (n : Fin 176) (fine coarse : Word) (limited : Bool)
  | overcurrent (n : Fin 176)
  | reverse (n : Fin 176)
  | wireModelUpdate (n : Fin 176)
  | dt (n : Fin 176) (temp : Word)
  | dtRelease (n : Fin 176) (temp : Word)
  | junction (n : Fin 176) (temp : Word)
  | junctionRelease (n : Fin 176) (temp : Word)
  | caseDiff (t : Fin 11) (diff : Word)
  | sensorFail (n : Fin 176)
  | arcWindowEnd (t : Fin 11) (ms : List ArcMeasure)
  | backfedEval (n : Fin 176) (v : Word) (settled : Bool)
  | openLoadProbe (n : Fin 176) (v : Word)
  | imbalance (n : Fin 176) (outside : Bool)
  | pairImbalance (n : Fin 176)
  | lifetimeJournal
  -- Measurement fabric, streams and DMA (R234 to R274)
  | sampleBlock (raw : List Word) (late : Bool)
  | muxReferenceCheck (v : Fin 24) (good : Bool)
  | modOffsetTrack (n : Fin 176) (step : Int) (fail : Bool)
  | comparatorConfigWrite (m : Fin 32) (i : Fin 856) (which : Fin 4) (v : Word)
  | signatureConfigWrite (m : Fin 32) (k : Fin 16) (v : Word)
  | streamEnable (m : Fin 32) (s : Fin 16) (decim : BitVec 8)
  | streamRdWrite (m : Fin 32) (s : Fin 16) (v : Word)
  | evqTailWrite (m : Fin 32) (v : Word)
  | dmaStart (m : Fin 32) (e : Fin 4)
  | dmaAbort (m : Fin 32) (e : Fin 4) (moved : Nat)
  | dmaComplete (e : Fin 4)
  -- 24 V field inputs and outputs (R273 to R298)
  | diCfgWrite (d : Fin 128) (v : Word)
  | doOn (o : Fin 48)
  | doOff (o : Fin 48)
  | doClear (o : Fin 48)
  | grpOn (g : Fin 6) (mask : BitVec 8)
  | grpOff (g : Fin 6) (mask : BitVec 8)
  | limit (o : Fin 48)
  | thermal (o : Fin 48)
  | doThermalRelease (o : Fin 48)
  | vfldMissing (g : Fin 6)
  | vfldLow (g : Fin 6)
  | vfldOk (g : Fin 6) (low : Bool)
  | fioUnitSilent
  | fioTimedOut
  | fioBackfedEval (o : Fin 48) (above below settled : Bool)
  -- LED strings and signalling matrices (R299 to R327)
  | strOn (x : Fin 8)
  | strOff (x : Fin 8)
  | strClear (x : Fin 8)
  | go (x : Fin 8)
  | strCfgWrite (x : Fin 8) (v : Word)
  | pwmPeriodStart (x : Fin 8)
  | bypassClose (x : Fin 8) (k : Fin 16)
  | onTimeEnd (x : Fin 8) (regulated under : Bool)
  | short (x : Fin 8)
  | openString (x : Fin 8)
  | openLed (x : Fin 8) (led : LedMoment)
  | shortLed (x : Fin 8) (k : Fin 16) (below : Bool)
  | strThermalSet (x : Fin 8)
  | strThermalRelease (x : Fin 8)
  | mxOn (m : Fin 2)
  | mxOff (m : Fin 2)
  | mxClear (m : Fin 2)
  | swap (m : Fin 2)
  | mxGo (m : Fin 2)
  | frameStart (m : Fin 2) (openCols : List (Fin 48))
  | lineSlot (m : Fin 2)
  | lineShort (m : Fin 2) (l : Fin 24)
  | colShort (m : Fin 2) (c : Fin 48) (low : Bool)
  | mxThermal (m : Fin 2) (set : Bool)
  | lgtUnitSilent
  | lgtTimedOut
  -- Access, tokens and drive release (R328 to R359)
  | parkPoll
  | pollPeriodDouble
  | presenceFrame (i : Fin 16)
  | handleScan (h : Fin 4) (above : Bool)
  | handleStuck (h : Fin 4)
  | tokenReply (i : Fin 16) (r : Reply)
  | retryTelegram
  | roundEnd (lfFaults : BitVec 6) (uwbFaults : BitVec 4)
  | round (ant : BitVec 6)
  | sessEnd
  | tokenWrite (i : Fin 16) (v : Word)
  | sessionTimeout
  | run
  | stop
  | denClear
  | denCfgWrite (v : Word)
  | denHalfPeriod (readP readN : Bool)
  | denSilence
  | releaseMessage
  | accUnitSilent
  -- CAN, LIN and 10BASE-T1S (R360 to R405)
  | busFrameReceived (b : Fin 28) (rec : List Word) (sof : Nat) (cycle col : BitVec 6) (sameCopy badFcs : Bool)
  | busFrameTransmitted (b : Fin 28) (obj : Bool) (tag : BitVec 12) (sof : Nat)
  | busQueue (b : Fin 28) (tag : BitVec 12) (rec : List Word)
  | busUpdateObject (b : Fin 28) (obj : BitVec 6) (rec : List Word)
  | busAbort (b : Fin 28) (tag : BitVec 12)
  | rxAck (b : Fin 28) (slot : BitVec 6)
  | rxAckAll (b : Fin 28)
  | moved (b : Fin 28)
  | canError (n : Fin 16) (tec : Fin 257) (rec : BitVec 8) (lec : BitVec 3)
  | busOffReturn (n : Fin 16)
  | recover (n : Fin 16)
  | domTimeout (b : Fin 24)
  | ttCycleStart (n : Fin 16)
  | ttWindowStart (n : Fin 16) (fits : Bool)
  | ttWindowEnd (n : Fin 16)
  | referenceReceived (n : Fin 16) (cycle : BitVec 6) (gap higher : Bool)
  | syncLost (n : Fin 16)
  | linSlot (n : Fin 8)
  | linResponse (n : Fin 8) (r : LinResult)
  | linSleep (n : Fin 8)
  | linWake (n : Fin 8)
  | wakeReceived (n : Fin 8)
  | linWakeRestart (n : Fin 8)
  | plcaBeacon (s : Fin 4) (nodes : BitVec 8)
  | satLost (s : Fin 4) (k : Fin 8)
  | satCollision (s : Fin 4) (k : Fin 8)
  -- The Shaeve host protocol (R406 to R441)
  | hostPacket (l : Lane) (head : HostFrame) (octets : List (BitVec 8))
  | arpRequest (l : Lane) (target sender : BitVec 32)
  | hello (h : ReqHead) (ws : List Word)
  | close (h : ReqHead) (ws : List Word)
  | ping (h : ReqHead) (ws : List Word)
  | moduleReset (h : ReqHead) (ws : List Word)
  | moduleResetAssert
  | read (h : ReqHead) (ws : List Word)
  | write (h : ReqHead) (ws : List Word)
  | readList (h : ReqHead) (ws : List Word)
  | modify (h : ReqHead) (ws : List Word)
  | chCommand (h : ReqHead) (ws : List Word)
  | chRead (h : ReqHead) (ws : List Word)
  | chLife (h : ReqHead) (ws : List Word)
  | evtRead (h : ReqHead) (ws : List Word)
  | strRead (h : ReqHead) (ws : List Word)
  | mbxPost (h : ReqHead) (ws : List Word)
  | mbxFetch (h : ReqHead) (ws : List Word)
  | mbxStatus (h : ReqHead) (ws : List Word)
  | updBegin (h : ReqHead) (ws : List Word)
  | updData (h : ReqHead) (ws : List Word)
  | updVerify (h : ReqHead) (ws : List Word)
  | updActivate (h : ReqHead) (ws : List Word)
  | updConfirm (h : ReqHead) (ws : List Word)
  | updStatus (h : ReqHead) (ws : List Word)
  | keyLoad (h : ReqHead) (ws : List Word)
  | pwrRequest (h : ReqHead) (ws : List Word)
  | pwrStatus (h : ReqHead) (ws : List Word)
  | castle (h : ReqHead) (ws : List Word)
  | laneReset (h : ReqHead) (ws : List Word)
  | laneStatus (h : ReqHead) (ws : List Word)
  | lgtString (h : ReqHead) (ws : List Word)
  | lgtPixels (h : ReqHead) (ws : List Word)
  | lgtRead (h : ReqHead) (ws : List Word)
  | accEnrol (h : ReqHead) (ws : List Word)
  | accDelete (h : ReqHead) (ws : List Word)
  | accRound (h : ReqHead) (ws : List Word)
  | accDen (h : ReqHead) (ws : List Word)
  | accRead (h : ReqHead) (ws : List Word)
  | busSend (h : ReqHead) (ws : List Word)
  | busTap (h : ReqHead) (ws : List Word)
  | busRead (h : ReqHead) (ws : List Word)
  | busStatus (h : ReqHead) (ws : List Word)
  | sessionIdleTimeout (k : Fin 8)
  | pendingSessionExpiry (k : Fin 8)
  -- Mailboxes (R442 to R462)
  | post (m : Fin 32) (k : Fin 48) (v : Word)
  | mbxAck (m : Fin 32) (k : Fin 48) (v : Word)
  -- Power states (R463 to R488)
  | pwrCtlReq (m : Fin 32) (target : BitVec 3)
  | clk250 (m : Fin 32)
  | journalWriteComplete (written : Bool)
  | entryCommit
  | powerDownComplete
  | deepAfterExpiry
  | alarm
  | rtcReport
  | wakeEvent (cause : BitVec 4) (index : BitVec 4) (bankFail : BitVec 8) (multi : Bool)
  -- Kwask cores (R489 to R513)
  | add (c : Fin 24) (a : Word)
  | sub (c : Fin 24) (a : Word)
  | and (c : Fin 24) (a : Word)
  | or (c : Fin 24) (a : Word)
  | xor (c : Fin 24) (a : Word)
  | neg (c : Fin 24) (a : Word)
  | eq (c : Fin 24) (a : Word)
  | lt (c : Fin 24) (a : Word)
  | ltu (c : Fin 24) (a : Word)
  | shl (c : Fin 24) (a : Word)
  | shr (c : Fin 24) (a : Word)
  | sar (c : Fin 24) (a : Word)
  | muls (c : Fin 24) (a : Word)
  | mulu (c : Fin 24) (a : Word)
  | divs (c : Fin 24) (a : Word)
  | divu (c : Fin 24) (a : Word)
  | sadd (c : Fin 24) (a : Word)
  | ssub (c : Fin 24) (a : Word)
  | sneg (c : Fin 24) (a : Word)
  | smul (c : Fin 24) (a : Word)
  | sabs (c : Fin 24) (a : Word)
  | ld (c : Fin 24) (a : Word)
  | st (c : Fin 24) (a : Word)
  | ldL (c : Fin 24) (a : Word)
  | stL (c : Fin 24) (a : Word)
  | ldU (c : Fin 24) (a : Word)
  | stU (c : Fin 24) (a : Word)
  | jmp (c : Fin 24) (a : Word)
  | jz (c : Fin 24) (a : Word)
  | jnz (c : Fin 24) (a : Word)
  | halt (c : Fin 24)
  | sleep (c : Fin 24)
  | call (c : Fin 24) (a : Word)
  | ret (c : Fin 24)
  | push (c : Fin 24) (a : Word)
  | pop (c : Fin 24)
  | flagsClr (c : Fin 24) (a : Word)
  | bundleIssue (c : Fin 24)
  | budget (c : Fin 24)
  | coreWatchdog (l : Lane) (c : Fin 24)
  | coreRun (m : Fin 32) (c : Fin 24)
  | coreStop (m : Fin 32) (c : Fin 24)
  | coreSleep (m : Fin 32) (c : Fin 24)
  | coreReset (m : Fin 32) (c : Fin 24)
  -- Firmware update (R514 to R529)
  | eraseComplete (l : Lane)
  | verifyResult (l : Lane) (digestOk signatureOk : Bool) (image : ConfigImage) (checkAt : Word)
  | laneReady (l : Lane)
  | conversionComplete (l : Lane)
  | healthWindowExpiry
  | recoveryReset
  -- Scoresheet and registers
  | scoLogWrite (m : Fin 32) (c : Fin 24) (v : Word)
  | registerWrite (m : Fin 32) (a v : Word)
  | dbgEnDeactivation
deriving DecidableEq, Repr

end Sys2Proof
end

