-- ==== Sys2Proof/Config.lean ====
section
/-! DEFINITION. What an implementation fixes and the spec leaves open: free values without a body, so that nothing can be
proved of any one of them. Each is applied to the counter `State.free`, to operands, or to both (assumption log 4). -/

namespace Sys2Proof.Config

/-- Whether a division of the wire model rounds away from −∞ at this update; R205 does not say how it rounds. -/
opaque wireRound : Nat → Bool

/-- The part of the θ2 update that needs K2 / K1 where K1 is 0 (R205). -/
opaque wireQuotient : Nat → Nat

/-- Whether a closed driver is in current limit when its state is reported (R296). -/
opaque inLimit : Nat → Bool

/-- The 64-bit challenge of an access round (R340). -/
opaque challenge : Nat → Nat

/-- The 64-bit device nonce of a HELLO (R417). -/
opaque deviceNonce : Nat → Nat

/-- The key-transport key of the module, installed at manufacture (R527). -/
opaque transportKey : Nat

/-- How the fraction of a centimetre of a range is dropped (R332). -/
opaque rangeRound : Nat → Bool

/-- Where the lanes place the input record of a frame, the buffer of a submission or a capture in Board SRAM (R381). -/
opaque recordPlace : Nat → Nat

/-- The controller of bus `b` passes its check at the start of its lane: drawn with each lane reset (R365). DESIGN CHOICE,
assumption log 4. -/
opaque busCheck : Nat → Nat → Bool

/-- Where the capture ring of the host lies in Board SRAM (R436). -/
opaque captureBase : Nat

/-- What a location of a cross-link window, the NVM read window or the security engine reads, whose layout is not
given (R122), or a word of a mailbox queue that belongs to no queued message (R447). DESIGN CHOICE, assumption log 4.
-/
opaque windowWord : Nat → Nat → Nat

/-- The factory Ethernet address of a port, White then Black (R438). -/
opaque factoryMac : Nat → Nat

/-- The identification field of the IPv4 header of a reply frame, by the frame's SEQ and index, and the type-of-service octet of
them all (R409). DESIGN CHOICE, assumption log 89. -/
opaque ipIdent : Nat → Nat → Nat
opaque ipService : Nat

/-- The program-store words of a firmware core, which its ACTIVE image carries (R490): by core and word. -/
opaque firmwareWord : Nat → Nat → Nat

/-- How many words a DMA transfer has moved when it is aborted by a register write (R261). -/
opaque dmaMoved : Nat → Nat

/-- How far the standby's time base stands from the active lane's, in ticks before it is brought within 5 (R78). -/
opaque timeSkew : Nat → Nat

/-- Whether the calibration store passes its CRC check at a start other than a cold start (R241). -/
opaque calOk : Nat → Bool

/-- Whether the frame that is next to be sent on a bus has already started when an abort names it (R377). -/
opaque txStarted : Nat → Bool

/-- The signal quality a host link reports while it is up (R437): by port, White then Black, and the 10 ms in which it is read. -/
opaque linkQuality : Nat → Nat → Nat

/-- The cause that a state entry names for a channel or object that power-fail moves to OFF (R57, R183). -/
opaque failCause : Nat → Nat

/-- Whether the command links of a lane that withdrew for one pass the start check when it restarts (R112). -/
opaque linkCheck : Nat → Bool

/-- Cross-link frames with CRC errors that arrive in a ply: by count of free values, and 0 or 1 for White's paths XA and XB,
2 or 3 for Black's (R120). -/
opaque crcErrors : Nat → Nat → Nat

/-- Whether FAB-ANA, once lost, is good again at a tick although it has not been so for 400 µs (R54, R75). DESIGN CHOICE,
assumption log 85. -/
opaque railBack : Nat → Bool

/-- Whether the rail of a tile that its brown-out has reset is good again: by tick and tile (R56, R75). DESIGN CHOICE,
assumption log 85. -/
opaque tileRailBack : Nat → Nat → Bool

/-- The antennas that a poll finds open or shorted among those that it drives (R330). DESIGN CHOICE, assumption log 86. -/
opaque pollFaults : Nat → Nat

/-- The factory value that HK[0] carries as shipped (R527). -/
opaque factoryKey : Nat

end Sys2Proof.Config
end

