-- ==== Sys2Proof/Machine/State.lean ====
section
/-! DEFINITION. The state of the block as plain data, and its reset value. Collections by number or address are lists of
pairs with rising keys that leave out what equals the reset value (`Sparse`, in `Ops.lean`). -/

namespace Sys2Proof.Machine

open Sys2Proof

/-- A record a report or a lane asks for, before it has a number and a time (R537, R540). -/
structure RecDraft where
  cls : Nat
  code : Nat
  src : Word
  arg0 : Word
  arg1 : Word
deriving DecidableEq, Repr

/-- A committed scoresheet record (R537). -/
structure Rec where
  draft : RecDraft
  seq : Nat
  time : Nat
deriving DecidableEq, Repr

/-- One entry that a tile or unit holds for its next report (R183, R184): its words, the copy words it brings up to date
and the records that the lanes make of it. -/
structure Entry where
  kind : Nat
  obj : Nat
  cause : Nat
  /-- The object's state word after the change. -/
  state : Word
  words : List Word
  copy : List (Nat × Word)
  recs : List RecDraft
  time : Nat
  /-- The cause arose at this object itself, not at another member of its group (R221). -/
  own : Bool
  /-- A freewheel probe pulse came before the change (R221). -/
  pulse : Bool
deriving DecidableEq, Repr

/-- A refused write that a tile or unit holds for its next report (R183): word 0, the value, and the register. -/
structure Refused where
  word0 : Word
  value : Word
  addr : Nat
deriving DecidableEq, Repr

/-- A command or shadow that a target holds for its comparison (R94). -/
structure HeldCmd where
  count : Nat
  content : Content
  ply : Nat
  idx : Nat
  shadow : Bool
deriving DecidableEq, Repr

/-- A command target (R89 to R94, R161, R184, R558). -/
structure Target where
  /-- The lane whose commands it applies; none while unclaimed (R558). -/
  claimed : Option Lane
  /-- The last count it applied (R90). -/
  last : Nat
  stampPly : Nat
  stampIdx : Nat
  /-- The count that the lanes last gave a command to it (R90). -/
  sent : Nat
  silent : Bool
  timedOut : Bool
  /-- It waits for the restore sequence after a reset of its own (R64). -/
  restoreWait : Bool
  /-- It has taken the park notice (R468). -/
  parked : Bool
  /-- Commands discarded as duplicates (R90). -/
  dups : Nat
  /-- Commands held for the shadow comparison, at most 64 (R94). -/
  shadows : List HeldCmd
  /-- The stamp from which the other lane's commands are applied (R107). -/
  handover : Option (Nat × Nat)
  /-- Time of the latest sign of life (R92). -/
  lastSign : Nat
  /-- Time of the last ply close received (R183). -/
  lastClose : Nat
  /-- Time of the latest report presented (R183). -/
  lastReport : Nat
  /-- A shadow comparison that failed since the last report: missing or not, count, and stamp (R94, R184). -/
  shadowDue : Option (Bool × Nat × Nat × Nat)
  entries : List Entry
  refusals : List Refused
  recs : List RecDraft
  lastReset : Nat
  resets : Nat
deriving DecidableEq, Repr

/-- A target after a module reset (R558). -/
def Target.reset : Target :=
  { claimed := none, last := 0, stampPly := 0, stampIdx := 0, sent := 0, silent := false, timedOut := false,
    restoreWait := false, parked := false, dups := 0, shadows := [], handover := none, lastSign := 0, lastClose := 0, lastReport := 0,
    shadowDue := none, entries := [], refusals := [], recs := [], lastReset := 0, resets := 0 }

/-- A host packet as a port's engine presents it (R415): the header, the payload, the step it failed (0 for none,
7 for the MAC of step 6) and the
device nonce appended to a HELLO (R417). -/
structure Packet where
  port : Lane
  /-- The host that sent it (R409). -/
  source : Peer
  opcode : Nat
  sec : Bool
  session : BitVec 16
  reqId : BitVec 40
  payload : List Word
  failed : Nat
  nonce : Nat
  /-- COVERED read 1 when it was numbered (R108). -/
  covered : Bool
deriving DecidableEq, Repr

/-- A castling request of the host: the packet, its number and arrival time, and the key of its reply (R107, R108). -/
structure CastleReq where
  packet : Packet
  seq : Nat
  time : Nat
  key : Option Nat
deriving DecidableEq, Repr

/-- What the lanes do with an input when they process it in phase B. -/
inductive Act where
  | none
  /-- Nothing but copy words and records. -/
  | upd (copy : List (Nat × Word)) (recs : List RecDraft)
  /-- A report of target `t`, with its registers as they stood when it was presented. -/
  | report (t : Nat) (entries : List Entry) (recs : List RecDraft) (now : List (Nat × Word))
  /-- A sample block, with the records the fabric's state asks for. -/
  | block (recs : List RecDraft)
  /-- A received frame in slot `slot` of bus `b`, accepted by filter `flt`. -/
  | frame (b slot flt : Nat)
  /-- A host packet. -/
  | packet (p : Packet)
  /-- A link event of the port of lane `l` (R106). -/
  | link (l : Lane) (up : Bool)
  /-- LANE_CTL.CASTLE, and whether COVERED read 1 when it was numbered (R107, R108). -/
  | castle (covered : Bool)
  /-- Power-fail (R57). -/
  | powerFail (a b : Word)
  /-- A wake source seen while the lanes run (R475). -/
  | wake (cause : Nat) (copy : List (Nat × Word))
  /-- The phase-locked loop has locked after a wake (R479). -/
  | locked
  /-- A lane-management input of the update (R516, R518, R520). -/
  | erased (l : Lane)
  | verified (l : Lane) (code : Nat) (checkAt : Word)
  | ready (l : Lane)
  /-- A target's shadow comparison failed at a count: the shadow differs, or is missing (R94). -/
  | shadow (t : Nat) (missing : Bool) (count : Nat)
deriving DecidableEq, Repr

/-- An input at a sequencer half (R81, R85); its number is 0 until it has one. -/
structure Input where
  seq : Nat
  time : Nat
  src : Nat
  payload : List Word
  /-- Per-source count. -/
  count : Nat
  act : Act
deriving DecidableEq, Repr

/-- The input sequencer pair (R81 to R85). -/
structure Seq where
  /-- Numbering has begun: from the first active ply of a start. -/
  running : Bool
  /-- The next number to give. -/
  next : Nat
  /-- The last agreed number (R82). -/
  agreed : Nat
  /-- Numbers below it whose own assignments the standby has not received (R82). -/
  unheard : List Nat
  /-- Inputs numbered after the previous marker, oldest first. -/
  window : List Input
  /-- Numbers given in the present window, records included (R83, R538). -/
  used : Nat
  /-- Inputs that found the window full, in order of presentation. -/
  held : List Input
  /-- Inputs of `held` that spilled in this window. -/
  spilled : Nat
  /-- The closed input set that phase B has not processed. -/
  due : List Input
  /-- Per-source counts by source identity. -/
  counts : List (Nat × Nat)
  /-- EPOCH_END (R68, R84). -/
  epochEnd : Bool
  /-- The count has reached its end again after EPOCH_END (R84). -/
  ended : Bool
  /-- Records of an epoch carry that the present ply is to make. -/
  recs : List RecDraft
  /-- Ply boundaries that passed while no lane numbered (R101). -/
  missed : List Nat
deriving DecidableEq, Repr

/-- The sequencer before a start. -/
def Seq.reset : Seq :=
  { running := false, next := 0, agreed := 0, unheard := [], window := [], used := 0, held := [], spilled := 0, due := [], counts := [],
    epochEnd := false, ended := false, recs := [], missed := [] }

/-- The refusals of Board requests at one target in the present ply (R139). -/
structure RefusalCount where
  count : Nat
  master : Nat
  addr : Nat
deriving DecidableEq, Repr

/-- The phases of a ply (R86). -/
inductive Phase where
  | none | a | b | c | d | e
deriving DecidableEq, Repr

/-- The present ply (R79, R86, R538). -/
structure Ply where
  /-- Boundary time from the marker. -/
  boundary : Nat
  /-- Ply number: the sequence number of the marker. -/
  number : Nat
  phase : Phase
  /-- Records made from the inputs, with their times. -/
  recs : List (RecDraft × Nat)
  /-- Records written through SCO_LOG, with their core. -/
  logRecs : List (Nat × RecDraft)
  /-- Commands to emit in phase C, in emission order. -/
  cmds : List (Nat × Content)
  /-- Board words that the host step has accessed (R420). -/
  hostWords : Nat
  /-- Stream words that the replies on each port carry in this ply (R421). -/
  streamW : Nat
  streamB : Nat
  /-- Refusals of Board requests by target. -/
  refusals : List (Nat × RefusalCount)
  /-- Arrival time of the input or request in work, the boundary otherwise (R539). -/
  at_ : Nat
  /-- Receive slots to acknowledge in phase C (R381). -/
  slots : List (Nat × Nat)
  /-- Check-failure replies of each port in this ply (R415). -/
  checksW : Nat
  checksB : Nat
  /-- Writes of the ply that the copy shows from its end on, in order, each with its writer (R154). -/
  writes : List (Nat × Nat × Word)
  /-- A request of the host step waits at a locked target (R143). -/
  blocked : Bool
  /-- A debug write has made one lane differ, in this component of its digest (R97, R130). -/
  debugged : Option Nat
  /-- Resends made to a target in this ply (R91). -/
  resends : List (Nat × Nat)
  /-- Its phase A has begun already, under a marker that a promotion numbers afresh (R101). -/
  again : Bool
deriving DecidableEq, Repr

/-- No ply yet. -/
def Ply.reset : Ply :=
  { boundary := 0, number := 0, phase := .none, recs := [], logRecs := [], cmds := [], hostWords := 0,
    streamW := 0, streamB := 0, refusals := [], at_ := 0, slots := [], checksW := 0, checksB := 0, writes := [],
    blocked := false, debugged := none, resends := [], again := false }

/-- An emitted command with its stamp and count (R89, R90). -/
structure Emitted where
  target : Nat
  count : Nat
  ply : Nat
  idx : Nat
  content : Content
deriving DecidableEq, Repr

/-- One reply frame (R412): the words before the trailer, the key of its trailer, and what identifies it. -/
structure Frame where
  port : Lane
  words : List Word
  /-- The same words as the lane of the other port computes them (R127). -/
  other : List Word
  /-- Arrival time of its request (R106). -/
  time : Nat
  /-- K_REP of a secure session (R413). -/
  key : Option Nat
  seq : Nat
  ply : Nat
  index : Nat
  replay : Bool
  /-- It is released ahead of the port's own frames: a replay of R101 or R106 (R421). -/
  ahead : Bool
  /-- The host to which it goes (R409). -/
  dest : Peer
  /-- The number of the request that it answers, which orders its release (R421). -/
  order : Nat
deriving DecidableEq, Repr

/-- An ARP reply that a port has sent: its own addresses, and the address it answers (R406). -/
structure ArpReply where
  ip : Nat
  mac : Nat
  host : Nat
  time : Nat
deriving DecidableEq, Repr

/-- What the command buffer keeps of a completed ply (R95). -/
structure PlyLog where
  number : Nat
  cmds : List Emitted
  frames : List Frame
  recs : List Rec
  /-- Phase D was completed in this ply. -/
  digested : Bool
  /-- The ply-done notice was sent (R86). -/
  done : Bool
deriving DecidableEq, Repr

/-- The states of a protected channel (R158). -/
inductive ChState where
  | off | on | retry | cooling | latched | hold | safe
deriving DecidableEq, Repr

/-- What the switch position of a channel follows (R158). -/
inductive Src where
  | lane | hold | safe
deriving DecidableEq, Repr

/-- A probe that runs before a closing (R169, R173). -/
inductive Probe where
  | firstTurnOn | freewheel
deriving DecidableEq, Repr

/-- The latest opening of a closed switch: when, by which cause of R546, and what the overcurrent filter had counted. -/
structure Cut where
  time : Nat
  cause : Nat
  count : Nat
deriving DecidableEq, Repr

/-- The live state that a switch tile and its protection engine keep of one channel. -/
structure Chan where
  /-- CH_STATE.STATE (R158, R187). -/
  state : ChState
  /-- CH_STATE.SRC (R158). -/
  src : Src
  /-- 1 while the switch is closed. -/
  sw : Bool
  /-- Back-feed on the open output (R171). -/
  backfed : Bool
  /-- The latest open-load probe found an open load (R174). -/
  openLoad : Bool
  /-- Result of the freewheel probe, CH_STATE.FW (R169). -/
  fw : Fin 4
  /-- The inrush window is open (R167). -/
  inrush : Bool
  /-- Parallel-group imbalance (R177). -/
  imbalance : Bool
  /-- Reverse current (R175). -/
  reverse : Bool
  /-- RETRIES_USED (R167). -/
  used : Nat
  /-- First-turn-on probe done (R173). -/
  probed : Bool
  /-- CH_FAULT: LATCH_CAUSE and the sticky bits (R219, R224). -/
  fault : Word
  /-- The probe in progress before a closing, and what the closing will follow. -/
  probe : Option (Probe × Src)
  /-- A PROBE command waits for the next ply (R174). -/
  probeReq : Bool
  /-- CH_RETRY as it stood when the inrush window opened (R168). -/
  winRetry : Word
  /-- Count of the overcurrent filter (R203). -/
  ocCount : Nat
  /-- The latest fine current sample or sense flag (R198). -/
  sample : Word
  /-- The current the protections took for that sample: the sample, or the coarse sense in its place (R198). -/
  current : Word
  /-- The active current limit was engaged since the previous sample of the group was evaluated (R203). -/
  limited : Bool
  /-- Sum of I² since the last wire-model update, in squared sample units (R205). -/
  sqSum : Nat
  /-- Number of samples in that sum. -/
  sqCount : Nat
  /-- Wire rise of node 1 over TILE_AMB, in units of 2⁻²⁰ K (R205). -/
  theta1 : Nat
  /-- Wire rise of node 2, in units of 2⁻²⁰ K (R205). -/
  theta2 : Nat
  /-- θ1 stood at or above 90 % of the margin at the last look (R207). -/
  warned : Bool
  /-- Temperature-difference latch (R210). -/
  dt : Bool
  /-- Junction limit (R211). -/
  junction : Bool
  /-- Permanent latch after a sensor failure (R213). -/
  sensorFail : Bool
  /-- An OFF_TIME that began at a trip still runs while the channel is COOLING (R212). -/
  waitOff : Bool
  /-- Consecutive plies above the back-feed threshold (R171). -/
  bfHigh : Nat
  /-- Consecutive plies below the threshold less 0.5 V (R171). -/
  bfLow : Nat
  /-- Consecutive samples on the other side of the reverse threshold from REVERSE (R175). -/
  revRun : Nat
  /-- The windows of arc detection that were not discarded, newest first, at most 8 (R214). -/
  arcWindows : List Bool
  /-- The present arc window held a flagged sample, or a time with the inrush window open (R214). -/
  arcSpoilt : Bool
  /-- The switch closed or opened in the present arc window (R214). -/
  switched : Bool
  /-- The latest opening, for causes of the same cycle (R199, R200). -/
  cut : Option Cut
  /-- Time of the latest opening, a freewheel pulse included (R242). -/
  openedAt : Option Nat
  /-- Time at which OFF ended a freewheel probe, whose result may act in the same cycle (R200). -/
  probeOff : Option Nat
deriving DecidableEq, Repr

/-- A channel after a tile reset (R60, R187, R224). -/
def Chan.reset : Chan :=
  { state := .off, src := .lane, sw := false, backfed := false, openLoad := false, fw := 0, inrush := false,
    imbalance := false, reverse := false, used := 0, probed := false, fault := 0, probe := none, probeReq := false,
    winRetry := 0x01432, ocCount := 0, sample := 0, current := 0, limited := false, sqSum := 0, sqCount := 0, theta1 := 0, theta2 := 0, warned := false,
    dt := false, junction := false, sensorFail := false, waitOff := false, bfHigh := 0, bfLow := 0, revRun := 0,
    arcWindows := [], arcSpoilt := false, switched := false, cut := none, openedAt := none, probeOff := none }

/-- The lifetime counters of one channel, held by both lanes (R221). -/
structure Life where
  trips : Nat
  thermal : Nat
  latches : Nat
  cyc : Nat
  /-- Time with the switch closed, in units of 40 µs samples (R221 counts seconds with the remainder carried). -/
  onSamples : Nat
  /-- Energy at the output in units of one sample's current unit × 100 µV × 40 µs (R221). -/
  energy : Nat
deriving DecidableEq, Repr

/-- The lifetime counters of a module as delivered (R221). -/
def Life.zero : Life := ⟨0, 0, 0, 0, 0, 0⟩

/-- A VLOG input as its monitors see it (R56, R75). -/
structure VlogIn where
  ok : Bool
  red : Bool
deriving DecidableEq, Repr

/-- A power feed as its monitors see it (R56, R75). -/
structure VpwrIn where
  ok : Bool
  low : Bool
deriving DecidableEq, Repr

/-- The feed and supply unit and the rails that the lanes share (R46 to R59, R75). -/
structure Supply where
  vlogA : VlogIn
  vlogB : VlogIn
  vpwrA : VpwrIn
  vpwrB : VpwrIn
  /-- Reduced function (R47). -/
  reduced : Bool
  /-- Power-fail has been raised and the hold-up runs (R57). -/
  powerFail : Bool
  fabAna : Bool
  /-- Samples are valid: FAB-ANA has been good for 400 µs (R54). -/
  fabValid : Bool
  tilesOk : Bool
  /-- Tiles that a brown-out of their rail reset, and that have not been claimed since (R56, R75). -/
  tileLow : List Nat
  /-- The AO rail is good. -/
  aoOk : Bool
  /-- The AO regulator is in low-power mode. -/
  aoLp : Bool
  lpbo : Bool
  /-- DBG_EN is active (R35). -/
  dbgEn : Bool
deriving DecidableEq, Repr

/-- No supply: nothing has been applied to the module. -/
def Supply.reset : Supply :=
  { vlogA := ⟨false, false⟩, vlogB := ⟨false, false⟩, vpwrA := ⟨false, false⟩, vpwrB := ⟨false, false⟩, reduced := false,
    powerFail := false, fabAna := false, fabValid := false, tilesOk := false, tileLow := [], aoOk := false, aoLp := false, lpbo := false,
    dbgEn := false }

/-- The roles of a lane (R77). -/
inductive Role where
  | active | standby | joining | out
deriving DecidableEq, Repr

/-- How far a lane has come in its start (R65, R478). -/
inductive Boot where
  /-- Held in reset or unpowered. -/
  | held
  /-- Boot code runs (M6). -/
  | code
  /-- An image is verified and firmware runs (M9). -/
  | image
  /-- The configuration is applied (M10). -/
  | config
  /-- It waits at M11 for the other lane. -/
  | waiting
  /-- Its start is over: it has a role. -/
  | started
  /-- It stays in boot code: no image is valid (R70). -/
  | stuck
deriving DecidableEq, Repr

/-- A request parked at an arbiter (R140). -/
structure BoardReq where
  master : Nat
  age : Nat
  lock : LockFlag
  wr : Bool
  /-- The address and word of a write that the grant itself makes: that of REGISTER_WRITE (R142). -/
  put : Option (Nat × Word)
deriving DecidableEq, Repr

/-- The lock of one target (R142 to R149). -/
structure TargetLock where
  owner : Option Nat
  abandoned : Bool
  abandonedId : Nat
  recovering : Bool
  /-- The owner has written at the target under this lock: there is something to undo (R144). -/
  wrote : Bool
deriving DecidableEq, Repr

/-- An unlocked target. -/
def TargetLock.reset : TargetLock := ⟨none, false, 0, false, false⟩

/-- The counters of one target and master (R145). -/
structure ArbCounters where
  grants : Nat
  waits : Nat
  longest : Nat
deriving DecidableEq, Repr

/-- Counters at a lane reset. -/
def ArbCounters.reset : ArbCounters := ⟨0, 0, 0⟩

/-- What a grant at the cycle of its presentation took the place of: another request of that cycle may come before it in the
arbiter's scan, and the grant is then undone (R140). -/
structure AtOnce where
  req : BoardReq
  pointer : Nat
  busyUntil : Nat
  lock : TargetLock
  counter : ArbCounters
deriving DecidableEq, Repr

/-- One arbiter (R140). -/
structure Arb where
  pointer : Nat
  queue : List BoardReq
  /-- Cycle at which the access in progress completes. -/
  busyUntil : Nat
  /-- The latest grant, where it was made at once to a request that carries its cycle. -/
  atOnce : Option AtOnce
deriving DecidableEq, Repr

/-- An arbiter at lane reset. -/
def Arb.reset : Arb := ⟨0, [], 0, none⟩

/-- One image in an NVM area (R515). -/
structure Image where
  /-- The identity: the fields and digest of its header as one number, the digest from bit 56 on. -/
  ident : Nat
  formatHi : Nat
  formatLo : Nat
  confirmed : Bool
deriving DecidableEq, Repr

/-- The three roles of the areas of one kind (R514). -/
structure Areas where
  active : Option Image
  staging : Option Image
  fallback : Option Image
deriving DecidableEq, Repr

/-- A lane's NVM (R514, R67, R222). DESIGN CHOICE, assumption log 69. -/
structure Nvm where
  fw : Areas
  cfg : Areas
  epoch : Nat
  /-- Words of the latest power-fail image, by channel (R222). -/
  failImage : List (Nat × Word)
  /-- The lifetime counters as last journalled (R222). -/
  life : List (Nat × Life)
  /-- Programs and erasures made (R469, R478). -/
  programs : Nat
deriving DecidableEq, Repr

/-- A module as delivered: one confirmed image of each kind in each lane. DESIGN CHOICE, assumption log 8. -/
def Nvm.delivered : Nvm :=
  { fw := ⟨some ⟨1, 1, 1, true⟩, none, none⟩, cfg := ⟨some ⟨1, 0, 0, true⟩, none, none⟩, epoch := 0, failImage := [],
    life := [], programs := 0 }

/-- A session (R417 to R419, R441). -/
structure Session where
  pending : Bool
  secure : Bool
  handle : Nat
  keyIdx : Nat
  nh : Nat
  nd : Nat
  /-- K_REQ and K_REP of a secure session (R417). -/
  keyReq : Nat
  keyRep : Nat
  high : Nat
  /-- REQ_IDs executed from HIGH − 63 to HIGH (R419). -/
  executed : List Nat
  /-- Cached single-frame replies of the last 16 executed requests that have one, newest first (R419). -/
  cache : List (Nat × Frame)
  /-- Time of the last executed request. -/
  lastExec : Nat
deriving DecidableEq, Repr

/-- What belongs to one lane and may differ between the lanes. DESIGN CHOICE, assumption log 9. -/
structure LaneSt where
  role : Role
  /-- Its claims have been superseded, and it has not withdrawn yet (R102). -/
  stale : Bool
  boot : Boot
  coreOk : Bool
  ioOk : Bool
  anaOk : Bool
  pll : Bool
  clk250 : Bool
  /-- Image running: 0 ACTIVE, 1 FALLBACK (R73). -/
  slot : Nat
  imgFail : Bool
  cfgDefault : Bool
  /-- The start-lane setting of its configuration image: Black (R69). -/
  startBlack : Bool
  imageId : Nat
  cfgDigest : Nat
  /-- The configuration image that it applied at mark M10 of its latest start. -/
  cfgImage : Option ConfigImage
  /-- PWR_RESET_CAUSE, held in the AO domain (R72). -/
  resetCause : Word
  /-- PWR_START_STATUS but for LANE_ID (R73). -/
  startStatus : Word
  /-- It restarted after a lane reset, so that START_MS counts from its release (R73). -/
  restarted : Bool
  /-- JOIN_STAGE and PROBATION (R109, R115). -/
  joinStage : Nat
  probation : Nat
  /-- Abandoned transfers in a row (R111). -/
  joinTries : Nat
  /-- Ply number S of the cut-over (R109). -/
  cutOver : Option Nat
  /-- The ply of the latest cut-over, up to which the lane holds no stream record (R260). -/
  streamFrom : Nat
  /-- It joins only after a module reset or JOIN_EN 0 then 1 (R111). -/
  barred : Bool
  /-- It withdrew for its command link, and has not passed the start check of its links since (R112). -/
  linkBad : Bool
  isolated : Bool
  maxB : Nat
  late : Nat
  xaErr : Nat
  xbErr : Nat
  /-- The host link of its port is up, as master; losses since lane reset (R437). -/
  linkUp : Bool
  linkLosses : Nat
  /-- When the latest loss of its link was numbered (R106). -/
  lostAt : Option Nat
  /-- The configuration registers of its own port, by Board address (R407, R437, R438). -/
  portRegs : List (Nat × Word)
  /-- HOST_RX_OK to HOST_TX_CARRIED (R439). -/
  portCounts : List (Nat × Nat)
  /-- Packets waiting in the engine's buffer (R416). -/
  rxBuf : List Packet
  /-- Packets that the engine presented in the present ply (R416). -/
  rxPly : Nat
  /-- Reply frames queued for its port (R421). -/
  txq : List Frame
  /-- Frames transmitted on its port in the last plies, newest last (R106). -/
  sent : List Frame
  /-- ARP replies that its port sent in the last plies, newest last (R406). -/
  arps : List ArpReply
  /-- Sessions of its recovery service, and the next handle there (R526). -/
  recSessions : List (Nat × Session)
  recNext : Nat
  arbs : List (Nat × Arb)
  locks : List (Nat × TargetLock)
  counters : List (Nat × ArbCounters)
  /-- Latched ARB words by master (R148). -/
  arbLatch : List (Nat × List Word)
  /-- Latched SCO_TIME words by master (R121). -/
  timeLatch : List (Nat × List Word)
  streamMem : List (Nat × Word)
  /-- The counters at the latest journal write, and the power-fail image since (R222). -/
  lifeJournal : List (Nat × Life)
  image : List (Nat × Word)
  nvm : Nvm
deriving DecidableEq, Repr

/-- A lane as lane logic leaves it in reset; what the AO domain and NVM hold is given. -/
def LaneSt.reset (cause : Word) (nvm : Nvm) : LaneSt :=
  { role := .out, stale := false, boot := .held, coreOk := false, ioOk := false, anaOk := false, pll := false, clk250 := false, slot := 0,
    imgFail := false, cfgDefault := false, startBlack := false, imageId := 0, cfgDigest := 0, cfgImage := none, resetCause := cause,
    startStatus := 0x00200, restarted := false, joinStage := 0, probation := 0, joinTries := 0, cutOver := none, streamFrom := 0, barred := false, linkBad := false, isolated := false, maxB := 0,
    late := 0, xaErr := 0, xbErr := 0, linkUp := false, linkLosses := 0, lostAt := none, portRegs := [], portCounts := [], rxBuf := [],
    rxPly := 0, txq := [], sent := [], arps := [], recSessions := [], recNext := 1, arbs := [], locks := [], counters := [], arbLatch := [], timeLatch := [],
    streamMem := [], lifeJournal := nvm.life, image := [], nvm := nvm }

/-- A lane computes plies: it is active, standby, or joining after its cut-over (R77, R109). -/
def LaneSt.inStep (g : LaneSt) : Bool :=
  !g.stale && (g.role = .active || g.role = .standby || (g.role = .joining && decide (5 ≤ g.joinStage)))

/-- What the lanes share of their roles, and what the feed of one to the other shows (R96 to R118). -/
structure Lanes where
  xa : Bool
  xb : Bool
  divLock : Bool
  joinEn : Bool
  /-- LANE_CTL.WDT (R116). -/
  wdt : Nat
  promotions : Nat
  castlings : Nat
  diverges : Nat
  /-- Times of the divergences of the last 60 minutes, newest first (R98). -/
  divTimes : List Nat
  /-- LANE_PROMO_PLY (R117). -/
  promoPly : Nat
  /-- A castling request of ply k, of the host or of lane firmware, and k (R107). -/
  castle : Option (Option CastleReq × Nat)
  /-- The handover of the castling has been sent. -/
  handed : Bool
  /-- A transfer that was abandoned waits for its retry (R111). -/
  retry : Bool
  /-- The active lane whose command link to a target has failed: it withdraws at the end of phase C (R91). -/
  linkFailed : Option Lane
  /-- Lane-reset commands that take effect at the end of phase E, in order (R430). -/
  resetReq : List Lane
  /-- The lane that takes the next first active ply, decided at M11 or by R100 and R103. -/
  start : Option Lane
  /-- That start proceeds without the other lane (R70). -/
  solo : Bool
  /-- The failed active lane's port queue, which the promoting lane takes over (R101). -/
  orphans : List Frame
  /-- A promotion whose first emitted ply is not known yet: the failed lane and the cause code (R101). -/
  promo : Option (Lane × Nat)
  /-- Members of redundant pairs on which the lanes hold a BACKFED alarm (R180). -/
  pairAlarms : List Nat
  /-- KIND and PARTNER of CH_GROUP as the configuration image set them, by channel (R192, R557). -/
  groups : List (Nat × Word)
  /-- When the ply began whose release message was the last one (R352). -/
  released : Option Nat
deriving DecidableEq, Repr

/-- The lanes after a module reset. -/
def Lanes.reset : Lanes :=
  { xa := false, xb := false, divLock := false, joinEn := true, wdt := 2, promotions := 0, castlings := 0, diverges := 0,
    divTimes := [], promoPly := 0, castle := none, handed := false, retry := false, linkFailed := none, resetReq := [],
    start := none, solo := false, orphans := [], promo := none, pairAlarms := [], groups := [], released := none }

/-- The reference check of one multiplexed converter (R242). -/
structure Mux where
  fault : Bool
  /-- Consecutive good reference pairs since the fault. -/
  good : Nat
deriving DecidableEq, Repr

/-- The measurement fabric (R234 to R244). -/
structure Fabric where
  /-- The calibration store failed its check (R241). -/
  calFail : Bool
  /-- Converters V0 to V23 by number. -/
  mux : List (Nat × Mux)
  /-- Channels whose modulator carries MOD_FAULT (R242). -/
  modFaults : List Nat
  /-- Offset corrections of the modulators, by channel (R242). -/
  modOffset : List (Nat × Int)
  /-- Channels with the time of the latest update of their offset (R242). -/
  modLast : List (Nat × Nat)
  /-- Frame count of the latest block that the lanes processed (R244). -/
  lastFrame : Option Nat
  /-- Boundary of the ply of the latest block that was presented (R243). -/
  sentAt : Nat
  /-- Instant of the last sample of the latest missing frame (R244, R256). -/
  gapAt : Option Nat
  /-- Records that the lanes make from the next block. -/
  recs : List RecDraft
deriving DecidableEq, Repr

/-- An accepted write to a measurement register, which takes effect at the next phase A (R235). -/
structure MeasWrite where
  master : Nat
  addr : Nat
  value : Word
  /-- It writes MODE = 01b to a signature slot (R253). -/
  learn : Bool
deriving DecidableEq, Repr

/-- Runs and history of one comparator (R248). -/
structure Comp where
  hiRun : Nat
  loRun : Nat
  /-- The last seven valid samples, newest first. -/
  hist : List Word
  /-- The previous difference was at or above ROC. -/
  wasUp : Bool
  /-- The previous difference was at or below −ROC. -/
  wasDown : Bool
deriving DecidableEq, Repr

/-- A comparator at reset (R249). -/
def Comp.reset : Comp := ⟨0, 0, [], false, false⟩

/-- A signature run in progress (R252). -/
structure SigRun where
  /-- Time of the start of turn-on, in ticks. -/
  start : Nat
  /-- Samples taken since the first point. -/
  taken : Nat
  /-- Values of the points so far, newest first. -/
  points : List Word
  /-- Words of the envelope as they stood before writes of MODE 10b during the run (R256). -/
  old : List (Nat × Word)
deriving DecidableEq, Repr

/-- One signature slot (R251 to R256). -/
structure SigSlot where
  run : Option SigRun
  /-- The run is to be discarded, for this reason of R256, when the slot's next events are posted (R250, R265). -/
  drop : Option Nat
  /-- Current samples of the last four blocks with their instants, oldest first. -/
  held : List (Nat × Word)
deriving DecidableEq, Repr

/-- A slot at reset. -/
def SigSlot.reset : SigSlot := ⟨none, none, []⟩

/-- One record held in a stream's ring (R257, R259). -/
structure StreamRec where
  off : Nat
  len : Nat
  hdr : Word
  seq : Nat
deriving DecidableEq, Repr

/-- One stream beside its registers (R257, R259). -/
structure Stream where
  held : List StreamRec
  /-- Samples of each selected signal since EN was set, by signal. -/
  counts : List (Nat × Nat)
deriving DecidableEq, Repr

/-- A stream at reset. -/
def Stream.reset : Stream := ⟨[], []⟩

/-- One DMA engine beside its descriptor registers (R261, R262). -/
structure Dma where
  /-- The master that last wrote SRC, DST, CNT and STRIDE. -/
  writers : List (Nat × Nat)
  busy : Bool
  done : Bool
  err : Bool
  moved : Nat
  /-- The running transfer has the secure attribute. -/
  secure : Bool
  /-- DONE, ERR and MOVED that phase A will show (R262). -/
  ended : Option (Bool × Bool × Nat)
  /-- ABORT stops the running transfer after this many words (R261). -/
  limit : Option Nat
  /-- Words that the running transfer has moved. -/
  at_ : Nat
deriving DecidableEq, Repr

/-- A DMA engine at reset (R271). -/
def Dma.reset : Dma := ⟨[], false, false, false, 0, false, none, none, 0⟩

/-- What the lanes keep of one digital input beside its registers (R276). -/
structure Din where
  /-- The level, none while it is unknown. -/
  level : Option Bool
  run : Nat
  bandRun : Nat
deriving DecidableEq, Repr

/-- A digital input at every start (R276). -/
def Din.reset : Din := ⟨none, 0, 0⟩

/-- A field output in the unit (R279 to R298). -/
structure Dout where
  state : ChState
  /-- The driver is closed, or would be but for a missing group supply (R281). -/
  want : Bool
  backfed : Bool
  /-- Thermal shutdown is set. -/
  thermal : Bool
  /-- FIO_DO_FAULT as the unit keeps it (R298). -/
  fault : Word
  /-- Times of the entries into COOLING, newest first (R279). -/
  cools : List Nat
  bfHigh : Nat
  bfLow : Nat
  /-- LIMIT of FIO_DO_STATE: in current limit at the last report (R296). -/
  lim : Bool
  /-- Time at which a command, a trip or the timeout last opened the driver (R280). -/
  opened : Option Nat
deriving DecidableEq, Repr

/-- A field output after a module reset (R279). -/
def Dout.reset : Dout := ⟨.off, false, false, false, 0, [], 0, 0, false, none⟩

/-- What the lanes keep of one field output's current samples (R288, R289). -/
structure DoutRuns where
  reverse : Nat
  openLoad : Nat
deriving DecidableEq, Repr

/-- No run in progress. -/
def DoutRuns.reset : DoutRuns := ⟨0, 0⟩

/-- A fade in progress (R306). -/
structure Fade where
  startV : List Nat
  endV : List Nat
  /-- Length in periods or frames, N of R306. -/
  n : Nat
  /-- Periods or frames since GO. -/
  p : Nat
  /-- The curve is perceptual (R307). -/
  curve : Bool
deriving DecidableEq, Repr

/-- An LED string in the lighting unit (R301 to R311). -/
structure Str where
  state : ChState
  /-- The converter runs, or would but for a missing feed (R302, R309). -/
  run : Bool
  thermal : Bool
  /-- LGT_STR_FAULT as the unit keeps it (R326). -/
  fault : Word
  openLeds : BitVec 16
  shortedLeds : BitVec 16
  /-- Present values: DUTY, then LVL of LEDs 0 to 15 (R306). -/
  vals : List Nat
  fade : Option Fade
  /-- The safe values of R318 are taken at the next period start. -/
  safePend : Bool
  /-- LGT_STR_CFG and LGT_STR_CUR as they took effect at the last period start (R299). -/
  cfg : Word
  cur : Word
  /-- The converter is in its on-time. -/
  lit : Bool
  /-- On-time of the present period in ticks of 25 ns (R304). -/
  ton : Nat
  /-- Bypass switches that are closed (R305). -/
  bypass : BitVec 16
  /-- Tick of the last bypass closing of the period (R305). -/
  lastClose : Option Nat
  /-- Consecutive periods of each LED on the other side of the shorted threshold from its bit (R311). -/
  shortRuns : List (Nat × Nat)
  /-- The current was in regulation at the last period (R324). -/
  reg : Bool
  cools : List Nat
  /-- Time at which a command or a trip last stopped the converter (R309). -/
  stopped : Option Nat
  /-- It was ON when the unit fell silent (R320). -/
  wasOn : Bool
deriving DecidableEq, Repr

/-- A string after a module reset. -/
def Str.reset : Str :=
  { state := .off, run := false, thermal := false, fault := 0, openLeds := 0, shortedLeds := 0,
    vals := List.replicate 17 0, fade := none, safePend := false, cfg := 0x008C4, cur := 0x000C8, lit := false, ton := 0,
    bypass := 0, lastClose := none, shortRuns := [], reg := false, cools := [], stopped := none, wasOn := false }

/-- A signalling matrix in the lighting unit (R312 to R316). -/
structure Mx where
  state : ChState
  run : Bool
  thermal : Bool
  fault : Word
  swapPend : Bool
  /-- The front buffer, by pixel 48l + c. -/
  front : List (Nat × Word)
  /-- Present master level. -/
  master : Nat
  fade : Option Fade
  /-- LGT_MX_CFG as it took effect at the last frame start (R299). -/
  cfg : Word
  /-- The line driven in the present slot, and the next one. -/
  line : Nat
  nextLine : Nat
  /-- Sink times of the 48 columns in the present slot, in ticks (R314). -/
  sinks : List Nat
  /-- Consecutive frames in which a column read below 0.5 V at K2 (R316). -/
  shortRuns : List (Nat × Nat)
  cools : List Nat
  /-- Time at which a command or a trip last stopped it (R309). -/
  stopped : Option Nat
  /-- It was ON when the unit fell silent (R320). -/
  wasOn : Bool
deriving DecidableEq, Repr

/-- A matrix after a module reset. -/
def Mx.reset : Mx :=
  { state := .off, run := false, thermal := false, fault := 0, swapPend := false, front := [], master := 0,
    fade := none, cfg := 0x21250, line := 0, nextLine := 0, sinks := [], shortRuns := [],
    cools := [], stopped := none, wasOn := false }

/-- What an access round has of one token index (R340, R341). -/
inductive Heard where
  | valid | invalid | collided
deriving DecidableEq, Repr

/-- One answer, or one collided index, of a round (R340 to R343). -/
structure Answer where
  idx : Nat
  heard : Heard
  /-- The index enrolled with the ID that the reply named; none where it named no enrolled ID (R353). -/
  named : Option Nat
  /-- Smallest range in cm with its port. -/
  range : Option (Nat × Nat)
  /-- Smallest range in cm over the ports with INTERIOR = 1 (R350). -/
  interior : Option Nat
  retry : Bool
deriving DecidableEq, Repr

/-- An access round in progress (R340). -/
structure Round where
  /-- 0 command, 1 presence, 2 touch, 3 door check (R353). -/
  trigger : Nat
  handle : Nat
  ant : Nat
  /-- The challenge N. -/
  challenge : Nat
  answers : List Answer
  /-- The retry telegram has been sent; its mask of indices. -/
  retry : Option Nat
  /-- The index whose enrolment the round tests (R344). -/
  test : Option Nat
deriving DecidableEq, Repr

/-- An enrolled token beside its register (R344). -/
structure Token where
  id : Nat
  key : Nat
deriving DecidableEq, Repr

/-- One park record: the two words of its first answer and the real-time counter at the round (R338, R353). -/
structure ParkRec where
  w0 : Word
  w1 : Word
  rtc : Nat
deriving DecidableEq, Repr

/-- A capacitive handle (R334). -/
structure Handle where
  /-- Consecutive scans above the baseline by THR. -/
  run : Nat
  touched : Bool
deriving DecidableEq, Repr

/-- A handle with no touch. -/
def Handle.reset : Handle := ⟨0, false⟩

/-- The access unit and the park-time scheduler (R328 to R348). -/
structure Access where
  round : Option Round
  /-- A touch that arrived during a round (R337). -/
  kept : Option Nat
  /-- A door check is in progress (R348). -/
  doorCheck : Bool
  /-- A test round that was commanded while a round ran: the index and the antennas (R344). -/
  test : Option (Nat × Nat)
  sessOpen : Bool
  sessToken : Nat
  sessCause : Nat
  /-- Time of the latest grant or renewal. -/
  sessTime : Nat
  /-- Time at which the session token was last ranged inside (R350). -/
  insideAt : Option Nat
  tokens : List (Nat × Token)
  /-- The AO key latch: index, ID, rights and key of the enrolled, unrevoked tokens (R345). -/
  latch : List (Nat × Token × Nat)
  records : List ParkRec
  lostRecs : Nat
  /-- Tokens held off, with the consecutive polls from which they were absent (R338). -/
  heldOff : List (Nat × Nat)
  /-- Tokens whose presence frame answered the latest poll. -/
  present : List Nat
  /-- A poll has been made since the entry into PARKED (R338). -/
  polled : Bool
  /-- Doublings of the poll period made since entry into PARKED (R336). -/
  doublings : Nat
  handles : List (Nat × Handle)
  /-- Token, range in cm, trigger and handle of the grant that caused the latest wake (R346). -/
  wakeGrant : Option (Nat × Nat × Nat × Nat)
  /-- When the token of that grant was ranged inside by its round (R350). -/
  wakeInside : Option Nat
  /-- The result of that round, as entries of KIND 5h (R338). -/
  wakeResult : List Entry
  /-- Peak current of the latest antenna drive, in steps of 50 mA (R330). -/
  drive : Nat
deriving DecidableEq, Repr

/-- The access unit after AO power-on. -/
def Access.reset : Access :=
  { round := none, kept := none, doorCheck := false, test := none, sessOpen := false, sessToken := 0, sessCause := 0, sessTime := 0,
    insideAt := none, tokens := [], latch := [], records := [], lostRecs := 0, heldOff := [], present := [],
    polled := false, doublings := 0, handles := [], wakeGrant := none, wakeInside := none, wakeResult := [], drive := 0 }

/-- The states of the drive-enable generator (R351, R359). -/
inductive DenState where
  | stopped | running | fault
deriving DecidableEq, Repr

/-- The drive-enable generator (R349 to R351). -/
structure Den where
  state : DenState
  lastStop : Nat
  /-- A stop waits for the end of the present half-period, with its cause. -/
  stopPend : Option Nat
  driveP : Bool
  driveN : Bool
  /-- The levels of DEN_P and DEN_N driven in turn since the half-period before: both low at the changeover, then one high
  (R349). -/
  wave : List (Bool × Bool)
  fbP : Bool
  fbN : Bool
  /-- A readback of the present period differed. -/
  bad : Bool
  /-- Consecutive periods with a differing readback. -/
  badRun : Nat
deriving DecidableEq, Repr

/-- The generator after a module reset (R45, R359). -/
def Den.reset : Den := ⟨.stopped, 0, none, false, false, [], false, false, false, 0⟩

/-- A frame in an event queue (R376, R377). -/
structure Queued where
  tag : Nat
  frame : List Word
deriving DecidableEq, Repr

/-- What a schedule window or slot is doing (R387, R390). -/
inductive Window where
  | idle
  /-- An exclusive transmission of an object, sent or not. -/
  | send (obj : Nat) (sent : Bool)
  /-- An exclusive reception by a filter, received or not. -/
  | expect (flt : Nat) (got : Bool)
  /-- The event queue may send. -/
  | arbitrate
  /-- The reference window. -/
  | reference
deriving DecidableEq, Repr

/-- One bus beside its registers (R360 to R405). -/
structure Bus where
  /-- The transmitting controller (R362). -/
  tx : Lane
  moved : Bool
  /-- The controller's state: for CAN 0 error-active, 1 error-passive, 2 bus-off, 3 stopped; for LIN 0 running, 1 sleep,
  2 stopped; for 10BASE-T1S 1 while beacons are sent. -/
  state : Nat
  suspended : Bool
  domTo : Bool
  /-- TEC, REC and LEC of CAN_ERR (R400). -/
  tec : Nat
  recCount : Nat
  lec : Nat
  busOffs : Nat
  /-- Times of the bus-offs within 10 s, newest first (R383). -/
  offTimes : List Nat
  /-- The bus-off return has been started (R383), or a LIN restart follows a wake-up pulse (R392). -/
  returning : Bool
  /-- The counters of RC fields hold what the controller has counted since it last showed them (R400 to R405). -/
  rxDrop : Nat
  mismatch : Nat
  /-- The event queue, in the order queued (R377). -/
  queue : List Queued
  /-- The queued frame that is on the bus, by TAG. -/
  sending : Option Nat
  /-- The master whose frame is partly written: its BUSQ_TXREQ awaits a BUSQ_TXBUF (R144). -/
  part : Option Nat
  /-- Transmit objects that have been updated, by number (R378). -/
  objects : List (Nat × List Word)
  /-- Objects updated since they were last sent (R392). -/
  fresh : List Nat
  /-- Owned receive slots with the address of their input record (R381). -/
  slots : List (Nat × Word)
  overrun : Nat
  /-- Captured filters for the host (R436). -/
  tap : Nat
  /-- The controller's buses are quiesced for an entry (R467). -/
  quiet : Bool
  /-- The entry has been abandoned: the quiet ends at the next basic cycle start (R467). -/
  quietEnd : Bool
  -- Time-triggered operation (R384 to R389)
  cycle : Nat
  col : Nat
  window : Window
  /-- The content of the object that the open window or slot sends, taken at its start (R378). -/
  taken : List Word
  sync : Bool
  master : Bool
  /-- Consecutive reference messages received, up to 2. -/
  refs : Nat
  /-- Since a return from bus-off no reference message has come (R383). -/
  waitRef : Bool
  missed : Nat
  /-- The global time in the last reference message sent as master, in network time units (R384). -/
  refTime : Nat
  /-- Writes to the channel's own cells, by address, that wait for a cycle start (R385). -/
  cells : List (Nat × Word)
  -- LIN (R390 to R393)
  table : Nat
  entry : Nat
  /-- The tables that collision-resolution tables have interrupted, the latest first, each with the entry at which it resumes
  (R392). -/
  resume : List (Nat × Nat)
  sleepReq : Bool
  noResp : Nat
  bad : Nat
  -- 10BASE-T1S (R394 to R396)
  fcsErr : Nat
  present : BitVec 8
  lost : BitVec 8
  collSeen : BitVec 8
  /-- The controller that does not transmit is marked faulted and has not passed a start check since (R365). -/
  faulty : Bool
deriving DecidableEq, Repr

/-- A bus at a module reset; `st` is its stopped state. -/
def Bus.reset (st : Nat) : Bus :=
  { tx := .white, moved := false, state := st, suspended := false, domTo := false, tec := 0, recCount := 0, lec := 0,
    busOffs := 0, offTimes := [], returning := false, rxDrop := 0, mismatch := 0, queue := [], sending := none, part := none,
    objects := [], fresh := [], slots := [], overrun := 0, tap := 0, quiet := false, quietEnd := false, cycle := 0, col := 0, window := .idle, taken := [],
    sync := false, master := false, refs := 0, waitRef := false, missed := 0, refTime := 0, cells := [], table := 0, entry := 0,
    resume := [], sleepReq := false, noResp := 0, bad := 0, fcsErr := 0, present := 0, lost := 0, collSeen := 0, faulty := false }

/-- Where the engine finds words of a reply that returns records: a record of a stream, or a word of Board SRAM (R420). -/
inductive LateSrc where
  | stream (x : Nat) (r : StreamRec)
  | sram (addr : Nat)
deriving DecidableEq, Repr

/-- A reply whose records the engine copies once phase B has ended: the number of its request, the port, the words before
the records, and the records (R420). -/
structure LateReply where
  seq : Nat
  port : Lane
  head : List Word
  srcs : List LateSrc
deriving DecidableEq, Repr

/-- The Shaeve engine's state that both lanes hold alike (R406 to R441). -/
structure HostSt where
  sessions : List (Nat × Session)
  nextHandle : Nat
  /-- Requests carried to the next host step, with their numbers (R420). -/
  carried : List (Packet × Nat × Nat)
  /-- A module reset was requested on a port; no further request is executed (R430). -/
  resetPort : Option Lane
  /-- The capture ring: captured input records by number, oldest first (R436). -/
  captures : List (Nat × List Word)
  /-- A captured record has been overwritten up to this number. -/
  captureLost : Nat
  /-- Where the next captured record goes in the ring. -/
  captureEnd : Nat
  /-- Requests of the host step that wait at a locked target, in order (R143). -/
  stalled : List (Packet × Nat × Nat)
  /-- Frames made in the present ply, to release in phase E. -/
  made : List Frame
  /-- Replies to castling requests that are owed: the request, the status, and the ply that executed it (R107, R108). -/
  owed : List (CastleReq × Nat × Nat)
  /-- The records that the reply in work returns, and the replies of the ply whose records are to be copied (R420). -/
  lateNow : List LateSrc
  late : List LateReply
deriving DecidableEq, Repr

/-- No session. -/
def HostSt.reset : HostSt :=
  { sessions := [], nextHandle := 1, carried := [], resetPort := none, captures := [], captureLost := 0, captureEnd := 0,
    stalled := [], made := [], owed := [], lateNow := [], late := [] }

/-- One mailbox channel (R442 to R461). -/
structure Mbx where
  queue : List (List Word)
  head : Nat
  wait : Bool
  full : Bool
  aborted : Bool
  stalemate : Bool
  discarded : Nat
  orphans : Nat
  db : Bool
  /-- Messages at the front of the queue that a sender posted before it was reset (R450). -/
  former : Nat
  /-- Consecutive evaluations in mutual wait with a higher channel of a pair, by that channel (R452). -/
  mwait : List (Nat × Nat)
deriving DecidableEq, Repr

/-- An empty channel. -/
def Mbx.reset : Mbx :=
  { queue := [], head := 0, wait := false, full := false, aborted := false, stalemate := false, discarded := 0, orphans := 0,
    db := false, former := 0, mwait := [] }

/-- What else a ply does to a mailbox channel, for the next phase A: WAIT, the W1C bits of MBX_SSTAT, DB, and orphans that a read
has returned (R446, R458 to R460). -/
inductive MbxLater where
  | wait (on : Bool)
  | sstat (v : Word)
  | db
  | orphans (n : Nat)
deriving DecidableEq, Repr

/-- The mailbox unit (R442 to R462). -/
structure Mailboxes where
  chans : List (Nat × Mbx)
  /-- Posts, acknowledgements and core resets of the present ply, in order (R446). -/
  posts : List (Nat × List Word)
  acks : List (Nat × Nat)
  /-- The further effects of the present ply, in order (R446). -/
  later : List (Nat × MbxLater)
  stalemates : Nat
  aborts : Nat
deriving DecidableEq, Repr

/-- The mailboxes after a module reset. -/
def Mailboxes.reset : Mailboxes := ⟨[], [], [], [], 0, 0⟩

/-- The power states (R463). -/
inductive PwrState where
  | run | idle | parked | deep | off
deriving DecidableEq, Repr

/-- The power manager and what the AO domain holds for it (R463 to R488). DESIGN CHOICE, assumption log 71. -/
structure Pwr where
  state : PwrState
  entering : Bool
  /-- TARGET of an entry: 0 PARKED, 1 DEEP, 2 OFF. -/
  target : Nat
  /-- POINT: the latest abort point (R467, R481). -/
  point : Nat
  wakePend : Bool
  /-- Cause that set WAKE_PEND first, Fh for a request. -/
  wakeBy : Nat
  /-- A request for RUN or IDLE during an entry (R465). -/
  upward : Option PwrState
  /-- The state that holds from the next ply boundary (R464). -/
  next : Option PwrState
  /-- The journal write of the entry has ended or 100 ms have passed (R467). -/
  journalDone : Bool
  /-- A1 is reached at the end of the present phase B; boundary of A2. -/
  a1Due : Bool
  a2At : Nat
  /-- The commit ply has been worked and the power-down follows (R468). -/
  committed : Bool
  /-- Channels that stay ON through the entry, as phase C of the commit ply began (R473). -/
  kept : List Nat
  /-- The commit ply is over: its notices are sent and the banks written (R468). -/
  parkDone : Bool
  /-- PWR_STATE.CLK: the lanes run at 250 MHz (R479). -/
  clk : Bool
  clkReq : Bool
  /-- The lock input has been processed after a wake (R479). -/
  locked : Bool
  aLvl : Bool
  bLvl : Bool
  /-- Ticks of the time bases of earlier starts (R78). -/
  elapsed : Nat
  /-- The AO real-time counter (R486). -/
  rtc : Nat
  /-- The counter at the entry. -/
  entryRtc : Nat
  parkMinutes : Nat
  /-- PWR_WAKE_STATUS (R484). -/
  wakeStatus : Word
  /-- A wake event latched by the AO before or during the power-down (R468). -/
  held : Option (Nat × Nat)
  autoDeep : Bool
  /-- The present start is a wake (R478). -/
  waking : Bool
  /-- The retention store by bank and word, and the banks that are valid (R469). -/
  retention : List (Nat × Word)
  banksOk : BitVec 8
  /-- The CRC-32 of each bank, held beside it (R469). -/
  crcs : List Nat
  /-- Bank 0: epoch and last agreed number, and the lane active at the commit (R469, R477). -/
  lastSeq : Nat
  lastActive : Lane
  /-- Program counts of NVM at the commit (R478). -/
  programs : Nat
  /-- Tiles in tile sleep (R474). -/
  sleeping : List Nat
deriving DecidableEq, Repr

/-- Before the first start: the module without its logic feeds is in OFF (R463). -/
def Pwr.reset : Pwr :=
  { state := .off, entering := false, target := 0, point := 0, wakePend := false, wakeBy := 0, upward := none, next := none,
    journalDone := false, a1Due := false, a2At := 0, committed := false, kept := [], parkDone := false,
    clk := false, clkReq := false, locked := false, aLvl := false, bLvl := false, elapsed := 0,
    rtc := 0, entryRtc := 0, parkMinutes := 0, wakeStatus := 0, held := none, autoDeep := false, waking := false,
    retention := [], banksOk := 0, crcs := [], lastSeq := 0, lastActive := .white, programs := 0, sleeping := [] }

/-- The states of a core (R511). -/
inductive CoreState where
  | running | stopped | sleeping | unloaded
deriving DecidableEq, Repr

/-- A load or store that waits for its grant (R140). -/
structure LsuWait where
  addr : Word
  wr : Bool
  lock : LockFlag
  data : Word
deriving DecidableEq, Repr

/-- A Kwask core, its ports, stacks, stores and registers (R489 to R513). -/
structure Kwask where
  state : CoreState
  /-- A local-program core (R489). -/
  localProg : Bool
  cause : Nat
  /-- FLAGS: C, V, DZ, SAT, ACC in bits 0 to 4 (R495). -/
  flags : Word
  /-- FLAGS at the end of the latest run (R511). -/
  lastFlags : Word
  g : List (Nat × Word)
  g0 : Bool
  g1 : Bool
  -- Operand ports
  aluO : Word
  shuO : Word
  mulO : Word
  divO : Word
  satO : Word
  lsuO : Word
  bruO : Word
  -- Result ports
  alu : Word
  shu : Word
  lo : Word
  hi : Word
  quo : Word
  rem : Word
  sat : Word
  data : Word
  /-- Cycle at which each unit's operation completes: ALU, SHU, MUL, DIV, SAT, LSU (R496). -/
  ready : List (Nat × Nat)
  /-- The data stack and the return stack, top first (R497). -/
  stack : List Word
  rstack : List Nat
  pc : Nat
  /-- Work cycles used in the ply (R502), and KW_USED, KW_USED_MAX (R513). -/
  used : Nat
  lastUsed : Nat
  usedMax : Nat
  stops : Nat
  resets : Nat
  /-- It has finished its work for the ply. -/
  done : Bool
  wait : Option LsuWait
  program : List (Nat × Word)
  localData : List (Nat × Word)
  /-- The KW_CTL bits written, which take effect at the next ply boundary (R510). -/
  ctl : Word
deriving DecidableEq, Repr

/-- A core after a module reset: unloaded, everything 0. -/
def Kwask.reset : Kwask :=
  { state := .unloaded, localProg := false, cause := 0, flags := 0, lastFlags := 0, g := [], g0 := false, g1 := false,
    aluO := 0, shuO := 0, mulO := 0, divO := 0, satO := 0, lsuO := 0, bruO := 0, alu := 0, shu := 0, lo := 0, hi := 0,
    quo := 0, rem := 0, sat := 0, data := 0, ready := [], stack := [], rstack := [], pc := 0, used := 0, lastUsed := 0,
    usedMax := 0, stops := 0, resets := 0, done := true, wait := none, program := [], localData := [],
    ctl := 0 }

/-- PHASE of NVM_UPD_STATUS (R528). -/
inductive UpdPhase where
  | none | erasing | receiving | verifying | verified | activating | confirmWait | failed
deriving DecidableEq, Repr

/-- How far an activation has come (R520, R521, R524). -/
inductive ActStage where
  /-- No activation. -/
  | idle
  /-- Executed: the standby swaps at the next boundary (U0). -/
  | ordered
  /-- The first lane restarts and converts (U1 to U3). -/
  | first
  /-- The handover to the first lane is under way (U3). -/
  | castling
  /-- The new active lane's plies are paused for its conversion (R521). -/
  | paused
  /-- The second lane swaps at the next boundary (U4). -/
  | second
  /-- The second lane restarts and joins (U5). -/
  | joining
  /-- The health window is open (U6). -/
  | health
deriving DecidableEq, Repr

/-- The update state (R514 to R529). -/
structure Upd where
  phase : UpdPhase
  /-- Configuration, not firmware. -/
  kind : Bool
  result : Nat
  fwReady : Bool
  cfgReady : Bool
  mixed : Bool
  fellBack : Bool
  cfgPend : Bool
  /-- End of the health window. -/
  healthEnd : Nat
  rcvd : Nat
  length : Nat
  check : Word
  /-- Octets received, low offsets first, two to a word (R517). -/
  octets : List (Nat × Nat)
  /-- Octets in the write queue that are not yet programmed at the guaranteed rate, as of `queueTime` (R517). -/
  queued : Nat
  queueTime : Nat
  erasedW : Bool
  erasedB : Bool
  verifiedW : Option Nat
  verifiedB : Option Nat
  stage : ActStage
  /-- The activation reverts to the earlier images (R524). -/
  reverting : Bool
  /-- The lane that restarts first. -/
  firstLane : Lane
  /-- Boundary at which the pause began (R521). -/
  pauseFrom : Nat
  /-- The configuration image that the first lane applied, to take effect when it resumes (R525). -/
  cfg : Option ConfigImage
  /-- Configuration differences that wait for a state that permits them (R525). -/
  diffs : List (Nat × Word)
  /-- A recovery-service activation awaits the restart of its lane (R526). -/
  recovery : Bool
deriving DecidableEq, Repr

/-- No update. -/
def Upd.reset : Upd :=
  { phase := .none, kind := false, result := 0, fwReady := false, cfgReady := false, mixed := false, fellBack := false,
    cfgPend := false, healthEnd := 0, rcvd := 0, length := 0, check := 0, octets := [], queued := 0, queueTime := 0,
    erasedW := false, erasedB := false, verifiedW := none, verifiedB := none, stage := .idle, reverting := false,
    firstLane := .black, pauseFrom := 0, cfg := none, diffs := [], recovery := false }

/-- The whole block. -/
structure State where
  /-- The commands that wait, first in, first out. -/
  pending : List Instr
  /-- The active lane's time base, in 10 ns ticks (R78). -/
  now : Nat
  /-- The model's own counter of free values (assumption log 4). -/
  free : Nat
  sup : Supply
  seq : Seq
  ply : Ply
  lanes : Lanes
  white : LaneSt
  black : LaneSt
  /-- The 45 command targets (R89) by number. -/
  targets : List (Nat × Target)
  chans : List (Nat × Chan)
  douts : List (Nat × Dout)
  strs : List (Nat × Str)
  mxs : List (Nat × Mx)
  acc : Access
  den : Den
  buses : List (Nat × Bus)
  fab : Fabric
  /-- The registers that the units hold, by Board address. -/
  live : List (Nat × Word)
  /-- The lanes' sequenced copy, and the lanes' own registers, by Board address (R154). -/
  copy : List (Nat × Word)
  /-- Board SRAM, by Board address (R122). -/
  sram : List (Nat × Word)
  measPend : List MeasWrite
  comps : List (Nat × Comp)
  slots : List (Nat × SigSlot)
  streams : List (Nat × Stream)
  dmas : List (Nat × Dma)
  dins : List (Nat × Din)
  dinRuns : List (Nat × DoutRuns)
  life : List (Nat × Life)
  /-- The access tables in use and their shadow, by Board address (R131, R136). -/
  tables : List (Nat × Word)
  shadow : List (Nat × Word)
  /-- A commit awaits the next ply boundary (R136). -/
  commitPend : Bool
  host : HostSt
  mbx : Mailboxes
  pwr : Pwr
  cores : List (Nat × Kwask)
  upd : Upd
  /-- The updates of the recovery service on each lane (R526). -/
  updWhite : Upd
  updBlack : Upd
  /-- The key store: keys by slot (R527). -/
  keys : List (Nat × Nat)
  /-- The scoresheet ring, newest last (R540). -/
  ring : List Rec
  /-- The largest number of a record that the ring has overwritten (R432). -/
  ringLost : Nat
  /-- The command buffer: the last three completed plies, newest last (R95). -/
  log : List PlyLog
  /-- A maintenance start (R71). -/
  maintenance : Bool
deriving DecidableEq, Repr

/-- A bus at a module reset by its number: CAN stopped, LIN stopped, 10BASE-T1S without beacons (R398, R403, R404). -/
def Bus.initial (b : Nat) : Bus := if b < 16 then Bus.reset 3 else if b < 24 then Bus.reset 2 else Bus.reset 0

/-- A DO state, a string state or a matrix state of no object yet. -/
def Fabric.reset : Fabric :=
  { calFail := false, mux := [], modFaults := [], modOffset := [], modLast := [], lastFrame := none, sentAt := 0,
    gapAt := none, recs := [] }

/-- The machine as delivered and unpowered: every register at its reset value. PWR_RESET_CAUSE reads POR. DESIGN
CHOICE, assumption log 6. -/
def State.reset : State :=
  { pending := [], now := 0, free := 0, sup := Supply.reset, seq := Seq.reset, ply := Ply.reset, lanes := Lanes.reset,
    white := LaneSt.reset 0x08000 Nvm.delivered, black := LaneSt.reset 0x08000 Nvm.delivered, targets := [], chans := [], douts := [],
    strs := [], mxs := [], acc := Access.reset, den := Den.reset, buses := [], fab := Fabric.reset, live := [], copy := [],
    sram := [], measPend := [], comps := [], slots := [], streams := [], dmas := [], dins := [], dinRuns := [], life := [],
    tables := [], shadow := [], commitPend := false, host := HostSt.reset, mbx := Mailboxes.reset, pwr := Pwr.reset,
    cores := [], upd := Upd.reset, updWhite := Upd.reset, updBlack := Upd.reset, keys := [(1, Config.factoryKey)], ring := [], ringLost := 0, log := [], maintenance := false }

/-- No command of this model ends in a fault: what the spec calls faults are effects on the state (R60, R62, R99). -/
inductive Fault where
deriving DecidableEq, Repr

/-- Why a command has no meaning in the model. -/
inductive Refusal where
  /-- The command has no meaning yet; its arm of `exec` raises it (safe). No arm of this model does. -/
  | notModelled (mnemonic : String)
deriving DecidableEq, Repr

end Sys2Proof.Machine
end

