-- ==== Sys2Proof/Machine/Regs.lean ====
section
/-! DEFINITION. The registers by Board address: reset values and access types (R11, R12), from the register tables of the
chapters. -/

namespace Sys2Proof.Machine

open Sys2Proof

/-- Reset value of a register, its RW bits, its W1C bits and its RC bits (R11). -/
structure RegInfo where
  reset : Nat
  rw : Nat
  w1c : Nat
  rc : Nat
deriving DecidableEq, Repr

/-- A reserved location: it reads 0 and ignores writes. -/
def RegInfo.none : RegInfo := ⟨0, 0, 0, 0⟩

/-- The class of channel `n`: 0 H, 1 M, 2 L (R22, R188). DEDUCED, assumption log 7. -/
def classOf (n : Nat) : Nat := if n < 16 then 0 else if n < 80 then 1 else 2

/-- The registers of channel `n` by offset (R185, R223). -/
def chanInfo (n off : Nat) : RegInfo :=
  match off with
  | 0 => ⟨0x00000, 0x00000, 0x00000, 0x00000⟩
  | 1 => ⟨0x00000, 0x00000, 0x00000, 0x00000⟩
  | 2 => ⟨0x00000, 0x00000, 0x0FFF8, 0x00000⟩
  | 3 => ⟨classOf n * 2 ^ 18 + 0x01000, 0x3F000, 0x00000, 0x00000⟩
  | 4 => ⟨0x00000, 0xC0000, 0x00000, 0x00000⟩
  | 5 => ⟨0x00064, 0x00FFF, 0x00000, 0x00000⟩
  | 6 => ⟨0x01432, 0xFFFFF, 0x00000, 0x00000⟩
  | 7 => ⟨0x00140, 0xFFFF0, 0x00000, 0x00000⟩
  | 8 => ⟨0x40000, 0xF8000, 0x00000, 0x00000⟩
  | 9 => ⟨if classOf n = 2 then 0x05DC0 else 0x057E4, 0x0FFFF, 0, 0⟩
  | 10 => ⟨0x0A200, 0xFFF00, 0x00000, 0x00000⟩
  | 11 => ⟨0x00000, 0xFFFFF, 0x00000, 0x00000⟩
  | 12 => ⟨0x00000, 0xFFFFF, 0x00000, 0x00000⟩
  | 13 => ⟨0x00000, 0xFFFFF, 0x00000, 0x00000⟩
  | 14 => ⟨0x00000, 0xFFFFF, 0x00000, 0x00000⟩
  | 15 => ⟨0x7D6E0, 0xFFFF0, 0x00000, 0x00000⟩
  | 18 => ⟨0x3C280, 0xFFFF0, 0x00000, 0x00000⟩
  | 19 => ⟨0x08314, 0xFFFFF, 0x00000, 0x00000⟩
  | 28 => ⟨0x7FF00, 0x00000, 0x00000, 0x00000⟩
  | 29 => ⟨0x7FF00, 0x00000, 0x00000, 0x00000⟩
  | 30 => ⟨0x7FF00, 0x00000, 0x00000, 0x00000⟩
  | 31 => ⟨0x7FF00, 0x00000, 0x00000, 0x00000⟩
  | _ => RegInfo.none

/-- The registers of a tile by offset (R194, R233). -/
def tileInfo (off : Nat) : RegInfo :=
  match off with
  | 0 => ⟨0x00000, 0x00000, 0x00000, 0x00000⟩
  | 1 => ⟨0x00000, 0x00000, 0x00000, 0x00000⟩
  | 2 => ⟨0x00055, 0xFFFFF, 0x00000, 0x00000⟩
  | 3 => ⟨0x96000, 0xFE000, 0x00000, 0x00000⟩
  | 4 => ⟨0x04000, 0x1F000, 0xE0000, 0x00000⟩
  | _ => RegInfo.none

/-- FIO registers below 84100h (R291 to R294). -/
def fioInfo (off : Nat) : RegInfo :=
  match off with
  | 0 => ⟨0x00000, 0x00000, 0x00000, 0x00000⟩
  | 1 => ⟨0x06400, 0xFFF00, 0x00000, 0x00000⟩
  | _ => RegInfo.none

/-- The registers of a field output by offset (R296 to R298). -/
def doInfo (off : Nat) : RegInfo :=
  match off with
  | 0 => ⟨0x00000, 0x00000, 0x00000, 0x00000⟩
  | 1 => ⟨0x00000, 0x00000, 0x00000, 0x00000⟩
  | 2 => ⟨0x00A00, 0xFFFF8, 0x00000, 0x00000⟩
  | 3 => ⟨0x00000, 0x00000, 0x0FC00, 0x00000⟩
  | _ => RegInfo.none

/-- The registers of a string by offset (R324 to R326). -/
def strInfo (off : Nat) : RegInfo :=
  match off with
  | 0 => ⟨0x00000, 0x00000, 0x00000, 0x00000⟩
  | 1 => ⟨0x00000, 0x00000, 0x00000, 0x00000⟩
  | 2 => ⟨0x008C4, 0xFFFFC, 0x00000, 0x00000⟩
  | 3 => ⟨0x000C8, 0x007FF, 0x00000, 0x00000⟩
  | 4 => ⟨0x00000, 0x0FFFF, 0x00000, 0x00000⟩
  | 5 => ⟨0x00000, 0x803FF, 0x00000, 0x00000⟩
  | 6 => ⟨0x00000, 0xFFC00, 0x00000, 0x00000⟩
  | 7 => ⟨0x00000, 0x0FFFF, 0x00000, 0x00000⟩
  | 8 => ⟨0x00000, 0x00000, 0x0FC00, 0x00000⟩
  | _ => RegInfo.none

/-- The registers of a matrix by offset (R327). -/
def mxInfo (off : Nat) : RegInfo :=
  match off with
  | 0 => ⟨0x00000, 0x00000, 0x00000, 0x00000⟩
  | 1 => ⟨0x00000, 0x00000, 0x00000, 0x00000⟩
  | 2 => ⟨0x21250, 0xFFFFF, 0x00000, 0x00000⟩
  | 3 => ⟨0x00FFF, 0x00FFF, 0x00000, 0x00000⟩
  | 4 => ⟨0x00000, 0x803FF, 0x00000, 0x00000⟩
  | 5 => ⟨0x00000, 0xC0000, 0x00000, 0x00000⟩
  | 6 => ⟨0x00000, 0x00000, 0x0F000, 0x00000⟩
  | _ => RegInfo.none

/-- The access registers below 88040h (R354 to R359). -/
def accInfo (off : Nat) : RegInfo :=
  match off with
  | 0 => ⟨0x00000, 0x00000, 0x3FF00, 0x000F0⟩
  | 1 => ⟨0x3F000, 0x3F000, 0x00000, 0x00000⟩
  | 2 => ⟨0x3F300, 0xFFF80, 0x00000, 0x00000⟩
  | 3 => ⟨0x0668A, 0xFFFFF, 0x00000, 0x00000⟩
  | 4 => ⟨0x94020, 0xFFFE0, 0x00000, 0x00000⟩
  | 5 => ⟨0x32078, 0xFFFFF, 0x00000, 0x00000⟩
  | 6 => ⟨0x12C00, 0xFFFFF, 0x00000, 0x00000⟩
  | 7 => ⟨0x00000, 0x0FFFF, 0x00000, 0x00000⟩
  | 8 => ⟨0x00000, 0xCFFFF, 0x00000, 0x00000⟩
  | 9 => ⟨0x00000, 0xCFFFF, 0x00000, 0x00000⟩
  | 10 => ⟨0x00000, 0xCFFFF, 0x00000, 0x00000⟩
  | 11 => ⟨0x00000, 0xCFFFF, 0x00000, 0x00000⟩
  | 12 => ⟨0x0A7E0, 0xFFFE0, 0x00000, 0x00000⟩
  | 13 => ⟨0x0A7E0, 0xFFFE0, 0x00000, 0x00000⟩
  | 14 => ⟨0x0A7E0, 0xFFFE0, 0x00000, 0x00000⟩
  | 15 => ⟨0x0A7E0, 0xFFFE0, 0x00000, 0x00000⟩
  | 16 => ⟨0x00000, 0x70000, 0x00000, 0x00000⟩
  | 17 => ⟨0x00000, 0x70000, 0x00000, 0x00000⟩
  | 18 => ⟨0x00000, 0x70000, 0x00000, 0x00000⟩
  | 19 => ⟨0x00000, 0x70000, 0x00000, 0x00000⟩
  | 20 => ⟨0x00000, 0x70000, 0x00000, 0x00000⟩
  | 21 => ⟨0x00000, 0x70000, 0x00000, 0x00000⟩
  | 22 => ⟨0x00000, 0x70000, 0x00000, 0x00000⟩
  | 23 => ⟨0x00000, 0x70000, 0x00000, 0x00000⟩
  | 24 => ⟨0x00000, 0x70000, 0x00000, 0x00000⟩
  | 25 => ⟨0x00000, 0x70000, 0x00000, 0x00000⟩
  | 26 => ⟨0x00000, 0x70000, 0x00000, 0x00000⟩
  | 27 => ⟨0x00000, 0x70000, 0x00000, 0x00000⟩
  | 28 => ⟨0x00000, 0x70000, 0x00000, 0x00000⟩
  | 29 => ⟨0x00000, 0x70000, 0x00000, 0x00000⟩
  | 30 => ⟨0x00000, 0x70000, 0x00000, 0x00000⟩
  | 31 => ⟨0x00000, 0x70000, 0x00000, 0x00000⟩
  | 32 => ⟨0x00000, 0x00000, 0x00000, 0x00000⟩
  | 33 => ⟨0x00000, 0x00000, 0x00000, 0x00000⟩
  | 34 => ⟨0x00000, 0x00000, 0x00000, 0x00000⟩
  | 35 => ⟨0x00C80, 0xFFFC0, 0x00000, 0x00000⟩
  | _ => RegInfo.none

/-- MEAS_STATUS to MEAS_EVQ_LOST (R264 to R266). -/
def measInfo (off : Nat) : RegInfo :=
  match off with
  | 0 => ⟨0x00000, 0x00000, 0x30000, 0x00000⟩
  | 1 => ⟨0x80000, 0xC0000, 0x00000, 0x00000⟩
  | 2 => ⟨0x00000, 0x00000, 0x00000, 0x00000⟩
  | 3 => ⟨0x00000, 0x003FF, 0x00000, 0x00000⟩
  | 4 => ⟨0x00000, 0x00000, 0x00000, 0xFFFFF⟩
  | _ => RegInfo.none

/-- The four comparator registers of a signal (R267, R268). -/
def compInfo (off : Nat) : RegInfo :=
  match off with
  | 0 => ⟨0x7FEFF, 0xFFFFF, 0x00000, 0x00000⟩
  | 1 => ⟨0x80000, 0xFFFFF, 0x00000, 0x00000⟩
  | 2 => ⟨0x00000, 0xFFFFF, 0x00000, 0x00000⟩
  | _ => ⟨0x04400, 0xFFFFF, 0x00000, 0x00000⟩

/-- The registers of a stream (R270). -/
def streamInfo (off : Nat) : RegInfo :=
  match off with
  | 0 => ⟨0x00800, 0xFF800, 0x00000, 0x00000⟩
  | 1 => ⟨0x00000, 0xFFFFF, 0x00000, 0x00000⟩
  | 2 => ⟨0x00000, 0xFFFFF, 0x00000, 0x00000⟩
  | 3 => ⟨0x00040, 0xFFFFF, 0x00000, 0x00000⟩
  | 4 => ⟨0x00000, 0x00000, 0x00000, 0x00000⟩
  | 5 => ⟨0x00000, 0xFFFFF, 0x00000, 0x00000⟩
  | 6 => ⟨0x00000, 0x00000, 0x00000, 0x00000⟩
  | _ => RegInfo.none

/-- The registers of a DMA engine (R271). -/
def dmaInfo (off : Nat) : RegInfo :=
  match off with
  | 0 => ⟨0x00000, 0x00000, 0x00000, 0x00000⟩
  | 1 => ⟨0x00000, 0xFFFFF, 0x00000, 0x00000⟩
  | 2 => ⟨0x00000, 0xFFFFF, 0x00000, 0x00000⟩
  | 3 => ⟨0x00000, 0xFFFFF, 0x00000, 0x00000⟩
  | 4 => ⟨0x00401, 0xFFFFF, 0x00000, 0x00000⟩
  | 5 => ⟨0x00000, 0x00000, 0x00000, 0x00000⟩
  | _ => RegInfo.none

/-- The registers of a signature slot (R272). -/
def sigInfo (off : Nat) : RegInfo :=
  match off with
  | 0 => ⟨0x00024, 0xFFFFF, 0x00000, 0x00000⟩
  | 1 => ⟨0x01008, 0xFFFFF, 0x00000, 0x00000⟩
  | 2 => ⟨0x00000, 0x00000, 0x02000, 0x00000⟩
  | 3 => ⟨0x00000, 0x00000, 0x00000, 0x00000⟩
  | _ => RegInfo.none

/-- The registers of a CAN channel below offset 40h (R397 to R402). -/
def canInfo (off : Nat) : RegInfo :=
  match off with
  | 0 => ⟨0x0C400, 0xFFF00, 0x00000, 0x00000⟩
  | 1 => ⟨0xC0000, 0x00000, 0x04000, 0x00000⟩
  | 2 => ⟨0x0BEFF, 0xFFFFF, 0x00000, 0x00000⟩
  | 3 => ⟨0x01E77, 0xFFFFF, 0x00000, 0x00000⟩
  | 4 => ⟨0x00411, 0xFFFFF, 0x00000, 0x00000⟩
  | 5 => ⟨0x00000, 0x00000, 0x00000, 0x00000⟩
  | 6 => ⟨0x00000, 0x00000, 0x00000, 0x00FFF⟩
  | 7 => ⟨0x00000, 0x007FF, 0x00000, 0x00000⟩
  | 8 => ⟨0x02800, 0xFFE00, 0x00000, 0x00000⟩
  | 9 => ⟨0x00000, 0xFFFFE, 0x00000, 0x00000⟩
  | 10 => ⟨0x003E8, 0xEFFFF, 0x00000, 0x00000⟩
  | 11 => ⟨0x00000, 0x00000, 0x00000, 0x00FFF⟩
  | 12 => ⟨0x00000, 0xFF7FF, 0x00000, 0x00000⟩
  | 16 => ⟨0x00000, 0xFFFFF, 0x00000, 0x00000⟩
  | 17 => ⟨0x00000, 0xF01FF, 0x00000, 0x00000⟩
  | 18 => ⟨0x00000, 0xFFFFF, 0x00000, 0x00000⟩
  | 19 => ⟨0x00000, 0x001FF, 0x00000, 0x00000⟩
  | 20 => ⟨0x00000, 0x0001F, 0x00000, 0x00000⟩
  | 21 => ⟨0x00000, 0x0FFFF, 0x00000, 0x00000⟩
  | 22 => ⟨0x00000, 0x0FFFF, 0x00000, 0x00000⟩
  | 23 => ⟨0x00000, 0x0FFFF, 0x00000, 0x00000⟩
  | 24 => ⟨0x00000, 0x0FFFF, 0x00000, 0x00000⟩
  | _ => RegInfo.none

/-- The four words of an acceptance filter (R402). -/
def fltInfo (off : Nat) : RegInfo :=
  match off with
  | 0 => ⟨0x00000, 0xFFFFF, 0x00000, 0x00000⟩
  | 1 => ⟨0x00000, 0xF01FF, 0x00000, 0x00000⟩
  | 2 => ⟨0x00000, 0xFFFFF, 0x00000, 0x00000⟩
  | 3 => ⟨0x00000, 0x001FF, 0x00000, 0x00000⟩
  | _ => RegInfo.none

/-- The fields of a bus register that a read clears: counters, which saturate (R400, R401, R403 to R405). -/
def busCounts (a : Nat) : List (Nat × Nat) :=
  if 0x90000 ≤ a ∧ a < 0x94000 then
    (if a % 0x400 = 6 then [(11, 6), (5, 0)] else if a % 0x400 = 11 then [(11, 0)] else [])
  else if 0x95000 ≤ a ∧ a < 0x96000 then (if a % 0x200 = 3 then [(19, 10), (9, 0)] else [])
  else if 0x96000 ≤ a ∧ a < 0x97000 then (if a % 0x400 = 1 then [(16, 12), (11, 0)] else [])
  else if 0x97000 ≤ a ∧ a < 0x97E00 then (if a % 0x80 = 4 then [(12, 0)] else [])
  else []

/-- A count that a report brings is added to what the lanes' copy holds. -/
def addCount (old new w : Word) (f : Nat × Nat) : Word :=
  w.put f.1 f.2 (min (2 ^ (f.1 + 1 - f.2) - 1) (old.field f.1 f.2 + new.field f.1 f.2))

/-- The registers of a LIN channel below offset 40h (R403). -/
def linInfo (off : Nat) : RegInfo :=
  match off with
  | 0 => ⟨0x60000, 0xFF800, 0x00000, 0x00000⟩
  | 1 => ⟨0x80000, 0x00000, 0x00100, 0x00000⟩
  | 2 => ⟨0x00000, 0xC0000, 0x00000, 0x00000⟩
  | 3 => ⟨0x00000, 0x00000, 0x00000, 0xFFFFF⟩
  | _ => RegInfo.none

/-- The registers of a 10BASE-T1S segment (R404). -/
def tsInfo (off : Nat) : RegInfo :=
  match off with
  | 0 => ⟨0x49000, 0xFFFF8, 0x00000, 0x00000⟩
  | 1 => ⟨0x00000, 0x00000, 0x00000, 0x1FFFF⟩
  | 2 => ⟨0x00000, 0x0FFFF, 0x00000, 0x00000⟩
  | 3 => ⟨0x00000, 0x0FFFF, 0x00000, 0x00000⟩
  | 4 => ⟨0x00000, 0x0FFFF, 0x00000, 0x00000⟩
  | 8 => ⟨0x06400, 0xFFF00, 0x00060, 0x00000⟩
  | 9 => ⟨0x06400, 0xFFF00, 0x00060, 0x00000⟩
  | 10 => ⟨0x06400, 0xFFF00, 0x00060, 0x00000⟩
  | 11 => ⟨0x06400, 0xFFF00, 0x00060, 0x00000⟩
  | 12 => ⟨0x06400, 0xFFF00, 0x00060, 0x00000⟩
  | 13 => ⟨0x06400, 0xFFF00, 0x00060, 0x00000⟩
  | 14 => ⟨0x06400, 0xFFF00, 0x00060, 0x00000⟩
  | 15 => ⟨0x06400, 0xFFF00, 0x00060, 0x00000⟩
  | _ => RegInfo.none

/-- The registers of a BUSQ block below offset 40h (R405). -/
def busqInfo (off : Nat) : RegInfo :=
  match off with
  | 0 => ⟨0x00000, 0xFFFFF, 0x00000, 0x00000⟩
  | 1 => ⟨0x00000, 0x00000, 0x00000, 0x00000⟩
  | 2 => ⟨0x00000, 0x00000, 0x00000, 0x00000⟩
  | 3 => ⟨0x00000, 0x00000, 0x00000, 0x00000⟩
  | 4 => ⟨0x00000, 0x00000, 0x00000, 0x01FFF⟩
  | 5 => ⟨0x80000, 0x80000, 0x00000, 0x00000⟩
  | _ => RegInfo.none

/-- The registers of a mailbox channel (R457 to R461). -/
def mbxInfo (off : Nat) : RegInfo :=
  match off with
  | 0 => ⟨0x00000, 0xFFF80, 0x00000, 0x00000⟩
  | 1 => ⟨0x00000, 0x00000, 0x00000, 0x00000⟩
  | 2 => ⟨0x00000, 0x80000, 0x00000, 0x00000⟩
  | 3 => ⟨0x00000, 0x00000, 0x0E000, 0x000FF⟩
  | 4 => ⟨0x00000, 0x00000, 0x01000, 0x00000⟩
  | 7 => ⟨0x00000, 0x00000, 0x00000, 0x00000⟩
  | _ => RegInfo.none

/-- The registers of a core (R509 to R513). -/
def kwInfo (off : Nat) : RegInfo :=
  match off with
  | 0 => ⟨0x00000, 0x00000, 0x00000, 0x00000⟩
  | 1 => ⟨0xC0000, 0x00000, 0x00000, 0x00000⟩
  | 2 => ⟨0x00000, 0x03FFF, 0x00000, 0x00000⟩
  | 3 => ⟨0x04E20, 0x0FFFF, 0x00000, 0x00000⟩
  | 4 => ⟨0x00000, 0x00000, 0x00000, 0x00000⟩
  | 5 => ⟨0x00000, 0x00000, 0x00000, 0x0FFFF⟩
  | 6 => ⟨0x00000, 0x00000, 0x00000, 0x00000⟩
  | _ => RegInfo.none

/-- The PWR registers (R72 to R75, R481 to R487). -/
def pwrInfo (off : Nat) : RegInfo :=
  match off with
  | 0 => ⟨0x08000, 0x00000, 0x0FFFF, 0x00000⟩
  | 1 => ⟨0x00200, 0x00000, 0x00000, 0x00000⟩
  | 2 => ⟨0x00000, 0x00000, 0x00000, 0x00000⟩
  | 3 => ⟨0x00000, 0x00000, 0x00004, 0x00000⟩
  | 4 => ⟨0x40000, 0x00000, 0x00000, 0x00000⟩
  | 5 => ⟨0x00000, 0x00000, 0x00000, 0x00000⟩
  | 6 => ⟨0xC0000, 0xFFF80, 0x00000, 0x00000⟩
  | 7 => ⟨0x00000, 0x00000, 0x00000, 0x00000⟩
  | 8 => ⟨0x00000, 0xFF000, 0x00000, 0x00000⟩
  | 9 => ⟨0x00000, 0x00000, 0x00000, 0x00000⟩
  | 10 => ⟨0x00000, 0x00000, 0x00000, 0x00000⟩
  | 11 => ⟨0x00000, 0x00000, 0x00000, 0x00000⟩
  | 12 => ⟨0x00000, 0xFFFFF, 0x00000, 0x00000⟩
  | 13 => ⟨0x00000, 0xFFFFF, 0x00000, 0x00000⟩
  | 14 => ⟨0x00000, 0xE07FF, 0x00000, 0x00000⟩
  | 15 => ⟨0x00000, 0x00000, 0x00000, 0x00000⟩
  | _ => RegInfo.none

/-- The lane registers (R115 to R120). -/
def laneInfo (off : Nat) : RegInfo :=
  match off with
  | 0 => ⟨0x78000, 0x00000, 0x00000, 0x00000⟩
  | 1 => ⟨0x40200, 0x43F00, 0x00000, 0x00000⟩
  | 11 => ⟨0x00000, 0x00000, 0x00000, 0x00000⟩
  | 12 => ⟨0x00000, 0x00000, 0x00000, 0x0FFFF⟩
  | 13 => ⟨0x00000, 0x00000, 0x00000, 0xFFFFF⟩
  | _ => RegInfo.none

/-- The port registers from 98000h (R437 to R439). -/
def hostInfo (off : Nat) : RegInfo :=
  match off with
  | 0 => ⟨0x00000, 0x00000, 0x00000, 0x00000⟩
  | 9 => ⟨0x0C018, 0x00000, 0x00000, 0x00000⟩
  | 10 => ⟨0x00000, 0x00000, 0x00000, 0x00000⟩
  | _ => RegInfo.none

/-- The register at Board address `a` (R122, R185, R194, R233, R263, R291, R322, R354, R397, R456, R509). -/
def regInfo (a : Nat) : RegInfo :=
  if a < 0x80000 then RegInfo.none
  else if a < 0x81600 then chanInfo ((a - 0x80000) / 32) (a % 32)
  else if a < 0x82000 then RegInfo.none
  else if a < 0x82580 then tileInfo (a % 128)
  else if a < 0x84000 then RegInfo.none
  else if a < 0x84010 then fioInfo (a % 16)
  else if a < 0x84016 then ⟨0, 0, 0x30000, 0⟩
  else if 0x84028 ≤ a ∧ a < 0x84038 then ⟨0, 0, 0x0FFFF, 0⟩
  else if 0x84100 ≤ a ∧ a < 0x84180 then ⟨0x2C505, 0xFFFFF, 0, 0⟩
  else if 0x84200 ≤ a ∧ a < 0x842C0 then doInfo (a % 4)
  else if a = 0x86001 then ⟨0x06400, 0xFFF00, 0, 0⟩
  else if 0x86100 ≤ a ∧ a < 0x86200 then (if 0x10 ≤ a % 32 then ⟨0xFF, 0xFF, 0, 0⟩ else strInfo (a % 32))
  else if 0x86400 ≤ a ∧ a < 0x86420 then mxInfo (a % 16)
  else if (0x87000 ≤ a ∧ a < 0x87480) ∨ (0x87800 ≤ a ∧ a < 0x87C80) then ⟨0, 0xFFF, 0, 0⟩
  else if 0x88000 ≤ a ∧ a < 0x88040 then accInfo (a % 0x40)
  else if 0x88040 ≤ a ∧ a < 0x88050 then ⟨0xFFFFF, 0, 0, 0⟩
  else if 0x8A000 ≤ a ∧ a < 0x8A100 then measInfo (a % 0x100)
  else if 0x8A100 ≤ a ∧ a < 0x8A46E then ⟨0x7FF00, 0, 0, 0⟩
  else if 0x8B000 ≤ a ∧ a < 0x8BD60 then compInfo (a % 4)
  else if 0x8C000 ≤ a ∧ a < 0x8C358 then ⟨0, 0, 0x1F000, 0⟩
  else if 0x8C800 ≤ a ∧ a < 0x8C900 then streamInfo (a % 16)
  else if 0x8C900 ≤ a ∧ a < 0x8C920 then dmaInfo (a % 8)
  else if 0x8CC00 ≤ a ∧ a < 0x8CD00 then sigInfo (a % 16)
  else if 0x8D000 ≤ a ∧ a < 0x8E000 then (if a % 256 < 128 then ⟨0x7FEFF, 0xFFFFF, 0, 0⟩ else ⟨0x80000, 0xFFFFF, 0, 0⟩)
  else if 0x90000 ≤ a ∧ a < 0x94000 then
    let off := a % 0x400
    if off < 0x40 then canInfo off
    else if off < 0x80 then ⟨0, 0xFFFF, 0, 0⟩
    else if 0x100 ≤ off ∧ off < 0x200 then fltInfo (off % 4)
    else RegInfo.none
  else if 0x94000 ≤ a ∧ a < 0x95000 then ⟨0, 0xFF800, 0, 0⟩
  else if 0x95000 ≤ a ∧ a < 0x96000 then
    let off := a % 0x200
    if off < 0x40 then linInfo off
    else if off < 0x80 then ⟨0x30000, 0xFE000, 0, 0⟩
    else if off < 0x100 then ⟨0, 0xFFFFB, 0, 0⟩
    else RegInfo.none
  else if 0x96000 ≤ a ∧ a < 0x97000 then (if a % 0x400 < 0x40 then tsInfo (a % 0x400) else RegInfo.none)
  else if 0x97000 ≤ a ∧ a < 0x97E00 then (if a % 0x80 < 0x40 then busqInfo (a % 0x80) else RegInfo.none)
  else if 0x98000 ≤ a ∧ a < 0x99000 then hostInfo (a % 0x1000)
  else if a = 0x99000 then ⟨0x01400, 0x7FE00, 0, 0⟩
  else if 0x9AC00 ≤ a ∧ a < 0x9AD80 then mbxInfo (a % 8)
  else if 0x9AE00 ≤ a ∧ a < 0x9AF80 then ⟨0, 0xFFFFF, 0, 0⟩
  else if a = 0x9AFF0 then ⟨0x0A000, 0xFF000, 0, 0⟩
  else if a = 0x9BE01 then ⟨0, 0xFFC00, 0, 0⟩
  else if 0x9BE40 ≤ a ∧ a < 0x9BE60 then ⟨0, 3, 0, 0⟩
  else if 0x9C040 ≤ a ∧ a < 0x9C0A0 then (if a % 4 = 3 then RegInfo.none else ⟨0, 0xFFFFF, 0, 0⟩)
  else if 0x9D000 ≤ a ∧ a < 0x9D010 then laneInfo (a % 0x10)
  else if 0x9D100 ≤ a ∧ a < 0x9D1C0 then kwInfo (a % 8)
  else if 0x9E000 ≤ a ∧ a < 0x9E010 then pwrInfo (a % 0x10)
  else RegInfo.none

/-- The reset value of the register at `a`. -/
def regReset (a : Nat) : Word := Word.ofN (regInfo a).reset

/-- A register after a write of `v` over `old`: RW bits take the value, W1C bits written 1 clear, every other bit stays
(R11, R12). -/
def regWrite (a : Nat) (old v : Word) : Word :=
  let i := regInfo a
  let rw := Word.ofN i.rw
  let w1c := Word.ofN i.w1c
  (old &&& ~~~rw &&& ~~~(w1c &&& v)) ||| (v &&& rw)

/-- A register after a read that clears its RC bits (R11). -/
def regAfterRead (a : Nat) (old : Word) : Word := old &&& ~~~(Word.ofN (regInfo a).rc)

/-- The ranges of the channel and tile registers whose fields are accepted or refused whole (R188 to R193, R225 to R233). -/
def writeValid (a : Nat) (v : Word) : Bool :=
  if a < 0x82000 then
    match a % 32 with
    | 5 => decide (1 ≤ v.field 11 0) && decide (v.field 11 0 ≤ 2500)
    | 9 => decide (v.field 15 0 ≠ 0)
    | 10 => decide (1 ≤ v.field 19 12) && decide (v.field 19 12 ≤ 250)
    | 18 =>
      decide (20 ≤ v.field 19 12) && decide (v.field 19 12 ≤ 80) && decide (10 ≤ v.field 11 4) &&
        decide (v.field 11 4 + 10 ≤ v.field 19 12)
    | 19 =>
      decide (v.field 19 18 ≠ 3) && decide (v.field 17 12 ≠ 0) && decide (1 ≤ v.field 11 8) && decide (v.field 11 8 ≤ 8) &&
        decide (20 ≤ v.field 7 0)
    | _ => true
  else
    match a % 128 with
    | 2 => decide (-40 ≤ v.s20) && decide (v.s20 ≤ 125)
    | 3 => decide (v.field 19 13 ≤ 90)
    | 4 => decide (2 ≤ v.field 16 12)
    | _ => true

end Sys2Proof.Machine
end

