-- ==== Sys2Proof/Machine/Ops.lean ====
section
/-! DEFINITION. The named operations over the state: sparse collections, registers, targets and their reports, the input
sequencer, records and wake events. -/

namespace Sys2Proof.Machine

open Sys2Proof

/-! ### Sparse collections: rising keys, and no entry that equals its default -/

/-- The value at key `k`; an unlisted key has the default `d k`. -/
def Sparse.get {α : Type} (d : Nat → α) : List (Nat × α) → Nat → α
  | [], k => d k
  | (j, w) :: m, k => if j = k then w else Sparse.get d m k

/-- The list with key `k` holding `v`, placed by its key. -/
def Sparse.put {α : Type} : List (Nat × α) → Nat → α → List (Nat × α)
  | [], k, v => [(k, v)]
  | (j, w) :: m, k, v =>
    if k < j then (k, v) :: (j, w) :: m else if k = j then (k, v) :: m else (j, w) :: Sparse.put m k v

/-- The list without key `k`. -/
def Sparse.erase {α : Type} (m : List (Nat × α)) (k : Nat) : List (Nat × α) := m.filter fun p => p.1 ≠ k

/-- Set key `k` to `v`, keeping the canonical form: writing the default removes the entry. -/
def Sparse.set {α : Type} [DecidableEq α] (d : Nat → α) (m : List (Nat × α)) (k : Nat) (v : α) : List (Nat × α) :=
  if v = d k then Sparse.erase m k else Sparse.put m k v

/-- The keys rise strictly from above `lo`. -/
def Sparse.rising {α : Type} : Option Nat → List (Nat × α) → Bool
  | _, [] => true
  | lo, (k, _) :: m => (match lo with | some j => decide (j < k) | none => true) && Sparse.rising (some k) m

/-- The canonical form: strictly rising keys and no entry equal to its default. -/
def Sparse.wf {α : Type} [DecidableEq α] (d : Nat → α) (m : List (Nat × α)) : Bool :=
  Sparse.rising none m && m.all fun p => decide (p.2 ≠ d p.1)

/-- What a location of Board SRAM that nothing has written reads as: 0 (assumption log 5). -/
def sramDefault : Nat → Word := fun _ => 0

/-- Board SRAM in canonical form (R122). -/
def Memory.wf (m : List (Nat × Word)) : Bool := Sparse.wf sramDefault m

/-! ### Addresses and targets -/

/-- Register `off` of channel `n` (R185). -/
def chanAddr (n off : Nat) : Nat := 0x80000 + 32 * n + off

/-- Register `off` of tile `t` (R194). -/
def tileAddr (t off : Nat) : Nat := 0x82000 + 128 * t + off

/-- Register `off` of string `x` (R322). -/
def strAddr (x off : Nat) : Nat := 0x86100 + 32 * x + off

/-- The address ranges of tile `t`: its channel blocks and its own block. -/
def tileRange (t : Nat) : (Nat × Nat) × (Nat × Nat) :=
  ((chanAddr (16 * t) 0, chanAddr (16 * t + 15) 31), (tileAddr t 0, tileAddr t 127))

/-- The field I/O unit as a command target; tiles are targets 0 to 10 (R89). -/
def fioT : Nat := 11
/-- The lighting unit. -/
def lgtT : Nat := 12
/-- The access unit. -/
def accT : Nat := 13
/-- The drive-enable generator. -/
def denT : Nat := 14
/-- Bus `b` as a target: CAN 0 to 15, LIN 16 to 23, 10BASE-T1S 24 to 27 (R397). -/
def busT (b : Nat) : Nat := 15 + b

/-- Source identity of the inputs of target `t` (R85). -/
def sourceOf (t : Nat) : Nat :=
  if t < 11 then 1 + t else if t = 11 then 0x14 else if t = 12 then 0x15 else if t < 15 then 0x16
  else if t < 31 then 0x20 + (t - 15) else if t < 39 then 0x30 + (t - 31) else 0x38 + (t - 39)

/-! ### Lanes -/

/-- The other lane. -/
def otherLane : Lane → Lane
  | .white => .black
  | .black => .white

/-- Bit 19 as records name a lane: 0 for White, 1 for Black (R543). -/
def laneCode : Lane → Nat
  | .white => 0
  | .black => 1

/-- ARG0 of a record that names a lane (R543, R544). -/
def laneWord (l : Lane) : Word := Word.ofN (laneCode l * 2 ^ 19)

/-- The state of one lane. -/
def State.lane (s : State) : Lane → LaneSt
  | .white => s.white
  | .black => s.black

/-- Replace the state of one lane. -/
def State.setLane (s : State) (l : Lane) (g : LaneSt) : State :=
  match l with
  | .white => { s with white := g }
  | .black => { s with black := g }

/-- Change the state of one lane. -/
def State.modLane (s : State) (l : Lane) (f : LaneSt → LaneSt) : State := s.setLane l (f (s.lane l))

/-- Change both lanes alike. -/
def State.mapLanes (s : State) (f : LaneSt → LaneSt) : State := { s with white := f s.white, black := f s.black }

/-- The lane in a role whose claims stand, White first (R102). -/
def laneIn (s : State) (r : Role) : Option Lane :=
  if s.white.role = r && !s.white.stale then some .white
  else if s.black.role = r && !s.black.stale then some .black else none

/-- The active lane. -/
def activeLane (s : State) : Option Lane := laneIn s .active

/-- The standby lane. -/
def standbyLane (s : State) : Option Lane := laneIn s .standby

/-- COVERED: one lane active, the other standby, and a cross-link path up (R77, R108). -/
def covered (s : State) : Bool := (activeLane s).isSome && (standbyLane s).isSome && (s.lanes.xa || s.lanes.xb)

/-! ### Objects by number -/

/-- Channel `n`. -/
def State.chan (s : State) (n : Nat) : Chan := Sparse.get (fun _ => Chan.reset) s.chans n
/-- Replace channel `n`. -/
def State.setChan (s : State) (n : Nat) (c : Chan) : State :=
  { s with chans := Sparse.set (fun _ => Chan.reset) s.chans n c }
/-- Change channel `n`. -/
def State.modChan (s : State) (n : Nat) (f : Chan → Chan) : State := s.setChan n (f (s.chan n))

/-- Target `t`. -/
def State.tgt (s : State) (t : Nat) : Target := Sparse.get (fun _ => Target.reset) s.targets t
/-- Replace target `t`. -/
def State.setTgt (s : State) (t : Nat) (g : Target) : State :=
  { s with targets := Sparse.set (fun _ => Target.reset) s.targets t g }
/-- Change target `t`. -/
def State.modTgt (s : State) (t : Nat) (f : Target → Target) : State := s.setTgt t (f (s.tgt t))

/-- Field output `o`. -/
def State.dout (s : State) (o : Nat) : Dout := Sparse.get (fun _ => Dout.reset) s.douts o
/-- Change field output `o`. -/
def State.modDout (s : State) (o : Nat) (f : Dout → Dout) : State :=
  { s with douts := Sparse.set (fun _ => Dout.reset) s.douts o (f (s.dout o)) }

/-- String `x`. -/
def State.str (s : State) (x : Nat) : Str := Sparse.get (fun _ => Str.reset) s.strs x
/-- Change string `x`. -/
def State.modStr (s : State) (x : Nat) (f : Str → Str) : State :=
  { s with strs := Sparse.set (fun _ => Str.reset) s.strs x (f (s.str x)) }

/-- Matrix `m`. -/
def State.mx (s : State) (m : Nat) : Mx := Sparse.get (fun _ => Mx.reset) s.mxs m
/-- Change matrix `m`. -/
def State.modMx (s : State) (m : Nat) (f : Mx → Mx) : State :=
  { s with mxs := Sparse.set (fun _ => Mx.reset) s.mxs m (f (s.mx m)) }

/-- Bus `b`. -/
def State.bus (s : State) (b : Nat) : Bus := Sparse.get Bus.initial s.buses b
/-- Replace bus `b`. -/
def State.setBus (s : State) (b : Nat) (x : Bus) : State := { s with buses := Sparse.set Bus.initial s.buses b x }
/-- Change bus `b`. -/
def State.modBus (s : State) (b : Nat) (f : Bus → Bus) : State := s.setBus b (f (s.bus b))

/-- The comparator of signal `i`. -/
def State.comp (s : State) (i : Nat) : Comp := Sparse.get (fun _ => Comp.reset) s.comps i
/-- Replace the comparator of signal `i`. -/
def State.setComp (s : State) (i : Nat) (c : Comp) : State :=
  { s with comps := Sparse.set (fun _ => Comp.reset) s.comps i c }

/-- Signature slot `k`. -/
def State.slot (s : State) (k : Nat) : SigSlot := Sparse.get (fun _ => SigSlot.reset) s.slots k
/-- Replace signature slot `k`. -/
def State.setSlot (s : State) (k : Nat) (c : SigSlot) : State :=
  { s with slots := Sparse.set (fun _ => SigSlot.reset) s.slots k c }

/-- Stream `x`. -/
def State.stream (s : State) (x : Nat) : Stream := Sparse.get (fun _ => Stream.reset) s.streams x
/-- Replace stream `x`. -/
def State.setStream (s : State) (x : Nat) (c : Stream) : State :=
  { s with streams := Sparse.set (fun _ => Stream.reset) s.streams x c }

/-- DMA engine `e`. -/
def State.dma (s : State) (e : Nat) : Dma := Sparse.get (fun _ => Dma.reset) s.dmas e
/-- Replace DMA engine `e`. -/
def State.setDma (s : State) (e : Nat) (d : Dma) : State := { s with dmas := Sparse.set (fun _ => Dma.reset) s.dmas e d }

/-- Digital input `d`. -/
def State.din (s : State) (d : Nat) : Din := Sparse.get (fun _ => Din.reset) s.dins d
/-- Replace digital input `d`. -/
def State.setDin (s : State) (d : Nat) (c : Din) : State := { s with dins := Sparse.set (fun _ => Din.reset) s.dins d c }

/-- The sample runs of output `o`. -/
def State.doutRuns (s : State) (o : Nat) : DoutRuns := Sparse.get (fun _ => DoutRuns.reset) s.dinRuns o
/-- Replace the sample runs of output `o`. -/
def State.setDoutRuns (s : State) (o : Nat) (c : DoutRuns) : State :=
  { s with dinRuns := Sparse.set (fun _ => DoutRuns.reset) s.dinRuns o c }

/-- Mailbox channel `k`. -/
def State.box (s : State) (k : Nat) : Mbx := Sparse.get (fun _ => Mbx.reset) s.mbx.chans k
/-- Replace mailbox channel `k`. -/
def State.setBox (s : State) (k : Nat) (c : Mbx) : State :=
  { s with mbx := { s.mbx with chans := Sparse.set (fun _ => Mbx.reset) s.mbx.chans k c } }
/-- Change mailbox channel `k`. -/
def State.modBox (s : State) (k : Nat) (f : Mbx → Mbx) : State := s.setBox k (f (s.box k))

/-- Core `c`. -/
def State.core (s : State) (c : Nat) : Kwask := Sparse.get (fun _ => Kwask.reset) s.cores c
/-- Replace core `c`. -/
def State.setCore (s : State) (c : Nat) (k : Kwask) : State :=
  { s with cores := Sparse.set (fun _ => Kwask.reset) s.cores c k }
/-- Change core `c`. -/
def State.modCore (s : State) (c : Nat) (f : Kwask → Kwask) : State := s.setCore c (f (s.core c))

/-- The lifetime counters of channel `n`. -/
def State.lifeOf (s : State) (n : Nat) : Life := Sparse.get (fun _ => Life.zero) s.life n
/-- Change the lifetime counters of channel `n`. -/
def State.modLife (s : State) (n : Nat) (f : Life → Life) : State :=
  { s with life := Sparse.set (fun _ => Life.zero) s.life n (f (s.lifeOf n)) }

/-- Ticks since AO power-on, through every start: what units measure their own times by. -/
def State.clock (s : State) : Nat := s.pwr.elapsed + s.now

/-! ### Registers -/

/-- A register as its unit holds it. -/
def State.liveReg (s : State) (a : Nat) : Word := Sparse.get regReset s.live a
/-- Set a unit's register. -/
def State.setLive (s : State) (a : Nat) (v : Word) : State := { s with live := Sparse.set regReset s.live a v }
/-- Put a tile's registers back to reset. -/
def State.clearLive (s : State) (r : (Nat × Nat) × (Nat × Nat)) : State :=
  { s with live := s.live.filter fun p =>
    !(decide (r.1.1 ≤ p.1) && decide (p.1 ≤ r.1.2)) && !(decide (r.2.1 ≤ p.1) && decide (p.1 ≤ r.2.2)) }
/-- A register as the lanes' sequenced copy holds it (R154). -/
def State.copyReg (s : State) (a : Nat) : Word := Sparse.get regReset s.copy a
/-- Set a register of the lanes' copy. -/
def State.setCopy (s : State) (a : Nat) (v : Word) : State := { s with copy := Sparse.set regReset s.copy a v }
/-- Put the registers from `r.1` to `r.2` of the copy back to reset. -/
def State.clearCopy (s : State) (r : Nat × Nat) : State :=
  { s with copy := s.copy.filter fun p => !(decide (r.1 ≤ p.1) && decide (p.1 ≤ r.2)) }
/-- Copy words that a report brings up to date. -/
def State.setCopies (s : State) (ps : List (Nat × Word)) : State := ps.foldl (fun s p => s.setCopy p.1 p.2) s

/-- The bits of a unit's register that the copy does not take from the unit: the fields that lanes write (R154), and, which the
lanes keep themselves, REVERSE and OPEN_LOAD of a field output (R288, R289) and the receive slots they own (R381). -/
def laneKept (a : Nat) : Word :=
  if 0x84200 ≤ a ∧ a < 0x842C0 ∧ a % 2 = 1 then 0x01800
  else if 0x97000 ≤ a ∧ a < 0x97E00 ∧ a % 0x80 = 4 then 0xFE000
  else Word.ofN (regInfo a).rw

/-- Words that a unit shows reach the copy (R154); counts that a read clears add up there, so that none is lost or shown twice
(R11, R400 to R405). -/
def State.setReported (s : State) (ps : List (Nat × Word)) : State :=
  ps.foldl (fun s p =>
    let kept := laneKept p.1
    let old := s.copyReg p.1
    s.setCopy p.1 ((busCounts p.1).foldl (addCount old p.2) ((old &&& kept) ||| (p.2 &&& ~~~kept)))) s

/-- A word of Board SRAM. DESIGN CHOICE, assumption log 5. -/
def State.sramWord (s : State) (a : Nat) : Word := Sparse.get sramDefault s.sram a
/-- Write a word of Board SRAM. -/
def State.setSram (s : State) (a : Nat) (v : Word) : State := { s with sram := Sparse.set sramDefault s.sram a v }
/-- Write words of Board SRAM from `a` on. -/
def State.setSrams (s : State) (a : Nat) : List Word → State
  | [] => s
  | w :: ws => State.setSrams (s.setSram a w) (a + 1) ws
/-- `n` words of Board SRAM from `a` on. -/
def State.sramWords (s : State) (a n : Nat) : List Word := (List.range n).map fun i => s.sramWord (a + i)

/-- Register `off` of channel `n` as the tile holds it. -/
def chReg (s : State) (n off : Nat) : Word := s.liveReg (chanAddr n off)

/-! ### Groups of channels (R176) -/

/-- The leader that channel `n` names in a CH_GROUP value, itself outside a parallel group. -/
def leaderIn (g : Word) (n : Nat) : Nat := if g.field 19 18 = 1 then g.field 17 10 else n

/-- The leader of channel `n` at its tile. -/
def leaderOf (s : State) (n : Nat) : Nat := leaderIn (chReg s n 7) n

/-- The members of channel `n`'s parallel group at its tile, ascending; the channel alone outside a group. -/
def members (s : State) (n : Nat) : List Nat :=
  let l := leaderOf s n
  if (chReg s n 7).field 19 18 = 1 then
    ((List.range 16).map (· + 16 * (n / 16))).filter fun m =>
      (chReg s m 7).field 19 18 = 1 && decide ((chReg s m 7).field 17 10 = l)
  else [n]

/-- The leader of channel `n` in the lanes' copy. -/
def leaderCopy (s : State) (n : Nat) : Nat := leaderIn (s.copyReg (chanAddr n 7)) n

/-- The members of channel `n`'s parallel group in the lanes' copy. -/
def membersCopy (s : State) (n : Nat) : List Nat :=
  let l := leaderCopy s n
  if (s.copyReg (chanAddr n 7)).field 19 18 = 1 then
    ((List.range 16).map (· + 16 * (n / 16))).filter fun m =>
      (s.copyReg (chanAddr m 7)).field 19 18 = 1 && decide ((s.copyReg (chanAddr m 7)).field 17 10 = l)
  else [n]

/-! ### Feeds (R22) -/

/-- The power feed of channel `n`. -/
def feedOf (n : Nat) : Feed :=
  let t := n / 16
  if t = 0 then (if n < 8 then .a else .b) else if t = 3 ∨ t = 4 ∨ 8 ≤ t then .b else .a

/-- A power feed is present. -/
def feedOk (s : State) : Feed → Bool
  | .a => s.sup.vpwrA.ok
  | .b => s.sup.vpwrB.ok

/-- Either thermal latch of the channel is set (R210, R211). -/
def Chan.hot (c : Chan) : Bool := c.dt || c.junction

/-- No member of the channel's group has a thermal latch set (R176, R212). -/
def groupCool (s : State) (n : Nat) : Bool := (members s n).all fun m => !(s.chan m).hot

/-! ### Words that units show -/

/-- Codes of R158. -/
def ChState.code : ChState → Nat
  | .off => 0 | .on => 1 | .retry => 2 | .cooling => 3 | .latched => 4 | .hold => 5 | .safe => 6

/-- Codes of CH_STATE.SRC (R158, R187). -/
def Src.code : Src → Nat
  | .lane => 0 | .hold => 1 | .safe => 2

/-- CH_STATE of channel `n` (R187). -/
def chWord (s : State) (n : Nat) : Word :=
  let c := s.chan n
  Word.ofN (c.state.code * 2 ^ 17 + c.src.code * 2 ^ 15 + flagAt c.sw 14 + flagAt (feedOk s (feedOf n)) 13 +
    flagAt c.backfed 12 + flagAt c.openLoad 10 + c.fw.val * 2 ^ 8 + flagAt c.inrush 7 + flagAt c.imbalance 6 +
    flagAt c.reverse 5 + satTo 15 c.used * 2 + flagAt c.probed 0)

/-- The CLAIM bit of a target. -/
def claimBit (g : Target) : Bool := g.claimed = some .black

/-- The status register of a tile or unit (R195, R292, R323, R355), with its address; none for other targets. -/
def unitStatus (s : State) (t : Nat) : List (Nat × Word) :=
  let g := s.tgt t
  let head := flagAt g.silent 19 + flagAt (claimBit g) 18
  if t < 11 then
    [(tileAddr t 0, Word.ofN (head + flagAt g.restoreWait 17 + flagAt (feedOk s (feedOf (16 * t))) 16 +
      flagAt (feedOk s (feedOf (16 * t + 15))) 15 + g.lastReset * 2 ^ 11 + g.resets * 2 ^ 7))]
  else if t = fioT then
    let gs := List.range 6
    [(0x84000, Word.ofN (head + flagAt g.timedOut 17 +
      (gs.map fun k => flagAt (!(s.liveReg (0x84010 + k)).bit 19) (11 + k)).sum +
      (gs.map fun k => flagAt ((s.liveReg (0x84010 + k)).bit 18) (5 + k)).sum))]
  else if t = lgtT then
    [(0x86000, Word.ofN (head + flagAt g.timedOut 17 + flagAt s.sup.vpwrA.ok 16 + flagAt s.sup.vpwrB.ok 15))]
  else if t = accT then
    [(0x88000, ((s.liveReg 0x88000).setBit 19 g.silent).setBit 18 (claimBit g))]
  else []

/-! ### Numbering of inputs (R81 to R85) -/

/-- Inputs and records that a window may number besides its marker (R83). -/
def windowLimit : Nat := 1024

/-- A number has been given: without a standby it is agreed at once (R82). -/
def afterNumber (n : Nat) (s : State) : State :=
  { s with seq := { s.seq with
    next := n + 1, agreed := if (standbyLane s).isNone then n else s.seq.agreed,
    unheard := if (standbyLane s).isNone then [] else s.seq.unheard,
    ended := s.seq.ended || decide (n + 1 = 2 ^ 60) } }

/-- The non-volatile memory has been programmed: its program count moves (R469, R478). -/
def Nvm.programmed (n : Nvm) : Nvm := { n with programs := n.programs + 1 }

/-- The epoch carry of the number that is about to be given (R84, R543). -/
def epochCarry (s : State) : State :=
  let n := s.seq.next
  if n % 2 ^ 40 = 0 ∧ s.seq.agreed < n ∧ s.seq.agreed ≠ 0 then
    let e := n / 2 ^ 40
    let last := decide (e = 0xFFFFF)
    let s := s.mapLanes fun g => if g.role = .out then g else { g with nvm := { g.nvm.programmed with epoch := e } }
    let recs : List RecDraft := [⟨0, 0x00A, 0x9E001, Word.ofN e, 0⟩] ++
      (if last then [⟨0, 0x00B, 0x9E001, Word.ofN e, 0⟩] else [])
    let s := if last then s.mapLanes fun g => { g with startStatus := g.startStatus.setBit 8 true } else s
    { s with seq := { s.seq with epochEnd := s.seq.epochEnd || last, recs := s.seq.recs ++ recs } }
  else s

/-- The per-source count of the next input of a source: one more than the last, wrapping at 2²⁰ (R85). -/
def nextCount (s : State) (src : Nat) : Nat := (Sparse.get (fun _ => 0) s.seq.counts src + 1) % 2 ^ 20

/-- One more input of a source has been presented. -/
def countSource (src : Nat) (s : State) : State :=
  { s with seq := { s.seq with counts := Sparse.set (fun _ => 0) s.seq.counts src (nextCount s src) } }

/-- A castling request that is numbered tells whether COVERED reads 1 then (R108). -/
def Act.numbered (cov : Bool) : Act → Act
  | .packet p => .packet { p with covered := cov }
  | .castle _ => .castle cov
  | a => a

/-- The active half numbers an input at time `t` (R81, R85). -/
def numberInput (t : Nat) (i : Input) (s : State) : State :=
  let s := epochCarry s
  let n := s.seq.next
  afterNumber n
    { s with seq := { s.seq with window := s.seq.window ++ [{ i with seq := n, time := t, act := i.act.numbered (covered s) }], used := s.seq.used + 1 } }

/-- The sequencer numbers inputs: from the first active ply of a start, while a lane is active. -/
def sequencerRuns (s : State) : Bool := s.seq.running

/-- A source presents an input to both halves: numbered at once, or held while the window is full or no lane numbers
(R81, R83, R101). -/
def present (src : Nat) (payload : List Word) (act : Act) (s : State) : State :=
  if s.seq.running then
    let i : Input := ⟨0, s.now, src, payload, nextCount s src, act⟩
    let s := countSource src s
    if s.seq.ended || (activeLane s).isNone then { s with seq := { s.seq with held := s.seq.held ++ [i] } }
    else if s.seq.used < windowLimit then numberInput s.now i s
    else { s with seq := { s.seq with held := s.seq.held ++ [i], spilled := s.seq.spilled + 1 } }
  else s

/-- The latest boundary that has passed. -/
def lastBoundary (s : State) : Nat :=
  let ms := (s.seq.window.filter fun i => i.src = 0).map Input.time
  (ms ++ s.seq.missed).foldl max s.ply.boundary

/-! ### Records (R537 to R540) -/

/-- The lanes make a record; its time is that of the input in work (R539). -/
def laneRecord (r : RecDraft) (s : State) : State := { s with ply := { s.ply with recs := s.ply.recs ++ [(r, s.ply.at_)] } }

/-- Several records of one input. -/
def laneRecords (rs : List RecDraft) (s : State) : State := rs.foldl (fun s r => laneRecord r s) s

/-- A write that a lane rule refuses (R235, R545). -/
def writeRefused (m a : Nat) (v : Word) (s : State) : State := laneRecord ⟨2, 4, Word.ofN a, v, Word.ofN m⟩ s

/-! ### Wake events (R475) -/

/-- CAUSE of a touch round or poll that granted access. -/
def wakeGrantCause : Nat := 5
/-- CAUSE of an access alarm. -/
def wakeAlarm : Nat := 6

/-- The module is in PARKED or DEEP, where the lanes are unpowered (R463). -/
def asleep (s : State) : Bool := s.pwr.state = .parked || s.pwr.state = .deep

/-- The AO latches the first wake event while the lanes do not run (R468, R475). -/
def raiseWake (cause idx : Nat) (s : State) : State :=
  match s.pwr.held with
  | none => { s with pwr := { s.pwr with held := some (cause, idx) } }
  | some _ => s

/-! ### Reports of tiles and units (R183, R184) -/

/-- The silence rules apply to a target: a lane has claimed it and it has taken no park notice (R468, R558). -/
def Target.watched (g : Target) : Bool := g.claimed.isSome && !g.parked

/-- Ticks since the last ply close that target `t` received, or at a silent tile since its previous report (R183, R290, R321,
R353). -/
def sinceReport (s : State) (t : Nat) : Nat :=
  let g := s.tgt t
  s.clock - (if g.silent && decide (t < 11) then g.lastReport else g.lastClose)

/-- Time of a change in units of 100 ns (R183). -/
def timeWord (s : State) (t : Nat) : Word := Word.sat (sinceReport s t / 10)

/-- An entry is kept for the next report of target `t`. -/
def pushEntry (t : Nat) (e : Entry) (s : State) : State := s.modTgt t fun g => { g with entries := g.entries ++ [e] }

/-- The tile of channel `n` is in tile sleep (R474). -/
def tileAsleep (s : State) (n : Nat) : Bool := s.pwr.sleeping.contains (n / 16)

/-- A park channel of a sleeping tile that enters LATCHED or COOLING is a wake source where PARK_FLT enables it (R475). -/
def parkFault (n cause : Nat) (s : State) : State :=
  let st := (s.chan n).state
  if tileAsleep s n && (st = .latched || st = .cooling) && decide (0x010 ≤ cause) && decide (cause ≤ 0x024)
      && (s.copyReg 0x9E006).bit 16 then
    raiseWake 9 (n / 16) s
  else s

/-- A state entry of channel `n` with its word 2; `own` and `pulse` as `Entry` has them (R183, R221, R546). -/
def reportChAs (n cause : Nat) (w2 arg1 : Word) (own pulse : Bool) (s : State) : State :=
  let w := chWord s n
  let s := parkFault n cause s
  pushEntry (n / 16)
    { kind := 0, obj := n, cause := cause, state := w, words := [Word.ofN (n * 4096 + cause), w, w2],
      copy := [(chanAddr n 1, w), (chanAddr n 2, (s.chan n).fault)],
      recs := [⟨3, cause, Word.ofN (chanAddr n 1), w, arg1⟩], time := s.now, own := own, pulse := pulse } s

/-- A state entry of channel `n` for a cause of its own (R183). -/
def reportCh (n cause : Nat) (arg1 : Word) (s : State) : State :=
  reportChAs n cause (timeWord s (n / 16)) arg1 true false s

/-- The record of an entry that stands for omitted changes (R184, R546 to R551). -/
def omittedRec (e : Entry) (r : RecDraft) : RecDraft :=
  if r.cls = 3 then ⟨3, 0xFFF, r.src, e.state, 0⟩
  else if r.cls = 8 then ⟨8, 0xFFF, r.src, 0, 0⟩
  else ⟨r.cls, 0xFFF, r.src, r.arg0, e.state⟩

/-- The state word of an entry's object at presentation: its first copy word as `now` has it (R184). -/
def stateNow (now : List (Nat × Word)) (e : Entry) : Word :=
  match e.copy.head? with
  | some p => ((now.find? fun q => q.1 = p.1).map (·.2)).getD e.state
  | none => e.state

/-- The fourth entry of an object that changed more often: its state at presentation, with cause FFFh (R184). -/
def omittedEntry (now : List (Nat × Word)) (e : Entry) : Entry :=
  let e := { e with state := stateNow now e }
  { e with
    cause := 0xFFF, words := [Word.ofN (e.obj * 4096 + 0xFFF), e.state, e.words.getD 2 0],
    copy := match e.copy with | p :: ps => (p.1, e.state) :: ps | [] => [],
    recs := e.recs.map (omittedRec e) }

/-- At most four state entries for one object, in order of change (R184). -/
def packEntries (now : List (Nat × Word)) (es : List Entry) : List Entry :=
  es.zipIdx.filterMap fun p =>
    let same := fun (e : Entry) => e.kind = 0 && e.obj = p.1.obj
    let before := ((es.take p.2).filter same).length
    if p.1.kind ≠ 0 ∨ before < 3 then some p.1
    else if before = 3 then
      match ((es.drop (p.2 + 1)).filter same).getLast? with
      | none => some p.1
      | some l => some (omittedEntry now l)
    else none

/-- The entry of a refused write: it restores the register in the lanes' copy (R154, R183, R547). DEDUCED, assumption
log 26. -/
def refusalEntry (s : State) (t : Nat) (r : Refused) : Entry :=
  { kind := 2, obj := 0, cause := 0, state := 0, words := [r.word0, r.value], copy := [(r.addr, s.liveReg r.addr)],
    recs := [if t < 11 then ⟨4, 0x005, Word.ofN (tileAddr t 0), r.word0, r.value⟩
      else ⟨2, 0x004, Word.ofN r.addr, r.value, r.word0⟩],
    time := s.now, own := true, pulse := false }

/-- One report of one kind; the records that no entry carries go with the first (R184). -/
def presentKind (t : Nat) (now : List (Nat × Word)) (es : List Entry) (k : Nat) (s : State) : State :=
  let mine := es.filter fun e => e.kind = k
  if mine.isEmpty then s
  else
    let recs := (s.tgt t).recs
    let ws := Word.ofN (k * 2 ^ 16 + mine.length) :: mine.flatMap Entry.words
    present (sourceOf t) ws (.report t mine recs now) (s.modTgt t fun g => { g with recs := [], lastReport := s.clock })

/-- The shadow report of a target, with the stamp of the command concerned: one at a time, with its other reports
(R94, R183, R184, R547). -/
def presentShadow (t : Nat) (s : State) : State :=
  match (s.tgt t).shadowDue with
  | none => s
  | some (missing, count, ply, idx) =>
    present (sourceOf t) ([0x10001] ++ wordsOf ply 3 ++ [Word.ofN idx, Word.ofN (flagAt missing 19)])
      (.shadow t missing count) (s.modTgt t fun g => { g with shadowDue := none })

/-- An entry that the report of this moment carries: at a ply close every one, otherwise state and supply entries (R184). -/
def reportedNow (all : Bool) (e : Entry) : Bool := all || e.kind = 0 || e.kind = 4

/-- A tile or unit presents one report of each kind that has content (R184, R290, R321, R353); at other times than a ply close,
which `all` tells, a state or supply report alone. `now` lists the registers that it shows the lanes beside the entries; they reach the copy with these reports, or at
once where it has none to present. DEDUCED, assumption log 10. -/
def presentReport (t : Nat) (all : Bool) (now : List (Nat × Word)) (s : State) : State :=
  let g := s.tgt t
  let es := packEntries now (g.entries.filter (reportedNow all)) ++ (if all then g.refusals.map (refusalEntry s t) else [])
  let s := s.modTgt t fun g =>
    { g with entries := g.entries.filter fun e => !reportedNow all e, refusals := if all then [] else g.refusals }
  let s := if es.isEmpty then s.setReported now else s
  let s := presentKind t now es 0 s
  let s := if all then presentShadow t s else s
  (if all then [2, 4, 5] else [4]).foldl (fun s k => presentKind t now es k s) s

/-! ### The wire model's limits (R205 to R208) -/

/-- T_INS − TILE_AMB of channel `n` in units of 2⁻²⁰ K. -/
def wireMargin (s : State) (n : Nat) : Int :=
  (((chReg s n 15).field 19 12 : Nat) - (s.liveReg (tileAddr (n / 16) 2)).s20) * 2 ^ 20

/-- TILE_AMB + θ1 of channel `n` is above `lim` °C. -/
def wireAbove (s : State) (n lim : Nat) : Bool :=
  decide (((lim : Int) - (s.liveReg (tileAddr (n / 16) 2)).s20) * 2 ^ 20 < (s.chan n).theta1)

/-- θ1 has reached 90 % of the margin, in whole units of θ1 (R207). DEDUCED, assumption log 32. -/
def wireWarns (margin : Int) (theta1 : Nat) : Bool := decide (9 * margin / 10 ≤ (theta1 : Int))

/-- WIRE_WARN sets where θ1 has reached 90 % of the margin and stood below it before (R207). -/
def wireWarn (n : Nat) (was : Bool) (s : State) : State :=
  let t1 := (s.chan n).theta1
  if wireWarns (wireMargin s n) t1 && !was then
    reportCh n 0x013 (Word.ofN (t1 / 4096)) (s.modChan n fun c =>
      { c with fault := c.fault.setBit 12 true, warned := true })
  else s.modChan n fun c => { c with warned := wireWarns (wireMargin s n) t1 }

/-- The safe state that a load takes: in a maintenance start every load stays OFF (R71). -/
def safeMode (s : State) (m : Nat) : Nat := if s.maintenance && decide (m = 1) then 0 else m

/-- The wire model of channel `n` starts (R207, R208): the margin's part is rounded down to 2⁻²⁰ K, and is 0 of a negative margin.
DESIGN CHOICE, assumption log 92. -/
def startWire (n : Nat) (s : State) : State :=
  let pct := (s.liveReg (tileAddr (n / 16) 3)).field 19 13
  let th := min ((wireMargin s n).toNat * pct / 100) (2 ^ 31 - 1)
  let s := s.modChan n fun c => { c with theta1 := th, theta2 := th, sqSum := 0, sqCount := 0 }
  if leaderOf s n = n then wireWarn n false s else s

end Sys2Proof.Machine
end

