-- ==== Sys2Proof/Machine/Aes.lean ====
section
/-! DEFINITION. The cryptography that the spec names: AES, CMAC and AES key wrap on octets (R340, R344, R352, R413, R417, R527). What
they compute is taken from the standards that the spec cites. PRESUMED, assumption log 68. -/

namespace Sys2Proof.Machine

open Sys2Proof

/-- Octets of a number, the least significant first. -/
def littleOctets (n k : Nat) : List Nat := (List.range k).map fun i => n / 256 ^ i % 256

/-- The number of octets that stand the least significant first. -/
def littleNumber (os : List Nat) : Nat := os.foldr (fun o n => o + 256 * n) 0

/-- Octets of a number, the most significant first. -/
def bigOctets (n k : Nat) : List Nat := (littleOctets n k).reverse

/-- The number of octets that stand the most significant first. -/
def bigNumber (os : List Nat) : Nat := os.foldl (fun n o => 256 * n + o) 0

/-- The exclusive or of two lists of octets. -/
def xorOctets (a b : List Nat) : List Nat := List.zipWith Nat.xor a b

/-! ### AES (FIPS 197) -/

/-- An entry of a table of 256 octets, packed by sixteens. -/
def packedOctet (t : List Nat) (x : Nat) : Nat := t.getD (x / 16) 0 / 256 ^ (x % 16) % 256

/-- The substitution of AES. -/
def sboxTable : List Nat :=
  [ 0x76ABD7FE2B670130C56F6BF27B777C63, 0xC072A49CAFA2D4ADF04759FA7DC982CA, 0x1531D871F1E5A534CCF73F362693FDB7,
    0x75B227EBE28012079A059618C323C704, 0x842FE329B3D63B52A05A6E1B1A2C8309, 0xCF584C4A39BECB6A5BB1FC20ED00D153,
    0xA89F3C507F02F94585334D43FBAAEFD0, 0xD2F3FF1021DAB6BCF5389D928F40A351, 0x73195D643D7EA7C41744975FEC130CCD,
    0xDB0B5EDE14B8EE4688902A22DC4F8160, 0x79E4959162ACD3C25C2406490A3A32E0, 0x08AE7A65EAF4566CA94ED58D6D37C8E7,
    0x8A8BBD4B1F74DDE8C6B4A61C2E2578BA, 0x9E1DC186B95735610EF6034866B53E70, 0xDF2855CEE9871E9B948ED9691198F8E1,
    0x16BB54B00F2D99416842E6BF0D89A18C ]

/-- Its inverse. -/
def invSboxTable : List Nat :=
  [ 0xFBD7F3819EA340BF38A53630D56A0952, 0xCBE9DEC444438E3487FF2F9B8239E37C, 0x4EC3FA420B954CEE3D23C2A632947B54,
    0x25D18B6D49A25B76B224D92866A12E08, 0x92B6655DCC5CA4D41698688664F6F872, 0x849D8DA75746155EDAB9EDFD5048706C,
    0x0645B3B80558E4F70AD3BC8C00ABD890, 0x6B8A130103BDAFC1020F3FCA8F1E2CD0, 0x73E6B4F0CECFF297EADC674F4111913A,
    0x6EDF751CE837F9E28535ADE72274AC96, 0x1BBE18AA0E62B76F89C5291D711AF147, 0xF45ACD78FEC0DB9A2079D2C64B3E56FC,
    0x5FEC8027591012B131C7078833A8DD1F, 0xEF9CC9939F7AE52D0D4AB519A97F5160, 0x619953833CBBEBC8B0F52AAE4D3BE0A0,
    0x7D0C2155631469E126D677BA7E042B17 ]

/-- SubBytes of one octet. -/
def subOctet (x : Nat) : Nat := packedOctet sboxTable x

/-- Its inverse. -/
def invSubOctet (x : Nat) : Nat := packedOctet invSboxTable x

/-- The product with x in the field of AES. -/
def xtimes (a : Nat) : Nat := if a < 128 then 2 * a else Nat.xor (2 * a) 0x11B

/-- The product with a constant of four bits in the field of AES. -/
def fieldTimes (k a : Nat) : Nat :=
  let a2 := xtimes a
  let a4 := xtimes a2
  Nat.xor (Nat.xor (if k % 2 = 1 then a else 0) (if k / 2 % 2 = 1 then a2 else 0))
    (Nat.xor (if k / 4 % 2 = 1 then a4 else 0) (if k / 8 % 2 = 1 then xtimes a4 else 0))

/-- A column times the circulant matrix whose first row is `ks` (MixColumns and its inverse). -/
def mixColumn (ks col : List Nat) : List Nat :=
  (List.range 4).map fun r =>
    (List.range 4).foldl (fun a c => Nat.xor a (fieldTimes (ks.getD ((c + 4 - r) % 4) 0) (col.getD c 0))) 0

/-- The four columns of a block. -/
def columnsOf (b : List Nat) : List (List Nat) := (List.range 4).map fun c => (b.drop (4 * c)).take 4

/-- MixColumns and its inverse. -/
def mixColumns (ks b : List Nat) : List Nat := (columnsOf b).flatMap (mixColumn ks)

/-- ShiftRows, where row r moves by `k` r columns: 1 in the cipher, 3 in its inverse. -/
def shiftRows (k : Nat) (b : List Nat) : List Nat :=
  (List.range 16).map fun i => b.getD (i % 4 + 4 * ((i / 4 + k * (i % 4)) % 4)) 0

/-- The next word of the key schedule; the words so far stand newest first. -/
def nextKeyWord (nk i : Nat) (ws : List (List Nat)) : List Nat :=
  let prev := ws.getD 0 []
  let t := if i % nk = 0 then
      xorOctets ((prev.drop 1 ++ prev.take 1).map subOctet)
        [[0x01, 0x02, 0x04, 0x08, 0x10, 0x20, 0x40, 0x80, 0x1B, 0x36].getD (i / nk - 1) 0, 0, 0, 0]
    else if 6 < nk ∧ i % nk = 4 then prev.map subOctet
    else prev
  xorOctets (ws.getD (nk - 1) []) t

/-- The round keys, of 16 octets each, of a key of 16 or 32 octets. -/
def roundKeys (key : List Nat) : List (List Nat) :=
  let nk := key.length / 4
  let first := (List.range nk).map fun i => (key.drop (4 * i)).take 4
  let ws := ((List.range (4 * (nk + 7) - nk)).foldl (fun ws i => nextKeyWord nk (nk + i) ws :: ws) first.reverse).reverse
  (List.range (nk + 7)).map fun r => ((ws.drop (4 * r)).take 4).flatten

/-- AES of one block of 16 octets. -/
def aesEncrypt (key block : List Nat) : List Nat :=
  let ks := roundKeys key
  let mid := ((ks.drop 1).dropLast).foldl
    (fun b k => xorOctets (mixColumns [2, 3, 1, 1] (shiftRows 1 (b.map subOctet))) k) (xorOctets block (ks.headD []))
  xorOctets (shiftRows 1 (mid.map subOctet)) (ks.getLastD [])

/-- The inverse of AES on one block of 16 octets. -/
def aesDecrypt (key block : List Nat) : List Nat :=
  let ks := (roundKeys key).reverse
  let back := fun (b k : List Nat) => xorOctets ((shiftRows 3 b).map invSubOctet) k
  let mid := ((ks.drop 1).dropLast).foldl (fun b k => mixColumns [14, 11, 13, 9] (back b k)) (xorOctets block (ks.headD []))
  back mid (ks.getLastD [])

/-! ### CMAC (NIST SP 800-38B) -/

/-- The doubling that gives the subkeys. -/
def cmacDouble (b : List Nat) : List Nat :=
  let n := bigNumber b
  bigOctets (Nat.xor (2 * n % 2 ^ 128) (if 2 ^ 127 ≤ n then 0x87 else 0)) 16

/-- Octets in blocks of 16, the last of which may be short; none for no octets. -/
def blocksOf (os : List Nat) : List (List Nat) :=
  (List.range ((os.length + 15) / 16)).map fun i => (os.drop (16 * i)).take 16

/-- AES-CMAC of octets, 16 octets. -/
def cmac (key os : List Nat) : List Nat :=
  let k1 := cmacDouble (aesEncrypt key (List.replicate 16 0))
  let bs := blocksOf os
  let last := bs.getLastD []
  let final := if last.length = 16 then xorOctets last k1
    else xorOctets (last ++ 0x80 :: List.replicate (15 - last.length) 0) (cmacDouble k1)
  aesEncrypt key (xorOctets final (bs.dropLast.foldl (fun x b => aesEncrypt key (xorOctets x b)) (List.replicate 16 0)))

/-! ### AES key wrap (IETF RFC 3394) -/

/-- One step of the unwrap: the register A with the blocks R, for the step number `t`. -/
def unwrapStep (key : List Nat) (r : List Nat × List (List Nat)) (t : Nat) : List Nat × List (List Nat) :=
  let i := (t - 1) % r.2.length
  let b := aesDecrypt key (xorOctets r.1 (bigOctets t 8) ++ r.2.getD i [])
  (b.take 8, r.2.set i (b.drop 8))

/-- The key that wrapped octets carry; none where their length is not one of a wrapped key, or the integrity check fails. -/
def keyUnwrap (key os : List Nat) : Option (List Nat) :=
  let n := os.length / 8 - 1
  if os.length % 8 ≠ 0 ∨ n < 2 then none
  else
    let r := ((List.range (6 * n)).map (· + 1)).reverse.foldl (unwrapStep key)
      (os.take 8, (List.range n).map fun i => (os.drop (8 * (i + 1))).take 8)
    if r.1 = List.replicate 8 0xA6 then some r.2.flatten else none

/-! ### The same on numbers: a key, a MAC and an unwrapped key have their first octet the least significant -/

/-- AES-128-CMAC under a key (R352, R413). -/
def cmac128 (key : Nat) (os : List Nat) : Nat := littleNumber (cmac (littleOctets key 16) os)

/-- AES-256-CMAC under a key (R417). -/
def cmac256 (key : Nat) (os : List Nat) : Nat := littleNumber (cmac (littleOctets key 32) os)

/-- AES-128 of a block, which stands as a number with its first octet the most significant (R340). -/
def aes128 (key block : Nat) : Nat := bigNumber (aesEncrypt (littleOctets key 16) (bigOctets block 16))

/-- AES key unwrap under a 256-bit key (R344, R527). -/
def unwrapKey (key : Nat) (os : List Nat) : Option Nat := (keyUnwrap (littleOctets key 32) os).map littleNumber

end Sys2Proof.Machine
end

