-- ==== Sys2Proof/Machine/Channel.lean ====
section
/-! DEFINITION. Protected load channels: commands, states, probes and tile reports (R151 to R196). -/

namespace Sys2Proof.Machine

open Sys2Proof

/-- A tile applies lane commands once a lane has claimed it, and neither while it waits for the restore sequence
nor while it is silent (R64, R165, R558). The spec leaves two points open: an ON that reaches the tile in the hold-up after power-fail
is applied, and a channel in SAFE of a tile that is not silent takes ON and OFF without a new claim. DESIGN CHOICE, assumption log
91. -/
def tileAccepts (s : State) (t : Nat) : Bool :=
  (s.tgt t).claimed.isSome && !(s.tgt t).restoreWait && !(s.tgt t).silent

/-- Refusal of a write to offset `off` of the block `blk` (a channel, or B0h + t), KIND 2h of R183. -/
def refuseTile (t blk off reason : Nat) (v : Word) (s : State) : State :=
  let a := if blk < 176 then chanAddr blk off else tileAddr (blk - 0xB0) off
  s.modTgt t fun g => { g with refusals := g.refusals ++ [⟨Word.ofN (blk * 4096 + off * 128 + reason), v, a⟩] }

/-- Refusal of a channel write, with the reasons of R183. -/
def refuseCh (n off reason : Nat) (v : Word) (s : State) : State := refuseTile (n / 16) n off reason v s

/-- The voltage of the back-feed threshold in units of 100 µV, as the group's leader sets it (R176, R193). DESIGN CHOICE,
assumption log 70. -/
def bfThreshold (s : State) (n : Nat) : Int := 10000 + 5000 * ((chReg s (leaderOf s n) 8).field 19 16 : Nat)

/-- A closing of the switch into `st`; `window` says whether it opens an inrush window (R167). -/
def Chan.close (st : ChState) (src : Src) (window : Bool) (retryReg : Word) (c : Chan) : Chan :=
  { c with
    state := st, src := src, sw := true, probe := none, ocCount := 0, arcWindows := [], revRun := 0, waitOff := false,
    bfHigh := 0, bfLow := 0, switched := true, cut := none,
    inrush := window || c.inrush, arcSpoilt := window || c.arcSpoilt,
    used := if window then 0 else c.used,
    winRetry := if window then retryReg else c.winRetry }

/-- An opening of the switch into `st`. -/
def Chan.openTo (st : ChState) (c : Chan) : Chan :=
  { c with
    state := st, sw := false, ocCount := 0, probe := none, waitOff := false, revRun := 0, bfHigh := 0, bfLow := 0,
    switched := c.sw || c.switched }

/-- The state a closing returns to, according to SRC (R159). -/
def Src.closedState : Src → ChState
  | .lane => .on
  | .hold => .hold
  | .safe => .safe

/-- LATCHED with the cause in LATCH_CAUSE (R219). -/
def Chan.latch (cause : Nat) (c : Chan) : Chan :=
  let o := c.openTo .latched
  { o with fault := o.fault.put 19 16 cause }

/-- Rank in R199 of a cause of R546 that opens a switch; 10 for the expiry of the hold time, on which a trip of the same
cycle comes first (R160); 0 for every other cause. -/
def causeRank (cause : Nat) : Nat :=
  if cause = 0x002 then 2 else if cause = 0x015 then 3 else if cause = 0x014 ∨ cause = 0x024 then 4
  else if cause = 0x010 then 5 else if cause = 0x011 then 6 else if cause = 0x012 then 7 else if cause = 0x019 then 8
  else if cause = 0x018 then 9 else if cause = 0x006 then 10 else 0

/-- The switch was opened in the present cycle by a cause of R199, so that a further cause acts with it (R200). DEDUCED,
assumption log 76. -/
def Chan.cutNow (c : Chan) (now : Nat) : Bool :=
  match c.cut with
  | some k => decide (k.time = now) && decide (causeRank k.cause ≠ 0)
  | none => false

/-- The opening of the present cycle was decided by a cause that `cause` outranks (R199, R200). -/
def Chan.outranked (c : Chan) (now cause : Nat) : Bool :=
  match c.cut with
  | some k => c.cutNow now && decide (causeRank cause < causeRank k.cause)
  | none => false

/-- `f` applied to a channel, noting the opening of its switch, or its latching after the pulse of a freewheel probe, or a new
decision of one in the same cycle. -/
def Chan.changed (now cause : Nat) (f : Chan → Chan) (c : Chan) : Chan :=
  let d := f c
  if (c.sw || (decide (cause = 0x018) && decide (d.state = .latched))) && !d.sw then { d with cut := some ⟨now, cause, c.ocCount⟩, openedAt := some now }
  else if c.cutNow now && decide (causeRank cause ≠ 0) then { d with cut := d.cut.map fun k => { k with cause := cause } }
  else { d with cut := none }

/-- The entries of channel `n` for causes of the present cycle show the state that the highest-ranked cause decides
(R200). -/
def settleEntries (n : Nat) (s : State) : State :=
  let w := chWord s n
  s.modTgt (n / 16) fun g => { g with entries := g.entries.map fun e =>
    if e.kind = 0 ∧ e.obj = n ∧ e.time = s.now ∧ causeRank e.cause ≠ 0 then
      { e with
        state := w, words := (e.words.take 1) ++ [w] ++ e.words.drop 2,
        copy := [(chanAddr n 1, w), (chanAddr n 2, (s.chan n).fault)],
        recs := e.recs.map fun r => { r with arg0 := w } }
    else e }

/-- One member of a group changes, and the entry of the change follows; `at_` is the member at which the cause arose. -/
def changeOne (at_ cause : Nat) (w2 : Option Word) (arg1 : Word) (pulse : Bool) (f : Chan → Chan) (s : State) (m : Nat) :
    State :=
  let again := (s.chan m).cutNow s.clock && decide (causeRank cause ≠ 0)
  let s := s.modChan m (Chan.changed s.clock cause f)
  let s := if again then settleEntries m s else s
  reportChAs m cause (w2.getD (timeWord s (m / 16))) arg1 (m = at_) pulse s

/-- The freewheel probe of the channel's group is under way (R169). -/
def pulsed (s : State) (n : Nat) : Bool :=
  match (s.chan (leaderOf s n)).probe with
  | some (.freewheel, _) => true
  | _ => false

/-- Apply `f` to the channel and to every other member of its parallel group (R176), and report each. -/
def changeGroup (n cause : Nat) (arg1 : Word) (f : Chan → Chan) (s : State) : State :=
  let p := pulsed s n
  (members s n).foldl (changeOne n cause none arg1 p f) s

/-- The switch closes on an ON command (R159, R167). -/
def closeOn (n : Nat) (s : State) : State :=
  let rr := chReg s n 6
  changeGroup n 0x001 0 (Chan.close .on .lane true rr) s

/-- The switch closes on a safe state of ON (R163). -/
def closeSafe (n : Nat) (s : State) : State :=
  let rr := chReg s n 6
  changeGroup n 0x006 1 (Chan.close .safe .safe true rr) s

/-- COOLING entered by a command or an expiry that would close the switch while a thermal latch is set (R159). -/
def coolInstead (n cause : Nat) (src : Src) (s : State) : State :=
  let rr := chReg s n 6
  changeGroup n cause (if src = .safe then 1 else 0)
    (fun c => { (c.openTo .cooling) with src := src, inrush := true, arcSpoilt := true, used := 0, winRetry := rr }) s

/-- The closing that follows the last probe; a thermal latch of any member holds it off (R159, R176). -/
def finishClosing (n : Nat) (src : Src) (s : State) : State :=
  if groupCool s n = false then coolInstead n (if src = .safe then 0x006 else 0x001) src s
  else if src = .safe then closeSafe n s else closeOn n s

/-- The freewheel probe where CH_CFG.INDUCTIVE asks for it, else the closing (R169). DEDUCED, assumption log 33. -/
def freewheelOrClose (n : Nat) (src : Src) (s : State) : State :=
  if (chReg s n 3).bit 16 then
    (members s n).foldl (fun s m => s.modChan m fun c => { c with switched := true })
      (s.modChan n fun c => { c with probe := some (.freewheel, src) })
  else finishClosing n src s

/-- An ON command that closes an open switch: the first-turn-on probe, then the freewheel probe, then the closing
(R173). An ON that a thermal latch turns into COOLING runs no probe then, nor does the closing that follows, and PROBED stays 0: R169
excepts that closing for the freewheel probe alone. DESIGN CHOICE, assumption log 91. -/
def startTurnOn (n : Nat) (s : State) : State :=
  if groupCool s n = false then coolInstead n 0x001 .lane s
  else if (s.chan n).probed then freewheelOrClose n .lane s
  else s.modChan n fun c => { c with probe := some (.firstTurnOn, .lane) }

/-- The tile carries out ON (R157, R159), which a maintenance start never commands (R71). Of several reasons for a refusal it reports 03h before 01h before 02h, and ON to a
channel in RETRY or COOLING moves SRC to LANE without an entry. DESIGN CHOICE, assumption log 77. -/
def chOn (n : Nat) (v : Word) (s : State) : State :=
  let c := s.chan n
  if s.maintenance then s
  else if leaderOf s n ≠ n then refuseCh n 0 0x03 v s
  else if (chReg s n 3).bit 17 = false then refuseCh n 0 0x01 v s
  else match c.state with
    | .latched => refuseCh n 0 0x02 v s
    | .off => if c.probe.isSome then s else startTurnOn n s
    | .safe =>
      if c.sw then changeGroup n 0x001 0 (fun c => { c with state := .on, src := .lane }) s
      else if c.probe.isSome then s.modChan n fun c => { c with probe := c.probe.map fun p => (p.1, .lane) }
      else startTurnOn n s
    | .retry => (members s n).foldl (fun s m => s.modChan m fun c => { c with src := .lane }) s
    | .cooling => (members s n).foldl (fun s m => s.modChan m fun c => { c with src := .lane }) s
    | .on => s
    | .hold => s

/-- The tile carries out OFF (R157, R159): it opens the switch and ends a retry sequence; in the cycle of a trip it comes
before the latch of that trip (R160). OFF to a channel in OFF has no effect, and a member of a group is commanded through its
leader alone (R176; log 77). -/
def chOff (n : Nat) (s : State) : State :=
  let c := s.chan n
  let off := fun (c : Chan) => { (c.openTo .off) with src := .lane, fault := c.fault.put 19 16 0 }
  if leaderOf s n ≠ n then s
  else match c.state with
    | .on | .safe | .retry | .cooling =>
      let ends := match c.probe with
        | some (.freewheel, _) => some s.clock
        | _ => none
      changeGroup n 0x002 0 (fun c => { off c with probeOff := ends }) s
    | .latched => if c.outranked s.clock 0x002 then changeGroup n 0x002 0 off s else s
    | .off | .hold => s

/-- The tile carries out CLEAR on a LATCHED channel, through its leader in a group (R157, R176, R207, R220). -/
def chClear (n : Nat) (v : Word) (s : State) : State :=
  let c := s.chan n
  if leaderOf s n ≠ n ∨ c.state ≠ .latched then s
  else if c.fault.field 19 16 = 3 ∧ wireAbove s n ((chReg s n 15).field 11 4) = true then refuseCh n 0 0x05 v s
  else changeGroup n 0x003 0
    (fun c => { c with state := .off, src := .lane, sw := false, probed := false, fw := 0, fault := c.fault.put 19 16 0 }) s

/-- The tile carries out PROBE: the open-load probe runs in the next ply, in OFF alone (R157, R174). -/
def chProbe (n : Nat) (s : State) : State :=
  if leaderOf s n = n ∧ (s.chan n).state = .off then s.modChan n fun c => { c with probeReq := true } else s

/-- A CH_CTL write at the tile: CLEAR first, then OFF or ON (R157, R186). PROBE is carried out last. DESIGN CHOICE, assumption
log 77. -/
def chCtl (n : Nat) (v : Word) (s : State) : State :=
  let s := if v.bit 17 then chClear n v s else s
  let s := if v.bit 18 then chOff n s else if v.bit 19 then chOn n v s else s
  if v.bit 16 then chProbe n s else s

/-- How many channels of the tile have PARK = 1 (R188 allows 8). -/
def parkCount (s : State) (t : Nat) : Nat :=
  ((List.range 16).filter fun k => (chReg s (16 * t + k) 3).bit 14).length

/-- One of the four wire parameters of the channel has a mantissa of 0 (R206). -/
def wireUnset (s : State) (n : Nat) : Bool :=
  [0x0B, 0x0C, 0x0D, 0x0E].any fun off => (chReg s n off).field 15 0 = 0

/-- The reason for which a write to CH_CFG is refused, 0 for none (R164, R188, R206, R473). -/
def chCfgReason (n : Nat) (v : Word) (s : State) : Nat :=
  let c := s.chan n
  let old := chReg s n 3
  if c.state ≠ .off ∧ c.state ≠ .latched then 0x05
  else if v.bit 14 && ((chReg s n 7).field 19 18 = 1 || (chReg s n 7).field 19 18 = 2) then 0x05
  else if v.bit 14 && (classOf n ≠ 2 || (!old.bit 14 && decide (8 ≤ parkCount s (n / 16)))) then 0x04
  else if !v.bit 15 && decide ((chReg s n 4).field 19 18 = 2) then 0x07
  else if v.bit 17 && wireUnset s n then 0x05
  else 0

/-- A CH_CFG write at the tile; an accepted one resets PROBED and FW (R188). It also ends a probe in progress. DESIGN CHOICE,
assumption log 77. -/
def chCfgWrite (n : Nat) (v : Word) (s : State) : State :=
  let r := chCfgReason n v s
  if r ≠ 0 then refuseCh n 3 r v s
  else (s.setLive (chanAddr n 3) (regWrite (chanAddr n 3) (chReg s n 3) v)).modChan n
    fun c => { c with probed := false, fw := 0, probe := none }

/-- The first-turn-on probe ends: BACKFED on one measurement, then OPEN_LOAD; neither prevents the turn-on (R173). In a parallel
group the leader alone takes the results, since the spec does not say what the other members' bits read. DESIGN CHOICE, assumption
log 91. -/
def firstProbeEnd (n : Nat) (vOff vProbe : Word) (s : State) : State :=
  match (s.chan n).probe with
  | some (.firstTurnOn, src) =>
    let thr := bfThreshold s n
    let was := s.chan n
    let bf := if vOff.s20 > thr then true else if vOff.s20 < thr - 5000 then false else was.backfed
    let ol := decide (vProbe.s20 > 40000)
    let s := s.modChan n fun c =>
      { c with
        backfed := bf, openLoad := ol, probed := true, probe := none, bfHigh := 0, bfLow := 0,
        fault := (c.fault.setBit 7 (c.fault.bit 7 || bf)).setBit 6 (c.fault.bit 6 || ol) }
    let s := if bf ≠ was.backfed then reportCh n (if bf then 0x01C else 0x01D) vOff s else s
    let s := if ol ≠ was.openLoad then reportCh n (if ol then 0x01E else 0x025) 0 s else s
    let s := reportCh n 0x00A 0 s
    freewheelOrClose n src s
  | _ => s

/-- The freewheel probe ends, with the most negative output voltage in units of 100 µV (R169). A thermal latch that has set
meanwhile outranks a missing path (R199), and so does an OFF of the same cycle, beside which the fault bit is set (R200). The
magnitude that the entry carries is rounded down to 0.1 V. DESIGN CHOICE,
assumption log 78. -/
def freewheelEnd (n : Nat) (vNeg : Word) (s : State) : State :=
  match (s.chan n).probe with
  | some (.freewheel, src) =>
    let v := vNeg.s20
    let s := (members s n).foldl (fun s m => s.modChan m fun c => { c with openedAt := some s.clock }) s
    if v < -20000 then
      let mag := satTo 0xFF ((-v).toNat / 1000)
      let us := satTo 0xFFF (sinceReport s (n / 16) / 100)
      let w2 := Word.ofN (mag * 4096 + us)
      let rr := chReg s n 6
      let cool := groupCool s n
      let f := fun (c : Chan) =>
        let d : Chan :=
          if cool then c.latch 5
          else { (c.openTo .cooling) with src := src, inrush := true, arcSpoilt := true, used := 0, winRetry := rr }
        { d with fw := 2, fault := d.fault.setBit 9 true }
      (members s n).foldl (changeOne n 0x018 (some w2) (Word.ofN (2 ^ 20 - 1000 * mag)) true f) s
    else
      finishClosing n src ((members s n).foldl (fun s m => s.modChan m fun c =>
        { c with fw := if v ≤ -2000 then 1 else 3 }) s)
  | _ =>
    if (s.chan n).probeOff = some s.clock ∧ vNeg.s20 < -20000 then
      let mag := satTo 0xFF ((-vNeg.s20).toNat / 1000)
      let w2 := Word.ofN (mag * 4096 + satTo 0xFFF (sinceReport s (n / 16) / 100))
      (members s n).foldl (changeOne n 0x018 (some w2) (Word.ofN (2 ^ 20 - 1000 * mag)) true
        fun c => { c with fw := 2, fault := c.fault.setBit 9 true, probeOff := none }) s
    else s

/-- OFF_TIME ends: RETRY closes again, and a COOLING channel that has cooled closes now (R159, R212). -/
def retryOffEnd (n : Nat) (s : State) : State :=
  let n := leaderOf s n
  let c := s.chan n
  let again (c : Chan) : Chan := { (c.close c.src.closedState c.src false c.winRetry) with used := c.used + 1 }
  match c.state with
  | .retry => changeGroup n 0x004 0 again s
  | .cooling =>
    if c.waitOff && groupCool s n then changeGroup n 0x004 0 again s
    else (members s n).foldl (fun s m => s.modChan m fun c => { c with waitOff := false }) s
  | _ => s

/-- The inrush window closes (R167). -/
def inrushEnd (n : Nat) (s : State) : State :=
  (members s (leaderOf s n)).foldl (fun s m => s.modChan m fun c => { c with inrush := false }) s

/-- Entry into HOLD, or SRC to HOLD, when the tile falls silent (R161). A probe in progress ends without a closing. DESIGN
CHOICE, assumption log 77. -/
def silenceChan (n : Nat) (s : State) : State :=
  match (s.chan n).state with
  | .off | .on =>
    let p := pulsed s n && decide (leaderOf s n = n)
    reportChAs n 0x005 (timeWord s (n / 16)) 0 true p
      (s.modChan n fun c => { c with state := .hold, src := .hold, probe := none })
  | .retry | .cooling => s.modChan n fun c => { c with src := .hold }
  | _ => s

/-- A claimed tile falls silent (R161). -/
def tileSilence (t : Nat) (s : State) : State :=
  if (s.tgt t).watched && !(s.tgt t).silent && !(s.tgt t).restoreWait then
    let s := s.modTgt t fun g =>
      { g with silent := true, recs := g.recs ++ [⟨0x04, 0x002, Word.ofN (tileAddr t 0), Word.ofN t, 0⟩] }
    (List.range 16).foldl (fun s k => silenceChan (16 * t + k) s) s
  else s

/-- SAFE with the switch as it stands (R163). -/
def safeKeep (n mode : Nat) (s : State) : State :=
  changeGroup n 0x006 (Word.ofN mode) (fun c => { c with state := .safe, src := .safe, probe := none }) s

/-- SAFE with the switch open (R163). -/
def safeOpen (n : Nat) (s : State) : State :=
  changeGroup n 0x006 0 (fun c => { (c.openTo .safe) with src := .safe }) s

/-- A channel's hold time expires (R163). Where a safe state of ON runs the freewheel probe first, the channel reads SAFE with
its switch open until the probe ends, and the closing makes a second entry. DESIGN CHOICE, assumption log 77. -/
def holdExpiry (n : Nat) (s : State) : State :=
  if (s.tgt (n / 16)).watched = false ∨ leaderOf s n ≠ n then s
  else
    let c := s.chan n
    let mode := safeMode s ((chReg s n 4).field 19 18)
    match c.state with
    | .latched | .safe => s
    | .off | .on | .hold =>
      if mode = 0 then safeOpen n s
      else if mode = 1 ∧ c.sw = false then
        if groupCool s n = false then coolInstead n 0x006 .safe s
        else if (chReg s n 3).bit 16 then
          freewheelOrClose n .safe (safeKeep n mode s)
        else closeSafe n s
      else safeKeep n mode s
    | .retry | .cooling =>
      if mode = 0 then safeOpen n s
      else (members s n).foldl (fun s m => s.modChan m fun c => { c with src := .safe }) s

/-- A claim returns HOLD channels to ON or OFF and SRC HOLD to LANE (R166). -/
def claimChan (n : Nat) (s : State) : State :=
  match (s.chan n).state with
  | .hold => s.modChan n fun c => { c with state := if c.sw then .on else .off, src := .lane }
  | .retry | .cooling => s.modChan n fun c => if c.src = .hold then { c with src := .lane } else c
  | _ => s

/-- The full state report of sixteen entries that follows an accepted claim (R166, R184). -/
def fullTileReport (t : Nat) (s : State) : State :=
  (List.range 16).foldl (fun s k => reportCh (16 * t + k) 0x007 0 s) s

/-- What tile `t` shows the lanes beside its entries: TILE_STATUS, TILE_ARC, and each channel's CH_STATE and CH_FAULT
(R154). -/
def tileWords (t : Nat) (s : State) : List (Nat × Word) :=
  unitStatus s t ++ [(tileAddr t 4, s.liveReg (tileAddr t 4))] ++
    (List.range 16).flatMap fun k =>
      [(chanAddr (16 * t + k) 1, chWord s (16 * t + k)), (chanAddr (16 * t + k) 2, (s.chan (16 * t + k)).fault)]

/-- A tile reset: the tile's channels, latches and command tracking (R60, R64). -/
def resetTile (t cause : Nat) (s : State) : State :=
  let s := (List.range 16).foldl (fun s k => s.modChan (16 * t + k) fun c =>
    { Chan.reset with openedAt := if c.sw then some s.clock else c.openedAt }) s
  let s := s.clearLive (tileRange t)
  let s := { s with fab := { s.fab with modFaults := s.fab.modFaults.filter fun n => n / 16 ≠ t } }
  let s := s.modTgt t fun g =>
    { g with
      claimed := none, last := 0, stampPly := 0, stampIdx := 0, silent := false, restoreWait := true, shadows := [],
      shadowDue := none, entries := [], refusals := [], dups := 0, handover := none, lastReset := cause,
      resets := satTo 0xF (g.resets + 1) }
  present (1 + t) [0x30000] (.report t [] [] (tileWords t s)) s

/-- Why a write of CH_GROUP that would change KIND or PARTNER is refused for them: they are the configuration's, and a park channel
may be put in no group or pair (R192, R473). -/
def groupReason (s : State) (n : Nat) (v : Word) : Nat :=
  if (chReg s n 3).bit 14 && (v.field 19 18 = 1 || v.field 19 18 = 2) then 0x05 else 0x06

/-- A write of CH_GROUP brings KIND and PARTNER of the configuration image to a channel whose state permits it: a configuration
difference of an activated image (R192, R525, R557). DEDUCED, assumption log 54. -/
def groupFromImage (s : State) (n : Nat) (v : Word) : Bool :=
  decide (v.field 19 10 = (Sparse.get (fun _ => 0) s.lanes.groups n).field 19 10) &&
    ((s.chan n).state = .off || (s.chan n).state = .latched)

/-- A write that the tile applies at offset `off` of channel `n` (R157, R188 to R193, R206, R225 to R231). -/
def chWrite (n off : Nat) (v : Word) (s : State) : State :=
  let a := chanAddr n off
  let old := s.liveReg a
  let store := s.setLive a (regWrite a old v)
  match off with
  | 0 => chCtl n v s
  | 2 => s.modChan n fun c => { c with fault := regWrite a c.fault v }
  | 3 => chCfgWrite n v s
  | 4 =>
    if v.field 19 18 = 3 then refuseCh n 4 0x04 v s
    else if v.field 19 18 = 2 ∧ (chReg s n 3).bit 15 = false then refuseCh n 4 0x07 v s
    else store
  | 7 =>
    let imb := v.field 9 4
    let now := if groupFromImage s n v then old.put 19 10 (v.field 19 10) else old
    let s := if v.field 19 10 ≠ now.field 19 10 then refuseCh n 7 (groupReason s n v) v s else s
    if imb < 5 ∨ 50 < imb then refuseCh n 7 0x04 v (s.setLive a now) else s.setLive a (now.put 9 4 imb)
  | 0x0B | 0x0C | 0x0D | 0x0E =>
    if v.field 15 0 = 0 ∧ (chReg s n 3).bit 17 = true then refuseCh n off 0x04 v s else store
  | 0x0F =>
    let ti := v.field 19 12
    let tr := v.field 11 4
    if ti < 60 ∨ 250 < ti ∨ tr < 20 ∨ ti < tr + 5 then refuseCh n off 0x04 v s
    else startWire n store
  | 0x06 =>
    -- OFF_TIME and WINDOW are each decided on their own value (R168)
    let offOk := 1 ≤ v.field 15 9 ∧ v.field 15 9 ≤ 100
    let winOk := 1 ≤ v.field 8 0 ∧ v.field 8 0 ≤ 500
    let nv := (v.put 15 9 (if offOk then v.field 15 9 else old.field 15 9)).put 8 0
      (if winOk then v.field 8 0 else old.field 8 0)
    let s := s.setLive a nv
    if offOk ∧ winOk then s else refuseCh n off 0x04 v s
  | 0x13 =>
    if writeValid a v then
      (members s n).foldl (fun s m => s.modChan m fun c => { c with arcWindows := [] }) store
    else refuseCh n off 0x04 v s
  | _ => if writeValid a v then store else refuseCh n off 0x04 v s

/-- TILE_AMB takes a value, which moves every limit of the tile at once (R207). -/
def ambWrite (t : Nat) (v : Word) (s : State) : State :=
  let a := tileAddr t 2
  (List.range 16).foldl (fun s k =>
    let n := 16 * t + k
    if leaderOf s n = n then wireWarn n (s.chan n).warned s else s) (s.setLive a (regWrite a (s.liveReg a) v))

/-- A write that the tile applies to its own block (R194 to R196, R233). -/
def tileRegWrite (t off : Nat) (v : Word) (s : State) : State :=
  let a := tileAddr t off
  if off = 1 then (if v.bit 19 then resetTile t 4 s else s)
  else if off = 2 ∧ writeValid a v = true then ambWrite t v s
  else if writeValid a v then s.setLive a (regWrite a (s.liveReg a) v)
  else refuseTile t (0xB0 + t) off 0x04 v s

/-- A member of a parallel group that is not its leader ignores writes to offsets 09h to 13h (R176, R223), and its
other configuration registers are ignored as well; PARK = 1 is refused there (R473). -/
def chWriteIgnored (s : State) (n off : Nat) : Bool :=
  leaderOf s n ≠ n && (decide (9 ≤ off) || (decide (3 ≤ off) && off ≠ 7))

/-- A write at Board address `a` as the tile applies it (R153, R154). -/
def tileApply (a : Nat) (v : Word) (s : State) : State :=
  if a < 0x82000 then
    let n := (a - 0x80000) / 32
    let off := a % 32
    if 176 ≤ n then s
    else if chWriteIgnored s n off then (if off = 3 ∧ v.bit 14 = true then refuseCh n 3 0x05 v s else s)
    else chWrite n off v s
  else
    let t := (a - 0x82000) / 128
    if 11 ≤ t then s else tileRegWrite t (a % 128) v s

/-- CH_ON: the tile applies ON to a channel (R153, R157, R159). -/
def execChOn (n : Fin 176) (s : State) : Host.Outcome State Fault Refusal :=
  .next (if tileAccepts s (n / 16) then chOn n 0x80000 s else s)

/-- CH_OFF: the tile applies OFF to a channel (R157, R159). -/
def execChOff (n : Fin 176) (s : State) : Host.Outcome State Fault Refusal :=
  .next (if tileAccepts s (n / 16) then chOff n s else s)

/-- CH_CLEAR: the tile applies CLEAR to a channel (R157, R220). -/
def execChClear (n : Fin 176) (s : State) : Host.Outcome State Fault Refusal :=
  .next (if tileAccepts s (n / 16) then chClear n 0x20000 s else s)

/-- CH_PROBE: the tile applies PROBE to a channel (R157, R174). -/
def execChProbe (n : Fin 176) (s : State) : Host.Outcome State Fault Refusal :=
  .next (if tileAccepts s (n / 16) then chProbe n s else s)

/-- CH_CFG_WRITE: the tile applies a write to CH_CFG (R188). -/
def execChCfgWrite (n : Fin 176) (v : Word) (s : State) : Host.Outcome State Fault Refusal :=
  .next (if tileAccepts s (n / 16) then tileApply (chanAddr n 3) v s else s)

/-- FIRST_TURN_ON_PROBE_END (R173). -/
def execFirstTurnOnProbeEnd (n : Fin 176) (vOff vProbe : Word) (s : State) : Host.Outcome State Fault Refusal :=
  .next (firstProbeEnd n vOff vProbe s)

/-- FREEWHEEL_PROBE_END (R169). -/
def execFreewheelProbeEnd (n : Fin 176) (vNeg : Word) (s : State) : Host.Outcome State Fault Refusal :=
  .next (freewheelEnd n vNeg s)

/-- RETRY_OFF_TIME_END (R159). -/
def execRetryOffTimeEnd (n : Fin 176) (s : State) : Host.Outcome State Fault Refusal :=
  .next (retryOffEnd n s)

/-- INRUSH_WINDOW_END (R167). -/
def execInrushWindowEnd (n : Fin 176) (s : State) : Host.Outcome State Fault Refusal :=
  .next (inrushEnd n s)

/-- TILE_SILENT (R161). -/
def execTileSilent (t : Fin 11) (s : State) : Host.Outcome State Fault Refusal :=
  .next (tileSilence t s)

/-- HOLD_TIME_EXPIRY (R163). -/
def execHoldTimeExpiry (n : Fin 176) (s : State) : Host.Outcome State Fault Refusal :=
  .next (holdExpiry n s)

end Sys2Proof.Machine
end

