-- ==== Sys2Proof/Machine/Protect.lean ====
section
/-! DEFINITION. The protection engine of a tile, its fault labels and the lifetime counters (R197 to R233). -/

namespace Sys2Proof.Machine

open Sys2Proof

/-- Codes 7FF00h to 7FFFFh are sense flags, not currents (R13). -/
def isFlag (v : Word) : Bool := decide (0x7FF00 ≤ v.toNat) && decide (v.toNat ≤ 0x7FFFF)

/-- The REVERSE threshold in sample units: −1.0 A, −0.25 A or −0.1 A (R13, R175). -/
def reverseThreshold (n : Nat) : Int := if classOf n = 2 then -6400 else -4000

/-- The summed current of a parallel group, or the channel's own (R204). DEDUCED, assumption log 66. -/
def groupCurrent (s : State) (n : Nat) : Int := ((members s n).map fun m => (s.chan m).current.s20).sum

/-- The filter count and the I² sum of the group's leader take one summed sample (R203, R204, R205). -/
def groupSample (n : Nat) (s : State) : State :=
  let l := leaderOf s n
  let i := groupCurrent s n
  let lim := (members s n).any fun m => (s.chan m).limited
  let thr : Int := 16 * ((chReg s l 9).field 15 0 : Nat)
  let s := (members s n).foldl (fun s m => s.modChan m fun c => { c with limited := false }) s
  s.modChan l fun c =>
    { c with
      ocCount := if c.sw && (decide (thr ≤ i) || lim) then c.ocCount + 1 else 0,
      sqSum := c.sqSum + (if c.sw then i.natAbs * i.natAbs else 0),
      sqCount := c.sqCount + 1 }

/-- One current sample of a channel: the coarse sense in place of a flagged one, SENSE, the run of REVERSE, and, with
the group's last member, the overcurrent count (R175, R198, R203). -/
def takeSample (n : Nat) (fine coarse : Word) (limited : Bool) (s : State) : State :=
  let subst := isFlag fine || !s.sup.fabValid
  let v := if subst then coarse else fine
  let newSense := subst && !(s.chan n).fault.bit 3
  let thr := reverseThreshold n
  let s := s.modChan n fun c =>
    { c with
      sample := fine, current := v, limited := c.limited || limited, arcSpoilt := subst || c.arcSpoilt,
      fault := if subst then c.fault.setBit 3 true else c.fault,
      revRun :=
        if c.reverse then (if thr < v.s20 then c.revRun + 1 else 0)
        else if c.sw && decide (v.s20 < thr) then c.revRun + 1 else 0 }
  let s := if newSense then reportCh n 0x021 0 s else s
  if (members s n).getLast? = some n then groupSample n s else s

/-- A trip of member `n` handled under R167: RETRY inside the inrush window while retries remain, else LATCHED with `latch`
(R159). A trip that acts in the cycle of a higher-ranked opening, or that follows an expiry into an open SAFE with a retry
left, is recorded and counted and changes nothing else (R160, R200). -/
def tripOrRetry (n code bit latch : Nat) (mayRetry : Bool) (arg1 : Word) (s : State) : State :=
  let l := s.chan (leaderOf s n)
  let retry := mayRetry && l.inrush && decide (l.used < l.winRetry.field 19 16)
  let s := s.modChan n fun c => { c with fault := c.fault.setBit bit true }
  let expired := !l.sw && decide (l.state = .safe)
  if l.sw || (l.outranked s.clock code && !(expired && retry)) then
    changeGroup n code arg1 (fun c => if retry then { c.openTo .retry with fault := c.fault.put 19 16 0 } else c.latch latch) s
  else reportCh n code arg1 s

/-- The short-circuit cut-off (R201, R202). -/
def shortTrip (n : Nat) (s : State) : State :=
  let c := s.chan n
  if c.sw || c.cutNow s.clock then
    tripOrRetry n 0x010 15 1 ((chReg s (leaderOf s n) 10).bit 11) c.sample s
  else s

/-- What the overcurrent filter has counted, or had counted at an opening in the present cycle (R200, R203). -/
def filterCount (now : Nat) (c : Chan) : Nat :=
  match c.cut with
  | some k => if c.sw then c.ocCount else if k.time = now then k.count else 0
  | none => c.ocCount

/-- The overcurrent trip once the count has reached FILT (R203). DESIGN CHOICE, assumption log 3. -/
def overTrip (n : Nat) (s : State) : State :=
  let l := leaderOf s n
  let c := s.chan l
  if (c.sw || c.cutNow s.clock) ∧ (chReg s l 10).field 19 12 ≤ filterCount s.clock c then
    tripOrRetry l 0x011 14 2 true c.sample s
  else s

/-- REVERSE sets or clears once ten consecutive samples ask for it (R175). -/
def reverseChange (n : Nat) (s : State) : State :=
  let c := s.chan n
  if c.revRun < 10 then s
  else if c.reverse then
    reportCh n 0x026 0 (s.modChan n fun c => { c with reverse := false, revRun := 0 })
  else
    reportCh n 0x01F 0 (s.modChan n fun c => { c with reverse := true, revRun := 0, fault := c.fault.setBit 5 true })

/-- Samples of one ampere: 250, 62.5 or 15.625 µA for one unit (R13). -/
def unitsPerAmp (n : Nat) : Nat := if classOf n = 0 then 4000 else if classOf n = 1 then 16000 else 64000

/-- Quotient of two integers rounded down, or up where `up` says so and the quotient is not exact: the rounding that
R205 leaves open. -/
def roundDiv (up : Bool) (num : Int) (den : Nat) : Int :=
  num / den + (if up && decide (num % den ≠ 0) then 1 else 0)

/-- A rise kept between 0 and 2,047.99 K in units of 2⁻²⁰ K (R205). -/
def clampTheta (v : Int) : Nat := min v.toNat (2 ^ 31 - 1)

/-- θ1 after one millisecond (R205): a1 and K1 as mantissa and shift, P as a sum of squares over the samples. -/
def theta1Next (up : Bool) (a k1 : Word) (sq cnt upa t1 t2 : Nat) : Nat :=
  let den1 := 2 ^ (12 + k1.field 19 16) * (max cnt 1) * (upa * upa)
  let den2 := 2 ^ (16 + a.field 19 16)
  let x : Int := (k1.field 15 0 * sq * 2 ^ 20 : Nat) - ((t1 : Int) - t2) * den1
  clampTheta (t1 + roundDiv up ((a.field 15 0 : Int) * x) (den2 * den1))

/-- θ2 after one millisecond, with q = K2 / K1 (R205). With K1 = 0 the quotient is not stated, and the part of the
update that needs it is a free value. -/
def theta2Next (up : Bool) (b k1 k2 : Word) (free t1 t2 : Nat) : Nat :=
  let d := k1.field 15 0 * 2 ^ (12 + k2.field 19 16)
  if b.field 15 0 = 0 then t2
  else if d = 0 then clampTheta free
  else
    let qn := k2.field 15 0 * 2 ^ (12 + k1.field 19 16)
    let x : Int := (qn : Int) * ((t1 : Int) - t2) - (t2 : Int) * d
    clampTheta (t2 + roundDiv up ((b.field 15 0 : Int) * x) (2 ^ (16 + b.field 19 16) * d))

/-- A cause of R199 that leads to LATCHED alone: it acts on a closed switch, or over a lower-ranked one of the same cycle,
and is recorded in the cycle of a higher-ranked one (R200). -/
def latchTrip (n code latch : Nat) (arg1 : Word) (s : State) : State :=
  let l := s.chan (leaderOf s n)
  if l.sw || l.outranked s.clock code then changeGroup n code arg1 (Chan.latch latch) s else reportCh n code arg1 s

/-- WIRE: the switch opens and the channel latches (R207). -/
def wireTrip (n : Nat) (s : State) : State :=
  let s := s.modChan n fun c => { c with fault := c.fault.setBit 13 true }
  latchTrip n 0x012 3 (Word.ofN ((s.chan n).theta1 / 4096)) s

/-- The 1 ms update of the wire model, WIRE_WARN and the wire trip (R205, R207). DEDUCED, assumption log 32. -/
def wireUpdate (n : Nat) (s : State) : State :=
  if leaderOf s n ≠ n then s
  else
    let c := s.chan n
    let t1 := theta1Next (Config.wireRound s.free) (chReg s n 11) (chReg s n 13) c.sqSum c.sqCount (unitsPerAmp n)
      c.theta1 c.theta2
    let t2 := theta2Next (Config.wireRound (s.free + 1)) (chReg s n 12) (chReg s n 13) (chReg s n 14)
      (Config.wireQuotient (s.free + 2)) t1 c.theta2
    let s := { s with free := s.free + 3 }
    let s := s.modChan n fun c => { c with theta1 := t1, theta2 := t2, sqSum := 0, sqCount := 0 }
    let s := wireWarn n c.warned s
    if ((s.chan n).sw || (s.chan n).cutNow s.clock) ∧ wireMargin s n ≤ (t1 : Int) then wireTrip n s else s

/-- A thermal latch of the channel sets (R159, R210, R211). COOLING follows from a closed switch, from RETRY, whose OFF_TIME
goes on, and in place of what a lower-ranked cause of the same cycle decided, which leaves no OFF_TIME (R199, R212); in every
other state the fault bit alone. -/
def hotSet (n code : Nat) (arg1 : Word) (f : Chan → Chan) (s : State) : State :=
  let s := s.modChan n f
  let l := s.chan (leaderOf s n)
  let cool := fun (wait : Bool) (c : Chan) =>
    { c.openTo .cooling with waitOff := wait, fault := c.fault.put 19 16 0 }
  if l.sw || (l.outranked s.clock code && decide (l.state ≠ .safe)) then changeGroup n code arg1 (cool false) s
  else if l.state = .retry then changeGroup n code arg1 (cool true) s
  else reportCh n code arg1 s

/-- Both latches of a COOLING channel have released: it closes as a retry, waits for its OFF_TIME, or latches
COOLING_END (R159, R212). -/
def coolRelease (n : Nat) (temp : Word) (s : State) : State :=
  let c := s.chan (leaderOf s n)
  if c.state ≠ .cooling ∨ groupCool s n = false then s
  else if c.inrush && decide (c.used < c.winRetry.field 19 16) then
    if c.waitOff then s
    else changeGroup n 0x016 temp
      (fun c => { (c.close c.src.closedState c.src false c.winRetry) with used := c.used + 1 }) s
  else changeGroup n 0x017 (Word.ofN c.used) (Chan.latch 6) s

/-- The temperature-difference latch sets (R210). -/
def dtSet (n : Nat) (temp : Word) (s : State) : State :=
  if (s.chan n).dt then s
  else hotSet n 0x014 temp (fun c => { c with dt := true, fault := c.fault.setBit 11 true }) s

/-- The temperature-difference latch releases, but for a permanent one (R210, R213). -/
def dtClear (n : Nat) (temp : Word) (s : State) : State :=
  if (s.chan n).dt && !(s.chan n).sensorFail then coolRelease n temp (s.modChan n fun c => { c with dt := false }) else s

/-- The junction limit sets (R211). -/
def junctionSet (n : Nat) (temp : Word) (s : State) : State :=
  if (s.chan n).junction then s
  else hotSet n 0x015 temp (fun c => { c with junction := true, fault := c.fault.setBit 10 true }) s

/-- The junction limit releases (R211). -/
def junctionClear (n : Nat) (temp : Word) (s : State) : State :=
  if (s.chan n).junction then coolRelease n temp (s.modChan n fun c => { c with junction := false }) else s

/-- A sensor out of range for 10 ms sets the latch for good (R213). -/
def sensorFailed (n : Nat) (s : State) : State :=
  hotSet n 0x024 0 (fun c => { c with dt := true, sensorFail := true, fault := c.fault.setBit 11 true }) s

/-- The feed half of a tile that channel index `k` is on: 1 for channels 8 to 15 of tile 0 (R22, R216). -/
def feedHalf (t k : Nat) : Nat := if t = 0 ∧ 8 ≤ k then 1 else 0

/-- CH_ARC of channel `n`, as its group's leader holds it (R176, R231). -/
def arcReg (s : State) (n : Nat) : Word := chReg s (leaderOf s n) 19

/-- A channel of the feed half closed or opened during the window, as a retry does too (R214). -/
def halfSwitched (s : State) (t half : Nat) : Bool :=
  (List.range 16).any fun k => decide (feedHalf t k = half) && (s.chan (16 * t + k)).switched

/-- The window of one channel is examined, and not discarded for its inrush window, a flagged sample or a switching on the
feed (R214). -/
def arcExamined (s : State) (t : Nat) (m : ArcMeasure) : Bool :=
  let n := 16 * t + m.k.val
  (s.chan n).sw && decide ((arcReg s n).field 19 18 ≠ 0) && !(s.chan n).inrush && !(s.chan n).arcSpoilt &&
    !halfSwitched s t (feedHalf t m.k)

/-- The window of one channel qualifies (R214). -/
def arcQualifies (s : State) (t : Nat) (m : ArcMeasure) : Bool :=
  let r := arcReg s (16 * t + m.k.val)
  arcExamined s t m && decide (r.field 7 0 ≤ m.mean) && decide (r.field 17 12 ≤ m.ratio)

/-- One window that was not discarded enters the record of its channel, with whether it qualified; N of the last 8 detect an
arc; a sleeping tile detects none (R214, R215, R474). -/
def arcWindow (t : Nat) (q : Bool) (m : ArcMeasure) (s : State) : State :=
  let n := 16 * t + m.k.val
  let r := arcReg s n
  let ws := (q :: (s.chan n).arcWindows).take 8
  if tileAsleep s n then s
  else if (ws.filter id).length < r.field 11 8 then s.modChan n fun c => { c with arcWindows := ws }
  else
    let s := s.modChan n fun c => { c with arcWindows := [], fault := c.fault.setBit 8 true }
    if r.field 19 18 = 2 then latchTrip n 0x019 4 (Word.ofN m.ratio) s
    else reportCh n 0x019 (Word.ofN m.ratio) s

/-- A feed arc marks its half of TILE_ARC and is reported (R216). -/
def feedArcMark (t half q : Nat) (s : State) : State :=
  let a := tileAddr t 4
  reportCh (16 * t + 8 * half) 0x01A (Word.ofN q) (s.setLive a ((s.liveReg a).setBit (19 - half) true))

/-- The examined windows of one feed half of a tile, each with whether it qualifies (R214). -/
def arcOf (t half : Nat) (ms : List ArcMeasure) (s : State) : List (ArcMeasure × Bool) :=
  ((ms.filter fun m => feedHalf t m.k.val = half).filter (arcExamined s t)).map fun m => (m, arcQualifies s t m)

/-- The windows of one feed half: where COINC or more qualify a feed arc, and those windows are discarded; every other one
on its own (R214, R216). A sleeping tile looks for no series arc (R474). -/
def arcHalf (t half : Nat) (ws : List (ArcMeasure × Bool)) (s : State) : State :=
  if s.pwr.sleeping.contains t then s
  else
  let q := (ws.filter (·.2)).length
  let feed := decide ((s.liveReg (tileAddr t 4)).field 16 12 ≤ q)
  let s := if feed then feedArcMark t half q s else s
  ws.foldl (fun s w => if feed && w.2 then s else arcWindow t w.2 w.1 s) s

/-- The next window of a tile begins. -/
def arcRestart (t : Nat) (s : State) : State :=
  (List.range 16).foldl (fun s k => s.modChan (16 * t + k) fun c =>
    { c with arcSpoilt := c.inrush, switched := false }) s

/-- BACKFED from one voltage sample that counts; the fabric is off while a tile sleeps (R171, R474). -/
def backfedSample (n : Nat) (v : Word) (settled : Bool) (s : State) : State :=
  let c := s.chan n
  if c.sw || !settled || tileAsleep s n then s.modChan n fun c => { c with bfHigh := 0, bfLow := 0 }
  else
    let thr := bfThreshold s n
    let hi := if v.s20 > thr then c.bfHigh + 1 else 0
    let lo := if v.s20 < thr - 5000 then c.bfLow + 1 else 0
    if 2 ≤ hi ∧ c.backfed = false then
      reportCh n 0x01C v (s.modChan n fun c =>
        { c with backfed := true, bfHigh := 0, bfLow := 0, fault := c.fault.setBit 7 true })
    else if 2 ≤ lo ∧ c.backfed = true then
      reportCh n 0x01D v (s.modChan n fun c => { c with backfed := false, bfHigh := 0, bfLow := 0 })
    else s.modChan n fun c => { c with bfHigh := hi, bfLow := lo }

/-- The repeated open-load probe of an OFF channel, which does not run in tile sleep (R174, R474). -/
def openLoadResult (n : Nat) (v : Word) (s : State) : State :=
  let c := s.chan n
  if c.state = .off ∧ c.backfed = false ∧ tileAsleep s n = false ∧ ((chReg s (leaderOf s n) 8).bit 15 = true ∨ c.probeReq = true) then
    let ol := decide (v.s20 > 40000)
    let s := s.modChan n fun c =>
      { c with openLoad := ol, probeReq := false, fault := c.fault.setBit 6 (c.fault.bit 6 || ol) }
    if ol ≠ c.openLoad then reportCh n (if ol then 0x01E else 0x025) 0 s else s
  else s

/-- IMBALANCE of a parallel-group member sets or clears (R177). -/
def imbalanceChange (n : Nat) (outside : Bool) (s : State) : State :=
  if (chReg s n 7).field 19 18 = 1 ∧ (s.chan n).imbalance ≠ outside then
    reportCh n (if outside then 0x020 else 0x027) 0 (s.modChan n fun c =>
      { c with imbalance := outside, fault := c.fault.setBit 4 (c.fault.bit 4 || outside) })
  else s

/-- The lanes record PAIR_IMBALANCE while both members of a redundant pair are closed (R180). -/
def pairImbalanceRecord (n : Nat) (s : State) : State :=
  let g := s.copyReg (chanAddr n 7)
  let p := g.field 17 10
  if g.field 19 18 = 2 ∧ (s.copyReg (chanAddr n 1)).bit 14 = true ∧ (s.copyReg (chanAddr p 1)).bit 14 = true then
    laneRecord ⟨0x03, 0x022, Word.ofN (chanAddr n 1), s.copyReg (chanAddr n 1), Word.ofN p⟩ s
  else s

/-- The lanes take the lifetime counters into their journals, and the power-fail image starts afresh (R222). -/
def journalLife (s : State) : State :=
  s.mapLanes fun g =>
    if g.role = .out then g else { g with lifeJournal := s.life, image := [], nvm := g.nvm.programmed }

/-- The increments of one channel since the last journal write (R222). -/
def lifeIncrement (s : State) (old : List (Nat × Life)) (n : Nat) : Nat × Nat × Nat :=
  let a := Sparse.get (fun _ => Life.zero) s.life n
  let b := Sparse.get (fun _ => Life.zero) old n
  (a.trips - b.trips, a.thermal - b.thermal, a.latches - b.latches)

/-- The word of the power-fail image for one channel: trips in bits 19:8, thermal entries in 7:4, latches in 3:0. -/
def imageWord (i : Nat × Nat × Nat) : Word := Word.ofN (i.1 * 256 + i.2.1 * 16 + i.2.2)

/-- The channel words of a power-fail image against one lane's journal, each with its channel number; the image's 12 header words,
whose contents the spec does not give, are left out (R222). DESIGN CHOICE, assumption log 83. -/
def imageOf (s : State) (old : List (Nat × Life)) : List (Nat × Word) :=
  (List.range 176).filterMap fun n =>
    let i := lifeIncrement s old n
    if i = (0, 0, 0) then none else some (n, imageWord i)

/-- An increment would pass its field of the image (R222). -/
def imageOverflows (s : State) (old : List (Nat × Life)) : Bool :=
  (List.range 176).any fun n =>
    let i := lifeIncrement s old n
    decide (4095 < i.1) || decide (15 < i.2.1) || decide (15 < i.2.2)

/-- At the end of phase D each lane brings its power-fail image up to date, with a journal write where an increment
would pass its field (R222). -/
def updateImages (s : State) : State :=
  s.mapLanes fun g =>
    if g.role = .out ∨ s.sup.powerFail = true then g
    else if imageOverflows s g.lifeJournal then { g with lifeJournal := s.life, image := [], nvm := g.nvm.programmed }
    else { g with image := imageOf s g.lifeJournal }

/-- SHORT_CIRCUIT (R201). -/
def execShortCircuit (n : Fin 176) (s : State) : Host.Outcome State Fault Refusal := .next (shortTrip n s)

/-- CURRENT_SAMPLE (R198). -/
def execCurrentSample (n : Fin 176) (fine coarse : Word) (limited : Bool) (s : State) :
    Host.Outcome State Fault Refusal :=
  .next (takeSample n fine coarse limited s)

/-- OVERCURRENT (R203). -/
def execOvercurrent (n : Fin 176) (s : State) : Host.Outcome State Fault Refusal := .next (overTrip n s)

/-- REVERSE (R175). -/
def execReverse (n : Fin 176) (s : State) : Host.Outcome State Fault Refusal := .next (reverseChange n s)

/-- WIRE_MODEL_UPDATE (R205). -/
def execWireModelUpdate (n : Fin 176) (s : State) : Host.Outcome State Fault Refusal := .next (wireUpdate n s)

/-- DT (R210). -/
def execDt (n : Fin 176) (temp : Word) (s : State) : Host.Outcome State Fault Refusal := .next (dtSet n temp s)

/-- DT_RELEASE (R212). -/
def execDtRelease (n : Fin 176) (temp : Word) (s : State) : Host.Outcome State Fault Refusal := .next (dtClear n temp s)

/-- JUNCTION (R211). -/
def execJunction (n : Fin 176) (temp : Word) (s : State) : Host.Outcome State Fault Refusal :=
  .next (junctionSet n temp s)

/-- JUNCTION_RELEASE (R211). -/
def execJunctionRelease (n : Fin 176) (temp : Word) (s : State) : Host.Outcome State Fault Refusal :=
  .next (junctionClear n temp s)

/-- CASE_DIFF: the two case sensors of a tile differ by more than 10 K (R210). -/
def execCaseDiff (t : Fin 11) (diff : Word) (s : State) : Host.Outcome State Fault Refusal :=
  let a := tileAddr t 4
  .next (reportCh (16 * t) 0x01B diff (s.setLive a ((s.liveReg a).setBit 17 true)))

/-- SENSOR_FAIL (R213). -/
def execSensorFail (n : Fin 176) (s : State) : Host.Outcome State Fault Refusal := .next (sensorFailed n s)

/-- ARC_WINDOW_END: the arc windows of a tile end (R214, R215, R216). -/
def execArcWindowEnd (t : Fin 11) (ms : List ArcMeasure) (s : State) : Host.Outcome State Fault Refusal :=
  .next (arcHalf t 1 (arcOf t 1 ms s) (arcHalf t 0 (arcOf t 0 ms s) (arcRestart t s)))

/-- BACKFED_EVAL (R171). -/
def execBackfedEval (n : Fin 176) (v : Word) (settled : Bool) (s : State) : Host.Outcome State Fault Refusal :=
  .next (backfedSample n v settled s)

/-- OPEN_LOAD_PROBE (R174). -/
def execOpenLoadProbe (n : Fin 176) (v : Word) (s : State) : Host.Outcome State Fault Refusal :=
  .next (openLoadResult n v s)

/-- IMBALANCE (R177). -/
def execImbalance (n : Fin 176) (outside : Bool) (s : State) : Host.Outcome State Fault Refusal :=
  .next (imbalanceChange n outside s)

/-- PAIR_IMBALANCE (R180). -/
def execPairImbalance (n : Fin 176) (s : State) : Host.Outcome State Fault Refusal := .next (pairImbalanceRecord n s)

/-- LIFETIME_JOURNAL (R222). -/
def execLifetimeJournal (s : State) : Host.Outcome State Fault Refusal := .next (journalLife s)

end Sys2Proof.Machine
end

