-- ==== Sys2Proof/Machine/Meas.lean ====
section
/-! DEFINITION. The measurement fabric and each lane's measurement interface: sample blocks, latest values,
comparators, load signatures and streams (R234 to R272). -/

namespace Sys2Proof.Machine

open Sys2Proof

/-- A signal's samples in one frame (R236). -/
def samplesPerPly (i : Nat) : Nat :=
  if i < 176 then 5 else if i < 528 then 1 else if i < 664 then 2 else if i < 840 then 1 else if i < 856 then 5 else 1

/-- The converter of signal `i`, none for a modulator (R236). -/
def converterOf (i : Nat) : Option Nat :=
  if i < 176 then none
  else if i < 352 then some ((i - 176) / 16)
  else if i < 528 then some ((i - 352) / 16)
  else if i < 664 then some (11 + (i - 528) / 17)
  else if i < 792 then some (let d := i - 664; if d < 43 then 19 else if d < 86 then 20 else 21)
  else if i < 840 then some (19 + (i - 792) / 16)
  else if i < 856 then some (22 + (i - 840) / 8)
  else some ((i - 856) / 2)

/-- Payload words of signal `i` in a block of phase `tph`, in time order (R243). -/
def signalWords (tph i : Nat) : List Nat :=
  if i < 176 then (List.range 5).map fun j => 4 + 5 * i + j
  else if i < 352 then [884 + (i - 176)]
  else if i < 528 then (if (i - 352) % 5 = tph then [1540 + (i - 352) / 5] else [])
  else if i < 664 then [1060 + 2 * (i - 528), 1061 + 2 * (i - 528)]
  else if i < 792 then [1332 + (i - 664)]
  else if i < 840 then (if (i - 792) % 5 = tph then [1576 + (i - 792) / 5] else [])
  else if i < 856 then (List.range 5).map fun j => 1460 + 5 * (i - 840) + j
  else if i < 878 then (if (i - 856) % 5 = tph then [1586 + (i - 856) / 5] else [])
  else []

/-- The samples of signal `i` in a block, with their positions (R243, R250). -/
def signalSamples (blk : List Word) (i : Nat) : List (Nat × Word) :=
  let tph := (blk.getD 0 0).field 19 17
  (signalWords tph i).zipIdx.map fun p => (p.2, blk.getD p.1 0)

/-- The tile that signal `i` comes from, if any (R236). -/
def signalTile (i : Nat) : Option Nat :=
  if i < 528 then some (i % 176 / 16) else if 856 ≤ i ∧ i < 878 then some ((i - 856) / 2) else none

/-- LED string signals of an absent position or an unfitted string (R238). -/
def signalAbsent (s : State) (i : Nat) : Bool :=
  if 528 ≤ i ∧ i < 664 then
    let str := (i - 528) / 17
    let j := (i - 528) % 17
    let count := (s.liveReg (strAddr str 2)).field 17 13
    count = 0 || decide (count < j)
  else false

/-- The tile that signal `i` comes from waits for its restore sequence after a tile reset. -/
def tileWaits (s : State) (i : Nat) : Bool :=
  match signalTile i with
  | some t => (s.tgt t).restoreWait
  | none => false

/-- The multiplexed converter of signal `i` failed its reference check (R242). -/
def muxFaulty (s : State) (i : Nat) : Bool :=
  match converterOf i with
  | some v => (Sparse.get (fun _ => (⟨false, 0⟩ : Mux)) s.fab.mux v).fault
  | none => false

/-- The sense link to tile `t` is lost in a frame: the conversion of its first channel's voltage is marked so (R238). DESIGN
CHOICE, assumption log 61. -/
def linkLost (raw : List Word) (t : Nat) : Bool := decide (raw.getD (884 + 16 * t) 0 = 0x7FF03)

/-- The sense flag that the fabric puts in place of a conversion of signal `i`, if any (R54, R238, R242). -/
def senseFlag (s : State) (raw : List Word) (i : Nat) : Option Word :=
  if s.sup.fabValid = false then some 0x7FF00
  else if signalAbsent s i then some 0x7FF06
  else if (signalTile i).any (linkLost raw) then some 0x7FF03
  else if tileWaits s i then some 0x7FF05
  else if muxFaulty s i then some 0x7FF07
  else if i < 176 ∧ s.fab.modFaults.contains i = true then some 0x7FF02
  else if (i < 176 ∧ (s.chan i).sensorFail = true) ∨ (352 ≤ i ∧ i < 528 ∧ (s.chan (i - 352)).sensorFail = true)
    then some 0x7FF04
  else none

/-- A conversion of signal `i` as the fabric delivers it: of the reserved codes, NOT_VALID before the first conversion and
CH_FAULT of a sense element stand, and every other value above the valid range reads SATURATED (R237, R238). -/
def converted (i : Nat) (x : Word) : Word :=
  if !isFlag x || x = 0x7FF00 then x
  else if x = 0x7FF04 ∧ (i < 176 ∨ (352 ≤ i ∧ i < 528)) then x
  else 0x7FF01

/-- The signal that payload word `w` of a block of phase `tph` belongs to, none for a header, padding or wire word. -/
def wordSignal (tph w : Nat) : Option Nat :=
  if w < 4 then none
  else if w < 884 then some ((w - 4) / 5)
  else if w < 1060 then some (176 + (w - 884))
  else if w < 1332 then some (528 + (w - 1060) / 2)
  else if w < 1460 then some (664 + (w - 1332))
  else if w < 1540 then some (840 + (w - 1460) / 5)
  else if w < 1576 then (let n := 5 * (w - 1540) + tph; if n < 176 then some (352 + n) else none)
  else if w < 1586 then (let o := 5 * (w - 1576) + tph; if o < 48 then some (792 + o) else none)
  else if w < 1591 then (let x := 5 * (w - 1586) + tph; if x < 22 then some (856 + x) else none)
  else none

/-- Payload word `w` of the block whose conversions are `raw` and whose reference time is `t0` (R243). -/
def blockWord (s : State) (tph t0 : Nat) (raw : List Word) (w : Nat) : Word :=
  if w = 0 then Word.ofN (tph * 2 ^ 17 + flagAt s.sup.fabValid 16 + flagAt s.fab.calFail 15)
  else if w < 4 then wordOf t0 (w - 1)
  else if 1591 ≤ w then
    let n := (w - 1591) / 2
    let c := s.chan n
    if linkLost raw (n / 16) then 0x7FF03 else Word.ofN ((if w % 2 = 1 then c.theta1 else c.theta2) / 4096)
  else match wordSignal tph w with
    | none => 0x7FF06
    | some i => (senseFlag s raw i).getD (converted i (raw.getD w 0))

/-- Boundary of the ply that a block is for: the next one, or the one just past where the block is late (R243, R244). DESIGN
CHOICE, assumption log 61. -/
def blockBoundary (s : State) (late : Bool) : Nat := lastBoundary s + (if late then 0 else 20000)

/-- The block the fabric presents (R243). -/
def makeBlock (s : State) (raw : List Word) (late : Bool) : List Word :=
  let b := blockBoundary s late
  let tph := b / 20000 % 5
  let t0 := (b + 2 ^ 60 - 21200) % 2 ^ 60
  (List.range 1943).map (blockWord s tph t0 raw)

/-- An event is posted to the ring, or dropped and counted when 1,023 entries are unconsumed (R250). -/
def postEvent (idx kind pos : Nat) (w1 : Word) (s : State) : State :=
  let head := (s.copyReg 0x8A002).toNat
  let tail := (s.copyReg 0x8A003).toNat
  if (head + 1024 - tail) % 1024 = 1023 then
    s.setCopy 0x8A004 (Word.sat ((s.copyReg 0x8A004).toNat + 1))
  else
    ((s.setCopy (0x8A800 + 2 * head) (Word.ofN (idx * 1024 + kind * 128 + pos))).setCopy (0x8A801 + 2 * head) w1).setCopy
      0x8A002 (Word.ofN ((head + 1) % 1024))

/-- The events that `f` drops are recorded with their number (R250, R548). -/
def countLost (f : State → State) (s : State) : State :=
  let lost0 := (s.copyReg 0x8A004).toNat
  let s := f s
  let lost := (s.copyReg 0x8A004).toNat - lost0
  if lost = 0 then s else laneRecord ⟨0x05, 0x026, 0x8A000, 0, Word.ofN lost⟩ s

/-- MEAS_STAT[i]. -/
def statAddr (i : Nat) : Nat := 0x8C000 + i

/-- One limit of a comparator: whether it flips now, and its run afterwards (R248). -/
def limitRun (en live above below : Bool) (run filt : Nat) : Bool × Nat :=
  if !en then (false, run)
  else
    let r := if (!live && above) || (live && below) then run + 1 else 0
    if r = filt then (true, 0) else (false, r)

/-- One sample through the comparator of signal `i` (R248). -/
def compSample (i : Nat) (p : Nat × Word) (s : State) : State :=
  let pos := p.1
  let x := p.2
  let a := statAddr i
  let st := s.copyReg a
  if isFlag x then
    let s := s.setCopy a (((st.put 7 0 x.toNat).setBit 17 true).setBit 12 true)
    if st.bit 17 then s else postEvent i 6 pos x s
  else
    let s := if st.bit 17 then postEvent i 7 pos x (s.setCopy a (st.setBit 17 false)) else s
    let base := 0x8B000 + 4 * i
    let hi := (s.copyReg base).s20
    let lo := (s.copyReg (base + 1)).s20
    let roc : Int := ((s.copyReg (base + 2)).toNat : Nat)
    let sup := s.copyReg (base + 3)
    let hyst : Int := 32 * (sup.field 9 0 : Nat)
    let filt := sup.field 13 10
    let c := s.comp i
    let hl := (s.copyReg a).bit 19
    let h := limitRun (sup.bit 19) hl (decide (hi < x.s20)) (decide (x.s20 < hi - hyst)) c.hiRun filt
    let s := if h.1 then postEvent i (if hl then 1 else 0) pos x
        (s.setCopy a (((s.copyReg a).setBit 19 !hl).setBit 16 ((s.copyReg a).bit 16 || !hl))) else s
    let ll := (s.copyReg a).bit 18
    let l := limitRun (sup.bit 18) ll (decide (x.s20 < lo)) (decide (lo + hyst < x.s20)) c.loRun filt
    let s := if l.1 then postEvent i (if ll then 3 else 2) pos x
        (s.setCopy a (((s.copyReg a).setBit 18 !ll).setBit 15 ((s.copyReg a).bit 15 || !ll))) else s
    let prev := c.hist[sup.field 16 14 - 1]?
    match (if sup.bit 17 then prev else none) with
    | some y =>
      let d := x.s20 - y.s20
      let up := decide (roc ≤ d)
      let dn := decide (roc ≤ -d)
      let s := if up && !c.wasUp then postEvent i 4 pos x (s.setCopy a ((s.copyReg a).setBit 14 true)) else s
      let s := if dn && !c.wasDown then postEvent i 5 pos x (s.setCopy a ((s.copyReg a).setBit 13 true)) else s
      s.setComp i ⟨h.2, l.2, (x :: c.hist).take 7, up, dn⟩
    | none => s.setComp i ⟨h.2, l.2, (x :: c.hist).take 7, c.wasUp, c.wasDown⟩

/-- The comparators of every supervised signal over one block, signals ascending (R248). DEDUCED, assumption log 62.
-/
def compBlock (blk : List Word) (s : State) : State :=
  if (s.copyReg 0x8A001).bit 19 then
    (List.range 856).foldl (fun s i => (signalSamples blk i).foldl (fun s p => compSample i p s) s) s
  else s

/-- Mean of the valid current samples of a channel, rounded towards zero, or the latest flag (R247). -/
def currentMean (ws : List Word) : Word :=
  let v := ws.filter fun w => !isFlag w
  if v.isEmpty then ws.getLast?.getD 0x7FF00
  else BitVec.ofInt 20 (Int.tdiv ((v.map Word.s20).sum) v.length)

/-- The latest values of every signal and of every channel block (R223, R247). -/
def latestValues (blk : List Word) (s : State) : State :=
  let s := (List.range 878).foldl (fun s i =>
    match (signalSamples blk i).getLast? with
    | some p => s.setCopy (0x8A100 + i) p.2
    | none => s) s
  (List.range 176).foldl (fun s n =>
    let cur := (signalSamples blk n).map (·.2)
    let s := s.setCopy (chanAddr n 0x1C) (cur.getLast?.getD 0x7FF00)
    let s := s.setCopy (chanAddr n 0x1D) (currentMean cur)
    let s := s.setCopy (chanAddr n 0x1E) (blk.getD (884 + n) 0)
    let s := match (signalSamples blk (352 + n)).getLast? with
      | some p => s.setCopy (chanAddr n 0x1F) p.2
      | none => s
    (s.setCopy (chanAddr n 0x10) (blk.getD (1591 + 2 * n) 0)).setCopy (chanAddr n 0x11) (blk.getD (1592 + 2 * n) 0)) s

/-- CAL_FAIL, and FAB_NOT_VALID lost or settled, as a block's header differs from the one before; before the first block of a
start the fabric counts as valid (R241, R548). DESIGN CHOICE, assumption log 61. -/
def fabricRecords (first : Bool) (blk : List Word) (s : State) : State :=
  let h := blk.getD 0 0
  let st := s.copyReg 0x8A000
  let s := if h.bit 15 && !st.bit 18 then laneRecord ⟨0x05, 0x022, 0x8A000, 0, 0⟩ s else s
  if h.bit 16 = (first || st.bit 19) then s
  else laneRecord ⟨0x05, 0x025, 0x8A000, Word.ofN (flagAt (!h.bit 16) 0), 0⟩ s

/-- MEAS_STATUS after a block: the header's flags and the counts of faulty modulators and converters (R264). -/
def measStatus (blk : List Word) (s : State) : State :=
  let st := s.copyReg 0x8A000
  let mods := ((List.range 176).filter fun n => s.copyReg (0x8A100 + n) = 0x7FF02).length
  let muxes := ((List.range 24).filter fun v =>
    (List.range 878).any fun i => converterOf i = some v && s.copyReg (0x8A100 + i) = 0x7FF07).length
  s.setCopy 0x8A000 (((((st.setBit 19 ((blk.getD 0 0).bit 16)).setBit 18 ((blk.getD 0 0).bit 15)).put 15 8 mods).put 7 3 muxes))

/-- The run of slot `k`, if any, is to be discarded for `reason`; the first reason stands (R256). -/
def sigDrop (k reason : Nat) (s : State) : State :=
  if (s.slot k).run.isSome then s.setSlot k { s.slot k with drop := some ((s.slot k).drop.getD reason) } else s

/-- The discarded run of slot `k` ends with its event (R250, R256). -/
def sigFlush (k : Nat) (s : State) : State :=
  match (s.slot k).drop with
  | some r => postEvent (0x3F0 + k) 2 0 r (s.setSlot k { s.slot k with run := none, drop := none })
  | none => s

/-- Every discarded run ends, in slot order, while COMP_EN lets the slots run (R250, R265). -/
def sigFlushAll (s : State) : State :=
  if (s.copyReg 0x8A001).bit 19 then countLost (fun s => (List.range 16).foldl (fun s k => sigFlush k s) s) s else s

/-- BLOCK_LATE and BLOCK_MISSING, with their records; a missing frame breaks the runs that began
before its last sample (R244, R256, R548). -/
def blockOrder (frame : Nat) (blk : List Word) (s : State) : State :=
  let t0 := ofWords ((blk.drop 1).take 3)
  let late := decide ((t0 + 21200) % 2 ^ 60 ≠ s.ply.boundary % 2 ^ 60)
  let s := if late then
      laneRecord ⟨0x05, 0x020, 0x8A000, Word.ofN frame, 0⟩ (s.setCopy 0x8A000 ((s.copyReg 0x8A000).setBit 17 true))
    else s
  let s := match s.fab.lastFrame with
    | some f =>
      let miss := (frame + 2 ^ 20 - f - 1) % 2 ^ 20
      if miss ≠ 0 then
        let s := laneRecord ⟨0x05, 0x021, 0x8A000, Word.ofN frame, Word.ofN miss⟩
          (s.setCopy 0x8A000 ((s.copyReg 0x8A000).setBit 16 true))
        let gap := (t0 + 2 ^ 60 - 4000) % 2 ^ 60
        (List.range 16).foldl (fun (s : State) k =>
          if (s.slot k).run.any fun (r : SigRun) => decide (r.start ≤ gap) && decide (gap < 2 ^ 59) then sigDrop k 3 s else s)
          { s with fab := { s.fab with gapAt := some gap } }
      else s
    | none => s
  { s with fab := { s.fab with lastFrame := some frame } }

/-- Registers of signature slot `k`. -/
def sigAddr (k off : Nat) : Nat := 0x8CC00 + 16 * k + off

/-- MEAS_SIG_MIN[k][p]; the maximum stands 80h above it. -/
def sigPoint (k p : Nat) : Nat := 0x8D000 + 256 * k + p

/-- The current that slot `k` follows: the channel's, or the saturating sum of a parallel group (R251). Where a member's sample is a
sense flag the spec gives no sum, and the first such flag is the point: DESIGN CHOICE, assumption log 90. -/
def slotSample (s : State) (blk : List Word) (n j : Nat) : Word :=
  let ms := membersCopy s n
  let ws := ms.map fun m => blk.getD (4 + 5 * m + j) 0
  match ws.find? isFlag with
  | some f => f
  | none =>
    if ms.length ≤ 1 then ws.headD 0
    else BitVec.ofInt 20 (max (-0x80000) (min 0x7FEFF ((ws.map Word.s20).sum)))

/-- A word of the envelope as the run that began under it sees it (R256). -/
def envWord (old : List (Nat × Word)) (s : State) (a : Nat) : Word :=
  ((old.find? fun p => p.1 = a).map (·.2)).getD (s.copyReg a)

/-- The points of a completed run against the envelope (R253, R254, R255). -/
def sigFinish (k : Nat) (pts : List Word) (s : State) : State :=
  let cfg := s.copyReg (sigAddr k 0)
  let env := envWord (((s.slot k).run.map SigRun.old).getD []) s
  let s := s.setSlot k { s.slot k with run := none }
  if 16 < (pts.filter isFlag).length then postEvent (0x3F0 + k) 2 0 2 s
  else if cfg.field 19 18 = 1 then
    let s := pts.zipIdx.foldl (fun s p =>
      if isFlag p.1 then s
      else
        let a := sigPoint k p.2
        let lo := if p.1.s20 < (s.copyReg a).s20 then p.1 else s.copyReg a
        let hi := if (s.copyReg (a + 0x80)).s20 < p.1.s20 then p.1 else s.copyReg (a + 0x80)
        (s.setCopy a lo).setCopy (a + 0x80) hi) s
    let st := s.copyReg (sigAddr k 2)
    let runs := satTo 16 (st.field 19 15 + 1)
    let st := st.put 19 15 runs
    if cfg.field 4 0 ≤ runs then
      postEvent (0x3F0 + k) 3 0 0
        ((s.setCopy (sigAddr k 2) (st.setBit 14 true)).setCopy (sigAddr k 0) (cfg.put 19 18 2))
    else s.setCopy (sigAddr k 2) st
  else if cfg.field 19 18 = 2 then
    let tol := s.copyReg (sigAddr k 1)
    let fl : Int := 16 * (tol.field 19 8 : Nat)
    let out := (pts.zipIdx.filter fun p =>
      !isFlag p.1 && (decide (p.1.s20 < (env (sigPoint k p.2)).s20 - fl) ||
        decide ((env (sigPoint k p.2 + 0x80)).s20 + fl < p.1.s20))).length
    let bad := decide (tol.field 7 0 ≤ out)
    let st := (s.copyReg (sigAddr k 2)).put 7 0 out
    let cnt := s.copyReg (sigAddr k 3)
    let cnt := (cnt.put 19 10 (satTo 0x3FF (cnt.field 19 10 + 1))).put 9 0
      (satTo 0x3FF (cnt.field 9 0 + bad.toNat))
    postEvent (0x3F0 + k) (if bad then 1 else 0) 0 (Word.ofN out)
      ((s.setCopy (sigAddr k 2) (if bad then st.setBit 13 true else st)).setCopy (sigAddr k 3) cnt)
  else s

/-- One sample with its instant through the run of slot `k` (R252). Instants before the time base started are negative modulo
2⁶⁰ (R244). -/
def sigStep (k : Nat) (p : Nat × Word) (s : State) : State :=
  match (s.slot k).run with
  | none => s
  | some r =>
    if p.1 < r.start ∨ 2 ^ 59 ≤ p.1 then s
    else
      let sp := max 1 ((s.copyReg (sigAddr k 0)).field 9 5)
      let pts := if r.taken % sp = 0 then p.2 :: r.points else r.points
      if pts.length = 128 then sigFinish k pts.reverse s
      else s.setSlot k { s.slot k with run := some { r with taken := r.taken + 1, points := pts } }

/-- The slots over one block: the samples are held for four blocks and advance the runs (R252). -/
def sigBlock (blk : List Word) (s : State) : State :=
  if (s.copyReg 0x8A001).bit 19 then
    let t0 := ofWords ((blk.drop 1).take 3)
    (List.range 16).foldl (fun s k =>
      let s := sigFlush k s
      let cfg := s.copyReg (sigAddr k 0)
      if cfg.field 19 18 = 0 then s
      else
        let n := cfg.field 17 10
        let new := (List.range 5).map fun j => ((t0 + 4000 * j) % 2 ^ 60, slotSample s blk n j)
        let s := new.foldl (fun s p => sigStep k p s) s
        let held := (s.slot k).held ++ new
        s.setSlot k { s.slot k with held := held.drop (held.length - 20) }) s
  else s

/-- A run begins on a reported closing that opened an inrush window, and takes the samples already held; one that needs a
sample of a missing frame is discarded (R252, R256). -/
def sigBegin (n start : Nat) (s : State) : State :=
  (List.range 16).foldl (fun s k =>
    let cfg := s.copyReg (sigAddr k 0)
    if cfg.field 19 18 ≠ 0 ∧ cfg.field 17 10 = n ∧ (s.copyReg 0x8A001).bit 19 = true then
      let s := sigFlush k s
      let s := s.setSlot k { s.slot k with run := some ⟨start, 0, [], []⟩ }
      if s.fab.gapAt.any fun g => decide (start ≤ g) && decide (g < 2 ^ 59) then sigFlush k (sigDrop k 3 s)
      else (s.slot k).held.foldl (fun s p => sigStep k p s) s
    else s) s

/-- A run is discarded when its channel leaves ON, or the safe state of ON that began it (R256). -/
def sigLeft (n : Nat) (s : State) : State :=
  sigFlushAll ((List.range 16).foldl (fun s k =>
    if (s.copyReg (sigAddr k 0)).field 17 10 = n then sigDrop k 1 s else s) s)

/-- Registers of stream `x`. -/
def strmAddr (x off : Nat) : Nat := 0x8C800 + 16 * x + off

/-- Whole records leave the ring from RD until a record of `len` words fits (R259): what stays and how many went. -/
def makeRoom (size len : Nat) : List StreamRec → List StreamRec × Nat
  | [] => ([], 0)
  | r :: rs =>
    if ((r :: rs).map (·.len)).sum + len ≤ size - 1 then (r :: rs, 0)
    else let t := makeRoom size len rs; (t.1, t.2 + 1)

/-- The kept samples of one signal, and the signal's sample count afterwards (R257). -/
def keptSamples (decim cnt : Nat) : List Word → List Word × Nat
  | [] => ([], cnt)
  | w :: ws =>
    let t := keptSamples decim (cnt + 1) ws
    (if (cnt + 1) % max decim 1 = 0 then w :: t.1 else t.1, t.2)

/-- Every selected signal of a stream over one block. -/
def streamSamples (blk : List Word) (decim : Nat) : List Nat → List (Nat × Nat) → List Word × List (Nat × Nat)
  | [], cs => ([], cs)
  | i :: is, cs =>
    let k := keptSamples decim (Sparse.get (fun _ => 0) cs i) ((signalSamples blk i).map (·.2))
    let t := streamSamples blk decim is (Sparse.set (fun _ => 0) cs i k.2)
    (k.1 ++ t.1, t.2)

/-- Words are written into a ring of stream memory in every lane in step (R259, R260). -/
def ringWrite (base size off : Nat) (ws : List Word) (s : State) : State :=
  s.mapLanes fun g =>
    if g.inStep then
      { g with
        streamMem := ws.zipIdx.foldl
          (fun m p => Sparse.set (fun _ => (0 : Word)) m (base + (off + p.2) % max size 1) p.1) g.streamMem }
    else g

/-- GAP is set in the record at the new RD (R259). -/
def markGap (x : Nat) (s : State) : State :=
  match (s.stream x).held with
  | [] => s
  | r :: rs =>
    let h := r.hdr.setBit 12 true
    let s := s.setStream x { s.stream x with held := { r with hdr := h } :: rs }
    ringWrite (s.copyReg (strmAddr x 2)).toNat (s.copyReg (strmAddr x 3)).toNat r.off [h] s

/-- One record of stream `x` for one block where STR_EN lets it be written (R257, R259, R265). DEDUCED, assumption log 63. -/
def streamRecord (x seq : Nat) (blk : List Word) (s : State) : State :=
  let cfg := s.copyReg (strmAddr x 0)
  let sel := s.copyReg (strmAddr x 1)
  if cfg.bit 19 = false ∨ sel.field 9 0 = 0 then s
  else
    let base := (s.copyReg (strmAddr x 2)).toNat
    let size := (s.copyReg (strmAddr x 3)).toNat
    let sigs := (List.range (sel.field 9 0)).map (· + sel.field 19 10)
    let k := streamSamples blk (cfg.field 18 11) sigs (s.stream x).counts
    if (s.copyReg 0x8A001).bit 18 = false then s.setStream x { s.stream x with counts := k.2 }
    else
    let len := 4 + k.1.length
    let room := makeRoom size len (s.stream x).held
    let fits := decide (len ≤ size - 1)
    let lost := room.2 + (if fits then 0 else 1)
    let wr := (s.copyReg (strmAddr x 4)).toNat
    let tph := (blk.getD 0 0).field 19 17
    let hdr := Word.ofN (x * 2 ^ 16 + tph * 2 ^ 13 + k.1.length)
    let held := if fits then room.1 ++ [⟨wr, len, hdr, seq⟩] else room.1
    let s := s.setStream x ⟨held, k.2⟩
    let s := if fits then
        (ringWrite base size wr (hdr :: wordsOf seq 3 ++ k.1) s).setCopy (strmAddr x 4) (Word.ofN ((wr + len) % max size 1))
      else s
    if lost = 0 then s
    else
      let rd := match held with | [] => (s.copyReg (strmAddr x 4)).toNat | r :: _ => r.off
      let s := s.setCopy (strmAddr x 5) (Word.ofN rd)
      let s := s.setCopy (strmAddr x 6) (Word.sat ((s.copyReg (strmAddr x 6)).toNat + lost))
      laneRecord ⟨0x05, 0x027, 0x8A000, Word.ofN x, Word.ofN lost⟩ (markGap x s)

/-- The streams over one block (R245, R257, R265). -/
def streamBlock (seq : Nat) (blk : List Word) (s : State) : State :=
  (List.range 16).foldl (fun s x => streamRecord x seq blk s) s

/-- BLOCK_PROCESS: everything that phase A does with one sample block but for the input states of the field I/O
unit (R245). -/
def measBlock (seq frame : Nat) (blk : List Word) (s : State) : State :=
  let first := s.fab.lastFrame.isNone
  let s := latestValues blk (blockOrder frame blk s)
  let s := measStatus blk (fabricRecords first blk s)
  streamBlock seq blk (countLost (fun s => sigBlock blk (compBlock blk s)) s)

/-- The value a MEAS register will hold once the accepted writes of the ply take effect (R235). -/
def measView (s : State) (a : Nat) : Word :=
  match s.measPend.reverse.find? (fun p => p.addr = a) with
  | some p => p.value
  | none => s.copyReg a

/-- Worst-case words per ply of a stream with these settings (R258). -/
def streamCost (decim first count : Nat) : Nat :=
  4 + ((List.range count).map fun k => (samplesPerPly (first + k) + decim - 1) / max decim 1).sum

/-- The write budget with stream `x` enabled as it stands (R258). -/
def streamsCost (s : State) (x decim : Nat) : Nat :=
  ((List.range 16).map fun y =>
    let cfg := measView s (strmAddr y 0)
    let sel := measView s (strmAddr y 1)
    if y = x then streamCost decim (sel.field 19 10) (sel.field 9 0)
    else if cfg.bit 19 then streamCost (cfg.field 18 11) (sel.field 19 10) (sel.field 9 0) else 0).sum

/-- The ring of stream `x` lies inside stream memory and overlaps no other enabled ring (R258). -/
def ringFree (s : State) (x : Nat) : Bool :=
  let b := (measView s (strmAddr x 2)).toNat
  let z := (measView s (strmAddr x 3)).toNat
  decide (b + z ≤ 0x80000) && (List.range 16).all fun y =>
    let b' := (measView s (strmAddr y 2)).toNat
    let z' := (measView s (strmAddr y 3)).toNat
    y = x || !(measView s (strmAddr y 0)).bit 19 || decide (b + z ≤ b') || decide (b' + z' ≤ b)

/-- A stream offset is a record boundary: the first word of a record held, or WR (R259). -/
def recordBoundary (s : State) (x : Nat) (v : Word) : Bool :=
  v = s.copyReg (strmAddr x 4) || (s.stream x).held.any fun r => Word.ofN r.off = v

/-- The fields of a comparator register that a write may change, each under its own rule: the value kept, and whether
something was refused (R267, R268). -/
def compCheck (s : State) (i which : Nat) (v : Word) : Option Word × Bool :=
  let base := 0x8B000 + 4 * i
  let hi := (measView s base).s20
  let lo := (measView s (base + 1)).s20
  let roc := measView s (base + 2)
  let sup := measView s (base + 3)
  match which with
  | 0 => if isFlag v || (sup.bit 19 && sup.bit 18 && !decide (lo < v.s20)) then (none, true) else (some v, false)
  | 1 => if isFlag v || (sup.bit 19 && sup.bit 18 && !decide (v.s20 < hi)) then (none, true) else (some v, false)
  | 2 => if v = 0 && sup.bit 17 then (none, true) else (some v, false)
  | _ =>
    if v.bit 19 && v.bit 18 && !decide (lo < hi) then (none, true)
    else
      let badRoc := v.bit 17 && roc = 0
      let badSpan := decide (v.field 16 14 = 0)
      let badFilt := decide (v.field 13 10 = 0)
      let nv := if badRoc then v.setBit 17 (sup.bit 17) else v
      let nv := if badSpan then nv.put 16 14 (sup.field 16 14) else nv
      let nv := if badFilt then nv.put 13 10 (sup.field 13 10) else nv
      (some nv, badRoc || badSpan || badFilt)

/-- A second slot in use names the same channel (R251). -/
def slotTaken (s : State) (k n : Nat) : Bool :=
  (List.range 16).any fun j =>
    j ≠ k && decide ((measView s (sigAddr j 0)).field 19 18 ≠ 0) && decide ((measView s (sigAddr j 0)).field 17 10 = n)

/-- The rules of MEAS_SIG_CFG (R251, R272). -/
def sigCfgCheck (s : State) (k : Nat) (v : Word) : Option Word × Bool :=
  let old := measView s (sigAddr k 0)
  let n := v.field 17 10
  if 175 < n ∨ leaderCopy s n ≠ n ∨ (v.field 19 18 ≠ 0 ∧ slotTaken s k n = true) then (none, true)
  else
    let badMode := decide (v.field 19 18 = 3)
    let badSp := decide (v.field 9 5 = 0) || decide (16 < v.field 9 5)
    let badLn := decide (v.field 4 0 = 0) || decide (16 < v.field 4 0)
    let nv := if badMode then v.put 19 18 (old.field 19 18) else v
    let nv := if badSp then nv.put 9 5 (old.field 9 5) else nv
    let nv := if badLn then nv.put 4 0 (old.field 4 0) else nv
    (some nv, badMode || badSp || badLn)

/-- The rules of the stream registers (R258, R259, R270). -/
def streamCheck (s : State) (x off : Nat) (v : Word) : Option Word × Bool :=
  let cfg := measView s (strmAddr x 0)
  match off with
  | 0 =>
    let d := v.field 18 11
    let badD := d = 0 || decide (250 < d)
    if v.bit 19 then
      if cfg.bit 19 || badD || !ringFree s x || decide (4096 < streamsCost s x d) then (none, true) else (some v, false)
    else if badD then (some (v.put 18 11 (cfg.field 18 11)), true) else (some v, false)
  | 1 =>
    if cfg.bit 19 || decide (877 < v.field 19 10) || decide (878 < v.field 19 10 + v.field 9 0) then (none, true)
    else (some v, false)
  | 2 => if cfg.bit 19 || decide (0x7FFFF < v.toNat) then (none, true) else (some v, false)
  | 3 => if cfg.bit 19 || decide (v.toNat < 64) || decide (524288 < v.toNat) then (none, true) else (some v, false)
  | 5 => if recordBoundary s x v then (some v, false) else (none, true)
  | _ => (none, false)

/-- A write to a MEAS register: what will take effect at the next phase A, and whether anything is refused (R235,
R263 to R272). The DMA registers are in `Dma.lean`. -/
def measCheck (s : State) (a : Nat) (v : Word) : Option Word × Bool :=
  if a = 0x8A000 ∨ a = 0x8A001 then (some v, false)
  else if a = 0x8A003 then
    let head := (s.copyReg 0x8A002).toNat
    let tail := (s.copyReg 0x8A003).toNat
    if (v.field 9 0 + 1024 - tail) % 1024 ≤ (head + 1024 - tail) % 1024 then (some v, false) else (none, true)
  else if 0x8B000 ≤ a ∧ a < 0x8BD60 then compCheck s ((a - 0x8B000) / 4) (a % 4) v
  else if 0x8C000 ≤ a ∧ a < 0x8C358 then (some v, false)
  else if 0x8C800 ≤ a ∧ a < 0x8C900 then streamCheck s ((a - 0x8C800) / 16) (a % 16) v
  else if 0x8CC00 ≤ a ∧ a < 0x8CD00 then
    match a % 16 with
    | 0 => sigCfgCheck s ((a - 0x8CC00) / 16) v
    | 1 =>
      if v.field 7 0 = 0 ∨ 128 < v.field 7 0 then (some (v.put 7 0 ((measView s a).field 7 0)), true) else (some v, false)
    | 2 => (some v, false)
    | _ => (none, false)
  else if 0x8D000 ≤ a ∧ a < 0x8E000 then (some v, false)
  else (none, false)

/-- A write by master `m` to a MEAS register (R235). -/
def measWrite (m a : Nat) (v : Word) (s : State) : State :=
  let r := measCheck s a v
  let learn := decide (0x8CC00 ≤ a ∧ a < 0x8CD00 ∧ a % 16 = 0) && decide (v.field 19 18 = 1)
  let s := match r.1 with
    | some nv => { s with measPend := s.measPend ++ [⟨m, a, nv, learn⟩] }
    | none => s
  if r.2 then writeRefused m a v s else s

/-- A word of the envelope is written: the run in progress keeps the word as it was (R256). -/
def envWritten (a : Nat) (was : Word) (s : State) : State :=
  let k := (a - 0x8D000) / 256
  match (s.slot k).run with
  | some r =>
    if (s.copyReg (sigAddr k 0)).field 19 18 = 2 ∧ (r.old.any fun p => p.1 = a) = false then
      s.setSlot k { s.slot k with run := some { r with old := r.old ++ [(a, was)] } }
    else s
  | none => s

/-- An accepted MEAS write takes effect at the start of phase A; the samples held for a slot are those of its present channel
(R235, R249, R252, R253, R256, R261, R270). A write of MODE = 01b clears READY too, which R253 does not say: DESIGN CHOICE,
assumption log 90. -/
def measApply (p : MeasWrite) (s : State) : State :=
  let a := p.addr
  let old := s.copyReg a
  let s := s.setCopy a (regWrite a old p.value)
  if 0x8B000 ≤ a ∧ a < 0x8BD60 then
    let i := (a - 0x8B000) / 4
    (s.setComp i Comp.reset).setCopy (statAddr i) (((s.copyReg (statAddr i)).setBit 19 false).setBit 18 false)
  else if 0x8CC00 ≤ a ∧ a < 0x8CD00 ∧ a % 16 ≤ 1 then
    let k := (a - 0x8CC00) / 16
    let s := sigDrop k 4 s
    let s := if a % 16 = 0 ∧ (p.value.field 19 18 = 0 ∨ p.value.field 17 10 ≠ old.field 17 10)
      then s.setSlot k { s.slot k with held := [] } else s
    if p.learn then
      let s := s.clearCopy (sigPoint k 0, sigPoint k 255)
      s.setCopy (sigAddr k 2) (((s.copyReg (sigAddr k 2)).put 19 15 0).setBit 14 false)
    else s
  else if 0x8C800 ≤ a ∧ a < 0x8C900 then
    let x := (a - 0x8C800) / 16
    if a % 16 = 0 ∧ old.bit 19 = false ∧ p.value.bit 19 = true then
      ((s.setStream x Stream.reset).clearCopy (strmAddr x 4, strmAddr x 6))
    else if a % 16 = 5 then
      s.setStream x { s.stream x with held := (s.stream x).held.dropWhile fun r => Word.ofN r.off ≠ p.value }
    else s
  else if 0x8C900 ≤ a ∧ a < 0x8C920 then
    let e := (a - 0x8C900) / 8
    s.setDma e { s.dma e with writers := Sparse.put (s.dma e).writers (a % 8) p.master }
  else if 0x8D000 ≤ a ∧ a < 0x8E000 then envWritten a old s
  else s

/-- Every accepted MEAS write of the ply takes effect (R235). -/
def measApplyAll (s : State) : State :=
  let ps := s.measPend
  ps.foldl (fun s p => measApply p s) { s with measPend := [] }

/-- SAMPLE_BLOCK: the fabric presents a frame's block, once, to both sequencer halves, with its frame count, which is its
boundary in plies modulo 2²⁰ (R243, R244). -/
def execSampleBlock (raw : List Word) (late : Bool) (s : State) : Host.Outcome State Fault Refusal :=
  .next (
    let b := blockBoundary s late
    if sequencerRuns s = true ∧ s.fab.sentAt < b then
      present 0x10 (makeBlock s raw late) (.block s.fab.recs)
        { s with
          fab := { s.fab with recs := [], sentAt := b },
          seq := { s.seq with counts := Sparse.set (fun _ => 0) s.seq.counts 0x10 ((b / 20000 - 1) % 2 ^ 20) } }
    else s)

/-- MUX_REFERENCE_CHECK (R242). -/
def execMuxReferenceCheck (v : Fin 24) (good : Bool) (s : State) : Host.Outcome State Fault Refusal :=
  let m := Sparse.get (fun _ => ⟨false, 0⟩) s.fab.mux v.val
  let m' : Mux := if !good then ⟨true, 0⟩ else if m.fault && decide (m.good < 2) then ⟨true, m.good + 1⟩ else ⟨false, 0⟩
  let recs := if m'.fault ≠ m.fault
    then s.fab.recs ++ [⟨0x05, 0x023, 0x8A000, Word.ofN v.val, Word.ofN m'.fault.toNat⟩] else s.fab.recs
  .next { s with fab := { s.fab with mux := Sparse.set (fun _ => ⟨false, 0⟩) s.fab.mux v.val m', recs := recs } }

/-- Modulator `n` carries MOD_FAULT (R242). -/
def modFault (n : Nat) (s : State) : State :=
  if s.fab.modFaults.contains n then s
  else { s with fab := { s.fab with
    modFaults := s.fab.modFaults ++ [n], recs := s.fab.recs ++ [⟨0x05, 0x024, 0x8A000, Word.ofN n, 0⟩] } }

/-- The offset of modulator `n` may be updated: its switch has been open for 10 ms, and a second has passed since the last
update (R242). -/
def offsetDue (s : State) (n : Nat) : Bool :=
  !(s.chan n).sw && !pulsed s n && ((s.chan n).openedAt.all fun t => decide (t + 1000000 ≤ s.clock)) &&
    (((s.fab.modLast.find? fun p => p.1 = n).map (·.2)).all fun t => decide (t + 100000000 ≤ s.clock))

/-- MOD_OFFSET_TRACK: a correction of at most 4 units, or MOD_FAULT where the bitstream has stopped or the offset needs more
than 1 % of 2¹⁹ units (R242). DESIGN CHOICE, assumption log 61. -/
def execModOffsetTrack (n : Fin 176) (step : Int) (fail : Bool) (s : State) : Host.Outcome State Fault Refusal :=
  .next (
    if fail then modFault n s
    else if offsetDue s n then
      let o := Sparse.get (fun _ => 0) s.fab.modOffset n.val + max (-4) (min 4 step)
      let s := { s with fab := { s.fab with modLast := (n.val, s.clock) :: s.fab.modLast.filter fun p => p.1 ≠ n.val } }
      if 5242 < o.natAbs then modFault n s
      else { s with fab := { s.fab with modOffset := Sparse.set (fun _ => 0) s.fab.modOffset n.val o } }
    else s)

end Sys2Proof.Machine
end

