-- ==== Sys2Proof/Machine/Fio.lean ====
section
/-! DEFINITION. The 24 V field inputs and outputs (R273 to R298). -/

namespace Sys2Proof.Machine

open Sys2Proof

/-- Register `off` of output `o` (R291). -/
def doAddr (o off : Nat) : Nat := 0x84200 + 4 * o + off

/-- FIO_GRP_STATUS[g] (R291). -/
def grpAddr (g : Nat) : Nat := 0x84010 + g

/-- The field I/O unit applies the commands of the lane that claimed it while it is not silent (R286, R558). -/
def fioAccepts (s : State) : Bool := (s.tgt fioT).claimed.isSome && !(s.tgt fioT).silent

/-- VFLD of the output's group is present (R281). -/
def supplyOk (s : State) (o : Nat) : Bool := (s.liveReg (grpAddr (o / 8))).bit 19

/-- Entries into COOLING within the last 10 s (R279). -/
def recentCools (s : State) (d : Dout) : Nat := (d.cools.filter fun t => s.clock < t + 1000000000).length

/-- FIO_DO_STATE as the unit shows it, without REVERSE and OPEN_LOAD, which the lanes keep (R288, R289, R296). -/
def doWord (s : State) (o : Nat) : Word :=
  let d := s.dout o
  let ok := supplyOk s o
  Word.ofN (d.state.code * 2 ^ 17 + flagAt (d.want && ok) 16 + flagAt (d.want && !ok) 15 + flagAt ok 14 +
    flagAt d.backfed 13 + flagAt (d.want && ok && d.lim) 10 + satTo 7 (recentCools s d) * 2 ^ 7)

/-- What the field I/O unit shows the lanes beside its entries: FIO_STATUS, and each output's and group's words (R154,
R273). -/
def fioWords (s : State) : List (Nat × Word) :=
  unitStatus s fioT ++ ((List.range 6).map fun g => (grpAddr g, s.liveReg (grpAddr g))) ++
    (List.range 48).flatMap fun o => [(doAddr o 1, doWord s o), (doAddr o 3, (s.dout o).fault)]

/-- A state entry of output `o` (R290); whether a closed driver is in current limit is a free value. DESIGN CHOICE,
assumption log 35. -/
def reportDo (o cause : Nat) (s : State) : State :=
  let lim := Config.inLimit s.free
  let s := { s.modDout o (fun d => { d with lim := lim }) with free := s.free + 1 }
  let w := doWord s o
  pushEntry fioT
    { kind := 0, obj := o, cause := cause, state := w,
      words := [Word.ofN (o * 4096 + cause), w, timeWord s fioT],
      copy := [(doAddr o 1, w), (doAddr o 3, (s.dout o).fault)],
      recs := [⟨0x06, cause, Word.ofN (doAddr o 1), Word.ofN o, w⟩], time := s.now, own := true, pulse := false } s

/-- A supply entry of group `g` (R290). -/
def reportGrp (g : Nat) (recs : List RecDraft) (s : State) : State :=
  let w := s.liveReg (grpAddr g)
  pushEntry fioT
    { kind := 4, obj := g, cause := 0, state := w, words := [Word.ofN (g * 2 ^ 17), w],
      copy := [(grpAddr g, w)], recs := recs, time := s.now, own := true, pulse := false } s

/-- A refusal of the unit (R290). -/
def refuseFio (obj off reason a : Nat) (v : Word) (s : State) : State :=
  s.modTgt fioT fun g => { g with refusals := g.refusals ++ [⟨Word.ofN (obj * 4096 + off % 32 * 128 + reason), v, a⟩] }

/-- Change output `o` and report it. -/
def changeDo (o cause : Nat) (f : Dout → Dout) (s : State) : State := reportDo o cause (s.modDout o f)

/-- Entry into COOLING (R279). -/
def Dout.cool (now : Nat) (d : Dout) : Dout :=
  { d with state := .cooling, want := false, cools := (now :: d.cools).take 8, bfHigh := 0, bfLow := 0 }

/-- The driver closes into `st`, or is held open while its group's supply is missing, which SUPPLY records (R281, R298). -/
def Dout.closeTo (st : ChState) (ok : Bool) (d : Dout) : Dout :=
  { d with
    state := st, want := true, bfHigh := 0, bfLow := 0, opened := none, fault := d.fault.setBit 10 (d.fault.bit 10 || !ok) }

/-- The driver opens into `st`; an opening of a closed driver is noted with its time (R280). -/
def Dout.openTo (now : Nat) (st : ChState) (d : Dout) : Dout :=
  { d with state := st, want := false, bfHigh := 0, bfLow := 0, opened := if d.want then some now else d.opened }

/-- The unit carries out ON (R279, R280), which a maintenance start never commands (R71). -/
def fioOn (o : Nat) (v : Word) (s : State) : State :=
  let d := s.dout o
  if s.maintenance then s
  else if (s.liveReg (doAddr o 2)).bit 19 = false then refuseFio o 0 0x01 (doAddr o 0) v s
  else match d.state with
    | .latched => refuseFio o 0 0x02 (doAddr o 0) v s
    | .off | .safe =>
      if d.thermal then changeDo o 0x001 (Dout.cool s.clock) s
      else if d.state = .safe ∧ d.want = true then changeDo o 0x001 (fun d => { d with state := .on }) s
      else changeDo o 0x001 (Dout.closeTo .on (supplyOk s o)) s
    | _ => s

/-- The unit carries out OFF (R279); in the cycle in which LIM_MS ended it comes before the latch (R280). -/
def fioOff (o : Nat) (s : State) : State :=
  let d := s.dout o
  match d.state with
  | .on | .safe | .cooling => changeDo o 0x002 (Dout.openTo s.clock .off) s
  | .latched =>
    if d.opened = some s.clock ∧ d.fault.field 19 16 = 1 then
      changeDo o 0x002 (fun d => { d with state := .off, fault := d.fault.put 19 16 0 }) s
    else s
  | _ => s

/-- The unit carries out CLEAR on a LATCHED output (R279, R298). -/
def fioClear (o : Nat) (s : State) : State :=
  if (s.dout o).state = .latched then
    changeDo o 0x003 (fun d => { (d.openTo s.clock .off) with fault := d.fault.put 19 16 0, opened := none }) s
  else s

/-- A FIO_DO_CTL write: CLEAR first, then OFF or ON (R280). -/
def fioCtl (o : Nat) (v : Word) (s : State) : State :=
  let s := if v.bit 17 then fioClear o s else s
  if v.bit 18 then fioOff o s else if v.bit 19 then fioOn o v s else s

/-- A FIO_GRP_CTL write: the eight outputs in index order (R293). -/
def fioGrpCtl (g : Nat) (v : Word) (s : State) : State :=
  (List.range 8).foldl (fun s k =>
    if v.bit (4 + k) then fioOff (8 * g + k) s else if v.bit (12 + k) then fioOn (8 * g + k) v s else s) s

/-- LATCHED with a cause (R298). -/
def Dout.latch (now cause bit : Nat) (d : Dout) : Dout :=
  { (d.openTo now .latched) with fault := (d.fault.setBit bit true).put 19 16 cause }

/-- An output in current limit for LIM_MS without a break latches (R279). With an OFF command of the same cycle it is OFF,
with LIMIT recorded; on an expiry of the same cycle the trip comes first (R280). DEDUCED, assumption log 76. -/
def fioLimit (o : Nat) (s : State) : State :=
  let d := s.dout o
  let cut := decide (d.opened = some s.clock)
  if (d.state = .on ∨ d.state = .hold ∨ d.state = .safe) ∧ ((d.want = true ∧ supplyOk s o = true) ∨ cut = true) then
    changeDo o 0x010 (Dout.latch s.clock 1 15) s
  else if d.state = .off ∧ cut = true then
    changeDo o 0x010 (fun d => { d with fault := d.fault.setBit 15 true }) s
  else s

/-- Thermal shutdown sets: from ON, HOLD or SAFE, whatever its driver, the output enters COOLING (R279). -/
def fioThermal (o : Nat) (s : State) : State :=
  let d := s.dout o
  let s := s.modDout o fun d => { d with thermal := true, fault := d.fault.setBit 14 true }
  if d.state = .on ∨ d.state = .hold ∨ d.state = .safe then changeDo o 0x011 (Dout.cool s.clock) s
  else s

/-- The state a COOLING output closes into, by the unit's silence (R283). -/
def closeInto (g : Target) : ChState := if g.timedOut then .safe else if g.silent then .hold else .on

/-- Thermal shutdown releases (R279); the latch of TH_AUTO = 0 sets no sticky bit, which its detection set (R219, R298). -/
def fioThermalRelease (o : Nat) (s : State) : State :=
  let s := s.modDout o fun d => { d with thermal := false }
  let d := s.dout o
  if d.state ≠ .cooling then s
  else if (s.liveReg (doAddr o 2)).bit 15 = false then
    changeDo o 0x011 (fun d => { (d.openTo s.clock .latched) with fault := d.fault.put 19 16 2 }) s
  else if 8 ≤ recentCools s d then changeDo o 0x012 (fun d => { (d.openTo s.clock .latched) with fault := d.fault.put 19 16 3 }) s
  else changeDo o 0x007 (Dout.closeTo (closeInto (s.tgt fioT)) (supplyOk s o)) s

/-- VFLDg goes missing (R281). -/
def fioMissing (g : Nat) (s : State) : State :=
  let a := grpAddr g
  let w := s.liveReg a
  let s := s.setLive a (((((w.setBit 19 false).setBit 18 true).setBit 17 true).setBit 16 true).put 15 8 (satTo 0xFF (w.field 15 8 + 1)))
  let s := (List.range 8).foldl (fun s k =>
    let o := 8 * g + k
    let d := s.dout o
    if d.want then changeDo o 0x017 (fun d => { d with fault := d.fault.setBit 10 true }) s else s) s
  reportGrp g [⟨0x06, 0x020, Word.ofN a, Word.ofN g, s.liveReg a⟩] s

/-- VFLDg falls below its low threshold (R281). -/
def fioLow (g : Nat) (s : State) : State :=
  let a := grpAddr g
  let s := s.setLive a (((s.liveReg a).setBit 18 true).setBit 16 true)
  reportGrp g [⟨0x06, 0x021, Word.ofN a, Word.ofN g, s.liveReg a⟩] s

/-- VFLDg returns: the held drivers close again in output order (R281). -/
def fioReturn (g : Nat) (low : Bool) (s : State) : State :=
  let a := grpAddr g
  let was := (s.liveReg a).bit 19
  let s := s.setLive a ((((s.liveReg a).setBit 19 true).setBit 18 low).setBit 16 ((s.liveReg a).bit 16 || low))
  let s := if was then s else (List.range 8).foldl (fun s k =>
    if (s.dout (8 * g + k)).want then reportDo (8 * g + k) 0x018 s else s) s
  reportGrp g [⟨0x06, 0x022, Word.ofN a, Word.ofN g, s.liveReg a⟩] s

/-- The claimed unit falls silent (R282, R283). -/
def fioSilence (s : State) : State :=
  if (s.tgt fioT).watched && !(s.tgt fioT).silent then
    let s := s.modTgt fioT fun g => { g with silent := true, recs := g.recs ++ [⟨0x06, 0x030, 0x84000, 0, 0⟩] }
    (List.range 48).foldl (fun s o =>
      match (s.dout o).state with
      | .off | .on => changeDo o 0x004 (fun d => { d with state := .hold }) s
      | _ => s) s
  else s

/-- One output takes its safe state (R284). -/
def fioSafe (o : Nat) (s : State) : State :=
  let d := s.dout o
  let m := safeMode s ((s.liveReg (doAddr o 2)).field 17 16)
  match d.state with
  | .off | .on | .hold =>
    if m = 0 then changeDo o 0x005 (Dout.openTo s.clock .safe) s
    else if m = 1 then changeDo o 0x005 (Dout.closeTo .safe (supplyOk s o)) s
    else changeDo o 0x005 (fun d => { d with state := .safe }) s
  | .cooling => if m = 0 then changeDo o 0x005 (Dout.openTo s.clock .safe) s else s
  | _ => s

/-- The logic-silence timeout expires (R284). -/
def fioTimeout (s : State) : State :=
  if (s.tgt fioT).watched && (s.tgt fioT).silent && !(s.tgt fioT).timedOut then
    let s := s.modTgt fioT fun g => { g with timedOut := true, recs := g.recs ++ [⟨0x06, 0x031, 0x84000, 0, 0⟩] }
    (List.range 48).foldl (fun s o => fioSafe o s) s
  else s

/-- BACKFED of one output from one comparison (R287). -/
def fioBackfed (o : Nat) (above below settled : Bool) (s : State) : State :=
  let d := s.dout o
  if (d.want && supplyOk s o) || !settled then s.modDout o fun d => { d with bfHigh := 0, bfLow := 0 }
  else
    let hi := if above then d.bfHigh + 1 else 0
    let lo := if below then d.bfLow + 1 else 0
    if 2 ≤ hi ∧ d.backfed = false then
      changeDo o 0x013 (fun d => { d with backfed := true, bfHigh := 0, bfLow := 0, fault := d.fault.setBit 13 true }) s
    else if 2 ≤ lo ∧ d.backfed = true then
      changeDo o 0x014 (fun d => { d with backfed := false, bfHigh := 0, bfLow := 0 }) s
    else s.modDout o fun d => { d with bfHigh := hi, bfLow := lo }

/-- An accepted claim: HOLD outputs return, and both full reports are presented (R286). -/
def fioClaim (s : State) : State :=
  let s := s.modTgt fioT fun g => { g with silent := false, timedOut := false }
  let s := (List.range 48).foldl (fun s o =>
    let s := if (s.dout o).state = .hold then s.modDout o fun d => { d with state := if d.want then .on else .off } else s
    reportDo o 0x006 s) s
  (List.range 6).foldl (fun s g => reportGrp g [] s) s

/-- Why a write to FIO_DO_CFG is refused, 0 for none (R285, R297). -/
def doCfgReason (o : Nat) (v : Word) (s : State) : Nat :=
  let old := s.liveReg (doAddr o 2)
  let st := (s.dout o).state
  let locked := decide (v.field 19 18 ≠ old.field 19 18) || v.bit 15 ≠ old.bit 15 || decide (v.field 14 8 ≠ old.field 14 8)
  if locked && st ≠ .off && st ≠ .latched then 0x05
  else if v.field 17 16 = 3 ∨ v.field 14 8 = 0 ∨ 100 < v.field 14 8 ∨ 20 < v.field 7 3 then 0x04
  else if v.field 17 16 = 2 ∧ v.bit 18 = false then 0x07
  else 0

/-- FIO_DI_CFG[d] obeys R277. -/
def diCfgOk (v : Word) : Bool :=
  decide (v.field 12 7 + 2 ≤ v.field 18 13) && decide (v.field 18 13 ≤ 60) && decide (1 ≤ v.field 6 0)

/-- Set bit `d mod 16` of the input register group at `base` (R294). -/
def setDiBit (base d : Nat) (b : Bool) (s : State) : State :=
  s.setCopy (base + d / 16) ((s.copyReg (base + d / 16)).setBit (d % 16) b)

/-- Bit `d mod 16` of an input register group. -/
def diBit (s : State) (base d : Nat) : Bool := (s.copyReg (base + d / 16)).bit (d % 16)

/-- The level of input `d` becomes unknown (R276). -/
def diUnknown (d : Nat) (s : State) : State :=
  setDiBit 0x84020 d false (setDiBit 0x84040 d false (s.setDin d Din.reset))

/-- A write to FIO_DI_CFG[d], after which the level of the input is unknown (R276, R277). -/
def fioDiCfg (d : Nat) (v : Word) (s : State) : State :=
  let a := 0x84100 + d
  diUnknown d (if diCfgOk v then s.setLive a v else refuseFio 0xFF d 0x04 a v s)

/-- A write at Board address `a` as the field I/O unit applies it (R273, R291). -/
def fioApply (a : Nat) (v : Word) (s : State) : State :=
  let store := s.setLive a (regWrite a (s.liveReg a) v)
  if a = 0x84001 then
    if v.field 19 8 < 10 ∨ 2000 < v.field 19 8 then refuseFio 0xFF 1 0x04 a v s else store
  else if 0x84010 ≤ a ∧ a < 0x84016 then store
  else if 0x84018 ≤ a ∧ a < 0x8401E then fioGrpCtl (a - 0x84018) v s
  else if 0x84100 ≤ a ∧ a < 0x84180 then fioDiCfg (a - 0x84100) v s
  else if 0x84200 ≤ a ∧ a < 0x842C0 then
    let o := (a - 0x84200) / 4
    match a % 4 with
    | 0 => fioCtl o v s
    | 2 => let r := doCfgReason o v s; if r = 0 then store else refuseFio o 2 r a v s
    | 3 => s.modDout o fun d => { d with fault := regWrite a d.fault v }
    | _ => s
  else s

/-- The state of input `d` after its level is decided, with RISE and FALL (R276). -/
def diShow (d : Nat) (known lvl : Bool) (s : State) : State :=
  let st := lvl != (s.copyReg (0x84100 + d)).bit 19
  let old := diBit s 0x84020 d
  let s := setDiBit 0x84020 d st s
  if known && st && !old then setDiBit 0x84028 d true s
  else if known && !st && old then setDiBit 0x84030 d true s
  else s

/-- DI_SAMPLE: one sample of input `d` (R276). -/
def diSample (d : Nat) (x : Word) (s : State) : State :=
  if isFlag x then s
  else
    let cfg := s.copyReg (0x84100 + d)
    let c := s.din d
    let onThr : Int := 5000 * (cfg.field 18 13 : Nat)
    let offThr : Int := 5000 * (cfg.field 12 7 : Nat)
    if onThr ≤ x.s20 ∨ x.s20 ≤ offThr then
      let side := decide (onThr ≤ x.s20)
      let s := setDiBit 0x84038 d false s
      if c.level = some side then s.setDin d { c with run := 0, bandRun := 0 }
      else if c.run + 1 = cfg.field 6 0 then
        let s := s.setDin d ⟨some side, 0, 0⟩
        setDiBit 0x84040 d true (diShow d c.level.isSome side s)
      else s.setDin d { c with run := c.run + 1, bandRun := 0 }
    else
      let b := min 250 (c.bandRun + 1)
      let s := s.setDin d { c with bandRun := b }
      if b = 250 ∧ c.bandRun < 250 then
        laneRecord ⟨0x06, 0x040, Word.ofN (0x84038 + d / 16), Word.ofN d, x⟩ (setDiBit 0x84038 d true s)
      else s

/-- One current sample of output `o` for REVERSE and OPEN_LOAD, which the lanes keep (R288, R289). -/
def doSample (o : Nat) (x : Word) (s : State) : State :=
  if isFlag x then s
  else
    let st := s.copyReg (doAddr o 1)
    let f := s.copyReg (doAddr o 3)
    let c := s.doutRuns o
    let thr : Int := 2500 * ((s.copyReg (doAddr o 2)).field 7 3 : Nat)
    let rr := if (if st.bit 12 then decide (-10000 < x.s20) else decide (x.s20 < -10000)) then c.reverse + 1 else 0
    let closed := st.bit 16 && (st.field 19 17 = 1 || st.field 19 17 = 5 || st.field 19 17 = 6)
    let low := decide (x.s20 < thr)
    let canSet := decide (0 < thr) && closed && st.bit 14 && !st.bit 10
    let orun := if st.bit 11 then (if low then 0 else c.openLoad + 1)
      else if canSet && low then c.openLoad + 1 else 0
    let flipR := decide (10 ≤ rr)
    let flipO := decide (10 ≤ orun)
    let st' := if flipR then st.setBit 12 (!st.bit 12) else st
    let st' := if flipO then st'.setBit 11 (!st.bit 11) else st'
    let f' := f.setBit 12 (f.bit 12 || (flipR && !st.bit 12))
    let f' := f'.setBit 11 (f.bit 11 || (flipO && !st.bit 11))
    let s := s.setDoutRuns o ⟨if flipR then 0 else rr, if flipO then 0 else orun⟩
    let s := (s.setCopy (doAddr o 1) st').setCopy (doAddr o 3) f'
    let s := if flipR && !st.bit 12 then laneRecord ⟨0x06, 0x015, Word.ofN (doAddr o 1), Word.ofN o, st'⟩ s else s
    if flipO && !st.bit 11 then laneRecord ⟨0x06, 0x016, Word.ofN (doAddr o 1), Word.ofN o, st'⟩ s else s

/-- The field I/O part of phase A for one block (R276, R288, R289). DEDUCED, assumption log 36. -/
def fioBlock (blk : List Word) (s : State) : State :=
  let s := (List.range 128).foldl (fun s d => diSample d (blk.getD (1332 + d) 0x7FF00) s) s
  (List.range 48).foldl (fun s o =>
    match (signalSamples blk (792 + o)).getLast? with
    | some p => doSample o p.2 s
    | none => s) s

/-- DI_CFG_WRITE: the write is checked, and the input's level becomes unknown (R276, R277). -/
def execDiCfgWrite (d : Fin 128) (v : Word) (s : State) : Host.Outcome State Fault Refusal :=
  let s := fioDiCfg d v s
  .next (if diCfgOk v then s.setCopy (0x84100 + d.val) v else s)

/-- DO_ON (R279, R280). -/
def execDoOn (o : Fin 48) (s : State) : Host.Outcome State Fault Refusal :=
  .next (if fioAccepts s then fioOn o 0x80000 s else s)

/-- DO_OFF (R279). -/
def execDoOff (o : Fin 48) (s : State) : Host.Outcome State Fault Refusal :=
  .next (if fioAccepts s then fioOff o s else s)

/-- DO_CLEAR (R279). -/
def execDoClear (o : Fin 48) (s : State) : Host.Outcome State Fault Refusal :=
  .next (if fioAccepts s then fioClear o s else s)

/-- GRP_ON (R293). -/
def execGrpOn (g : Fin 6) (mask : BitVec 8) (s : State) : Host.Outcome State Fault Refusal :=
  .next (if fioAccepts s then fioGrpCtl g (Word.ofN (mask.toNat * 2 ^ 12)) s else s)

/-- GRP_OFF (R293). -/
def execGrpOff (g : Fin 6) (mask : BitVec 8) (s : State) : Host.Outcome State Fault Refusal :=
  .next (if fioAccepts s then fioGrpCtl g (Word.ofN (mask.toNat * 2 ^ 4)) s else s)

/-- LIMIT (R279). -/
def execLimit (o : Fin 48) (s : State) : Host.Outcome State Fault Refusal := .next (fioLimit o s)

/-- THERMAL (R279). -/
def execThermal (o : Fin 48) (s : State) : Host.Outcome State Fault Refusal := .next (fioThermal o s)

/-- DO_THERMAL_RELEASE (R279). -/
def execDoThermalRelease (o : Fin 48) (s : State) : Host.Outcome State Fault Refusal := .next (fioThermalRelease o s)

/-- VFLD_MISSING (R281). -/
def execVfldMissing (g : Fin 6) (s : State) : Host.Outcome State Fault Refusal := .next (fioMissing g s)

/-- VFLD_LOW (R281). -/
def execVfldLow (g : Fin 6) (s : State) : Host.Outcome State Fault Refusal := .next (fioLow g s)

/-- VFLD_OK (R281). -/
def execVfldOk (g : Fin 6) (low : Bool) (s : State) : Host.Outcome State Fault Refusal := .next (fioReturn g low s)

/-- FIO_UNIT_SILENT (R282). -/
def execFioUnitSilent (s : State) : Host.Outcome State Fault Refusal := .next (fioSilence s)

/-- FIO_TIMED_OUT (R284). -/
def execFioTimedOut (s : State) : Host.Outcome State Fault Refusal := .next (fioTimeout s)

/-- FIO_BACKFED_EVAL (R287). -/
def execFioBackfedEval (o : Fin 48) (above below settled : Bool) (s : State) : Host.Outcome State Fault Refusal :=
  .next (fioBackfed o above below settled s)

end Sys2Proof.Machine
end

