-- ==== Sys2Proof/Machine/Light.lean ====
section
/-! DEFINITION. LED strings, bypass switching, fades and signalling matrices (R299 to R327). -/

namespace Sys2Proof.Machine

open Sys2Proof

/-- Register `off` of matrix `m` (R322). -/
def mxAddr (m off : Nat) : Nat := 0x86400 + 16 * m + off

/-- LGT_PIX[m][l][c], by pixel 48l + c (R322). -/
def pixAddr (m px : Nat) : Nat := 0x87000 + 0x800 * m + px

/-- The lighting unit applies the commands of the lane that claimed it while it is not silent (R320, R558). -/
def lgtAccepts (s : State) : Bool := (s.tgt lgtT).claimed.isSome && !(s.tgt lgtT).silent

/-- The PWM frequency selected by FREQ, 0 where it is refused (R304). -/
def pwmFreq (f : Nat) : Nat := [200, 250, 400, 500, 1000, 2000].getD f 0

/-- The PWM period in ticks of 25 ns (R304). -/
def pwmPeriod (cfg : Word) : Nat := 40000000 / max 1 (pwmFreq (cfg.field 8 6))

/-- Resolution in bits (R304, R324). -/
def strBits (cfg : Word) : Nat := cfg.field 12 9 + 8

/-- The feed of a string is present (R22, R302). -/
def strFeedOk (s : State) (x : Nat) : Bool := if x < 4 then s.sup.vpwrA.ok else s.sup.vpwrB.ok

/-- A feed of the matrices is present: either power feed (R312). -/
def mxFeedOk (s : State) : Bool := s.sup.vpwrA.ok || s.sup.vpwrB.ok

/-- LGT_STR_STATE (R324). -/
def strWord (s : State) (x : Nat) : Word :=
  let d := s.str x
  Word.ofN (d.state.code * 2 ^ 17 + flagAt d.fade.isSome 16 + flagAt (d.run && !strFeedOk s x) 15 +
    flagAt (strFeedOk s x) 14 + flagAt d.reg 13)

/-- LGT_MX_STATE (R327). -/
def mxWord (s : State) (m : Nat) : Word :=
  let d := s.mx m
  Word.ofN (d.state.code * 2 ^ 17 + flagAt d.fade.isSome 16 + flagAt d.swapPend 15 + flagAt (mxFeedOk s) 14)

/-- Time of a change in units of 100 µs from the last ply close, in bits 11:0 (R321). -/
def lgtTime (s : State) : Nat := satTo 0xFFF (sinceReport s lgtT / 10000)

/-- A state entry of object `obj` whose state word is `w` and whose register stands at `a` (R321, R550). -/
def pushLgt (obj cause : Nat) (w : Word) (a hi : Nat) (arg1 : Word) (copy : List (Nat × Word)) (s : State) : State :=
  pushEntry lgtT
    { kind := 0, obj := obj, cause := cause, state := w,
      words := [Word.ofN (obj * 4096 + cause), w, Word.ofN (hi * 4096 + lgtTime s)],
      copy := copy, recs := [⟨0x07, cause, Word.ofN a, Word.ofN obj, arg1⟩], time := s.now, own := true, pulse := false } s

/-- The copy words that a report of string `x` brings up to date. -/
def strCopy (s : State) (x : Nat) : List (Nat × Word) :=
  let d := s.str x
  [(strAddr x 1, strWord s x), (strAddr x 8, d.fault), (strAddr x 9, Word.ofN d.openLeds.toNat),
    (strAddr x 10, Word.ofN d.shortedLeds.toNat)]

/-- A state entry of string `x`. -/
def reportStr (x cause : Nat) (s : State) : State :=
  let w := strWord s x
  pushLgt x cause w (strAddr x 1) 0 w (strCopy s x) s

/-- What the lighting unit shows the lanes beside its entries: LGT_STATUS, and the words of each string and matrix (R154,
R299). -/
def lgtWords (s : State) : List (Nat × Word) :=
  unitStatus s lgtT ++ ((List.range 8).flatMap fun x => strCopy s x) ++
    (List.range 2).flatMap fun m => [(mxAddr m 1, mxWord s m), (mxAddr m 6, (s.mx m).fault)]

/-- A state entry of LED `k` of string `x`: its open and shorted bits in bits 1:0 (R321). -/
def reportLed (x k cause : Nat) (s : State) : State :=
  let d := s.str x
  let w := Word.ofN (flagAt (d.openLeds.getLsbD k) 1 + flagAt (d.shortedLeds.getLsbD k) 0)
  pushLgt (16 + 16 * x + k) cause w (strAddr x 1) 0 w [] s

/-- A state entry of matrix `m`; `hi` carries the line or column number of a matrix fault. -/
def reportMx (m cause hi : Nat) (s : State) : State :=
  let w := mxWord s m
  let arg1 := if 0x020 ≤ cause ∧ cause ≤ 0x022 then Word.ofN hi else w
  pushLgt (8 + m) cause w (mxAddr m 1) hi arg1 [(mxAddr m 1, w), (mxAddr m 6, (s.mx m).fault)] s

/-- A refusal of the unit (R321). -/
def refuseLgt (obj off reason a : Nat) (v : Word) (s : State) : State :=
  s.modTgt lgtT fun g => { g with refusals := g.refusals ++ [⟨Word.ofN (obj * 4096 + off % 32 * 128 + reason), v, a⟩] }

/-- States in which the protections of an object act (R309). -/
def lgtActs (st : ChState) : Bool := st = .on || st = .hold || st = .safe

/-- Change string `x` and report it; an ON, HOLD or SAFE string whose feed is missing records FEED (R302). -/
def changeStr (x cause : Nat) (f : Str → Str) (s : State) : State :=
  let ok := strFeedOk s x
  reportStr x cause (s.modStr x fun d =>
    let d := f d
    { d with fault := d.fault.setBit 10 (d.fault.bit 10 || (lgtActs d.state && !ok)) })

/-- Change matrix `m` and report it. -/
def changeMx (m cause : Nat) (f : Mx → Mx) (s : State) : State := reportMx m cause 0 (s.modMx m f)

/-- The targets of a string: DUTY and the sixteen levels as last applied (R306). -/
def strTargets (s : State) (x : Nat) : List Nat :=
  (s.liveReg (strAddr x 4)).field 15 0 :: (List.range 16).map fun k => (s.liveReg (strAddr x (0x10 + k))).field 7 0

/-- Length of a fade of `time` units of 10 ms in periods of `p` ticks (R306). -/
def fadeLength (time p : Nat) : Nat := (time * 400000 + p - 1) / max p 1

/-- A fade of string `x` from `startV` to the targets; `time` 0 steps at the next period start (R306). -/
def strFade (s : State) (x : Nat) (startV : List Nat) (timed : Bool) : Fade :=
  let f := s.liveReg (strAddr x 5)
  ⟨startV, strTargets s x, if timed then fadeLength (f.field 9 0) (pwmPeriod (s.liveReg (strAddr x 2))) else 0, 0, f.bit 19⟩

/-- Integer cube root, one bit of the root at a time. DEDUCED, assumption log 38. -/
def cubeRoot (n : Nat) : Nat → Nat → Nat
  | 0, r => r
  | k + 1, r => cubeRoot n k (if (r + 2 ^ k) ^ 3 ≤ n then r + 2 ^ k else r)

/-- CIE 1976 lightness of a code `v` of full scale `m`, scaled by 2⁶⁰ (R307). -/
def lightness (v m : Nat) : Nat :=
  if v * 1000000 ≤ 8856 * m then 9033 * v * 2 ^ 60 / (10 * m)
  else 116 * cubeRoot (v * 2 ^ 180 / m) 64 0 - 16 * 2 ^ 60

/-- The code nearest to a lightness scaled by 2⁶⁰ (R307). -/
def codeOf (l m : Nat) : Nat :=
  if l * 10000000 ≤ 9033 * 8856 * 2 ^ 60 then (2 * 10 * l * m + 9033 * 2 ^ 60) / (2 * 9033 * 2 ^ 60)
  else
    let c := l + 16 * 2 ^ 60
    (2 * c ^ 3 * m + 116 ^ 3 * 2 ^ 180) / (2 * 116 ^ 3 * 2 ^ 180)

/-- One value at period `p` of `n`: linear truncation (R306) or the perceptual curve (R307); `m` is full scale. -/
def fadeValue (curve : Bool) (a b p n m : Nat) : Nat :=
  if n ≤ p then b
  else if curve then
    let la := lightness a (max m 1)
    let lb := lightness b (max m 1)
    codeOf ((((la : Int) + ((lb : Int) - la) * p / n)).toNat) (max m 1)
  else ((a : Int) + Int.tdiv (((b : Int) - a) * p) n).toNat

/-- Every value of a fade at its period `p` (R306): the first value has full scale `m0`, the others `m1`. -/
def Fade.values (f : Fade) (m0 m1 : Nat) : List Nat :=
  ((f.startV.zip f.endV).zipIdx).map fun q =>
    fadeValue f.curve q.1.1 q.1.2 f.p f.n (if q.2 = 0 then m0 else m1)

/-- The converter stops: it delivers no current, and UNDERCURRENT reads 0 (R302, R309). -/
def Str.stop (now : Nat) (d : Str) : Str :=
  { d with run := false, lit := false, fault := d.fault.setBit 9 false, stopped := if d.run then some now else d.stopped }

/-- Entry into COOLING (R309). -/
def Str.cool (now : Nat) (d : Str) : Str :=
  { d.stop now with state := .cooling, cools := (now :: d.cools).take 8 }

/-- LATCHED with a cause and a sticky bit (R309, R326). -/
def Str.latch (now cause bit : Nat) (d : Str) : Str :=
  let d := d.stop now
  { d with state := .latched, fault := (d.fault.setBit bit true).put 19 16 cause }

/-- A string stops: dark, no fade, every present value 0 (R308). -/
def Str.dark (now : Nat) (st : ChState) (d : Str) : Str :=
  { d.stop now with state := st, fade := none, safePend := false, vals := List.replicate 17 0 }

/-- ON of a string, with or without GO in the same write: with GO the fade starts from present values of 0 (R306, R308,
R309). -/
def lgtOn (x : Nat) (withGo : Bool) (v : Word) (s : State) : State :=
  let d := s.str x
  let start := if withGo || decide (d.state = .off) then List.replicate 17 0 else d.vals
  if s.maintenance then s
  else if (s.liveReg (strAddr x 2)).bit 19 = false then refuseLgt x 0 0x01 (strAddr x 0) v s
  else match d.state with
    | .latched => refuseLgt x 0 0x02 (strAddr x 0) v s
    | .off | .safe =>
      let d' : Str := { d with fade := some (strFade s x start withGo), vals := start, safePend := false }
      if d.thermal then changeStr x 0x001 (fun _ => d'.cool s.clock) s
      else changeStr x 0x001 (fun _ => { d' with state := .on, run := true, stopped := none }) s
    | _ => if withGo then s.modStr x fun d => { d with fade := some (strFade s x d.vals true) } else s

/-- OFF of a string: it cancels any fade and sets every present value to 0 (R308, R309). In the cycle of a trip it comes
before the latch of that trip. -/
def lgtOff (x : Nat) (s : State) : State :=
  let d := s.str x
  match d.state with
  | .on | .safe | .cooling => changeStr x 0x002 (Str.dark s.clock .off) s
  | .off => s.modStr x (Str.dark s.clock .off)
  | .latched =>
    if d.stopped = some s.clock then
      changeStr x 0x002 (fun d =>
        let e := d.dark s.clock .off
        { e with fault := e.fault.put 19 16 0 }) s
    else s.modStr x (Str.dark s.clock .latched)
  | _ => s

/-- CLEAR of a string: LATCHED to OFF, and the open-LED bits while OFF or LATCHED (R309, R310, R324). -/
def lgtClear (x : Nat) (s : State) : State :=
  match (s.str x).state with
  | .latched => changeStr x 0x003 (fun d =>
      let e := d.dark s.clock .off
      { e with fault := e.fault.put 19 16 0, openLeds := 0, stopped := none }) s
  | .off => s.modStr x fun d => { d with openLeds := 0 }
  | _ => s

/-- GO of a string that is not OFF or LATCHED (R306, R308). -/
def lgtGo (x : Nat) (s : State) : State :=
  match (s.str x).state with
  | .off | .latched => s
  | _ => s.modStr x fun d => { d with fade := some (strFade s x d.vals true) }

/-- A LGT_STR_CTL write: CLEAR, then OFF, else ON or GO (R308). -/
def lgtCtl (x : Nat) (v : Word) (s : State) : State :=
  let s := if v.bit 17 then lgtClear x s else s
  if v.bit 18 then lgtOff x s
  else if v.bit 19 then lgtOn x (v.bit 16) v s
  else if v.bit 16 then lgtGo x s
  else s

/-- Why a write to LGT_STR_CFG is refused, 0 for none (R303, R304, R319, R324). -/
def strCfgReason (x : Nat) (v : Word) (s : State) : Nat :=
  let old := s.liveReg (strAddr x 2)
  let st := (s.str x).state
  if v.field 19 2 ≠ old.field 19 2 ∧ st ≠ .off ∧ st ≠ .latched then 0x05
  else if 16 < v.field 17 13 ∨ 8 < v.field 12 9 ∨ 5 < v.field 8 6 ∨ pwmPeriod v < 2 ^ strBits v ∨
      (v.bit 19 = true ∧ v.field 17 13 = 0) then 0x04
  else if v.bit 18 = false ∧ (s.liveReg (strAddr x 6)).field 19 18 = 2 then 0x07
  else 0

/-- A write to LGT_STR_CFG; an accepted one clears the open-LED bits (R310, R324) and what the positions now absent had
recorded (R303). -/
def strCfg (x : Nat) (v : Word) (s : State) : State :=
  let a := strAddr x 2
  let r := strCfgReason x v s
  if r ≠ 0 then refuseLgt x 2 r a v s
  else
    let w := regWrite a (s.liveReg a) v
    let n := w.field 17 13
    (s.setLive a w).modStr x fun d =>
      { d with
        openLeds := 0, shortedLeds := d.shortedLeds &&& BitVec.ofNat 16 (2 ^ n - 1),
        shortRuns := d.shortRuns.filter fun p => p.1 < n }

/-- The pattern of bypass switches at an on-time start: closed for absent, dark and open LEDs (R303, R305, R310). -/
def bypassPattern (d : Str) : BitVec 16 :=
  BitVec.ofNat 16 (((List.range 16).map fun k =>
    if d.cfg.field 17 13 ≤ k || d.vals.getD (k + 1) 0 = 0 || d.openLeds.getLsbD k then 2 ^ k else 0).sum)

/-- The string lights in this period: it runs, its feed is present and some LED is lit. -/
def strLights (s : State) (x : Nat) (d : Str) (by_ : BitVec 16) : Bool :=
  d.run && strFeedOk s x && by_ ≠ 0xFFFF

/-- PWM_PERIOD_START: settings take effect, the fade advances and the on-time begins (R299, R304, R305, R306); until
a lane first claims the unit its bypass switches stay open (R45). In a period whose converter does not start no current is
below its setting (R302, R326). DEDUCED, assumption log 37. -/
def periodStart (x : Nat) (s : State) : State :=
  let cfg := s.liveReg (strAddr x 2)
  let safe := s.liveReg (strAddr x 6)
  let spat := s.liveReg (strAddr x 7)
  let full := 2 ^ strBits cfg - 1
  let d := s.str x
  let d : Str := { d with cfg := cfg, cur := s.liveReg (strAddr x 3) }
  let d : Str :=
    if d.safePend then
      { d with
        safePend := false, fade := none,
        vals := safe.field 17 10 * full / 255 :: (List.range 16).map fun k => if spat.bit k then 255 else 0 }
    else d
  let ended := match d.fade with | some f => decide (f.n ≤ f.p + 1) | none => false
  let d : Str := match d.fade with
    | some f =>
      let f' : Fade := { f with p := f.p + 1 }
      { d with vals := f'.values full 255, fade := if f.n ≤ f'.p then none else some f' }
    | none => d
  let pat := if (s.tgt lgtT).claimed.isSome then bypassPattern d else 0
  let lights := strLights s x d pat
  let ton := if lights then d.vals.getD 0 0 * pwmPeriod cfg / full else 0
  let lit := lights && decide (0 < ton)
  let s := s.modStr x fun _ =>
    { d with bypass := pat, lit := lit, ton := ton, lastClose := none, fault := if lit then d.fault else d.fault.setBit 9 false }
  if ended then reportStr x 0x007 s else s

/-- The tick at which the bypass of LED `k` is due, before the spacing of 80 ticks (R305). -/
def bypassDue (d : Str) (k : Nat) : Nat := d.vals.getD (k + 1) 0 * d.ton / 255

/-- The tick at which LED `k` would be bypassed now: 80 ticks after the previous closing at the earliest (R305). -/
def bypassTick (d : Str) (k : Nat) : Nat :=
  match d.lastClose with
  | some t => max (bypassDue d k) (t + 80)
  | none => bypassDue d k

/-- LED `k` is the next whose bypass is due: no open LED is due before it, or at the same tick with a lower index. -/
def nextDue (d : Str) (k : Nat) : Bool :=
  (List.range 16).all fun j =>
    d.bypass.getLsbD j || j = k || decide (bypassDue d k < bypassDue d j) ||
      (decide (bypassDue d k = bypassDue d j) && decide (k < j))

/-- BYPASS_CLOSE of LED `k`, the next due; the on-time ends when every LED is bypassed (R305). -/
def bypassOne (x k : Nat) (s : State) : State :=
  let d := s.str x
  let t := bypassTick d k
  if d.lit && !d.bypass.getLsbD k && nextDue d k && decide (t < d.ton) then
    let b := d.bypass ||| BitVec.ofNat 16 (2 ^ k)
    s.modStr x fun d =>
      { d with bypass := b, lastClose := some t, lit := b ≠ 0xFFFF, ton := if b = 0xFFFF then t else d.ton }
  else s

/-- ON_TIME_END: the converter idles for the rest of the period (R304), with the regulation it reached (R302, R324). -/
def onTimeEnd (x : Nat) (regulated under : Bool) (s : State) : State :=
  let was := (s.str x).fault.bit 9
  let s := s.modStr x fun d => { d with lit := false, reg := regulated, fault := d.fault.setBit 9 under }
  if under && !was then reportStr x 0x019 s else s

/-- A running string latches on a fault; with an OFF command of the same cycle it stays OFF and the trip is recorded
(R309). -/
def strTrip (x cause code bit : Nat) (s : State) : State :=
  let d := s.str x
  if lgtActs d.state && d.run then changeStr x code (Str.latch s.clock cause bit) s
  else if d.state = .off ∧ d.stopped = some s.clock then
    changeStr x code (fun d => { d with fault := d.fault.setBit bit true }) s
  else s

/-- Position `k` is absent by the COUNT in force or by the one written last (R303). -/
def absentLed (s : State) (x k : Nat) : Bool :=
  decide ((s.str x).cfg.field 17 13 ≤ k) || decide ((s.liveReg (strAddr x 2)).field 17 13 ≤ k)

/-- An open LED is bypassed at a tick of the on-time, which ends when no LED is left lit (R305), or latches its string
(R310). -/
def ledOpen (x k tick : Nat) (s : State) : State :=
  let d := s.str x
  if absentLed s x k then s
  else if d.cfg.bit 2 = false then strTrip x 3 0x012 13 s
  else if !(lgtActs d.state && d.run) then s
  else
    let b := d.bypass ||| BitVec.ofNat 16 (2 ^ k)
    let t := min tick d.ton
    reportLed x k 0x012 (s.modStr x fun d =>
      { d with
        openLeds := d.openLeds ||| BitVec.ofNat 16 (2 ^ k), bypass := b, fault := d.fault.setBit 13 true,
        lastClose := if d.lit then some t else d.lastClose, lit := d.lit && decide (b ≠ 0xFFFF),
        ton := if d.lit && decide (b = 0xFFFF) then t else d.ton })

/-- One period of the shorted-LED check of LED `k` (R311). -/
def ledShort (x k : Nat) (below : Bool) (s : State) : State :=
  let d := s.str x
  let bad := d.shortedLeds.getLsbD k
  let run := if below = bad then 0 else Sparse.get (fun _ => 0) d.shortRuns k + 1
  if absentLed s x k then s
  else if run < 3 then s.modStr x fun d => { d with shortRuns := Sparse.set (fun _ => 0) d.shortRuns k run }
  else
    let s := s.modStr x fun d =>
      { d with
        shortRuns := Sparse.set (fun _ => 0) d.shortRuns k 0,
        shortedLeds := if below then d.shortedLeds ||| BitVec.ofNat 16 (2 ^ k)
          else d.shortedLeds &&& BitVec.ofNat 16 (0xFFFF - 2 ^ k),
        fault := if below then d.fault.setBit 12 true else d.fault }
    reportLed x k (if below then 0x013 else 0x014) s

/-- Thermal shutdown of a string sets (R309). -/
def strHot (x : Nat) (s : State) : State :=
  let d := s.str x
  let s := s.modStr x fun d => { d with thermal := true, fault := d.fault.setBit 11 true }
  if lgtActs d.state then changeStr x 0x015 (Str.cool s.clock) s else s

/-- Entries into COOLING within the last 10 s. -/
def recentTimes (now : Nat) (ts : List Nat) : Nat := (ts.filter fun t => now < t + 1000000000).length

/-- Thermal shutdown of a string releases; released into HOLD it is an object that was ON (R309, R320). -/
def strCooled (x : Nat) (s : State) : State :=
  let s := s.modStr x fun d => { d with thermal := false }
  let d := s.str x
  if d.state ≠ .cooling then s
  else if 8 ≤ recentTimes s.clock d.cools then
    changeStr x 0x016 (fun d => { d with state := .latched, fault := d.fault.put 19 16 4 }) s
  else changeStr x 0x008 (fun d => { d with state := closeInto (s.tgt lgtT), run := true, stopped := none, wasOn := true }) s

/-- A matrix stops. -/
def Mx.stop (now : Nat) (d : Mx) : Mx := { d with run := false, stopped := if d.run then some now else d.stopped }

/-- Entry of a matrix into COOLING. -/
def Mx.cool (now : Nat) (d : Mx) : Mx := { d.stop now with state := .cooling, cools := (now :: d.cools).take 8 }

/-- Line slot of R313 in ticks. -/
def mxSlot (cfg : Word) : Nat := 80 + 2 ^ (8 + 2 * cfg.field 17 16) * (cfg.field 15 12 + 1)

/-- A fade of the master level of matrix `m` (R315). -/
def mxFade (s : State) (m start : Nat) (timed : Bool) : Fade :=
  let f := s.liveReg (mxAddr m 4)
  let cfg := s.liveReg (mxAddr m 2)
  ⟨[start], [(s.liveReg (mxAddr m 3)).field 11 0], if timed then fadeLength (f.field 9 0) (24 * mxSlot cfg) else 0, 0,
    f.bit 19⟩

/-- ON of a matrix: with GO the fade starts from a present level of 0 (R308, R309, R315). -/
def mxOnCmd (m : Nat) (withGo : Bool) (v : Word) (s : State) : State :=
  let d := s.mx m
  let start := if withGo || decide (d.state = .off) then 0 else d.master
  if s.maintenance then s
  else if (s.liveReg (mxAddr m 2)).bit 19 = false then refuseLgt (8 + m) 0 0x01 (mxAddr m 0) v s
  else match d.state with
    | .latched => refuseLgt (8 + m) 0 0x02 (mxAddr m 0) v s
    | .off | .safe =>
      let d' : Mx := { d with fade := some (mxFade s m start withGo), master := start }
      if d.thermal then changeMx m 0x001 (fun _ => d'.cool s.clock) s
      else changeMx m 0x001 (fun _ => { d' with state := .on, run := true, stopped := none }) s
    | _ => if withGo then s.modMx m fun d => { d with fade := some (mxFade s m d.master true) } else s

/-- A matrix goes dark. -/
def Mx.dark (now : Nat) (st : ChState) (d : Mx) : Mx := { d.stop now with state := st, fade := none, master := 0 }

/-- OFF of a matrix, as of a string (R308, R309). -/
def mxOffCmd (m : Nat) (s : State) : State :=
  let d := s.mx m
  match d.state with
  | .on | .safe | .cooling => changeMx m 0x002 (Mx.dark s.clock .off) s
  | .off => s.modMx m (Mx.dark s.clock .off)
  | .latched =>
    if d.stopped = some s.clock then
      changeMx m 0x002 (fun d => { d.dark s.clock .off with fault := d.fault.put 19 16 0 }) s
    else s.modMx m (Mx.dark s.clock .latched)
  | _ => s

/-- CLEAR of a LATCHED matrix. -/
def mxClearCmd (m : Nat) (s : State) : State :=
  if (s.mx m).state = .latched then
    changeMx m 0x003 (fun d => { d.dark s.clock .off with fault := d.fault.put 19 16 0, stopped := none }) s
  else s

/-- GO of a matrix that is not OFF or LATCHED (R315). -/
def mxGoCmd (m : Nat) (s : State) : State :=
  match (s.mx m).state with
  | .off | .latched => s
  | _ => s.modMx m fun d => { d with fade := some (mxFade s m d.master true) }

/-- SWAP (R315). -/
def mxSwapCmd (m : Nat) (s : State) : State := s.modMx m fun d => { d with swapPend := true }

/-- A LGT_MX_CTL write (R308, R327). -/
def mxCtl (m : Nat) (v : Word) (s : State) : State :=
  let s := if v.bit 17 then mxClearCmd m s else s
  let s := if v.bit 16 then mxSwapCmd m s else s
  if v.bit 18 then mxOffCmd m s
  else if v.bit 19 then mxOnCmd m (v.bit 15) v s
  else if v.bit 15 then mxGoCmd m s
  else s

/-- Why a write to LGT_MX_CFG is refused, 0 for none (R313, R319, R327). -/
def mxCfgReason (m : Nat) (v : Word) (s : State) : Nat :=
  let old := s.liveReg (mxAddr m 2)
  let st := (s.mx m).state
  if v.field 19 6 ≠ old.field 19 6 ∧ st ≠ .off ∧ st ≠ .latched then 0x05
  else if v.field 17 16 = 3 ∨ 400000 < 24 * mxSlot v then 0x04
  else if v.bit 18 = false ∧ (s.liveReg (mxAddr m 5)).field 19 18 = 2 then 0x07
  else 0

/-- The picture of the back buffer (R315). -/
def backBuffer (s : State) (m : Nat) : List (Nat × Word) :=
  (List.range 1152).filterMap fun px =>
    let w := s.liveReg (pixAddr m px)
    if w = 0 then none else some (px, w)

/-- FRAME_START: a pending exchange is made, the master fade advances, and COL_OPEN of the frame that ended is indicated
(R315, R316). -/
def mxFrame (m : Nat) (openCols : List (Fin 48)) (s : State) : State :=
  let s := s.modMx m fun d => { d with cfg := s.liveReg (mxAddr m 2), nextLine := 0 }
  let swapped := (s.mx m).swapPend
  let s := if swapped then s.modMx m fun d => { d with front := backBuffer s m, swapPend := false } else s
  let s := if swapped then reportMx m 0x009 0 s else s
  let ended := match (s.mx m).fade with | some f => decide (f.n ≤ f.p + 1) | none => false
  let s := s.modMx m fun d => match d.fade with
    | some f =>
      let f' : Fade := { f with p := f.p + 1 }
      { d with master := (f'.values 4095 4095).headD 0, fade := if f.n ≤ f'.p then none else some f' }
    | none => d
  let s := if ended then reportMx m 0x007 0 s else s
  openCols.foldl (fun s c =>
    if (s.mx m).run then
      reportMx m 0x021 c.val (s.modMx m fun d => { d with fault := d.fault.setBit 14 true })
    else s) s

/-- Sink time of one pixel: E × STEP, E the top B bits of ⌊PIX × MASTER / 4,095⌋ (R314). -/
def pixelSink (cfg : Word) (master : Nat) (pix : Word) : Nat :=
  pix.field 11 0 * master / 4095 / 2 ^ (4 - 2 * cfg.field 17 16) * (cfg.field 15 12 + 1)

/-- LINE_SLOT: the next line is driven and its columns sink (R314). -/
def mxLine (m : Nat) (s : State) : State :=
  let feed := mxFeedOk s
  s.modMx m fun d =>
    { d with
      line := d.nextLine, nextLine := (d.nextLine + 1) % 24,
      sinks := (List.range 48).map fun c =>
        if d.run && feed then pixelSink d.cfg d.master (Sparse.get (fun _ => 0) d.front (48 * d.nextLine + c)) else 0 }

/-- LINE_SHORT latches a running matrix, or is recorded with an OFF command of the same cycle (R309, R316). -/
def mxLineShort (m l : Nat) (s : State) : State :=
  let d := s.mx m
  if lgtActs d.state && d.run then
    reportMx m 0x020 l (s.modMx m fun d =>
      { d.stop s.clock with state := .latched, fault := (d.fault.setBit 15 true).put 19 16 1 })
  else if d.state = .off ∧ d.stopped = some s.clock then
    reportMx m 0x020 l (s.modMx m fun d => { d with fault := d.fault.setBit 15 true })
  else s

/-- One frame of the COL_SHORT check of a column (R316). -/
def mxColShort (m c : Nat) (low : Bool) (s : State) : State :=
  let run := if low then Sparse.get (fun _ => 0) (s.mx m).shortRuns c + 1 else 0
  if run = 3 then
    reportMx m 0x022 c (s.modMx m fun d =>
      { d with shortRuns := Sparse.set (fun _ => 0) d.shortRuns c 0, fault := d.fault.setBit 13 true })
  else s.modMx m fun d => { d with shortRuns := Sparse.set (fun _ => 0) d.shortRuns c run }

/-- Thermal shutdown of a line driver sets or releases (R309, R316). -/
def mxHot (m : Nat) (set : Bool) (s : State) : State :=
  let d := s.mx m
  if set then
    let s := s.modMx m fun d => { d with thermal := true, fault := d.fault.setBit 12 true }
    if lgtActs d.state then changeMx m 0x015 (Mx.cool s.clock) s else s
  else
    let s := s.modMx m fun d => { d with thermal := false }
    if d.state ≠ .cooling then s
    else if 8 ≤ recentTimes s.clock d.cools then
      changeMx m 0x016 (fun d => { d with state := .latched, fault := d.fault.put 19 16 4 }) s
    else changeMx m 0x008 (fun d => { d with state := closeInto (s.tgt lgtT), run := true, stopped := none, wasOn := true }) s

/-- The claimed unit falls silent (R317). -/
def lgtSilence (s : State) : State :=
  if (s.tgt lgtT).watched && !(s.tgt lgtT).silent then
    let s := s.modTgt lgtT fun g => { g with silent := true, recs := g.recs ++ [⟨0x07, 0x030, 0x86000, 0, 0⟩] }
    let s := (List.range 8).foldl (fun s x =>
      match (s.str x).state with
      | .off | .on => changeStr x 0x004 (fun d => { d with state := .hold, wasOn := d.run }) s
      | _ => s) s
    (List.range 2).foldl (fun s m =>
      match (s.mx m).state with
      | .off | .on => changeMx m 0x004 (fun d => { d with state := .hold, wasOn := d.run }) s
      | _ => s) s
  else s

/-- A string takes its safe mode (R318). -/
def strSafe (x : Nat) (s : State) : State :=
  let d := s.str x
  let m := safeMode s ((s.liveReg (strAddr x 6)).field 19 18)
  match d.state with
  | .off | .on | .hold =>
    if m = 0 then changeStr x 0x005 (Str.dark s.clock .safe) s
    else if m = 1 then
      changeStr x 0x005 (fun d => { d with state := .safe, run := true, safePend := true, fade := none }) s
    else changeStr x 0x005 (fun d => { d with state := .safe }) s
  | .cooling =>
    if m = 0 then changeStr x 0x005 (Str.dark s.clock .safe) s
    else if m = 1 then s.modStr x fun d => { d with safePend := true, fade := none }
    else s
  | _ => s

/-- A matrix takes its safe mode (R318). -/
def mxSafe (m : Nat) (s : State) : State :=
  let mode := (s.liveReg (mxAddr m 5)).field 19 18
  match (s.mx m).state with
  | .off | .on | .hold =>
    if mode = 0 then changeMx m 0x005 (Mx.dark s.clock .safe) s else changeMx m 0x005 (fun d => { d with state := .safe }) s
  | .cooling => if mode = 0 then changeMx m 0x005 (Mx.dark s.clock .safe) s else s
  | _ => s

/-- The logic-silence timeout expires (R318). -/
def lgtTimeout (s : State) : State :=
  if (s.tgt lgtT).watched && (s.tgt lgtT).silent && !(s.tgt lgtT).timedOut then
    let s := s.modTgt lgtT fun g => { g with timedOut := true, recs := g.recs ++ [⟨0x07, 0x031, 0x86000, 0, 0⟩] }
    (List.range 2).foldl (fun s m => mxSafe m s) ((List.range 8).foldl (fun s x => strSafe x s) s)
  else s

/-- An accepted claim: HOLD objects return, and the full report is presented (R320). -/
def lgtClaim (s : State) : State :=
  let s := s.modTgt lgtT fun g => { g with silent := false, timedOut := false }
  let s := (List.range 8).foldl (fun s x =>
    let s := if (s.str x).state = .hold then s.modStr x fun d => { d with state := if d.wasOn then .on else .off, run := d.wasOn } else s
    reportStr x 0x006 s) s
  (List.range 2).foldl (fun s m =>
    let s := if (s.mx m).state = .hold then s.modMx m fun d => { d with state := if d.wasOn then .on else .off, run := d.wasOn } else s
    reportMx m 0x006 0 s) s

/-- The strings on a power feed that are ON, HOLD or SAFE record FEED and report its loss (R302); the matrices report it when
both feeds are gone. -/
def lgtFeedLost (f : Feed) (s : State) : State :=
  let s := ((List.range 8).filter fun x => (x < 4) = (f = .a)).foldl (fun s x =>
    if lgtActs (s.str x).state then
      changeStr x 0x017 (fun d => { d with fault := (d.fault.setBit 10 true).setBit 9 false, lit := false }) s
    else s) s
  if mxFeedOk s then s
  else (List.range 2).foldl (fun s m =>
    if lgtActs (s.mx m).state && (s.mx m).run then reportMx m 0x017 0 s else s) s

/-- The strings on a power feed light again when it returns (R302); `mxWas` says whether the matrices had a feed. -/
def lgtFeedBack (f : Feed) (mxWas : Bool) (s : State) : State :=
  let s := ((List.range 8).filter fun x => (x < 4) = (f = .a)).foldl (fun s x =>
    if lgtActs (s.str x).state then reportStr x 0x018 s else s) s
  if mxWas then s
  else (List.range 2).foldl (fun s m =>
    if lgtActs (s.mx m).state && (s.mx m).run then reportMx m 0x018 0 s else s) s

/-- A write to a register of string `x` (R299, R319, R324 to R326). -/
def strApply (x off a : Nat) (v : Word) (s : State) : State :=
  let store := s.setLive a (regWrite a (s.liveReg a) v)
  let bits := strBits (s.liveReg (strAddr x 2))
  match off with
  | 0 => lgtCtl x v s
  | 2 => strCfg x v s
  | 3 => if v.field 10 0 < 200 ∨ 1500 < v.field 10 0 then refuseLgt x off 0x04 a v s else store
  | 4 => if 2 ^ bits ≤ v.field 15 0 then refuseLgt x off 0x04 a v s else store
  | 5 => if 1000 < v.field 9 0 then refuseLgt x off 0x04 a v s else store
  | 6 =>
    if v.field 19 18 = 3 then refuseLgt x off 0x04 a v s
    else if v.field 19 18 = 2 ∧ (s.liveReg (strAddr x 2)).bit 18 = false then refuseLgt x off 0x07 a v s
    else store
  | 7 => store
  | 8 => s.modStr x fun d => { d with fault := regWrite a d.fault v }
  | _ => if 0x10 ≤ off then store else s

/-- A write to a register of matrix `m` (R299, R319, R327). -/
def mxApply (m off a : Nat) (v : Word) (s : State) : State :=
  let store := s.setLive a (regWrite a (s.liveReg a) v)
  match off with
  | 0 => mxCtl m v s
  | 2 => let r := mxCfgReason m v s; if r = 0 then store else refuseLgt (8 + m) off r a v s
  | 3 => store
  | 4 => if 1000 < v.field 9 0 then refuseLgt (8 + m) off 0x04 a v s else store
  | 5 =>
    if v.field 19 18 = 1 ∨ v.field 19 18 = 3 then refuseLgt (8 + m) off 0x04 a v s
    else if v.field 19 18 = 2 ∧ (s.liveReg (mxAddr m 2)).bit 18 = false then refuseLgt (8 + m) off 0x07 a v s
    else store
  | 6 => s.modMx m fun d => { d with fault := regWrite a d.fault v }
  | _ => s

/-- A write at Board address `a` as the lighting unit applies it (R299, R322). -/
def lgtApply (a : Nat) (v : Word) (s : State) : State :=
  let store := s.setLive a (regWrite a (s.liveReg a) v)
  if a = 0x86001 then
    if v.field 19 8 < 10 ∨ 2000 < v.field 19 8 then refuseLgt 0xFF 1 0x04 a v s else store
  else if 0x86100 ≤ a ∧ a < 0x86200 then strApply ((a - 0x86100) / 32) (a % 32) a v s
  else if 0x86400 ≤ a ∧ a < 0x86420 then mxApply ((a - 0x86400) / 16) (a % 16) a v s
  else if (0x87000 ≤ a ∧ a < 0x87480) ∨ (0x87800 ≤ a ∧ a < 0x87C80) then store
  else s

/-- STR_ON (R309). -/
def execStrOn (x : Fin 8) (s : State) : Host.Outcome State Fault Refusal :=
  .next (if lgtAccepts s then lgtOn x false 0x80000 s else s)

/-- STR_OFF (R308). -/
def execStrOff (x : Fin 8) (s : State) : Host.Outcome State Fault Refusal :=
  .next (if lgtAccepts s then lgtOff x s else s)

/-- STR_CLEAR (R309, R310). -/
def execStrClear (x : Fin 8) (s : State) : Host.Outcome State Fault Refusal :=
  .next (if lgtAccepts s then lgtClear x s else s)

/-- GO (R306). -/
def execGo (x : Fin 8) (s : State) : Host.Outcome State Fault Refusal :=
  .next (if lgtAccepts s then lgtGo x s else s)

/-- STR_CFG_WRITE (R324). -/
def execStrCfgWrite (x : Fin 8) (v : Word) (s : State) : Host.Outcome State Fault Refusal :=
  .next (if lgtAccepts s then strCfg x v s else s)

/-- PWM_PERIOD_START (R304). -/
def execPwmPeriodStart (x : Fin 8) (s : State) : Host.Outcome State Fault Refusal := .next (periodStart x s)

/-- BYPASS_CLOSE (R305). -/
def execBypassClose (x : Fin 8) (k : Fin 16) (s : State) : Host.Outcome State Fault Refusal := .next (bypassOne x k s)

/-- ON_TIME_END (R304). -/
def execOnTimeEnd (x : Fin 8) (regulated under : Bool) (s : State) : Host.Outcome State Fault Refusal :=
  .next (onTimeEnd x regulated under s)

/-- SHORT (R309). -/
def execShort (x : Fin 8) (s : State) : Host.Outcome State Fault Refusal := .next (strTrip x 1 0x010 15 s)

/-- OPEN_STRING (R309). -/
def execOpenString (x : Fin 8) (s : State) : Host.Outcome State Fault Refusal := .next (strTrip x 2 0x011 14 s)

/-- OPEN_LED (R310). -/
def execOpenLed (x : Fin 8) (led : LedMoment) (s : State) : Host.Outcome State Fault Refusal :=
  .next (ledOpen x led.k led.tick s)

/-- SHORT_LED (R311). -/
def execShortLed (x : Fin 8) (k : Fin 16) (below : Bool) (s : State) : Host.Outcome State Fault Refusal :=
  .next (ledShort x k below s)

/-- STR_THERMAL_SET (R309). -/
def execStrThermalSet (x : Fin 8) (s : State) : Host.Outcome State Fault Refusal := .next (strHot x s)

/-- STR_THERMAL_RELEASE (R309). -/
def execStrThermalRelease (x : Fin 8) (s : State) : Host.Outcome State Fault Refusal := .next (strCooled x s)

/-- MX_ON (R309). -/
def execMxOn (m : Fin 2) (s : State) : Host.Outcome State Fault Refusal :=
  .next (if lgtAccepts s then mxOnCmd m false 0x80000 s else s)

/-- MX_OFF (R309). -/
def execMxOff (m : Fin 2) (s : State) : Host.Outcome State Fault Refusal :=
  .next (if lgtAccepts s then mxOffCmd m s else s)

/-- MX_CLEAR (R309). -/
def execMxClear (m : Fin 2) (s : State) : Host.Outcome State Fault Refusal :=
  .next (if lgtAccepts s then mxClearCmd m s else s)

/-- SWAP (R315). -/
def execSwap (m : Fin 2) (s : State) : Host.Outcome State Fault Refusal :=
  .next (if lgtAccepts s then mxSwapCmd m s else s)

/-- MX_GO (R315). -/
def execMxGo (m : Fin 2) (s : State) : Host.Outcome State Fault Refusal :=
  .next (if lgtAccepts s then mxGoCmd m s else s)

/-- FRAME_START (R315). -/
def execFrameStart (m : Fin 2) (openCols : List (Fin 48)) (s : State) : Host.Outcome State Fault Refusal :=
  .next (mxFrame m openCols s)

/-- LINE_SLOT (R314). -/
def execLineSlot (m : Fin 2) (s : State) : Host.Outcome State Fault Refusal := .next (mxLine m s)

/-- LINE_SHORT (R316). -/
def execLineShort (m : Fin 2) (l : Fin 24) (s : State) : Host.Outcome State Fault Refusal := .next (mxLineShort m l s)

/-- COL_SHORT (R316). -/
def execColShort (m : Fin 2) (c : Fin 48) (low : Bool) (s : State) : Host.Outcome State Fault Refusal :=
  .next (mxColShort m c low s)

/-- MX_THERMAL (R316). -/
def execMxThermal (m : Fin 2) (set : Bool) (s : State) : Host.Outcome State Fault Refusal := .next (mxHot m set s)

/-- LGT_UNIT_SILENT (R317). -/
def execLgtUnitSilent (s : State) : Host.Outcome State Fault Refusal := .next (lgtSilence s)

/-- LGT_TIMED_OUT (R318). -/
def execLgtTimedOut (s : State) : Host.Outcome State Fault Refusal := .next (lgtTimeout s)

end Sys2Proof.Machine
end

