-- ==== Sys2Proof/Machine/Access.lean ====
section
/-! DEFINITION. Access, tokens, sessions and the drive-enable generator (R328 to R359). -/

namespace Sys2Proof.Machine

open Sys2Proof

/-- ACC_TOK[i] (R354). -/
def tokAddr (i : Nat) : Nat := 0x88010 + i

/-- The access unit works for the lanes: in RUN or IDLE, once a lane has claimed it (R45, R337, R338). -/
def awake (s : State) : Bool := (s.pwr.state = .run || s.pwr.state = .idle) && (s.tgt accT).claimed.isSome

/-- The access unit applies the commands of the lane that claimed it while it is not silent (R355, R558). -/
def accAccepts (s : State) : Bool := (s.tgt accT).claimed.isSome && !(s.tgt accT).silent

/-- Seconds since the session was last granted or renewed, as ACC_SESS_STATE.AGE shows them (R358). -/
def sessAge (s : State) : Nat := satTo 0xFFF ((s.clock - s.acc.sessTime) / 100000000)

/-- ACC_SESS_STATE (R358). -/
def sessWord (s : State) : Word :=
  Word.ofN (flagAt s.acc.sessOpen 19 + s.acc.sessToken % 16 * 2 ^ 15 + s.acc.sessCause * 2 ^ 12 +
    (if s.acc.sessOpen then sessAge s else 0))

/-- The session token was ranged inside by a round that ended no more than 2 s ago (R350). -/
def insideRecent (s : State) : Bool :=
  match s.acc.insideAt with
  | some t => decide (s.clock ≤ t + 200000000)
  | none => false

/-- The release conditions of R350. -/
def denArmed (s : State) : Bool :=
  (s.liveReg 0x88023).bit 19 && s.den.state ≠ .fault && s.acc.sessOpen && (s.liveReg (tokAddr s.acc.sessToken)).bit 18 &&
    insideRecent s

/-- Codes of ACC_DEN_STATE.STATE. -/
def DenState.code : DenState → Nat
  | .stopped => 0 | .running => 1 | .fault => 2

/-- ACC_DEN_STATE (R359). -/
def denWord (s : State) : Word :=
  Word.ofN (s.den.state.code * 2 ^ 18 + flagAt (denArmed s) 17 + s.den.lastStop * 2 ^ 13 + flagAt s.den.fbP 12 +
    flagAt s.den.fbN 11)

/-- Time of a change in units of 100 µs from the last ply close (R353). -/
def accTime (s : State) : Word := Word.sat (sinceReport s accT / 10000)

/-- A state entry of the access unit (R353, R551). -/
def pushAcc (obj cause : Nat) (w : Word) (copy : List (Nat × Word)) (rec : RecDraft) (s : State) : State :=
  pushEntry accT
    { kind := 0, obj := obj, cause := cause, state := w, words := [Word.ofN (obj * 4096 + cause), w, accTime s],
      copy := copy, recs := [rec], time := s.now, own := true, pulse := false } s

/-- A generator entry (R353, R551). -/
def reportDen (cause : Nat) (s : State) : State :=
  let w := denWord s
  pushAcc 0 cause w [(0x88022, w)] ⟨0x08, cause, 0x88022, w, Word.ofN s.den.lastStop⟩ s

/-- A session entry (R353, R551). -/
def reportSess (cause : Nat) (s : State) : State :=
  let w := sessWord s
  pushAcc 0x20 cause w [(0x88020, w)]
    ⟨0x08, cause, 0x88020, Word.ofN s.acc.sessToken, Word.ofN s.acc.sessCause⟩ s

/-- A handle entry (R353, R551). -/
def reportHandle (h cause : Nat) (touch : Bool) (s : State) : State :=
  pushAcc (0x10 + h) cause (Word.ofN touch.toNat) [] ⟨0x08, cause, 0x88020, Word.ofN h, 0⟩ s

/-- A refusal of the unit (R353). -/
def refuseAcc (obj off reason a : Nat) (v : Word) (s : State) : State :=
  s.modTgt accT fun g => { g with refusals := g.refusals ++ [⟨Word.ofN (obj * 4096 + off % 32 * 128 + reason), v, a⟩] }

/-- An open session ends with a cause (R347). -/
def endSession (cause : Nat) (s : State) : State :=
  if s.acc.sessOpen then
    reportSess 0x012 { s with acc := { s.acc with sessOpen := false, sessCause := cause, insideAt := none } }
  else s

/-- A session opens for a token (R346); CAUSE keeps the end of the session before (R358). -/
def openSession (i : Nat) (s : State) : State :=
  reportSess 0x010 { s with acc := { s.acc with sessOpen := true, sessToken := i, sessTime := s.clock } }

/-- The AO key latch takes the enrolled, unrevoked tokens with DRIVE and DOORS as rights (R345). -/
def loadLatch (s : State) : State :=
  { s with acc := { s.acc with
    latch := s.acc.tokens.filterMap fun p =>
      let r := s.liveReg (tokAddr p.1)
      if r.bit 19 && !r.bit 16 then some (p.1, p.2, r.field 18 17) else none } }

/-- The token enrolled at index `i`, from the key store while awake and from the latch in park (R338, R340). -/
def tokenAt (s : State) (i : Nat) : Option Token :=
  if awake s then (s.acc.tokens.find? fun p => p.1 = i).map (·.2)
  else (s.acc.latch.find? fun p => p.1 = i).map (·.2.1)

/-- Antennas that can be driven: fitted, asked for and not faulty (R330). -/
def driveMask (s : State) (ant : Nat) : Nat :=
  ant &&& (s.liveReg 0x88004).field 11 6 &&& (63 - (s.liveReg 0x88000).field 17 12)

/-- The peak current, in steps of 50 mA, for the DRIVE or POLL_DRIVE code `code`: halved under reduced function (R47, R330). -/
def driveCurrent (s : State) (code : Nat) : Nat := (code + 1) * (if s.sup.reduced then 1 else 2)

/-- A round starts with a fresh challenge on its antennas (R330, R340). -/
def startRound (trigger handle ant : Nat) (s : State) : State :=
  { s with
    free := s.free + 1,
    acc := { s.acc with
      doorCheck := s.acc.doorCheck || decide (trigger = 3), drive := driveCurrent s ((s.liveReg 0x88004).field 19 16),
      round := some ⟨trigger, handle, driveMask s ant, Config.challenge s.free % 2 ^ 64, [], none, none⟩ } }

/-- The 128-bit block N ‖ ID ‖ c of R340. -/
def tokenBlock (n id c : Nat) : Nat := n % 2 ^ 64 * 2 ^ 64 + id % 2 ^ 32 * 2 ^ 32 + c

/-- The response A that token `t` gives to challenge `n`: the first 64 bits of the cipher text (R340). -/
def tokenResponse (t : Token) (n : Nat) : Nat := aes128 t.key (tokenBlock n t.id 0) / 2 ^ 64 % 2 ^ 64

/-- The STS key of token `t` for challenge `n` (R340). -/
def tokenSts (t : Token) (n : Nat) : Nat := aes128 t.key (tokenBlock n t.id 1)

/-- Range in cm from a time of flight in timestamp units at port `p`, after the port's delay; not below 0 (R332). How
the fraction of a centimetre is dropped is left open. -/
def rangeCm (s : State) (p : Nat) (tof : Int) : Nat :=
  let dly : Int := ((s.liveReg (0x88008 + p)).field 15 0 : Nat)
  (roundDiv (Config.rangeRound s.free) ((tof - dly) * 29979245800) (128 * 499200000)).toNat

/-- The smaller of two ranges, the first on a tie. -/
def nearer (a b : Option (Nat × Nat)) : Option (Nat × Nat) :=
  match a, b with
  | some x, some y => if y.1 < x.1 then some y else some x
  | some x, none => some x
  | none, y => y

/-- The smallest range over the fitted ports whose STS is as expected (R332, R340). -/
def bestRange (s : State) (sts : Nat) (legs : List Leg) (interiorOnly : Bool) : Option (Nat × Nat) :=
  legs.foldl (fun a l =>
    let r := s.liveReg (0x88008 + l.port.val)
    if l.sts = sts && r.bit 18 && (!interiorOnly || r.bit 19)
    then nearer a (some (rangeCm s l.port l.tof, l.port.val)) else a) none

/-- The ranging frames that fitted ports received do not carry the expected STS at any of them. A port without it where another
has it counts as not answering (R332, R340). DEDUCED, assumption log 39. -/
def foreignSts (s : State) (sts : Nat) (legs : List Leg) : Bool :=
  let fitted := legs.filter fun l => (s.liveReg (0x88008 + l.port.val)).bit 18
  !fitted.isEmpty && fitted.all fun l => l.sts ≠ sts

/-- The index at which an ID is enrolled, that of the slot `i` first (R344, R353). -/
def indexOf (s : State) (i id : Nat) : Option Nat :=
  let holds := fun (p : Nat × Token) => decide (p.2.id = id)
  if s.acc.tokens.any fun p => decide (p.1 = i) && holds p then some i else (s.acc.tokens.find? holds).map (·.1)

/-- What one slot's reply is worth (R340, R341). -/
def judgeReply (s : State) (rd : Round) (i : Nat) (r : Reply) : Answer :=
  let bad : Answer := ⟨i, .collided, some i, none, none, rd.retry.isSome⟩
  match r with
  | .collided => bad
  | .reply id resp legs =>
    match tokenAt s i with
    | some t =>
      let sts := tokenSts t rd.challenge
      if t.id = id ∧ tokenResponse t rd.challenge = resp ∧ foreignSts s sts legs = false then
        { bad with
          heard := .valid, range := bestRange s sts legs false,
          interior := (bestRange s sts legs true).map (·.1) }
      else { bad with heard := .invalid, named := indexOf s i id }
    | none => { bad with heard := .invalid, named := indexOf s i id }

/-- TOKEN_REPLY in slot `i`: in a retry only the indices named in the mask answer, and a second reply in one slot makes it
collide (R340 to R342). DEDUCED, assumption log 39. -/
def takeReply (i : Nat) (r : Reply) (s : State) : State :=
  match s.acc.round with
  | none => s
  | some rd =>
    let named := match rd.retry with | some m => m.testBit i | none => true
    if named then
      let again := rd.answers.any fun b => decide (b.idx = i) && b.retry == rd.retry.isSome
      let a := judgeReply s rd i (if again then .collided else r)
      { s with
        free := s.free + 1,
        acc := { s.acc with round := some { rd with answers := rd.answers.filter (fun b => b.idx ≠ i) ++ [a] } } }
    else s

/-- Indices whose slots collided. -/
def collided (rd : Round) : List Nat := (rd.answers.filter fun a => a.heard = .collided).map (·.idx)

/-- RETRY_TELEGRAM: once in a round, naming the collided indices, which then answer afresh; one that does not stays collided
(R342, R343). -/
def sendRetry (s : State) : State :=
  match s.acc.round with
  | some rd =>
    if rd.retry.isNone && !(collided rd).isEmpty then
      { s with acc := { s.acc with round := some { rd with retry := some (((collided rd).map (2 ^ ·)).sum) } } }
    else s
  | none => s

/-- Outcome codes of R353. -/
def outcomeOf (s : State) (rd : Round) (granted : Option Nat) (a : Answer) : Nat :=
  match a.heard with
  | .invalid => 2
  | .collided => 4
  | .valid =>
    match a.range with
    | none => 5
    | some r =>
      if (s.liveReg 0x88005).field 19 10 < r.1 then 3
      else if (s.liveReg (tokAddr a.idx)).bit 16 then 6
      else if rd.trigger = 1 && s.acc.heldOff.any (fun p => p.1 = a.idx) then 7
      else if granted = some a.idx then 0 else 1

/-- The answer that could be granted and has the smallest range, the lower index on a tie (R343). -/
def grantOf (s : State) (rd : Round) : Option Answer :=
  ((List.range 16).filterMap fun i => rd.answers.find? fun a => a.idx = i && outcomeOf s rd (some i) a = 0).foldl
    (fun g a => match g, a.range with
      | none, _ => some a
      | some b, some r => match b.range with | some q => if r.1 < q.1 then some a else some b | none => some a
      | some b, none => some b) none

/-- The two words of one answer in a KIND 5h report (R353). -/
def answerWords (rd : Round) (a : Answer) (outcome : Nat) : Word × Word :=
  let idx := a.named.getD 15
  let port := match a.range with | some r => r.2 | none => 15
  let cm := match a.range with | some r => satTo 0xFFFF r.1 | none => 0xFFFF
  (Word.ofN (idx * 2 ^ 16 + outcome * 2 ^ 12 + port * 2 ^ 8 + flagAt a.retry 7 + rd.trigger * 2 ^ 4 + rd.handle % 16),
    Word.ofN (flagAt a.named.isNone 19 + cm))

/-- The two words of a round that heard no answer (R353). -/
def noAnswerWords (rd : Round) : Word × Word :=
  (Word.ofN (15 * 2 ^ 16 + 15 * 2 ^ 12 + 15 * 2 ^ 8 + rd.trigger * 2 ^ 4 + rd.handle % 16), Word.ofN (2 ^ 19 + 0xFFFF))

/-- The records of one answer (R551). -/
def answerRecs (a : Answer) (outcome : Nat) : List RecDraft :=
  let cm := match a.range with | some r => Word.sat r.1 | none => 0xFFFFF
  let port := match a.range with | some r => r.2 | none => 15
  match outcome with
  | 0 => [⟨0x08, 0x030, 0x88020, Word.ofN a.idx, cm⟩]
  | 2 => [⟨0x08, 0x031, 0x88020, Word.ofN port, cm⟩]
  | 3 => [⟨0x08, 0x032, 0x88020, Word.ofN a.idx, cm⟩]
  | 6 => [⟨0x08, 0x033, 0x88020, Word.ofN a.idx, cm⟩]
  | 4 => [⟨0x08, 0x034, 0x88020, Word.ofN a.idx, 0xFFFFF⟩]
  | 5 => [⟨0x08, 0x035, 0x88020, Word.ofN a.idx, 0xFFFFF⟩]
  | _ => []

/-- The entries that report the result of a round (R343, R353). -/
def roundEntries (rd : Round) (g : Option Nat) (s : State) : List Entry :=
  let entry := fun (w : Word × Word) (copy : List (Nat × Word)) (recs : List RecDraft) =>
    ({ kind := 5, obj := 0, cause := 0, state := 0, words := [w.1, w.2], copy := copy, recs := recs, time := s.now, own := true,
       pulse := false } : Entry)
  if rd.answers.isEmpty then [entry (noAnswerWords rd) [] []]
  else rd.answers.map fun a =>
    let o := outcomeOf s rd g a
    let range := if a.heard = .valid then
        match a.range with | some r => [(0x88040 + a.idx, Word.sat r.1)] | none => []
      else []
    entry (answerWords rd a o) range (answerRecs a o)

/-- Entries are kept for the access unit's next report. -/
def pushEntries (es : List Entry) (s : State) : State := es.foldl (fun s e => pushEntry accT e s) s

/-- What the test of an enrolment found, as the outcome code of the new token's answer; Fh where it gave none (R344, R551). Which
report carries the record, and the code, are not said: DESIGN CHOICE, assumption log 93. -/
def enrolRecord (rd : Round) (g : Option Nat) (s : State) : List RecDraft :=
  match rd.test with
  | some i =>
    let o := match rd.answers.find? fun a => a.idx = i with | some a => outcomeOf s rd g a | none => 15
    [⟨0x08, 0x050, 0x88020, Word.ofN i, Word.ofN o⟩]
  | none => []

/-- The result report of a round; that of an enrolment's test makes the record of the enrolment too (R343, R344, R353). -/
def reportRound (rd : Round) (g : Option Nat) (s : State) : State :=
  let es := roundEntries rd g s
  let enrol := enrolRecord rd g s
  pushEntries (es.take (es.length - 1) ++ (es.drop (es.length - 1)).map fun e => { e with recs := e.recs ++ enrol }) s

/-- The ranges of valid answers enter ACC_RANGE (R358). -/
def takeRanges (rd : Round) (s : State) : State :=
  rd.answers.foldl (fun s a =>
    match a.heard, a.range with
    | .valid, some r => s.setLive (0x88040 + a.idx) (Word.sat r.1)
    | _, _ => s) s

/-- The round ranged token `i` at or below INSIDE_CM on a port inside the cab (R350). -/
def rangedInside (s : State) (rd : Round) (i : Nat) : Bool :=
  rd.answers.any fun a =>
    a.heard = .valid && a.idx = i &&
      (match a.interior with | some r => decide (r ≤ (s.liveReg 0x88005).field 9 0) | none => false)

/-- The session after a round that granted `g` (R346, R348, R350). -/
def roundSession (rd : Round) (g : Option Answer) (s : State) : State :=
  let inside := (s.liveReg 0x88005).field 9 0
  let s := match g with
    | some a =>
      if !s.acc.sessOpen then openSession a.idx s
      else if s.acc.sessToken = a.idx then reportSess 0x011 { s with acc := { s.acc with sessTime := s.clock } }
      else s
    | none => s
  let s := if s.acc.sessOpen && rangedInside s rd s.acc.sessToken then { s with acc := { s.acc with insideAt := some s.clock } } else s
  if rd.trigger = 3 then
    let ok := match g with
      | some a => a.idx = s.acc.sessToken && (match a.range with | some r => decide (r.1 ≤ inside) | none => false)
      | none => false
    let s := { s with acc := { s.acc with doorCheck := false } }
    if ok then s else endSession 2 s
  else s

/-- What a round in PARKED or DEEP leaves: a wake with the round's result, or a park record (R338). A grant after the one that
raised the wake changes nothing of it. -/
def parkOutcome (rd : Round) (g : Option Answer) (s : State) : State :=
  let h := if rd.trigger = 2 then rd.handle else 7
  match g with
  | some a =>
    let cm := match a.range with | some r => r.1 | none => 0
    let ho := if rd.trigger = 1 then (s.acc.heldOff.filter fun p => p.1 ≠ a.idx) ++ [(a.idx, 0)] else s.acc.heldOff
    if s.pwr.held.isSome then s
    else
      raiseWake wakeGrantCause h { s with acc := { s.acc with
        heldOff := ho, wakeGrant := some (a.idx, cm, rd.trigger, h),
        wakeInside := if rangedInside s rd a.idx then some s.clock else none, wakeResult := roundEntries rd (some a.idx) s } }
  | none =>
    let w := match rd.answers with
      | a :: _ => answerWords rd a (outcomeOf s rd none a)
      | [] => noAnswerWords rd
    let s :=
      if s.acc.records.length < 16 then
        { s with acc := { s.acc with records := s.acc.records ++ [⟨w.1, w.2, s.pwr.rtc⟩] } }
      else { s with acc := { s.acc with lostRecs := satTo 0xF (s.acc.lostRecs + 1) } }
    if (rd.answers.any fun a => a.heard = .invalid) && (s.liveReg 0x88002).bit 7 then raiseWake wakeAlarm h s else s

/-- Antenna and port faults found during the round (R330, R355). -/
def radioFaults (lf uwb : Nat) (s : State) : State :=
  let st := s.liveReg 0x88000
  let s := s.setLive 0x88000 ((st.put 17 12 (st.field 17 12 ||| lf)).put 11 8 (st.field 11 8 ||| uwb))
  let cp := [(0x88000, s.liveReg 0x88000)]
  let s := (List.range 6).foldl (fun s a =>
    if lf.testBit a then pushAcc 0 0x040 (denWord s) cp ⟨0x08, 0x040, 0x88020, Word.ofN a, 0⟩ s else s) s
  (List.range 4).foldl (fun s p =>
    if uwb.testBit p then pushAcc 0 0x041 (denWord s) cp ⟨0x08, 0x041, 0x88020, Word.ofN p, 0⟩ s else s) s

/-- The test round of an enrolment starts, on all fitted antennas, while the unit is not silent (R344, R355). -/
def startTest (i ant : Nat) (s : State) : State :=
  if accAccepts s && awake s then
    let s := startRound 0 0 ant s
    { s with acc := { s.acc with round := s.acc.round.map fun rd => { rd with test := some i } } }
  else s

/-- What follows a round: the touch kept during it starts one more (R337), which the stop of the park search by a latched wake
ends (R478), and else a test that an enrolment commanded meanwhile (R344). -/
def nextRound (s : State) : State :=
  match s.acc.kept, s.acc.test with
  | some h, _ =>
    let s := { s with acc := { s.acc with kept := none } }
    if awake s || s.pwr.held.isNone then startRound 2 h ((s.liveReg (0x8800C + h)).field 10 5) s else s
  | none, some (i, ant) => startTest i ant { s with acc := { s.acc with test := none } }
  | none, none => s

/-- ROUND_END: the answers are complete, and the round is decided (R343). -/
def finishRound (lf uwb : Nat) (s : State) : State :=
  match s.acc.round with
  | none => s
  | some rd =>
    if !(collided rd).isEmpty && rd.retry.isNone then s
    else
      let s := radioFaults (lf &&& rd.ant) uwb s
      let g := grantOf s rd
      let s := { s with acc := { s.acc with round := none } }
      let s := takeRanges rd s
      let s :=
        if awake s then roundSession rd g (reportRound rd (g.map (·.idx)) s)
        else parkOutcome rd g s
      nextRound s

/-- Polling is on: PARKED with MODE 01b or 11b (R335). -/
def polls (s : State) : Bool := s.pwr.state = .parked && !s.pwr.waking && (s.liveReg 0x88002).bit 18

/-- PARK_POLL: the antennas of POLL_ANT are driven, and those found open or shorted are faulty (R330); a held-off token
absent from HOLDOFF consecutive polls is free again (R336, R338). DEDUCED, assumption log 40. DESIGN CHOICE, assumption
log 86. -/
def parkPollStep (s : State) : State :=
  if polls s then
    let lf := Config.pollFaults s.free % 64
    let s := radioFaults (lf &&& driveMask s ((s.liveReg 0x88002).field 17 12)) 0
      { s with
        free := s.free + 1, acc := { s.acc with drive := driveCurrent s ((s.liveReg 0x88004).field 15 12) } }
    let lim := (s.liveReg 0x88002).field 11 8
    let ho := s.acc.heldOff.filterMap fun p =>
      let n := if s.acc.polled = false then p.2 else if s.acc.present.contains p.1 then 0 else p.2 + 1
      if lim ≤ n then none else some (p.1, n)
    { s with acc := { s.acc with heldOff := ho, present := [], polled := true } }
  else s

/-- PRESENCE_FRAME from an enrolled token: a full round unless the token is held off (R336, R338). -/
def presence (i : Nat) (s : State) : State :=
  if polls s && (tokenAt s i).isSome then
    let s := { s with acc := { s.acc with present := s.acc.present ++ [i] } }
    if s.acc.heldOff.any (fun p => p.1 = i) || s.acc.round.isSome then s
    else startRound 1 7 ((s.liveReg 0x88002).field 17 12) s
  else s

/-- Handles are searched in RUN and IDLE, and in park with MODE 10b or 11b (R334, R335). -/
def handleSearched (s : State) (h : Nat) : Bool :=
  (s.liveReg (0x8800C + h)).bit 19 && (awake s || (asleep s && !s.pwr.waking && (s.liveReg 0x88002).bit 19))

/-- A touch starts a round, or is kept while one runs (R337). -/
def touch (h : Nat) (s : State) : State :=
  let s := if awake s then reportHandle h 0x020 true s else s
  if s.acc.round.isSome then { s with acc := { s.acc with kept := some (s.acc.kept.getD h) } }
  else startRound 2 h ((s.liveReg (0x8800C + h)).field 10 5) s

/-- HANDLE_SCAN: two consecutive scans above the threshold are a touch (R334). -/
def scanHandle (h : Nat) (above : Bool) (s : State) : State :=
  if handleSearched s h then
    let d := Sparse.get (fun _ => Handle.reset) s.acc.handles h
    let run := if above then min 2 (d.run + 1) else 0
    let isTouch := above && (d.touched || run = 2)
    let s := { s with acc := { s.acc with handles := Sparse.set (fun _ => Handle.reset) s.acc.handles h ⟨run, isTouch⟩ } }
    if isTouch && !d.touched then touch h s
    else if !isTouch && d.touched && awake s then reportHandle h 0x021 false s
    else s
  else s

/-- HANDLE_STUCK: a touch of 30 s is absorbed into the baseline (R334). -/
def stuckHandle (h : Nat) (s : State) : State :=
  if (Sparse.get (fun _ => Handle.reset) s.acc.handles h).touched then
    let s := { s with acc := { s.acc with handles := Sparse.set (fun _ => Handle.reset) s.acc.handles h Handle.reset } }
    reportHandle h 0x022 false s
  else s

/-- A commanded round on `ant`, refused while a round runs (R355). -/
def commandRound (ant : Nat) (v : Word) (s : State) : State :=
  if s.acc.round.isSome then refuseAcc 0xFF 1 0x05 0x88001 v s else startRound 0 0 ant s

/-- A round that the lanes command, which a silent unit does not start (R355). A door check is refused while a round runs, as
every commanded round (R348); the test of an enrolment then waits for its end (R344). -/
def roundCommand (trigger ant : Nat) (test : Option Nat) (s : State) : State :=
  if !(accAccepts s && awake s) then s
  else match test with
    | some i =>
      if s.acc.round.isSome then { s with acc := { s.acc with test := some (i, ant) } } else startTest i ant s
    | none =>
      if s.acc.round.isSome then refuseAcc 0xFF 1 0x05 0x88001 (Word.ofN (2 ^ 19 + ant * 2 ^ 12)) s
      else startRound trigger 0 ant s

/-- A write to ACC_TOK[i] changes DRIVE, DOORS and REVOKED and reloads the latch (R344, R345, R347, R358). -/
def tokWrite (i : Nat) (v : Word) (s : State) : State :=
  let a := tokAddr i
  let s := loadLatch (s.setLive a (regWrite a (s.liveReg a) v))
  if v.bit 16 && s.acc.sessOpen && decide (s.acc.sessToken = i) then endSession 5 s else s

/-- The generator applies the commands of the lane that claimed it (R558). -/
def denAccepts (s : State) : Bool := (s.tgt denT).claimed.isSome

/-- RUN, which IDLE does not allow (R350, R466). One that comes while a stop waits for the end of its half-period takes the place
of the stop. DESIGN CHOICE, assumption log 84. -/
def denRun (v : Word) (s : State) : State :=
  if s.maintenance then s
  else if denArmed s = false ∨ s.pwr.state = .idle then refuseAcc 0 0x01 0x05 0x88021 v s
  else if s.den.state = .running ∧ s.den.stopPend = none then s
  else reportDen 0x001 { s with den := { s.den with state := .running, stopPend := none, bad := false, badRun := 0 } }

/-- A stop that waits for the end of the half-period (R351). -/
def denStopSoon (cause : Nat) (s : State) : State :=
  if s.den.state = .running ∧ s.den.stopPend = none then { s with den := { s.den with stopPend := some cause } } else s

/-- A stop at once: both outputs low (R351). -/
def denStopNow (cause : Nat) (st : DenState) (s : State) : State :=
  if s.den.state = .running then
    reportDen (if st = .fault then 0x003 else 0x002)
      { s with den := { s.den with state := st, lastStop := cause, stopPend := none, driveP := false, driveN := false, wave := [] } }
  else s

/-- CLEAR: FAULT to STOPPED (R351). -/
def denClearCmd (s : State) : State :=
  if s.den.state = .fault then reportDen 0x004 { s with den := { s.den with state := .stopped, bad := false, badRun := 0 } }
  else s

/-- A write to ACC_DEN_CTL: CLEAR first, STOP before RUN (R359). -/
def denCtl (v : Word) (s : State) : State :=
  let s := if v.bit 17 then denClearCmd s else s
  if v.bit 18 then denStopSoon 1 s else if v.bit 19 then denRun v s else s

/-- Why a write to ACC_DEN_CFG is refused, 0 for none (R352, R359, R379). -/
def denCfgReason (v : Word) (s : State) : Nat :=
  if v.field 13 6 < 5 ∨ 250 < v.field 13 6 then 0x04
  else if v.bit 18 && ((s.keys.find? fun p => p.1 = 5).isNone || !(s.liveReg (0x90000 + 0x400 * v.field 17 14)).bit 18) then
    0x05
  else 0

/-- A write to ACC_DEN_CFG; EN = 0 stops the pulses (R351, R352). -/
def denCfg (v : Word) (s : State) : State :=
  let r := denCfgReason v s
  if r ≠ 0 then refuseAcc 0 0x03 r 0x88023 v s
  else
    let s := s.setLive 0x88023 (regWrite 0x88023 (s.liveReg 0x88023) v)
    if v.bit 19 then s else denStopSoon 5 s

/-- DEN_HALF_PERIOD: a pending stop takes effect, or both outputs are driven low at the changeover and then the next one high,
read back at mid-phase; `badRun` is 1
while the period before differed somewhere (R349, R351). -/
def denHalf (readP readN : Bool) (s : State) : State :=
  if s.den.state ≠ .running then s
  else match s.den.stopPend with
    | some c => denStopNow c .stopped s
    | none =>
      let p := !s.den.driveP
      let d := s.den
      let diff := readP != p || readN != !p
      let bad := if p then diff else d.bad || diff
      let badRun := if p then d.bad.toNat else d.badRun
      let s := { s with den := { d with driveP := p, driveN := !p, wave := [(false, false), (p, !p)], fbP := readP, fbN := readN, bad := bad, badRun := badRun } }
      if (readP && readN) || (diff && decide (1 ≤ badRun)) then denStopNow 3 .fault s else s

/-- What the access unit shows the lanes beside its entries: its status, and the words that change with time (R328, R350,
R358). -/
def accWords (s : State) : List (Nat × Word) := unitStatus s accT ++ [(0x88020, sessWord s), (0x88022, denWord s)]

/-- A claim of the access unit: the session and the rounds go on, and a state report follows (R353, R355). -/
def accClaim (s : State) : State :=
  let s := s.modTgt accT fun g => { g with silent := false }
  let w := sessWord s
  pushEntry accT
    { kind := 0, obj := 0x20, cause := 0, state := w, words := [Word.ofN (0x20 * 4096), w, accTime s],
      copy := [(0x88020, w)] ++ (List.range 16).map (fun i => (tokAddr i, s.liveReg (tokAddr i))), recs := [], time := s.now,
      own := true, pulse := false } s

/-- A claim of the generator: its state is reported. -/
def denClaim (s : State) : State :=
  let w := denWord s
  pushEntry accT
    { kind := 0, obj := 0, cause := 0, state := w, words := [0, w, accTime s], copy := [(0x88022, w)], recs := [], time := s.now,
      own := true, pulse := false } s

/-- The park records, presented as one report of KIND 6h at the first active ply after a wake (R338, R551). DEDUCED,
assumption log 74. -/
def presentParkRecords (s : State) : State :=
  if s.acc.records.isEmpty then s
  else
    let n := s.acc.records.length
    let ws := s.acc.records.flatMap fun r => [r.w0, r.w1] ++ wordsOf r.rtc 2
    let r : RecDraft := ⟨0x08, 0x052, 0x88020, Word.ofN n, Word.ofN s.acc.lostRecs⟩
    let st := s.liveReg 0x88000
    let s := s.setLive 0x88000 (st.put 7 4 (satTo 0xF (st.field 7 4 + s.acc.lostRecs)))
    present 0x16 (Word.ofN (6 * 2 ^ 16 + n) :: ws) (.report accT [] [r] (accWords s))
      { s with acc := { s.acc with records := [], lostRecs := 0 } }

/-- A write to an access register as the unit applies it (R328, R354 to R358); a refusal names the object of its register
(R353), and FFh where it has none. DESIGN CHOICE, assumption log 93. -/
def accApply (a : Nat) (v : Word) (s : State) : State :=
  let store := s.setLive a (regWrite a (s.liveReg a) v)
  let obj := if 0x8800C ≤ a ∧ a < 0x88010 then 0x10 + (a - 0x8800C) else if a = 0x88006 then 0x20 else 0xFF
  let bad := refuseAcc obj (a % 32) 0x04 a v s
  if a = 0x88000 then store
  else if a = 0x88001 then
    let s := if v.bit 18 then endSession 3 store else store
    if v.bit 19 then commandRound (v.field 17 12) v s else s
  else if a = 0x88002 then (if v.field 11 8 = 0 then bad else store)
  else if a = 0x88003 then
    (if v.field 19 10 < 5 ∨ 100 < v.field 19 10 ∨ v.field 6 0 < 1 ∨ 120 < v.field 6 0 ∨
        8000 < v.field 19 10 * 10 * 2 ^ v.field 9 7 then bad else store)
  else if a = 0x88004 then (if 9 < v.field 19 16 ∨ 4 < v.field 15 12 then bad else store)
  else if a = 0x88005 then
    (if v.field 19 10 < 50 ∨ 1000 < v.field 19 10 ∨ v.field 9 0 < 30 ∨ 500 < v.field 9 0 ∨ v.field 19 10 < v.field 9 0
      then bad else store)
  else if a = 0x88006 then (if v.field 19 8 = 0 ∧ v.bit 7 = false then bad else store)
  else if a = 0x88007 then store
  else if 0x88008 ≤ a ∧ a < 0x8800C then store
  else if 0x8800C ≤ a ∧ a < 0x88010 then (if v.field 18 11 = 0 then bad else store)
  else if 0x88010 ≤ a ∧ a < 0x88020 then tokWrite (a - 0x88010) v s
  else s

/-- A write to a generator register as the generator applies it (R359). -/
def denApply (a : Nat) (v : Word) (s : State) : State :=
  if a = 0x88021 then denCtl v s else if a = 0x88023 then denCfg v s else s

/-- The claimed access unit falls silent (R355). -/
def accSilence (s : State) : State :=
  if (s.tgt accT).watched && !(s.tgt accT).silent then
    s.modTgt accT fun g => { g with silent := true, recs := g.recs ++ [⟨0x08, 0x060, 0x88020, 0, 0⟩] }
  else s

/-- PARK_POLL (R336). -/
def execParkPoll (s : State) : Host.Outcome State Fault Refusal := .next (parkPollStep s)

/-- POLL_PERIOD_DOUBLE (R336). -/
def execPollPeriodDouble (s : State) : Host.Outcome State Fault Refusal :=
  .next (
    if polls s && decide (s.acc.doublings < (s.liveReg 0x88003).field 9 7) then
      { s with acc := { s.acc with doublings := s.acc.doublings + 1 } }
    else s)

/-- PRESENCE_FRAME (R336). -/
def execPresenceFrame (i : Fin 16) (s : State) : Host.Outcome State Fault Refusal := .next (presence i s)

/-- HANDLE_SCAN (R334). -/
def execHandleScan (h : Fin 4) (above : Bool) (s : State) : Host.Outcome State Fault Refusal :=
  .next (scanHandle h above s)

/-- HANDLE_STUCK (R334). -/
def execHandleStuck (h : Fin 4) (s : State) : Host.Outcome State Fault Refusal := .next (stuckHandle h s)

/-- TOKEN_REPLY (R340). -/
def execTokenReply (i : Fin 16) (r : Reply) (s : State) : Host.Outcome State Fault Refusal := .next (takeReply i r s)

/-- RETRY_TELEGRAM (R342). -/
def execRetryTelegram (s : State) : Host.Outcome State Fault Refusal := .next (sendRetry s)

/-- ROUND_END (R343). -/
def execRoundEnd (lf : BitVec 6) (uwb : BitVec 4) (s : State) : Host.Outcome State Fault Refusal :=
  .next (finishRound lf.toNat uwb.toNat s)

/-- ROUND: a write of ACC_CTL.ROUND (R355). -/
def execRound (ant : BitVec 6) (s : State) : Host.Outcome State Fault Refusal :=
  .next (
    if accAccepts s && awake s then
      accApply 0x88001 (Word.ofN (2 ^ 19 + ant.toNat * 2 ^ 12)) s
    else s)

/-- SESS_END: a write of ACC_CTL.SESS_END (R347). -/
def execSessEnd (s : State) : Host.Outcome State Fault Refusal := .next (if accAccepts s then endSession 3 s else s)

/-- TOKEN_WRITE (R344). -/
def execTokenWrite (i : Fin 16) (v : Word) (s : State) : Host.Outcome State Fault Refusal :=
  .next (if accAccepts s then tokWrite i v s else s)

/-- SESSION_TIMEOUT (R347). -/
def execSessionTimeout (s : State) : Host.Outcome State Fault Refusal :=
  .next (if (s.liveReg 0x88006).field 19 8 = 0 then s else endSession 1 s)

/-- RUN (R350). -/
def execRun (s : State) : Host.Outcome State Fault Refusal :=
  .next (if denAccepts s then denRun 0x80000 s else s)

/-- STOP (R351). -/
def execStop (s : State) : Host.Outcome State Fault Refusal :=
  .next (if denAccepts s then denStopSoon 1 s else s)

/-- DEN_CLEAR (R351). -/
def execDenClear (s : State) : Host.Outcome State Fault Refusal :=
  .next (if denAccepts s then denClearCmd s else s)

/-- DEN_CFG_WRITE (R352). -/
def execDenCfgWrite (v : Word) (s : State) : Host.Outcome State Fault Refusal :=
  .next (if denAccepts s then denCfg v s else s)

/-- DEN_HALF_PERIOD (R349). -/
def execDenHalfPeriod (readP readN : Bool) (s : State) : Host.Outcome State Fault Refusal :=
  .next (denHalf readP readN s)

/-- DEN_SILENCE (R351). -/
def execDenSilence (s : State) : Host.Outcome State Fault Refusal :=
  .next (if (s.tgt denT).watched then denStopSoon 2 s else s)

/-- ACC_UNIT_SILENT (R355). -/
def execAccUnitSilent (s : State) : Host.Outcome State Fault Refusal := .next (accSilence s)

end Sys2Proof.Machine
end

