-- ==== Sys2Proof/Machine/Bus.lean ====
section
/-! DEFINITION. The vehicle buses: controllers, queues, objects, schedules and reports (R360 to R405). -/

namespace Sys2Proof.Machine

open Sys2Proof

/-- Register `off` of CAN channel `n` (R397). -/
def canAddr (n off : Nat) : Nat := 0x90000 + 0x400 * n + off

/-- Register `off` of LIN channel `n` (R397). -/
def linAddr (n off : Nat) : Nat := 0x95000 + 0x200 * n + off

/-- Register `off` of segment `x` (R397). -/
def tsAddr (x off : Nat) : Nat := 0x96000 + 0x400 * x + off

/-- Register `off` of the BUSQ block of bus `b` (R397). -/
def busqAddr (b off : Nat) : Nat := 0x97000 + 0x80 * b + off

/-- The configuration register of bus `b`. -/
def busCfgAddr (b : Nat) : Nat := if b < 16 then canAddr b 0 else if b < 24 then linAddr (b - 16) 0 else tsAddr (b - 24) 0

/-- The status register of bus `b`. -/
def busStatusAddr (b : Nat) : Nat := busCfgAddr b + 1

/-- The controllers of bus `b` are in use. -/
def busEnabled (s : State) (b : Nat) : Bool := (s.liveReg (busCfgAddr b)).bit 19

/-- A controller applies commands of the lane that claimed it (R558); in a maintenance start the buses are silent (R71). -/
def busAccepts (s : State) (b : Nat) : Bool := (s.tgt (busT b)).claimed.isSome && !s.maintenance

/-- The termination of CAN channel `n` is on: TERM is set and the channel's transmitting controller runs, not stopped, powered and
not in reset (R44, R45, R368, R468). -/
def terminated (s : State) (n : Nat) : Bool :=
  (s.liveReg (canAddr n 0)).bit 16 && busEnabled s n && busAccepts s n && decide ((s.bus n).state ≠ 3) &&
    decide ((s.lane (s.bus n).tx).boot ≠ .held)

/-- The transmitting controller is Black's. -/
def txBlack (x : Bus) : Bool := x.tx = .black

/-- The status register as the controller shows it (R398, R403, R404). -/
def busStatus (b : Nat) (x : Bus) : Word :=
  if b < 16 then
    Word.ofN (x.state * 2 ^ 18 + flagAt (txBlack x) 17 + flagAt x.moved 16 + flagAt x.suspended 15 + flagAt x.domTo 14)
  else if b < 24 then
    Word.ofN (x.state * 2 ^ 18 + flagAt (txBlack x) 17 + flagAt x.moved 16 + x.table % 4 * 2 ^ 14 + x.entry % 32 * 2 ^ 9 +
      flagAt x.domTo 8)
  else
    Word.ofN (flagAt (x.state = 1) 19 + flagAt (txBlack x) 18 + flagAt x.moved 17 + satTo 31 x.mismatch * 2 ^ 12 +
      satTo 0xFFF x.fcsErr)

/-- TS_SAT[k] as the controller shows it (R404). -/
def satWord (s : State) (x : Bus) (b k : Nat) : Word :=
  (((s.liveReg (tsAddr (b - 24) (8 + k))).setBit 7 (x.present.getLsbD k)).setBit 6 (x.lost.getLsbD k)).setBit 5
    (x.collSeen.getLsbD k)

/-- BUSQ_RXSTAT (R381, R405). -/
def rxStat (x : Bus) : Word := Word.ofN (x.slots.length * 2 ^ 13 + satTo 0x1FFF x.overrun)

/-- The registers that a report of bus `b` brings up to date in the lanes' copy (R360, R400 to R405). -/
def busCopy (s : State) (b : Nat) : List (Nat × Word) :=
  let x := s.bus b
  let own : List (Nat × Word) :=
    if b < 16 then
      [(canAddr b 5, Word.ofN (x.tec * 2 ^ 11 + satTo 0xFF x.recCount * 2 ^ 3 + x.lec)),
        (canAddr b 6, Word.ofN (satTo 0xFF x.busOffs * 2 ^ 12 + satTo 63 x.rxDrop * 2 ^ 6 + satTo 63 x.mismatch)),
        (canAddr b 11, Word.ofN (x.cycle * 2 ^ 14 + flagAt x.sync 13 + flagAt x.master 12 + satTo 0xFFF x.missed))]
    else if b < 24 then [(linAddr (b - 16) 3, Word.ofN (satTo 0x3FF x.noResp * 2 ^ 10 + satTo 0x3FF x.bad))]
    else (List.range 8).map fun k => (tsAddr (b - 24) (8 + k), satWord s x b k)
  [(busStatusAddr b, busStatus b x), (busqAddr b 2, Word.ofN (x.queue.length * 2 ^ 14)),
    (busqAddr b 4, rxStat x)] ++ own

/-- What the controllers of bus `b` have counted has been shown. -/
def countsShown (b : Nat) (s : State) : State :=
  s.modBus b fun x => { x with rxDrop := 0, mismatch := 0, missed := 0, overrun := 0, noResp := 0, bad := 0, fcsErr := 0 }

/-- A bus presents a report with the copy words and records it brings (R382). -/
def presentBus (b : Nat) (ws : List Word) (recs : List RecDraft) (s : State) : State :=
  present (sourceOf (busT b)) ws (.report (busT b) [] recs (busCopy s b)) (countsShown b s)

/-- A KIND 3h or 4h report and its record (R382, R540, R552). -/
def busReport (b kind code : Nat) (w1 : Word) (s : State) : State :=
  presentBus b [Word.ofN (kind * 2 ^ 16 + code), w1] [⟨9, code, Word.ofN (busStatusAddr b), Word.ofN b, w1⟩] s

/-- A state report at once: bus-off, a move (R382). -/
def busStateNow (b code : Nat) (s : State) : State := busReport b 3 code (busStatus b (s.bus b)) s

/-- A state change that the next ply close reports; `node` stands for ARG1 of a satellite event (R382, R552). -/
def busStateLater (b code : Nat) (node : Option Nat) (s : State) : State :=
  let w := busStatus b (s.bus b)
  pushEntry (busT b)
    { kind := 3, obj := b, cause := code, state := w, words := [Word.ofN (3 * 2 ^ 16 + code), w], copy := [],
      recs := [⟨9, code, Word.ofN (busStatusAddr b), Word.ofN b, match node with | some k => Word.ofN k | none => w⟩],
      time := s.now, own := true, pulse := false } s

/-- A window report at once (R382). -/
def busWindow (b code cycle col idx : Nat) (s : State) : State :=
  busReport b 4 code (Word.ofN (cycle % 64 * 2 ^ 14 + col % 64 * 2 ^ 8 + idx % 64)) s

/-- A KIND 2h report: a request that is not carried out (R382). -/
def busNotSent (b tag reason : Nat) (s : State) : State :=
  presentBus b [Word.ofN (2 * 2 ^ 16 + tag % 4096), Word.ofN reason] [] s

/-- A KIND 1h report: a transmission (R382). -/
def busSent (b : Nat) (obj : Bool) (tag sof : Nat) (s : State) : State :=
  presentBus b (Word.ofN (2 ^ 16 + flagAt obj 15 + tag % 4096) :: wordsOf sof 3) [] s

/-- A register write of a bus that is refused, with the reasons of R183 (R360). -/
def refuseBus (b reason a : Nat) (v : Word) (s : State) : State :=
  s.modTgt (busT b) fun g => { g with refusals := g.refusals ++ [⟨Word.ofN (a % 0x400 * 2 ^ 7 + reason), v, a⟩] }

/-- What a bus presents at a ply close: its refusals, and the oldest state report that waits; the ones after it wait for later
closes (R382; DEDUCED, assumption log 26). Without one the lanes' copy takes the bus's registers at once. DEDUCED, assumption
log 10. -/
def busClose (b : Nat) (s : State) : State :=
  let t := busT b
  let g := s.tgt t
  let s := s.modTgt t fun g => { g with entries := g.entries.tail, refusals := [], lastClose := s.clock }
  let s := g.refusals.foldl (fun s r =>
    present (sourceOf t) [0x20001, r.word0, r.value]
      (.upd [(r.addr, s.liveReg r.addr)] [⟨2, 0x004, Word.ofN r.addr, r.value, r.word0⟩]) s) s
  match g.entries.head? with
  | some e => presentBus b e.words e.recs s
  | none => countsShown b (s.setReported (busCopy s b))

/-! ### Frame records (R374, R375) -/

/-- LEN of a frame record. -/
def recLen (fr : List Word) : Nat := (fr.getD 0 0).field 11 0

/-- Words of a frame record: five header words and the data words, none for a remote frame. -/
def recWords (fr : List Word) : Nat :=
  5 + (if (fr.getD 0 0).field 19 18 = 0 ∧ (fr.getD 0 0).bit 15 = true then 0 else (recLen fr + 1) / 2)

/-- Identifier of a CAN frame record. -/
def recId (fr : List Word) : Nat :=
  let w := fr.getD 0 0
  if w.field 19 18 = 2 then (fr.getD 1 0).field 10 0
  else if w.bit 17 then (fr.getD 1 0).toNat + 2 ^ 20 * (fr.getD 2 0).field 8 0
  else (fr.getD 1 0).field 10 0

/-- A transmit request's record keeps to R375 and names an enabled format. -/
def recOk (s : State) (b obj : Nat) (fr : List Word) : Bool :=
  let len := recLen fr
  let cfg := s.liveReg (busCfgAddr b)
  decide (fr.length = recWords fr) &&
  if b < 16 then
    match (fr.getD 0 0).field 19 18 with
    | 0 => decide (len ≤ 8)
    | 1 => cfg.bit 18 && (decide (len ≤ 8) || [12, 16, 20, 24, 32, 48, 64].contains len)
    | 2 => decide (b < 4) && cfg.bit 17 && decide (1 ≤ len) && decide (len ≤ 256)
    | _ => false
  else if b < 24 then decide (len = (s.liveReg (linAddr (b - 16) (0x40 + obj))).field 16 13)
  else decide (14 ≤ len) && decide (len ≤ 1514)

/-! ### Transmitting (R376 to R378) -/

/-- The event queue sends in identifier order on CAN with PRIO = 1, in queue order otherwise (R377). -/
def byIdentifier (s : State) (b : Nat) : Bool := decide (b < 16) && (s.liveReg (canAddr b 0)).bit 10

/-- The queued frame that is sent next (R377). -/
def nextQueued (s : State) (b : Nat) : Option Queued :=
  let q := (s.bus b).queue
  if byIdentifier s b then
    q.foldl (fun best e =>
      match best with
      | none => some e
      | some f => if recId e.frame < recId f.frame then some e else some f) none
  else q.head?

/-- The channel sends nothing: no lane has claimed it, or it is bus-off, stopped or asleep (R45, R383, R392, R558). -/
def busDown (s : State) (b : Nat) : Bool :=
  !busAccepts s b || !busEnabled s b || (if b < 24 then decide (2 ≤ (s.bus b).state) else false)

/-- Time-triggered operation is in force on CAN channel `n` (R384, R385). -/
def ttActive (s : State) (n : Nat) : Bool :=
  decide (n < 16) && busAccepts s n && busEnabled s n && decide ((s.liveReg (canAddr n 8)).field 19 18 ≠ 0) && decide ((s.liveReg (canAddr n 9)).field 7 1 ≠ 0)

/-- The event queue of bus `b` is served: its channel may send, and on a time-triggered channel in an arbitrating window, after the
first reference since a bus-off (R383, R386). -/
def queueServed (s : State) (b : Nat) : Bool :=
  !busDown s b && (!ttActive s b || (decide ((s.bus b).window = .arbitrate) && !(s.bus b).waitRef))

/-- Whether the frame at the head of a served queue has started, which is left open, is settled. DESIGN CHOICE, assumption log
94. -/
def markStarted (b : Nat) (s : State) : State :=
  match (s.bus b).sending, nextQueued s b with
  | none, some q =>
    if queueServed s b && !(s.bus b).quiet then
      { s.modBus b (fun x => { x with sending := if Config.txStarted s.free then some q.tag else none }) with free := s.free + 1 }
    else s
  | _, _ => s

/-- A queue request (R377); a frame that may have started stays the one on the bus when another goes ahead of it. -/
def busQueueReq (b tag : Nat) (fr : List Word) (s : State) : State :=
  if !recOk s b ((fr.getD 1 0).field 5 0) fr then busNotSent b tag 1 s
  else if 32 ≤ (s.bus b).queue.length then busNotSent b tag 2 s
  else
    let ahead := byIdentifier s b && (match nextQueued s b with | some q => decide (recId fr < recId q.frame) | none => false)
    let s := if ahead then markStarted b s else s
    s.modBus b fun x => { x with queue := x.queue ++ [⟨tag % 4096, fr⟩] }

/-- Bus `b` has transmit object `obj`: on LIN where the identifier is set to publish, on 10BASE-T1S none (R378). -/
def hasObject (s : State) (b obj : Nat) : Bool :=
  decide (b < 16) || (decide (b < 24) && decide ((s.liveReg (linAddr (b - 16) (0x40 + obj))).field 19 18 = 1))

/-- An object update; one of an object that the bus does not have is not carried out, with the reason of a record that is not one
for it (R378). DESIGN CHOICE, assumption log 94. -/
def busUpdateReq (b obj tag : Nat) (fr : List Word) (s : State) : State :=
  if !hasObject s b obj || !recOk s b obj fr then busNotSent b tag 1 s
  else s.modBus b fun x =>
    { x with
      objects := Sparse.put x.objects obj fr,
      fresh := if x.fresh.contains obj then x.fresh else x.fresh ++ [obj] }

/-- An abort of a queued frame that has not started (R377); whether the next frame has started is left open. -/
def busAbortReq (b tag : Nat) (s : State) : State :=
  let x := s.bus b
  let next := decide ((nextQueued s b).map Queued.tag = some tag)
  let started := decide (x.sending = some tag) || (x.sending.isNone && next && Config.txStarted s.free)
  let s := if next then { s with free := s.free + 1 } else s
  if started then s.modBus b fun x => { x with sending := some tag }
  else if x.queue.any fun e => decide (e.tag = tag) then
    busNotSent b tag 3 (s.modBus b fun x => { x with queue := x.queue.eraseP fun e => decide (e.tag = tag) })
  else s

/-- A submission as the controller applies it (R376). -/
def busSubmit (b op obj tag : Nat) (fr : List Word) (s : State) : State :=
  match op with
  | 0 => busQueueReq b tag fr s
  | 1 => busUpdateReq b obj tag fr s
  | 2 => busAbortReq b tag s
  | _ => refuseBus b 0x04 (busqAddr b 0) (Word.ofN (op * 2 ^ 18 + obj * 2 ^ 12 + tag)) s

/-- The queue of bus `b` without the frame that completes with TAG `tag`: the one sent next where that has the tag. -/
def queueWithout (s : State) (b tag : Nat) : List Queued :=
  match nextQueued s b with
  | some q => if q.tag = tag then (s.bus b).queue.erase q else (s.bus b).queue.eraseP fun e => decide (e.tag = tag)
  | none => (s.bus b).queue

/-- A queued frame completes on the bus: the one whose turn it is, or one that had started before (R364, R377); a quiesced channel
only completes the latter (R467). -/
def queuedSent (b tag sof : Nat) (s : State) : State :=
  let x := s.bus b
  let started := decide (x.sending = some tag) && x.queue.any fun e => decide (e.tag = tag)
  let turn := decide ((nextQueued s b).map Queued.tag = some tag)
  if queueServed s b && (started || (turn && !x.quiet)) then
    busSent b false tag sof (s.modBus b fun x => { x with queue := queueWithout s b tag, sending := none })
  else s

/-- An object completes on the bus in its window or slot, after a bus-off not before a reference (R364, R383, R387, R390). -/
def objectSent (b obj sof : Nat) (s : State) : State :=
  if (s.bus b).window = .send obj false ∧ busDown s b = false ∧ (s.bus b).waitRef = false then
    busSent b true obj sof (s.modBus b fun x => { x with window := .send obj true })
  else s

/-! ### Receiving (R380, R381) -/

/-- The lowest-index enabled filter that a CAN frame matches (R380, R402). -/
def canFilter (s : State) (n : Nat) (fr : List Word) : Option Nat :=
  let w := fr.getD 0 0
  let lo := (fr.getD 1 0).toNat
  let hi := if w.field 19 18 = 2 then 0 else (fr.getD 2 0).field 8 0
  (List.range 64).find? fun f =>
    let id0 := s.liveReg (canAddr n (0x100 + 4 * f))
    let id1 := s.liveReg (canAddr n (0x101 + 4 * f))
    let m0 := (s.liveReg (canAddr n (0x102 + 4 * f))).toNat
    let m1 := (s.liveReg (canAddr n (0x103 + 4 * f))).field 8 0
    id1.bit 19 && (id1.bit 18 == w.bit 17) &&
      (decide (id1.field 17 16 = 0) || decide (id1.field 17 16 = w.field 19 18 + 1)) &&
      decide (lo &&& m0 = id0.toNat &&& m0) && decide (hi &&& m1 = id1.field 8 0 &&& m1)

/-- The filter of a 10BASE-T1S frame: 0 for the segment's address, 1 for broadcast (R380). -/
def tsFilter (s : State) (x : Nat) (fr : List Word) : Option Nat :=
  let d := (List.range 3).map fun i => (fr.getD (5 + i) 0).field 15 0
  let own := (List.range 3).map fun i => (s.liveReg (tsAddr x (2 + i))).field 15 0
  if d = own then some 0 else if d = [0xFFFF, 0xFFFF, 0xFFFF] then some 1 else none

/-- The lowest free receive slot (R381). -/
def freeSlot (x : Bus) : Option Nat := (List.range 64).find? fun k => !(x.slots.any fun p => decide (p.1 = k))

/-- A selective wake accepts a CAN frame: classic, with the identifier and, with DATA_EN, the length and a data bit that the
CAN_WUF registers name (R370). A DLC above 8 is one of 8 octets, as a record holds it. DEDUCED, assumption log 88. -/
def wufAccepts (s : State) (n : Nat) (fr : List Word) : Bool :=
  let w := fr.getD 0 0
  let r := fun k => s.copyReg (canAddr n k)
  decide (w.field 19 18 = 0) && ((r 17).bit 18 == w.bit 17) &&
    decide ((fr.getD 1 0).toNat &&& (r 18).toNat = (r 16).toNat &&& (r 18).toNat) &&
    decide ((fr.getD 2 0).field 8 0 &&& (r 19).field 8 0 = (r 17).field 8 0 &&& (r 19).field 8 0) &&
    (!(r 20).bit 4 || (decide (recLen fr = min 8 ((r 20).field 3 0)) &&
      (List.range 4).any fun k => decide ((fr.getD (5 + k) 0).field 15 0 &&& (r (21 + k)).field 15 0 ≠ 0)))

/-- A frame on the bus of a sleeping module wakes it by selective wake (R370, R475). -/
def wufFrame (n : Nat) (fr : List Word) (s : State) : State :=
  let cfg := s.copyReg (canAddr n 0)
  if !s.pwr.waking && cfg.bit 9 && cfg.bit 8 && wufAccepts s n fr then raiseWake 3 n s else s

/-- A frame is stored and presented, or counted as overrun (R363, R381). -/
def storeFrame (b flt cycle col : Nat) (fr : List Word) (sof : Nat) (s : State) : State :=
  match freeSlot (s.bus b) with
  | none => s.modBus b fun x => { x with overrun := x.overrun + 1 }
  | some k =>
    let s := s.modBus b fun x => { x with slots := Sparse.put x.slots k 0 }
    present (sourceOf (busT b))
      ([Word.ofN (k * 2 ^ 10 + flt % 64 * 2 ^ 4), Word.ofN (cycle % 64 * 2 ^ 14 + col % 64 * 2 ^ 8)] ++ wordsOf sof 3 ++ fr)
      (.frame b k flt) s

/-- The window of an exclusive reception has its frame (R387). -/
def gotExpected (b flt : Nat) (s : State) : State :=
  if (s.bus b).window = .expect flt false then s.modBus b fun x => { x with window := .expect flt true } else s

/-- The channel's controller takes part in a frame's format: classic always, FD and XL where they are enabled (R361, R398). -/
def formatOn (s : State) (n : Nat) (fr : List Word) : Bool :=
  match (fr.getD 0 0).field 19 18 with
  | 0 => true
  | 1 => (s.liveReg (canAddr n 0)).bit 18
  | 2 => decide (n < 4) && (s.liveReg (canAddr n 0)).bit 17
  | _ => false

/-- The listening controller of bus `b` has compared its own reception with the forwarded copy of a stored frame: a copy that
disagrees counts, where the other lane's controller listens (R362, R363). -/
def compareCopies (b : Nat) (same : Bool) (s : State) : State :=
  if same || !(s.lane (otherLane (s.bus b).tx)).inStep then s
  else s.modBus b fun x => { x with mismatch := x.mismatch + 1 }

/-- BUS_FRAME_RECEIVED (R361, R363, R370, R380, R381, R394). -/
def frameReceived (b : Nat) (fr : List Word) (sof cycle col : Nat) (same badFcs : Bool) (s : State) : State :=
  let x := s.bus b
  if asleep s then (if b < 16 then wufFrame b fr s else s)
  else if !busAccepts s b || !busEnabled s b || (decide (b < 24) && decide (2 ≤ x.state)) then s
  else if decide (24 ≤ b) && badFcs then s.modBus b fun x => { x with fcsErr := x.fcsErr + 1 }
  else if decide (b < 16) && !formatOn s b fr then s
  else if decide (b < 16) && decide ((fr.getD 0 0).field 19 18 = 2) && decide (256 < recLen fr) then
    s.modBus b fun x => { x with rxDrop := x.rxDrop + 1 }
  else
    let flt := if b < 16 then canFilter s b fr
      else if b < 24 then
        let id := (fr.getD 1 0).field 5 0
        if x.window = .expect id false then some id else none
      else tsFilter s (b - 24) fr
    match flt with
    | none => s
    | some f =>
      let s := if (freeSlot x).isSome then compareCopies b same s else s
      let tt := ttActive s b
      gotExpected b f (storeFrame b f (if tt then cycle else 63) (if tt then col else 63) fr sof s)

/-- The captures that the ring of 16,384 words still holds, and the number of the latest one it has overwritten (R436). -/
def trimCaptures (lost : Nat) (cs : List (Nat × List Word)) : Nat × List (Nat × List Word) :=
  cs.foldr (fun c r =>
    let used := (r.2.map fun p => p.2.length).sum
    if r.1 ≤ lost ∧ used + c.2.length ≤ 16384 then (r.1, c :: r.2) else (max r.1 c.1, r.2)) (lost, [])

/-- Board address of word `i` of the capture ring (R436). -/
def captureAddr (i : Nat) : Nat := 0x20000 + Config.captureBase % 0x3C000 + i % 16384

/-- Words from `i` on of the capture ring are written. -/
def setCapture (i : Nat) (ws : List Word) (s : State) : State :=
  ws.zipIdx.foldl (fun s p => s.setSram (captureAddr (i + p.2)) p.1) s

/-- A record enters the capture ring (R436). -/
def capture (seq : Nat) (words : List Word) (s : State) : State :=
  let r := trimCaptures s.host.captureLost (s.host.captures ++ [(seq, words)])
  setCapture s.host.captureEnd words
    { s with host := { s.host with
      captures := r.2, captureLost := r.1, captureEnd := (s.host.captureEnd + words.length) % 16384 } }

/-- Board SRAM words that must stay: the records of owned receive slots, and the capture ring (R381, R436). -/
def heldRanges (s : State) : List (Nat × Nat) :=
  (captureAddr 0, 16384) :: s.buses.flatMap fun p =>
    (p.2.slots.filter fun k => decide (k.2 ≠ 0)).map fun k => (k.2.toNat, 8 + (s.sramWord (k.2.toNat + 6)).field 11 0)

/-- Where `n` words of the lanes stand in Board SRAM: the firmware's own place where that is clear of the words that must stay, else
the first one that is (R381, R436). DESIGN CHOICE, assumption log 45. -/
def freePlace (s : State) (n : Nat) : Nat :=
  let held := heldRanges s
  let own := 0x20000 + Config.recordPlace s.free % (0x40000 - n % 0x40000)
  ((own :: 0x20000 :: held.map fun r => r.1 + r.2).find? fun a =>
    decide (a + n ≤ 0x60000) && held.all fun r => decide (a + n ≤ r.1) || decide (r.1 + r.2 ≤ a)).getD own

/-- BUSQ_RXSTAT.OWNED in the lanes' copy: the slots whose records they hold (R381, R405). -/
def showOwned (b : Nat) (s : State) : State :=
  let n := ((List.range 64).filter fun k => decide (s.copyReg (busqAddr b (0x40 + k)) ≠ 0)).length
  s.setCopy (busqAddr b 4) ((s.copyReg (busqAddr b 4)).put 19 13 n)

/-- The lanes process a received frame: its record stands in Board SRAM, and the host's taps are served (R381, R436).
DESIGN CHOICE, assumption log 45. -/
def takeFrame (b slot flt : Nat) (words : List Word) (seq : Nat) (s : State) : State :=
  let a := freePlace s words.length
  let s := { s with free := s.free + 1 }
  let s := s.setSrams a words
  let owned := (s.bus b).slots.any fun p => decide (p.1 = slot)
  let s := if owned then
      (s.modBus b fun x => { x with slots := Sparse.put x.slots slot (Word.ofN a) }).setCopy (busqAddr b (0x40 + slot))
        (Word.ofN a)
    else s
  let s := showOwned b s
  let s := if (s.bus b).tap.testBit flt then capture seq words s else s
  if owned && (s.copyReg (busqAddr b 5)).bit 19 then { s with ply := { s.ply with slots := s.ply.slots ++ [(b, slot)] } }
  else s

/-- An owned receive slot becomes free; acknowledging a free one has no effect (R381). -/
def ackSlot (b k : Nat) (s : State) : State :=
  if (s.bus b).slots.any fun p => decide (p.1 = k) then
    let s := s.modBus b fun x => { x with slots := Sparse.erase x.slots k }
    showOwned b (s.setCopy (busqAddr b (0x40 + k)) 0)
  else s

/-- Every owned receive slot becomes free (R381). -/
def ackAll (b : Nat) (s : State) : State :=
  let ks := (s.bus b).slots.map (·.1)
  ks.foldl (fun s k => ackSlot b k s) s

/-! ### Errors, bus-off and moves (R365, R367, R383) -/

/-- The queued frame that the controller is sending, if any: the one on the bus, else the next of the queue where the queue may
send. -/
def inProgress (s : State) (b : Nat) : Option Nat :=
  let x := s.bus b
  match x.sending with
  | some t => some t
  | none => if !ttActive s b || decide (x.window = .arbitrate) then (nextQueued s b).map Queued.tag else none

/-- Bus-offs within the last 10 s. -/
def recentOffs (now : Nat) (ts : List Nat) : List Nat := ts.filter fun t => decide (now < t + 1000000000)

/-- Entry into bus-off (R383). -/
def busOff (n : Nat) (s : State) : State :=
  let tag := inProgress s n
  let cfg := s.liveReg (canAddr n 0)
  let times := s.clock :: recentOffs s.clock (s.bus n).offTimes
  let susp := decide (cfg.field 14 11 ≤ times.length)
  let s := s.modBus n fun x =>
    { x with
      state := 2, busOffs := x.busOffs + 1, offTimes := times.take 15, suspended := x.suspended || susp, sending := none,
      returning := cfg.bit 15 && !(x.suspended || susp), sync := false, refs := 0, master := false,
      waitRef := true,
      queue := match tag with | some t => x.queue.eraseP fun e => decide (e.tag = t) | none => x.queue }
  let s := match tag with | some t => busNotSent n t 4 s | none => s
  let s := busStateNow n 0x003 s
  if susp then busStateLater n 0x005 none s else s

/-- CAN_ERROR: new error counters (R383, R400). -/
def canErrorStep (n tec fr lec : Nat) (s : State) : State :=
  let x := s.bus n
  if !busEnabled s n || decide (2 ≤ x.state) then s
  else
    let s := s.modBus n fun x => { x with tec := tec, recCount := fr, lec := lec }
    if 255 < tec then busOff n s
    else
      let st := if 127 < tec ∨ 127 < fr then 1 else 0
      if st = x.state then s
      else busStateLater n (if st = 1 then 0x002 else 0x001) none (s.modBus n fun x => { x with state := st })

/-- BUS_OFF_RETURN: the recessive count of a started return is complete (R383). -/
def busOffEnd (n : Nat) (s : State) : State :=
  let x := s.bus n
  if x.state = 2 ∧ x.returning = true then
    busStateLater n 0x004 none (s.modBus n fun x =>
      { x with state := 0, tec := 0, recCount := 0, returning := false, sync := false, refs := 0 })
  else s

/-- RECOVER: SUSPENDED clears and the return starts (R383). -/
def recoverStep (n : Nat) (s : State) : State :=
  s.modBus n fun x => { x with suspended := false, returning := x.returning || decide (x.state = 2) }

/-- MOVED: the bus moves to the other lane's controller, where there is one (R365). DEDUCED, assumption log 41. -/
def moveStep (b : Nat) (s : State) : State :=
  let x := s.bus b
  if busEnabled s b && !x.moved && (s.lane (otherLane x.tx)).inStep then
    busStateNow b 0x006 (s.modBus b fun x => { x with tx := otherLane x.tx, moved := true, faulty := true })
  else s

/-- DOM_TIMEOUT: the transmitting controller is faulted too, and the bus moves (R365, R367). -/
def domStep (b : Nat) (s : State) : State :=
  if busEnabled s b then moveStep b (busStateLater b 0x008 none (s.modBus b fun x => { x with domTo := true })) else s

/-- MOVED_BACK: at a ply boundary, the bus returns to the active lane's controller once the lane of the faulted controller
has joined and that controller has passed its check (R365). -/
def moveBack (b : Nat) (s : State) : State :=
  let x := s.bus b
  match activeLane s with
  | some l =>
    let joined := (s.lane (otherLane x.tx)).role = .standby || (s.lane (otherLane x.tx)).role = .active
    if x.moved && !x.faulty && joined then
      busStateLater b 0x007 none (s.modBus b fun x => { x with tx := l, moved := false })
    else s
  | none => s

/-- A claim of the controllers of bus `b` by lane `l` (R362, R368). -/
def busClaim (b : Nat) (l : Lane) (s : State) : State :=
  s.modBus b fun x => { x with tx := if x.moved && x.faulty then x.tx else l, moved := x.moved && x.faulty }

/-! ### Time-triggered CAN (R384 to R389) -/

/-- Rows of the matrix of channel `n`. -/
def ttRows (s : State) (n : Nat) : Nat := 2 ^ (s.liveReg (canAddr n 10)).field 19 17

/-- Columns of the matrix of channel `n`. -/
def ttCols (s : State) (n : Nat) : Nat := (s.liveReg (canAddr n 9)).field 7 1

/-- First cell of the matrix of channel `n`. -/
def ttBase (s : State) (n : Nat) : Nat := (s.liveReg (canAddr n 9)).field 19 8

/-- The cell of a column in the present cycle (R385). -/
def ttCell (s : State) (n col : Nat) : Word :=
  s.liveReg (0x94000 + ttBase s n + (s.bus n).cycle % ttRows s n * ttCols s n + col)

/-- A claim brings the cells of channel `n`'s matrix with the rest of its configuration (R385, R558). -/
def ttRestoreCells (s : State) (n : Nat) : State :=
  (List.range (ttRows s n * ttCols s n)).foldl (fun s i =>
    let a := 0x94000 + ttBase s n + i
    s.setLive a (s.copyReg a)) s

/-- The writes to channel `n`'s own cells that wait take effect (R385). -/
def ttTakeCells (s : State) (n : Nat) : State :=
  ((s.bus n).cells.foldr (fun p s => s.setLive p.1 p.2) s).modBus n fun x => { x with cells := [] }

/-- A master with ALIGN = 1 starts the basic cycle of count 0 OFFSET µs after a ply boundary alone (R388). -/
def ttAligned (s : State) (n : Nat) : Bool :=
  let x := s.bus n
  !(s.liveReg (canAddr n 8)).bit 17 || decide ((if x.master then (x.cycle + 1) % 64 else x.cycle) ≠ 0) ||
    decide (s.now % 20000 = 100 * (s.liveReg (canAddr n 12)).field 19 12)

/-- The global time that channel `n` sends as master: the time base in network time units, of 5 × NTU_LEN ticks of 10 ns each
(R384). -/
def ttGlobal (s : State) (n : Nat) : Nat := s.now / (5 * (s.liveReg (canAddr n 8)).field 16 9) % 65536

/-- Channel `n` acts as master: its ROLE is master and it has yielded to none (R384). -/
def ttActing (s : State) (n : Nat) : Bool :=
  decide ((s.liveReg (canAddr n 8)).field 19 18 = 2) && ((s.bus n).master || decide ((s.bus n).refs = 0))

/-- A basic cycle start ends the quiet of an abandoned entry (R467). -/
def resumeQueue (n : Nat) (s : State) : State :=
  if (s.bus n).quietEnd then s.modBus n fun x => { x with quiet := false, quietEnd := false } else s

/-- TT_CYCLE_START: a basic cycle starts, an acting master's cycle of count 0 where it is aligned alone; an acting master sends
its reference with the global time, not while quiesced for an entry, and a channel in bus-off goes through its windows in silence
(R383, R384, R388, R467). DEDUCED, assumption log 42. -/
def ttCycle (n : Nat) (s : State) : State :=
  let s := resumeQueue n s
  if ttActive s n && decide ((s.bus n).state = 2) then
    (ttTakeCells s n).modBus n fun x => { x with cycle := (x.cycle + 1) % 64, col := 0, window := .idle }
  else if !ttActive s n || busDown s n || (ttActing s n && ((s.bus n).quiet || !ttAligned s n)) then s
  else if ttActing s n then
    (ttTakeCells s n).modBus n fun x =>
      { x with
        cycle := if x.master then (x.cycle + 1) % 64 else x.cycle, master := true, sync := true, refs := 0, waitRef := false,
        col := 0, window := .reference, refTime := ttGlobal s n }
  else (ttTakeCells s n).modBus n fun x => { x with col := 0, window := .reference }

/-- A window or reception is missed (R382, R387). -/
def ttMiss (n code idx : Nat) (s : State) : State :=
  let x := s.bus n
  let s := s.modBus n fun x => { x with missed := x.missed + 1, window := .idle }
  busWindow n code x.cycle x.col idx s

/-- TT_WINDOW_START: the next column's window opens, with its object's content as it stands (R378, R386, R387). -/
def ttOpen (n : Nat) (fits : Bool) (s : State) : State :=
  let x := s.bus n
  if !ttActive s n || decide (ttCols s n ≤ x.col + 1) then s
  else
    let s := s.modBus n fun x => { x with col := x.col + 1 }
    let cell := ttCell s n (x.col + 1)
    let obj := cell.field 16 11
    let set (w : Window) (s : State) : State := s.modBus n fun x => { x with window := w }
    match cell.field 19 17 with
    | 1 =>
      if (x.objects.any fun p => decide (p.1 = obj)) = false then set .idle s
      else if busDown s n || !fits || !x.sync || x.waitRef then ttMiss n 0x011 obj s
      else s.modBus n fun x => { x with window := .send obj false, taken := Sparse.get (fun _ => []) x.objects obj }
    | 2 => set (.expect obj false) s
    | 3 => set (if x.waitRef then .idle else .arbitrate) s
    | 4 => set (if x.window = .arbitrate then .arbitrate else .idle) s
    | _ => set .idle s

/-- TT_WINDOW_END: a missed object or reception is reported (R387). -/
def ttClose (n : Nat) (s : State) : State :=
  if !ttActive s n then s
  else match (s.bus n).window with
    | .send o false => ttMiss n 0x011 o s
    | .expect f false => ttMiss n 0x010 f s
    | .arbitrate => s
    | _ => s.modBus n fun x => { x with window := .idle }

/-- Synchronisation is lost (R389). -/
def ttLose (n code : Nat) (s : State) : State :=
  let x := s.bus n
  busWindow n code x.cycle x.col 0 (s.modBus n fun x => { x with sync := false, refs := 0, window := .idle })

/-- REFERENCE_RECEIVED: a master yields to one of higher priority alone, and a channel in bus-off waits for the first one after its
return (R383, R384, R389). Two are consecutive when their cycle counts are. DEDUCED, assumption log 42. -/
def ttReference (n cycle : Nat) (gap higher : Bool) (s : State) : State :=
  let x := s.bus n
  let role := (s.liveReg (canAddr n 8)).field 19 18
  if !ttActive s n || decide (2 ≤ x.state) || (decide (role = 2) && !higher) then s
  else if gap then ttLose n 0x013 s
  else
    let s := resumeQueue n s
    let refs := if x.refs ≠ 0 ∧ cycle ≠ (x.cycle + 1) % 64 then 1 else min 2 (x.refs + 1)
    let s := s.modBus n fun x =>
      { x with refs := refs, waitRef := false, cycle := cycle, col := 0, window := .reference, master := false,
               sync := (x.sync && !x.master) || decide (refs = 2) }
    if refs = 2 ∧ (x.sync && !x.master) = false then busStateLater n 0x014 none s else s

/-- SYNC_LOST: no reference came within 1.5 basic cycles of the last (R389). A channel that was not synchronised yet waits for two
anew, and a master that had yielded acts again (R384). DEDUCED, assumption log 42. -/
def ttSyncLost (n : Nat) (s : State) : State :=
  let x := s.bus n
  if !ttActive s n || x.master then s
  else if x.sync then ttLose n 0x012 s
  else s.modBus n fun x => { x with refs := 0 }

/-! ### LIN (R390 to R393) -/

/-- Entry `e` of table `t`. -/
def linEntry (s : State) (n t e : Nat) : Word := s.liveReg (linAddr n (0x80 + 0x20 * t + e))

/-- The frame identifier that an entry schedules. -/
def linId (w : Word) : Nat := if w.field 19 17 = 4 then 0x3C else if w.field 19 17 = 5 then 0x3D else w.field 16 11

/-- The entry at which a schedule goes on: a table that has ended gives way to the one it interrupted, and the last of them starts
again (R391, R392). -/
def linPop (s : State) (n t e : Nat) : List (Nat × Nat) → Nat × Nat × List (Nat × Nat)
  | [] => if e < 32 ∧ (linEntry s n t e).field 19 17 ≠ 0 then (t, e, []) else (t, 0, [])
  | r :: rest => if e < 32 ∧ (linEntry s n t e).field 19 17 ≠ 0 then (t, e, r :: rest) else linPop s n r.1 r.2 rest

/-- The table and entry of the next slot, and where interrupted tables go on (R391, R392). -/
def linNext (s : State) (n : Nat) (x : Bus) : Nat × Nat × List (Nat × Nat) :=
  let want := (s.liveReg (linAddr n 2)).field 19 18
  let home := match x.resume.getLast? with | some r => r.1 | none => x.table
  if want ≠ home then (want, 0, []) else linPop s n x.table (if x.window = .idle then x.entry else x.entry + 1) x.resume

/-- What the commander does in a slot: sends a response, expects one, or leaves the slot silent (R378, R390, R392). -/
def linHeader (s : State) (n : Nat) (x : Bus) (w : Word) : Window :=
  let id := linId w
  let has := x.objects.any fun p => decide (p.1 = id)
  if w.field 19 17 = 0 then .idle
  else if w.field 19 17 = 3 ∧ x.fresh.contains id = false then .arbitrate
  else match (s.liveReg (linAddr n (0x40 + id))).field 19 18 with
    | 1 => if has then .send id false else .arbitrate
    | 2 => .expect id false
    | _ => .arbitrate

/-- LIN_SLOT: a schedule entry begins, or a pending go-to-sleep command is sent (R392). DEDUCED, assumption log 44. -/
def linSlotStep (n : Nat) (s : State) : State :=
  let b := 16 + n
  let x := s.bus b
  if !busAccepts s b || !busEnabled s b || x.quiet || decide (x.state ≠ 0) then s
  else if x.sleepReq then
    busStateLater b 0x024 none (s.modBus b fun x => { x with state := 1, sleepReq := false, window := .idle })
  else
    let nx := linNext s n x
    let w := linHeader s n x (linEntry s n nx.1 nx.2.1)
    s.modBus b fun x =>
      { x with
        table := nx.1, entry := nx.2.1, resume := nx.2.2, window := w,
        taken := match w with | .send id _ => Sparse.get (fun _ => []) x.objects id | _ => x.taken,
        fresh := match w with | .send id _ => x.fresh.filter (· ≠ id) | _ => x.fresh }

/-- A response that is not stored: counted and reported (R393). -/
def linFail (n code : Nat) (missing : Bool) (id : Nat) (s : State) : State :=
  let b := 16 + n
  let s := s.modBus b fun x =>
    { x with noResp := if missing then x.noResp + 1 else x.noResp, bad := if missing then x.bad else x.bad + 1 }
  busWindow b code 63 63 id s

/-- The window of the present slot after its response. -/
def linDone : Window → Window
  | .send o _ => .send o true
  | .expect f _ => .expect f true
  | w => w

/-- LIN_RESPONSE: a response ends; a stored one is compared with the listening controller's, and an object whose slot failed counts
as not sent (R363, R390, R392, R393). -/
def linRespond (n : Nat) (r : LinResult) (s : State) : State :=
  let b := 16 + n
  let x := s.bus b
  let w := linEntry s n x.table x.entry
  let done := s.modBus b fun x => { x with window := linDone x.window }
  match x.window, r with
  | .expect id false, .frame fr sof same =>
    storeFrame b id 63 63 fr sof (if (freeSlot x).isSome then compareCopies b same done else done)
  | .send id false, .frame _ sof _ => objectSent b id sof s
  | .expect id false, .missing => linFail n 0x020 true id done
  | .expect id false, .checksum => linFail n 0x021 false id done
  | .expect id false, .framing => linFail n 0x022 false id done
  | .expect id false, .readback => linFail n 0x023 false id done
  | .send id false, .readback => linFail n 0x023 false id (done.modBus b fun x => { x with fresh := x.fresh ++ [id] })
  | .expect id false, .collision =>
    if w.field 19 17 = 2 then
      busStateLater b 0x027 none (s.modBus b fun x =>
        { x with resume := (x.table, x.entry + 1) :: x.resume, table := w.field 1 0, entry := 0, window := .idle })
    else linFail n 0x022 false id done
  | _, _ => s

/-- LIN_SLEEP (R392). -/
def linSleepStep (n : Nat) (s : State) : State :=
  let b := 16 + n
  if busEnabled s b ∧ (s.bus b).state = 0 then s.modBus b fun x => { x with sleepReq := true } else s

/-- LIN_WAKE: the wake-up pulse; the restart follows 100 ms later (R392). -/
def linWakeStep (n : Nat) (s : State) : State :=
  let b := 16 + n
  if busEnabled s b then busStateLater b 0x025 none (s.modBus b fun x => { x with returning := true }) else s

/-- WAKE_RECEIVED from a responder; from the commit ply on the AO holds it (R392, R468, R475). -/
def linWakeHeard (n : Nat) (s : State) : State :=
  let b := 16 + n
  let s := if s.pwr.committed && (s.copyReg 0x9E006).bit (7 + n) then raiseWake 4 n s else s
  if busAccepts s b then
    if busEnabled s b then busStateLater b 0x026 none (s.modBus b fun x => { x with returning := true }) else s
  else if asleep s && (s.copyReg 0x9E006).bit (7 + n) then raiseWake 4 n s
  else s

/-- LIN_WAKE_RESTART (R392). -/
def linRestart (n : Nat) (s : State) : State :=
  let b := 16 + n
  if busEnabled s b ∧ (s.bus b).returning = true then
    s.modBus b fun x =>
      { x with state := 0, returning := false, sleepReq := false, table := (s.liveReg (linAddr n 2)).field 19 18, entry := 0,
               resume := [], window := .idle }
  else s

/-! ### 10BASE-T1S (R394 to R396) -/

/-- Satellite `k + 1` has a transmit opportunity: its node ID is below NODECNT (R394). -/
def satServed (s : State) (x k : Nat) : Bool := decide (k + 1 < (s.liveReg (tsAddr x 0)).field 18 15)

/-- PLCA_BEACON: a cycle starts; `nodes` are the satellites that transmitted in the one before (R394, R396). -/
def beacon (x : Nat) (nodes : BitVec 8) (s : State) : State :=
  let b := 24 + x
  if !busAccepts s b || !busEnabled s b || (s.bus b).quiet then s
  else
    let s := s.modBus b fun y => { y with state := 1 }
    (List.range 8).foldl (fun s k =>
      if nodes.getLsbD k && satServed s x k && (s.liveReg (tsAddr x (8 + k))).bit 19 && !(s.bus b).present.getLsbD k then
        busStateLater b 0x031 (some (k + 1)) (s.modBus b fun y => { y with present := y.present ||| BitVec.ofNat 8 (2 ^ k) })
      else s) s

/-- SAT_LOST (R396). -/
def satLostStep (x k : Nat) (s : State) : State :=
  let b := 24 + x
  if (s.liveReg (tsAddr x (8 + k))).bit 19 && (s.bus b).present.getLsbD k then
    busStateLater b 0x030 (some (k + 1)) (s.modBus b fun y =>
      { y with present := y.present &&& ~~~(BitVec.ofNat 8 (2 ^ k)), lost := y.lost ||| BitVec.ofNat 8 (2 ^ k) })
  else s

/-- SAT_COLLISION (R396). -/
def satCollide (x k : Nat) (s : State) : State :=
  let b := 24 + x
  if busEnabled s b && satServed s x k then
    busStateLater b 0x032 (some (k + 1)) (s.modBus b fun y => { y with collSeen := y.collSeen ||| BitVec.ofNat 8 (2 ^ k) })
  else s

/-! ### Register writes (R360, R371, R385, R391, R398 to R405) -/

/-- A bit timing keeps to R371: `lo` and `hi` bound the quanta of 12.5 ns in a bit. -/
def timingOk (v : Word) (lo hi : Nat) (data : Bool) : Bool :=
  let brp := v.field 19 15 + 1
  let t1 := v.field 14 8 + 1
  let t2 := v.field 7 4 + 1
  let n := brp * (1 + t1 + t2)
  decide (lo ≤ n) && decide (n ≤ hi) && decide (v.field 3 0 + 1 ≤ t2) && (!data || decide (brp ≤ 2))

/-- The cells of channel `n`'s matrix as the registers have it: the first, and one past the last. -/
def ttSpan (s : State) (n : Nat) : Nat × Nat := (ttBase s n, ttBase s n + ttRows s n * ttCols s n)

/-- Why a write of ROLE other than 00b is refused (R385). -/
def ttRoleOk (s : State) (n : Nat) (v : Word) : Bool :=
  let sp := ttSpan s n
  let cyc := (s.liveReg (canAddr n 10)).field 15 0
  let start := fun c => (s.liveReg (canAddr n (0x40 + c))).field 15 0
  let overlap := (List.range 16).any fun m =>
    m ≠ n && decide ((s.liveReg (canAddr m 8)).field 19 18 ≠ 0) &&
      decide (max (ttSpan s m).1 sp.1 < min (ttSpan s m).2 sp.2)
  let rising := (List.range (ttCols s n)).all fun c =>
    if c = 0 then decide (start 0 = 0) else decide (start (c - 1) < start c) && decide (start c < cyc)
  decide (sp.2 ≤ 4096) && !overlap && rising && (!v.bit 17 || decide (cyc * v.field 16 9 * 50 % 200000 = 0))

/-- Why a write to a CAN register is refused, 0 for none (R371, R385, R398 to R401). -/
def canReason (n off : Nat) (v : Word) (s : State) : Nat :=
  let cfg := s.liveReg (canAddr n 0)
  let role := (s.liveReg (canAddr n 8)).field 19 18
  match off with
  | 0 =>
    if cfg.bit 19 && v.bit 19 && (v.bit 18 != cfg.bit 18 || v.bit 17 != cfg.bit 17) then 0x05
    else if (v.bit 17 && decide (4 ≤ n)) || decide (v.field 14 11 = 0) then 0x04
    else 0
  | 2 => if cfg.bit 19 then 0x05 else if timingOk v 80 1600 false then 0 else 0x04
  | 3 => if cfg.bit 19 then 0x05 else if timingOk v 10 80 true then 0 else 0x04
  | 4 => if cfg.bit 19 then 0x05 else if timingOk v 8 40 true then 0 else 0x04
  | 8 =>
    if v.field 19 18 = 3 ∨ v.field 16 9 = 0 ∨ 200 < v.field 16 9 then 0x04
    else if v.field 19 18 ≠ 0 ∧ ttRoleOk s n v = false then 0x05
    else 0
  | 9 => if role ≠ 0 then 0x05 else if 64 < v.field 7 1 then 0x04 else 0
  | 10 => if role ≠ 0 then 0x05 else if v.field 19 17 = 7 ∨ v.field 15 0 = 0 then 0x04 else 0
  | 12 => if role ≠ 0 then 0x05 else if 199 < v.field 19 12 then 0x04 else 0
  | _ => if 0x40 ≤ off ∧ off < 0x80 ∧ role ≠ 0 then 0x05 else 0

/-- CAN_CFG takes effect: EN starts or stops the channel, RECOVER starts the return (R383, R398). -/
def canCfgEffect (n : Nat) (was v : Word) (s : State) : State :=
  let s := if v.bit 19 && !was.bit 19 then
      busStateLater n 0x001 none (s.modBus n fun x => { x with state := 0, tec := 0, recCount := 0, lec := 0 })
    else if !v.bit 19 && was.bit 19 then
      busStateLater n 0x009 none (s.modBus n fun x =>
        { x with state := 3, sync := false, refs := 0, master := false, window := .idle, returning := false })
    else s
  if v.bit 7 then recoverStep n s else s

/-- A write to a register of CAN channel `n` (R397 to R402). -/
def canApply (n off a : Nat) (v : Word) (s : State) : State :=
  let was := s.liveReg a
  let r := canReason n off v s
  let store := s.setLive a (regWrite a was v)
  if r ≠ 0 then refuseBus n r a v s
  else match off with
    | 0 => canCfgEffect n was v store
    | 1 => s.modBus n fun x => { x with domTo := x.domTo && !v.bit 14 }
    | 8 =>
      if v.field 19 18 = 0 then
        (ttTakeCells store n).modBus n fun x => { x with sync := false, refs := 0, master := false, window := .idle, cycle := 0, col := 0 }
      else store
    | _ => store

/-- The smallest DELAY of an entry for a frame of `len` octets, in ms (R391). -/
def linMinDelay (len rate : Nat) : Nat := (14 * (34 + 10 * (len + 1)) * 1000 + 1000 * rate - 1) / (1000 * max rate 1)

/-- Why a write to a LIN register is refused, 0 for none (R391, R403). -/
def linReason (n off : Nat) (v : Word) (s : State) : Nat :=
  let cfg := s.liveReg (linAddr n 0)
  let x := s.bus (16 + n)
  if off = 0 then (if v.field 18 11 < 10 ∨ 200 < v.field 18 11 then 0x04 else 0)
  else if 0x40 ≤ off ∧ off < 0x80 then
    if cfg.bit 19 then 0x05
    else if v.field 19 18 = 3 ∨ v.field 16 13 = 0 ∨ 8 < v.field 16 13 then 0x04
    else 0
  else if 0x80 ≤ off ∧ off < 0x100 then
    if cfg.bit 19 && decide (x.table = (off - 0x80) / 0x20) then 0x05
    else if 5 < v.field 19 17 then 0x04
    else if v.field 19 17 = 0 then 0
    else if v.field 10 3 < linMinDelay ((s.liveReg (linAddr n (0x40 + linId v))).field 16 13) (cfg.field 18 11) then 0x04
    else 0
  else 0

/-- A write to a register of LIN channel `n` (R392, R403). -/
def linApply (n off a : Nat) (v : Word) (s : State) : State :=
  let b := 16 + n
  let was := s.liveReg a
  let r := linReason n off v s
  let store := s.setLive a (regWrite a was v)
  if r ≠ 0 then refuseBus b r a v s
  else match off with
    | 0 =>
      if v.bit 19 && !was.bit 19 then
        store.modBus b fun x =>
          { x with state := 0, table := (s.liveReg (linAddr n 2)).field 19 18, entry := 0, resume := [], window := .idle }
      else if !v.bit 19 && was.bit 19 then
        busStateLater b 0x009 none (store.modBus b fun x => { x with state := 2, window := .idle, returning := false })
      else store
    | 1 => s.modBus b fun x => { x with domTo := x.domTo && !v.bit 8 }
    | 2 =>
      let s := if v.bit 17 then linSleepStep n store else store
      if v.bit 16 then linWakeStep n s else s
    | _ => store

/-- A claim has brought the configuration of bus `b` to controllers that had none: an enabled channel runs (R385, R558). -/
def busConfigured (b : Nat) (s : State) : State :=
  if s.maintenance || !busEnabled s b then s
  else if b < 16 then canCfgEffect b 0 0x80000 (ttRestoreCells s b)
  else if b < 24 then
    s.modBus b fun x =>
      { x with state := 0, table := (s.liveReg (linAddr (b - 16) 2)).field 19 18, entry := 0, resume := [], window := .idle }
  else s

/-- A write to a register of segment `x` (R404). -/
def tsApply (x off a : Nat) (v : Word) (s : State) : State :=
  let b := 24 + x
  let was := s.liveReg a
  let on := (s.liveReg (tsAddr x 0)).bit 19
  let store := s.setLive a (regWrite a was v)
  match off with
  | 0 =>
    if on && v.bit 19 then refuseBus b 0x05 a v s
    else if v.field 18 15 < 2 ∨ 9 < v.field 18 15 ∨ v.field 14 7 = 0 then refuseBus b 0x04 a v s
    else if v.bit 19 then store
    else
      let s := store.modBus b fun y => { y with state := 0, present := 0 }
      if on then busStateLater b 0x009 none s else s
  | 2 | 3 | 4 => if on then refuseBus b 0x05 a v s else store
  | _ =>
    if 8 ≤ off ∧ off < 16 then
      if v.field 18 8 = 0 ∨ 2000 < v.field 18 8 then refuseBus b 0x04 a v s
      else
        let k := off - 8
        let m := ~~~(BitVec.ofNat 8 (2 ^ k))
        store.modBus b fun y =>
          { y with lost := if v.bit 6 then y.lost &&& m else y.lost, collSeen := if v.bit 5 then y.collSeen &&& m else y.collSeen,
                   present := if v.bit 19 then y.present else y.present &&& m }
    else s

/-- The channel whose enabled matrix holds a schedule cell (R385). -/
def cellOwner (s : State) (i : Nat) : Option Nat :=
  (List.range 16).find? fun n =>
    decide ((s.liveReg (canAddr n 8)).field 19 18 ≠ 0) && decide ((ttSpan s n).1 ≤ i) && decide (i < (ttSpan s n).2)

/-- The bus whose controllers take a write at Board address `a`; a schedule cell goes to its owner, or to channel 0. -/
def busOfAddr (s : State) (a : Nat) : Nat :=
  if a < 0x94000 then (a - 0x90000) / 0x400
  else if a < 0x95000 then (cellOwner s (a - 0x94000)).getD 0
  else if a < 0x96000 then 16 + (a - 0x95000) / 0x200
  else if a < 0x97000 then 24 + (a - 0x96000) / 0x400
  else (a - 0x97000) / 0x80

/-- A write at Board address `a` as the controllers apply it. -/
def busApply (a : Nat) (v : Word) (s : State) : State :=
  if a < 0x94000 then canApply ((a - 0x90000) / 0x400) (a % 0x400) a v s
  else if a < 0x95000 then
    let w := regWrite a (s.liveReg a) v
    match cellOwner s (a - 0x94000) with
    | some n => s.modBus n fun x => { x with cells := Sparse.put x.cells a w }
    | none => s.setLive a w
  else if a < 0x96000 then linApply ((a - 0x95000) / 0x200) (a % 0x200) a v s
  else if a < 0x97000 then tsApply ((a - 0x96000) / 0x400) (a % 0x400) a v s
  else
    let b := (a - 0x97000) / 0x80
    if a % 0x80 = 3 ∧ b < 28 then (if v.bit 19 then ackAll b s else ackSlot b (v.field 5 0) s) else s

/-! ### The drive-release message (R352, R379) -/

/-- The first 64 bits of a CMAC, in octet order. -/
def macOctets (mac n : Nat) : List Nat := (List.range n).map fun i => mac / 2 ^ (8 * i) % 256

/-- Octets 0 to 15 of the message. -/
def releaseHead (s : State) : List Nat :=
  let d := s.copyReg 0x88022
  (List.range 8).map (fun i => s.ply.number / 2 ^ (8 * i) % 256) ++
    [flagAt (decide (d.field 19 18 = 1)) 0 + flagAt (d.bit 17) 1] ++ List.replicate 7 0

/-- The frame record of the release message. -/
def releaseRecord (s : State) (n key : Nat) : List Word :=
  let os := releaseHead s ++ macOctets (cmac128 key (releaseHead s)) 8
  let brs := flagAt ((s.copyReg (canAddr n 0)).bit 18) 16
  [Word.ofN (2 ^ 18 + brs + 24), Word.ofN ((s.copyReg (canAddr n 7)).field 10 0), 0, 0, 0] ++
    (List.range 12).map fun i => Word.ofN (os.getD (2 * i) 0 + os.getD (2 * i + 1) 0 * 256)

/-- Several commands are to be emitted in phase C, in order. -/
def emit (cs : List (Nat × Content)) (s : State) : State := { s with ply := { s.ply with cmds := s.ply.cmds ++ cs } }

/-- A release message is due: MSG_EN is 1, PERIOD plies have passed since the last one, and the plies are not paused (R352,
R521). -/
def releaseDue (s : State) : Bool :=
  let cfg := s.copyReg 0x88023
  let passed := match s.lanes.released with
    | none => true
    | some t => decide (t + 20000 * cfg.field 13 6 ≤ s.pwr.elapsed + s.ply.boundary)
  cfg.bit 18 && passed && decide (s.upd.stage ≠ .paused)

/-- RELEASE_MESSAGE: the lanes update object 0, and queue the record on an event-driven channel (R352, R379). -/
def releaseStep (s : State) : State :=
  let n := (s.copyReg 0x88023).field 17 14
  match s.keys.find? fun p => decide (p.1 = 5) with
  | some k =>
    if releaseDue s then
      let fr := releaseRecord s n k.2
      let tt := decide ((s.copyReg (canAddr n 8)).field 19 18 ≠ 0) && decide ((s.copyReg (canAddr n 9)).field 7 1 ≠ 0)
      emit ([(busT n, .bus 1 0 0 fr)] ++ (if tt then [] else [(busT n, .bus 0 0 0 fr)]))
        { s with lanes := { s.lanes with released := some (s.pwr.elapsed + s.ply.boundary) } }
    else s
  | none => s

/-- Updates of object 0 by other masters are refused while MSG_EN is 1 (R379). DEDUCED, assumption log 43. -/
def objectZeroHeld (s : State) (b op obj : Nat) : Bool :=
  decide (op = 1) && decide (obj = 0) && (s.liveReg 0x88023).bit 18 && decide ((s.liveReg 0x88023).field 17 14 = b)

/-- RELEASE_MESSAGE (R352). -/
def execReleaseMessage (s : State) : Host.Outcome State Fault Refusal := .next (releaseStep s)

/-- BUS_FRAME_RECEIVED (R363, R381). -/
def execBusFrameReceived (b : Fin 28) (fr : List Word) (sof : Nat) (cycle col : BitVec 6) (same badFcs : Bool) (s : State) :
    Host.Outcome State Fault Refusal :=
  .next (frameReceived b fr sof cycle.toNat col.toNat same badFcs s)

/-- BUS_FRAME_TRANSMITTED (R364). -/
def execBusFrameTransmitted (b : Fin 28) (obj : Bool) (tag : BitVec 12) (sof : Nat) (s : State) :
    Host.Outcome State Fault Refusal :=
  .next (if obj then objectSent b tag.toNat sof s else queuedSent b tag.toNat sof s)

/-- BUS_QUEUE (R377). -/
def execBusQueue (b : Fin 28) (tag : BitVec 12) (fr : List Word) (s : State) : Host.Outcome State Fault Refusal :=
  .next (if busAccepts s b then busQueueReq b tag.toNat fr s else s)

/-- BUS_UPDATE_OBJECT, by a master other than the release task (R378, R379). -/
def execBusUpdateObject (b : Fin 28) (obj : BitVec 6) (fr : List Word) (s : State) : Host.Outcome State Fault Refusal :=
  .next (
    if !busAccepts s b then s
    else if objectZeroHeld s b 1 obj.toNat then refuseBus b 0x05 (busqAddr b 1) 0 s
    else busUpdateReq b obj.toNat 0 fr s)

/-- BUS_ABORT (R377). -/
def execBusAbort (b : Fin 28) (tag : BitVec 12) (s : State) : Host.Outcome State Fault Refusal :=
  .next (if busAccepts s b then busAbortReq b tag.toNat s else s)

/-- RX_ACK (R381). -/
def execRxAck (b : Fin 28) (slot : BitVec 6) (s : State) : Host.Outcome State Fault Refusal :=
  .next (if busAccepts s b then ackSlot b slot.toNat s else s)

/-- RX_ACK_ALL (R381). -/
def execRxAckAll (b : Fin 28) (s : State) : Host.Outcome State Fault Refusal :=
  .next (if busAccepts s b then ackAll b s else s)

/-- MOVED (R365). -/
def execMoved (b : Fin 28) (s : State) : Host.Outcome State Fault Refusal := .next (moveStep b s)

/-- CAN_ERROR (R383). -/
def execCanError (n : Fin 16) (tec : Fin 257) (fr : BitVec 8) (lec : BitVec 3) (s : State) :
    Host.Outcome State Fault Refusal :=
  .next (canErrorStep n tec fr.toNat lec.toNat s)

/-- BUS_OFF_RETURN (R383). -/
def execBusOffReturn (n : Fin 16) (s : State) : Host.Outcome State Fault Refusal := .next (busOffEnd n s)

/-- RECOVER (R383). -/
def execRecover (n : Fin 16) (s : State) : Host.Outcome State Fault Refusal := .next (if busAccepts s n then recoverStep n s else s)

/-- DOM_TIMEOUT (R367). -/
def execDomTimeout (b : Fin 24) (s : State) : Host.Outcome State Fault Refusal := .next (domStep b s)

/-- TT_CYCLE_START (R384). -/
def execTtCycleStart (n : Fin 16) (s : State) : Host.Outcome State Fault Refusal := .next (ttCycle n s)

/-- TT_WINDOW_START (R387). -/
def execTtWindowStart (n : Fin 16) (fits : Bool) (s : State) : Host.Outcome State Fault Refusal := .next (ttOpen n fits s)

/-- TT_WINDOW_END (R387). -/
def execTtWindowEnd (n : Fin 16) (s : State) : Host.Outcome State Fault Refusal := .next (ttClose n s)

/-- REFERENCE_RECEIVED (R389). -/
def execReferenceReceived (n : Fin 16) (cycle : BitVec 6) (gap higher : Bool) (s : State) :
    Host.Outcome State Fault Refusal :=
  .next (ttReference n cycle.toNat gap higher s)

/-- SYNC_LOST (R389). -/
def execSyncLost (n : Fin 16) (s : State) : Host.Outcome State Fault Refusal := .next (ttSyncLost n s)

/-- LIN_SLOT (R392). -/
def execLinSlot (n : Fin 8) (s : State) : Host.Outcome State Fault Refusal := .next (linSlotStep n s)

/-- LIN_RESPONSE (R393). -/
def execLinResponse (n : Fin 8) (r : LinResult) (s : State) : Host.Outcome State Fault Refusal := .next (linRespond n r s)

/-- LIN_SLEEP (R392). -/
def execLinSleep (n : Fin 8) (s : State) : Host.Outcome State Fault Refusal :=
  .next (if busAccepts s (16 + n) then linSleepStep n s else s)

/-- LIN_WAKE (R392). -/
def execLinWake (n : Fin 8) (s : State) : Host.Outcome State Fault Refusal :=
  .next (if busAccepts s (16 + n) then linWakeStep n s else s)

/-- WAKE_RECEIVED (R392). -/
def execWakeReceived (n : Fin 8) (s : State) : Host.Outcome State Fault Refusal := .next (linWakeHeard n s)

/-- LIN_WAKE_RESTART (R392). -/
def execLinWakeRestart (n : Fin 8) (s : State) : Host.Outcome State Fault Refusal := .next (linRestart n s)

/-- PLCA_BEACON (R394). -/
def execPlcaBeacon (x : Fin 4) (nodes : BitVec 8) (s : State) : Host.Outcome State Fault Refusal := .next (beacon x nodes s)

/-- SAT_LOST (R396). -/
def execSatLost (x : Fin 4) (k : Fin 8) (s : State) : Host.Outcome State Fault Refusal := .next (satLostStep x k s)

/-- SAT_COLLISION (R396). -/
def execSatCollision (x : Fin 4) (k : Fin 8) (s : State) : Host.Outcome State Fault Refusal := .next (satCollide x k s)

end Sys2Proof.Machine
end

