-- ==== Sys2Proof/Machine/Board.lean ====
section
/-! DEFINITION. The Board: targets, access checks, refusals, arbiters and locks (R122 to R150). -/

namespace Sys2Proof.Machine

open Sys2Proof

/-- The target of a Board address by its number; none for a reserved range and for the core-local view (R122). -/
def targetOf (a : Nat) : Option Nat :=
  if a < 0x20000 then none
  else if a < 0x60000 then some 0
  else if a < 0x80000 then some 1
  else if a < 0x81600 then some 2
  else if a < 0x82000 then none
  else if a < 0x82580 then some 2
  else if a < 0x84000 then none
  else if a < 0x86000 then some 3
  else if a < 0x88000 then some 4
  else if a < 0x8A000 then some 5
  else if a < 0x8E000 then some 6
  else if a < 0x90000 then none
  else if a < 0x97000 then some 7
  else if a < 0x98000 then some 8
  else if a < 0x9A000 then some 9
  else if a < 0x9B000 then some 10
  else if a < 0x9C000 then some 11
  else if a < 0x9D000 then some 12
  else if a < 0x9D400 then some 13
  else if a < 0x9D800 then some 14
  else if a < 0x9E000 then none
  else if a < 0x9F000 then some 15
  else if a < 0x9F800 then some 16
  else if a < 0xA0000 then some 17
  else none

/-- First and last address of a target's ranges (R122). -/
def targetSpan (t : Nat) : Nat × Nat :=
  match t with
  | 0 => (0x20000, 0x5FFFF)
  | 1 => (0x60000, 0x7FFFF)
  | 2 => (0x80000, 0x8257F)
  | 3 => (0x84000, 0x85FFF)
  | 4 => (0x86000, 0x87FFF)
  | 5 => (0x88000, 0x89FFF)
  | 6 => (0x8A000, 0x8DFFF)
  | 7 => (0x90000, 0x96FFF)
  | 8 => (0x97000, 0x97FFF)
  | 9 => (0x98000, 0x99FFF)
  | 10 => (0x9A000, 0x9AFFF)
  | 11 => (0x9B000, 0x9BFFF)
  | 12 => (0x9C000, 0x9CFFF)
  | 13 => (0x9D000, 0x9D3FF)
  | 14 => (0x9D400, 0x9D7FF)
  | 15 => (0x9E000, 0x9EFFF)
  | 16 => (0x9F000, 0x9F7FF)
  | _ => (0x9F800, 0x9FFFF)

/-- The lane-local points (R126). -/
def laneLocal (a : Nat) : Bool :=
  (decide (0x60000 ≤ a) && decide (a < 0x80000)) || (decide (0x98000 ≤ a) && decide (a < 0x9A000)) ||
    (decide (0x9BE02 ≤ a) && decide (a ≤ 0x9BE08)) || (decide (0x9BE10 ≤ a) && decide (a ≤ 0x9BE21)) ||
    (decide (0x9C000 ≤ a) && decide (a ≤ 0x9C002)) || a = 0x9D000 || a = 0x9D00C || a = 0x9D00D ||
    a = 0x9E000 || a = 0x9E001 || a = 0x9E003

/-! ### Access tables (R131 to R136) -/

/-- Address of word `w` of entry `e` of the table of target `t`. -/
def tableAddr (t e w : Nat) : Nat := 0x9B000 + 0xC0 * t + 3 * e + w

/-- Word `w` of entry 0, written by boot code (R133). -/
def entryZero (t w : Nat) : Word :=
  match w with
  | 0 => 0x801E0
  | 1 => Word.ofN (targetSpan t).1
  | _ => Word.ofN (targetSpan t).2

/-- A word of a set of tables. -/
def tableWord (tabs : List (Nat × Word)) (t e w : Nat) : Word :=
  if e = 0 then entryZero t w else Sparse.get (fun _ => 0) tabs (tableAddr t e w)

/-- Entry `e` of the table in use of target `t` matches a request (R132). -/
def entryMatches (s : State) (t e m : Nat) (secure : Bool) (a : Nat) : Bool :=
  let w := tableWord s.tables t e 0
  w.bit 19 && decide (m &&& w.field 13 9 = w.field 18 14 &&& w.field 13 9) && (!w.bit 5 || secure) &&
    decide ((tableWord s.tables t e 1).toNat ≤ a) && decide (a ≤ (tableWord s.tables t e 2).toNat)

/-- The table of target `t` grants the request: the matching entry with the lowest index decides (R132). -/
def tableGrants (s : State) (t m : Nat) (secure : Bool) (a : Nat) (wr : Bool) (lk : LockFlag) : Bool :=
  match (List.range 64).find? fun e => entryMatches s t e m secure a with
  | none => false
  | some e =>
    let w := tableWord s.tables t e 0
    (if wr then w.bit 7 else w.bit 8) && (lk ≠ .start || w.bit 6)

/-- A write to a word of an access table: entry 0 ignores it, the others go to the shadow (R136). -/
def tableWrite (a : Nat) (v : Word) (s : State) : State :=
  let off := (a - 0x9B000) % 0xC0
  if off < 3 then s
  else
    let v := if off % 3 = 0 then v &&& 0xFFFE0 else v
    { s with shadow := Sparse.set (fun _ => 0) s.shadow a v }

/-- SHADOW_DIRTY (R136). -/
def shadowDirty (s : State) : Bool := decide (s.shadow ≠ s.tables)

/-- A write of ARB_CTL.COMMIT (R136). -/
def commitTables (s : State) : State := { s with commitPend := true }

/-- At a ply boundary, a commit makes the shadow the tables in use and is recorded (R136, R545). -/
def takeCommit (s : State) : State :=
  if s.commitPend then
    laneRecord ⟨2, 3, 0x9BE00, 0, 0⟩ { s with tables := s.shadow, commitPend := false }
  else s

/-! ### Masters and fixed checks (R128, R134, R444, R541) -/

/-- The secure attribute of a master (R128, R261). -/
def masterSecure (s : State) (m : Nat) : Bool :=
  if m < 24 then !(s.core m).localProg else if m < 28 then (s.dma (m - 24)).secure
  else m = 28 || m = 30

/-- MBX_CFG[k] as it reads: the host end of a host-facing channel follows SECURE (R457). -/
def mbxCfg (s : State) (k : Nat) : Word :=
  let w := s.copyReg (0x9AC00 + 8 * k)
  let host := if w.bit 18 then 28 else 29
  if k < 32 then w else if k < 40 then w.put 16 12 host else w.put 11 7 host

/-- Sender of channel `k`. -/
def mbxSender (s : State) (k : Nat) : Nat := (mbxCfg s k).field 16 12

/-- Receiver of channel `k`. -/
def mbxReceiver (s : State) (k : Nat) : Nat := (mbxCfg s k).field 11 7

/-- Channel `k` is enabled. -/
def mbxOn (s : State) (k : Nat) : Bool := (mbxCfg s k).bit 19

/-- A mailbox rule refuses the request (R444, R445). -/
def mbxRefuses (s : State) (m : Nat) (secure : Bool) (a : Nat) (wr : Bool) : Bool :=
  let closed := fun k => (mbxCfg s k).bit 18 && !secure
  if a < 0x9AC00 then
    let k := (a - 0x9A000) / 64
    closed k || !(decide (m = mbxReceiver s k) || secure)
  else if a < 0x9AD80 then
    let k := (a - 0x9AC00) / 8
    closed k ||
    match a % 8 with
    | 1 | 2 => decide (m ≠ mbxSender s k) || (wr && !mbxOn s k)
    | 3 => wr && decide (m ≠ mbxSender s k)
    | 4 => wr && decide (m ≠ mbxReceiver s k)
    | 7 => decide (m ≠ mbxReceiver s k) || (wr && !mbxOn s k)
    | _ => false
  else if 0x9AE00 ≤ a ∧ a < 0x9AF80 then
    let k := (a - 0x9AE00) / 8
    closed k || decide (m ≠ mbxSender s k) || (wr && !mbxOn s k)
  else false

/-- SCO_LOG[c] is written by core `c` alone (R541). -/
def logRefuses (m a : Nat) (wr : Bool) : Bool :=
  wr && decide (0x9C040 ≤ a) && decide (a < 0x9C0A0) && decide (m ≠ (a - 0x9C040) / 4)

/-- A master's write to its own ARB_SWIN, which no table governs (R150). -/
def ownSwin (m a : Nat) (wr : Bool) : Bool := wr && a = 0x9BE40 + m && decide (m < 32)

/-- A write to the ARB_SWIN of another master, by other than a secure firmware core (R150). -/
def swinRefuses (s : State) (m a : Nat) (wr : Bool) : Bool :=
  wr && decide (0x9BE40 ≤ a) && decide (a < 0x9BE60) && a ≠ 0x9BE40 + m && !(decide (m < 24) && masterSecure s m)

/-- The access registers that a secure master alone writes: ACC_DOOR_DI, ACC_SESS_CFG, the tokens and relays, and the
drive-enable controls (R328). -/
def accSecure (a : Nat) : Bool :=
  a = 0x88005 || a = 0x88006 || (decide (0x88010 ≤ a) && decide (a < 0x88020)) || a = 0x88021 || a = 0x88023

/-- The checks that refuse a request whatever its table says (R134, R150, R328, R444, R541). -/
def fixedRefuses (s : State) (t m : Nat) (secure : Bool) (a : Nat) (wr : Bool) : Bool :=
  (wr && !secure && (t = 11 || t = 13 || t = 15 || t = 16) && !ownSwin m a wr) || (t = 17 && !secure) ||
    (laneLocal a && !secure && decide (m < 28)) || (m = 31 && !s.sup.dbgEn) || (t = 10 && mbxRefuses s m secure a wr) ||
    logRefuses m a wr || swinRefuses s m a wr || (wr && !secure && accSecure a)

/-- What the Board answers to a request before any arbiter sees it. -/
inductive Verdict where
  | ok
  /-- A reserved range or the core-local view (R123, R124). -/
  | range
  | refused
deriving DecidableEq, Repr

/-- The verdict on a request (R123 to R136, R150). -/
def verdict (s : State) (m : Nat) (secure : Bool) (a : Nat) (wr : Bool) (lk : LockFlag) : Verdict :=
  match targetOf a with
  | none => .range
  | some t =>
    if fixedRefuses s t m secure a wr then .refused
    else if ownSwin m a wr || tableGrants s t m secure a wr lk then .ok
    else .refused

/-! ### Refusals (R137 to R139) -/

/-- A refusal is counted for its target's record of the ply (R139); a SCO_LOG write has a record of its own (R541).
Debug's are never recorded (R545). -/
def refuseAccess (m a : Nat) (wr : Bool) (v : Word) (s : State) : State :=
  match targetOf a with
  | none => s
  | some t =>
    if m = 31 then s
    else if logRefuses m a wr then writeRefused m a v s
    else
      let c := match s.ply.refusals.find? fun p => p.1 = t with
        | some p => { p.2 with count := p.2.count + 1 }
        | none => ⟨1, m, a⟩
      { s with ply := { s.ply with refusals := Sparse.put s.ply.refusals t c } }

/-- The records of the refusals of a ply, by target (R139, R545). -/
def refusalRecords (s : State) : List RecDraft :=
  s.ply.refusals.map fun p => ⟨2, 1, Word.ofN p.2.addr, Word.ofN (p.2.master * 2 ^ 15 + satTo 0x7FFF p.2.count), Word.ofN p.1⟩

/-- KW_STATUS of core `c`. -/
def kwStatusAddr (c : Nat) : Nat := 0x9D101 + 8 * c

/-- A program stop (R503); one at a ply boundary leaves FLAGS of the latest run in KW_STATUS (R511). -/
def stopProgram (c cause bundle : Nat) (s : State) : State :=
  let s := s.modCore c fun k =>
    { k with
      state := .stopped, cause := cause, lastFlags := if cause = 1 ∨ cause = 2 then k.lastFlags else k.flags, done := true, lastUsed := k.used,
      usedMax := max k.usedMax k.used, stops := if cause = 1 ∨ cause = 2 then k.stops else satTo 0x3FF (k.stops + 1) }
  laneRecord ⟨0x0D, 1, Word.ofN (kwStatusAddr c), Word.ofN (c * 2 ^ 15 + cause), Word.ofN bundle⟩ s

/-- A refused access of a core: a load reads 0, and ACC is set (R137). -/
def refuseLoad (c : Nat) (wr : Bool) (s : State) : State :=
  s.modCore c fun k => { k with data := if wr then k.data else 0, flags := k.flags.setBit 4 true }

/-- The results of a refused access for a core: those of the access, and the stop of a local program (R137, R504). -/
def refuseCore (c : Nat) (wr : Bool) (s : State) : State :=
  let k := s.core c
  let s := refuseLoad c wr s
  if k.localProg && k.state = .running then stopProgram c 4 k.pc s else s

/-! ### Arbiters and locks (R140 to R145) -/

/-- The arbiter of an address: one for each bank of SRAM, then one for each target. -/
def arbIndex (t bank : Nat) : Nat := if t = 0 then bank % 8 else 7 + t

/-- Bank of a Board SRAM address. -/
def sramBank (a : Nat) : Nat := (a - 0x20000) / 0x8000

/-- Cycles for which an access occupies its target (R496). -/
def occupancy (t : Nat) : Nat := if t ≤ 1 then 1 else 12

/-- Arbiter `i` of a lane. -/
def LaneSt.arb (g : LaneSt) (i : Nat) : Arb := Sparse.get (fun _ => Arb.reset) g.arbs i
/-- Replace arbiter `i`. -/
def LaneSt.setArb (g : LaneSt) (i : Nat) (x : Arb) : LaneSt := { g with arbs := Sparse.set (fun _ => Arb.reset) g.arbs i x }
/-- The lock of target `t` in a lane. -/
def LaneSt.lock (g : LaneSt) (t : Nat) : TargetLock := Sparse.get (fun _ => TargetLock.reset) g.locks t
/-- Replace the lock of target `t`. -/
def LaneSt.setLock (g : LaneSt) (t : Nat) (x : TargetLock) : LaneSt :=
  { g with locks := Sparse.set (fun _ => TargetLock.reset) g.locks t x }
/-- The counters of target `t` and master `m`. -/
def LaneSt.counter (g : LaneSt) (t m : Nat) : ArbCounters := Sparse.get (fun _ => ArbCounters.reset) g.counters (32 * t + m)
/-- Replace the counters of target `t` and master `m`. -/
def LaneSt.setCounter (g : LaneSt) (t m : Nat) (x : ArbCounters) : LaneSt :=
  { g with counters := Sparse.set (fun _ => ArbCounters.reset) g.counters (32 * t + m) x }

/-- One more grant after a wait of `w` cycles (R145). -/
def ArbCounters.grant (w : Nat) (c : ArbCounters) : ArbCounters :=
  { grants := min (2 ^ 60 - 1) (c.grants + 1), waits := min (2 ^ 60 - 1) (c.waits + if w = 0 then 0 else 1),
    longest := max c.longest (min 0xFFFFF w) }

/-- The lock after a granted request (R140, R142, R144). -/
def TargetLock.grant (m : Nat) (lk : LockFlag) (wr : Bool) (x : TargetLock) : TargetLock :=
  let x := if lk = .start ∧ x.owner = none then { x with owner := some m } else x
  if lk = .release ∧ x.owner = some m then { x with owner := none, wrote := false }
  else if wr = true ∧ x.owner = some m then { x with wrote := true } else x

/-- A request of master `m` is granted at a cycle after waiting since `age` (R140, R145). -/
def LaneSt.grant (t i : Nat) (r : BoardReq) (cycle : Nat) (g : LaneSt) : LaneSt :=
  let x := g.arb i
  let g := g.setArb i
    { pointer := (r.master + 1) % 32, queue := x.queue.filter fun q => decide (q.master ≠ r.master),
      busyUntil := cycle + occupancy t, atOnce := none }
  let g := g.setLock t ((g.lock t).grant r.master r.lock r.wr)
  g.setCounter t r.master ((g.counter t r.master).grant (cycle - r.age))

/-- Target `t` can take an access of master `m` in this cycle (R140). -/
def LaneSt.freeFor (t i m cycle : Nat) (g : LaneSt) : Bool :=
  let x := g.lock t
  !x.recovering && decide ((g.arb i).busyUntil ≤ cycle) && (x.owner = none || x.owner = some m)

/-- How far identity `m` stands above the pointer, wrapping (R140). -/
def aheadOf (pointer m : Nat) : Nat := (m + 32 - pointer) % 32

/-- The request that the arbiter grants: the owner's under a lock, else the oldest, and of equals the first from the
pointer upwards (R140). -/
def Arb.pick (x : Arb) (owner : Option Nat) : Option BoardReq :=
  match owner with
  | some o => x.queue.find? fun q => decide (q.master = o)
  | none =>
    x.queue.foldl (fun b q =>
      match b with
      | none => some q
      | some p =>
        if q.age < p.age ∨ (q.age = p.age ∧ aheadOf x.pointer q.master < aheadOf x.pointer p.master) then some q
        else some p) none

/-- Master `m` has a request outstanding at target `t`; all banks of SRAM are one target (R140). -/
def LaneSt.waits (t m : Nat) (g : LaneSt) : Bool :=
  (List.range 8).any fun b => (g.arb (arbIndex t b)).queue.any fun q => decide (q.master = m)

/-- Arbiter `i` of target `t` can grant a request of master `m` at its presentation (R140). -/
def LaneSt.grantsNow (t i m cycle : Nat) (g : LaneSt) : Bool :=
  g.freeFor t i m cycle && ((g.arb i).queue.isEmpty || (g.lock t).owner = some m)

/-- An earlier request of the same cycle that was granted at once, where the scan from the pointer reaches `r` first: the
arbiter as it stood, with that request in its queue (R140). -/
def LaneSt.before (t i : Nat) (r : BoardReq) (g : LaneSt) : Option LaneSt :=
  match (g.arb i).atOnce with
  | none => none
  | some b =>
    if b.req.age = r.age ∧ b.lock.owner = none ∧ aheadOf b.pointer r.master < aheadOf b.pointer b.req.master then
      some (((g.setArb i ⟨b.pointer, b.req :: (g.arb i).queue, b.busyUntil, none⟩).setLock t b.lock).setCounter t b.req.master
        b.counter)
    else none

/-- A permitted request is granted at once or parked with its age, and of those of one cycle the scan decides; the answer says
whether it is granted (R140). -/
def boardPresent (l : Lane) (t a : Nat) (r : BoardReq) (s : State) : Bool × State :=
  let g := s.lane l
  let i := arbIndex t (sramBank a)
  if g.waits t r.master then (false, s)
  else match g.before t i r with
    | some b => (true, s.setLane l (b.grant t i r r.age))
    | none =>
      if g.grantsNow t i r.master r.age then
        let x := g.arb i
        let h := g.grant t i r r.age
        let b : AtOnce := ⟨r, x.pointer, x.busyUntil, g.lock t, g.counter t r.master⟩
        (true, s.setLane l (h.setArb i { h.arb i with atOnce := some b }))
      else (false, s.setLane l (g.setArb i { g.arb i with queue := (g.arb i).queue ++ [r] }))

/-- Target `t` is locked to another master than `m`, or recovers, in lane `l` (R142). -/
def lockedOut (s : State) (l : Lane) (t m : Nat) : Bool :=
  let x := (s.lane l).lock t
  x.recovering || (x.owner.isSome && x.owner ≠ some m)

/-- An access that is made as part of its row or transfer takes its grant with no wait, at a cycle in which its target is
free: the lanes that compute count it (R140, R145). DEDUCED, assumption log 30. -/
def LaneSt.countGrant (t i m : Nat) (wr : Bool) (g : LaneSt) : LaneSt :=
  let g := g.setArb i { g.arb i with pointer := (m + 1) % 32, atOnce := none }
  let g := g.setLock t ((g.lock t).grant m .none wr)
  g.setCounter t m ((g.counter t m).grant 0)

/-- An access of master `m` at address `a` is counted in the lanes `ls`. -/
def countAccess (ls : List Lane) (m a : Nat) (wr : Bool) (s : State) : State :=
  match targetOf a with
  | some t => ls.foldl (fun s l => s.modLane l (LaneSt.countGrant t (arbIndex t (sramBank a)) m wr)) s
  | none => s

/-- The lanes whose own values a read or a host write touches: those that compute the ply (R77, R109). -/
def computing (s : State) : List Lane := [Lane.white, .black].filter fun l => (s.lane l).inStep

/-- The lane whose own values the shared work uses: the active one, White where there is none. DEDUCED, assumption log
28. -/
def viewLane (s : State) : Lane := (activeLane s).getD .white

/-- Master `m` has a request parked in a lane. -/
def LaneSt.parked (m : Nat) (g : LaneSt) : Bool := g.arbs.any fun p => p.2.queue.any fun q => decide (q.master = m)

/-- A request is presented in the lane that the model shows and, where it computes the ply too, in the other: the answer is
the shown lane's (R140, R141). -/
def presentBoth (t a : Nat) (r : BoardReq) (s : State) : Bool × State :=
  let l := viewLane s
  let s := if (s.lane (otherLane l)).inStep then (boardPresent (otherLane l) t a r s).2 else s
  boardPresent l t a r s

/-- The lane clock cycle of work cycle `t` of the present ply, from the power-up of the time base (R86, R140).
DEDUCED, assumption log 30. -/
def laneCycle (s : State) (t : Nat) : Nat :=
  if s.pwr.clk then s.ply.boundary * 5 / 2 + 3000 + t else s.ply.boundary + 1200 + t

/-- A target that an access of master `m` would wait for: another master has locked it, it recovers, or a request of the same
master waits there already (R140, R142). -/
def waitsFor (s : State) (m a : Nat) : Bool :=
  match targetOf a with
  | some t => lockedOut s (viewLane s) t m || (s.lane (viewLane s)).waits t m
  | none => false

/-- An access of a DMA engine or of the host step is parked at the arbiter of its target, with its age (R140, R142). -/
def parkAccess (m a : Nat) (wr : Bool) (t : Nat) (s : State) : State :=
  match targetOf a with
  | some tg => (presentBoth tg a ⟨m, laneCycle s t, .none, wr, none⟩ s).2
  | none => s

/-- One decision of an arbiter: the request granted, if any (R140). -/
def arbDecide (l : Lane) (t bank cycle : Nat) (s : State) : Option BoardReq × State :=
  let g := s.lane l
  let i := arbIndex t bank
  if (g.lock t).recovering || decide (cycle < (g.arb i).busyUntil) then (none, s)
  else match (g.arb i).pick (g.lock t).owner with
    | none => (none, s)
    | some r => (some r, s.setLane l (g.grant t i r cycle))

/-- The writes of master `m` to tiles in the present ply that phase C has not emitted leave the ply (R144). -/
def dropTileWrites (m : Nat) (s : State) : State :=
  let mine := s.ply.writes.filter fun p => decide (p.1 = m) && decide (targetOf p.2.1 = some 2)
  let cmds := mine.foldl (fun cs p => cs.eraseP fun c => decide (c.2 = Content.write (Word.ofN p.2.1) p.2.2)) s.ply.cmds
  { s with ply := { s.ply with
      cmds := cmds, writes := s.ply.writes.filter fun p => !(decide (p.1 = m) && decide (targetOf p.2.1 = some 2)) } }

/-- The compose windows of sender `m` are cleared (R144, R450, R451). -/
def clearCompose (m : Nat) (s : State) : State :=
  (List.range 48).foldl (fun s k =>
    if mbxSender s k = m then s.clearCopy (0x9AE00 + 8 * k, 0x9AE07 + 8 * k) else s) s

/-- The partly written frames of master `m` are discarded (R144, R376). -/
def dropFrames (m : Nat) (s : State) : State :=
  (List.range 28).foldl (fun s b =>
    if (s.bus b).part = some m then
      ((s.modBus b fun x => { x with part := none }).setCopy (busqAddr b 0) 0).setLive (busqAddr b 0) 0
    else s) s

/-- What the recovery of an abandoned lock undoes, and whether it lasts: `wrote` says that the owner wrote under it (R144).
What the recovery of XLINK, NVM and SEC undoes lies inside those units, but that a state transfer resends its words.
DEDUCED, assumption log 31. -/
def recoverLock (t m : Nat) (wrote : Bool) (s : State) : Bool × State :=
  match t with
  | 2 => (s.ply.writes.any fun p => decide (p.1 = m) && decide (targetOf p.2.1 = some 2), dropTileWrites m s)
  | 8 => ((List.range 28).any fun b => decide ((s.bus b).part = some m), dropFrames m s)
  | 10 => (decide ((clearCompose m s).copy ≠ s.copy), clearCompose m s)
  | 11 => (shadowDirty s, { s with shadow := s.tables })
  | 14 => (wrote, s)
  | 16 => (wrote, s)
  | 17 => (wrote, s)
  | _ => (false, s)

/-- The lock of master `m` at target `t` is abandoned in those of the lanes `ls` where it is held: it is released and reported,
and recovery begins in each of them, from the same work that is to be undone (R144, R545). -/
def abandonIn (ls : List Lane) (m t : Nat) (s : State) : State :=
  let held := ls.filter fun l => decide (((s.lane l).lock t).owner = some m)
  if held.isEmpty then s
  else
    let undone := held.any fun l =>
      let x := (s.lane (otherLane l)).lock t
      x.recovering && x.abandonedId = m
    let r := recoverLock t m (held.any fun l => ((s.lane l).lock t).wrote) s
    let s := held.foldl (fun s l => s.modLane l fun g =>
      g.setLock t { owner := none, abandoned := true, abandonedId := m, recovering := r.1 || undone, wrote := false }) r.2
    if held.any fun l => decide ((s.lane l).role = .active) then laneRecord ⟨2, 2, Word.ofN (0x9BE10 + t), Word.ofN m, Word.ofN t⟩ s
    else s

/-- A lock of lane `l` is abandoned, whoever holds it (R144). -/
def abandonLock (l : Lane) (t : Nat) (s : State) : State :=
  match ((s.lane l).lock t).owner with
  | none => s
  | some m => abandonIn [l] m t s

/-- Every lock of master `m` in the lanes `ls` is abandoned (R144). -/
def abandonLocksIn (ls : List Lane) (m : Nat) (s : State) : State :=
  (List.range 18).foldl (fun s t => abandonIn ls m t s) s

/-- Every lock of master `m` is abandoned, in both lanes. -/
def abandonLocks (m : Nat) (s : State) : State := abandonLocksIn [.white, .black] m s

/-- A host identity holds a lock. -/
def hostLocked (s : State) : Bool :=
  [s.white, s.black].any fun g => g.locks.any fun p => decide (p.2.owner = some 28) || decide (p.2.owner = some 29)

/-- A host session holds no lock beyond its command: what the host identities hold is released (R130). -/
def dropHostLocks (s : State) : State :=
  if hostLocked s then
    s.mapLanes fun g => (List.range 18).foldl (fun g t =>
      if (g.lock t).owner = some 28 ∨ (g.lock t).owner = some 29 then
        g.setLock t { g.lock t with owner := none, wrote := false } else g) g
  else s

/-- Recovery ends (R144). -/
def endRecovery (l : Lane) (t : Nat) (s : State) : State :=
  s.modLane l fun g => g.setLock t { g.lock t with recovering := false }

/-- ARB_LOCK[t] in a lane (R149). For SRAM, PENDING covers the eight banks. -/
def lockWord (g : LaneSt) (t : Nat) : Word :=
  let x := g.lock t
  let n := if t = 0 then ((List.range 8).map fun i => (g.arb i).queue.length).sum else (g.arb (7 + t)).queue.length
  Word.ofN (flagAt x.owner.isSome 19 + x.owner.getD 0 * 2 ^ 14 + flagAt x.abandoned 13 + x.abandonedId * 2 ^ 8 +
    flagAt x.recovering 7 + n % 64)

/-- The counters of target `t` and master `m` are cleared, in both lanes (R147). -/
def clearCounter (t m : Nat) (s : State) : State := s.mapLanes fun g => g.setCounter t m ArbCounters.reset

/-- A write to ARB_CNT_SEL (R147). -/
def cntSelWrite (writer : Nat) (v : Word) (s : State) : State :=
  if 17 < v.field 19 15 then writeRefused writer 0x9BE01 v s
  else
    let s := s.setCopy 0x9BE01 (regWrite 0x9BE01 (s.copyReg 0x9BE01) v)
    let s := if v.bit 9 then clearCounter (v.field 19 15) (v.field 14 10) s else s
    if v.bit 8 then s.mapLanes fun g => { g with counters := [] } else s

/-- The seven counter words of the selected pair (R148). -/
def counterWords (s : State) (g : LaneSt) : List Word :=
  let sel := s.copyReg 0x9BE01
  let c := g.counter (sel.field 19 15) (sel.field 14 10)
  wordsOf c.grants 3 ++ wordsOf c.waits 3 ++ [Word.ofN c.longest]

/-- A read of ARB_GRANTS[0] by master `m` latches the counters for it (R148). -/
def latchCounters (l : Lane) (m : Nat) (s : State) : State :=
  s.modLane l fun g => { g with arbLatch := Sparse.put g.arbLatch m (counterWords s g) }

/-- The latched counter word `i` of master `m` (R148). -/
def latchedCounter (g : LaneSt) (m i : Nat) : Word := (Sparse.get (fun _ => []) g.arbLatch m).getD i 0

/-- ARB_SWIN[m].BANK (R125, R150). -/
def streamBank (s : State) (m : Nat) : Nat := (s.copyReg (0x9BE40 + m)).field 1 0

/-- A write to ARB_SWIN[m] takes effect at once (R150). -/
def swinWrite (m : Nat) (v : Word) (s : State) : State := s.setCopy (0x9BE40 + m) (v &&& 3)

/-- LOCK_ABANDONED (R144). -/
def execLockAbandoned (l : Lane) (t : Fin 18) (s : State) : Host.Outcome State Fault Refusal := .next (abandonLock l t s)

/-- LOCK_RECOVERY_END (R144). -/
def execLockRecoveryEnd (l : Lane) (t : Fin 18) (s : State) : Host.Outcome State Fault Refusal := .next (endRecovery l t s)

/-- ACCESS_TABLE_WRITE (R136). -/
def execAccessTableWrite (t : Fin 18) (e : Fin 64) (w : Fin 3) (v : Word) (s : State) : Host.Outcome State Fault Refusal :=
  .next (tableWrite (tableAddr t e w) v s)

/-- COMMIT (R136). -/
def execCommit (s : State) : Host.Outcome State Fault Refusal := .next (commitTables s)

/-- CLEAR: a write of ARB_CNT_SEL by lane firmware on core 0 with CLEAR = 1 (R147). -/
def execClear (t m : BitVec 5) (s : State) : Host.Outcome State Fault Refusal :=
  .next (cntSelWrite 0 (Word.ofN (t.toNat * 2 ^ 15 + m.toNat * 2 ^ 10 + 2 ^ 9)) s)

/-- CLEAR_ALL: the same with CLEAR_ALL = 1 (R147). -/
def execClearAll (t m : BitVec 5) (s : State) : Host.Outcome State Fault Refusal :=
  .next (cntSelWrite 0 (Word.ofN (t.toNat * 2 ^ 15 + m.toNat * 2 ^ 10 + 2 ^ 8)) s)

/-- ARB_GRANTS_READ (R148). -/
def execArbGrantsRead (l : Lane) (m : Fin 32) (s : State) : Host.Outcome State Fault Refusal := .next (latchCounters l m s)

end Sys2Proof.Machine
end

