-- ==== Sys2Proof/Machine/Mailbox.lean ====
section
/-! DEFINITION. Mailboxes and doorbells (R442 to R462). -/

namespace Sys2Proof.Machine

open Sys2Proof

/-- Register `off` of mailbox channel `k` (R456). -/
def mbxAddr (k off : Nat) : Nat := 0x9AC00 + 8 * k + off

/-- Word `i` of the compose window of channel `k` (R456). -/
def composeAddr (k i : Nat) : Nat := 0x9AE00 + 8 * k + i

/-- A sleeping core wakes with its registers, guards, flags and ports 0 and runs in this ply (R448, R505). -/
def wakeCore (c : Nat) (s : State) : State :=
  s.modCore c fun k =>
    if k.state = .sleeping then
      { Kwask.reset with
        state := .running, localProg := k.localProg, cause := k.cause, lastFlags := k.lastFlags, stops := k.stops,
        resets := k.resets, lastUsed := k.lastUsed, usedMax := k.usedMax, program := k.program, localData := k.localData,
        ctl := k.ctl, done := true }
    else k

/-- The first `n` words of the compose window of channel `k`. -/
def composeWords (s : State) (k n : Nat) : List Word := (List.range n).map fun i => s.copyReg (composeAddr k i)

/-- A message is posted on channel `k`; it takes effect at the next phase A (R445, R446). -/
def postMessage (k : Nat) (ws : List Word) (s : State) : State :=
  { s with mbx := { s.mbx with posts := s.mbx.posts ++ [(k, ws)] } }

/-- A write of MBX_POST by the sender (R445, R458). -/
def postWrite (m k : Nat) (v : Word) (s : State) : State :=
  if 8 < v.field 3 0 then writeRefused m (mbxAddr k 1) v s
  else if v.bit 19 then postMessage k (composeWords s k (v.field 3 0)) s
  else s

/-- Acknowledgements of channel `k` accepted in this ply (R447). -/
def ackedNow (s : State) (k : Nat) : Nat := ((s.mbx.acks.filter fun p => p.1 = k).map (·.2)).sum

/-- An acknowledgement of `n` messages takes effect at the next phase A (R446). -/
def ackMessages (k n : Nat) (s : State) : State :=
  if n = 0 then s else { s with mbx := { s.mbx with acks := s.mbx.acks ++ [(k, n)] } }

/-- A write of MBX_ACK by the receiver: refused beyond 8, and beyond the COUNT of the ply (R447, R461). -/
def ackWrite (m k : Nat) (v : Word) (s : State) : State :=
  let n := v.field 19 16
  if 8 < n ∨ (s.box k).queue.length < n + ackedNow s k then writeRefused m (mbxAddr k 7) v s
  else ackMessages k n s

/-- An effect of this ply on channel `k` waits for the next phase A, so that no read of the ply shows it (R446). DEDUCED, assumption
log 95. -/
def mbxLater (k : Nat) (e : MbxLater) (s : State) : State :=
  { s with mbx := { s.mbx with later := s.mbx.later ++ [(k, e)] } }

/-- An effect that waited is carried out (R446, R458 to R460). -/
def Mbx.apply (b : Mbx) : MbxLater → Mbx
  | .wait on => { b with wait := on }
  | .sstat v =>
    { b with full := b.full && !v.bit 15, aborted := b.aborted && !v.bit 14, stalemate := b.stalemate && !v.bit 13 }
  | .db => { b with db := false }
  | .orphans n => { b with orphans := b.orphans - n }

/-- A write of MBX_SCTL by the sender; WAIT of an inbound host-facing channel cannot be set (R454, R458). -/
def sctlWrite (m k : Nat) (v : Word) (s : State) : State :=
  if 32 ≤ k ∧ k < 40 ∧ v.bit 19 = true then writeRefused m (mbxAddr k 2) v s
  else mbxLater k (.wait (v.bit 19)) s

/-- A write of 1 to the W1C bits of MBX_SSTAT (R459). -/
def sstatWrite (k : Nat) (v : Word) (s : State) : State := mbxLater k (.sstat v) s

/-- A write of 1 to DB in MBX_RSTAT (R460). -/
def rstatWrite (k : Nat) (v : Word) (s : State) : State := if v.bit 12 then mbxLater k .db s else s

/-- A read of MBX_SSTAT takes its ORPHANS away (R459), from the next phase A on. -/
def sstatRead (k : Nat) (s : State) : State :=
  if (s.box k).orphans = 0 then s else mbxLater k (.orphans (s.box k).orphans) s

/-- A later write of MBX_CFG that changes a field is refused (R443). -/
def mbxCfgWrite (m k : Nat) (v : Word) (s : State) : State :=
  if v &&& 0xFFF80 = mbxCfg s k &&& 0xFFF80 then s else writeRefused m (mbxAddr k 0) v s

/-- A write of MBX_CTL: STALE from 0 to 250, from the end of the ply on (R446, R452, R462). -/
def mbxCtlWrite (m : Nat) (v : Word) (s : State) : State :=
  if 250 < v.field 19 12 then writeRefused m 0x9AFF0 v s
  else { s with ply := { s.ply with writes := s.ply.writes ++ [(m, 0x9AFF0, v)] } }

/-- MBX_SSTAT[k] (R459). -/
def sstatWord (b : Mbx) : Word :=
  Word.ofN (b.queue.length % 16 * 2 ^ 16 + flagAt b.full 15 + flagAt b.aborted 14 + flagAt b.stalemate 13 +
    b.discarded % 16 * 2 ^ 9 + satTo 0xFF b.orphans)

/-- MBX_RSTAT[k] (R460). -/
def rstatWord (b : Mbx) : Word :=
  Word.ofN (b.queue.length % 16 * 2 ^ 16 + b.head % 8 * 2 ^ 13 + flagAt b.db 12 + flagAt b.wait 11)

/-- MBX_LEN[k][w] (R460). -/
def lenWord (b : Mbx) (w : Nat) : Word :=
  Word.ofN (((List.range 4).map fun i => ((b.queue.getD (4 * w + i) []).length) % 16 * 2 ^ (4 * i)).sum)

/-- Word `i` of slot `j` of the queue of channel `k` where a queued message has it (R447). -/
def queueWord (b : Mbx) (j i : Nat) : Option Word :=
  match b.queue[(j + 8 - b.head % 8) % 8]? with
  | some ws => ws[i]?
  | none => none

/-! ### Phase A (R446) -/

/-- Step 1: the `n` oldest messages leave; those of a former sender count as orphans (R447, R450). -/
def ackStep (k n : Nat) (s : State) : State :=
  s.modBox k fun b =>
    let n := min n b.queue.length
    let o := min n b.former
    { b with
      queue := b.queue.drop n, head := (b.head + n) % 8, former := b.former - o, orphans := satTo 0xFF (b.orphans + o) }

/-- Step 2: a post enters the queue, or is dropped on a full one; the answer says which (R445, R554). -/
def postStep (k : Nat) (ws : List Word) (s : State) : Bool × State :=
  if 8 ≤ (s.box k).queue.length then
    (false, laneRecord ⟨0x0B, 3, Word.ofN (mbxAddr k 3), Word.ofN k, 0⟩ (s.modBox k fun b => { b with full := true }))
  else (true, s.modBox k fun b => { b with queue := b.queue ++ [ws] })

/-- A reset of a channel's receiver discards its messages (R449). -/
def receiverReset (k : Nat) (s : State) : State :=
  let n := (s.box k).queue.length
  if n = 0 then s.modBox k fun b => { b with discarded := 0 }
  else
    let s := s.modBox k fun b => { b with queue := [], aborted := true, discarded := n, former := 0 }
    laneRecord ⟨0x0B, 2, Word.ofN (mbxAddr k 3), Word.ofN k, Word.ofN n⟩
      { s with mbx := { s.mbx with aborts := satTo 0x3FF (s.mbx.aborts + 1) } }

/-- A reset of a channel's sender leaves its messages as a former sender's (R450). -/
def senderReset (k : Nat) (s : State) : State :=
  (s.clearCopy (composeAddr k 0, composeAddr k 7)).modBox k fun b => { b with wait := false, former := b.queue.length }

/-- Step 3: the mailboxes of a core that is reset (R449, R450). -/
def mbxCoreReset (c : Nat) (s : State) : State :=
  (List.range 48).foldl (fun s k =>
    let s := if mbxReceiver s k = c then receiverReset k s else s
    if mbxSender s k = c then senderReset k s else s) s

/-- Step 4: WAIT is cleared where nothing is pending. -/
def clearWaits (s : State) : State :=
  (List.range 48).foldl (fun s k =>
    if (s.box k).queue.isEmpty && (s.box k).wait then s.modBox k fun b => { b with wait := false } else s) s

/-- Channels `i` and `j` form a pair. -/
def mbxPair (s : State) (i j : Nat) : Bool :=
  mbxOn s i && mbxOn s j && decide (mbxSender s i = mbxReceiver s j) && decide (mbxSender s j = mbxReceiver s i)

/-- Channel `k` waits with messages pending. -/
def mbxWaits (s : State) (k : Nat) : Bool := !(s.box k).queue.isEmpty && (s.box k).wait

/-- The count of a mutual wait that has set STALEMATE: only a new one sets it again (R452). -/
def staleDone : Nat := 1000

/-- Step 5 for one pair: STALEMATE at STALE + 1 consecutive evaluations in mutual wait, once; the answer says so (R452, R554). -/
def stalePair (i j : Nat) (s : State) : Bool × State :=
  let set := fun (n : Nat) (s : State) => s.modBox i fun b => { b with mwait := Sparse.set (fun _ => 0) b.mwait j n }
  if mbxPair s i j && mbxWaits s i && mbxWaits s j then
    let n := Sparse.get (fun _ => 0) (s.box i).mwait j
    if n = staleDone then (false, s)
    else if n < (s.copyReg 0x9AFF0).field 19 12 then (false, set (n + 1) s)
    else
      let s := set staleDone s
      let s := (s.modBox i fun b => { b with stalemate := true }).modBox j fun b => { b with stalemate := true }
      (true, laneRecord ⟨0x0B, 1, Word.ofN (mbxAddr i 3), Word.ofN i, Word.ofN j⟩
        { s with mbx := { s.mbx with stalemates := satTo 0x3FF (s.mbx.stalemates + 1) } })
  else (false, set 0 s)

/-- Step 5: every pair, with the channels whose doorbells it raises. -/
def staleStep (s : State) : List Nat × State :=
  ((List.range 48).flatMap fun i => ((List.range 48).filter (i < ·)).map fun j => (i, j)).foldl
    (fun r p =>
      let q := stalePair p.1 p.2 r.2
      if q.1 then (r.1 ++ [p.1, p.2], q.2) else (r.1, q.2)) ([], s)

/-- Step 6: a doorbell, which wakes a sleeping receiver with DB_WAKE (R448). -/
def ringBell (k : Nat) (s : State) : State :=
  let s := s.modBox k fun b => { b with db := true }
  if (mbxCfg s k).bit 17 && decide (mbxReceiver s k < 24) then wakeCore (mbxReceiver s k) s else s

/-- Lane firmware acknowledges every message on channels 32 to 39 in the ply in which it takes effect; a core that sleeps on
does so once it wakes (R448, R455). -/
def firmwareAcks (s : State) : State :=
  (List.range 8).foldl (fun s h =>
    let k := 32 + h
    if mbxOn s k && decide (mbxReceiver s k < 24) && !(s.core (mbxReceiver s k)).localProg &&
        decide ((s.core (mbxReceiver s k)).state ≠ .sleeping)
    then ackMessages k (s.box k).queue.length s else s) s

/-- Phase A of the mailboxes: the acknowledgements, posts and core resets of the last ply take effect, after what else it did to a
channel's bits (R446). -/
def mbxPhaseA (resets : List Nat) (s : State) : State :=
  let acks := s.mbx.acks
  let posts := s.mbx.posts
  let s := s.mbx.later.foldl (fun s p => s.modBox p.1 fun b => b.apply p.2)
    { s with mbx := { s.mbx with acks := [], posts := [], later := [] } }
  let s := acks.foldl (fun s p => ackStep p.1 p.2 s) s
  let r := posts.foldl (fun (r : List Nat × State) p =>
    let q := postStep p.1 p.2 r.2
    if q.1 then (r.1 ++ [p.1], q.2) else (r.1, q.2)) ([], s)
  let s := resets.foldl (fun s c => mbxCoreReset c s) r.2
  let st := staleStep (clearWaits s)
  firmwareAcks ((r.1 ++ st.1).foldl (fun s k => ringBell k s) st.2)

end Sys2Proof.Machine
end

