-- ==== Sys2Proof/Machine/Lanes.lean ====
section
/-! DEFINITION. The lanes: resets, joining, divergence, castling, and what a command target does with what it receives
(R60 to R64, R77 to R118, R558). -/

namespace Sys2Proof.Machine

open Sys2Proof

/-- An input of lane management with the record that the lanes make of it (R85, R544). DESIGN CHOICE, assumption log
11. -/
def presentLane (code : Nat) (arg0 arg1 : Word) (s : State) : State :=
  present 0x3E [Word.ofN code, arg0, arg1] (.upd [] [⟨1, code, 0x9D000, arg0, arg1⟩]) s

/-! ### Resets (R60, R72) -/

/-- PWR_RESET_CAUSE after a reset: the bit of its cause sets, and LAST takes its code (R72). -/
def causeWord (old : Word) (bit last : Nat) : Word := (old.setBit bit true).put 19 16 last

/-- Bit and LAST code of a lane reset's cause (R72). -/
def laneCauseBits : LaneCause → Nat × Nat
  | .watchdog => (12, 3) | .coreRail => (11, 4) | .ioRail => (10, 5) | .anaRail => (9, 6) | .memory => (8, 7)
  | .coreFault => (7, 8) | .command => (6, 9) | .wake => (4, 0xB) | .update => (3, 0xC) | .sequencer => (2, 0xD)
  | .link => (1, 0xE)

/-- A lane's NVM with the counters it journalled last and its power-fail image since (R222). -/
def LaneSt.storedNvm (g : LaneSt) : Nvm := { g.nvm with life := g.lifeJournal, failImage := g.image }

/-- A lane's state after a lane reset: what the AO domain, NVM and the rails hold stays (R60). -/
def LaneSt.afterReset (bit last : Nat) (g : LaneSt) : LaneSt :=
  { LaneSt.reset (causeWord g.resetCause bit last) g.storedNvm with
    coreOk := g.coreOk, ioOk := g.ioOk, anaOk := g.anaOk, restarted := true, startBlack := g.startBlack,
    image := g.image, barred := g.barred, linkBad := g.linkBad || decide (last = 0xE) }

/-- The lifetime counters that a lane's NVM restores: the journal with the increments of the power-fail image (R221, R222). -/
def restoredLife (n : Nvm) : List (Nat × Life) :=
  n.failImage.foldl (fun m p =>
    let c := Sparse.get (fun _ => Life.zero) m p.1
    Sparse.set (fun _ => Life.zero) m p.1
      { c with
        trips := satTo 0xFFFFF (c.trips + p.2.field 19 8), thermal := satTo 0x3FF (c.thermal + p.2.field 7 4),
        latches := satTo 0x3FF (c.latches + p.2.field 3 0) }) n.life

/-- Registers outside `lo` to `hi`. -/
def dropRange (lo hi : Nat) (m : List (Nat × Word)) : List (Nat × Word) :=
  m.filter fun p => !(decide (lo ≤ p.1) && decide (p.1 ≤ hi))

/-- The state that the lanes compute together, and the controllers that stand in the lanes, when no lane holds it any more
(R60, R500, R540). -/
def clearLaneWork (s : State) : State :=
  { s with
    copy := [], sram := [], measPend := [], comps := [], slots := [], streams := [], dmas := [], dins := [], dinRuns := [],
    tables := [], shadow := [], commitPend := false, host := HostSt.reset, mbx := Mailboxes.reset, cores := [], ring := [],
    ringLost := 0, log := [], ply := Ply.reset, seq := Seq.reset, buses := [], live := dropRange 0x90000 0x97FFF s.live,
    targets := s.targets.filter fun p => decide (p.1 < 15), fab := { s.fab with lastFrame := none, sentAt := 0, gapAt := none } }

/-- Registers that outlast a module reset: the field-supply monitors and the enrolled tokens (R56, R344). -/
def keptLive (m : List (Nat × Word)) : List (Nat × Word) :=
  m.filterMap fun p =>
    if 0x84010 ≤ p.1 ∧ p.1 < 0x84016 then (if p.2 &&& 0xC0000 = 0 then none else some (p.1, p.2 &&& 0xC0000))
    else if 0x88010 ≤ p.1 ∧ p.1 < 0x88020 then some p
    else none

/-- A module reset (R60): every lane, target and unit. The AO domain, NVM and the supplies keep what they hold.
DEDUCED, assumption log 34. -/
def moduleReset (bit last : Nat) (s : State) : State :=
  let s := clearLaneWork s
  let lane := fun (g : LaneSt) => { g.afterReset bit last with restarted := false, barred := false, linkBad := false }
  { s with
    free := s.free + 1,
    white := lane s.white, black := lane s.black, lanes := Lanes.reset, targets := [], chans := [], douts := [], strs := [],
    mxs := [], live := keptLive s.live, fab := { s.fab with calFail := !Config.calOk s.free },
    den := { Den.reset with lastStop := if s.den.state = .running then 4 else 0 },
    acc := { Access.reset with
      tokens := s.acc.tokens, latch := s.acc.latch, records := s.acc.records, lostRecs := s.acc.lostRecs, handles := s.acc.handles,
      heldOff := s.acc.heldOff, doublings := s.acc.doublings, wakeGrant := s.acc.wakeGrant, wakeInside := s.acc.wakeInside, wakeResult := s.acc.wakeResult },
    upd := Upd.reset, updWhite := Upd.reset, updBlack := Upd.reset, maintenance := false,
    pwr := { s.pwr with
      state := .idle, entering := false, point := 0, wakePend := false, upward := none, next := none, journalDone := false,
      committed := false, kept := [], parkDone := false, clk := false, clkReq := false, locked := false, wakeStatus := 0, parkMinutes := 0, held := none,
      autoDeep := false, waking := false, sleeping := [] } }

/-! ### Coverage and castling (R77, R107, R108) -/

/-- Castling ends without a swap: the request is answered with ABORTED and a record is made; after a handover the active lane
claims every target again (R108). -/
def cancelCastle (s : State) : State :=
  match s.lanes.castle with
  | none => s
  | some (req, k) =>
    let a := match activeLane s with | some l => laneWord l | none => 0
    let s := if s.lanes.handed then
        emit ((List.range 45).map fun t => (t, Content.claim 0 s.ply.number 0))
          ((List.range 45).foldl (fun s t => s.modTgt t fun g => { g with handover := none }) s)
      else s
    let s := { s with lanes := { s.lanes with castle := none, handed := false } }
    let s := match req with
      | some p => { s with host := { s.host with owed := s.host.owed ++ [(p, 7, k)] } }
      | none => s
    laneRecord ⟨1, 3, 0x9D000, a, 0⟩ s

/-- A castling is cancelled where coverage has fallen (R108). -/
def checkCastle (s : State) : State := if covered s then s else cancelCastle s

/-- A castling request is processed that was numbered with coverage `cov`; where coverage has fallen since, the castling is
cancelled at once (R107, R108). DEDUCED, assumption log 57. -/
def castleRequest (req : Option CastleReq) (cov : Bool) (s : State) : State :=
  if cov && s.lanes.castle.isNone then
    checkCastle { s with lanes := { s.lanes with castle := some (req, s.ply.number), handed := false } }
  else s

/-- The boundary of ply k + 2: the roles swap (R107). -/
def castleSwap (s : State) : State :=
  match s.lanes.castle, activeLane s with
  | some (req, k), some l =>
    if s.lanes.handed && covered s then
      let s := (s.modLane l fun g => { g with role := .standby }).modLane (otherLane l) fun g => { g with role := .active }
      let s := { s with lanes := { s.lanes with
        castle := none, handed := false, castlings := satTo 0x3FF (s.lanes.castlings + 1) } }
      let s := match req with
        | some p => { s with host := { s.host with owed := s.host.owed ++ [(p, 0, k)] } }
        | none => s
      laneRecord ⟨1, 2, 0x9D000, laneWord (otherLane l), 0⟩ s
    else s
  | _, _ => s

/-! ### Lane reset and withdrawal (R60, R99) -/

/-! ### Replies that the other port takes over (R101, R106, R430) -/

/-- A lane whose port serves requests: it is active or standby (R77). -/
def LaneSt.serving (g : LaneSt) : Bool := !g.stale && (g.role = .active || g.role = .standby)

/-- A frame sent again with REPLAY = 1 on a port (R101, R106, R419): the other port shows its own lane's values. -/
def Frame.again (port : Lane) (f : Frame) : Frame :=
  let mark := fun (ws : List Word) => match ws with | w :: r => w.setBit 13 true :: r | [] => []
  if f.port = port then { f with words := mark f.words, other := mark f.other, replay := true, ahead := true }
  else { f with port := port, words := mark f.other, other := mark f.words, replay := true, ahead := true }

/-- The request of a frame arrived on a port in the 8 plies before a loss of its link was numbered at `t` (R106). -/
def Frame.lostBy (t : Nat) (f : Frame) : Bool := decide (f.time ≤ t) && decide (t ≤ f.time + 160000)

/-- The replies to the requests of those plies, sent or still queued (R106). -/
def lostReplies (s : State) (l : Lane) (t : Nat) : List Frame := ((s.lane l).sent ++ (s.lane l).txq).filter (Frame.lostBy t)

/-- Replies of the port of lane `l` go out again on the other lane's port, ahead of its own (R106, R421). -/
def resendReplies (l : Lane) (fs : List Frame) (s : State) : State :=
  s.modLane (otherLane l) fun g => { g with txq := fs.map (Frame.again (otherLane l)) ++ g.txq }

/-! ### What a lane reset does to an update (R522, R524) -/

/-- The earlier image is ACTIVE again; the rejected one is left in STAGING and FALLBACK is empty (R522, R524). -/
def Areas.revert (a : Areas) : Areas := { active := a.fallback, staging := a.active, fallback := none }

/-- The kinds of image under activation return to the earlier ones in a lane. -/
def revertImages (u : Upd) (g : LaneSt) : LaneSt :=
  { g with nvm := { g.nvm with
      fw := if u.fwReady then g.nvm.fw.revert else g.nvm.fw, cfg := if u.cfgReady then g.nvm.cfg.revert else g.nvm.cfg,
      programs := g.nvm.programs + 1 } }

/-- An activation ends with a RESULT. -/
def endUpdate (phase : UpdPhase) (result : Nat) (s : State) : State :=
  { s with upd := { s.upd with
      phase := phase, result := result, fwReady := false, cfgReady := false, mixed := false, stage := .idle, healthEnd := 0,
      cfg := none, reverting := false } }

/-- An automatic fallback begins; the record tells why (R524, R556). -/
def fallBack (stage : ActStage) (l : Lane) (result : Nat) (s : State) : State :=
  laneRecord ⟨0x0E, 6, 0x9F000, 0, Word.ofN result⟩
    { s with upd := { s.upd with
      phase := .activating, result := result, fellBack := true, mixed := s.upd.mixed || decide (stage = .first), stage := stage,
      reverting := true,
      firstLane := l, healthEnd := 0, cfg := none } }

/-- A lane reset other than for UPDATE, of the lane that runs or boots an unconfirmed image, or is the next to boot it: before it
has resumed service it boots the earlier image and the update ends; later the module falls back (R522, R524). -/
def updLaneReset (l : Lane) (cause : LaneCause) (s : State) : State :=
  if cause = .update ∨ s.upd.reverting = true then s
  else
    match s.upd.stage with
    | .ordered => if s.upd.firstLane = l then endUpdate .failed 9 s else s
    | .first | .castling | .paused =>
      if s.upd.firstLane = l then endUpdate .failed 9 (s.modLane l (revertImages s.upd)) else s
    | .second =>
      if s.upd.firstLane = l then fallBack .first l 9 (s.modLane l (revertImages s.upd)) else s
    | .joining | .health => fallBack .first l 9 (s.modLane l (revertImages s.upd))
    | _ => s

/-- The port of a lane that is reset falls silent: its queue passes to the standby's promotion, or the active lane sends again
what R106 names (R101, R430). -/
def portFails (l : Lane) (s : State) : State :=
  if activeLane s = some l then
    if (s.lane (otherLane l)).role = .standby then { s with lanes := { s.lanes with orphans := (s.lane l).txq } } else s
  else if activeLane s = some (otherLane l) then resendReplies l (lostReplies s l s.now) s
  else s

/-- A lane reset (R60, R63, R144). The state that both lanes compute stays with the other lane while it is in step, or while
it is the standby that may promote. -/
def laneReset (l : Lane) (cause : LaneCause) (s : State) : State :=
  let c := laneCauseBits cause
  let s := portFails l (updLaneReset l cause s)
  let s := s.modLane l (LaneSt.afterReset c.1 c.2)
  let s := { s with lanes := { s.lanes with linkFailed := if s.lanes.linkFailed = some l then none else s.lanes.linkFailed } }
  let s := { s with
    free := s.free + 1,
    buses := s.buses.map fun p =>
      if p.2.tx = l then p else (p.1, { p.2 with faulty := p.2.faulty && !Config.busCheck s.free p.1 }) }
  let s := abandonLocksIn [otherLane l] 30 s
  let o := s.lane (otherLane l)
  checkCastle (if o.inStep then s else clearLaneWork s)

/-- Cause codes 1 to 5 of R544. -/
def withdrawCode : WithdrawCause → Nat
  | .coreFault => 1 | .memory => 2 | .sequencer => 3 | .link => 4 | .command => 5

/-- The lane reset that a withdrawal takes (R60, R99). -/
def withdrawReset : WithdrawCause → LaneCause
  | .coreFault => .coreFault | .memory => .memory | .sequencer => .sequencer | .link => .link | .command => .command

/-- A lane withdraws and takes a lane reset (R99). -/
def withdrawLane (l : Lane) (cause : WithdrawCause) (s : State) : State := laneReset l (withdrawReset cause) s

/-- A lane that receives SUPERSEDED withdraws at once, and reads ISOLATED on restart (R102). -/
def supersede (l : Lane) (s : State) : State :=
  let bad := (s.lane l).linkBad
  let s := laneReset l .link s
  presentLane 0x00E (laneWord l) 0 (s.modLane l fun g => { g with isolated := true, linkBad := bad })

/-! ### Joining (R109 to R111) -/

/-- A record of a joining stage (R544). -/
def stageRecord (l : Lane) (stage : Nat) (s : State) : State := presentLane 0x006 (laneWord l) (Word.ofN stage) s

/-- A lane becomes OUT, with the reason of R544. -/
def laneOut (l : Lane) (why : Nat) (s : State) : State :=
  presentLane 0x009 (laneWord l) (Word.ofN why)
    (s.modLane l fun g => { g with role := .out, joinStage := 0, probation := 0, cutOver := none, boot := .started })

/-- A lane enters a joining stage. -/
def enterStage (l : Lane) (stage : Nat) (s : State) : State :=
  stageRecord l stage (s.modLane l fun g => { g with role := .joining, joinStage := stage, probation := 0, cutOver := none })

/-- A lane that an activation has restarted on its new image joins in spite of its identity (R520, R524). -/
def updateJoins (s : State) (l : Lane) : Bool := s.upd.stage = .first && s.upd.firstLane = l

/-- Stage 2: the identities are compared, and the transfer begins or the lane becomes OUT (R109). -/
def joinIdentity (l : Lane) (s : State) : State :=
  let s := enterStage l 2 s
  let g := s.lane l
  let o := s.lane (otherLane l)
  if (g.imageId = o.imageId ∧ g.cfgDigest = o.cfgDigest) ∨ updateJoins s l = true then enterStage l 3 s
  else laneOut l 1 s

/-- Joining may begin: the other lane is active, and neither DIV_LOCK nor three abandoned transfers nor the start check of its
links hold the lane out (R98, R109, R111, R112). While JOIN_EN reads 0 the lane waits in stage 3 (R111). DEDUCED, assumption
log 23. -/
def mayJoin (s : State) (l : Lane) : Bool :=
  activeLane s = some (otherLane l) && !s.lanes.divLock && !(s.lane l).barred && !(s.lane l).linkBad

/-- A lane that is ready at M11 begins joining (R63, R109). -/
def beginJoin (l : Lane) (s : State) : State :=
  if mayJoin s l then joinIdentity l (s.modLane l fun g => { g with joinTries := 0, boot := .started }) else s

/-- The transfer is abandoned short of its cut-over: a retry follows, or after three attempts the lane becomes OUT (R111). -/
def abandonJoin (l : Lane) (s : State) : State :=
  if (s.lane l).joinStage ≠ 3 ∧ (s.lane l).joinStage ≠ 4 then s
  else
    let n := (s.lane l).joinTries + 1
    let s := s.modLane l fun g => { g with joinTries := n, joinStage := 3, cutOver := none, probation := 0, barred := decide (3 ≤ n) }
    let s := presentLane 0x008 (laneWord l) (Word.ofN n) s
    if 3 ≤ n then laneOut l 2 { s with lanes := { s.lanes with retry := false } }
    else { s with lanes := { s.lanes with retry := true } }

/-- The lane in transfer or cut-over. -/
def joiningLane (s : State) : Option Lane := laneIn s .joining

/-- The standby of a divergence resynchronises without a lane reset, or after a third within 60 minutes is held OUT (R98). -/
def diverge (component : Nat) (s : State) : State :=
  match standbyLane s with
  | none => s
  | some l =>
    let times := s.clock :: s.lanes.divTimes.filter fun t => decide (s.clock < t + 360000000000)
    let n := satTo 0xF (s.lanes.diverges + 1)
    let s := { s with lanes := { s.lanes with diverges := n, divTimes := times.take 3 } }
    let s := laneRecord ⟨1, 4, 0x9D000, laneWord l ||| Word.ofN component, Word.ofN n⟩ s
    let s :=
      if 3 ≤ times.length then
        laneOut l 3 (laneRecord ⟨1, 5, 0x9D000, laneWord l, 0⟩ { s with lanes := { s.lanes with divLock := true } })
      else joinIdentity l (s.modLane l fun g => { g with joinTries := 0 })
    checkCastle s

/-- DIV_UNLOCK: DIV_LOCK clears, and the held-out lane begins joining, once it has started where it is in a lane reset (R63, R98,
R116). -/
def divUnlock (s : State) : State :=
  if s.lanes.divLock then
    let s := { s with lanes := { s.lanes with divLock := false } }
    match activeLane s with
    | some l =>
      if (s.lane (otherLane l)).role = .out ∧ (s.lane (otherLane l)).boot = .started then beginJoin (otherLane l) s else s
    | none => s
  else s

/-- JOIN_EN is written: while it reads 0 a joining lane is held in stage 3, short of cut-over, and 0 then 1 lets an
OUT lane join (R111, R116). DEDUCED, assumption log 23. -/
def joinEnWrite (v : Bool) (s : State) : State :=
  let was := s.lanes.joinEn
  let s := { s with lanes := { s.lanes with joinEn := v } }
  let s := if v && !was then s.mapLanes fun g => { g with barred := false } else s
  match activeLane s with
  | none => s
  | some a =>
    let l := otherLane a
    if v && !was && decide ((s.lane l).role = .out) && decide ((s.lane l).boot = .started) then beginJoin l s
    else if !v && decide ((s.lane l).role = .joining) && decide (4 ≤ (s.lane l).joinStage) then enterStage l 3 s
    else s

/-- LANE_CTL.CASTLE is presented as an input (R107). -/
def castleInput (s : State) : State := present 0x3E [0x00002] (.castle false) s

/-- A write to LANE_CTL by lane firmware (R116). -/
def laneCtlWrite (m : Nat) (v : Word) (s : State) : State :=
  let w := v.field 13 8
  let s := if w < 2 ∨ 50 < w then writeRefused m 0x9D001 v s else { s with lanes := { s.lanes with wdt := w } }
  let s := if v.bit 17 then divUnlock s else s
  let s := joinEnWrite (v.bit 18) s
  if v.bit 19 then castleInput s else s

/-- PWR_START_STATUS of a lane as it takes or is refused its part in a start (R73). LANE_ID is added where it is read.
DEDUCED, assumption log 21. -/
def setStartStatus (l : Lane) (active peer solo : Bool) (ms : Nat) (s : State) : State :=
  s.modLane l fun g =>
    let old := g.startStatus
    { g with startStatus := Word.ofN (flagAt active 18 + flagAt peer 17 + flagAt solo 16 + flagAt g.startBlack 15 +
        flagAt (old.bit 14) 14 + g.slot % 4 * 2 ^ 12 + flagAt g.imgFail 11 + flagAt (g.cfgDefault || s.maintenance) 10 +
        flagAt (old.bit 9) 9 + flagAt (old.bit 8 || s.seq.epochEnd) 8 + satTo 0xFF ms) }

/-- Sixteen matching digests: the lane is standby and coverage is restored (R109). -/
def joined (l : Lane) (s : State) : State :=
  let s := s.modLane l fun g =>
    { g with role := .standby, joinStage := 0, probation := 0, joinTries := 0, cutOver := none, lifeJournal := s.life,
             image := [], restarted := false }
  let s := setStartStatus l false true false 0 s
  laneRecord ⟨1, 7, 0x9D000, laneWord l, 0⟩ { s with lanes := { s.lanes with retry := false } }

/-- A path goes down, with its record; no path left ends coverage (R96, R108). -/
def pathState (p : Path) (up : Bool) (s : State) : State :=
  let arg : Word := match p with | .xa => 0 | .xb => 1
  let s := match p with
    | .xa => { s with lanes := { s.lanes with xa := up } }
    | .xb => { s with lanes := { s.lanes with xb := up } }
  checkCastle (presentLane (if up then 0x00D else 0x00C) arg 0 s)

/-! ### Command targets (R89 to R94, R558) -/

/-- The registers of a unit that a claim or restore sequence configures (R64, R166, R286, R320, R558). -/
def configOf (t a : Nat) : Bool :=
  if t < 11 then
    let r := tileRange t
    (decide (r.1.1 ≤ a) && decide (a ≤ r.1.2)) || (decide (r.2.1 ≤ a) && decide (a ≤ r.2.2))
  else if t = fioT then decide (0x84000 ≤ a) && decide (a < 0x86000)
  else if t = lgtT then decide (0x86000 ≤ a) && decide (a < 0x88000)
  else if t = accT then decide (0x88000 ≤ a) && decide (a < 0x88010)
  else if t = denT then a = 0x88023
  else if t < 31 then decide (canAddr (t - 15) 0 ≤ a) && decide (a < canAddr (t - 14) 0)
  else if t < 39 then decide (linAddr (t - 31) 0 ≤ a) && decide (a < linAddr (t - 30) 0)
  else if t < 43 then decide (tsAddr (t - 39) 0 ≤ a) && decide (a < tsAddr (t - 38) 0)
  else false

/-- The lanes' copy of a register, with KIND and PARTNER of CH_GROUP as the configuration image set them (R192, R557). -/
def configWord (s : State) (a : Nat) : Word :=
  let v := s.copyReg a
  if 0x80000 ≤ a ∧ a < 0x81600 ∧ a % 32 = 7 then
    v.put 19 10 ((Sparse.get (fun _ => 0) s.lanes.groups ((a - 0x80000) / 32)).field 19 10)
  else v

/-- The RW fields of a target's registers take the lanes' copy, those at their reset values too: the restore sequence of
R64. -/
def restoreRegs (t : Nat) (s : State) : State :=
  let keys := ((s.copy ++ s.live).map (·.1)).filter (configOf t)
  keys.foldl (fun s a =>
    let rw := Word.ofN (regInfo a).rw
    let v := configWord s a
    let s := if v = s.copyReg a then s else s.setCopy a v
    s.setLive a ((s.liveReg a &&& ~~~rw) ||| (v &&& rw))) s

/-- The configuration that M10 or K10 writes to a target that a tile reset or start has cleared, and a claim to a bus (R65,
R208, R558). -/
def restoreTarget (t : Nat) (s : State) : State :=
  let s := restoreRegs t s
  if t < 11 then (List.range 16).foldl (fun s k => startWire (16 * t + k) s) s
  else if 15 ≤ t ∧ t < 43 then busConfigured (t - 15) s
  else s

/-- The records of the lanes when a claim takes over a silent unit or ends a tile's wait (R64, R166, R544, R547). -/
def claimRecords (t : Nat) (l : Lane) (g : Target) : List RecDraft :=
  (if g.silent then [⟨1, 0x010, 0x9D000, laneWord l, Word.ofN (sourceOf t)⟩] else []) ++
    (if g.restoreWait then
      [⟨4, 0x001, Word.ofN (tileAddr t 0), Word.ofN g.lastReset, Word.ofN g.resets⟩,
        ⟨4, 0x003, Word.ofN (tileAddr t 0), Word.ofN t, 0⟩] else [])

/-- What the unit behind target `t` shows the lanes beside its entries (R154). -/
def unitWords (t : Nat) (s : State) : List (Nat × Word) :=
  if t < 11 then tileWords t s else if t = fioT then fioWords s else if t = lgtT then lgtWords s
  else if t = accT ∨ t = denT then accWords s else []

/-- A tile or unit presents its reports with its present words; the drive-enable generator's are the access unit's. -/
def presentUnit (t : Nat) (all : Bool) (s : State) : State :=
  let s := if all && decide (t = denT) then presentShadow denT s else s
  presentReport (if t = denT then accT else t) all (unitWords t s) s

/-- What a claim makes the unit behind target `t` do, and its full report (R166, R184, R286, R320). -/
def claimUnit (t : Nat) (l : Lane) (s : State) : State :=
  if t < 11 then
    presentUnit t false (fullTileReport t ((List.range 16).foldl (fun s k => claimChan (16 * t + k) s) s))
  else if t = fioT then presentUnit t false (fioClaim s)
  else if t = lgtT then presentUnit t false (lgtClaim s)
  else if t = accT then presentUnit t false (accClaim s)
  else if t = denT then presentUnit t false (denClaim s)
  else if t < 43 then
    let s := busClaim (t - 15) l s
    presentBus (t - 15) [Word.ofN (3 * 2 ^ 16), busStatus (t - 15) (s.bus (t - 15))] [] s
  else s

/-- A target accepts a claim of lane `l` that names the lowest stamp it will send; a target without a claimant, a tile
that waits, and with `restore` a silent target also take the restore sequence with count `count`, and a tile that waits takes no
other claim; the wire models start after a
reset of the tile alone, since M10 or the wake has set them otherwise (R64, R101, R166, R208, R472, R558). DEDUCED,
assumption log 65. -/
def acceptClaim (t : Nat) (l : Lane) (restore : Bool) (count ply idx : Nat) (s : State) : State :=
  if (s.lane l).stale || (!restore && (s.tgt t).restoreWait) then s
  else
    let g := s.tgt t
    let first := g.claimed.isNone || g.restoreWait
    let fresh := first || (restore && g.silent)
    let asleep := s.pwr.sleeping.contains t && decide (t < 11)
    let s := if asleep then s
      else if g.restoreWait || (first && decide (15 ≤ t)) then restoreTarget t s
      else if fresh then restoreRegs t s else s
    let s := { s with sup := { s.sup with tileLow := s.sup.tileLow.filter (· ≠ t) } }
    let s := if asleep then { s with pwr := { s.pwr with sleeping := s.pwr.sleeping.filter (· ≠ t) } } else s
    let s := s.setTgt t
      { g with
        claimed := some l, last := if fresh then count else g.last, stampPly := ply,
        stampIdx := if fresh then idx + 1 else idx, silent := false, timedOut := false, restoreWait := false, parked := false,
        handover := none, shadows := [], shadowDue := none, lastSign := s.clock, recs := g.recs ++ claimRecords t l g }
    claimUnit t l s

/-- A write as the target applies it. -/
def targetWrite (t a : Nat) (v : Word) (s : State) : State :=
  if t < 11 then (if tileAccepts s t then tileApply a v s else s)
  else if t = fioT then (if fioAccepts s then fioApply a v s else s)
  else if t = lgtT then (if lgtAccepts s then lgtApply a v s else s)
  else if t = accT then (if accAccepts s then accApply a v s else s)
  else if t = denT then (if denAccepts s then denApply a v s else s)
  else if t < 43 then (if busAccepts s (t - 15) then busApply a v s else s)
  else s

/-- A ply close at the target: its reports are presented (R92, R184). -/
def targetClose (t : Nat) (s : State) : State :=
  if t < 15 then presentUnit t true s
  else
    let s := presentShadow t s
    if t < 43 then busClose (t - 15) s else s

/-- The park notice reaches a target: its loads go off but for the channels that stay ON, its bus stops, CAN with its bus recessive,
and no silence rule acts from then on (R468, R473). -/
def parkTarget (t : Nat) (s : State) : State :=
  let s : State :=
    if t < 11 then
      (List.range 16).foldl (fun s k => if s.pwr.kept.contains (16 * t + k) then s else chOff (16 * t + k) s) s
    else if t = fioT then (List.range 48).foldl (fun s o => fioOff o s) s
    else if t = lgtT then (List.range 2).foldl (fun s m => mxOffCmd m s) ((List.range 8).foldl (fun s x => lgtOff x s) s)
    else if 15 ≤ t ∧ t < 31 then
      s.modBus (t - 15) fun x => { x with state := 3, sync := false, master := false, window := .idle }
    else if 39 ≤ t ∧ t < 43 then s.modBus (t - 15) fun x => { x with state := 0 }
    else s
  s.modTgt t fun g => { g with parked := true }

/-- The target carries out a command that its count admits (R90). -/
def applyContent (t : Nat) (l : Lane) (c : Content) (s : State) : State :=
  match c with
  | .write a v => targetWrite t a.toNat v s
  | .close => targetClose t s
  | .claim count ply idx => acceptClaim t l false count ply idx s
  | .restore count ply idx => acceptClaim t l true count ply idx s
  | .handover ply idx => s.modTgt t fun g => { g with handover := some (ply, idx) }
  | .bus op obj tag fr =>
    if 15 ≤ t ∧ t < 43 ∧ busAccepts s (t - 15) = true then busSubmit (t - 15) op.toNat obj.toNat tag.toNat fr s else s
  | .round trigger ant test => if t = accT then roundCommand trigger.toNat ant.toNat (test.map BitVec.toNat) s else s
  | .park => parkTarget t s

/-- A shadow comparison failed: the target holds the first since its last report for the next one (R94, R184). -/
def shadowFailed (t : Nat) (missing : Bool) (count ply idx : Nat) (s : State) : State :=
  s.modTgt t fun g => { g with shadowDue := match g.shadowDue with | none => some (missing, count, ply, idx) | d => d }

/-- One side of the shadow comparison: the other side of the same count is compared, or this one is held, at most 64
at a time (R94). DEDUCED, assumption log 25. -/
def shadowCompare (t count : Nat) (c : Content) (isShadow : Bool) (ply idx : Nat) (s : State) : State :=
  let g := s.tgt t
  match g.shadows.find? fun h => decide (h.count = count) && (h.shadow != isShadow) with
  | some h =>
    let s := s.modTgt t fun g =>
      { g with shadows := g.shadows.filter fun h => !(decide (h.count = count) && (h.shadow != isShadow)) }
    if h.content = c then s
    else if isShadow then shadowFailed t false count h.ply h.idx s
    else shadowFailed t false count ply idx s
  | none =>
    let h : HeldCmd := ⟨count, c, ply, idx, isShadow⟩
    s.modTgt t fun g => { g with shadows := (g.shadows ++ [h]).drop (g.shadows.length - 63) }

/-- The target follows lane `l`: it claimed it, or a handover has reached its stamp (R107). -/
def follows (g : Target) (l : Lane) (ply idx : Nat) : Bool :=
  match g.handover with
  | some (p, i) => if p < ply ∨ (p = ply ∧ i ≤ idx) then g.claimed = some (otherLane l) else g.claimed = some l
  | none => g.claimed = some l

/-- How far a count lies past the last one that a target applied (R90). -/
def countPast (g : Target) (count : Nat) : Nat := (count + 2 ^ 20 - g.last) % 2 ^ 20

/-- A target has the next command of its count: it applies it and acknowledges it (R90, R94). -/
def applyCommand (t : Nat) (l : Lane) (count ply idx : Nat) (c : Content) (s : State) : State :=
  let s := s.modTgt t fun g => { g with last := count }
  let s := if (standbyLane s).isSome then shadowCompare t count c false ply idx s else s
  applyContent t l c (if c = .close then s.modTgt t fun g => { g with lastClose := s.clock } else s)

/-- A command that its count admits is applied, and one that was applied before is discarded as a duplicate (R90). -/
def commandOnce (t : Nat) (l : Lane) (count ply idx : Nat) (c : Content) (s : State) : State :=
  let d := countPast (s.tgt t) count
  if d = 1 then applyCommand t l count ply idx c s
  else if d = 0 ∨ 524289 ≤ d then s.modTgt t fun g => { g with dups := g.dups + 1 }
  else s

/-- Resends made to a target in the present ply (R91). -/
def resendsTo (s : State) (t : Nat) : Nat := Sparse.get (fun _ => 0) s.ply.resends t

/-- A command takes a per-target count; a claim and a restore sequence take none (R90, R558). -/
def takesCount : Content → Bool
  | .claim .. => false
  | .restore .. => false
  | _ => true

/-- The commands of the command buffer that a target which applied `last` lacks before `count` (R90, R91, R95). -/
def missedBefore (t last count : Nat) (log : List PlyLog) : List Emitted :=
  let past := fun n => (n + 2 ^ 20 - last) % 2 ^ 20
  (log.flatMap PlyLog.cmds).filter fun e =>
    decide (e.target = t) && takesCount e.content && decide (1 ≤ past e.count) && decide (past e.count < past count)

/-- A target reports a gap: the lane sends again, from the count after the last one applied, what its command buffer holds for
the target, at most three times in a ply; where that does not help, its command link has failed (R90, R91, R95). -/
def resendFrom (t : Nat) (l : Lane) (count : Nat) (s : State) : State :=
  if 3 ≤ resendsTo s t then
    if activeLane s = some l then { s with lanes := { s.lanes with linkFailed := some l } } else s
  else
    let held := missedBefore t (s.tgt t).last count s.log
    let s := { s with ply := { s.ply with resends := Sparse.set (fun _ => 0) s.ply.resends t (resendsTo s t + 1) } }
    held.foldl (fun s e => commandOnce t l e.count e.ply e.idx e.content s) s

/-- COMMAND_RECEIVED: applied, discarded or reported as a gap by its count (R90, R91, R92, R94, R102, R107); the controller of the
lane that a bus now follows transmits (R362). -/
def commandStep (t : Nat) (l : Lane) (count ply idx : Nat) (c : Content) (s : State) : State :=
  let g := s.tgt t
  match c with
  | .claim n p i => acceptClaim t l false n p i s
  | .restore n p i => acceptClaim t l true n p i s
  | _ =>
    if follows g l ply idx = false then s
    else
      let s := s.setTgt t
        { g with claimed := some l, handover := if g.claimed = some l then g.handover else none, lastSign := s.clock }
      let s := if g.claimed ≠ some l ∧ 15 ≤ t ∧ t < 43 then busClaim (t - 15) l s else s
      if ply < g.stampPly ∨ (ply = g.stampPly ∧ idx < g.stampIdx) then s
      else if 2 ≤ countPast g count ∧ countPast g count ≤ 524288 then commandOnce t l count ply idx c (resendFrom t l count s)
      else commandOnce t l count ply idx c s

/-- LANE_RESET_EVENT (R60). -/
def execLaneResetEvent (l : Lane) (cause : LaneCause) (s : State) : Host.Outcome State Fault Refusal :=
  .next (laneReset l cause s)

/-- LANE_WATCHDOG (R87). -/
def execLaneWatchdog (l : Lane) (s : State) : Host.Outcome State Fault Refusal := .next (laneReset l .watchdog s)

/-- CORE_FAULT: a core of the lane stops and the lane withdraws, whichever core and fault it is (R62). -/
def execCoreFault (l : Lane) (_c : Fin 24) (_k : CoreFault) (s : State) : Host.Outcome State Fault Refusal :=
  .next (withdrawLane l .coreFault s)

/-- UNCORRECTABLE_ERROR (R99, R501). -/
def execUncorrectableError (l : Lane) (s : State) : Host.Outcome State Fault Refusal := .next (withdrawLane l .memory s)

/-- COMMAND_RECEIVED (R90). -/
def execCommandReceived (t : Fin 45) (l : Lane) (count : BitVec 20) (ply idx : Nat) (c : Content) (s : State) :
    Host.Outcome State Fault Refusal :=
  .next (commandStep t l count.toNat ply idx c s)

/-- KEEP_ALIVE: it carries the lane's current ply number, and is a sign of life from the lane that the target follows there;
only the active lane sends any (R93, R107). -/
def execKeepAlive (l : Lane) (t : Fin 45) (s : State) : Host.Outcome State Fault Refusal :=
  .next (if (s.lane l).role = .active ∧ follows (s.tgt t) l s.ply.number 0 = true then s.modTgt t fun g => { g with lastSign := s.clock } else s)

/-- SHADOW_RECEIVED (R94). -/
def execShadowReceived (t : Fin 45) (count : BitVec 20) (c : Content) (s : State) : Host.Outcome State Fault Refusal :=
  .next (if (s.tgt t).claimed.isSome then shadowCompare t count.toNat c true 0 0 s else s)

/-- SHADOW_MISSING (R94). -/
def execShadowMissing (t : Fin 45) (count : BitVec 20) (s : State) : Host.Outcome State Fault Refusal :=
  .next (
    match (s.tgt t).shadows.find? fun h => decide (h.count = count.toNat) && !h.shadow with
    | some h =>
      shadowFailed t true count.toNat h.ply h.idx
        (s.modTgt t fun g => { g with shadows := g.shadows.filter fun h => decide (h.count ≠ count.toNat) })
    | none => s)

/-- PATH_DOWN (R96). -/
def execPathDown (p : Path) (s : State) : Host.Outcome State Fault Refusal := .next (pathState p false s)

/-- PATH_UP (R96). -/
def execPathUp (p : Path) (s : State) : Host.Outcome State Fault Refusal := .next (pathState p true s)

/-- WITHDRAW (R99). -/
def execWithdraw (l : Lane) (cause : WithdrawCause) (s : State) : Host.Outcome State Fault Refusal :=
  .next (withdrawLane l cause s)

/-- CLAIM_RECEIVED: the restore sequence of a first claim carries the count that the lanes have reached (R558). -/
def execClaimReceived (t : Fin 45) (l : Lane) (ply idx : Nat) (s : State) : Host.Outcome State Fault Refusal :=
  .next (acceptClaim t l true (s.tgt t).sent ply idx s)

/-- SUPERSEDED (R102). -/
def execSuperseded (l : Lane) (s : State) : Host.Outcome State Fault Refusal := .next (supersede l s)

/-- JOIN_ABANDONED (R111). -/
def execJoinAbandoned (s : State) : Host.Outcome State Fault Refusal :=
  .next (match joiningLane s with | some l => abandonJoin l s | none => s)

/-- JOIN_RETRY (R111). -/
def execJoinRetry (s : State) : Host.Outcome State Fault Refusal :=
  .next (
    if s.lanes.retry then { s with lanes := { s.lanes with retry := false } } else s)

/-- LANE_CTL_CASTLE (R107). -/
def execLaneCtlCastle (s : State) : Host.Outcome State Fault Refusal := .next (castleInput s)

/-- JOIN_EN (R111). -/
def execJoinEn (v : Bool) (s : State) : Host.Outcome State Fault Refusal := .next (joinEnWrite v s)

/-- DIV_UNLOCK (R116). -/
def execDivUnlock (s : State) : Host.Outcome State Fault Refusal := .next (divUnlock s)

/-- The free-running time base of a lane, 0 until numbering begins: the standby's stands within 5 ticks of the active lane's
(R78, R121). DEDUCED, assumption log 64. -/
def timeBase (s : State) (l : Lane) : Nat :=
  if s.seq.running = false then 0
  else if (s.lane l).role = .standby then s.now + Config.timeSkew s.free % 11 - 5 else s.now

/-- A read of SCO_TIME[0] latches the other two words for the master (R121). -/
def latchTime (l : Lane) (m : Nat) (s : State) : State :=
  let ws := wordsOf (timeBase s l) 3
  s.modLane l fun g => { g with timeLatch := Sparse.put g.timeLatch m ws }

/-- SCO_TIME_READ (R121). -/
def execScoTimeRead (l : Lane) (m : Fin 32) (s : State) : Host.Outcome State Fault Refusal := .next (latchTime l m s)

/-- A silent tile or unit presents the changes since its previous report, where there are any (R184, R290, R321, R353). -/
def tileSilentPresent (t : Nat) (s : State) : State :=
  if (s.tgt t).silent && (s.tgt t).entries.any (reportedNow false) then presentUnit t false s else s

/-- TILE_SILENT_REPORT of a tile or unit (R184, R290, R321, R353). -/
def execTileSilentReport (t : Fin 14) (s : State) : Host.Outcome State Fault Refusal :=
  .next (tileSilentPresent t s)

end Sys2Proof.Machine
end

