-- ==== Sys2Proof/Machine/Power.lean ====
section
/-! DEFINITION. The power states, entries, retention and wakes (R463 to R488, R559). -/

namespace Sys2Proof.Machine

open Sys2Proof

/-- Codes of PWR_STATE.STATE (R481). -/
def PwrState.code : PwrState → Nat
  | .run => 0 | .idle => 1 | .parked => 2 | .deep => 3 | .off => 4

/-- PWR_STATE (R481): STATE tells RUN from the rest, since no lane runs outside RUN and IDLE and 01b is its value at reset; the wake
levels are those of the latest input (R475). -/
def pwrStateWord (s : State) : Word :=
  let p := s.pwr
  Word.ofN (flagAt (p.state ≠ .run) 18 + flagAt p.entering 17 + p.target * 2 ^ 15 + p.point * 2 ^ 13 + flagAt p.wakePend 12 +
    flagAt p.clk 11 + (s.copyReg 0x9E004).field 10 9 * 2 ^ 9)

/-- The drive-enable generator is RUNNING in the lanes' copy. -/
def denRunning (s : State) : Bool := decide ((s.copyReg 0x88022).field 19 18 = 1)

/-- NVM programming is refused: reduced function, with neither VLOG input above 12 V (R47). No monitor of R56 stands at 12 V:
the latest sample of the input is compared, and a code of a sample that is not valid counts as above. DESIGN CHOICE, assumption
log 55. -/
def nvmRefused (s : State) : Bool :=
  s.sup.reduced && decide ((s.copyReg 0x8A448).s20 ≤ 120000) && decide ((s.copyReg 0x8A449).s20 ≤ 120000)

/-- A wake source of R475 is enabled; the low-power brown-out always is. A channel with selective wake takes frames alone, which its
own command brings (R370). -/
def wakeEnabled (s : State) (cause idx : Nat) : Bool :=
  let en := s.copyReg 0x9E006
  let park := s.copyReg 0x88002
  match cause with
  | 1 => en.bit 19
  | 2 => en.bit 18
  | 3 => (s.copyReg (canAddr idx 0)).bit 9 && !(s.copyReg (canAddr idx 0)).bit 8
  | 4 => en.bit (7 + idx)
  | 5 => decide (park.field 19 18 ≠ 0)
  | 6 => park.bit 7
  | 7 => en.bit 17
  | 8 => true
  | 9 => en.bit 16
  | 10 => en.bit 15
  | _ => false

/-- A wake source is active in the state that the module sleeps in: DEEP knows no park fault and no polling, and a round of a poll
(INDEX 7h) or of a handle is looked for as ACC_PARK.MODE says (R335, R475). -/
def wakeActive (s : State) (cause idx : Nat) : Bool :=
  let mode := s.copyReg 0x88002
  if cause = 5 ∨ cause = 6 then (if idx = 7 then mode.bit 18 && decide (s.pwr.state = .parked) else mode.bit 19)
  else decide (cause ≠ 9) || decide (s.pwr.state = .parked)

/-- Some wake source beside the low-power brown-out is enabled (R465). -/
def anyWake (s : State) : Bool :=
  let en := s.copyReg 0x9E006
  decide (en.field 19 7 ≠ 0) || ((List.range 16).any fun n => (s.copyReg (canAddr n 0)).bit 9) || wakeEnabled s 5 0 || wakeEnabled s 6 0

/-- WAKE_PEND sets during an entry that can still be abandoned; the first cause is kept (R467). DEDUCED, assumption
log 51. -/
def pendWake (cause : Nat) (s : State) : State :=
  if s.pwr.entering ∧ s.pwr.point < 3 then
    { s with pwr := { s.pwr with wakePend := true, wakeBy := if s.pwr.wakePend then s.pwr.wakeBy else cause } }
  else s

/-- A wake event processed while the lanes run; during the commit ply the AO holds it (R467, R468, R475). -/
def wakeInput (cause : Nat) (s : State) : State :=
  if wakeEnabled s cause 0 = false ∨ s.pwr.entering = false then s
  else if s.pwr.point = 3 then raiseWake cause 0 s
  else pendWake cause s

/-- Status codes of a request (R414). -/
def stOk : Nat := 0
/-- BUSY. -/
def stBusy : Nat := 1
/-- LENGTH. -/
def stLength : Nat := 2
/-- ACCESS. -/
def stAccess : Nat := 3
/-- RANGE. -/
def stRange : Nat := 4
/-- STATE. -/
def stState : Nat := 5

/-- An entry begins (R465, R467, R555): ARG0 is the target as requested. -/
def beginEntry (target : Nat) (s : State) : State :=
  laneRecord ⟨0x0C, 1, 0x9E004, Word.ofN target, 0⟩
    { s with pwr := { s.pwr with
      entering := true, target := target - 2, point := 0, wakePend := false, wakeBy := 0, upward := none, journalDone := false,
      a1Due := true } }

/-- A request for a power state is decided (R465). -/
def requestPower (target : Nat) (s : State) : Nat × State :=
  let p := s.pwr
  if 4 < target then (stRange, s)
  else if target = p.state.code ∧ p.entering = false then (stOk, s)
  else if target < 2 then
    let want := if target = 0 then PwrState.run else PwrState.idle
    if p.entering then
      if p.point < 3 then
        let s := pendWake 0xF s
        (stOk, { s with pwr := { s.pwr with upward := some want } })
      else (stOk, s)
    else if target = 1 ∧ denRunning s = true then (stState, s)
    else (stOk, { s with pwr := { p with next := some want } })
  else if p.entering ∨ p.clk = false then (stBusy, s)
  else if denRunning s = true ∨ s.upd.stage ≠ .idle ∨ s.upd.phase = .confirmWait then (stState, s)
  else if target < 4 ∧ anyWake s = false then (stState, s)
  else (stOk, beginEntry target s)

/-- Write 1 to a bit of LIN_SCHED of the channels that `f` names: the lanes command SLEEP or WAKE (R467). -/
def linCommand (bit : Nat) (f : Nat → Bool) (s : State) : State :=
  emit (((List.range 8).filter f).map fun n =>
    (busT (16 + n), Content.write (Word.ofN (linAddr n 2)) ((s.copyReg (linAddr n 2)).setBit bit true))) s

/-- STATE of a LIN channel in the lanes' copy. -/
def linState (s : State) (n : Nat) : Nat := (s.copyReg (linAddr n 1)).field 19 18

/-- LIN channel `n` is in use in the lanes' copy. -/
def linOn (s : State) (n : Nat) : Bool := (s.copyReg (linAddr n 0)).bit 19

/-- The CAN event queues and time masters stop, a frame in progress apart, or start again: at once on an event-driven channel, at the
next basic cycle start on a time-triggered one (R467). -/
def quietCan (q : Bool) (s : State) : State :=
  (List.range 16).foldl (fun s n =>
    if q then (markStarted n s).modBus n fun x => { x with quiet := true, quietEnd := false }
    else if ttActive s n then s.modBus n fun x => { x with quietEnd := x.quiet }
    else s.modBus n fun x => { x with quiet := false, quietEnd := false }) s

/-- The entry is abandoned; the work of the last point is undone, and an upward request then applies (R467, R555). -/
def abandonEntry (s : State) : State :=
  let s := if s.pwr.point = 2 then linCommand 16 (fun n => linOn s n && decide (linState s n = 1)) (quietCan false s) else s
  laneRecord ⟨0x0C, 2, 0x9E004, Word.ofN s.pwr.wakeBy, 0⟩
    { s with pwr := { s.pwr with
      entering := false, wakePend := false, upward := none, a1Due := false, point := 0,
      next := match s.pwr.upward with | some w => some w | none => s.pwr.next } }

/-- The abort points at the end of phase B (R467). -/
def abortPoint (s : State) : State :=
  if s.pwr.entering = false ∨ s.pwr.point = 3 then s
  else
    match s.pwr.point with
    | 0 =>
      if s.pwr.a1Due && s.pwr.wakePend then abandonEntry s else { s with pwr := { s.pwr with a1Due := false } }
    | 1 =>
      if s.pwr.wakePend then abandonEntry s
      else
        linCommand 17 (fun n => linOn s n && decide (linState s n = 0)) (quietCan true { s with pwr := { s.pwr with point := 2 } })
    | _ => if s.pwr.wakePend then abandonEntry s else s

/-- At a ply boundary: a decided state change and the change to 250 MHz take effect, and A2 is reached once the journal
write is over (R464, R467, R479). -/
def pwrBoundary (s : State) : State :=
  let s := match s.pwr.next with
    | some w => { s with pwr := { s.pwr with state := w, next := none } }
    | none => s
  let s := if s.pwr.clkReq then
      laneRecord ⟨0x0C, 6, 0x9E004, 0, 0⟩
        ({ s with pwr := { s.pwr with clk := true, clkReq := false } }.mapLanes fun g => { g with clk250 := g.pll })
    else s
  if s.pwr.entering && decide (s.pwr.point = 0) && s.pwr.journalDone then
    { s with pwr := { s.pwr with point := 1, a2At := s.ply.boundary } }
  else s

/-! ### Retention (R469, R559) -/

/-- The registers of a bank in order, each with the bits retained. -/
def bankRegs (b : Nat) : List (Nat × Nat) :=
  let chan := fun (n : Nat) =>
    ([3, 4, 5, 6, 7, 8, 9, 10, 11, 12, 13, 14, 15, 18, 19].map fun off => (chanAddr n off, (chanInfo n off).rw)) ++
      [(chanAddr n 16, 0xFFFFF), (chanAddr n 17, 0xFFFFF)]
  let slots := fun (lo : Nat) => (List.range 8).flatMap fun k =>
    (List.range 128).map (fun p => (0x8D000 + 256 * (lo + k) + p, 0xFFFFF)) ++
      (List.range 128).map (fun p => (0x8D080 + 256 * (lo + k) + p, 0xFFFFF))
  let rw := fun (a : Nat) => (a, (regInfo a).rw)
  match b with
  | 1 => (List.range 88).flatMap chan
  | 2 => (List.range 88).flatMap fun n => chan (88 + n)
  | 3 =>
    (List.range 176).map (fun n => (chanAddr n 2, 0xFFFFF)) ++
      (List.range 11).flatMap (fun t => [rw (tileAddr t 2), rw (tileAddr t 3), (tileAddr t 4, 0x1F000)]) ++ [rw 0x84001] ++
      (List.range 128).map (fun d => rw (0x84100 + d)) ++ (List.range 48).map (fun o => rw (0x84202 + 4 * o))
  | 4 =>
    [rw 0x86001] ++
      (List.range 8).flatMap (fun x => ([2, 3, 4, 5, 6, 7].map fun off => rw (strAddr x off)) ++
        (List.range 16).map (fun i => rw (strAddr x (16 + i)))) ++
      (List.range 2).flatMap (fun m => [2, 3, 4, 5].map fun off => rw (0x86400 + 16 * m + off)) ++
      [rw 0x88001, rw 0x88002, rw 0x88003, rw 0x88007, rw 0x88004, rw 0x88005, rw 0x88006, rw 0x88023] ++
      (List.range 4).map (fun p => rw (0x88008 + p)) ++ (List.range 4).map (fun h => rw (0x8800C + h)) ++
      (List.range 16).map (fun i => rw (0x88010 + i))
  | 5 =>
    [rw 0x8A001] ++ (List.range 176).flatMap (fun i => (List.range 4).map fun w => (0x8B000 + 4 * i + w, 0xFFFFF)) ++
      (List.range 16).flatMap (fun k => (List.range 4).map fun w => (0x8CC00 + 16 * k + w, 0xFFFFF))
  | 6 => slots 0
  | 7 => slots 8
  | _ => []

/-- Bank 0 (R559). -/
def bankZero (s : State) (l : Lane) : List Word :=
  let g := s.lane l
  let digest := (g.nvm.fw.active.map Image.ident).getD 0 / 2 ^ 56
  [s.copyReg 0x9E006, s.copyReg 0x9E008, s.copyReg 0x9E00C, s.copyReg 0x9E00D,
    Word.ofN (flagAt s.lanes.joinEn 18 + s.lanes.wdt % 64 * 2 ^ 8), s.copyReg 0x99000 &&& 0x7FE00,
    s.copyReg 0x9AFF0 &&& 0xFF000, laneWord l, Word.ofN (s.seq.agreed / 2 ^ 40)] ++ wordsOf s.seq.agreed 3 ++
    [Word.ofN (g.slot % 4 * 2 ^ 12)] ++ ((List.range 16).map fun k => Word.ofN (digest / 2 ^ (16 * k) % 2 ^ 16)) ++
    wordsOf g.nvm.programs 2

/-- A bank as the lanes write it to the AO (R469). DEDUCED, assumption log 67. -/
def bankWords (s : State) (l : Lane) (b : Nat) : List Word :=
  if b = 0 then bankZero s l else (bankRegs b).map fun p => s.copyReg p.1 &&& Word.ofN p.2

/-- Words with their places in the store; zeros are not listed. -/
def storeWords (b : Nat) (ws : List Word) : List (Nat × Word) :=
  ws.zipIdx.filterMap fun p => if p.1 = 0 then none else some (2048 * b + p.2, p.1)

/-- One bit of a CRC-32 of IEEE 802.3, low bit first. -/
def crcBit (c : Nat) : Nat := if c % 2 = 1 then c / 2 ^^^ 0xEDB88320 else c / 2

/-- One octet of a CRC-32. -/
def crcOctet (c o : Nat) : Nat := (List.range 8).foldl (fun c _ => crcBit c) (c ^^^ o)

/-- The CRC-32 of octets, with the polynomial of IEEE 802.3 (R469). -/
def crc32 (os : List Nat) : Nat := os.foldl crcOctet 0xFFFFFFFF ^^^ 0xFFFFFFFF

/-- A word of the retention store. -/
def retWord (s : State) (b w : Nat) : Word := Sparse.get (fun _ => 0) s.pwr.retention (2048 * b + w)

/-- The CRC-32 of bank `b`: its 2,048 words, each as three octets (R9, R469). -/
def bankCrc (s : State) (b : Nat) : Nat :=
  let m := s.pwr.retention.filter fun p => decide (2048 * b ≤ p.1) && decide (p.1 < 2048 * (b + 1))
  crc32 ((List.range 2048).flatMap fun w =>
    let v := (Sparse.get (fun _ => (0 : Word)) m (2048 * b + w)).toNat
    [v % 256, v / 256 % 256, v / 65536])

/-- The valid banks whose words do not have the CRC held beside them, by bit (R471). -/
def badBanks (s : State) : BitVec 8 :=
  BitVec.ofNat 8 (((List.range 8).filter fun b =>
    s.pwr.banksOk.getLsbD b && decide (s.pwr.crcs[b]? ≠ some (bankCrc s b))).map (2 ^ ·)).sum

/-- The banks of the commit ply, or for OFF none that is valid (R468). -/
def captureRetention (l : Lane) (s : State) : State :=
  if s.pwr.target = 2 then { s with pwr := { s.pwr with retention := [], banksOk := 0, crcs := [] } }
  else
    { s with pwr := { s.pwr with
      retention := (List.range 8).flatMap fun b => storeWords b (bankWords s l b), banksOk := 0xFF,
      lastSeq := s.seq.agreed, lastActive := l, programs := (s.lane l).nvm.programs } }

/-- A park channel that stays ON through an entry into PARKED (R472, R473). -/
def parkKept (s : State) (n : Nat) : Bool :=
  decide (s.pwr.target = 0) && (chReg s n 3).bit 14 && decide ((s.chan n).state = .on)

/-- The end of phase B: an abort point, or in the commit ply the copies that retention holds and the channels that stay ON (R467,
R469, R473). -/
def pwrEndB (s : State) : State :=
  match activeLane s with
  | some l =>
    if s.pwr.committed then
      let s := captureRetention l s
      { s with pwr := { s.pwr with kept := (List.range 176).filter (parkKept s) } }
    else abortPoint s
  | none => abortPoint s

/-- The end of phase E of the commit ply: bank 0 holds the last number agreed in it, the banks have their CRCs, and the key latch is
loaded (R345, R468, R469, R477). -/
def captureNumber (s : State) : State :=
  if s.pwr.committed = false then s
  else
    let n := s.seq.agreed
    let s : State := if s.pwr.target = 2 then s
      else { s with pwr := { s.pwr with
        lastSeq := n,
        retention := [(8, Word.ofN (n / 2 ^ 40)), (9, wordOf n 0), (10, wordOf n 1), (11, wordOf n 2)].foldl
          (fun m p => Sparse.set (fun _ => 0) m p.1 p.2) s.pwr.retention } }
    let s : State := if s.pwr.target = 2 then s else loadLatch { s with pwr := { s.pwr with crcs := (List.range 8).map (bankCrc s) } }
    { s with pwr := { s.pwr with parkDone := true } }

/-- A register in the range of channel and tile blocks belongs to a sleeping tile, whose own registers survived. -/
def ofSleepingTile (s : State) (a : Nat) : Bool :=
  s.pwr.sleeping.any fun t =>
    let r := tileRange t
    (decide (r.1.1 ≤ a) && decide (a ≤ r.1.2)) || (decide (r.2.1 ≤ a) && decide (a ≤ r.2.2))

/-- The registers of a good bank return to the lanes' copy; KIND and PARTNER of CH_GROUP are the configuration image's (R469,
R470). -/
def restoreBank (b : Nat) (s : State) : State :=
  (bankRegs b).zipIdx.foldl (fun s p =>
    let a := p.1.1
    let mask : Word := Word.ofN (if a < 0x81600 ∧ a % 32 = 7 then 0x003F0 else p.1.2)
    s.setCopy a ((s.copyReg a &&& ~~~mask) ||| (retWord s b p.2 &&& mask))) s

/-- The AO's own registers and the lane settings of bank 0 return (R469, R559). -/
def restoreBankZero (s : State) : State :=
  let s := ((s.setCopy 0x9E006 (retWord s 0 0)).setCopy 0x9E008 (retWord s 0 1)).setCopies
    [(0x9E00C, retWord s 0 2), (0x9E00D, retWord s 0 3)]
  let ctl := retWord s 0 4
  let s := { s with lanes := { s.lanes with joinEn := ctl.bit 18, wdt := ctl.field 13 8 } }
  (s.setCopy 0x99000 ((s.copyReg 0x99000 &&& 0x80000) ||| retWord s 0 5)).setCopy 0x9AFF0 (retWord s 0 6)

/-- The wire models and fault words of the channels of an unpowered tile, as the banks saved them (R469, R472). -/
def restoreChan (n : Nat) (s : State) : State :=
  let s :=
    if s.pwr.banksOk.getLsbD (1 + n / 88) = false then s
    else if 60 ≤ s.pwr.parkMinutes then s.modChan n fun c => { c with theta1 := 0, theta2 := 0 }
    else s.modChan n fun c =>
      { c with theta1 := (s.copyReg (chanAddr n 16)).toNat * 2 ^ 12, theta2 := (s.copyReg (chanAddr n 17)).toNat * 2 ^ 12 }
  if s.pwr.banksOk.getLsbD 3 then s.modChan n fun c => { c with fault := s.copyReg (chanAddr n 2) } else s

/-- K10: the registers of every good bank return, and unpowered tiles take theirs; a sleeping tile's own registers stand for
the lanes' copy from K10 on, where R471 has it present them with its claim report (R471, R472, R478). DEDUCED, assumption
log 67. -/
def restoreRetained (s : State) : State :=
  let s := if s.pwr.banksOk.getLsbD 0 then restoreBankZero s else s
  let s := [1, 2, 3, 4, 5, 6, 7].foldl (fun s b => if s.pwr.banksOk.getLsbD b then restoreBank b s else s) s
  let s := s.pwr.sleeping.foldl (fun s t => (s.clearCopy (tileRange t).1).clearCopy (tileRange t).2) s
  let s := (s.live.filter fun p => ofSleepingTile s p.1).foldl (fun s p => s.setCopy p.1 p.2) s
  let s := if s.pwr.banksOk.getLsbD 5 then s
    else (List.range 16).foldl (fun s k => s.setCopy (sigAddr k 0) ((s.copyReg (sigAddr k 0)).put 19 18 0)) s
  (List.range 11).foldl (fun s t =>
    if s.pwr.sleeping.contains t then s
    else (List.range 16).foldl (fun s k => restoreChan (16 * t + k) s) (restoreTarget t s)) s

/-! ### Commit, power-down and wake (R468, R474, R478) -/

/-- Every host session closes with the cause of R553. -/
def closeAllSessions (cause : Nat) (s : State) : State :=
  let s := s.host.sessions.foldl (fun s p =>
    laneRecord ⟨0x0A, 2, Word.ofN (0x99010 + 4 * p.1), Word.ofN p.2.handle, Word.ofN cause⟩ s) s
  { s with host := { s.host with sessions := [] } }

/-- The commit may be made at this boundary: one after A2 at which every enabled LIN channel sleeps, or 300 ms after A2. The
row says that no CAN frame is in progress (R467). -/
def commitReady (s : State) : Bool :=
  s.pwr.entering && decide (s.pwr.point = 2) && !s.pwr.wakePend && decide (s.pwr.a2At < s.ply.boundary) &&
    (((List.range 8).all fun n => !linOn s n || decide (linState s n = 1)) || decide (s.pwr.a2At + 30000000 ≤ s.ply.boundary))

/-- The commit ply begins: what its phase B does; its loads and buses stop with the park notices of phase C, and its banks are written
in phase E (R468). -/
def commitEntry (s : State) : State :=
  if (activeLane s).isNone || !commitReady s then s
  else
    let s := { s with pwr := { s.pwr with
      point := 3, wakePend := false, committed := true, kept := [], parkDone := false, wakeStatus := 0, held := none } }
    laneRecord ⟨0x0C, 3, 0x9E004, Word.ofN (s.pwr.target + 2), 0⟩ (endSession 4 (closeAllSessions 4 s))

/-- Tiles 5 to 10 with a park channel ON sleep in PARKED (R463, R474). -/
def sleepTiles (s : State) : List Nat :=
  ((List.range 6).map (5 + ·)).filter fun t => (List.range 16).any fun k => parkKept s (16 * t + k)

/-- The channels and registers of tiles that are unpowered. -/
def unpowerTile (t : Nat) (s : State) : State :=
  ((List.range 16).foldl (fun s k => s.setChan (16 * t + k) Chan.reset) s).clearLive (tileRange t)

/-- A tile goes to sleep: no window, probe or retry goes on (R474). -/
def sleepTile (t : Nat) (s : State) : State :=
  (List.range 16).foldl (fun s k => s.modChan (16 * t + k) fun c =>
    { c with inrush := false, probe := none, probeReq := false, arcWindows := [], used := 0 }) s

/-- A lane whose rails have fallen (R53, R468). -/
def LaneSt.unpowered (g : LaneSt) : LaneSt :=
  { LaneSt.reset g.resetCause { g.nvm with life := g.lifeJournal, failImage := [] } with startBlack := g.startBlack }

/-- An alarm that lies in the past wakes the module as soon as it is down (R475). -/
def pastAlarm (s : State) : State :=
  if asleep s && wakeEnabled s 7 0 && decide (ofWords [s.copyReg 0x9E00C, s.copyReg 0x9E00D] ≤ s.pwr.rtc) then raiseWake 7 0 s
  else s

/-- POWER_DOWN_COMPLETE (R468 step 4), once the commit ply is over: what the AO domain holds stays, and every other register is back
at its reset value (R470). From OFF only a wake input brings the module back. -/
def powerDown (s : State) : State :=
  if s.pwr.committed = false ∨ s.pwr.parkDone = false then s
  else
    let st := if s.pwr.target = 0 then PwrState.parked else if s.pwr.target = 1 then .deep else .off
    let sl := sleepTiles s
    let ao := s.copy.filter fun p => (decide (0x9E004 ≤ p.1) && decide (p.1 < 0x9E010)) || (p.1 = 0x88002 : Bool) ||
      (decide (0x90000 ≤ p.1) && decide (p.1 < 0x94000) && decide (p.1 % 0x400 < 0x20))
    let s := (List.range 11).foldl (fun s t => if sl.contains t then sleepTile t s else unpowerTile t s) s
    let s := { clearLaneWork s with copy := ao }
    pastAlarm { s with
      white := s.white.unpowered, black := s.black.unpowered, targets := [], douts := [], strs := [], mxs := [],
      den := Den.reset, lanes := Lanes.reset,
      live := dropRange 0x84016 0x88000 (dropRange 0x84000 0x8400F s.live), upd := Upd.reset, updWhite := Upd.reset,
      updBlack := Upd.reset,
      sup := { s.sup with
        fabAna := false, fabValid := false, tilesOk := false, aoLp := decide (st ≠ .off),
        aoOk := s.sup.aoOk && decide (st ≠ .off) },
      acc := { s.acc with
        round := none, kept := none, doorCheck := false, test := none, doublings := 0, present := [], polled := false,
        heldOff := s.acc.heldOff.map (fun p => (p.1, 0)) },
      pwr := { s.pwr with
        state := st, entering := false, committed := false, kept := [], parkDone := false, entryRtc := s.pwr.rtc,
        held := if st = .off then s.pwr.held.filter fun h => decide (h.1 < 3) else s.pwr.held, point := 0, clk := false, clkReq := false, locked := false,
        sleeping := sl, autoDeep := false } }

/-- DEEP_AFTER hours have passed: PARKED becomes DEEP, sleeping tiles switch off, and polling ends (R335, R464, R474). -/
def deepAfter (s : State) : State :=
  if s.pwr.state = .parked ∧ s.pwr.waking = false ∧ (s.copyReg 0x9E008).field 19 12 ≠ 0 then
    let s := s.pwr.sleeping.foldl (fun s t => unpowerTile t s) s
    { s with
      acc := { s.acc with round := s.acc.round.filter fun r => decide (r.trigger ≠ 1) },
      pwr := { s.pwr with state := .deep, autoDeep := true, sleeping := [] } }
  else s

/-- Lane and tile rails rise after a wake, and both lanes hold the wake as the cause of their reset (R72, R478). -/
def LaneSt.woken (cold : Bool) (g : LaneSt) : LaneSt :=
  { g with
    coreOk := true, ioOk := true, anaOk := true, resetCause := causeWord g.resetCause 4 0xB,
    startStatus := (Word.ofN 0).setBit 9 cold }

/-- WAKE_EVENT: K0 to K5; the park search stops, the CRC of each bank is checked, and every register is back at its reset value (R470,
R471, R475, R478, R484). A wake that the AO already holds is the one latched; from the commit ply to the end of the power-down it
holds the first one (R468). -/
def wakeStep (cause idx : Nat) (bankFail : BitVec 8) (multi : Bool) (s : State) : State :=
  let parked := s.pwr.state = .parked || s.pwr.state = .deep
  let h := s.pwr.held.getD (cause, idx)
  if s.pwr.committed then (if wakeEnabled s cause idx then raiseWake cause idx s else s)
  else if parked && !s.pwr.waking && (s.pwr.held.isSome || (wakeEnabled s cause idx && wakeActive s cause idx)) then
    let bankFail := bankFail ||| badBanks s
    let minutes := (s.pwr.rtc - s.pwr.entryRtc) / 61440
    let st := Word.ofN (h.1 % 16 * 2 ^ 16 + bankFail.toNat * 2 ^ 8 + h.2 % 16 * 2 ^ 4 + flagAt (s.pwr.state = .deep) 3 +
      flagAt multi 2 + flagAt s.pwr.autoDeep 1)
    let cold := decide (bankFail ≠ 0)
    { s with
      copy := [], live := dropRange 0x88000 0x88000 (dropRange 0x88020 0x8804F s.live), free := s.free + 1, fab := { s.fab with calFail := !Config.calOk s.free },
      white := s.white.woken cold, black := s.black.woken cold,
      sup := { s.sup with fabAna := true, tilesOk := true, tileLow := [], aoLp := false },
      acc := { s.acc with round := none, kept := none },
      pwr := { s.pwr with
        waking := true, wakeStatus := st, parkMinutes := min 0xFFFFF minutes, held := none,
        banksOk := s.pwr.banksOk &&& ~~~bankFail } }
  else s

/-- PWR_CTL is written by a master (R465, R482). -/
def pwrCtlWrite (m : Nat) (v : Word) (s : State) : State :=
  let s := if v.bit 15 && s.pwr.locked && !s.pwr.clk then { s with pwr := { s.pwr with clkReq := true } } else s
  if v.bit 19 then
    let r := requestPower (v.field 18 16) s
    if r.1 = stRange then writeRefused m 0x9E005 v s else r.2
  else s

/-- The wake levels as an input carries them (R475, R481). -/
def levelCopy (s : State) : List (Nat × Word) := [(0x9E004, Word.ofN (flagAt s.pwr.aLvl 10 + flagAt s.pwr.bLvl 9))]

/-- WAKE-A or WAKE-B rises; in the commit ply the AO holds it (R36, R468, R475). -/
def wakeRise (i : Feed) (s : State) : State :=
  let cause := match i with | .a => 1 | .b => 2
  let s := match i with
    | .a => { s with pwr := { s.pwr with aLvl := true } }
    | .b => { s with pwr := { s.pwr with bLvl := true } }
  if s.seq.running then
    present 0x17 [Word.ofN cause, 1] (.wake cause (levelCopy s))
      (if s.pwr.committed && wakeEnabled s cause 0 then raiseWake cause 0 s else s)
  else if (s.pwr.state = .off ∧ (s.sup.vlogA.ok || s.sup.vlogB.ok) = true) ∨ ((s.pwr.state = .parked ∨ s.pwr.state = .deep) ∧ wakeEnabled s cause 0 = true) then
    raiseWake cause 0 s
  else s

/-- WAKE-A or WAKE-B falls. -/
def wakeFall (i : Feed) (s : State) : State :=
  let cause := match i with | .a => 1 | .b => 2
  let s := match i with
    | .a => { s with pwr := { s.pwr with aLvl := false } }
    | .b => { s with pwr := { s.pwr with bLvl := false } }
  present 0x17 [Word.ofN cause, 0] (.upd (levelCopy s) []) s

/-- WAKE_INPUT_RISE (R36). -/
def execWakeInputRise (i : Feed) (s : State) : Host.Outcome State Fault Refusal := .next (wakeRise i s)

/-- WAKE_INPUT_FALL (R36). -/
def execWakeInputFall (i : Feed) (s : State) : Host.Outcome State Fault Refusal := .next (wakeFall i s)

/-- JOURNAL_WRITE_COMPLETE, or 100 ms from A1 without it (R467, R555). -/
def execJournalWriteComplete (written : Bool) (s : State) : Host.Outcome State Fault Refusal :=
  .next (
    if s.pwr.entering && decide (s.pwr.point = 0) && !s.pwr.journalDone then
      let s := if written && !nvmRefused s then journalLife s else laneRecord ⟨0x0C, 5, 0x9E004, 0, 0⟩ s
      { s with pwr := { s.pwr with journalDone := true } }
    else s)

/-- ENTRY_COMMIT (R468). -/
def execEntryCommit (s : State) : Host.Outcome State Fault Refusal := .next (commitEntry s)

/-- POWER_DOWN_COMPLETE (R468). -/
def execPowerDownComplete (s : State) : Host.Outcome State Fault Refusal := .next (powerDown s)

/-- DEEP_AFTER_EXPIRY (R464). -/
def execDeepAfterExpiry (s : State) : Host.Outcome State Fault Refusal := .next (deepAfter s)

/-- ALARM (R475). -/
def execAlarm (s : State) : Host.Outcome State Fault Refusal :=
  .next (
    if s.seq.running then present 0x17 [7, 0] (.wake 7 []) (if s.pwr.committed && wakeEnabled s 7 0 then raiseWake 7 0 s else s)
    else if (s.pwr.state = .parked ∨ s.pwr.state = .deep) ∧ wakeEnabled s 7 0 = true then raiseWake 7 0 s
    else s)

/-- RTC_REPORT: 1,024 counts of the AO counter, presented while the lanes run (R486). -/
def execRtcReport (s : State) : Host.Outcome State Fault Refusal :=
  let r := (s.pwr.rtc + 1024) % 2 ^ 40
  let s := { s with pwr := { s.pwr with rtc := r } }
  .next (present 0x17 (8 :: wordsOf r 2) (.upd [(0x9E00A, wordOf r 0), (0x9E00B, wordOf r 1)] []) s)

/-- WAKE_EVENT (R478). -/
def execWakeEvent (cause idx : BitVec 4) (bankFail : BitVec 8) (multi : Bool) (s : State) :
    Host.Outcome State Fault Refusal :=
  .next (wakeStep cause.toNat idx.toNat bankFail multi s)

end Sys2Proof.Machine
end

