-- ==== Sys2Proof/Machine/Update.lean ====
section
/-! DEFINITION. Updating firmware and configuration, and the key store (R514 to R529). The functions for requests answer a
status code of R414. -/

namespace Sys2Proof.Machine

open Sys2Proof

/-- The update of the lanes together, or of the recovery service on one lane (R526). -/
def State.updOf (s : State) : Option Lane → Upd
  | none => s.upd
  | some .white => s.updWhite
  | some .black => s.updBlack

/-- Change one of the updates. -/
def State.modUpd (s : State) (r : Option Lane) (f : Upd → Upd) : State :=
  match r with
  | none => { s with upd := f s.upd }
  | some .white => { s with updWhite := f s.updWhite }
  | some .black => { s with updBlack := f s.updBlack }

/-- Change the NVM of the lanes that an update concerns: both, or that of the recovery service. -/
def State.modNvm (s : State) (r : Option Lane) (f : Nvm → Nvm) : State :=
  match r with
  | none => s.mapLanes fun g => { g with nvm := f g.nvm }
  | some l => s.modLane l fun g => { g with nvm := f g.nvm }

/-- The areas of one kind change. -/
def Nvm.modAreas (kind : Bool) (f : Areas → Areas) (n : Nvm) : Nvm :=
  if kind then { n with cfg := f n.cfg, programs := n.programs + 1 } else { n with fw := f n.fw, programs := n.programs + 1 }

/-- The areas of one kind. -/
def Nvm.areas (n : Nvm) (kind : Bool) : Areas := if kind then n.cfg else n.fw

/-- NVM programming that the host requests is refused as R47 states. -/
def updRefused (s : State) : Bool := nvmRefused s

/-- The LANES field that a request must carry: both lanes, or the lane that serves recovery alone (R516, R526). Bit 16
stands for White and bit 17 for Black. DEDUCED, assumption log 52. -/
def lanesField : Option Lane → Nat
  | none => 3
  | some .white => 1
  | some .black => 2

/-! ### Codes of registers (R528) -/

/-- PHASE. -/
def UpdPhase.code : UpdPhase → Nat
  | .none => 0 | .erasing => 1 | .receiving => 2 | .verifying => 3 | .verified => 4 | .activating => 5 | .confirmWait => 6
  | .failed => 7

/-- NVM_UPD_STATUS (R528); CONFIRM_S counts a second that has begun as a whole one. DEDUCED, assumption log 52. -/
def updStatusWord (s : State) (u : Upd) : Word :=
  let left := if u.stage = .health then (u.healthEnd - s.clock + 99999999) / 100000000 else 0
  Word.ofN (u.phase.code * 2 ^ 17 + flagAt u.kind 16 + u.result % 16 * 2 ^ 12 + flagAt u.fwReady 11 + flagAt u.cfgReady 10 +
    flagAt u.mixed 9 + flagAt u.fellBack 8 + flagAt u.cfgPend 7 + satTo 63 left)

/-- Word `i` of the update registers from 9F000h on (R528, R529). -/
def updWord (s : State) (u : Upd) (i : Nat) : Word :=
  match i with
  | 0 => updStatusWord s u
  | 1 => wordOf u.rcvd 0
  | 2 => wordOf u.rcvd 1
  | 3 => wordOf u.length 0
  | 4 => wordOf u.length 1
  | 5 => u.check
  | _ => 0

/-! ### Staging (R516, R517) -/

/-- An image length is legal for its kind (R516). -/
def updLengthOk (kind len : Nat) : Bool :=
  decide (len % 2 = 0) && decide (130 ≤ len) && decide (len ≤ if kind = 0 then 2097152 else 262144)

/-- UPD_BEGIN (R516). -/
def updBegin (r : Option Lane) (kind lanes len : Nat) (s : State) : Nat × State :=
  let u := s.updOf r
  if lanes ≠ lanesField r ∨ 1 < kind ∨ updLengthOk kind len = false then (stRange, s)
  else if u.stage ≠ .idle then (stBusy, s)
  else if updRefused s then (stState, s)
  else
    let k := decide (kind = 1)
    let s := s.modUpd r fun u =>
      { u with
        phase := .erasing, kind := k, result := 0, fwReady := u.fwReady && k, cfgReady := false, rcvd := 0, length := len,
        check := 0, octets := [], queued := 0, queueTime := s.ply.boundary, erasedW := false, erasedB := false,
        verifiedW := none, verifiedB := none }
    let s := s.modNvm r (Nvm.modAreas k fun a => { a with staging := none })
    (stOk, if r.isNone then laneRecord ⟨0x0E, 1, 0x9F000, Word.ofN kind, 0⟩ s else s)

/-- The erase of a lane's STAGING has ended (R516). -/
def updErased (r : Option Lane) (l : Lane) (s : State) : State :=
  s.modUpd r fun u =>
    if u.phase = .erasing then
      let u := match l with
        | .white => { u with erasedW := true }
        | .black => { u with erasedB := true }
      if r.isSome || (u.erasedW && u.erasedB) then { u with phase := .receiving } else u
    else u

/-- Octets still in the write queue: each ply programs 128 (R517). -/
def updQueued (s : State) (u : Upd) : Nat := u.queued - 128 * ((s.ply.boundary - u.queueTime) / 20000)

/-- Octets of words that carry two each, low octet first. -/
def wordOctets (ws : List Word) : List Nat := ws.flatMap fun w => [w.toNat % 256, w.toNat / 256 % 256]

/-- Octet `i` of an image, which is kept two octets to an entry, becomes `v`. -/
def setOctet (m : List (Nat × Nat)) (i v : Nat) : List (Nat × Nat) :=
  let w := Sparse.get (fun _ => 0) m (i / 2)
  Sparse.set (fun _ => 0) m (i / 2) (if i % 2 = 0 then w / 256 * 256 + v else w % 256 + 256 * v)

/-- UPD_DATA: `ws` carries two octets to a word from offset `off` on (R517). -/
def updData (r : Option Lane) (off : Nat) (ws : List Word) (s : State) : Nat × State :=
  let u := s.updOf r
  let last := off + 2 * ws.length
  if u.phase = .erasing then (stBusy, s)
  else if u.phase ≠ .receiving ∨ updRefused s = true then (stState, s)
  else if u.rcvd < off ∨ u.length < last then (stRange, s)
  else if off < u.rcvd ∧ last ≤ u.rcvd then (stOk, s)
  else
    let new := last - u.rcvd
    let q := updQueued s u
    if 32768 < q + new then (stBusy, s)
    else
      let os := ((wordOctets ws).drop (u.rcvd - off)).zipIdx.foldl (fun m p => setOctet m (u.rcvd + p.2) p.1) u.octets
      (stOk, (s.modNvm r Nvm.programmed).modUpd r fun u =>
        { u with rcvd := last, octets := os, queued := q + new, queueTime := s.ply.boundary })

/-! ### Verifying (R515, R518) -/

/-- Octet `i` of the staged image. -/
def Upd.octet (u : Upd) (i : Nat) : Nat := Sparse.get (fun _ => 0) u.octets (i / 2) / 2 ^ (8 * (i % 2)) % 256

/-- `n` octets from `i` on as a number, low octet first. -/
def Upd.number (u : Upd) (i : Nat) : Nat → Nat
  | 0 => 0
  | n + 1 => u.octet i + 256 * u.number (i + 1) n

/-- The staged image as an area holds it: its identity and its state formats (R515). -/
def Upd.image (u : Upd) : Image :=
  { ident := u.number 4 3 + 2 ^ 24 * u.number 8 4 + 2 ^ 56 * u.number 20 32, formatHi := u.number 12 2,
    formatLo := u.number 14 2, confirmed := false }

/-- The state format of the firmware that a lane runs. -/
def runningFormat (g : LaneSt) : Nat :=
  ((if g.slot = 1 then g.nvm.fw.fallback else g.nvm.fw.active).map Image.formatHi).getD 0

/-- Key slot `k` holds a key (R527). -/
def keyHeld (s : State) (k : Nat) : Bool := s.keys.any fun p => decide (p.1 = k)

/-- The fixed octets of the header and the product code (R515). DEDUCED, assumption log 53. -/
def Upd.headerOk (u : Upd) : Bool :=
  decide (u.number 0 4 = 0x49584843) && decide (u.number 4 2 = 0x0176) && decide (u.octet 6 = u.kind.toNat) &&
    decide (u.octet 7 = 0) && decide (u.number 52 12 = 0) && (!u.kind || decide (u.number 12 4 = 0))

/-- RESULT of a lane's check, stopping at the first failure (R518, R527). -/
def updCheck (s : State) (u : Upd) (l : Lane) (digestOk signatureOk checkerOk : Bool) : Nat :=
  let f := runningFormat (s.lane l)
  if u.headerOk = false then 4
  else if u.number 16 4 + 128 ≠ u.length then 5
  else if digestOk = false then 2
  else if signatureOk = false ∨ (u.kind = true ∧ keyHeld s 6 = false) then 3
  else if u.kind then (if checkerOk then 1 else 6)
  else if u.number 14 2 ≤ f ∧ f ≤ u.number 12 2 then 1 else 0xA

/-- UPD_VERIFY (R518). -/
def updVerify (r : Option Lane) (s : State) : Nat × State :=
  let u := s.updOf r
  if u.phase ≠ .receiving ∨ u.rcvd ≠ u.length then (stState, s)
  else (stOk, s.modUpd r fun u => { u with phase := .verifying, verifiedW := none, verifiedB := none })

/-- RESULT of the two lanes' codes, White's first (R518). -/
def updResult (w b : Nat) : Nat := if w ≠ b then 7 else w

/-- A lane's result has come; the last one decides (R518, R556). -/
def updVerified (r : Option Lane) (l : Lane) (code : Nat) (checkAt : Word) (s : State) : State :=
  let u := s.updOf r
  if u.phase ≠ .verifying then s
  else
    let u := match l with
      | .white => { u with verifiedW := some code }
      | .black => { u with verifiedB := some code }
    let u := if code = 6 then { u with check := checkAt } else if u.check = 0 then { u with check := 0xFFFFF } else u
    let res := match r, u.verifiedW, u.verifiedB with
      | some _, some w, none => some w
      | some _, none, some b => some b
      | _, some w, some b => some (updResult w b)
      | _, _, _ => none
    match res with
    | none => s.modUpd r fun _ => u
    | some v =>
      let ok := decide (v = 1)
      let s := s.modUpd r fun _ =>
        { u with
          phase := if ok then .verified else .failed, result := v, fwReady := u.fwReady || (ok && !u.kind),
          cfgReady := u.cfgReady || (ok && u.kind) }
      let s := if ok then s.modNvm r (Nvm.modAreas u.kind fun a => { a with staging := some u.image }) else s
      if r.isNone then laneRecord ⟨0x0E, 2, 0x9F000, Word.ofN u.kind.toNat, Word.ofN v⟩ s else s

/-! ### Activation (R519 to R526) -/

/-- STAGING becomes ACTIVE and the old ACTIVE becomes FALLBACK (R520); the old FALLBACK's area is the next STAGING. -/
def Areas.swap (a : Areas) : Areas := { active := a.staging, staging := a.fallback, fallback := a.active }

/-- The roles of a lane's areas swap for every READY kind, or revert (R520, R524). -/
def swapImages (u : Upd) (g : LaneSt) : LaneSt :=
  if u.reverting then revertImages u g
  else
    { g with nvm := { g.nvm with
        fw := if u.fwReady then g.nvm.fw.swap else g.nvm.fw, cfg := if u.cfgReady then g.nvm.cfg.swap else g.nvm.cfg,
        programs := g.nvm.programs + 1 } }

/-- New images are confirmed, and STAGING is freed (R523). -/
def Areas.confirm (a : Areas) : Areas := { a with active := a.active.map fun i => { i with confirmed := true }, staging := none }

/-- The staged firmware accepts the state format of the firmware that runs (R519). -/
def formatAccepted (s : State) : Bool :=
  !s.upd.fwReady ||
    match activeLane s with
    | none => false
    | some l =>
      match (s.lane l).nvm.fw.staging with
      | none => false
      | some i => decide (i.formatLo ≤ runningFormat (s.lane l)) && decide (runningFormat (s.lane l) ≤ i.formatHi)

/-- UPD_ACTIVATE (R519). -/
def updActivate (lanes : Nat) (s : State) : Nat × State :=
  let u := s.upd
  if lanes ≠ 3 then (stRange, s)
  else if u.stage ≠ .idle then (stBusy, s)
  else if (!u.fwReady && !u.cfgReady) || !covered s || denRunning s || s.pwr.entering || !formatAccepted s || updRefused s then
    (stState, s)
  else
    let l := (standbyLane s).getD .black
    (stOk, laneRecord ⟨0x0E, 3, 0x9F000, Word.ofN (flagAt u.fwReady 11 + flagAt u.cfgReady 10), 0⟩
      { s with upd := { u with phase := .activating, stage := .ordered, firstLane := l, reverting := false, fellBack := false } })

/-- UPD_ACTIVATE through the recovery service: the image is confirmed at once, and the lane restarts (R526). -/
def recoveryActivate (l : Lane) (lanes : Nat) (s : State) : Nat × State :=
  let u := s.updOf (some l)
  if lanes ≠ lanesField (some l) then (stRange, s)
  else if (!u.fwReady && !u.cfgReady) || updRefused s then (stState, s)
  else
    let act := fun (ready : Bool) (a : Areas) => if ready then a.swap.confirm else a
    let s := s.modLane l fun g => { g with nvm := { g.nvm with
      fw := act u.fwReady g.nvm.fw, cfg := act u.cfgReady g.nvm.cfg, programs := g.nvm.programs + 1 } }
    let s := s.modUpd (some l) fun _ => { Upd.reset with result := 1 }
    (stOk, if (activeLane s).isSome then laneReset l .update s else s.modUpd (some l) fun u => { u with recovery := true })

/-- UPD_CONFIRM (R523). -/
def updConfirm (s : State) : Nat × State :=
  let u := s.upd
  if u.stage ≠ .health ∨ updRefused s = true then (stState, s)
  else
    let act := fun (ready : Bool) (a : Areas) => if ready then a.confirm else a
    let s := s.mapLanes fun g => { g with nvm := { g.nvm with
      fw := act u.fwReady g.nvm.fw, cfg := act u.cfgReady g.nvm.cfg, programs := g.nvm.programs + 1 } }
    (stOk, laneRecord ⟨0x0E, 5, 0x9F000, 0, 0⟩ (endUpdate .none 1 s))

/-- The lane that restarts for the update is ready: the update castling begins (R521). -/
def updReady (l : Lane) (s : State) : State :=
  if s.upd.stage = .first ∧ s.upd.firstLane = l then
    { s with upd := { s.upd with stage := .castling, pauseFrom := s.ply.boundary } }
  else s

/-- The ply in whose phase C the handover of the update castling is sent: the second after the ready input's (R521). -/
def updHandover (s : State) : Bool :=
  decide (s.upd.stage = .castling) && !s.lanes.handed && decide (s.upd.pauseFrom + 40000 ≤ s.ply.boundary)

/-- What an activation does at a ply boundary (R520, R521, R524). -/
def updBoundary (s : State) : State :=
  let u := s.upd
  match u.stage with
  | .ordered =>
    match standbyLane s with
    | none => s
    | some l =>
      laneReset l .update
        ({ s with upd := { u with stage := .first, firstLane := l, mixed := true } }.modLane l (swapImages u))
  | .castling =>
    if s.lanes.handed then
      let l := u.firstLane
      let s := laneOut (otherLane l) 4 (s.modLane l fun g => { g with role := .active, joinStage := 0, boot := .started })
      { s with
        upd := { s.upd with stage := .paused, pauseFrom := s.ply.boundary },
        lanes := { s.lanes with handed := false, castlings := satTo 0x3FF (s.lanes.castlings + 1) } }
    else s
  | .second =>
    if u.pauseFrom < s.ply.boundary then
      let l := otherLane u.firstLane
      laneReset l .update ({ s with upd := { u with stage := .joining } }.modLane l (swapImages u))
    else s
  | _ => s

/-- CONVERSION_COMPLETE: the new active lane resumes, in this ply where its phase B has not begun (R521, R556). -/
def updResume (l : Lane) (s : State) : State :=
  if s.upd.stage = .paused ∧ activeLane s = some l then
    let here := decide (s.ply.phase = .a)
    let n := (s.ply.boundary - s.upd.pauseFrom) / 20000 + if here then 0 else 1
    laneRecord ⟨0x0E, 4, 0x9F000, laneWord l, Word.ofN n⟩
      { s with upd := { s.upd with stage := .second, pauseFrom := if here then s.ply.boundary else s.ply.boundary + 20000 } }
  else s

/-- The second lane has joined on the new image: the health window opens, or a fallback has ended (R520, R524). -/
def updJoined (s : State) : State :=
  if s.upd.stage = .joining then
    if s.upd.reverting then endUpdate .failed s.upd.result s
    else { s with upd := { s.upd with
      mixed := false, phase := .confirmWait, stage := .health, healthEnd := s.clock + 3000000000 } }
  else s

/-! ### Configuration differences (R525) -/

/-- The command target that a register write at Board address `a` goes to; none outside the units. -/
def cmdTarget (s : State) (a : Nat) : Option Nat :=
  if a < 0x80000 then none
  else if a < 0x81600 then some ((a - 0x80000) / 512)
  else if a < 0x82000 then none
  else if a < 0x82580 then some ((a - 0x82000) / 128)
  else if a < 0x84000 then none
  else if a < 0x86000 then some fioT
  else if a < 0x88000 then some lgtT
  else if a < 0x88020 then some accT
  else if a < 0x88040 then some denT
  else if a < 0x8A000 then some accT
  else if a < 0x90000 then none
  else if a < 0x98000 then
    let b := busOfAddr s a
    if b < 28 then some (busT b) else none
  else none

/-- The partner of channel `n` in a redundant pair, in the lanes' copy (R180). -/
def pairOf (s : State) (n : Nat) : Option Nat :=
  let g := s.copyReg (chanAddr n 7)
  if g.field 19 18 = 2 ∧ g.field 17 10 < 176 then some (g.field 17 10) else none

/-- The addresses at which a write to a channel or tile register is emitted: both members of a redundant pair for the
registers of R180, the lower-numbered first. -/
def emitAddrs (s : State) (a : Nat) : List Nat :=
  if a < 0x81600 ∧ (a % 32 = 0 ∨ a % 32 = 4 ∨ a % 32 = 5 ∨ a % 32 = 6 ∨ a % 32 = 8) then
    let n := (a - 0x80000) / 32
    match pairOf s n with
    | some p => [chanAddr (min n p) (a % 32), chanAddr (max n p) (a % 32)]
    | none => [a]
  else [a]

/-- The programs of a configuration image reach the local-program cores, which start STOPPED; core 0 is always a firmware core (R489,
R490). -/
def loadPrograms (ps : List (Nat × List Word)) (s : State) : State :=
  (ps.filter fun p => decide (0 < p.1 ∧ p.1 < 24)).foldl (fun s p => s.modCore p.1 fun k =>
    { k with
      localProg := true, program := p.2.zipIdx.foldl (fun m q => Sparse.set (fun _ => 0) m q.2 q.1) [],
      state := if p.2.isEmpty then .unloaded else if k.state = .unloaded ∨ k.localProg = false then .stopped else k.state }) s

/-- A core takes the firmware and runs it (R489, R490). -/
def Kwask.firmware (k : Kwask) : Kwask := { k with localProg := false, state := .running, done := true }

/-- The local-program cores that an activated image does not name run firmware from then on (R489, R525). -/
def freeCores (i : ConfigImage) (s : State) : State :=
  (List.range 24).foldl (fun s c =>
    if (s.core c).localProg && !(i.programs.map (·.1)).contains c then s.modCore c Kwask.firmware else s) s

/-- The lanes' own registers take a configuration value; the access tables take it in use and in their shadow. -/
def configReg (a : Nat) (v : Word) (s : State) : State :=
  if 0x9B000 ≤ a ∧ a < 0x9BD80 then
    let s := tableWrite a v s
    { s with tables := Sparse.set (fun _ => 0) s.tables a (Sparse.get (fun _ => 0) s.shadow a) }
  else if a = 0x99000 then s.setCopy a (v &&& 0xFFE00)
  else if 0x9AC00 ≤ a ∧ a < 0x9AD80 then s.setCopy a (v &&& 0xFFF80)
  else if a < 0x81600 ∧ a % 32 = 7 then
    { s.setCopy a (regWrite a (s.copyReg a) v) with lanes := { s.lanes with
      groups := Sparse.set (fun _ => 0) s.lanes.groups ((a - 0x80000) / 32) (v &&& 0xFFC00) } }
  else if a = 0x9D001 then
    { s with lanes := { s.lanes with joinEn := v.bit 18, wdt := v.field 13 8 } }
  else s.setCopy a (regWrite a (s.copyReg a) v)

/-- A target would refuse the write in its present state. -/
def wouldRefuse (s : State) (t a : Nat) (v : Word) : Bool :=
  decide ((s.tgt t).refusals.length < ((targetWrite t a v s).tgt t).refusals.length)

/-- The configuration differences are written to the targets that take them now; CFG_PEND shows the others (R525,
R556). DEDUCED, assumption log 54. -/
def writeDiffs (s : State) : State :=
  if s.upd.diffs.isEmpty then s
  else
    let held := s.upd.diffs.filter fun p => match cmdTarget s p.1 with | some t => wouldRefuse s t p.1 p.2 | none => false
    let now := s.upd.diffs.filter fun p => !held.contains p
    let was := s.upd.cfgPend
    let s := emit (now.flatMap fun p => (emitAddrs s p.1).filterMap fun b =>
      (cmdTarget s b).map fun t => (t, Content.write (Word.ofN b) p.2)) s
    let s := { s with upd := { s.upd with diffs := held, cfgPend := !held.isEmpty } }
    let shown := now.flatMap fun p => (emitAddrs s p.1).map fun b => (30, b, p.2)
    let s := { s with ply := { s.ply with writes := s.ply.writes ++ shown } }
    if was && held.isEmpty then laneRecord ⟨0x0E, 8, 0x9F000, 0, 0⟩ s else s

/-- The register values of a new image: those that it lists, and the reset values of those that the image before it listed. -/
def imageRegs (i : ConfigImage) (before : Option ConfigImage) : List (Word × Word) :=
  let old := (before.map (·.regs)).getD []
  i.regs ++ (old.filter fun p => !(i.regs.map (·.1)).contains p.1).map fun p => (p.1, regReset p.1.toNat)

/-- KIND and PARTNER of CH_GROUP as the register values of an image set them (R192, R557). -/
def imageGroups (regs : List (Word × Word)) (m : List (Nat × Word)) : List (Nat × Word) :=
  regs.foldl (fun m p =>
    if 0x80000 ≤ p.1.toNat ∧ p.1.toNat < 0x81600 ∧ p.1.toNat % 32 = 7 then
      Sparse.set (fun _ => 0) m ((p.1.toNat - 0x80000) / 32) (p.2 &&& 0xFFC00)
    else m) m

/-- The new lane resumes after the update castling on a new configuration, whose configuration-only fields hold from then on
(R525, R557). -/
def resumeConfig (s : State) : State :=
  match s.upd.cfg with
  | none => s
  | some i =>
    let regs := imageRegs i (s.lane (otherLane ((activeLane s).getD s.upd.firstLane))).cfgImage
    let s := { s with upd := { s.upd with cfg := none }, lanes := { s.lanes with groups := imageGroups regs s.lanes.groups } }
    let units := regs.filter fun p => (cmdTarget s p.1.toNat).isSome
    let own := regs.filter fun p => (cmdTarget s p.1.toNat).isNone
    let s := own.foldl (fun s p => configReg p.1.toNat p.2 s) s
    let diffs := units.filterMap fun p =>
      let m := Word.ofN (regInfo p.1.toNat).rw
      if s.copyReg p.1.toNat &&& m = p.2 &&& m then none else some (p.1.toNat, p.2)
    loadPrograms i.programs (freeCores i { s with upd := { s.upd with diffs := diffs } })

/-- What an activation does at the start of phase B, before the host step (R521, R525). -/
def updPhaseB (s : State) : State := if s.upd.stage = .paused then s else writeDiffs (resumeConfig s)

/-! ### Keys (R527) -/

/-- Words that a wrapped key has in its slot, none for a slot that is not listed (R527). -/
def keyWords (slot : Nat) : Option Nat :=
  if 1 ≤ slot ∧ slot ≤ 4 then some 20 else if slot = 5 then some 12 else if slot = 6 then some 36 else none

/-- INTEGRITY. -/
def stIntegrity : Nat := 9

/-- KEY_LOAD: the payload length is checked against the slot before anything else of the slot (R415, R527). -/
def keyLoad (slot : Nat) (ws : List Word) (s : State) : Nat × State :=
  match keyWords slot with
  | none => (if slot = 0 then stState else stRange, s)
  | some n =>
    if ws.length ≠ n then (stLength, s)
    else if updRefused s then (stState, s)
    else match unwrapKey Config.transportKey (wordOctets ws) with
      | none => (stIntegrity, s)
      | some k => (stOk, laneRecord ⟨0x0E, 7, 0x9F000, Word.ofN slot, 0⟩ { s with keys := Sparse.put s.keys slot k })

/-! ### Events -/

/-- The lane serves recovery: it is OUT or stays in boot code (R526). -/
def serves (s : State) (l : Lane) : Bool :=
  (s.lane l).role = .out && ((s.lane l).boot = .started || (s.lane l).boot = .stuck)

/-- The recovery service of a lane has an update in a phase. -/
def recoveryIn (s : State) (l : Lane) (p : UpdPhase) : Bool := serves s l && decide ((s.updOf (some l)).phase = p)

/-- ERASE_COMPLETE (R516). -/
def execEraseComplete (l : Lane) (s : State) : Host.Outcome State Fault Refusal :=
  .next (
    if recoveryIn s l .erasing then updErased (some l) l s else present 0x3E [0x00020, laneWord l, 0] (.erased l) s)

/-- LANE_READY (R521). -/
def execLaneReady (l : Lane) (s : State) : Host.Outcome State Fault Refusal :=
  .next (present 0x3E [0x00022, laneWord l, 0] (.ready l) s)

/-- CONVERSION_COMPLETE (R521). -/
def execConversionComplete (l : Lane) (s : State) : Host.Outcome State Fault Refusal := .next (updResume l s)

/-- HEALTH_WINDOW_EXPIRY (R524): the standby swaps first. -/
def execHealthWindowExpiry (s : State) : Host.Outcome State Fault Refusal :=
  .next (if s.upd.stage = .health then fallBack .ordered ((standbyLane s).getD .black) 8 s else s)

/-- RECOVERY_RESET (R526). -/
def execRecoveryReset (s : State) : Host.Outcome State Fault Refusal :=
  .next (
    if (activeLane s).isNone && (s.updWhite.recovery || s.updBlack.recovery) then moduleReset 3 0xC s else s)

end Sys2Proof.Machine
end

