-- ==== Sys2Proof/Machine/Points.lean ====
section
/-! DEFINITION. Reading and writing one point of the Board for a master that the checks have passed (R11, R122 to R127, R154,
R235, R376, R509, R557). -/

namespace Sys2Proof.Machine

open Sys2Proof

/-! ### Registers that the lanes compute (R72 to R75, R115 to R121, R437 to R441, R458 to R462, R510 to R513) -/

/-- ROLE and PEER codes (R115). -/
def Role.code : Role → Nat
  | .active => 0 | .standby => 1 | .joining => 2 | .out => 3

/-- LANE_ROLE of a lane (R115). -/
def laneRoleWord (s : State) (l : Lane) : Word :=
  let g := s.lane l
  let heard := (s.lanes.xa || s.lanes.xb) && !s.white.stale && !s.black.stale
  let peer := if heard then (s.lane (otherLane l)).role.code else 3
  Word.ofN (laneCode l * 2 ^ 19 + g.role.code * 2 ^ 17 + peer * 2 ^ 15 + flagAt (covered s) 14 + flagAt s.lanes.xa 13 +
    flagAt s.lanes.xb 12 + flagAt s.lanes.divLock 11 + flagAt g.isolated 10 + flagAt s.lanes.castle.isSome 9 +
    g.joinStage % 8 * 2 ^ 6 + g.probation % 32)

/-- LANE_HEALTH of a lane (R119). -/
def laneHealthWord (s : State) (l : Lane) : Word :=
  Word.ofN (satTo 0xF s.lanes.diverges * 2 ^ 16 + satTo 0xFF (s.lane l).maxB * 2 ^ 8 + satTo 0xFF (s.lane l).late)

/-- The lane registers from 9D000h on as lane `l` shows them (R115 to R120): a lane that is not in step computes no plies and shows
LANE_AGREED and LANE_PLY at their reset values (R424). DESIGN CHOICE, assumption log 24. -/
def laneRegWord (s : State) (l : Lane) (off : Nat) : Word :=
  match off with
  | 0 => laneRoleWord s l
  | 1 => Word.ofN (flagAt s.lanes.joinEn 18 + s.lanes.wdt % 64 * 2 ^ 8)
  | 2 | 3 | 4 => if (s.lane l).inStep then wordOf s.seq.agreed (off - 2) else 0
  | 5 | 6 | 7 => if (s.lane l).inStep then wordOf s.ply.number (off - 5) else 0
  | 8 | 9 | 10 => wordOf s.lanes.promoPly (off - 8)
  | 11 => Word.ofN (satTo 0x3FF s.lanes.promotions * 2 ^ 10 + satTo 0x3FF s.lanes.castlings)
  | 12 => laneHealthWord s l
  | 13 => Word.ofN (satTo 0x3FF (s.lane l).xaErr * 2 ^ 10 + satTo 0x3FF (s.lane l).xbErr)
  | _ => 0

/-- PWR_START_STATUS of a lane (R73). -/
def startStatusWord (s : State) (l : Lane) : Word := (s.lane l).startStatus.setBit 19 (laneCode l = 1)

/-- PWR_EPOCH: the epoch of the current start. After a carry it changes with the number of the present ply, which its marker
carries; the journals change where the carry is numbered (R74, R84). DESIGN CHOICE, assumption log 80. -/
def epochWord (s : State) : Word := Word.ofN (s.ply.number / 2 ^ 40)

/-- FAB-ANA is good: no row says when the rail, once lost, is good again, before it has been so for 400 µs (R54, R75).
DESIGN CHOICE, assumption log 85. -/
def fabAnaGood (s : State) : Bool := s.sup.fabAna || (s.sup.tilesOk && Config.railBack s.clock)

/-- All tile rails are good: no row says when a tile's rail is good again after its brown-out, before a lane has claimed the tile
(R56, R75). DESIGN CHOICE, assumption log 85. -/
def tilesGood (s : State) : Bool := s.sup.tilesOk && s.sup.tileLow.all fun t => Config.tileRailBack s.clock t

/-- PWR_RAIL_STATUS (R75). -/
def railWord (s : State) : Word :=
  let p := s.sup
  Word.ofN (flagAt p.vlogA.ok 19 + flagAt p.vlogB.ok 18 + flagAt p.vlogA.red 17 + flagAt p.vlogB.red 16 + flagAt p.vpwrA.ok 15 +
    flagAt p.vpwrA.low 14 + flagAt p.vpwrB.ok 13 + flagAt p.vpwrB.low 12 + flagAt s.white.coreOk 11 + flagAt s.white.ioOk 10 +
    flagAt s.white.anaOk 9 + flagAt s.black.coreOk 8 + flagAt s.black.ioOk 7 + flagAt s.black.anaOk 6 + flagAt (fabAnaGood s) 5 +
    flagAt (tilesGood s) 4 + flagAt p.aoLp 3 + flagAt p.lpbo 2)

/-- The power registers from 9E000h on (R72 to R75, R481 to R487). -/
def pwrRegWord (s : State) (l : Lane) (off : Nat) : Word :=
  match off with
  | 0 => (s.lane l).resetCause
  | 1 => startStatusWord s l
  | 2 => epochWord s
  | 3 => railWord s
  | 4 => pwrStateWord s
  | 5 => 0
  | 7 => s.pwr.wakeStatus
  | 9 => Word.ofN s.pwr.parkMinutes
  | 15 => let sel := s.copyReg 0x9E00E; retWord s (sel.field 19 17) (sel.field 10 0)
  | _ => s.copyReg (0x9E000 + off)

/-- A word of a port's Ethernet address: that of the configuration image where it lists one, the factory's otherwise (R407, R438).
DESIGN CHOICE, assumption log 89. -/
def portMacWord (g : LaneSt) (l : Lane) (k : Nat) : Word :=
  match g.portRegs.find? fun p => decide (p.1 = 0x98002 + k) with
  | some p => p.2
  | none => Word.ofN (Config.factoryMac (laneCode l) / 2 ^ (16 * k) % 2 ^ 16)

/-- A port's Ethernet address, with its first octet the least significant (R407, R438). -/
def portMac (g : LaneSt) (l : Lane) : Nat :=
  ((List.range 3).map fun k => (portMacWord g l k).toNat % 2 ^ 16 * 2 ^ (16 * k)).sum

/-- A configuration register of a port (R437, R438). -/
def portReg (g : LaneSt) (a : Nat) : Word := Sparse.get regReset g.portRegs a

/-- The signal quality of a link that is up, from 1 to 7, taken anew every 10 ms (R437). -/
def linkSqi (s : State) (l : Lane) : Nat := 1 + Config.linkQuality (laneCode l) (s.clock / 1000000) % 7

/-- HOST_LINK of a lane (R437). -/
def linkWord (s : State) (l : Lane) : Word :=
  let g := s.lane l
  Word.ofN (flagAt g.linkUp 19 + flagAt (g.linkUp && (portReg g 0x9800A).bit 19) 18 +
    (if g.linkUp then linkSqi s l else 0) * 2 ^ 8 + satTo 0xFF g.linkLosses)

/-- Port counter `i` of R439. -/
def LaneSt.portCount (g : LaneSt) (i : Nat) : Nat := Sparse.get (fun _ => 0) g.portCounts i

/-- One more, or `n` more, on port counter `i`. -/
def LaneSt.countPort (g : LaneSt) (i n : Nat) : LaneSt :=
  { g with portCounts := Sparse.set (fun _ => 0) g.portCounts i (satTo 0xFFFFF (g.portCount i + n)) }

/-- The session in table entry `k`. -/
def sessionAt (s : State) (k : Nat) : Option Session := (s.host.sessions.find? fun p => decide (p.1 = k)).map (·.2)

/-- Word `i` of HOST_SESS[k] (R441). -/
def sessionWord (s : State) (k i : Nat) : Word :=
  match sessionAt s k with
  | none => 0
  | some x =>
    match i with
    | 0 => Word.ofN (flagAt (!x.pending) 19 + flagAt x.pending 18 + flagAt x.secure 17 + x.handle % 2 ^ 16)
    | 1 => Word.ofN (satTo 0x3FF ((s.ply.boundary - x.lastExec) / 100000000) * 2 ^ 10 + x.keyIdx % 4)
    | _ => wordOf x.high (i - 2)

/-- The HOST range as lane `l` shows it (R437 to R441). -/
def hostRegWord (s : State) (l : Lane) (a : Nat) : Word :=
  let g := s.lane l
  if a = 0x98000 then linkWord s l
  else if 0x98002 ≤ a ∧ a < 0x98005 then portMacWord g l (a - 0x98002)
  else if 0x98020 ≤ a ∧ a < 0x98028 then Word.ofN (g.portCount (a - 0x98020))
  else if a < 0x99000 then portReg g a
  else if a = 0x99000 then s.copyReg a
  else if a = 0x99001 then Word.ofN (satTo 0xFF s.white.txq.length * 2 ^ 12 + satTo 0xFF s.black.txq.length * 2 ^ 4)
  else if 0x99010 ≤ a ∧ a < 0x99030 then sessionWord s ((a - 0x99010) / 4) (a % 4)
  else 0

/-- The MBX range (R447, R456 to R462). -/
def mbxRegWord (s : State) (a : Nat) : Word :=
  if a < 0x9AC00 then
    let k := (a - 0x9A000) / 64
    (queueWord (s.box k) (a % 64 / 8) (a % 8)).getD (Word.ofN (Config.windowWord s.free a))
  else if a < 0x9AD80 then
    let k := (a - 0x9AC00) / 8
    match a % 8 with
    | 0 => mbxCfg s k
    | 2 => Word.ofN (flagAt (s.box k).wait 19)
    | 3 => sstatWord (s.box k)
    | 4 => rstatWord (s.box k)
    | 5 => lenWord (s.box k) 0
    | 6 => lenWord (s.box k) 1
    | _ => 0
  else if 0x9AE00 ≤ a ∧ a < 0x9AF80 then s.copyReg a
  else if a = 0x9AFF0 then s.copyReg a
  else if a = 0x9AFF1 then Word.ofN (satTo 0x3FF s.mbx.stalemates * 2 ^ 10 + satTo 0x3FF s.mbx.aborts)
  else 0

/-- The ARB range (R136, R146 to R150). -/
def arbRegWord (s : State) (l : Lane) (m a : Nat) : Word :=
  let g := s.lane l
  if a < 0x9BD80 then
    let o := a - 0x9B000
    tableWord s.shadow (o / 0xC0) (o % 0xC0 / 3) (o % 0xC0 % 3)
  else if a = 0x9BE00 then Word.ofN (flagAt (shadowDirty s) 18)
  else if 0x9BE02 ≤ a ∧ a ≤ 0x9BE08 then latchedCounter g m (a - 0x9BE02)
  else if 0x9BE10 ≤ a ∧ a ≤ 0x9BE21 then lockWord g (a - 0x9BE10)
  else if a = 0x9BE01 ∨ (0x9BE40 ≤ a ∧ a < 0x9BE60) then s.copyReg a
  else 0

/-- The SCO range (R121, R541). -/
def scoRegWord (s : State) (l : Lane) (m a : Nat) : Word :=
  if a = 0x9C000 then wordOf (timeBase s l) 0
  else if a = 0x9C001 ∨ a = 0x9C002 then
    (Sparse.get (fun _ => ([] : List Word)) (s.lane l).timeLatch m).getD (a - 0x9C000) 0
  else if 0x9C003 ≤ a ∧ a < 0x9C006 then wordOf s.ply.boundary (a - 0x9C003)
  else s.copyReg a

/-- STATE of KW_STATUS (R511). -/
def CoreState.code : CoreState → Nat
  | .running => 0 | .stopped => 1 | .sleeping => 2 | .unloaded => 3

/-- The registers of core `c` (R509 to R513). -/
def coreRegWord (s : State) (c off : Nat) : Word :=
  let k := s.core c
  match off with
  | 1 => Word.ofN (k.state.code * 2 ^ 18 + flagAt k.localProg 17 + k.cause % 16 * 2 ^ 13 + k.lastFlags.toNat % 32 * 2 ^ 8)
  | 2 | 3 => s.copyReg (0x9D100 + 8 * c + off)
  | 4 => Word.ofN (if k.state = .running then satTo 0xFFFF k.lastUsed else 0)
  | 5 => Word.ofN (satTo 0xFFFF k.usedMax)
  | 6 => Word.ofN (satTo 0x3FF k.stops * 2 ^ 10 + satTo 0x3FF k.resets)
  | _ => 0

/-- The lifetime registers of channel `n` (R221, R232): a second is 25,000 samples, and a watt-hour is 3,600 J of the class's
current unit times 100 µV times 40 µs. -/
def lifeWord (s : State) (n off : Nat) : Word :=
  let x := s.lifeOf n
  let cap := fun v => min v (2 ^ 40 - 1)
  let perWh := if classOf n = 0 then 3600 * 10 ^ 12 else if classOf n = 1 then 14400 * 10 ^ 12 else 57600 * 10 ^ 12
  match off with
  | 0x14 => Word.ofN x.trips
  | 0x15 => Word.ofN (x.thermal * 2 ^ 10 + x.latches)
  | 0x16 => wordOf (cap x.cyc) 0
  | 0x17 => wordOf (cap x.cyc) 1
  | 0x18 => wordOf (cap (x.onSamples / 25000)) 0
  | 0x19 => wordOf (cap (x.onSamples / 25000)) 1
  | 0x1A => wordOf (cap (x.energy / perWh)) 0
  | _ => wordOf (cap (x.energy / perWh)) 1

/-- The registers of a DMA engine (R271). -/
def dmaRegWord (s : State) (e off : Nat) : Word :=
  let d := s.dma e
  match off with
  | 0 => Word.ofN (flagAt d.busy 17 + flagAt d.done 16 + flagAt d.err 15)
  | 5 => Word.ofN d.moved
  | _ => s.copyReg (0x8C900 + 8 * e + off)

/-- Stream-memory address of a point of the window for master `m` (R125). -/
def windowAddr (s : State) (m a : Nat) : Nat := streamBank s m * 0x20000 + (a - 0x60000)

/-- The value that master `m` reads at a point of lane `l`'s Board. -/
def pointValue (l : Lane) (m a : Nat) (s : State) : Word :=
  if a < 0x20000 then 0
  else if a < 0x60000 then s.sramWord a
  else if a < 0x80000 then Sparse.get (fun _ => 0) (s.lane l).streamMem (windowAddr s m a)
  else if a < 0x81600 then
    (if 0x14 ≤ a % 32 ∧ a % 32 ≤ 0x1B then lifeWord s ((a - 0x80000) / 32) (a % 32) else s.copyReg a)
  else if a < 0x8C900 then s.copyReg a
  else if a < 0x8C920 then dmaRegWord s ((a - 0x8C900) / 8) (a % 8)
  else if a < 0x98000 then s.copyReg a
  else if a < 0x9A000 then hostRegWord s l a
  else if a < 0x9B000 then mbxRegWord s a
  else if a < 0x9C000 then arbRegWord s l m a
  else if a < 0x9D000 then scoRegWord s l m a
  else if a < 0x9D100 then laneRegWord s l (a % 0x100)
  else if a < 0x9D1C0 then coreRegWord s ((a - 0x9D100) / 8) (a % 8)
  else if a < 0x9D400 then 0
  else if a < 0x9D800 then Word.ofN (Config.windowWord s.free a)
  else if a < 0x9E000 then 0
  else if a < 0x9E010 then pwrRegWord s l (a % 0x1000)
  else if a < 0x9F000 then 0
  else if a < 0x9F006 then updWord s s.upd (a % 0x1000)
  else if a < 0x9F800 then Word.ofN (Config.windowWord s.free a)
  else 0

/-! ### Side effects of a read (R11, R119, R121, R148) -/

/-- RC fields in the copy, and in the unit that holds them. -/
def clearRc (a : Nat) (s : State) : State :=
  let v := s.copyReg a
  let s := if regAfterRead a v = v then s else s.setCopy a (regAfterRead a v)
  let u := s.liveReg a
  if regAfterRead a u = u then s else s.setLive a (regAfterRead a u)

/-- What a read by master `m` does to one lane's own state. -/
def touchLane (m a : Nat) (s : State) (l : Lane) : State :=
  if a = 0x9BE02 then latchCounters l m s
  else if a = 0x9C000 then latchTime l m s
  else if 0x98020 ≤ a ∧ a < 0x98028 then
    s.modLane l fun g => { g with portCounts := Sparse.set (fun _ => 0) g.portCounts (a - 0x98020) 0 }
  else if a = 0x9D00C then s.modLane l fun g => { g with maxB := 0, late := 0 }
  else if a = 0x9D00D then s.modLane l fun g => { g with xaErr := 0, xbErr := 0 }
  else s

/-- The side effects of a read by master `m` in the lanes `ls`. -/
def pointTouch (ls : List Lane) (m a : Nat) (s : State) : State :=
  let s := ls.foldl (touchLane m a) s
  if 0x80000 ≤ a ∧ a < 0x98000 then clearRc a s
  else if 0x9AC00 ≤ a ∧ a < 0x9AD80 ∧ a % 8 = 3 then sstatRead ((a - 0x9AC00) / 8) s
  else if 0x9D100 ≤ a ∧ a < 0x9D1C0 ∧ a % 8 = 5 then s.modCore ((a - 0x9D100) / 8) fun k => { k with usedMax := 0 }
  else if (0x9A000 ≤ a ∧ a < 0x9AC00) ∨ (0x9D400 ≤ a ∧ a < 0x9D800) ∨ (0x9F006 ≤ a ∧ a < 0x9F800) then
    { s with free := s.free + 1 }
  else s

/-- The value of a read on lane `v`: that of ARB_GRANTS[0] latches the words it returns (R148). -/
def readValue (v : Lane) (m a : Nat) (s : State) : Word :=
  pointValue v m a (if a = 0x9BE02 then latchCounters v m s else s)

/-- A read by the lanes that compute: the value in lane `v`, and the state after the reads. -/
def readOn (v : Lane) (m a : Nat) (s : State) : Word × State := (readValue v m a s, pointTouch (computing s) m a s)

/-- A read of a master of the lanes: the value is the active lane's. -/
def pointRead (m a : Nat) (s : State) : Word × State := readOn (viewLane s) m a s

/-! ### Writes -/

/-- A write that the lanes emit to a unit; the copy shows it from the end of the ply (R153, R154). -/
def unitWrite (m a : Nat) (v : Word) (s : State) : State :=
  (emitAddrs s a).foldl (fun s b =>
    match cmdTarget s b with
    | some t =>
      let s := emit [(t, Content.write (Word.ofN b) v)] s
      { s with ply := { s.ply with writes := s.ply.writes ++ [(m, b, v)] } }
    | none => s) s

/-- A write of BUSQ_TXBUF submits a request (R376, R379). -/
def submitWrite (b : Nat) (v : Word) (s : State) : State :=
  let tx := s.liveReg (busqAddr b 0)
  let op := tx.field 19 18
  let obj := tx.field 17 12
  let tag := tx.field 11 0
  let send := fun (fr : List Word) (s : State) =>
    emit [(busT b, .bus (BitVec.ofNat 2 op) (BitVec.ofNat 6 obj) (BitVec.ofNat 12 tag) fr)] s
  if op = 2 then send [] s
  else if objectZeroHeld s b op obj then refuseBus b 0x05 (busqAddr b 1) v s
  else if v.toNat < 0x20000 ∨ 0x60000 ≤ v.toNat then busNotSent b tag 5 s
  else send (s.sramWords v.toNat (recWords [s.sramWord v.toNat])) s

/-- A write to a BUSQ register (R405). -/
def busqWrite (m a : Nat) (v : Word) (s : State) : State :=
  let b := (a - 0x97000) / 0x80
  if 28 ≤ b then s
  else
    match a % 0x80 with
    | 0 =>
      if v.field 19 18 = 3 then refuseBus b 0x04 a v s
      else
        let s := { s.setLive a v with ply := { s.ply with writes := s.ply.writes ++ [(m, a, v)] } }
        s.modBus b fun x => { x with part := some m }
    | 1 => submitWrite b v (s.modBus b fun x => { x with part := none })
    | 3 => unitWrite m a v s
    | 5 => { s with ply := { s.ply with writes := s.ply.writes ++ [(m, a, v)] } }
    | _ => s

/-- The configuration-only bits of a port register (R437, R438). -/
def portMask (a : Nat) : Word :=
  if a = 0x9800A then 0x80000
  else if (0x98005 ≤ a ∧ a < 0x9800A) ∨ (0x98010 ≤ a ∧ a < 0x98018) then 0x0FFFF
  else 0

/-- A write in the HOST range: configuration-only fields keep their values, and SESS_TO shows from the end of the ply (R420, R437 to
R440, R557). -/
def hostWrite (m a : Nat) (v : Word) (s : State) : State :=
  if a = 0x99000 then
    let old := s.copyReg a
    let limit := v.field 18 9
    let bad := decide (limit = 0) || decide (600 < limit)
    let s := if bad then s else { s with ply := { s.ply with writes := s.ply.writes ++ [(m, a, old.put 18 9 limit)] } }
    if bad || v.bit 19 != old.bit 19 then writeRefused m a v s else s
  else
    let m' := portMask a
    if portReg (s.lane (viewLane s)) a &&& m' = v &&& m' then s else writeRefused m a v s

/-- A write in the MBX range (R445 to R447, R456 to R462). -/
def mbxWrite (m a : Nat) (v : Word) (s : State) : State :=
  if 0x9AC00 ≤ a ∧ a < 0x9AD80 then
    let k := (a - 0x9AC00) / 8
    match a % 8 with
    | 0 => mbxCfgWrite m k v s
    | 1 => postWrite m k v s
    | 2 => sctlWrite m k v s
    | 3 => sstatWrite k v s
    | 4 => rstatWrite k v s
    | 7 => ackWrite m k v s
    | _ => s
  else if 0x9AE00 ≤ a ∧ a < 0x9AF80 then
    let k := (a - 0x9AE00) / 8
    if 32 ≤ k ∧ k < 40 then s else s.setCopy a v
  else if a = 0x9AFF0 then mbxCtlWrite m v s
  else s

/-- A write of a lane-local point to the copy of lane `l`: the stream-memory window, W1C of ARB_LOCK, and
PWR_RESET_CAUSE (R125, R127, R149, R72). -/
def laneLocalWrite (m a : Nat) (v : Word) (s : State) (l : Lane) : State :=
  if 0x60000 ≤ a ∧ a < 0x80000 then
    s.modLane l fun g => { g with streamMem := Sparse.set (fun _ => 0) g.streamMem (windowAddr s m a) v }
  else if 0x9BE10 ≤ a ∧ a ≤ 0x9BE21 then
    if v.bit 13 then s.modLane l fun g => g.setLock (a - 0x9BE10) { g.lock (a - 0x9BE10) with abandoned := false } else s
  else if a = 0x9E000 then s.modLane l fun g => { g with resetCause := g.resetCause &&& ~~~(v &&& 0xFFFF) }
  else s

/-- A write of a lane-local point by each lane that computes, to its own copy (R127). -/
def eachLaneWrite (m a : Nat) (v : Word) (s : State) : State :=
  (computing s).foldl (fun s l => laneLocalWrite m a v s l) s

/-- A write in the ARB range (R136, R146 to R150). -/
def arbWrite (m a : Nat) (v : Word) (s : State) : State :=
  if a < 0x9BD80 then tableWrite a v s
  else if a = 0x9BE00 then (if v.bit 19 then commitTables s else s)
  else if a = 0x9BE01 then cntSelWrite m v s
  else if 0x9BE10 ≤ a ∧ a ≤ 0x9BE21 then eachLaneWrite m a v s
  else if 0x9BE40 ≤ a ∧ a < 0x9BE60 then swinWrite (a - 0x9BE40) v s
  else s

/-- A write of SCO_LOG[c]: that of ARG1 makes a record (R541). -/
def scoLogWrite (c off : Nat) (v : Word) (s : State) : State :=
  let a := 0x9C040 + 4 * c
  if off < 3 then s.setCopy (a + off) v
  else
    let w := s.copyReg a
    if (s.core c).localProg ∧ w.field 19 12 ≠ 0x10 then writeRefused c (a + 3) v s
    else { s with ply := { s.ply with
      logRecs := s.ply.logRecs ++ [(c, ⟨w.field 19 12, w.field 11 0, s.copyReg (a + 1), s.copyReg (a + 2), v⟩)] } }

/-- A write of KW_CTL, taken at the next ply boundary: a refused bit takes no effect (R505, R506, R510). -/
def kwCtlWrite (m c : Nat) (v : Word) (s : State) : State :=
  let bad := (decide (c = 0) && (v.bit 18 || v.bit 17 || v.bit 16)) || (v.bit 19 && decide ((s.core c).state = .unloaded))
  let s := if bad then writeRefused m (0x9D100 + 8 * c) v s else s
  let w : Word := if c = 0 then v &&& 0x80000 else v &&& 0xF0000
  let w : Word := if (s.core c).state = .unloaded then w.setBit 19 false else w
  if w = 0 then s else s.modCore c fun k => { k with ctl := k.ctl ||| w }

/-- A write to a register of core `c` (R509 to R512). -/
def kwWrite (m a : Nat) (v : Word) (s : State) : State :=
  let c := (a - 0x9D100) / 8
  match a % 8 with
  | 0 => kwCtlWrite m c v s
  | 2 => { s with ply := { s.ply with writes := s.ply.writes ++ [(m, a, v)] } }
  | 3 =>
    if v.field 15 0 < 1000 ∨ 36000 < v.field 15 0 then writeRefused m a v s
    else { s with ply := { s.ply with writes := s.ply.writes ++ [(m, a, v)] } }
  | _ => s

/-- A write in the PWR range (R72, R75, R482 to R487). -/
def pwrWrite (m a : Nat) (v : Word) (s : State) : State :=
  match a % 0x1000 with
  | 0 => eachLaneWrite m a v s
  | 3 => if v.bit 2 then { s with sup := { s.sup with lpbo := false } } else s
  | 5 => pwrCtlWrite m v s
  | 6 | 8 | 12 | 13 | 14 => s.setCopy a (regWrite a (s.copyReg a) v)
  | _ => s

/-- A write to MEAS_DMA_SRC, DST, CNT or STRIDE, refused while the engine is busy; it takes effect, with its writer, at the
next phase A (R235, R261, R271). -/
def dmaFieldWrite (m e off : Nat) (v : Word) (s : State) : State :=
  let a := 0x8C900 + 8 * e + off
  if (s.dma e).busy then writeRefused m a v s else { s with measPend := s.measPend ++ [⟨m, a, v, false⟩] }

/-- A write of master `m` at a point of the Board, but for MEAS_DMA_CTL, whose transfers move other points (`Dma.lean`). -/
def plainWrite (m a : Nat) (v : Word) (s : State) : State :=
  if a < 0x20000 then s
  else if a < 0x60000 then s.setSram a v
  else if a < 0x80000 then eachLaneWrite m a v s
  else if a < 0x8A000 then unitWrite m a v s
  else if a < 0x8C900 then measWrite m a v s
  else if a < 0x8C920 then
    let off := a % 8
    if 1 ≤ off ∧ off ≤ 4 then dmaFieldWrite m ((a - 0x8C900) / 8) off v s else s
  else if a < 0x8E000 then measWrite m a v s
  else if a < 0x97000 then unitWrite m a v s
  else if a < 0x98000 then busqWrite m a v s
  else if a < 0x9A000 then hostWrite m a v s
  else if a < 0x9B000 then mbxWrite m a v s
  else if a < 0x9C000 then arbWrite m a v s
  else if a < 0x9D000 then (if 0x9C040 ≤ a ∧ a < 0x9C0A0 then scoLogWrite ((a - 0x9C040) / 4) (a % 4) v s else s)
  else if a < 0x9D100 then (if a = 0x9D001 then laneCtlWrite m v s else s)
  else if a < 0x9D1C0 then kwWrite m a v s
  else if 0x9E000 ≤ a ∧ a < 0x9E010 then pwrWrite m a v s
  else s

/-- The writes of a ply show in the copy from its end on (R154). DEDUCED, assumption log 27. -/
def showWrites (s : State) : State :=
  let ws := s.ply.writes
  ws.foldl (fun s p => s.setCopy p.2.1 (regWrite p.2.1 (s.copyReg p.2.1) p.2.2)) { s with ply := { s.ply with writes := [] } }

end Sys2Proof.Machine
end

