-- ==== Sys2Proof/Machine/Dma.lean ====
section
/-! DEFINITION. The DMA engines, and writing a point of the Board in full (R261, R262, R271). -/

namespace Sys2Proof.Machine

open Sys2Proof

/-- The identity of DMA engine `e` (R128). -/
def dmaMaster (e : Nat) : Nat := 0x18 + e

/-- A descriptor register of engine `e`. -/
def dmaReg (s : State) (e off : Nat) : Word := s.copyReg (0x8C900 + 8 * e + off)

/-- Master `m` was the last to write all four descriptor registers (R261). -/
def dmaOwns (s : State) (m e : Nat) : Bool :=
  [1, 2, 3, 4].all fun off => decide (((s.dma e).writers.find? fun p => decide (p.1 = off)).map (·.2) = some m)

/-- START by master `m`: a count of 0 ends at once (R139, R261). A START while the engine is busy is refused. DEDUCED,
assumption log 46. -/
def dmaStart (m e : Nat) (s : State) : State :=
  let d := s.dma e
  if d.busy || !dmaOwns s m e then writeRefused m (0x8C900 + 8 * e) 0x80000 s
  else
    let n := (dmaReg s e 3).toNat
    s.setDma e
      { d with
        busy := true, secure := masterSecure s m, limit := none, at_ := 0,
        ended := if n = 0 then some (true, false, 0) else none }

/-- ABORT: the transfer stops after `n` words, and the engine's locks are released (R144, R261). -/
def dmaAbort (e n : Nat) (s : State) : State :=
  let d := s.dma e
  abandonLocks (dmaMaster e)
    (if d.busy && d.ended.isNone then s.setDma e { d with limit := some (min n (dmaReg s e 3).toNat) } else s)

/-- A write of MEAS_DMA_CTL: ABORT of the transfer that runs comes before START. -/
def dmaCtlWrite (m e : Nat) (v : Word) (s : State) : State :=
  let s := if v.bit 18 then dmaAbort e (Config.dmaMoved s.free) { s with free := s.free + 1 } else s
  if v.bit 19 then dmaStart m e s else s

/-- A write of master `m` at a point of the Board. -/
def pointWrite (m a : Nat) (v : Word) (s : State) : State :=
  if 0x8C900 ≤ a ∧ a < 0x8C920 ∧ a % 8 = 0 then dmaCtlWrite m ((a - 0x8C900) / 8) v s else plainWrite m a v s

/-- Address of word `w` of a transfer: strides are s10 (R261). -/
def strideAddr (base : Word) (stride w : Nat) : Nat :=
  (base + BitVec.ofNat 20 w * (BitVec.ofNat 10 stride).signExtend 20).toNat

/-- How a run of words of a transfer ended. -/
inductive Moved where
  | done
  /-- The next word is refused (R137). -/
  | refused
  /-- The next word waits at a locked target (R142). -/
  | parked
deriving DecidableEq, Repr

/-- Words `w` and on of a transfer of engine `e`, `n` of them, until one is refused or waits at the arbiter: how many were moved
(R137, R139, R140, R142). -/
def dmaMove (e w : Nat) : Nat → State → Nat × Moved × State
  | 0, s => (w, .done, s)
  | n + 1, s =>
    let d := s.dma e
    let m := dmaMaster e
    let st := dmaReg s e 4
    let src := strideAddr (dmaReg s e 1) (st.field 19 10) w
    let dst := strideAddr (dmaReg s e 2) (st.field 9 0) w
    if verdict s m d.secure src false .none ≠ .ok then (w, .refused, refuseAccess m src false 0 s)
    else if waitsFor s m src then (w, .parked, parkAccess m src false (4 * w) s)
    else if waitsFor s m dst then (w, .parked, parkAccess m dst true (4 * w) s)
    else
      let r := pointRead m src (countAccess (computing s) m src false s)
      if verdict r.2 m d.secure dst true .none ≠ .ok then (w, .refused, refuseAccess m dst true r.1 r.2)
      else dmaMove e (w + 1) n (pointWrite m dst r.1 (countAccess (computing r.2) m dst true r.2))

/-- The transfer of engine `e` runs to its end, which is all its words, an abort or a refusal, or until a word waits at a
locked target (R142, R261, R262). -/
def dmaFinish (e : Nat) (s : State) : State :=
  let d := s.dma e
  if d.busy && d.ended.isNone then
    let n := (dmaReg s e 3).toNat
    let k := min n (d.limit.getD n)
    let r := dmaMove e d.at_ (k - d.at_) s
    let x := r.2.2.dma e
    match r.2.1 with
    | .parked => r.2.2.setDma e { x with at_ := r.1 }
    | .refused => r.2.2.setDma e { x with ended := some (false, true, r.1) }
    | .done => r.2.2.setDma e { x with ended := some (decide (k = n), false, r.1) }
  else s

/-- The lane waits for every transfer before phase C (R262). -/
def dmaFinishAll (s : State) : State := (List.range 4).foldl (fun s e => dmaFinish e s) s

/-- A transfer waits at a locked target: the ply does not complete (R143, R262). -/
def dmaWaits (s : State) : Bool := (List.range 4).any fun e => (s.dma e).busy && (s.dma e).ended.isNone

/-- BUSY, DONE, ERR and MOVED change at the start of phase A (R262). -/
def dmaBoundary (s : State) : State :=
  (List.range 4).foldl (fun s e =>
    let d := s.dma e
    match d.ended with
    | some (done, err, n) =>
      s.setDma e { d with busy := false, done := done, err := err, moved := n, ended := none, limit := none, at_ := 0 }
    | none => s) s

/-- DMA_COMPLETE (R262). -/
def execDmaComplete (e : Fin 4) (s : State) : Host.Outcome State Fault Refusal := .next (dmaFinish e s)

end Sys2Proof.Machine
end

