-- ==== Sys2Proof/Machine/Flags.lean ====
section
/-! DEFINITION. The arithmetic of the function units and the flags it sets (R495, R499). -/

namespace Sys2Proof.Machine

open Sys2Proof

/-- What an operation gives: the words of its result ports and the flags it sets; C only where the operation defines it. -/
structure UnitResult where
  lo : Word
  hi : Word
  c : Option Bool
  v : Bool
  dz : Bool
  sat : Bool
deriving DecidableEq, Repr

/-- A plain result. -/
def UnitResult.plain (w : Word) : UnitResult := ⟨w, 0, none, false, false, false⟩

/-- A number fits s20. -/
def fitsS20 (n : Int) : Bool := decide (-524288 ≤ n) && decide (n ≤ 524287)

/-- A number as s20, wrapped modulo 2²⁰. -/
def wrapS20 (n : Int) : Word := BitVec.ofInt 20 n

/-- A number clamped to s20. -/
def clampS20 (n : Int) : Word := wrapS20 (max (-524288) (min 524287 n))

/-- A saturating result, with SAT where it is clamped (R499). -/
def saturated (n : Int) : UnitResult := ⟨clampS20 n, 0, none, false, false, !fitsS20 n⟩

/-- ADD: carry, and V where the signed sum is out of range (R499). -/
def addResult (a b : Word) : UnitResult :=
  ⟨a + b, 0, some (decide (2 ^ 20 ≤ a.toNat + b.toNat)), !fitsS20 (a.s20 + b.s20), false, false⟩

/-- SUB: borrow, and V where the signed difference is out of range (R499). -/
def subResult (a b : Word) : UnitResult :=
  ⟨a - b, 0, some (decide (a.toNat < b.toNat)), !fitsS20 (a.s20 - b.s20), false, false⟩

/-- NEG: V for the most negative number (R499). -/
def negResult (a : Word) : UnitResult := ⟨-a, 0, none, !fitsS20 (-a.s20), false, false⟩

/-- EQ, LT and LTU give 1 or 0 (R495). -/
def boolResult (b : Bool) : UnitResult := .plain (if b then 1 else 0)

/-- SHL: a count of 20 or more gives 0 (R499). -/
def shlResult (a b : Word) : UnitResult := .plain (if 20 ≤ b.toNat then 0 else a <<< b.toNat)

/-- SHR: a count of 20 or more gives 0 (R499). -/
def shrResult (a b : Word) : UnitResult := .plain (if 20 ≤ b.toNat then 0 else a >>> b.toNat)

/-- SAR: a count of 20 or more gives the sign (R499). -/
def sarResult (a b : Word) : UnitResult :=
  .plain (if 20 ≤ b.toNat then (if 0 ≤ a.s20 then 0 else 0xFFFFF) else a.sshiftRight b.toNat)

/-- A 40-bit product in LO and HI (R495). -/
def product (n : Int) : UnitResult :=
  let w := BitVec.ofInt 40 n
  ⟨w.extractLsb' 0 20, w.extractLsb' 20 20, none, false, false, false⟩

/-- MULS (R499). -/
def mulsResult (a b : Word) : UnitResult := product (a.s20 * b.s20)

/-- MULU (R499). -/
def muluResult (a b : Word) : UnitResult := product ((a.toNat * b.toNat : Nat) : Int)

/-- DIVS: truncated towards zero, the remainder with the sign of A; quotient in `lo`, remainder in `hi` (R499). -/
def divsResult (a b : Word) : UnitResult :=
  if b = 0 then ⟨if 0 ≤ a.s20 then wrapS20 524287 else wrapS20 (-524288), a, none, false, true, false⟩
  else if a.s20 = -524288 ∧ b.s20 = -1 then ⟨wrapS20 (-524288), 0, none, true, false, false⟩
  else ⟨wrapS20 (Int.tdiv a.s20 b.s20), wrapS20 (Int.tmod a.s20 b.s20), none, false, false, false⟩

/-- DIVU (R499). -/
def divuResult (a b : Word) : UnitResult :=
  if b = 0 then ⟨0xFFFFF, a, none, false, true, false⟩
  else ⟨Word.ofN (a.toNat / b.toNat), Word.ofN (a.toNat % b.toNat), none, false, false, false⟩

/-- SADD (R499). -/
def saddResult (a b : Word) : UnitResult := saturated (a.s20 + b.s20)

/-- SSUB (R499). -/
def ssubResult (a b : Word) : UnitResult := saturated (a.s20 - b.s20)

/-- SNEG (R499). -/
def snegResult (a : Word) : UnitResult := saturated (-a.s20)

/-- SABS (R499). -/
def sabsResult (a : Word) : UnitResult := saturated (if a.s20 < 0 then -a.s20 else a.s20)

/-- A 38-bit fraction rounded to 19 bits, to nearest with ties away from zero. -/
def roundQ (p : Int) : Int :=
  if 0 ≤ p then ((p.natAbs + 2 ^ 18) / 2 ^ 19 : Nat) else -(((p.natAbs + 2 ^ 18) / 2 ^ 19 : Nat) : Int)

/-- SMUL in Q1.19 (R499). -/
def smulResult (a b : Word) : UnitResult := saturated (roundQ (a.s20 * b.s20))

/-- FLAGS after an operation: C of the latest ADD or SUB, the others sticky (R495). -/
def flagsAfter (old : Word) (r : UnitResult) : Word :=
  let f := match r.c with | some c => old.setBit 0 c | none => old
  let f := f.setBit 1 (f.bit 1 || r.v)
  let f := f.setBit 2 (f.bit 2 || r.dz)
  f.setBit 3 (f.bit 3 || r.sat)

/-- FLAGS after a move into FLAGS_CLR: bits written 1 clear sticky flags (R495). -/
def flagsCleared (old v : Word) : Word := old &&& ~~~(v &&& 0x0001E)

end Sys2Proof.Machine
end

