-- ==== Sys2Proof/Machine/Operands.lean ====
section
/-! DEFINITION. Bundles, moves, ports and what a source reads (R491 to R495, R500). -/

namespace Sys2Proof.Machine

open Sys2Proof

/-- One move slot (R491). -/
structure Move where
  src : Nat
  dst : Nat
  guard : Nat
deriving DecidableEq, Repr

/-- A word as a move slot (R491). -/
def Move.ofWord (w : Word) : Move := ⟨w.field 19 11, w.field 10 2, w.field 1 0⟩

/-- The moves of a bundle, without slot 2 where it is a long immediate (R492). -/
def bundleMoves (w0 w1 w2 : Word) : List Move :=
  let a := Move.ofWord w0
  let b := Move.ofWord w1
  if a.src = 0xFF ∨ b.src = 0xFF then [a, b] else [a, b, Move.ofWord w2]

/-- The function units by the numbers that `Kwask.ready` uses: 0 ALU, 1 SHU, 2 MUL, 3 DIV, 4 SAT, 5 LSU. -/
def triggerUnit (dst : Nat) : Option Nat :=
  if 0x21 ≤ dst ∧ dst ≤ 0x29 then some 0
  else if 0x31 ≤ dst ∧ dst ≤ 0x33 then some 1
  else if dst = 0x39 ∨ dst = 0x3A then some 2
  else if dst = 0x41 ∨ dst = 0x42 then some 3
  else if 0x49 ≤ dst ∧ dst ≤ 0x4D then some 4
  else if 0x51 ≤ dst ∧ dst ≤ 0x56 then some 5
  else none

/-- JMP, JZ, JNZ, HALT, SLEEP, CALL and RET. -/
def branches (dst : Nat) : Bool := (decide (0x59 ≤ dst) && decide (dst ≤ 0x5D)) || dst = 0x60 || dst = 0x61

/-- A destination code of R495. -/
def dstDefined (d : Nat) : Bool :=
  decide (d < 0x20) || (triggerUnit d).isSome || branches d ||
    [0x20, 0x30, 0x38, 0x40, 0x48, 0x50, 0x58, 0x68, 0x70, 0x71, 0x78].contains d

/-- A source code of R495. -/
def srcDefined (c : Nat) : Bool :=
  decide (c < 0x20) || decide (0x100 ≤ c) ||
    [0x20, 0x30, 0x38, 0x39, 0x40, 0x41, 0x48, 0x50, 0x60, 0x68, 0x69, 0x6A, 0x70, 0x71, 0x78, 0x79, 0x7C, 0xFF].contains c

/-- No two of a list's members are equal. -/
def allDifferent : List Nat → Bool
  | [] => true
  | x :: xs => !xs.contains x && allDifferent xs

/-- A legal bundle (R494): `ms` are its moves; the long immediate of slot 2 is named in slots 0 and 1 only. -/
def bundleLegal (ms : List Move) : Bool :=
  ms.all (fun m => srcDefined m.src && dstDefined m.dst) && !((ms.drop 2).any fun m => decide (m.src = 0xFF)) &&
    allDifferent (ms.filterMap fun m => triggerUnit m.dst) &&
    decide ((ms.filter fun m => branches m.dst).length ≤ 1)

/-- A guard holds (R491). -/
def guardHolds (k : Kwask) (g : Nat) : Bool :=
  match g with
  | 0 => true
  | 1 => k.g0
  | 2 => !k.g0
  | _ => k.g1

/-- The unit whose result a source reads. -/
def resultUnit (src : Nat) : Option Nat :=
  match src with
  | 0x20 => some 0
  | 0x30 => some 1
  | 0x38 | 0x39 => some 2
  | 0x40 | 0x41 => some 3
  | 0x48 => some 4
  | 0x50 => some 5
  | _ => none

/-- Work cycle at which unit `u` is ready. -/
def Kwask.readyAt (k : Kwask) (u : Nat) : Nat := Sparse.get (fun _ => 0) k.ready u

/-- General register `i`. -/
def Kwask.reg (k : Kwask) (i : Nat) : Word := Sparse.get (fun _ => 0) k.g i

/-- What a source other than POP reads at work cycle `t` (R492, R495, R497). -/
def readSource (c : Nat) (k : Kwask) (t src : Nat) (imm : Word) : Word :=
  if src < 0x20 then k.reg src
  else if 0x100 ≤ src then (BitVec.ofNat 8 src).signExtend 20
  else
    match src with
    | 0x20 => k.alu
    | 0x30 => k.shu
    | 0x38 => k.lo
    | 0x39 => k.hi
    | 0x40 => k.quo
    | 0x41 => k.rem
    | 0x48 => k.sat
    | 0x50 => k.data
    | 0x60 => Word.ofN k.rstack.length
    | 0x69 => k.stack.headD 0
    | 0x6A => Word.ofN k.stack.length
    | 0x70 => if k.g0 then 1 else 0
    | 0x71 => if k.g1 then 1 else 0
    | 0x78 => k.flags
    | 0x79 => Word.ofN t
    | 0x7C => Word.ofN c
    | 0xFF => imm
    | _ => 0

/-- The sources of moves in slot order: all read the core as it stood before the bundle, and pops take the data stack from
its top; none at a pop from an empty stack. The answer holds the words and what is left of the stack (R494, R497). -/
def readSources (c t : Nat) (imm : Word) (k : Kwask) : List Move → List Word → Option (List Word × List Word)
  | [], st => some ([], st)
  | m :: ms, st =>
    if m.src = 0x68 then
      match st with
      | [] => none
      | w :: st => (readSources c t imm k ms st).map fun r => (w :: r.1, r.2)
    else (readSources c t imm k ms st).map fun r => (readSource c k t m.src imm :: r.1, r.2)

/-- A move into a register, an operand port, a guard or FLAGS_CLR (R494). -/
def writePort (k : Kwask) (dst : Nat) (v : Word) : Kwask :=
  if dst < 0x20 then { k with g := Sparse.set (fun _ => 0) k.g dst v }
  else
    match dst with
    | 0x20 => { k with aluO := v }
    | 0x30 => { k with shuO := v }
    | 0x38 => { k with mulO := v }
    | 0x40 => { k with divO := v }
    | 0x48 => { k with satO := v }
    | 0x50 => { k with lsuO := v }
    | 0x58 => { k with bruO := v }
    | 0x70 => { k with g0 := decide (v ≠ 0) }
    | 0x71 => { k with g1 := decide (v ≠ 0) }
    | 0x78 => { k with flags := flagsCleared k.flags v }
    | _ => k

/-- Cycles from a trigger to its result (R496). -/
def unitLatency (u : Nat) : Nat := if u = 2 then 3 else if u = 3 then 22 else 1

/-- Unit `u` is busy until its result of a trigger at `t` is ready. -/
def Kwask.busy (k : Kwask) (u until_ : Nat) : Kwask := { k with ready := Sparse.set (fun _ => 0) k.ready u until_ }

/-- What an arithmetic trigger gives (R495, R499). -/
def unitResult (k : Kwask) (dst : Nat) (a : Word) : UnitResult :=
  match dst with
  | 0x21 => addResult a k.aluO
  | 0x22 => subResult a k.aluO
  | 0x23 => .plain (a &&& k.aluO)
  | 0x24 => .plain (a ||| k.aluO)
  | 0x25 => .plain (a ^^^ k.aluO)
  | 0x26 => negResult a
  | 0x27 => boolResult (decide (a = k.aluO))
  | 0x28 => boolResult (decide (a.s20 < k.aluO.s20))
  | 0x29 => boolResult (decide (a.toNat < k.aluO.toNat))
  | 0x31 => shlResult a k.shuO
  | 0x32 => shrResult a k.shuO
  | 0x33 => sarResult a k.shuO
  | 0x39 => mulsResult a k.mulO
  | 0x3A => muluResult a k.mulO
  | 0x41 => divsResult a k.divO
  | 0x42 => divuResult a k.divO
  | 0x49 => saddResult a k.satO
  | 0x4A => ssubResult a k.satO
  | 0x4B => snegResult a
  | 0x4C => smulResult a k.satO
  | _ => sabsResult a

/-- An arithmetic trigger at work cycle `t`: the result ports of its unit, the flags, and when the unit is ready. -/
def trigger (t dst : Nat) (a : Word) (k : Kwask) : Kwask :=
  match triggerUnit dst with
  | none | some 5 => k
  | some u =>
    let r := unitResult k dst a
    let k := { k.busy u (t + unitLatency u) with flags := flagsAfter k.flags r }
    match u with
    | 0 => { k with alu := r.lo }
    | 1 => { k with shu := r.lo }
    | 2 => { k with lo := r.lo, hi := r.hi }
    | 3 => { k with quo := r.lo, rem := r.hi }
    | _ => { k with sat := r.lo }

/-! ### The core-local view (R500) -/

/-- A word of the program store: a local program's, or the firmware's, which the spec does not give (R490). DESIGN
CHOICE, assumption log 47. -/
def programWord (c : Nat) (k : Kwask) (i : Nat) : Word :=
  if k.localProg then Sparse.get (fun _ => 0) k.program i else Word.ofN (Config.firmwareWord c i)

/-- A read of the core-local view; none where it is refused (R500). -/
def localRead (c : Nat) (k : Kwask) (a : Nat) : Option Word :=
  if a < 0xC000 then some (programWord c k a)
  else if a < 0x1C000 then some (Sparse.get (fun _ => 0) k.localData a)
  else if a < 0x1C100 then some (k.stack.reverse.getD (a - 0x1C000) 0)
  else if a < 0x1C140 then some (Word.ofN (k.rstack.reverse.getD (a - 0x1C100) 0))
  else if a = 0x1C200 then some (Word.ofN (c * 2 ^ 15 + flagAt k.localProg 14))
  else none

/-- Local data takes writes; every other point of the core-local view refuses them (R500). -/
def localWrites (a : Nat) : Bool := decide (0xC000 ≤ a) && decide (a < 0x1C000)

end Sys2Proof.Machine
end

