-- ==== Sys2Proof/Machine/Kwask.lean ====
section
/-! DEFINITION. Kwask cores: bundles, the load-store unit, stacks, plies, stops, sleep and reset (R489 to R513), and the
Board requests and grants of any master (R132 to R145). -/

namespace Sys2Proof.Machine

open Sys2Proof

/-! ### Requests of masters at the Board -/

/-- A granted access of core `c` is made: a load fills DATA unless the core sleeps (R137, R505). -/
def completeAccess (c a : Nat) (wr : Bool) (v : Word) (s : State) : State :=
  if wr then pointWrite c a v s
  else
    let r := pointRead c a s
    r.2.modCore c fun k => if k.state = .sleeping then k else { k with data := r.1 }

/-- The parked access of a core is granted (R140). -/
def grantCore (t c : Nat) (s : State) : State :=
  match (s.core c).wait with
  | none => s
  | some w =>
    if targetOf w.addr.toNat = some t then
      completeAccess c w.addr.toNat w.wr w.data (s.modCore c fun k => { k with wait := none })
    else s

/-- A parked write is made (R142). -/
def grantPut (m : Nat) (p : Option (Nat × Word)) (s : State) : State :=
  match p with
  | some (a, v) => pointWrite m a v s
  | none => s

/-- The access of a DMA engine or of the host step, which follows its grant, counts the grant; the arbiter has counted the wait
(R145). -/
def uncountGrant (l : Lane) (t m : Nat) (s : State) : State :=
  s.modLane l fun g => g.setCounter t m { g.counter t m with grants := (g.counter t m).grants - 1 }

/-- The parked access of master `m` begins: a core's, a DMA engine's, or that of the host step, which goes on when its commands
are taken up again (R140, R143). -/
def grantAccess (l : Lane) (t m : Nat) (s : State) : State :=
  if m < 24 then (if l = viewLane s then grantCore t m s else s)
  else if m < 30 then
    let s := uncountGrant l t m s
    if l = viewLane s ∧ m < 28 then dmaFinish (m - 24) s else s
  else s

/-- One decision of an arbiter, with the access that it starts (R140). -/
def arbiterGrant (l : Lane) (t bank cycle : Nat) (s : State) : State :=
  let r := arbDecide l t bank cycle s
  match r.1 with
  | none => r.2
  | some q =>
    if q.put.isSome then (if l = viewLane s then grantPut q.master q.put r.2 else r.2)
    else grantAccess l t q.master r.2

/-- A DMA engine whose access is refused stops before the refused word and reports it; the refusal is counted already (R137,
R139). -/
def refuseDma (e : Nat) (s : State) : State :=
  let d := s.dma e
  if d.busy && d.ended.isNone then
    let kept := s.ply.refusals
    let s := dmaFinish e s
    { s.setDma e { s.dma e with ended := (s.dma e).ended.map fun x => (false, true, x.2.2) } with
      ply := { s.ply with refusals := kept } }
  else s

/-- What a refused request means for its master (R137). -/
def refuseMaster (m : Nat) (wr : Bool) (s : State) : State :=
  if m < 24 then refuseCore m wr s
  else if m < 28 then refuseDma (m - 24) s
  else if m = 30 then (match joiningLane s with | some l => abandonJoin l s | none => s)
  else s

/-- An access of the core-local view; the answer says whether it was refused (R500). -/
def localAccess (c a : Nat) (wr : Bool) (v : Word) (s : State) : Bool × State :=
  if wr then
    if localWrites a then
      (false, s.modCore c fun k => { k with localData := Sparse.set (fun _ => 0) k.localData a v })
    else (true, refuseLoad c wr s)
  else
    match localRead c (s.core c) a with
    | some w => (false, s.modCore c fun k => { k with data := w })
    | none => (true, refuseLoad c wr s)

/-- An access of a core to its own view that stands by itself (R124, R137, R500). -/
def ownAccess (c a : Nat) (wr : Bool) (v : Word) (s : State) : State :=
  let k := s.core c
  let r := localAccess c a wr v s
  if r.1 && k.localProg && k.state = .running then stopProgram c 4 k.pc r.2 else r.2

/-- A request of master `m` at the arbiter of the target of its address (R123 to R140). -/
def boardRequest (l : Lane) (m a : Nat) (wr : Bool) (lk : LockFlag) (cycle : Nat) (s : State) : State :=
  if m < 24 ∧ a < 0x20000 then ownAccess m a wr (s.core m).lsuO s
  else
    match verdict s m (masterSecure s m) a wr lk, targetOf a with
    | .ok, some t => (boardPresent l t a ⟨m, cycle, lk, wr, none⟩ s).2
    | _, _ => refuseMaster m wr (refuseAccess m a wr 0 s)

/-- A debug write that both lanes compute makes them differ: the digest component in which it shows (R97, R130). -/
def debugWrote (m a : Nat) (s : State) : State :=
  if m = 31 ∧ laneLocal a = false then
    { s with ply := { s.ply with debugged := some (if a < 0x60000 then 3 else 1) } }
  else s

/-- A master's write, whose effect at the point is `act`, goes through the checks of the Board, and waits where another master has
locked the target; a refused one has the results of R137 (R134, R137, R142). -/
def masterDo (m a : Nat) (v : Word) (act : State → State) (s : State) : State :=
  match verdict s m (masterSecure s m) a true .none, targetOf a with
  | .ok, some t =>
    if lockedOut s (viewLane s) t m then
      (presentBoth t a ⟨m, laneCycle s (s.core m).used, .none, true, some (a, v)⟩ s).2
    else debugWrote m a (act (countAccess (computing s) m a true s))
  | _, _ => refuseMaster m true (refuseAccess m a true v s)

/-- A master's write of one Board word, or of its own view (R124, R137, R142). -/
def masterWrite (m a : Nat) (v : Word) (s : State) : State :=
  if m < 24 ∧ a < 0x20000 then ownAccess m a true v s else masterDo m a v (pointWrite m a v) s

/-! ### The load-store unit (R495, R496, R500, R504) -/

/-- The lock flag of an LSU trigger (R142, R495). -/
def lsuLock (dst : Nat) : LockFlag :=
  if dst = 0x53 ∨ dst = 0x54 then .start else if dst = 0x55 ∨ dst = 0x56 then .release else .none

/-- ST, ST_L and ST_U. -/
def lsuWrites (dst : Nat) : Bool := dst = 0x52 || dst = 0x54 || dst = 0x56

/-- Cycles of an access within its latency (R496). -/
def lsuLatency (a : Nat) : Nat := if a < 0x20000 then 2 else if a < 0x60000 then 6 else 12

/-- An access of the Board: refused, made at once, or parked until it is granted (R137, R140). -/
def boardAccess (c t a : Nat) (wr : Bool) (lk : LockFlag) (v : Word) (s : State) : Bool × State :=
  match verdict s c (masterSecure s c) a wr lk, targetOf a with
  | .ok, some tg =>
    let r := presentBoth tg a ⟨c, laneCycle s t, lk, wr, none⟩ s
    if r.1 then (false, completeAccess c a wr v r.2)
    else (false, r.2.modCore c fun k => { k with wait := some ⟨Word.ofN a, wr, lk, v⟩ })
  | _, _ => (true, refuseLoad c wr (refuseAccess c a wr v s))

/-- An LSU trigger at work cycle `t`; the answer says whether the access was refused. -/
def lsuTrigger (c t dst : Nat) (a : Word) (s : State) : Bool × State :=
  let v := (s.core c).lsuO
  let s := s.modCore c fun k => k.busy 5 (t + lsuLatency a.toNat)
  if a.toNat < 0x20000 then localAccess c a.toNat (lsuWrites dst) v s
  else boardAccess c t a.toNat (lsuWrites dst) (lsuLock dst) v s

/-! ### Faults, stops and the end of a core's work -/

/-- KW_LIMIT of core `c`. DEDUCED, assumption log 50. -/
def kwLimit (s : State) (c : Nat) : Nat := (s.copyReg (0x9D103 + 8 * c)).field 15 0

/-- The core stops and its lane withdraws, in every lane that computes the ply (R62, R497). -/
def faultCore (c : Nat) (s : State) : State :=
  let s := s.modCore c fun k => { k with done := true }
  let f := fun (l : Lane) (s : State) => if (s.lane l).inStep then withdrawLane l .coreFault s else s
  let both := s.white.inStep && s.black.inStep
  match activeLane s with
  | some l => if both then withdrawLane (otherLane l) .coreFault (withdrawLane l .coreFault s) else f l s
  | none => f .black (f .white s)

/-- The count of work cycles reaches KW_LIMIT: a budget stop, or the core watchdog of a firmware core (R502). -/
def overrun (c : Nat) (s : State) : State :=
  let k := s.core c
  let s := s.modCore c fun k => { k with used := kwLimit s c }
  if k.localProg then stopProgram c 3 k.pc s else faultCore c s

/-- A core's work for the ply ends after `n` work cycles (R498, R502, R511, R513). -/
def Kwask.finish (n : Nat) (k : Kwask) : Kwask :=
  { k with done := true, used := n, lastUsed := n, usedMax := max k.usedMax n, lastFlags := k.flags }

/-- A core whose registers, guards, flags, ports and stacks are cleared (R505, R506). -/
def Kwask.cleared (k : Kwask) : Kwask :=
  { Kwask.reset with
    state := k.state, localProg := k.localProg, cause := k.cause, lastFlags := k.lastFlags, stops := k.stops,
    resets := k.resets, lastUsed := k.lastUsed, usedMax := k.usedMax, pc := k.pc, program := k.program,
    localData := k.localData, ctl := k.ctl, wait := k.wait }

/-- A core goes to sleep (R505). -/
def Kwask.asleep (k : Kwask) : Kwask := { k.cleared with state := .sleeping }

/-! ### Bundles (R491 to R498) -/

/-- What follows a bundle (R494, R495). -/
inductive Flow where
  | next
  | jump (b : Nat)
  | call (b : Nat)
  | ret (b : Nat)
  | halt
  | sleep
  | fault
deriving DecidableEq, Repr

/-- The branch among the moves of a bundle. -/
def flowOf (k : Kwask) : List (Nat × Word) → Flow
  | [] => .next
  | (d, v) :: ps =>
    match d with
    | 0x59 => .jump v.toNat
    | 0x5A => if k.bruO = 0 then .jump v.toNat else .next
    | 0x5B => if k.bruO = 0 then .next else .jump v.toNat
    | 0x5C => .halt
    | 0x5D => .sleep
    | 0x60 => if 64 ≤ k.rstack.length then .fault else .call v.toNat
    | 0x61 => match k.rstack with | [] => .fault | b :: _ => .ret b
    | _ => flowOf k ps

/-- The core goes on with bundle `b`, or its program stops where that lies above 16,383 (R503). -/
def goOn (c b used : Nat) (s : State) : State :=
  let p := (s.core c).pc
  let s := s.modCore c fun k => { k with used := used }
  if 16383 < b then stopProgram c 6 p s else s.modCore c fun k => { k with pc := b }

/-- HALT, or SLEEP of a core but 0: it completes when every access of the core has (R496, R505). -/
def haltCore (c t : Nat) (asleep : Bool) (s : State) : State :=
  let k := s.core c
  let e := max (t + 1) (k.readyAt 5)
  if kwLimit s c ≤ e then overrun c s
  else
    let k := k.finish e
    s.setCore c (if asleep && decide (c ≠ 0) then k.asleep else k)

/-- What follows a bundle takes effect; a taken jump, call or return costs a cycle more (R494, R496). -/
def follow (c t : Nat) (f : Flow) (s : State) : State :=
  match f with
  | .next => goOn c ((s.core c).pc + 1) (t + 1) s
  | .jump b => goOn c b (t + 2) s
  | .call b => goOn c b (t + 2) (s.modCore c fun k => { k with rstack := (k.pc + 1) :: k.rstack })
  | .ret b => goOn c b (t + 2) (s.modCore c fun k => { k with rstack := k.rstack.drop 1 })
  | .halt => haltCore c t false s
  | .sleep => haltCore c t true s
  | .fault => faultCore c s

/-- Pushes in slot order; none at a push to a full stack (R494, R497). -/
def pushAll : List Word → List Word → Option (List Word)
  | [], st => some st
  | w :: ws, st => if 256 ≤ st.length then none else pushAll ws (w :: st)

/-- The moves need the LSU: they read DATA or trigger it. -/
def needsLsu (ms : List Move) : Bool := ms.any fun m => m.src = 0x50 || triggerUnit m.dst = some 5

/-- The first work cycle at which the moves can issue: each result they read is ready, and each unit they trigger is free
(R496). -/
def issueCycle (k : Kwask) (ms : List Move) : Nat :=
  ms.foldl (fun t m =>
    let t := match resultUnit m.src with | some u => max t (k.readyAt u) | none => t
    match triggerUnit m.dst with | some u => max t (k.readyAt u) | none => t) k.used

/-- The LSU trigger among the moves, if any. -/
def lsuMove (ps : List (Nat × Word)) : Option (Nat × Word) := ps.find? fun p => triggerUnit p.1 = some 5

/-- The core after the reads, the writes and the arithmetic triggers of a bundle (R494). -/
def bundleCore (t : Nat) (ps : List (Nat × Word)) (st : List Word) (k : Kwask) : Kwask :=
  let k := ps.foldl (fun k p => writePort k p.1 p.2) { k with stack := st }
  ps.foldl (fun k p => trigger t p.1 p.2 k) k

/-- The rest of a bundle after its triggers: pushes, the stop of a refused access, the branch (R494, R504). -/
def endBundle (c t : Nat) (ps : List (Nat × Word)) (refused : Bool) (s : State) : State :=
  match pushAll ((ps.filter fun p => p.1 = 0x68).map (·.2)) (s.core c).stack with
  | none => faultCore c s
  | some st =>
    let s := s.modCore c fun k => { k with stack := st, used := t + 1 }
    let k := s.core c
    if refused && k.localProg then stopProgram c 4 k.pc s else follow c t (flowOf k ps) s

/-- Moves whose guards pass, with their words, at work cycle `t` (R494). -/
def runMoves (c t : Nat) (ps : List (Nat × Word)) (st : List Word) (s : State) : State :=
  let s := s.setCore c (bundleCore t ps st (s.core c))
  match lsuMove ps with
  | none => endBundle c t ps false s
  | some p =>
    let r := lsuTrigger c t p.1 p.2 s
    endBundle c t ps r.1 r.2

/-- A running core issues moves: it waits for its LSU, overruns its limit, faults on an empty stack, or takes them. -/
def issueMoves (c : Nat) (ms : List Move) (imm : Word) (s : State) : State :=
  let k := s.core c
  if k.state ≠ .running ∨ k.done = true then s
  else
    let live := ms.filter fun m => guardHolds k m.guard
    if k.wait.isSome && needsLsu live then s
    else
      let t := issueCycle k live
      if kwLimit s c ≤ t then overrun c s
      else
        match readSources c t imm k live k.stack with
        | none => faultCore c s
        | some r => runMoves c t ((live.map Move.dst).zip r.1) r.2 s

/-- One move of the word `a` into destination `dst`. DEDUCED, assumption log 48. -/
def issueOne (c dst : Nat) (a : Word) (s : State) : State := issueMoves c [⟨0xFF, dst, 0⟩] a s

/-- A core issues the bundle at its pc, or stops on an illegal one (R491 to R494). -/
def issueBundle (c : Nat) (s : State) : State :=
  let k := s.core c
  if k.state ≠ .running ∨ k.done = true then s
  else
    let w := fun i => programWord c k (3 * k.pc + i)
    let ms := bundleMoves (w 0) (w 1) (w 2)
    if bundleLegal ms then issueMoves c ms (w 2) s
    else if kwLimit s c ≤ k.used then overrun c s
    else stopProgram c 5 k.pc (s.modCore c fun k => { k with used := k.used + 1 })

/-! ### The ply and its boundary -/

/-- Phase B starts each running core at KW_ENTRY; local programs run at 250 MHz only (R479, R490, R498). -/
def coreBegin (c : Nat) (s : State) : State :=
  let entry := (s.copyReg (0x9D102 + 8 * c)).field 13 0
  s.modCore c fun k =>
    if k.state = .running ∧ (k.localProg = false ∨ s.pwr.clk = true) then
      { k with pc := entry, stack := [], rstack := [], used := 0, ready := [], done := false, wait := none }
    else { k with done := true, used := 0, lastUsed := 0 }

/-- Every core, at the start of phase B. -/
def coresBegin (s : State) : State := (List.range 24).foldl (fun s c => coreBegin c s) s

/-- A request of a core waits for a grant, a local program has not ended, or a write waits at an arbiter: the lane does not enter
phase C (R143, R498). -/
def coresBusy (s : State) : Bool :=
  ((List.range 24).any fun c =>
    let k := s.core c
    k.wait.isSome || (k.state = .running && !k.done && k.localProg)) ||
  (s.lane (viewLane s)).arbs.any fun p => p.2.queue.any fun q =>
    decide (q.master < 24) || (q.put.isSome && decide (q.master < 28))

/-- The firmware cores have finished when phase C begins (R498). -/
def coresFinish (s : State) : State :=
  (List.range 24).foldl (fun s c =>
    let k := s.core c
    if k.state = .running ∧ k.done = false then s.setCore c (k.finish k.used) else s) s

/-- A core reset (R506, R144, R555). DEDUCED, assumption log 49. -/
def resetCore (c : Nat) (s : State) : State :=
  let b := (s.core c).pc
  let s := s.modCore c fun k => { k.cleared with resets := satTo 0x3FF (k.resets + 1), wait := none }
  let s := if (s.core c).state = .unloaded then s else stopProgram c 2 b s
  laneRecord ⟨0x0D, 2, Word.ofN (kwStatusAddr c), Word.ofN c, Word.ofN (s.core c).resets⟩ (abandonLocks c s)

/-- RUN of a core that stands (R490, R505, R510). -/
def runCore (c : Nat) (s : State) : State :=
  s.modCore c fun k =>
    match k.state with
    | .stopped => { k with state := .running }
    | .sleeping => { k.cleared with state := .running }
    | _ => k

/-- The KW_CTL bits that were written take effect: RESET, STOP, SLEEP, RUN; RUN of a local program waits for 250 MHz
(R490, R510). -/
def takeCtl (c : Nat) (s : State) : State :=
  let w := (s.core c).ctl
  let hold := w.bit 19 && (s.core c).localProg && !s.pwr.clk
  let s := s.modCore c fun k => { k with ctl := if hold then 0x80000 else 0 }
  let s := if w.bit 16 then resetCore c s else s
  let st := (s.core c).state
  let s := if w.bit 18 && (st = .running || st = .sleeping) then stopProgram c 1 (s.core c).pc s else s
  let s := if w.bit 17 && decide ((s.core c).state ≠ .unloaded) then s.modCore c Kwask.asleep else s
  if w.bit 19 && !hold then runCore c s else s

/-- The ply boundary of the cores; the answer names the cores that were reset, for the mailboxes (R446, R506). -/
def kwBoundary (s : State) : List Nat × State :=
  (List.range 24).foldl (fun r c =>
    ((if (r.2.core c).ctl.bit 16 then r.1 ++ [c] else r.1), takeCtl c r.2)) ([], s)

/-! ### The commands -/

/-- BOARD_REQUEST (R128, R132 to R140): the target is that of the address. The attribute is the master's, and a request that
shows another is none that the master makes. DESIGN CHOICE, assumption log 87. -/
def execBoardRequest (l : Lane) (_t : Fin 18) (m : Fin 32) (secure : Bool) (a : Word) (wr : Bool) (lk : LockFlag) (cycle : Nat)
    (s : State) : Host.Outcome State Fault Refusal :=
  .next (if secure = masterSecure s m then boardRequest l m a.toNat wr lk cycle s else s)

/-- ARBITER_GRANT (R140). -/
def execArbiterGrant (l : Lane) (t : Fin 18) (bank : Fin 8) (cycle : Nat) (s : State) : Host.Outcome State Fault Refusal :=
  .next (arbiterGrant l t bank cycle s)

/-- REGISTER_WRITE: a master's write of one Board word. -/
def execRegisterWrite (m : Fin 32) (a v : Word) (s : State) : Host.Outcome State Fault Refusal :=
  .next (masterWrite m a.toNat v s)

/-- ARB_SWIN_WRITE (R150): a write of BANK; of another master's window only by a secure firmware core. -/
def execArbSwinWrite (writer m : Fin 32) (v : Word) (s : State) : Host.Outcome State Fault Refusal :=
  .next (masterWrite writer (0x9BE40 + m) v s)

/-- POST: the sender writes MBX_POST; the rules of R444 and R445 refuse it to any other master and on a disabled channel. -/
def execPost (m : Fin 32) (k : Fin 48) (v : Word) (s : State) : Host.Outcome State Fault Refusal :=
  .next (masterWrite m (mbxAddr k 1) v s)

/-- MBX_ACK: the receiver writes MBX_ACK (R447). -/
def execMbxAck (m : Fin 32) (k : Fin 48) (v : Word) (s : State) : Host.Outcome State Fault Refusal :=
  .next (masterWrite m (mbxAddr k 7) v s)

/-- COMPARATOR_CONFIG_WRITE (R137, R249, R267, R268). -/
def execComparatorConfigWrite (m : Fin 32) (i : Fin 856) (which : Fin 4) (v : Word) (s : State) :
    Host.Outcome State Fault Refusal :=
  .next (masterWrite m (0x8B000 + 4 * i + which) v s)

/-- SIGNATURE_CONFIG_WRITE (R137, R251, R253, R272). -/
def execSignatureConfigWrite (m : Fin 32) (k : Fin 16) (v : Word) (s : State) : Host.Outcome State Fault Refusal :=
  .next (masterWrite m (sigAddr k 0) v s)

/-- STREAM_ENABLE: a write of MEAS_STR_CFG.EN = 1 (R137, R258, R270). -/
def execStreamEnable (m : Fin 32) (x : Fin 16) (decim : BitVec 8) (s : State) : Host.Outcome State Fault Refusal :=
  .next (masterWrite m (strmAddr x 0) (Word.ofN (2 ^ 19 + decim.toNat * 2 ^ 11)) s)

/-- STREAM_RD_WRITE (R137, R259). -/
def execStreamRdWrite (m : Fin 32) (x : Fin 16) (v : Word) (s : State) : Host.Outcome State Fault Refusal :=
  .next (masterWrite m (strmAddr x 5) v s)

/-- EVQ_TAIL_WRITE (R137, R266). -/
def execEvqTailWrite (m : Fin 32) (v : Word) (s : State) : Host.Outcome State Fault Refusal :=
  .next (masterWrite m 0x8A003 v s)

/-- DMA_START: a write of MEAS_DMA_CTL with START = 1 (R137, R261). -/
def execDmaStart (m : Fin 32) (e : Fin 4) (s : State) : Host.Outcome State Fault Refusal :=
  .next (masterDo m (0x8C900 + 8 * e) 0x80000 (dmaStart m e) s)

/-- DMA_ABORT: a write of MEAS_DMA_CTL with ABORT = 1, when `moved` words have been moved (R137, R261). -/
def execDmaAbort (m : Fin 32) (e : Fin 4) (moved : Nat) (s : State) : Host.Outcome State Fault Refusal :=
  .next (masterDo m (0x8C900 + 8 * e) 0x40000 (dmaAbort e moved) s)

/-- PWR_CTL_REQ: a write of PWR_CTL with REQ = 1 (R134, R465). -/
def execPwrCtlReq (m : Fin 32) (target : BitVec 3) (s : State) : Host.Outcome State Fault Refusal :=
  .next (masterWrite m 0x9E005 (Word.ofN (2 ^ 19 + target.toNat * 2 ^ 16)) s)

/-- CLK_250: a write of PWR_CTL with CLK_250 = 1 (R134, R479, R482). -/
def execClk250 (m : Fin 32) (s : State) : Host.Outcome State Fault Refusal := .next (masterWrite m 0x9E005 0x08000 s)

/-- SCO_LOG_WRITE: a write of ARG1 of SCO_LOG[c] (R541). -/
def execScoLogWrite (m : Fin 32) (c : Fin 24) (v : Word) (s : State) : Host.Outcome State Fault Refusal :=
  .next (masterWrite m (0x9C043 + 4 * c) v s)

/-- ADD (R495, R499). -/
def execAdd (c : Fin 24) (a : Word) (s : State) : Host.Outcome State Fault Refusal := .next (issueOne c 0x21 a s)

/-- SUB (R495, R499). -/
def execSub (c : Fin 24) (a : Word) (s : State) : Host.Outcome State Fault Refusal := .next (issueOne c 0x22 a s)

/-- AND (R495, R499). -/
def execAnd (c : Fin 24) (a : Word) (s : State) : Host.Outcome State Fault Refusal := .next (issueOne c 0x23 a s)

/-- OR (R495, R499). -/
def execOr (c : Fin 24) (a : Word) (s : State) : Host.Outcome State Fault Refusal := .next (issueOne c 0x24 a s)

/-- XOR (R495, R499). -/
def execXor (c : Fin 24) (a : Word) (s : State) : Host.Outcome State Fault Refusal := .next (issueOne c 0x25 a s)

/-- NEG (R495, R499). -/
def execNeg (c : Fin 24) (a : Word) (s : State) : Host.Outcome State Fault Refusal := .next (issueOne c 0x26 a s)

/-- EQ (R495, R499). -/
def execEq (c : Fin 24) (a : Word) (s : State) : Host.Outcome State Fault Refusal := .next (issueOne c 0x27 a s)

/-- LT (R495, R499). -/
def execLt (c : Fin 24) (a : Word) (s : State) : Host.Outcome State Fault Refusal := .next (issueOne c 0x28 a s)

/-- LTU (R495, R499). -/
def execLtu (c : Fin 24) (a : Word) (s : State) : Host.Outcome State Fault Refusal := .next (issueOne c 0x29 a s)

/-- SHL (R495, R499). -/
def execShl (c : Fin 24) (a : Word) (s : State) : Host.Outcome State Fault Refusal := .next (issueOne c 0x31 a s)

/-- SHR (R495, R499). -/
def execShr (c : Fin 24) (a : Word) (s : State) : Host.Outcome State Fault Refusal := .next (issueOne c 0x32 a s)

/-- SAR (R495, R499). -/
def execSar (c : Fin 24) (a : Word) (s : State) : Host.Outcome State Fault Refusal := .next (issueOne c 0x33 a s)

/-- MULS (R495, R499). -/
def execMuls (c : Fin 24) (a : Word) (s : State) : Host.Outcome State Fault Refusal := .next (issueOne c 0x39 a s)

/-- MULU (R495, R499). -/
def execMulu (c : Fin 24) (a : Word) (s : State) : Host.Outcome State Fault Refusal := .next (issueOne c 0x3A a s)

/-- DIVS (R495, R499). -/
def execDivs (c : Fin 24) (a : Word) (s : State) : Host.Outcome State Fault Refusal := .next (issueOne c 0x41 a s)

/-- DIVU (R495, R499). -/
def execDivu (c : Fin 24) (a : Word) (s : State) : Host.Outcome State Fault Refusal := .next (issueOne c 0x42 a s)

/-- SADD (R495, R499). -/
def execSadd (c : Fin 24) (a : Word) (s : State) : Host.Outcome State Fault Refusal := .next (issueOne c 0x49 a s)

/-- SSUB (R495, R499). -/
def execSsub (c : Fin 24) (a : Word) (s : State) : Host.Outcome State Fault Refusal := .next (issueOne c 0x4A a s)

/-- SNEG (R495, R499). -/
def execSneg (c : Fin 24) (a : Word) (s : State) : Host.Outcome State Fault Refusal := .next (issueOne c 0x4B a s)

/-- SMUL (R495, R499). -/
def execSmul (c : Fin 24) (a : Word) (s : State) : Host.Outcome State Fault Refusal := .next (issueOne c 0x4C a s)

/-- SABS (R495, R499). -/
def execSabs (c : Fin 24) (a : Word) (s : State) : Host.Outcome State Fault Refusal := .next (issueOne c 0x4D a s)

/-- LD (R495, R496, R500, R504). -/
def execLd (c : Fin 24) (a : Word) (s : State) : Host.Outcome State Fault Refusal := .next (issueOne c 0x51 a s)

/-- ST (R495, R496, R500, R504). -/
def execSt (c : Fin 24) (a : Word) (s : State) : Host.Outcome State Fault Refusal := .next (issueOne c 0x52 a s)

/-- LD_L (R495, R496, R500, R504). -/
def execLdL (c : Fin 24) (a : Word) (s : State) : Host.Outcome State Fault Refusal := .next (issueOne c 0x53 a s)

/-- ST_L (R495, R496, R500, R504). -/
def execStL (c : Fin 24) (a : Word) (s : State) : Host.Outcome State Fault Refusal := .next (issueOne c 0x54 a s)

/-- LD_U (R495, R496, R500, R504). -/
def execLdU (c : Fin 24) (a : Word) (s : State) : Host.Outcome State Fault Refusal := .next (issueOne c 0x55 a s)

/-- ST_U (R495, R496, R500, R504). -/
def execStU (c : Fin 24) (a : Word) (s : State) : Host.Outcome State Fault Refusal := .next (issueOne c 0x56 a s)

/-- JMP (R495, R498). -/
def execJmp (c : Fin 24) (a : Word) (s : State) : Host.Outcome State Fault Refusal := .next (issueOne c 0x59 a s)

/-- JZ (R495, R498). -/
def execJz (c : Fin 24) (a : Word) (s : State) : Host.Outcome State Fault Refusal := .next (issueOne c 0x5A a s)

/-- JNZ (R495, R498). -/
def execJnz (c : Fin 24) (a : Word) (s : State) : Host.Outcome State Fault Refusal := .next (issueOne c 0x5B a s)

/-- HALT (R495, R498). -/
def execHalt (c : Fin 24) (s : State) : Host.Outcome State Fault Refusal := .next (issueOne c 0x5C 0 s)

/-- SLEEP (R505). -/
def execSleep (c : Fin 24) (s : State) : Host.Outcome State Fault Refusal := .next (issueOne c 0x5D 0 s)

/-- CALL (R495, R497). -/
def execCall (c : Fin 24) (a : Word) (s : State) : Host.Outcome State Fault Refusal := .next (issueOne c 0x60 a s)

/-- RET (R495, R497). -/
def execRet (c : Fin 24) (s : State) : Host.Outcome State Fault Refusal := .next (issueOne c 0x61 0 s)

/-- PUSH (R495, R497). -/
def execPush (c : Fin 24) (a : Word) (s : State) : Host.Outcome State Fault Refusal := .next (issueOne c 0x68 a s)

/-- FLAGS_CLR (R495). -/
def execFlagsClr (c : Fin 24) (a : Word) (s : State) : Host.Outcome State Fault Refusal := .next (issueOne c 0x78 a s)

/-- POP: the top word leaves the data stack; the destination that its move names is not part of the row (R495, R497). -/
def execPop (c : Fin 24) (s : State) : Host.Outcome State Fault Refusal := .next (issueMoves c [⟨0x68, 0x1FF, 0⟩] 0 s)

/-- BUNDLE_ISSUE (R494). -/
def execBundleIssue (c : Fin 24) (s : State) : Host.Outcome State Fault Refusal := .next (issueBundle c s)

/-- BUDGET: a running local program reaches KW_LIMIT; it does not advance towards it while it waits for a grant (R143, R502). -/
def execBudget (c : Fin 24) (s : State) : Host.Outcome State Fault Refusal :=
  let k := s.core c
  .next (if k.state = .running ∧ k.done = false ∧ k.wait = none ∧ (s.lane (viewLane s)).parked c = false ∧ k.localProg = true
    then overrun c s else s)

/-- CORE_WATCHDOG: the core faults and its lane withdraws; the watchdog stands while the core waits for a grant (R62, R143,
R502). -/
def execCoreWatchdog (l : Lane) (c : Fin 24) (s : State) : Host.Outcome State Fault Refusal :=
  let k := s.core c
  .next (if k.state = .running ∧ k.done = false ∧ k.wait = none ∧ (s.lane l).parked c = false ∧ (s.lane l).inStep = true
    then withdrawLane l .coreFault s else s)

/-- CORE_RUN: a write of KW_CTL.RUN (R510). -/
def execCoreRun (m : Fin 32) (c : Fin 24) (s : State) : Host.Outcome State Fault Refusal :=
  .next (masterWrite m (0x9D100 + 8 * c) 0x80000 s)

/-- CORE_STOP: a write of KW_CTL.STOP (R510). -/
def execCoreStop (m : Fin 32) (c : Fin 24) (s : State) : Host.Outcome State Fault Refusal :=
  .next (masterWrite m (0x9D100 + 8 * c) 0x40000 s)

/-- CORE_SLEEP: a write of KW_CTL.SLEEP (R510). -/
def execCoreSleep (m : Fin 32) (c : Fin 24) (s : State) : Host.Outcome State Fault Refusal :=
  .next (masterWrite m (0x9D100 + 8 * c) 0x20000 s)

/-- CORE_RESET: a write of KW_CTL.RESET (R510). -/
def execCoreReset (m : Fin 32) (c : Fin 24) (s : State) : Host.Outcome State Fault Refusal :=
  .next (masterWrite m (0x9D100 + 8 * c) 0x10000 s)

end Sys2Proof.Machine
end

