-- ==== Sys2Proof/Machine/Checker.lean ====
section
/-! DEFINITION. The configuration checker (R518): what it refuses in a configuration image, and VERIFY_RESULT, which runs it
over the staged one. -/

namespace Sys2Proof.Machine

open Sys2Proof

/-! ### Register values (R164, R192, R206, R285, R319, R473, R518) -/

/-- Every command target, claimed. -/
def claimedTargets : List (Nat × Target) := (List.range 45).map fun t => (t, { Target.reset with claimed := some .white })

/-- A machine whose units and lanes hold the image's values and whose key slot 5 is filled: an empty slot is no fault of the
image (R352). -/
def imageState (i : ConfigImage) : State :=
  let s := i.regs.foldl (fun s p => configReg p.1.toNat p.2 s)
    { State.reset with targets := claimedTargets, keys := [(5, 0)] }
  i.regs.foldl (fun s p => s.setLive p.1.toNat (regWrite p.1.toNat (s.liveReg p.1.toNat) p.2)) s

/-- The same machine with its buses stopped, since an enabled bus refuses what its configuration may carry (R398 to R404). -/
def quietState (s : State) : State :=
  let stop := fun (mask : Word) (s : State) a => s.setLive a (s.liveReg a &&& mask)
  let s := (List.range 16).foldl (fun s n => stop 0x3FFFF (stop 0x7FFFF s (canAddr n 0)) (canAddr n 8)) s
  let s := (List.range 8).foldl (fun s n => stop 0x7FFFF s (linAddr n 0)) s
  (List.range 4).foldl (fun s x => stop 0x7FFFF s (tsAddr x 0)) s

/-- The same machine with the channel of a configuration register in no group, since a member would ignore the register (R176);
its values are held to their ranges all the same (R164, R206, R518). -/
def asAlone (s : State) (a : Nat) : State :=
  if 0x80000 ≤ a ∧ a < 0x81600 ∧ a % 32 ≠ 7 then
    let g := a / 32 * 32 + 7
    s.setLive g ((s.liveReg g).put 19 18 0)
  else s

/-- The unit that holds the register takes the value: it breaks no range or rule of the unit's chapter. -/
def unitTakes (s : State) (a : Nat) (v : Word) : Bool :=
  let role := decide (0x90000 ≤ a ∧ a < 0x94000) && decide (a % 0x400 = 8)
  let s := if 0x90000 ≤ a ∧ role = false then quietState s else s
  let s := asAlone s a
  match cmdTarget s a with
  | some t => !wouldRefuse s t a v
  | none => true

/-- The lanes take the value of a register of their own; a stream's window is judged while it does not run (R270). -/
def laneTakes (s : State) (a : Nat) (v : Word) : Bool :=
  let x := 0x8C800 + (a - 0x8C800) / 16 * 16
  let s := if 0x8C800 ≤ a ∧ a < 0x8C900 then s.setCopy x ((s.copyReg x).setBit 19 false) else s
  decide ((plainWrite 28 a v s).ply.recs.length ≤ s.ply.recs.length)

/-- No field of a register lies outside its stated range (R518). The registers of a port and of the mailbox channels, and the
access tables, have no ranges: rules of their own follow. -/
def valueOk (s : State) (a : Nat) (v : Word) : Bool :=
  if a < 0x80000 ∨ (0x97000 ≤ a ∧ a < 0x99000) ∨ (0x9AC00 ≤ a ∧ a < 0x9AE00) ∨ (0x9B000 ≤ a ∧ a < 0x9C000) then true
  else if a < 0x8A000 ∨ (0x90000 ≤ a ∧ a < 0x97000) then unitTakes s a v
  else laneTakes s a v

/-! ### Groups, pairs and park channels (R176, R178, R192, R473) -/

/-- A channel and its group's members down to the leader are contiguous on one tile, within one feed of tile 0 (R176). -/
def groupOk (s : State) (n l : Nat) : Bool :=
  let inGroup := fun m => decide ((chReg s m 7).field 19 18 = 1) && decide ((chReg s m 7).field 17 10 = l)
  decide (l ≤ n) && decide (n ≤ l + 3) && decide (n / 16 = l / 16) && decide (16 ≤ n ∨ n / 8 = l / 8) &&
    (List.range (n - l + 1)).all (fun k => inGroup (l + k)) && (decide (l < n) || inGroup (n + 1))

/-- A channel and its partner are of one class, on different tiles, and name each other (R178). -/
def pairOk (s : State) (n p : Nat) : Bool :=
  decide (p < 176) && decide (classOf n = classOf p) && decide (n / 16 ≠ p / 16) &&
    decide ((chReg s p 7).field 19 18 = 2) && decide ((chReg s p 7).field 17 10 = n)

/-- KIND and PARTNER of a channel, which is no park channel in a group or pair (R192, R473). -/
def channelGroupOk (s : State) (n : Nat) : Bool :=
  match (chReg s n 7).field 19 18 with
  | 0 => true
  | 1 => !(chReg s n 3).bit 14 && groupOk s n ((chReg s n 7).field 17 10)
  | 2 => !(chReg s n 3).bit 14 && pairOk s n ((chReg s n 7).field 17 10)
  | _ => false

/-- At most 8 park channels a tile, and none in a group or pair (R188, R473). -/
def parkOk (s : State) : Bool :=
  ((List.range 11).all fun t => decide (parkCount s t ≤ 8)) &&
    (List.range 176).all fun n =>
      !((chReg s n 3).bit 14 && ((chReg s n 7).field 19 18 = 1 || (chReg s n 7).field 19 18 = 2))

/-! ### Access tables and mailbox channels (R136, R443, R507) -/

/-- MASK and MASTER of an entry match identity `m` (R132). -/
def entryNames (w : Word) (m : Nat) : Bool := decide (m &&& w.field 13 9 = w.field 18 14 &&& w.field 13 9)

/-- No entry with VALID = 1 lets identity 1Eh in as non-secure (an entry at its reset value matches every identity; DEDUCED, assumption
log 82), and none grants LOCK to a local-program core (R136, R507). -/
def tableEntryOk (locals : List Nat) (a : Nat) (w : Word) : Bool :=
  let off := (a - 0x9B000) % 0xC0
  if 0x9B000 ≤ a ∧ a < 0x9BD80 ∧ 3 ≤ off ∧ off % 3 = 0 ∧ w.bit 19 = true ∧ w.bit 5 = false then
    !entryNames w 30 && !(w.bit 6 && locals.any (entryNames w))
  else true

/-- The sender and receiver of a mailbox channel: cores where a core is required, no local-program core on a secure channel,
and two of them unless the channel is off and names none (R443). DEDUCED, assumption log 82. -/
def mailboxOk (locals : List Nat) (a : Nat) (w : Word) : Bool :=
  if 0x9AC00 ≤ a ∧ a < 0x9AD80 ∧ a % 8 = 0 then
    let k := (a - 0x9AC00) / 8
    let cores := (if k < 32 ∨ 40 ≤ k then [w.field 16 12] else []) ++ (if k < 40 then [w.field 11 7] else [])
    cores.all (fun c => decide (c < 24) && !(w.bit 18 && locals.contains c)) && ((w.bit 19 = false && w.field 16 7 = 0) || allDifferent cores)
  else true

/-! ### Local programs (R508) -/

/-- What the checker has found of a program: procedures' bundles with the data-stack depth there, the depths at which
procedures end, and their calls. -/
structure Walk where
  /-- Procedure, bundle and depth. -/
  at_ : List (Nat × Nat × Nat)
  /-- Procedure and depth at a RET. -/
  rets : List (Nat × Nat)
  /-- Procedure and depth at a HALT. -/
  halts : List (Nat × Nat)
  /-- Procedure, the one that it calls, the bundle to which that returns, and the depth at the call. -/
  calls : List (Nat × Nat × Nat × Nat)
  bad : Bool
deriving DecidableEq, Repr

/-- One more, unless it is there. -/
def addNew {α : Type} [DecidableEq α] (xs : List α) (x : α) : List α := if x ∈ xs then xs else xs ++ [x]

/-- A bundle of the program: its moves and its long immediate; none outside the program. -/
def bundleAt (prog : List Word) (b : Nat) : Option (List Move × Word) :=
  if 3 * b < prog.length then
    let w := fun i => prog.getD (3 * b + i) 0
    some (bundleMoves (w 0) (w 1) (w 2), w 2)
  else none

/-- The immediate that a source names (R492). -/
def immediateOf (src : Nat) (w : Word) : Option Nat :=
  if src = 0xFF then some w.toNat
  else if 0x100 ≤ src then some ((BitVec.ofNat 8 src).signExtend 20 : Word).toNat
  else none

/-- A bundle is reached at a depth within its procedure. -/
def Walk.reach (p b d : Nat) (w : Walk) : Walk :=
  { w with
    at_ := addNew w.at_ (p, b, d), bad := w.bad || decide (256 < d) || w.at_.any fun x => decide (x.2.1 = b) && decide (x.2.2 ≠ d) }

/-- The branch of a bundle takes its target, where it has one, from an immediate (R508). -/
def Walk.branch (p b d : Nat) (imm : Word) (m : Move) (w : Walk) : Walk :=
  if m.dst = 0x61 then { w with rets := addNew w.rets (p, d), bad := w.bad || decide (256 < d) }
  else if m.dst = 0x5C then { w with halts := addNew w.halts (p, d), bad := w.bad || decide (256 < d) }
  else if m.dst = 0x5D then w
  else match immediateOf m.src imm with
    | none => { w with bad := true }
    | some t =>
      if m.dst = 0x60 then (w.reach t t d) |> fun w => { w with calls := addNew w.calls (p, t, b + 1, d) }
      else if m.dst = 0x59 then w.reach p t d
      else (w.reach p t d).reach p (b + 1) d

/-- One bundle, under one setting of the guards (R493, R508). -/
def Walk.bundle (p b d : Nat) (ms : List Move) (imm : Word) (g : Bool × Bool) (w : Walk) : Walk :=
  let live := ms.filter fun m => guardHolds { Kwask.reset with g0 := g.1, g1 := g.2 } m.guard
  let pops := (live.filter fun m => decide (m.src = 0x68)).length
  let d' := d - pops + (live.filter fun m => decide (m.dst = 0x68)).length
  let w := { w with bad := w.bad || decide (d < pops) }
  match live.find? fun m => branches m.dst with
  | some m => w.branch p b d' imm m
  | none => w.reach p (b + 1) d'

/-- The bundles that follow one that is reached. -/
def Walk.visit (prog : List Word) (w : Walk) (x : Nat × Nat × Nat) : Walk :=
  match bundleAt prog x.2.1 with
  | none => { w with bad := true }
  | some (ms, imm) =>
    if bundleLegal ms then
      [(false, false), (false, true), (true, false), (true, true)].foldl (fun w g => w.bundle x.1 x.2.1 x.2.2 ms imm g) w
    else { w with bad := true }

/-- A call goes on where its procedure returns. -/
def Walk.resume (w : Walk) (c : Nat × Nat × Nat × Nat) : Walk :=
  (w.rets.filter fun r => decide (r.1 = c.2.1)).foldl (fun w r => w.reach c.1 c.2.2.1 r.2) w

/-- Rounds over all that is reached, until nothing is added or a rule is broken. -/
def walkOn (prog : List Word) : Nat → Walk → Walk
  | 0, w => { w with bad := true }
  | n + 1, w =>
    let w' := w.calls.foldl Walk.resume (w.at_.foldl (Walk.visit prog) w)
    if w'.bad ∨ w' = w then w' else walkOn prog n w'

/-- The procedures reached by `n` calls in a row from those of `ps` (R508). -/
def callsAfter (w : Walk) : Nat → List Nat → List Nat
  | 0, ps => ps
  | n + 1, ps => callsAfter w n ((w.calls.filter fun c => ps.contains c.1).foldl (fun l c => addNew l c.2.1) [])

/-- Each procedure ends at one depth, and the program itself does not return (R508). -/
def endsOk (entry : Nat) (w : Walk) : Bool :=
  let ends := w.rets ++ w.halts
  ends.all (fun x => ends.all fun y => decide (x.1 ≠ y.1) || decide (x.2 = y.2)) && !(w.rets.any fun r => r.1 = entry)

/-- A local program obeys R508, started at bundle `entry`. DEDUCED, assumption log 82. -/
def programOk (entry : Nat) (prog : List Word) : Bool :=
  let w := walkOn prog 1048576 ⟨[(entry, entry, 0)], [], [], [], false⟩
  !w.bad && (callsAfter w 64 [entry]).isEmpty && endsOk entry w

/-! ### The checker -/

/-- The configuration checker accepts the image (R518). DEDUCED, assumption log 82. -/
def configOk (i : ConfigImage) : Bool :=
  let s := imageState i
  let locals := i.programs.map (·.1)
  i.regs.all (fun p => valueOk s p.1.toNat p.2 && tableEntryOk locals p.1.toNat p.2 && mailboxOk locals p.1.toNat p.2) &&
    (List.range 176).all (channelGroupOk s) && parkOk s &&
    i.programs.all fun p => p.2.isEmpty || programOk ((s.copyReg (0x9D102 + 8 * p.1)).field 13 0) p.2

/-- VERIFY_RESULT: the image is what the staged octets of a configuration stand for (R518). DEDUCED, assumption log 53. -/
def execVerifyResult (l : Lane) (digestOk signatureOk : Bool) (image : ConfigImage) (checkAt : Word) (s : State) :
    Host.Outcome State Fault Refusal :=
  let checked := fun (u : Upd) => updCheck s u l digestOk signatureOk (configOk image)
  .next (
    if recoveryIn s l .verifying then updVerified (some l) l (checked (s.updOf (some l))) checkAt s
    else present 0x3E [0x00021, laneWord l, Word.ofN (checked s.upd)] (.verified l (checked s.upd) checkAt) s)

end Sys2Proof.Machine
end

