-- ==== Sys2Proof/Machine/Session.lean ====
section
/-! DEFINITION. The Shaeve host protocol: packets, sessions, reply frames, ports and links (R406 to R427, R437 to R441). -/

namespace Sys2Proof.Machine

open Sys2Proof

/-! ### Octets, words and MACs (R410 to R413) -/

/-- The three octets of a word (R9). -/
def octetsOf (w : Word) : List Nat := [w.toNat % 256, w.toNat / 256 % 256, w.toNat / 65536]

/-- Octets as words, three to a word; what is left over at the end makes none. -/
def packetWords : List (BitVec 8) → List Word
  | a :: b :: c :: os => Word.ofN (a.toNat + 256 * b.toNat + 65536 * (c.toNat % 16)) :: packetWords os
  | _ => []

/-- The upper nibble of every third octet is zero (R9). -/
def nibblesZero : List (BitVec 8) → Bool
  | _ :: _ :: c :: os => decide (c.toNat < 16) && nibblesZero os
  | _ => true

/-- The four trailer words under a key: the first 64 bits of the MAC, two octets to a word (R413). -/
def trailer (key : Nat) (ws : List Word) : List Word :=
  let mac := cmac128 key (ws.flatMap octetsOf)
  (List.range 4).map fun k => Word.ofN (mac / 2 ^ (16 * k) % 2 ^ 16)

/-! ### Sessions (R417 to R419) -/

/-- The session of a handle, with its table entry. -/
def findSession (t : List (Nat × Session)) (handle : Nat) : Option (Nat × Session) :=
  t.find? fun p => decide (p.2.handle = handle)

/-- The next handle that is not in use, from `h` on: it skips 0000h and FFFFh (R417). -/
def freeHandle (t : List (Nat × Session)) : Nat → Nat → Nat
  | 0, h => h
  | n + 1, h =>
    let h := if h = 0 ∨ 0xFFFF ≤ h then 1 else h
    if t.any fun p => decide (p.2.handle = h) then freeHandle t n (h + 1) else h

/-- The lowest free entry of a table. -/
def freeEntry (t : List (Nat × Session)) : Nat :=
  ((List.range 8).find? fun k => !t.any fun p => decide (p.1 = k)).getD 0

/-- A session key (R417): `label` is the label in ASCII. -/
def sessionKey (hk : Nat) (label : List Nat) (nh nd handle epoch : Nat) : Nat :=
  cmac256 hk ([0, 0, 0, 1] ++ label ++ [0] ++ littleOctets nh 8 ++ littleOctets nd 8 ++ littleOctets handle 2 ++
    littleOctets epoch 3 ++ [0, 0, 0, 0x80])

/-- "SHVREQ". -/
def labelReq : List Nat := [0x53, 0x48, 0x56, 0x52, 0x45, 0x51]
/-- "SHVREP". -/
def labelRep : List Nat := [0x53, 0x48, 0x56, 0x52, 0x45, 0x50]

/-- What step 7 decides for a REQ_ID (R419). -/
inductive ReqFate where
  | run
  | sequence
  | again (f : Frame)
  | replayed
deriving DecidableEq, Repr

/-- The table of R419. -/
def reqFate (x : Session) (id : Nat) : ReqFate :=
  if id = 0 ∨ id + 63 < x.high then .sequence
  else if x.high < id ∨ x.executed.contains id = false then .run
  else match x.cache.find? fun p => decide (p.1 = id) with
    | some p => .again p.2
    | none => .replayed

/-- A request of a session has been executed (R417, R419). -/
def Session.took (id now : Nat) (x : Session) : Session :=
  let high := max x.high id
  { x with
    pending := false, high := high, executed := id :: x.executed.filter (fun i => decide (high < i + 64)), lastExec := now,
    cache := x.cache }

/-- A reply of one frame of at most 64 payload words enters the cache of the last 16 (R419). -/
def Session.keep (id : Nat) (fs : List Frame) (x : Session) : Session :=
  match fs with
  | [f] => if f.words.length ≤ 12 + 64 then { x with cache := ((id, f) :: x.cache).take 16 } else x
  | _ => x

/-- Replace a session of the lanes' table, or of the recovery service of a lane. -/
def setSession (r : Option Lane) (k : Nat) (x : Session) (s : State) : State :=
  match r with
  | none => { s with host := { s.host with sessions := Sparse.put s.host.sessions k x } }
  | some l => s.modLane l fun g => { g with recSessions := Sparse.put g.recSessions k x }

/-- The session table of the lanes, or of the recovery service of a lane. -/
def sessionTable (r : Option Lane) (s : State) : List (Nat × Session) :=
  match r with
  | none => s.host.sessions
  | some l => (s.lane l).recSessions

/-- A session closes with the cause of R553; its replies in work keep their key. -/
def closeSession (r : Option Lane) (k cause : Nat) (s : State) : State :=
  match r with
  | none =>
    match sessionAt s k with
    | none => s
    | some x =>
      laneRecord ⟨0x0A, 2, Word.ofN (0x99010 + 4 * k), Word.ofN x.handle, Word.ofN cause⟩
        { s with host := { s.host with sessions := s.host.sessions.filter fun p => decide (p.1 ≠ k) } }
  | some l => s.modLane l fun g => { g with recSessions := g.recSessions.filter fun p => decide (p.1 ≠ k) }

/-- HELLO past its length check: status, reply payload and reply key (R417, R418, R429). -/
def hello (r : Option Lane) (p : Packet) (s : State) : Nat × List Word × Option Nat × State :=
  let w := p.payload.getD 0 0
  let secure := w.bit 19
  let idx := w.field 1 0
  let t := sessionTable r s
  if secure = false ∧ r.isSome = true then (stState, [], none, s)
  else if secure = false ∧ (s.copyReg 0x99000).bit 19 = false then (stAccess, [], none, s)
  else if w &&& 0x7FFFC ≠ 0 ∨ (secure = true ∧ keyHeld s (idx + 1) = false) then (stRange, [], none, s)
  else if 8 ≤ t.length ∨ (secure = true ∧ 2 ≤ (t.filter fun q => q.2.pending).length) then (stBusy, [], none, s)
  else
    let nh := ((List.range 4).map fun i => (p.payload.getD (i + 1) 0).toNat % 2 ^ 16 * 2 ^ (16 * i)).sum
    let nd := if secure then p.nonce % 2 ^ 64 else 0
    let handle := freeHandle t 10 (match r with | none => s.host.nextHandle | some l => (s.lane l).recNext)
    let epoch := (epochWord s).toNat
    let hk := Sparse.get (fun _ => 0) s.keys (idx + 1)
    let key := fun label => if secure then sessionKey hk label nh nd handle epoch else 0
    let k := freeEntry t
    let x : Session :=
      { pending := secure, secure := secure, handle := handle, keyIdx := if secure then idx else 0, nh := nh, nd := nd,
        keyReq := key labelReq, keyRep := key labelRep, high := p.reqId.toNat, executed := [p.reqId.toNat], cache := [],
        lastExec := s.ply.boundary }
    let s := setSession r k x s
    let s := match r with
      | none =>
        laneRecord ⟨0x0A, 1, Word.ofN (0x99010 + 4 * k), Word.ofN handle, Word.ofN (flagAt secure 19 + x.keyIdx)⟩
          { s with host := { s.host with nextHandle := handle + 1 } }
      | some l => s.modLane l fun g => { g with recNext := handle + 1 }
    let ws := [Word.ofN handle] ++ ((List.range 4).map fun i => Word.ofN (nd / 2 ^ (16 * i) % 2 ^ 16)) ++
      [Word.ofN ((s.copyReg 0x99000).field 18 9), Word.ofN epoch]
    (stOk, ws, if secure then some x.keyRep else none, s)

/-! ### Reply frames (R412, R421, R422) -/

/-- The words of one reply frame before its trailer (R412). -/
def frameWords (p : Packet) (sec : Bool) (status seq ply index : Nat) (more : Bool) (ws : List Word) : List Word :=
  [Word.ofN (2 ^ 16 + 2 ^ 15 + flagAt sec 14 + flagAt more 12 + p.opcode % 256), Word.ofN (index * 2 ^ 15 + ws.length),
    Word.ofN p.session.toNat] ++ wordsOf p.reqId.toNat 2 ++ [Word.ofN (status * 2 ^ 12)] ++ wordsOf seq 3 ++ wordsOf ply 3 ++ ws

/-- Frames that a payload of `n` words takes (R422). -/
def frameCount (n : Nat) : Nat := max 1 ((n + 471) / 472)

/-- A whole reply, cut into frames; `other` is the payload as the lane of the other port computes it (R127, R412, R422). -/
def replyFrames (p : Packet) (key : Option Nat) (status seq ply time : Nat) (ws other : List Word) : List Frame :=
  let n := frameCount ws.length
  (List.range n).map fun i =>
    let cut := fun (ws : List Word) => (ws.drop (472 * i)).take 472
    let f := fun ws => frameWords p key.isSome status seq ply i (decide (i + 1 < n)) (cut ws)
    { port := p.port, words := f ws, other := f other, time := time, key := key, seq := seq, ply := ply, index := i,
      replay := false, ahead := false, dest := p.source, order := seq }

/-- A frame as it goes out, with its trailer (R413). -/
def Frame.onWire (f : Frame) : List Word :=
  match f.key with
  | some k => f.words ++ trailer k f.words
  | none => f.words

/-- The ones'-complement sum of octets taken in pairs, the first of a pair the high one (RFC 791, RFC 768). -/
def internetSum : List Nat → Nat → Nat
  | a :: b :: os, n => internetSum os (n + 256 * a + b)
  | [a], n => n + 256 * a
  | [], n => n

/-- The internet checksum of octets. -/
def internetChecksum (os : List Nat) : Nat :=
  let n := internetSum os 0
  let n := n % 2 ^ 16 + n / 2 ^ 16
  let n := n % 2 ^ 16 + n / 2 ^ 16
  0xFFFF - n

/-- The UDP datagram of a frame, with its checksum over the pseudo-header; a sum of zero goes out as ones (R409, RFC 768). -/
def udpDatagram (srcIp srcPort : Nat) (f : Frame) : List Nat :=
  let data := f.onWire.flatMap octetsOf
  let len := 8 + data.length
  let ports := bigOctets srcPort 2 ++ bigOctets f.dest.udp.toNat 2 ++ bigOctets len 2
  let sum := internetChecksum
    (bigOctets srcIp 4 ++ bigOctets f.dest.ip.toNat 4 ++ [0, 17] ++ bigOctets len 2 ++ ports ++ [0, 0] ++ data)
  ports ++ bigOctets (if sum = 0 then 0xFFFF else sum) 2 ++ data

/-- The IPv4 packet of a frame: no options, the don't-fragment flag, TTL 64, and the header checksum (R409, RFC 791). -/
def ipPacket (srcIp srcPort : Nat) (f : Frame) : List Nat :=
  let body := udpDatagram srcIp srcPort f
  let first := [0x45, Config.ipService % 256] ++ bigOctets (20 + body.length) 2 ++
    bigOctets (Config.ipIdent f.seq f.index % 2 ^ 16) 2 ++ [0x40, 0, 64, 17]
  let ips := bigOctets srcIp 4 ++ bigOctets f.dest.ip.toNat 4
  first ++ bigOctets (internetChecksum (first ++ [0, 0] ++ ips)) 2 ++ ips ++ body

/-- Frames queued for a port, those made in this ply included. -/
def queuedFrames (s : State) (l : Lane) : Nat :=
  (s.lane l).txq.length + (s.host.made.filter fun f => decide (f.port = l)).length

/-- Frames of the present ply join those to release; a port's queue holds 160 (R421). -/
def addFrames (fs : List Frame) (s : State) : State :=
  match fs with
  | [] => s
  | f :: _ =>
    if queuedFrames s f.port + fs.length ≤ 160 then { s with host := { s.host with made := s.host.made ++ fs } } else s

/-- A frame takes its place in a port's queue by the number of its request, behind those of the same one (R421). -/
def insertFrame (x : Frame) : List Frame → List Frame
  | [] => [x]
  | y :: r => if x.order < y.order then x :: y :: r else y :: insertFrame x r

/-- A port releases its frames at the end of the ply: replays of R101 and R106 first, at most 12 frames, or 16 with them
(R421). -/
def releasePort (l : Lane) (s : State) : State :=
  s.modLane l fun g =>
    let q := g.txq.filter (·.ahead) ++ (g.txq.filter fun f => !f.ahead).foldl (fun q f => insertFrame f q) []
    let n := if g.txq.any (·.ahead) then 16 else 12
    let out := q.take n
    let g := { g with
      txq := q.drop n, sent := (g.sent ++ out).filter fun f => decide (s.ply.boundary < f.time + 240000) }
    (g.countPort 5 out.length).countPort 6 (out.filter (·.replay)).length

/-- A frame goes out on the other port, as a replay: its lane serves no requests any more, or the link was lost in the 8 plies
after its request arrived (R101, R106, R430). -/
def takenOver (s : State) (f : Frame) : Bool :=
  let g := s.lane f.port
  (s.lane (otherLane f.port)).serving && (!g.serving || (match g.lostAt with | some t => f.lostBy t | none => false))

/-- Phase E: the frames made in the ply are queued in sequence order on the port that serves them, and both ports release (R420,
R421). -/
def releaseReplies (s : State) : State :=
  let made := s.host.made.map fun f => if takenOver s f then f.again (otherLane f.port) else f
  let mine := fun (l : Lane) => made.filter fun f => decide (f.port = l)
  let s := (s.modLane .white fun g => { g with txq := g.txq ++ mine .white }).modLane .black fun g =>
    { g with txq := g.txq ++ mine .black }
  releasePort .black (releasePort .white { s with host := { s.host with made := [] } })

/-- A reply of `n` frames would take a port's queue above 128 (R421). -/
def queueFull (s : State) (l : Lane) (n : Nat) : Bool := decide (128 < queuedFrames s l + n)

/-- The one frame of a reply without payload; what would overfill the queue is answered with BUSY (R421). -/
def statusFrames (p : Packet) (key : Option Nat) (status seq : Nat) (s : State) : List Frame :=
  replyFrames p key (if queueFull s p.port 1 then stBusy else status) seq s.ply.number s.ply.at_ [] []

/-- A reply on which the lanes need no more than its status. -/
def plainReply (p : Packet) (key : Option Nat) (status seq : Nat) (s : State) : State :=
  addFrames (statusFrames p key status seq s) s

/-! ### Links (R106, R437) -/

/-- The lanes act on a link event: the other lane sends again the replies to what came on the lost port (R106, R553). -/
def linkEvent (l : Lane) (up : Bool) (s : State) : State :=
  if up then laneRecord ⟨0x0A, 4, 0x98000, laneWord l, 0⟩ s
  else
    let t := s.ply.at_
    let fs := if (s.lane (otherLane l)).serving then lostReplies s l t else []
    let n := (fs.filter fun f => decide (f.index = 0)).length
    let s := laneRecord ⟨0x0A, 3, 0x98000, laneWord l, 0⟩ s
    let s := s.modLane l fun g => { g with lostAt := some t, txq := g.txq.filter fun f => !fs.contains f }
    if n = 0 then s
    else laneRecord ⟨0x0A, 5, 0x98000, laneWord l, Word.ofN n⟩ (resendReplies l fs s)

/-- The port of a lane takes part: from the first active ply on, and for the recovery service in a lane that stays in boot code,
or in one held out of service where no lane will start (R45, R65, R66, R70, R526). -/
def portReady (s : State) (l : Lane) : Bool :=
  (s.lane l).boot = .stuck ||
    ((s.lane l).boot = .started && ((activeLane s).isSome || s.seq.running || s.lanes.start.isNone))

/-- A host link comes up or is lost: the lane presents a link event (R106, R437). A link comes up from the first active ply on,
but that of a lane that stays in boot code, or of one held out of service where no lane will start, comes up for the recovery
service (R45, R65, R70, R526). -/
def linkChange (l : Lane) (up : Bool) (s : State) : State :=
  if (s.lane l).linkUp = up ∨ (up && !portReady s l) = true then s
  else
    let s := s.modLane l fun g =>
      { g with linkUp := up, linkLosses := if up then g.linkLosses else satTo 0xFF (g.linkLosses + 1) }
    present 0x1A [if up then 1 else 0, laneWord l, 0] (.link l up) s

/-! ### The engine of a port (R408, R415, R416) -/

/-- The port's IPv4 address (R438). -/
def portIp (g : LaneSt) : Nat := (portReg g 0x98005).toNat * 2 ^ 16 + (portReg g 0x98006).toNat

/-- The UDP datagram of a frame as the port of its lane sends it in an IPv4 packet, from the port's own address (R409). -/
def Frame.packet (s : State) (f : Frame) : List Nat :=
  let g := s.lane f.port
  ipPacket (portIp g) (portReg g 0x98009).toNat f

/-- The Ethernet II frame, but for its check sequence: to the sender of the request, from the port's own address (R406, R409). -/
def Frame.ethernet (s : State) (f : Frame) : List Nat :=
  littleOctets f.dest.mac.toNat 6 ++ littleOctets (portMac (s.lane f.port) f.port) 6 ++ [0x08, 0x00] ++ f.packet s

/-- The permitted hosts of a port: 0.0.0.0 is unused (R438). -/
def permittedHosts (g : LaneSt) : List Nat :=
  ((List.range 4).map fun j => (portReg g (0x98010 + 2 * j)).toNat * 2 ^ 16 + (portReg g (0x98011 + 2 * j)).toNat).filter (· ≠ 0)

/-- A received frame is accepted as a Shaeve packet (R408). -/
def acceptsFrame (s : State) (l : Lane) (h : HostFrame) : Bool :=
  let g := s.lane l
  decide (h.destMac.toNat = portMac g l) && h.plain && decide (h.destIp.toNat = portIp g) &&
    (permittedHosts g).contains h.source.ip.toNat && decide (h.destUdp.toNat = (portReg g 0x98009).toNat) && h.checksum

/-- The header of a packet of at least five words. -/
def packetOf (l : Lane) (from_ : Peer) (ws : List Word) (failed nonce : Nat) : Packet :=
  let w := fun i => ws.getD i 0
  let n := (w 1).field 9 0
  { port := l, source := from_, opcode := (w 0).field 7 0, sec := (w 0).bit 14, session := BitVec.ofNat 16 (w 2).toNat,
    reqId := BitVec.ofNat 40 ((w 3).toNat + 2 ^ 20 * (w 4).toNat), payload := (ws.drop 5).take n, failed := failed,
    nonce := nonce, covered := false }

/-- The table that step 6 and later steps of a lane look in: the recovery service's own while the lane is OUT (R526). -/
def tableFor (s : State) (l : Lane) : Option Lane := if serves s l then some l else none

/-- The first of the steps 3 to 6 that a packet fails, 0 for none; 7 stands for the MAC of step 6 (R415). -/
def failedStep (s : State) (l : Lane) (os : List (BitVec 8)) : Nat :=
  let ws := packetWords os
  let w := fun i => ws.getD i 0
  let sec := (w 0).bit 14
  if os.length % 3 ≠ 0 ∨ 1470 < os.length then 3
  else if !nibblesZero os || decide ((w 0).field 19 15 ≠ 2) || decide ((w 0).field 13 8 ≠ 0) || decide ((w 1).field 19 10 ≠ 0) ||
      decide ((w 2).field 19 16 ≠ 0) then 4
  else if 480 < (w 1).field 9 0 ∨ (w 1).field 9 0 + 5 + (if sec then 4 else 0) ≠ ws.length then 5
  else if sec then
    match findSession (sessionTable (tableFor s l) s) ((w 2).toNat) with
    | some q =>
      if q.2.secure = false then 6
      else if ws.drop (ws.length - 4) = trailer q.2.keyReq (ws.take (ws.length - 4)) then 0 else 7
    | none => 6
  else 0

/-- STATUS of a packet that failed a step (R415). -/
def failedStatus (step : Nat) : Nat := if step = 3 ∨ step = 5 then stLength else if step = 6 then 6 else stIntegrity

/-- A lane answers packets: its start is over, or it stays in boot code; before the first active ply the others discard them (R66,
R424, R526). -/
def portAnswers (s : State) (l : Lane) : Bool :=
  (s.lane l).inStep || (serves s l && portReady s l) || (s.lane l).role = .joining

/-- The engine presents a packet to the sequencer (R416, R439). -/
def presentPacket (p : Packet) (s : State) : State :=
  let s := s.modLane p.port fun g =>
    { g.countPort 0 1 with rxPly := g.rxPly + 1 }
  let nonce := if p.opcode = 0 ∧ p.failed = 0 then (List.range 4).map fun i => Word.ofN (p.nonce / 2 ^ (16 * i) % 2 ^ 16) else []
  let head := [Word.ofN (2 ^ 16 + flagAt p.sec 14 + p.opcode), Word.ofN p.payload.length, Word.ofN p.session.toNat] ++
    wordsOf p.reqId.toNat 2
  present (match p.port with | .white => 0x3C | .black => 0x3D) (head ++ p.payload ++ nonce ++ [Word.ofN p.failed]) (.packet p) s

/-- A packet is presented, waits in the buffer of 128, or is dropped (R416). DEDUCED, assumption log 58. -/
def offerPacket (p : Packet) (s : State) : State :=
  let g := s.lane p.port
  if g.rxPly < 32 ∧ g.rxBuf.isEmpty = true then presentPacket p s
  else if g.rxBuf.length < 128 then s.modLane p.port fun g => { g with rxBuf := g.rxBuf ++ [p] }
  else s.modLane p.port fun g => g.countPort 4 1

/-- A ply begins: each engine presents packets that wait (R416). -/
def enginesBegin (s : State) : State :=
  [Lane.white, Lane.black].foldl (fun s l =>
    let ps := (s.lane l).rxBuf
    (ps.take 32).foldl (fun s p => presentPacket p s) (s.modLane l fun g => { g with rxBuf := ps.drop 32, rxPly := 0 })) s

/-! ### Answers that are not sequenced (R424, R526) -/

/-- The frames of an answer that is not sequenced go out at once (R424). -/
def sendNow (fs : List Frame) (l : Lane) (s : State) : State :=
  s.modLane l fun g => (({ g with sent := g.sent ++ fs }).countPort 5 fs.length).countPort 6 (List.filter Frame.replay fs).length

/-- PING (R428): a lane that computes no plies shows the epoch of its own journal and no ply time (R424). DESIGN CHOICE, assumption
log 24. -/
def pingWords (s : State) (l : Lane) : List Word :=
  let own := (s.lane l).inStep
  [if own then epochWord s else Word.ofN (s.lane l).nvm.epoch, laneRoleWord s l, startStatusWord s l] ++
    wordsOf (if own then s.ply.boundary else 0) 3

/-- LANE_STATUS (R428). -/
def laneStatusWords (s : State) (l : Lane) : List Word := (List.range 14).map (laneRegWord s l)

/-- An update request of the lanes or of the recovery service of a lane (R516 to R520, R526, R528). -/
def updRequest (r : Option Lane) (code : Nat) (ws : List Word) (s : State) : Nat × List Word × State :=
  let w := fun i => ws.getD i 0
  let n := ws.length
  let ans := fun (q : Nat × State) (out : List Word) => (q.1, if q.1 = stOk then out else [], q.2)
  match code with
  | 0x50 =>
    if n ≠ 3 then (stLength, [], s)
    else ans (updBegin r ((w 0).field 19 18) ((w 0).field 17 16) ((w 1).toNat + 2 ^ 20 * (w 2).toNat) s) []
  | 0x51 =>
    if n < 3 ∨ 480 < n then (stLength, [], s) else ans (updData r ((w 0).toNat + 2 ^ 20 * (w 1).toNat) (ws.drop 2) s) []
  | 0x52 => if n ≠ 0 then (stLength, [], s) else ans (updVerify r s) [0]
  | 0x53 =>
    if n ≠ 1 then (stLength, [], s)
    else ans (match r with
      | none => updActivate ((w 0).field 17 16) s
      | some l => recoveryActivate l ((w 0).field 17 16) s) []
  | 0x54 => if n ≠ 0 then (stLength, [], s) else ans (updConfirm s) []
  | _ => if n ≠ 0 then (stLength, [], s) else (stOk, (List.range 6).map (updWord s (s.updOf r)), s)

/-- The recovery service executes a request of one of its sessions (R526). -/
def recoverySession (l : Lane) (p : Packet) (s : State) : State :=
  let answer := fun (key : Option Nat) (status : Nat) (ws : List Word) => replyFrames p key status 0 0 s.now ws ws
  match findSession (s.lane l).recSessions p.session.toNat with
  | none => sendNow (answer none 6 []) l s
  | some (k, x) =>
    if x.secure ≠ p.sec then sendNow (answer none 6 []) l s
    else
      match reqFate x p.reqId.toNat with
      | .sequence => sendNow (answer (some x.keyRep) 6 []) l s
      | .replayed => sendNow (answer (some x.keyRep) 0xA []) l s
      | .again f => sendNow [f.again l] l s
      | .run =>
        let r := updRequest (some l) p.opcode p.payload (setSession (some l) k (x.took p.reqId.toNat s.now) s)
        let fs := answer (some x.keyRep) r.1 r.2.1
        let s := match findSession (r.2.2.lane l).recSessions p.session.toNat with
          | some (k, x) => setSession (some l) k (x.keep p.reqId.toNat fs) r.2.2
          | none => r.2.2
        sendNow fs l s

/-- A packet at a lane that does not compute the plies: what such a lane does not answer gets STATE, whatever session it names (R424,
R526). -/
def answerAlone (l : Lane) (p : Packet) (s : State) : State :=
  let answer := fun (status : Nat) (ws : List Word) => sendNow (replyFrames p none status 0 0 s.now ws ws) l s
  let open_ := p.opcode = 0x02 || p.opcode = 0x72 || (serves s l && [0x00, 0x50, 0x51, 0x52, 0x53, 0x55].contains p.opcode)
  if 6 ≤ p.failed ∧ open_ = false then answer stState []
  else if p.failed ≠ 0 then answer (failedStatus p.failed) []
  else if p.reqId = 0 then answer 6 []
  else if p.opcode = 0x02 ∨ p.opcode = 0x72 then
    if p.payload ≠ [] then answer stLength []
    else answer stOk (if p.opcode = 0x02 then pingWords s l else laneStatusWords s l)
  else if serves s l = false then answer stState []
  else if p.opcode = 0 then
    if p.payload.length ≠ 5 then answer stLength []
    else
      let r := hello (some l) p s
      sendNow (replyFrames p r.2.2.1 r.1 0 0 s.now r.2.1 r.2.1) l r.2.2.2
  else if [0x50, 0x51, 0x52, 0x53, 0x55].contains p.opcode then recoverySession l p s
  else answer stState []

/-- A frame arrives at a port (R408, R415, R416, R424). -/
def receivePacket (l : Lane) (h : HostFrame) (os : List (BitVec 8)) (s : State) : State :=
  if !portAnswers s l then s
  else if !acceptsFrame s l h || decide (os.length < 15) then s.modLane l fun g => g.countPort 1 1
  else
    let f := failedStep s l os
    let ws := packetWords os
    let hello := decide ((ws.getD 0 0).field 7 0 = 0) && decide (f = 0)
    let p := packetOf l h.source ws f (if hello then Config.deviceNonce s.free else 0)
    let s := if hello then { s with free := s.free + 1 } else s
    let s := if f = 0 then s else s.modLane l fun g => g.countPort 2 1
    if (s.lane l).role = .active ∨ (s.lane l).role = .standby then offerPacket p s else answerAlone l p s

/-- HOST_PACKET (R408, R415, R416). -/
def execHostPacket (l : Lane) (head : HostFrame) (octets : List (BitVec 8)) (s : State) : Host.Outcome State Fault Refusal :=
  .next (receivePacket l head octets s)

/-- An ARP request is answered for the port's own address and a permitted host, and dropped otherwise (R406, R408, R409). -/
def arpStep (l : Lane) (target sender : Nat) (s : State) : State :=
  if !portAnswers s l then s
  else s.modLane l fun g =>
    if target = portIp g ∧ (permittedHosts g).contains sender = true then
      let r : ArpReply := { ip := portIp g, mac := portMac g l, host := sender, time := s.now }
      { g with arps := (g.arps ++ [r]).filter fun r => decide (s.now < r.time + 240000) }
    else g.countPort 1 1

/-- ARP_REQUEST (R406, R408). -/
def execArpRequest (l : Lane) (target sender : BitVec 32) (s : State) : Host.Outcome State Fault Refusal :=
  .next (arpStep l target.toNat sender.toNat s)

/-- HOST_LINK_UP (R437). -/
def execHostLinkUp (l : Lane) (s : State) : Host.Outcome State Fault Refusal := .next (linkChange l true s)

/-- HOST_LINK_LOSS (R106). -/
def execHostLinkLoss (l : Lane) (s : State) : Host.Outcome State Fault Refusal := .next (linkChange l false s)

/-- Session `x` has executed no request for `secs` seconds. -/
def idleFor (x : Session) (secs : Nat) (s : State) : Bool := decide (x.lastExec + 100000000 * secs ≤ s.now)

/-- SESSION_IDLE_TIMEOUT: an open session of table entry `k` has executed no request for SESS_TO (R418). -/
def execSessionIdleTimeout (k : Fin 8) (s : State) : Host.Outcome State Fault Refusal :=
  .next (match sessionAt s k with
    | some x => if x.pending || !idleFor x ((s.copyReg 0x99000).field 18 9) s then s else closeSession none k 2 s
    | none => s)

/-- PENDING_SESSION_EXPIRY: a pending session has seen no authenticated request within 1 s (R417). -/
def execPendingSessionExpiry (k : Fin 8) (s : State) : Host.Outcome State Fault Refusal :=
  .next (match sessionAt s k with
    | some x => if x.pending && idleFor x 1 s then closeSession none k 3 s else s
    | none => s)

end Sys2Proof.Machine
end

