-- ==== Sys2Proof/Machine/Host.lean ====
section
/-! DEFINITION. The host step and the opcodes of Shaeve (R415, R420 to R422, R428 to R436). -/

namespace Sys2Proof.Machine

open Sys2Proof

/-- What an opcode answers: the status, the reply payload, and the state after it. -/
abbrev Answered := Nat × List Word × State

/-- An answer without payload. -/
def answerOnly (status : Nat) (s : State) : Answered := (status, [], s)

/-! ### The points of a command (R137, R138) -/

/-- Every point is checked before any part is executed: RANGE comes before ACCESS (R138). -/
def checkPoints (m : Nat) (sec : Bool) (pts : List (Nat × Bool)) (s : State) : Nat × State :=
  if pts.any fun p => decide (verdict s m sec p.1 p.2 .none = .range) then (stRange, s)
  else
    match pts.find? fun p => decide (verdict s m sec p.1 p.2 .none ≠ .ok) with
    | some p => (stAccess, refuseAccess m p.1 p.2 0 s)
    | none => (stOk, s)

/-- A point of a command lies in a target that another master has locked, or that recovers: its access waits at the arbiter, and
the host step with it (R140, R142, R143). -/
def blockOn (m : Nat) (pts : List (Nat × Bool)) (s : State) : State :=
  match pts.find? fun p => waitsFor s m p.1 with
  | some p => { parkAccess m p.1 p.2 0 s with ply := { s.ply with blocked := true } }
  | none => s

/-- A command whose access waits does not run yet: it is taken up again from its start (R143). -/
def unlessBlocked (s : State) (run : State → Answered) : Answered := if s.ply.blocked then answerOnly stOk s else run s

/-- A command runs once its points pass. -/
def withPoints (m : Nat) (sec : Bool) (pts : List (Nat × Bool)) (s : State) (run : State → Answered) : Answered :=
  let c := checkPoints m sec pts s
  if c.1 = stOk then unlessBlocked (blockOn m pts c.2) run else answerOnly c.1 c.2

/-- The accesses of a command at these points are counted (R145). -/
def accesses (m : Nat) (pts : List (Nat × Bool)) (s : State) : State :=
  pts.foldl (fun s p => countAccess (computing s) m p.1 p.2 s) s

/-- A command runs once its points pass, and its accesses are counted. -/
def withAccesses (m : Nat) (sec : Bool) (pts : List (Nat × Bool)) (s : State) (run : State → Answered) : Answered :=
  withPoints m sec pts s fun s => run (accesses m pts s)

/-- Points that are read. -/
def readPoints (as : List Nat) : List (Nat × Bool) := as.map fun a => (a, false)

/-- Points that are written. -/
def writePoints (as : List Nat) : List (Nat × Bool) := as.map fun a => (a, true)

/-- The words that master `m` reads, as lane `v` shows them, and the state after the reads. -/
def readWords (v : Lane) (m : Nat) : List Nat → State → List Word × State
  | [], s => ([], s)
  | a :: as, s =>
    let x := readOn v m a (countAccess (computing s) m a false s)
    let r := readWords v m as x.2
    (x.1 :: r.1, r.2)

/-- Writes of master `m`, in order. -/
def writeWords (m : Nat) (ps : List (Nat × Word)) (s : State) : State :=
  ps.foldl (fun s p => pointWrite m p.1 p.2 (countAccess (computing s) m p.1 true s)) s

/-- A command that only reads. -/
def readOnly (v : Lane) (m : Nat) (sec : Bool) (as : List Nat) (s : State) : Answered :=
  withPoints m sec (readPoints as) s fun s => let r := readWords v m as s; (stOk, r.1, r.2)

/-- A command that only writes. -/
def writeOnly (m : Nat) (sec : Bool) (ps : List (Nat × Word)) (s : State) : Answered :=
  withPoints m sec (writePoints (ps.map (·.1))) s fun s => answerOnly stOk (writeWords m ps s)

/-! ### READ, WRITE, READ_LIST, MODIFY (R428) -/

/-- Consecutive addresses. -/
def addrsFrom (a n : Nat) : List Nat := (List.range n).map (a + ·)

/-- READ. -/
def opRead (v : Lane) (m : Nat) (sec : Bool) (ws : List Word) (s : State) : Answered :=
  match ws with
  | [a, n] =>
    if 4096 < n.toNat ∨ 2 ^ 20 < a.toNat + n.toNat then answerOnly stRange s
    else readOnly v m sec (addrsFrom a.toNat n.toNat) s
  | _ => answerOnly stLength s

/-- WRITE. -/
def opWrite (m : Nat) (sec : Bool) (ws : List Word) (s : State) : Answered :=
  match ws with
  | a :: n :: data =>
    if data.length ≠ n.toNat then answerOnly stLength s
    else if 478 < n.toNat ∨ 2 ^ 20 < a.toNat + n.toNat then answerOnly stRange s
    else writeOnly m sec ((addrsFrom a.toNat n.toNat).zip data) s
  | _ => answerOnly stLength s

/-- READ_LIST. -/
def opReadList (v : Lane) (m : Nat) (sec : Bool) (ws : List Word) (s : State) : Answered :=
  if ws.isEmpty || decide (480 < ws.length) then answerOnly stLength s else readOnly v m sec (ws.map (·.toNat)) s

/-- Each lane that computes modifies its own copy of a lane-local point (R127). -/
def modifyEach (m a : Nat) (mask x : Word) (s : State) : State :=
  (computing s).foldl (fun s l => laneLocalWrite m a ((pointValue l m a s &&& ~~~mask) ||| (x &&& mask)) s l) s

/-- Each lane that computes modifies a register of its own port, whose fields are configuration only: a value that differs in
one of them is a refused write (R127, R438, R557). -/
def modifyPort (m a : Nat) (mask x : Word) (s : State) : State :=
  let new := fun (l : Lane) => (portReg (s.lane l) a &&& ~~~mask) ||| (x &&& mask)
  if (computing s).all fun l => decide (new l &&& portMask a = portReg (s.lane l) a &&& portMask a) then s
  else writeRefused m a (new (viewLane s)) s

/-- The lane-local points that hold a value of each lane that a host write changes: stream memory, ARB_LOCK and
PWR_RESET_CAUSE. -/
def ownCopy (a : Nat) : Bool :=
  (decide (0x60000 ≤ a) && decide (a < 0x80000)) || (decide (0x9BE10 ≤ a) && decide (a ≤ 0x9BE21)) || a = 0x9E000

/-- MODIFY (R127). -/
def opModify (v : Lane) (m : Nat) (sec : Bool) (ws : List Word) (s : State) : Answered :=
  match ws with
  | [a, mask, x] =>
    withPoints m sec [(a.toNat, false), (a.toNat, true)] s fun s =>
      let r := readWords v m [a.toNat] s
      let old := r.1.headD 0
      let s := countAccess (computing r.2) m a.toNat true r.2
      (stOk, [old], if ownCopy a.toNat then modifyEach m a.toNat mask x s
        else if 0x98000 ≤ a.toNat ∧ a.toNat < 0x99000 then modifyPort m a.toNat mask x s
        else pointWrite m a.toNat ((old &&& ~~~mask) ||| (x &&& mask)) s)
  | _ => answerOnly stLength s

/-! ### Channels (R428, R431) -/

/-- The writes of one entry of CH_COMMAND; none where it is out of range (R431). -/
def chEntry (w : Word) : Option (List (Nat × Word)) :=
  let n := w.field 19 12
  if 175 < n then none
  else
    match w.field 11 8 with
    | 1 => some [(chanAddr n 0, 0x80000)]
    | 2 => some [(chanAddr n 0, 0x40000)]
    | 3 => some [(chanAddr n 0, 0x20000)]
    | 4 => some [(chanAddr n 0, 0x10000)]
    | 5 => some [(chanAddr n 0, 0x20000), (chanAddr n 0, 0x80000)]
    | _ => none

/-- CH_COMMAND. -/
def opChCommand (m : Nat) (sec : Bool) (ws : List Word) (s : State) : Answered :=
  if ws.isEmpty || decide (480 < ws.length) then answerOnly stLength s
  else if ws.any fun w => (chEntry w).isNone then answerOnly stRange s
  else writeOnly m sec (ws.flatMap fun w => (chEntry w).getD []) s

/-- CH_READ and CH_LIFE: registers at the offsets `offs` of consecutive channels. -/
def opChRead (v : Lane) (m : Nat) (sec : Bool) (offs : List Nat) (ws : List Word) (s : State) : Answered :=
  match ws with
  | [a, n] =>
    if 176 < a.toNat + n.toNat then answerOnly stRange s
    else readOnly v m sec ((addrsFrom a.toNat n.toNat).flatMap fun c => offs.map (chanAddr c)) s
  | _ => answerOnly stLength s

/-! ### Records (R258, R260, R432, R433, R436) -/

/-- The ten words of a record (R537). -/
def recordWords (r : Rec) : List Word :=
  [Word.ofN (r.draft.cls * 2 ^ 12 + r.draft.code)] ++ wordsOf r.seq 3 ++ wordsOf r.time 3 ++
    [r.draft.src, r.draft.arg0, r.draft.arg1]

/-- A number that the lanes may show: it is agreed (R82). -/
def agreedNumber (s : State) (n : Nat) : Bool := decide (n ≤ s.seq.agreed) && !s.seq.unheard.contains n

/-- EVT_READ: committed records, which are those of agreed numbers (R82, R432, R538). -/
def opEvtRead (ws : List Word) (s : State) : Answered :=
  if ws.length ≠ 4 then answerOnly stLength s
  else
    let from_ := ofWords (ws.take 3)
    let max_ := (ws.getD 3 0).toNat
    if 1510 < max_ then answerOnly stRange s
    else
      let held := s.ring.filter fun r => decide (from_ < r.seq) && agreedNumber s r.seq
      let out := held.take max_
      let lost := decide (from_ < s.ringLost)
      (stOk, [Word.ofN out.length, Word.ofN (flagAt lost 19 + satTo 0x1FFF (held.length - out.length))] ++
        out.flatMap recordWords, s)

/-- The words of a stream record as lane `v` holds it; a lane that has joined since shows its samples as GAP (R260). -/
def streamWords (s : State) (v : Lane) (x : Nat) (r : StreamRec) : List Word :=
  let base := (s.copyReg (strmAddr x 2)).toNat
  let size := max 1 (s.copyReg (strmAddr x 3)).toNat
  let ws := (List.range r.len).map fun i => Sparse.get (fun _ => 0) (s.lane v).streamMem (base + (r.off + i) % size)
  if (s.lane v).streamFrom < r.seq ∧ (ws.drop 1).take 3 = wordsOf r.seq 3 then ws
  else r.hdr :: wordsOf r.seq 3 ++ List.replicate (r.len - 4) 0x7FFFF

/-- Whole records of at most `room` words in all (R433). -/
def wholeRecords : Nat → List StreamRec → List StreamRec
  | _, [] => []
  | room, r :: rs => if r.len ≤ room then r :: wholeRecords (room - r.len) rs else []

/-- Stream words that replies on a port carry in this ply (R421). -/
def streamUsed (s : State) : Lane → Nat
  | .white => s.ply.streamW
  | .black => s.ply.streamB

/-- Count them. -/
def addStreamUsed (l : Lane) (n : Nat) (s : State) : State :=
  match l with
  | .white => { s with ply := { s.ply with streamW := s.ply.streamW + n } }
  | .black => { s with ply := { s.ply with streamB := s.ply.streamB + n } }

/-- Words that the engine copies into a reply, as lane `v` holds them (R420). -/
def lateWords (s : State) (v : Lane) : LateSrc → List Word
  | .stream x r => streamWords s v x r
  | .sram a => [s.sramWord a]

/-- A reply that returns records: the words before them, and where they stand, from which the engine copies them when phase B
has ended (R420). -/
def recordReply (v : Lane) (head : List Word) (srcs : List LateSrc) (s : State) : Answered :=
  (stOk, head ++ srcs.flatMap (lateWords s v), { s with host := { s.host with lateNow := srcs } })

/-- STR_READ on port `l`, as lane `v` shows it (R433). The words of stream memory that it returns are no points that the command
covers: the model checks the registers of the stream alone, and no entry of the STREAM table (R10, R138). DEDUCED, assumption
log 56. -/
def opStrRead (l v : Lane) (m : Nat) (sec : Bool) (ws : List Word) (s : State) : Answered :=
  match ws with
  | [w0, off, max_] =>
    let x := w0.field 19 16
    let ack := w0.bit 15
    if 2400 < max_.toNat ∨ (ack = true ∧ recordBoundary s x off = false) then answerOnly stRange s
    else
      withAccesses m sec [(strmAddr x 4, false), (strmAddr x 5, ack), (strmAddr x 6, false)] s fun s =>
        let s := if ack then measWrite m (strmAddr x 5) off s else s
        let rd := measView s (strmAddr x 5)
        let wr := s.copyReg (strmAddr x 4)
        let held := if rd = wr then [] else (s.stream x).held.dropWhile fun r => Word.ofN r.off ≠ rd
        let out := wholeRecords (min max_.toNat (2400 - streamUsed s l)) held
        let next := ((held.drop out.length).head?.map (·.len)).getD 0
        recordReply v [wr, rd, s.copyReg (strmAddr x 6), Word.ofN next] (out.map (.stream x))
          (addStreamUsed l (out.map (·.len)).sum s)
  | _ => answerOnly stLength s

/-- Captured records that fit within `room` words, at most `n` (R436). -/
def fitCaptures : Nat → Nat → List (Nat × List Word) → List (Nat × List Word)
  | _, _, [] => []
  | 0, _, _ => []
  | n + 1, room, c :: cs => if c.2.length ≤ room then c :: fitCaptures n (room - c.2.length) cs else []

/-- The captured records with the place of each in the ring, which ends at `end_` (R436). -/
def capturePlaces (end_ : Nat) : List (Nat × List Word) → List ((Nat × List Word) × Nat)
  | [] => []
  | c :: cs => (c, end_ + 32768 - ((c :: cs).map fun p => p.2.length).sum) :: capturePlaces end_ cs

/-- The Board SRAM words of captured records (R436). -/
def capturePoints (s : State) (out : List (Nat × List Word)) : List (Nat × Bool) :=
  ((capturePlaces s.host.captureEnd s.host.captures).filter fun p => out.contains p.1).flatMap fun p =>
    (List.range p.1.2.length).map fun i => (captureAddr (p.2 + i), false)

/-- BUS_READ (R436): the records stand in Board SRAM, whose table is consulted (R138). -/
def opBusRead (v : Lane) (m : Nat) (sec : Bool) (ws : List Word) (s : State) : Answered :=
  if ws.length ≠ 4 then answerOnly stLength s
  else
    let from_ := ofWords (ws.take 3)
    let max_ := (ws.getD 3 0).toNat
    if 255 < max_ then answerOnly stRange s
    else
      let out := fitCaptures max_ (32 * 472 - 2) (s.host.captures.filter fun c => decide (from_ < c.1))
      withAccesses m sec (capturePoints s out) s fun s =>
        let lost := decide (from_ < s.host.captureLost)
        recordReply v [Word.ofN out.length, Word.ofN (flagAt lost 19)] ((capturePoints s out).map fun p => .sram p.1) s

/-! ### Mailboxes (R454, R455) -/

/-- A host session may use channel `k`: it is enabled (RANGE), and a non-secure session uses no secure channel (ACCESS). -/
def mbxHostStatus (s : State) (k : Nat) (sec : Bool) : Nat :=
  if mbxOn s k = false then stRange else if (mbxCfg s k).bit 18 && !sec then stAccess else stOk

/-- The first point of a mailbox opcode that the MBX table does not grant (R132, R138). -/
def mbxDenied (s : State) (m : Nat) (sec : Bool) (pts : List (Nat × Bool)) : Option (Nat × Bool) :=
  pts.find? fun p => !tableGrants s 10 m sec p.1 p.2 .none

/-- A mailbox opcode runs once the MBX table grants its points (R138). -/
def withMbxPoints (m : Nat) (sec : Bool) (pts : List (Nat × Bool)) (s : State) (run : State → Answered) : Answered :=
  match mbxDenied s m sec pts with
  | some p => answerOnly stAccess (refuseAccess m p.1 p.2 0 s)
  | none => unlessBlocked (blockOn m pts s) fun s => run (accesses m pts s)

/-- MBX_POST (R454): it writes the compose words and MBX_POST. -/
def opMbxPost (m : Nat) (sec : Bool) (ws : List Word) (s : State) : Answered :=
  match ws with
  | [] => answerOnly stLength s
  | w :: msg =>
    let k := 32 + w.field 2 0
    let posts := (s.mbx.posts.filter fun p => decide (p.1 = k)).length
    if 8 < msg.length then answerOnly stLength s
    else if mbxHostStatus s k sec ≠ stOk then answerOnly (mbxHostStatus s k sec) s
    else
      withMbxPoints m sec (writePoints (mbxAddr k 1 :: (List.range msg.length).map (composeAddr k))) s fun s =>
        if 8 ≤ (s.box k).queue.length + posts then answerOnly stBusy s
        else answerOnly stOk (postMessage k msg (s.modBox k fun b => { b with aborted := false }))

/-- MBX_FETCH (R454), its statuses in the order of R415: it reads the queue window and the lengths, and writes MBX_ACK. -/
def opMbxFetch (m : Nat) (sec : Bool) (ws : List Word) (s : State) : Answered :=
  match ws with
  | [w] =>
    let k := 40 + w.field 2 0
    let ack := w.field 7 4
    if mbxHostStatus s k sec = stRange ∨ (s.box k).queue.length < ack + ackedNow s k then answerOnly stRange s
    else if mbxHostStatus s k sec ≠ stOk then answerOnly (mbxHostStatus s k sec) s
    else
      withMbxPoints m sec (readPoints (mbxAddr k 5 :: mbxAddr k 6 :: (List.range 64).map (0x9A000 + 64 * k + ·)) ++
          writePoints [mbxAddr k 7]) s fun s =>
        let s := ackMessages k ack (s.modBox k fun b => { b with db := false })
        let rest := (s.box k).queue.drop (ackedNow s k)
        (stOk, Word.ofN rest.length :: rest.flatMap fun ws => Word.ofN ws.length :: ws, s)
  | _ => answerOnly stLength s

/-- Word `h` of MBX_STATUS (R455). -/
def mbxStatusWord (s : State) (h : Nat) : Word :=
  let i := s.box (32 + h)
  let o := s.box (40 + h)
  Word.ofN (flagAt (mbxOn s (32 + h)) 19 + flagAt ((mbxCfg s (32 + h)).bit 18) 18 + i.queue.length % 16 * 2 ^ 14 +
    o.queue.length % 16 * 2 ^ 10 + flagAt o.db 9 + flagAt i.aborted 8 + i.discarded % 16 * 2 ^ 4 + flagAt o.wait 3 +
    flagAt (mbxOn s (40 + h)) 2 + flagAt ((mbxCfg s (40 + h)).bit 18) 1)

/-! ### Lighting, access and buses (R434 to R436) -/

/-- LGT_STRING: the writes are DUTY, FADE, the levels, then CTL (R434). -/
def opLgtString (m : Nat) (sec : Bool) (ws : List Word) (s : State) : Answered :=
  let w := ws.getD 0 0
  let x := w.field 18 16
  if ws.length ≠ 19 then answerOnly stLength s
  else if 0xFFFF < (ws.getD 1 0).toNat ∨ (ws.drop 3).any (fun l => decide (0xFF < l.toNat)) then answerOnly stRange s
  else
    let as := [strAddr x 4, strAddr x 5] ++ (List.range 16).map fun k => strAddr x (16 + k)
    writeOnly m sec (as.zip (ws.drop 1) ++ [(strAddr x 0, Word.ofN (w.field 15 12 * 2 ^ 16))]) s

/-- LGT_PIXELS (R434). -/
def opLgtPixels (m : Nat) (sec : Bool) (ws : List Word) (s : State) : Answered :=
  let w := ws.getD 0 0
  let mx := w.field 19 19
  let first := w.field 18 14
  let n := w.field 13 10
  if ws.length ≠ 1 + 48 * n then answerOnly stLength s
  else if n = 0 ∨ 9 < n ∨ 24 < first + n then answerOnly stRange s
  else
    let ps := ((List.range (48 * n)).map fun i => pixAddr mx (48 * first + i)).zip (ws.drop 1)
    writeOnly m sec (ps ++ (if w.bit 0 then [(mxAddr mx 0, 0x10000)] else [])) s

/-- The registers of LGT_READ. -/
def lgtReadAddrs : List Nat :=
  ((List.range 8).flatMap fun x => (List.range 11).map (strAddr x)) ++
    (List.range 2).flatMap fun mx => (List.range 7).map (mxAddr mx)

/-- The registers of ACC_READ. -/
def accReadAddrs : List Nat := addrsFrom 0x88000 36 ++ addrsFrom 0x88040 16

/-- ACC_ENROL: the key is unwrapped and stored, and a test round on all enabled antennas is commanded (R344, R435). -/
def opAccEnrol (m : Nat) (sec : Bool) (ws : List Word) (s : State) : Answered :=
  let w := fun i => ws.getD i 0
  let i := (w 0).field 3 0
  if ws.length ≠ 16 then answerOnly stLength s
  else if w 0 &&& 0xFFFF0 ≠ 0 then answerOnly stRange s
  else
    withAccesses m sec [(tokAddr i, true)] s fun s =>
      if nvmRefused s || (s.acc.tokens.any fun p => decide (p.1 = i)) then answerOnly stState s
      else match unwrapKey Config.transportKey (wordOctets (ws.drop 4)) with
        | none => answerOnly stIntegrity s
        | some key =>
          let id := (w 1).toNat % 2 ^ 16 + 2 ^ 16 * ((w 2).toNat % 2 ^ 16)
          let reg := Word.ofN (2 ^ 19 + (w 3).field 1 0 * 2 ^ 17 + id % 2 ^ 16)
          let s := { s with acc := { s.acc with tokens := Sparse.put s.acc.tokens i ⟨id, key⟩ } }
          let s := loadLatch ((s.setLive (tokAddr i) reg).setCopy (tokAddr i) reg)
          (stOk, [0xFFFFF], emit [(accT, .round 0 63 (some (BitVec.ofNat 4 i)))] s)

/-- ACC_DELETE, with its record (R344, R345, R347, R551). -/
def opAccDelete (m : Nat) (sec : Bool) (ws : List Word) (s : State) : Answered :=
  match ws with
  | [w] =>
    let i := w.field 3 0
    withAccesses m sec [(tokAddr i, true)] s fun s =>
      if nvmRefused s || !(s.acc.tokens.any fun p => decide (p.1 = i)) then answerOnly stState s
      else
        let s := { s with acc := { s.acc with tokens := Sparse.erase s.acc.tokens i } }
        let s := loadLatch ((s.setLive (tokAddr i) 0).setCopy (tokAddr i) 0)
        let s := laneRecord ⟨0x08, 0x051, 0x88020, Word.ofN i, 0⟩ s
        answerOnly stOk (if s.acc.sessOpen && decide (s.acc.sessToken = i) then endSession 5 s else s)
  | _ => answerOnly stLength s

/-- The record of a BUS_SEND stands in a buffer of the lanes in Board SRAM (R376, R436). DESIGN CHOICE, assumption log 45. -/
def placeBuffer (ws : List Word) (s : State) : State :=
  { s.setSrams (freePlace s ws.length) ws with free := s.free + 1 }

/-- BUS_SEND (R436). -/
def opBusSend (m : Nat) (sec : Bool) (ws : List Word) (s : State) : Answered :=
  match ws with
  | w :: tx :: fr =>
    let b := w.field 4 0
    let op := tx.field 19 18
    if (if op = 2 then decide (fr ≠ []) else decide (fr.length ≠ recWords fr)) then answerOnly stLength s
    else if 27 < b ∨ op = 3 then answerOnly stRange s
    else
      withAccesses m sec [(busqAddr b 0, true), (busqAddr b 1, true)] s fun s =>
        let s := (busqWrite m (busqAddr b 0) tx s).modBus b fun x => { x with part := none }
        let s := if fr = [] then s else placeBuffer fr s
        answerOnly stOk (
          if objectZeroHeld s b op (tx.field 17 12) then refuseBus b 0x05 (busqAddr b 1) 0 s
          else emit [(busT b, .bus (BitVec.ofNat 2 op) (BitVec.ofNat 6 (tx.field 17 12)) (BitVec.ofNat 12 (tx.field 11 0)) fr)] s)
  | _ => answerOnly stLength s

/-- BUS_TAP (R436). -/
def opBusTap (ws : List Word) (s : State) : Answered :=
  if ws.length ≠ 5 then answerOnly stLength s
  else
    let b := (ws.getD 0 0).field 4 0
    let mask := ((List.range 4).map fun i => (ws.getD (i + 1) 0).toNat % 2 ^ 16 * 2 ^ (16 * i)).sum
    if 27 < b then answerOnly stRange s else answerOnly stOk (s.modBus b fun x => { x with tap := mask })

/-- The status, error and count registers of bus `b`, in address order. -/
def busStatusAddrs (b : Nat) : List Nat :=
  (if b < 16 then [canAddr b 1, canAddr b 5, canAddr b 6, canAddr b 11]
    else if b < 24 then [linAddr (b - 16) 1, linAddr (b - 16) 3]
    else [tsAddr (b - 24) 1]) ++ [busqAddr b 2, busqAddr b 4]

/-- BUS_STATUS: the reply's words beyond the bus's registers are free values, since the spec does not list the eight. -/
def opBusStatus (v : Lane) (m : Nat) (sec : Bool) (ws : List Word) (s : State) : Answered :=
  match ws with
  | [w] =>
    let b := w.field 4 0
    if 27 < b then answerOnly stRange s
    else
      let r := readOnly v m sec (busStatusAddrs b) s
      if r.1 = stOk then
        (stOk, (r.2.1 ++ (List.range 8).map fun i => Word.ofN (Config.windowWord r.2.2.free i)).take 8,
          { r.2.2 with free := r.2.2.free + 1 })
      else r
  | _ => answerOnly stLength s

/-! ### Every opcode (R428) -/

/-- An opcode without payload. -/
def bare (ws : List Word) (a : Answered) (s : State) : Answered := if ws.isEmpty then a else answerOnly stLength s

/-- LANE_RESET: the lane resets at the end of phase E (R430). -/
def opLaneReset (ws : List Word) (s : State) : Answered :=
  match ws with
  | [w] =>
    let l := if w.bit 19 then Lane.black else .white
    if w.bit 0 = false ∧ activeLane s = some l ∧ covered s = false then answerOnly stState s
    else answerOnly stOk { s with lanes := { s.lanes with resetReq := s.lanes.resetReq ++ [l] } }
  | _ => answerOnly stLength s

/-- KEY_LOAD (R527). -/
def opKeyLoad (ws : List Word) (s : State) : Answered :=
  match ws with
  | [] => answerOnly stLength s
  | w :: key => let r := keyLoad (w.field 19 16) key s; answerOnly r.1 r.2

/-- MODULE_RESET (R430). -/
def opModuleReset (l : Lane) (ws : List Word) (s : State) : Answered :=
  match ws with
  | [w] => if w = 0x5A5A5 then answerOnly stOk { s with host := { s.host with resetPort := some l } } else answerOnly stRange s
  | _ => answerOnly stLength s

/-- PWR_REQUEST (R465). -/
def opPwrRequest (ws : List Word) (s : State) : Answered :=
  match ws with
  | [w] => let r := requestPower (w.field 2 0) s; answerOnly r.1 r.2
  | _ => answerOnly stLength s

/-- One write of the word `v` to address `a`, for an opcode of one payload word. -/
def oneWrite (m : Nat) (sec : Bool) (ws : List Word) (a : Nat) (f : Word → Word) (s : State) : Answered :=
  match ws with
  | [w] => writeOnly m sec [(a, f w)] s
  | _ => answerOnly stLength s

/-- Opcodes that a non-secure session may not use (R428). -/
def secureOnly (code : Nat) : Bool :=
  [0x03, 0x50, 0x51, 0x52, 0x53, 0x54, 0x56, 0x60, 0x70, 0x71, 0x90, 0x91, 0x93].contains code

/-- The opcodes of R428. -/
def opDefined (code : Nat) : Bool :=
  [0x00, 0x01, 0x02, 0x03, 0x10, 0x11, 0x12, 0x13, 0x20, 0x21, 0x22, 0x30, 0x31, 0x40, 0x41, 0x42, 0x50, 0x51, 0x52, 0x53,
    0x54, 0x55, 0x56, 0x60, 0x61, 0x70, 0x71, 0x72, 0x80, 0x81, 0x82, 0x90, 0x91, 0x92, 0x93, 0x94, 0xA0, 0xA1, 0xA2,
    0xA3].contains code

/-- Steps 10 to 13 and the execution of an opcode, as lane `v` shows it, for a request on port `l` that was numbered with coverage
`cov`; CASTLE answers what its request meets, and HELLO and CLOSE have their own place (R107, R108, R415, R428). -/
def runOpcode (cov : Bool) (l v : Lane) (code m : Nat) (sec : Bool) (ws : List Word) (s : State) : Answered :=
  match code with
  | 0x02 => bare ws (stOk, pingWords s v, s) s
  | 0x03 => opModuleReset l ws s
  | 0x10 => opRead v m sec ws s
  | 0x11 => opWrite m sec ws s
  | 0x12 => opReadList v m sec ws s
  | 0x13 => opModify v m sec ws s
  | 0x20 => opChCommand m sec ws s
  | 0x21 => opChRead v m sec [1, 2, 0x1D, 0x1E] ws s
  | 0x22 => opChRead v m sec (addrsFrom 0x14 8) ws s
  | 0x30 => opEvtRead ws s
  | 0x31 => opStrRead l v m sec ws s
  | 0x40 => opMbxPost m sec ws s
  | 0x41 => opMbxFetch m sec ws s
  | 0x42 => bare ws (stOk, (List.range 8).map (mbxStatusWord s), s) s
  | 0x50 | 0x51 | 0x52 | 0x53 | 0x54 | 0x55 => updRequest none code ws s
  | 0x56 => opKeyLoad ws s
  | 0x60 => opPwrRequest ws s
  | 0x61 => bare ws (stOk, [4, 7, 9, 6].map (pwrRegWord s v), s) s
  | 0x70 => bare ws (if cov = false then answerOnly stState s
      else if s.lanes.castle.isSome then answerOnly stBusy s else answerOnly stOk s) s
  | 0x71 => opLaneReset ws s
  | 0x72 => bare ws (stOk, laneStatusWords s v, s) s
  | 0x80 => opLgtString m sec ws s
  | 0x81 => opLgtPixels m sec ws s
  | 0x82 => bare ws (readOnly v m sec lgtReadAddrs s) s
  | 0x90 => opAccEnrol m sec ws s
  | 0x91 => opAccDelete m sec ws s
  | 0x92 => oneWrite m sec ws 0x88001 (fun w => Word.ofN (2 ^ 19 + w.field 5 0 * 2 ^ 12)) s
  | 0x93 => oneWrite m sec ws 0x88021 (fun w => w &&& 0xE0000) s
  | 0x94 => bare ws (readOnly v m sec accReadAddrs s) s
  | 0xA0 => opBusSend m sec ws s
  | 0xA1 => opBusTap ws s
  | 0xA2 => opBusRead v m sec ws s
  | _ => opBusStatus v m sec ws s

/-- Board words that a request reads or writes, fixed by its opcode and parameters (R420). -/
def wordCost (code : Nat) (ws : List Word) : Nat :=
  let w := fun i => (ws.getD i 0).toNat
  min 4096 (
    match code with
    | 0x02 => 6
    | 0x10 | 0x11 => w 1
    | 0x12 => ws.length
    | 0x13 => 2
    | 0x20 => (ws.map fun x => if x.field 11 8 = 5 then 2 else 1).sum
    | 0x21 => 4 * w 1
    | 0x22 => 8 * w 1
    | 0x31 => 3 + flagAt ((ws.getD 0 0).bit 15) 0
    | 0x40 => ws.length
    | 0x41 => 73
    | 0x42 => 8
    | 0x55 => 6
    | 0x61 => 4
    | 0x72 => 14
    | 0x80 => 19
    | 0x81 => ws.length - 1 + (if (ws.getD 0 0).bit 0 then 1 else 0)
    | 0x82 => 102
    | 0x90 | 0x91 | 0x92 | 0x93 => 1
    | 0x94 => 52
    | 0xA0 => ws.length
    | 0xA3 => 8
    | _ => 0)

/-! ### The host step (R415, R420, R421) -/

/-- The reply of an executed request enters its session's cache and the queue (R419, R421). -/
def giveReply (p : Packet) (fs : List Frame) (s : State) : State :=
  let s := match findSession s.host.sessions p.session.toNat with
    | some (k, x) => setSession none k (x.keep p.reqId.toNat fs) s
    | none => s
  addFrames fs s

/-- A reply that returns records is noted, so that the engine copies them when phase B has ended (R420). -/
def noteLate (l : Lane) (seq : Nat) (ws : List Word) (s : State) : State :=
  let srcs := s.host.lateNow
  if srcs = [] then s
  else
    let n := (srcs.flatMap (lateWords s l)).length
    { s with host := { s.host with lateNow := [], late := s.host.late ++ [⟨seq, l, ws.take (ws.length - n), srcs⟩] } }

/-- The records of one reply, as they stand at the end of phase B, take their place in its frame (R420). -/
def LateReply.fill (s : State) (r : LateReply) (f : Frame) : Frame :=
  let cut := fun (v : Lane) =>
    ((r.head ++ r.srcs.flatMap (lateWords s v)).drop (472 * f.index)).take 472
  if f.seq = r.seq then
    { f with words := f.words.take 12 ++ cut f.port, other := f.other.take 12 ++ cut (otherLane f.port) }
  else f

/-- The engine copies the records of the replies of this ply into their frames, and into those that the sessions keep (R419,
R420). -/
def copyRecords (s : State) : State :=
  let fill := fun (f : Frame) => s.host.late.foldl (fun f r => r.fill s f) f
  if s.host.late = [] then s
  else { s with host := { s.host with
    late := [], made := s.host.made.map fill,
    sessions := s.host.sessions.map fun p =>
      (p.1, { p.2 with cache := p.2.cache.map fun c => (c.1, fill c.2) }) } }

/-- A request of a session whose REQ_ID is new: its opcode is executed and answered. What would overfill the reply
queue is answered with BUSY and what exceeds 32 frames with RANGE, neither executed (R421, R422). `s` counts the
REQ_ID already. DEDUCED, assumption log 56. -/
def executeRequest (p : Packet) (seq : Nat) (x : Session) (s : State) : State :=
  let m := if x.secure then 28 else 29
  let key := if x.secure then some x.keyRep else none
  let refuse := fun (status : Nat) => giveReply p (statusFrames p key status seq s) s
  if opDefined p.opcode = false then refuse 8
  else if secureOnly p.opcode && !x.secure then refuse stAccess
  else
    let r := runOpcode p.covered p.port p.port p.opcode m x.secure p.payload s
    let o := runOpcode p.covered p.port (otherLane p.port) p.opcode m x.secure p.payload s
    let n := frameCount r.2.1.length
    if 32 < n then refuse stRange
    else if queueFull s p.port n then refuse stBusy
    else
      let s := { r.2.2 with ply := { r.2.2.ply with hostWords := r.2.2.ply.hostWords + wordCost p.opcode p.payload } }
      let s := noteLate p.port seq r.2.1 s
      if p.opcode = 0x70 ∧ r.1 = stOk then castleRequest (some ⟨p, seq, s.ply.at_, key⟩) p.covered s
      else giveReply p (replyFrames p key r.1 seq s.ply.number s.ply.at_ r.2.1 o.2.1) s

/-- HELLO (R415, R417). -/
def executeHello (p : Packet) (seq : Nat) (s : State) : State :=
  if p.reqId = 0 then plainReply p none 6 seq s
  else if p.payload.length ≠ 5 then plainReply p none stLength seq s
  else
    let r := hello none p s
    let fs := replyFrames p r.2.2.1 r.1 seq s.ply.number s.ply.at_ r.2.1 r.2.1
    if queueFull s p.port 1 then plainReply p none stBusy seq s else addFrames fs r.2.2.2

/-- CLOSE (R418). -/
def executeClose (p : Packet) (seq k : Nat) (x : Session) (s : State) : State :=
  let key := if x.secure then some x.keyRep else none
  if p.payload ≠ [] ∨ queueFull s p.port 1 = true then giveReply p (statusFrames p key stLength seq s) s
  else plainReply p key stOk seq (closeSession none k 1 s)

/-- A packet that failed step 3 to 6 is answered, at most 4 of them on a port in a ply (R415, R553). -/
def answerFailed (p : Packet) (seq : Nat) (s : State) : State :=
  let n := match p.port with | .white => s.ply.checksW | .black => s.ply.checksB
  let s := laneRecord ⟨0x0A, 6, 0x98000, laneWord p.port, Word.ofN (min p.failed 6)⟩ s
  if 4 ≤ n then s.modLane p.port fun g => g.countPort 3 1
  else
    let s := match p.port with
      | .white => { s with ply := { s.ply with checksW := n + 1 } }
      | .black => { s with ply := { s.ply with checksB := n + 1 } }
    plainReply p none (failedStatus p.failed) seq s

/-- Steps 7 to 13 of a request that starts (R415, R419). -/
def startRequest (p : Packet) (seq : Nat) (s : State) : State :=
  if p.failed ≠ 0 then answerFailed p seq s
  else if p.opcode = 0 then executeHello p seq s
  else
    match findSession s.host.sessions p.session.toNat with
    | none => plainReply p none 6 seq s
    | some (k, x) =>
      if x.secure ≠ p.sec then plainReply p none 6 seq s
      else
        let key := if x.secure then some x.keyRep else none
        match reqFate x p.reqId.toNat with
        | .sequence => plainReply p key 6 seq s
        | .replayed => plainReply p key 0xA seq s
        | .again f =>
          if queueFull s p.port 1 then plainReply p key stBusy seq s
          else addFrames [{ f.again p.port with time := s.ply.at_, ahead := false, dest := p.source, order := seq }] s
        | .run =>
          let x := x.took p.reqId.toNat s.ply.boundary
          let s := setSession none k x s
          if p.opcode = 1 then executeClose p seq k x s else executeRequest p seq x s

/-- A request of the host step: executed, carried when its words do not fit or an earlier one was carried, or left alone
after a MODULE_RESET (R420, R430). One that meets a locked target waits, and so do those after it (R142, R143). Its records take
its arrival time. -/
def hostRequest (p : Packet) (seq at_ : Nat) (s : State) : State :=
  if s.host.resetPort.isSome then s
  else if s.ply.blocked then { s with host := { s.host with stalled := s.host.stalled ++ [(p, seq, at_)] } }
  else if s.host.carried.isEmpty && decide (s.ply.hostWords + wordCost p.opcode p.payload ≤ 4096) then
    let r := startRequest p seq { s with ply := { s.ply with at_ := at_ } }
    if r.ply.blocked then
      { s with
        white := { s.white with arbs := r.white.arbs }, black := { s.black with arbs := r.black.arbs },
        ply := { s.ply with blocked := true }, host := { s.host with stalled := s.host.stalled ++ [(p, seq, at_)] } }
    else { r with ply := { r.ply with at_ := s.ply.at_ } }
  else
    { s.modLane p.port fun g => g.countPort 7 1 with
      host := { s.host with carried := s.host.carried ++ [(p, seq, at_)] } }

/-- Requests of the host step, in sequence order; the locks that they took are released at its end (R130, R420). -/
def hostRequests (all : List (Packet × Nat × Nat)) (s : State) : State :=
  dropHostLocks (all.foldl (fun s q => hostRequest q.1 q.2.1 q.2.2 s) s)

/-- The host step: the requests carried over, then those of the input set, in sequence order (R420). -/
def hostStep (due : List (Packet × Nat × Nat)) (s : State) : State :=
  hostRequests (s.host.carried ++ due) { s with host := { s.host with carried := [] } }

/-- The requests that waited at a locked target are taken up again (R143). -/
def hostResume (s : State) : State :=
  if s.ply.blocked then
    hostRequests s.host.stalled { s with ply := { s.ply with blocked := false }, host := { s.host with stalled := [] } }
  else s

/-- The castling replies that are owed are made, with the arrival time and the key that their requests had (R106 to R108, R413). -/
def giveOwed (s : State) : State :=
  s.host.owed.foldl (fun s q =>
    giveReply q.1.packet (replyFrames q.1.packet q.1.key q.2.1 q.1.seq q.2.2 q.1.time [] []) s)
    { s with host := { s.host with owed := [] } }

/-! ### The commands: each is a request that the lanes execute in the host step -/

/-- The packet that a row of the table stands for. -/
def rowPacket (code : Nat) (h : ReqHead) (ws : List Word) (s : State) : Packet :=
  { port := h.port, source := h.source, opcode := code, sec := h.sec, session := h.session, reqId := h.reqId, payload := ws, failed := 0,
    nonce := Config.deviceNonce s.free, covered := covered s }

/-- A row of R428: no lock outlasts its command (R130). -/
def hostRow (code : Nat) (h : ReqHead) (ws : List Word) (s : State) : State :=
  dropHostLocks (hostRequest (rowPacket code h ws s) h.seq s.ply.at_ { s with free := s.free + 1 })

/-- A reply to MODULE_RESET has not left its port. -/
def resetReplyWaits (s : State) : Bool :=
  (s.host.made ++ s.white.txq ++ s.black.txq).any fun f => decide ((f.words.headD 0).field 7 0 = 3)

/-- MODULE_RESET_ASSERT: 1 ms after the last frame of the reply has left its port; each active or standby lane has written its
power-fail image (R222, R430). -/
def execModuleResetAssert (s : State) : Host.Outcome State Fault Refusal :=
  .next (if s.host.resetPort.isSome && !resetReplyWaits s then moduleReset 13 2 s else s)

/-- HELLO (R417). -/
def execHello (h : ReqHead) (ws : List Word) (s : State) : Host.Outcome State Fault Refusal :=
  .next (hostRow 0x00 h ws s)

/-- CLOSE (R418). -/
def execClose (h : ReqHead) (ws : List Word) (s : State) : Host.Outcome State Fault Refusal :=
  .next (hostRow 0x01 h ws s)

/-- PING (R428). -/
def execPing (h : ReqHead) (ws : List Word) (s : State) : Host.Outcome State Fault Refusal :=
  .next (hostRow 0x02 h ws s)

/-- MODULE_RESET (R430). -/
def execModuleReset (h : ReqHead) (ws : List Word) (s : State) : Host.Outcome State Fault Refusal :=
  .next (hostRow 0x03 h ws s)

/-- READ (R428). -/
def execRead (h : ReqHead) (ws : List Word) (s : State) : Host.Outcome State Fault Refusal :=
  .next (hostRow 0x10 h ws s)

/-- WRITE (R428). -/
def execWrite (h : ReqHead) (ws : List Word) (s : State) : Host.Outcome State Fault Refusal :=
  .next (hostRow 0x11 h ws s)

/-- READ_LIST (R428). -/
def execReadList (h : ReqHead) (ws : List Word) (s : State) : Host.Outcome State Fault Refusal :=
  .next (hostRow 0x12 h ws s)

/-- MODIFY (R428). -/
def execModify (h : ReqHead) (ws : List Word) (s : State) : Host.Outcome State Fault Refusal :=
  .next (hostRow 0x13 h ws s)

/-- CH_COMMAND (R431). -/
def execChCommand (h : ReqHead) (ws : List Word) (s : State) : Host.Outcome State Fault Refusal :=
  .next (hostRow 0x20 h ws s)

/-- CH_READ (R428). -/
def execChRead (h : ReqHead) (ws : List Word) (s : State) : Host.Outcome State Fault Refusal :=
  .next (hostRow 0x21 h ws s)

/-- CH_LIFE (R428). -/
def execChLife (h : ReqHead) (ws : List Word) (s : State) : Host.Outcome State Fault Refusal :=
  .next (hostRow 0x22 h ws s)

/-- EVT_READ (R432). -/
def execEvtRead (h : ReqHead) (ws : List Word) (s : State) : Host.Outcome State Fault Refusal :=
  .next (hostRow 0x30 h ws s)

/-- STR_READ (R433). -/
def execStrRead (h : ReqHead) (ws : List Word) (s : State) : Host.Outcome State Fault Refusal :=
  .next (hostRow 0x31 h ws s)

/-- MBX_POST (R454). -/
def execMbxPost (h : ReqHead) (ws : List Word) (s : State) : Host.Outcome State Fault Refusal :=
  .next (hostRow 0x40 h ws s)

/-- MBX_FETCH (R454). -/
def execMbxFetch (h : ReqHead) (ws : List Word) (s : State) : Host.Outcome State Fault Refusal :=
  .next (hostRow 0x41 h ws s)

/-- MBX_STATUS (R455). -/
def execMbxStatus (h : ReqHead) (ws : List Word) (s : State) : Host.Outcome State Fault Refusal :=
  .next (hostRow 0x42 h ws s)

/-- UPD_BEGIN (R516). -/
def execUpdBegin (h : ReqHead) (ws : List Word) (s : State) : Host.Outcome State Fault Refusal :=
  .next (hostRow 0x50 h ws s)

/-- UPD_DATA (R517). -/
def execUpdData (h : ReqHead) (ws : List Word) (s : State) : Host.Outcome State Fault Refusal :=
  .next (hostRow 0x51 h ws s)

/-- UPD_VERIFY (R518). -/
def execUpdVerify (h : ReqHead) (ws : List Word) (s : State) : Host.Outcome State Fault Refusal :=
  .next (hostRow 0x52 h ws s)

/-- UPD_ACTIVATE (R519). -/
def execUpdActivate (h : ReqHead) (ws : List Word) (s : State) : Host.Outcome State Fault Refusal :=
  .next (hostRow 0x53 h ws s)

/-- UPD_CONFIRM (R523). -/
def execUpdConfirm (h : ReqHead) (ws : List Word) (s : State) : Host.Outcome State Fault Refusal :=
  .next (hostRow 0x54 h ws s)

/-- UPD_STATUS (R528). -/
def execUpdStatus (h : ReqHead) (ws : List Word) (s : State) : Host.Outcome State Fault Refusal :=
  .next (hostRow 0x55 h ws s)

/-- KEY_LOAD (R527). -/
def execKeyLoad (h : ReqHead) (ws : List Word) (s : State) : Host.Outcome State Fault Refusal :=
  .next (hostRow 0x56 h ws s)

/-- PWR_REQUEST (R465). -/
def execPwrRequest (h : ReqHead) (ws : List Word) (s : State) : Host.Outcome State Fault Refusal :=
  .next (hostRow 0x60 h ws s)

/-- PWR_STATUS (R488). -/
def execPwrStatus (h : ReqHead) (ws : List Word) (s : State) : Host.Outcome State Fault Refusal :=
  .next (hostRow 0x61 h ws s)

/-- CASTLE (R107). -/
def execCastle (h : ReqHead) (ws : List Word) (s : State) : Host.Outcome State Fault Refusal :=
  .next (hostRow 0x70 h ws s)

/-- LANE_RESET (R430). -/
def execLaneReset (h : ReqHead) (ws : List Word) (s : State) : Host.Outcome State Fault Refusal :=
  .next (hostRow 0x71 h ws s)

/-- LANE_STATUS (R428). -/
def execLaneStatus (h : ReqHead) (ws : List Word) (s : State) : Host.Outcome State Fault Refusal :=
  .next (hostRow 0x72 h ws s)

/-- LGT_STRING (R434). -/
def execLgtString (h : ReqHead) (ws : List Word) (s : State) : Host.Outcome State Fault Refusal :=
  .next (hostRow 0x80 h ws s)

/-- LGT_PIXELS (R434). -/
def execLgtPixels (h : ReqHead) (ws : List Word) (s : State) : Host.Outcome State Fault Refusal :=
  .next (hostRow 0x81 h ws s)

/-- LGT_READ (R428). -/
def execLgtRead (h : ReqHead) (ws : List Word) (s : State) : Host.Outcome State Fault Refusal :=
  .next (hostRow 0x82 h ws s)

/-- ACC_ENROL (R344). -/
def execAccEnrol (h : ReqHead) (ws : List Word) (s : State) : Host.Outcome State Fault Refusal :=
  .next (hostRow 0x90 h ws s)

/-- ACC_DELETE (R344). -/
def execAccDelete (h : ReqHead) (ws : List Word) (s : State) : Host.Outcome State Fault Refusal :=
  .next (hostRow 0x91 h ws s)

/-- ACC_ROUND (R428). -/
def execAccRound (h : ReqHead) (ws : List Word) (s : State) : Host.Outcome State Fault Refusal :=
  .next (hostRow 0x92 h ws s)

/-- ACC_DEN (R428). -/
def execAccDen (h : ReqHead) (ws : List Word) (s : State) : Host.Outcome State Fault Refusal :=
  .next (hostRow 0x93 h ws s)

/-- ACC_READ (R428). -/
def execAccRead (h : ReqHead) (ws : List Word) (s : State) : Host.Outcome State Fault Refusal :=
  .next (hostRow 0x94 h ws s)

/-- BUS_SEND (R436). -/
def execBusSend (h : ReqHead) (ws : List Word) (s : State) : Host.Outcome State Fault Refusal :=
  .next (hostRow 0xA0 h ws s)

/-- BUS_TAP (R436). -/
def execBusTap (h : ReqHead) (ws : List Word) (s : State) : Host.Outcome State Fault Refusal :=
  .next (hostRow 0xA1 h ws s)

/-- BUS_READ (R436). -/
def execBusRead (h : ReqHead) (ws : List Word) (s : State) : Host.Outcome State Fault Refusal :=
  .next (hostRow 0xA2 h ws s)

/-- BUS_STATUS (R428). -/
def execBusStatus (h : ReqHead) (ws : List Word) (s : State) : Host.Outcome State Fault Refusal :=
  .next (hostRow 0xA3 h ws s)

end Sys2Proof.Machine
end

