-- ==== Sys2Proof/Machine/Plies.lean ====
section
/-! DEFINITION. The plies: markers and windows of the input sequencer, the phases A to E, and promotion (R77 to R111, R137,
R235, R252, R420, R446, R538 to R540). -/

namespace Sys2Proof.Machine

open Sys2Proof

/-! ### Windows and markers (R79, R81 to R85, R538) -/

/-- The marker of the ply with boundary time `b` takes the next number and opens a new window (R79, R83). DEDUCED,
assumption log 12. -/
def numberMarker (b : Nat) (s : State) : State :=
  let s := epochCarry s
  let n := s.seq.next
  let i : Input := ⟨n, b, 0, [], nextCount s 0, .none⟩
  let s := countSource 0 s
  afterNumber n { s with seq := { s.seq with window := s.seq.window ++ [i], used := 0 } }

/-- A held input is numbered where the window has room; a spilled one at the present time, one of a promotion at the time it
was presented (R83, R85, R101). -/
def numberHeldOne (keep : Bool) (s : State) (i : Input) : State :=
  if s.seq.used < windowLimit then numberInput (if keep then i.time else s.now) i s
  else { s with seq := { s.seq with held := s.seq.held ++ [i], spilled := s.seq.spilled + 1 } }

/-- The inputs that found the window full enter the next one (R83). -/
def numberHeld (keep : Bool) (s : State) : State :=
  s.seq.held.foldl (numberHeldOne keep) { s with seq := { s.seq with held := [] } }

/-- The inputs that a closing window defers make one record in the next ply (R83). -/
def spillRecord (s : State) : State :=
  let sp := s.seq.spilled
  if sp = 0 then s
  else { s with seq := { s.seq with spilled := 0, recs := s.seq.recs ++ [⟨1, 0x00A, 0x9D000, 0, Word.ofN sp⟩] } }

/-- A record takes the next number and is committed, or waits for the next window (R538, R540). DEDUCED, assumption
log 73. -/
def commitOne (s : State) (r : RecDraft × Nat) : State :=
  if s.seq.used < windowLimit then
    let s := epochCarry s
    let n := s.seq.next
    let ring := s.ring ++ [⟨r.1, n, r.2⟩]
    let gone := ring.length - 6400
    let lost := match (ring.take gone).getLast? with | some x => x.seq | none => s.ringLost
    afterNumber n { s with ring := ring.drop gone, ringLost := lost, seq := { s.seq with used := s.seq.used + 1 } }
  else { s with ply := { s.ply with recs := s.ply.recs ++ [r] } }

/-- Records are numbered in order; those that find the window full are kept in the ply (R538). -/
def commitRecords (rs : List (RecDraft × Nat)) (s : State) : State :=
  rs.foldl commitOne { s with ply := { s.ply with recs := [] } }

/-- A ply boundary at the active half: the window closes, and the next one takes the records and inputs that were left over
(R79, R83, R538). -/
def closeWindow (b : Nat) (s : State) : State :=
  let s := numberMarker b (spillRecord s)
  let s := if s.ply.phase = .e then commitRecords s.ply.recs s else s
  numberHeld false s

/-- The next ply boundary: a whole multiple of 20,000 ticks (R79). -/
def nextBoundary (s : State) : Nat :=
  if s.now % 20000 = 0 ∧ lastBoundary s < s.now then s.now else (s.now / 20000 + 1) * 20000

/-! ### Phase A (R86, R245, R446) -/

/-- The lifetime counters take the samples of a block: time with the switch closed, and energy at the output (R221). A flagged sample
and a net negative power add nothing, which R221 does not say: DESIGN CHOICE, assumption log 90. -/
def lifeBlock (blk : List Word) (s : State) : State :=
  (List.range 176).foldl (fun s n =>
    if (s.copyReg (chanAddr n 1)).bit 14 then
      let v := blk.getD (884 + n) 0
      let sum := (((signalSamples blk n).map (·.2)).filter fun x => !isFlag x).foldl (fun (a : Int) x => a + x.s20) 0
      let e := if isFlag v then 0 else (v.s20 * sum).toNat
      s.modLife n fun c => { c with onSamples := c.onSamples + 5, energy := c.energy + e }
    else s) s

/-- The driver's door reads open in the lanes' copy (R276, R348). -/
def doorOpen (s : State) : Bool := diBit s 0x84020 ((s.copyReg 0x88006).field 6 0)

/-- The driver's door has closed, from `was` on: the lanes command a door check (R348). -/
def doorCheck (was : Bool) (s : State) : State :=
  if was && !doorOpen s && (s.copyReg 0x88006).bit 7 && !s.acc.doorCheck then
    emit [(accT, .round 3 (BitVec.ofNat 6 ((s.copyReg 0x8800C).field 10 5)) none)] s
  else s

/-- One sample block in phase A; the answer is what it made the lanes record (R245). -/
def runBlock (i : Input) (recs : List RecDraft) (s : State) : List RecDraft × State :=
  let kept := s.ply.recs
  let was := doorOpen s
  let s := lifeBlock i.payload (doorCheck was (fioBlock i.payload (measBlock i.seq i.count i.payload
    (laneRecords recs { s with ply := { s.ply with recs := [], at_ := i.time } }))))
  (s.ply.recs.map (·.1), { s with ply := { s.ply with recs := kept, at_ := s.ply.boundary } })

/-- The blocks of the input set are processed in order; their records stand with their inputs (R245, R538). -/
def phaseBlocks (s : State) : State :=
  let r := s.seq.due.foldl (fun (r : List Input × State) i =>
    match i.act with
    | .block recs => let q := runBlock i recs r.2; (r.1 ++ [{ i with act := .upd [] q.1 }], q.2)
    | _ => (r.1 ++ [i], r.2)) ([], s)
  sigFlushAll { r.2 with seq := { r.2.seq with due := r.1 } }

/-- Phase A of a ply: changes that wait for a boundary, mailbox effects, sample blocks, and what engines present. A paused ply
does none of it (R521). -/
def phaseA (s : State) : State :=
  let s := updBoundary (castleSwap s)
  if s.upd.stage = .paused then s
  else
    let s := takeCommit (pwrBoundary s)
    let s := (List.range 28).foldl (fun s b => moveBack b s) s
    let s := measApplyAll s
    let k := kwBoundary s
    let s := dmaBoundary (mbxPhaseA k.1 k.2)
    enginesBegin (phaseBlocks s)

/-- LANE_PROMO_PLY and the record of a promotion of which the first emitted ply is now known (R101, R544). -/
def recordPromo (n : Nat) (s : State) : State :=
  match s.lanes.promo with
  | none => s
  | some (f, code) =>
    laneRecord ⟨1, 1, 0x9D000, laneWord f ||| Word.ofN code, wordOf n 0⟩
      { s with lanes := { s.lanes with promo := none, promoPly := n } }

/-- No ply is at work. DESIGN CHOICE, assumption log 13. -/
def plyOver (s : State) : Bool := decide (s.ply.phase = .none) || decide (s.ply.phase = .e)

/-- The input record of an input (R85). -/
def inputWords (i : Input) : List Word :=
  wordsOf i.seq 3 ++ wordsOf i.time 3 ++ [Word.ofN (i.src * 2 ^ 12 + i.payload.length), Word.ofN i.count] ++ i.payload

/-- The record of an input stands in the Board SRAM of both lanes (R85). DESIGN CHOICE, assumption log 45. -/
def placeRecord (i : Input) (s : State) : State :=
  let ws := inputWords i
  { s.setSrams (freePlace s ws.length) ws with free := s.free + 1 }

/-- The ply of marker `m` as it begins; a ply whose marker is numbered afresh keeps what its phase A has done (R86, R101). -/
def plyOf (m : Input) (s : State) : Ply :=
  let recs := s.ply.recs ++ s.seq.recs.map fun r => (r, m.time)
  if s.ply.again then { s.ply with boundary := m.time, number := m.seq, phase := .a, at_ := m.time, recs := recs, again := false }
  else { Ply.reset with boundary := m.time, number := m.seq, phase := .a, at_ := m.time, cmds := s.ply.cmds, recs := recs }

/-- The ply of the oldest marker in the window begins, unless the ply before is still at work; a ply that begins again processes
the sample blocks that are new to it (R86, R87, R101). DEDUCED, assumption log 14. -/
def startPly (s : State) : State :=
  if plyOver s then
    let pre := s.seq.window.takeWhile fun i => decide (i.src ≠ 0)
    match s.seq.window.dropWhile fun i => decide (i.src ≠ 0) with
    | [] => s
    | m :: rest =>
      (if s.ply.again then phaseBlocks else phaseA) (recordPromo m.seq
        (placeRecord m { s with ply := plyOf m s, seq := { s.seq with window := rest, due := s.seq.due ++ pre, recs := [] } }))
  else s

/-- PLY_BOUNDARY (R79, R101): with no lane active the boundary is kept for the promoting lane. DESIGN CHOICE,
assumption log 2. -/
def boundaryStep (s : State) : State :=
  if s.seq.running = false ∨ s.seq.ended = true then s
  else
    let b := nextBoundary s
    let s := { s with now := max s.now b }
    match activeLane s with
    | none => { s with seq := { s.seq with missed := s.seq.missed ++ [b] } }
    | some _ => startPly (closeWindow b s)

/-! ### Phase B (R86, R154, R420) -/

/-- The lifetime counters take one state entry of a channel after CH_STATE `old`: a trip counts for the member at which it
arose (R221). DEDUCED, assumption log 79. -/
def lifeEntry (e : Entry) (old : Word) (c : Life) : Life :=
  let trip := e.own && (decide (e.cause = 0x010) || decide (e.cause = 0x011))
  let cool := e.state.field 19 17 = 3 ∧ old.field 19 17 ≠ 3
  let latch := e.state.field 19 17 = 4 ∧ old.field 19 17 ≠ 4
  let closed := e.state.bit 14 && !old.bit 14
  { c with
    trips := if trip then satTo 0xFFFFF (c.trips + 1) else c.trips,
    thermal := if cool then satTo 0x3FF (c.thermal + 1) else c.thermal,
    latches := if latch then satTo 0x3FF (c.latches + 1) else c.latches,
    cyc := satTo (2 ^ 40 - 1) (c.cyc + closed.toNat + e.pulse.toNat) }

/-- PAIR_DEGRADED: a member of a redundant pair that stands closed, or in RETRY, latches, cools or loses its tile; a closed
one loses its feed (R180). -/
def pairDegraded (n : Nat) (gone : Bool) (old new : Word) (s : State) : State :=
  let g := s.copyReg (chanAddr n 7)
  let closed := old.bit 14 || (decide (old.field 19 17 = 2) && !new.bit 14)
  if g.field 19 18 = 2 ∧ closed = true ∧ (gone = true ∨ new.field 19 17 = 3 ∨ new.field 19 17 = 4) then
    laneRecord ⟨3, 0x023, Word.ofN (chanAddr n 1), new, Word.ofN (g.field 17 10)⟩ s
  else s

/-- The lanes hold a BACKFED alarm on a member of a redundant pair that reads BACKFED while it and its partner are open
(R180). DEDUCED, assumption log 79. -/
def pairAlarm (n : Nat) (s : State) : State :=
  let w := s.copyReg (chanAddr n 1)
  let on := match pairOf s n with
    | some p => w.bit 12 && !w.bit 14 && !(s.copyReg (chanAddr p 1)).bit 14
    | none => false
  let rest := s.lanes.pairAlarms.filter (· ≠ n)
  { s with lanes := { s.lanes with pairAlarms := if on then rest ++ [n] else rest } }

/-- Both members of a channel's pair are looked at again. -/
def pairAlarmsOf (n : Nat) (s : State) : State :=
  match pairOf s n with
  | some p => pairAlarm p (pairAlarm n s)
  | none => s

/-- The lanes process one entry of a report: their copy, the records, and what a channel's change means to the counters,
the signature runs and a redundant pair (R154, R180, R221, R252, R256, R540). -/
def takeEntry (t : Nat) (s : State) (e : Entry) : State :=
  if t < 11 ∧ e.kind = 0 then
    let n := e.obj
    let old := s.copyReg (chanAddr n 1)
    let s := laneRecords e.recs (s.setReported e.copy)
    let s := s.modLife n (lifeEntry e old)
    let s := pairAlarmsOf n (pairDegraded n (e.cause = 0x008) old e.state s)
    let s := if !old.bit 14 && e.state.bit 14 && e.state.bit 7 && (decide (e.cause = 0x001) || decide (e.cause = 0x006))
      then sigBegin n e.time s else s
    let st := e.state.field 19 17
    if (old.field 19 17 = 1 ∧ st ≠ 1) ∨ (old.field 19 17 = 6 ∧ st ≠ 1 ∧ st ≠ 6) then sigLeft n s else s
  else laneRecords e.recs (if e.kind = 2 then s.setCopies e.copy else s.setReported e.copy)

/-- A tile asks for the restore sequence: the lanes send it; pairs with a member there are degraded, and its channels have left ON
(R64, R180, R256). -/
def takeRestoreRequest (t : Nat) (s : State) : State :=
  let s := (List.range 16).foldl (fun s k =>
    let n := 16 * t + k
    sigLeft n (pairDegraded n true (s.copyReg (chanAddr n 1)) 0 s)) s
  emit [(t, .restore 0 s.ply.number 0)] s

/-- The lanes process one input of the set; packets go to the host step, and blocks were processed in phase A, but for those of
paused plies (R85, R86, R521). -/
def takeInput (s : State) (i : Input) : State :=
  let s := { s with ply := { s.ply with at_ := i.time } }
  let s := match i.act with | .frame .. => s | _ => placeRecord i s
  match i.act with
  | .none => s
  | .upd copy recs => laneRecords recs (s.setCopies copy)
  | .report t es recs now =>
    let s := es.foldl (takeEntry t) (laneRecords recs s)
    let s := if t < 11 ∧ i.payload = [0x30000] then takeRestoreRequest t s else s
    s.setReported now
  | .block recs => let r := runBlock i recs s; laneRecords r.1 { r.2 with ply := { r.2.ply with at_ := i.time } }
  | .frame b slot flt =>
    takeFrame b slot flt (inputWords i) i.seq s
  | .packet _ => s
  | .link l up => linkEvent l up s
  | .castle cov => castleRequest none cov s
  | .powerFail a b => laneRecord ⟨0, 2, 0x9E001, a, b⟩ s
  | .wake cause copy => wakeInput cause (s.setCopies copy)
  | .locked => { s with pwr := { s.pwr with locked := true } }
  | .erased l => updErased none l s
  | .verified l code checkAt => updVerified none l code checkAt s
  | .ready l => updReady l s
  | .shadow t missing count =>
    let s := if t < 11 then
        laneRecord ⟨4, 4, Word.ofN (tileAddr t 0), Word.ofN (flagAt missing 19), Word.ofN count⟩ s else s
    diverge 5 s

/-- The host packets of the input set, with their numbers and arrival times. -/
def duePackets (due : List Input) : List (Packet × Nat × Nat) :=
  due.filterMap fun i => match i.act with | .packet p => some (p, i.seq, i.time) | _ => none

/-- Without a standby, every number that has been assigned is agreed (R82). -/
def settleAgreed (s : State) : State :=
  if (standbyLane s).isNone then
    { s with seq := { s.seq with agreed := max s.seq.agreed (s.seq.next - 1), unheard := [] } }
  else s

/-- Every number of the input set of the present ply and its marker is agreed (R82, R86). -/
def setAgreed (s : State) : Bool :=
  decide (s.ply.number ≤ s.seq.agreed) && s.seq.unheard.all fun n => decide (s.ply.number < n)

/-- The cores start when the host step has ended (R498). -/
def startCores (s : State) : State := if s.ply.blocked then s else coresBegin s

/-- PHASE_B_START: the input set is processed, then the host step runs, and the cores start (R86, R420). Paused plies keep
their inputs (R521). -/
def phaseBStep (s : State) : State :=
  let s := settleAgreed s
  if s.ply.phase ≠ .a ∨ setAgreed s = false then s
  else
    let s := { s with now := max s.now (s.ply.boundary + 1200), ply := { s.ply with phase := .b } }
    if s.upd.stage = .paused then s
    else
      let due := s.seq.due
      let s := updPhaseB { s with seq := { s.seq with due := [] } }
      let s := hostStep (duePackets due) (due.foldl takeInput s)
      startCores { s with ply := { s.ply with at_ := s.ply.boundary } }

/-! ### Phase C (R86 to R92, R107) -/

/-- Ticks of the end of phase B: at least 160 µs from the boundary (R86). -/
def lateEnd (g : LaneSt) (us : Nat) : LaneSt :=
  if g.inStep then { g with maxB := satTo 0xFF (max g.maxB us), late := satTo 0xFF (g.late + if 160 < us then 1 else 0) } else g

/-- A maintenance start commands no load ON, starts no drive-enable pulses and keeps the buses silent (R71). DEDUCED,
assumption log 20. -/
def maintenanceHolds (p : Nat × Content) : Bool :=
  match p.2 with
  | .bus .. => true
  | .write a v =>
    let a := a.toNat
    decide (15 ≤ p.1 ∧ p.1 < 43) || (decide (a < 0x81600) && decide (a % 32 = 0) && v.bit 19) ||
      (decide (0x84018 ≤ a ∧ a < 0x8401E) && decide (v.field 19 12 ≠ 0)) ||
      (decide (0x84200 ≤ a ∧ a < 0x842C0) && decide (a % 4 = 0) && v.bit 19) ||
      (decide (0x86100 ≤ a ∧ a < 0x86200) && decide (a % 32 = 0) && v.bit 19) ||
      (decide (0x86400 ≤ a ∧ a < 0x86420) && decide (a % 16 = 0) && v.bit 19) || (decide (a = 0x88021) && v.bit 19)
  | _ => false

/-- The handover of a castling of ply k is due in ply k + 1 (R107). -/
def castleHandover (s : State) : Bool :=
  match s.lanes.castle with
  | some (_, k) => !s.lanes.handed && decide (k < s.ply.number)
  | none => false

/-- The handovers of this ply: they name the first stamp of the next ply (R107, R521). -/
def handovers (s : State) : List (Nat × Content) :=
  if castleHandover s || updHandover s then (List.range 45).map fun t => (t, .handover (s.ply.number + 1) 0) else []

/-- The commands of the ply but for the closes: what was written, the automatic acknowledgements and the handovers. -/
def plyCommands (s : State) : List (Nat × Content) :=
  let acks := s.ply.slots.map fun p => (busT p.1, Content.write (Word.ofN (busqAddr p.1 3)) (Word.ofN p.2))
  let all := s.ply.cmds ++ acks ++ handovers s
  if s.maintenance then all.filter fun p => !maintenanceHolds p else all

/-- One command is stamped and counted; a claim and a restore sequence take no count (R89, R90, R558). -/
def stampOne (r : List Emitted × State) (p : Nat × Content) : List Emitted × State :=
  let s := r.2
  let t := p.1
  let idx := r.1.length
  let n := s.ply.number
  let sent := (s.tgt t).sent
  let count := if takesCount p.2 then (sent + 1) % 2 ^ 20 else sent
  let e : Emitted := ⟨t, count, n, idx, match p.2 with
    | .claim .. => .claim count n idx | .restore .. => .restore count n idx | c => c⟩
  (r.1 ++ [e], s.modTgt t fun g => { g with sent := count })

/-- The active lane sends commands; those to a target whose link has failed do not arrive (R91). -/
def sendAll (l : Option Lane) (failed : Option Nat) (es : List Emitted) (s : State) : State :=
  match l with
  | none => s
  | some l => es.foldl (fun s e =>
      if failed = some e.target then s else commandStep e.target l e.count e.ply e.idx e.content s) s

/-- Phase C: every command of the ply, and each target's ply close last, which in the commit ply its park notice follows (R468), from
the command buffer, which keeps the last three
completed plies beside this one; a ply of more than 8,192 commands is cut (R89, R92, R95). -/
def emitPly (failed : Option Nat) (s : State) : State :=
  let cmds := plyCommands s
  let parks := if s.pwr.committed then (List.range 45).map fun t => (t, Content.park) else []
  let room := 8192 - 45 - parks.length
  let cut := cmds.length - room
  let s := if cut = 0 then s else laneRecord ⟨1, 0x00B, 0x9D000, 0, Word.ofN cut⟩ s
  let s := if castleHandover s || updHandover s then { s with lanes := { s.lanes with handed := true } } else s
  let s := { s with ply := { s.ply with cmds := [], slots := [] } }
  let r := (cmds.take room ++ ((List.range 45).map fun t => (t, Content.close)) ++ parks).foldl stampOne ([], s)
  let e : PlyLog := ⟨s.ply.number, r.1, [], [], false, false⟩
  sendAll (activeLane s) failed r.1 { r.2 with log := (r.2.log ++ [e]).drop (r.2.log.length - 3) }

/-- A target that three resends did not reach leaves the command link to it failed (R91). -/
def linkOutcome (failed : Option Nat) (s : State) : State :=
  match failed with
  | some t => { s with
      ply := { s.ply with resends := Sparse.put s.ply.resends t 3 }, lanes := { s.lanes with linkFailed := activeLane s } }
  | none => s

/-- At the end of phase C the active lane withdraws where its command link to a target has failed (R91, R99). -/
def linkWithdraw (s : State) : State :=
  match s.lanes.linkFailed with
  | some l =>
    let s := { s with lanes := { s.lanes with linkFailed := none } }
    if activeLane s = some l then withdrawLane l .link s else s
  | none => s

/-- Phase B is over: requests that waited at a locked target and cores that wait for a grant have ended, and so have the DMA
transfers; the locks of the host end, and the engine copies the records that replies return (R87, R130, R143, R261, R420). The answer
says whether it is. -/
def endPhaseB (s : State) : Bool × State :=
  let s := if s.ply.blocked then startCores (hostResume s) else s
  if s.ply.blocked || coresBusy s then (false, s)
  else
    let s := dmaFinishAll s
    (!dmaWaits s, if dmaWaits s then s else copyRecords (dropHostLocks s))

/-- PHASE_C_EMIT: once phase B is over in both lanes; a lane that still cannot reach a target withdraws (R86, R87, R91). -/
def phaseCStep (endWhite endBlack : Nat) (failed : Option Nat) (s : State) : State :=
  if s.ply.phase ≠ .b then s
  else
    let q := if s.upd.stage = .paused then (true, s) else endPhaseB s
    if q.1 = false then q.2
    else
      let s := q.2
      let t := max 16000 (100 * max endWhite endBlack)
      let s := { s with now := max s.now (s.ply.boundary + t), ply := { s.ply with phase := .c } }
      let s := (s.modLane .white fun g => lateEnd g endWhite).modLane .black fun g => lateEnd g endBlack
      let s := if s.upd.stage = .paused then s else pwrEndB (coresFinish s)
      linkWithdraw (linkOutcome failed (emitPly failed s))

/-! ### Phase D (R97, R98, R109) -/

/-- The joining lane computes this ply: it lies after the cut-over (R109). -/
def onProbation (s : State) : Option Lane :=
  match joiningLane s with
  | none => none
  | some l =>
    match (s.lane l).cutOver with
    | some c => if (s.lane l).joinStage = 5 ∧ c < s.ply.number then some l else none
    | none => none

/-- A digest of the joining lane: sixteen that match in a row make it standby, one that differs takes it back to stage 3
(R109). -/
def probationStep (l : Lane) (same : Bool) (s : State) : State :=
  if same = false then enterStage l 3 s
  else
    let p := (s.lane l).probation + 1
    let s := s.modLane l fun g => { g with probation := p }
    if 16 ≤ p then updJoined (joined l s) else s

/-- Cross-link frames of a ply that a lane received with CRC errors (R120). DESIGN CHOICE, assumption log 24. -/
def crcErrors (s : State) : State :=
  let f := s.free
  let hear := fun (a b : Nat) (g : LaneSt) => if g.boot = .held then g else { g with
    xaErr := satTo 0x3FF (g.xaErr + Config.crcErrors f a), xbErr := satTo 0x3FF (g.xbErr + Config.crcErrors f b) }
  { (s.modLane .white (hear 0 1)).modLane .black (hear 2 3) with free := f + 1 }

/-- PHASE_D_DIGEST (R95, R97, R98, R109, R120, R222): phase C ends, so that a lane whose link failed in it withdraws (R91); a
debug write to one lane shows in the digests (R130). -/
def phaseDStep (diff : Option Nat) (s : State) : State :=
  let s := if s.ply.phase = .c then linkWithdraw s else s
  if s.ply.phase ≠ .c then s
  else
    let s := { s with now := max s.now (s.ply.boundary + 18000), ply := { s.ply with phase := .d } }
    let s := { s with log := s.log.map fun e => if e.number = s.ply.number then { e with digested := true } else e }
    let s := crcErrors s
    let diff := match diff with | some k => some k | none => s.ply.debugged
    let s := match onProbation s, diff with
      | some l, d => probationStep l d.isNone s
      | none, some k => diverge (k + 1) s
      | none, none => s
    updateImages s

/-! ### Phase E (R86, R104, R109, R430, R538 to R540) -/

/-- The records of a ply in order, at most 256 of them (R538, R540). -/
def plyRecords (s : State) : List (RecDraft × Nat) :=
  let late := refusalRecords s ++
    ((List.range 24).flatMap fun c => (s.ply.logRecs.filter fun p => p.1 = c).map (·.2))
  let all := s.ply.recs ++ late.map fun r => (r, s.ply.boundary)
  if all.length ≤ 256 then all
  else all.take 255 ++ [(⟨1, 0x011, 0x9D000, 0, Word.ofN (all.length - 255)⟩, s.ply.boundary)]

/-- The lane that restarts first in an activation resumes by the update castling, not by a cut-over (R520, R521). -/
def updateHolds (s : State) (l : Lane) : Bool :=
  decide (s.upd.firstLane = l) &&
    (decide (s.upd.stage = .first) || decide (s.upd.stage = .castling) || decide (s.upd.stage = .paused))

/-- Stage 4: what is left to resend fits in this phase E, and the lane computes from the next ply on (R109). -/
def cutOver (s : State) : State :=
  match joiningLane s with
  | some l =>
    if (s.lane l).joinStage = 3 ∧ s.lanes.joinEn = true ∧ s.lanes.retry = false ∧ updateHolds s l = false then
      let s := enterStage l 4 s
      (enterStage l 5 s).modLane l fun g => { g with cutOver := some s.ply.number, streamFrom := s.ply.number }
    else s
  | none => s

/-- Lane-reset commands take effect once their ply is over (R99, R430). -/
def commandedReset (s : State) : State :=
  s.lanes.resetReq.foldl (fun s l => if activeLane s = some l then withdrawLane l .command s else laneReset l .command s)
    { s with lanes := { s.lanes with resetReq := [] } }

/-- The completed ply takes its place in the command buffer, which now keeps the last three (R95). -/
def closeLog (n first : Nat) (made : List Frame) (live : Bool) (s : State) : State :=
  let log := s.log.map fun e =>
    if e.number = n then { e with frames := made, recs := s.ring.filter (fun r => decide (first ≤ r.seq)), done := live } else e
  { s with log := log.drop (log.length - 3) }

/-- PHASE_E_COMMIT: with no lane active, the standby keeps its records and the failed lane's replies for its promotion
(R86, R101). -/
def phaseEStep (fits : Bool) (s : State) : State :=
  if s.ply.phase ≠ .d then s
  else
    let s := { s with now := max s.now (s.ply.boundary + 18600) }
    let rs := plyRecords s
    let n := s.ply.number
    let s := { s with ply := { s.ply with logRecs := [], refusals := [], phase := .e } }
    let live := (activeLane s).isSome
    let first := s.seq.next
    let s := giveOwed s
    let made := s.host.made
    let s := if live then commitRecords rs s else { s with ply := { s.ply with recs := rs } }
    let s := closeLog n first made live s
    let s := if live then s
      else { s with host := { s.host with made := made.filter fun f => (s.lane f.port).role = .standby } }
    let s := captureNumber (showWrites (releaseReplies s))
    let s := if fits then cutOver s else s
    startPly (commandedReset s)

/-! ### Promotion (R99 to R103) -/

/-- An input takes its place by arrival time, after those that came at the same time. -/
def insertByTime (x : Input) : List Input → List Input
  | [] => [x]
  | y :: r => if x.time < y.time then x :: y :: r else y :: insertByTime x r

/-- One input of a promotion is numbered at its arrival time, or a missing marker, which opens a window that takes first what the
one before deferred (R83, R101, R114). -/
def renumberOne (s : State) (i : Input) : State :=
  if i.src = 0 then numberHeld true (numberMarker i.time (spillRecord s)) else numberHeldOne true s i

/-- The marker before the present window: the last agreed one that waits, else that of the ply in work or before it (R83). -/
def lastMarker (old : List Input) (back : Bool) (s : State) : Nat :=
  match (old.filter fun i => decide (i.src = 0)).getLast? with
  | some m => m.seq
  | none => if back then ((s.log.getLast?).map PlyLog.number).getD 0 else s.ply.number

/-- The promoting lane numbers afresh: the inputs it holds unnumbered in order of arrival, with the missing markers among
them (R101). The first number is one above the highest agreed one, so that a lost number below that is not given again: R82 says
that a lost number is assigned afresh, R101 and R114 that the next number follows the last agreed one. DEDUCED, assumption
log 12. -/
def renumber (s : State) : State :=
  let q := s.seq
  let late := fun (i : Input) => decide (q.agreed < i.seq) || q.unheard.contains i.seq
  let back := decide (s.ply.phase = .a) && decide (q.agreed < s.ply.number)
  let numbered := (if back then q.due else []) ++ q.window
  let old := numbered.filter fun i => !late i
  let again := numbered.filter late
  let marks := (again.filter fun i => i.src = 0).map Input.time ++ (if back then [s.ply.boundary] else []) ++ q.missed
  let ins := (again.filter fun i => decide (i.src ≠ 0)) ++ q.held
  let sorted := (marks.map (fun b => (⟨0, b, 0, [], 0, .none⟩ : Input)) ++ ins).foldl (fun l x => insertByTime x l) []
  let mark := lastMarker old back s
  let used := (old.reverse.takeWhile fun i => decide (i.src ≠ 0)).length + (s.ring.filter fun r => decide (mark < r.seq)).length
  let s := { s with
    ply := if back then { s.ply with phase := .none, again := true } else s.ply,
    seq := { q with
      next := q.agreed + 1, unheard := [], window := old, held := [], missed := [], spilled := 0,
      due := if back then [] else q.due, used := used } }
  sorted.foldl renumberOne s

/-- The records whose numbers were not agreed, then those that no lane has numbered, are numbered (R538). -/
def renumberRecords (was : List Rec) (s : State) : State :=
  let rest := if s.ply.phase = .e then s.ply.recs else []
  let rs := was.map (fun r => (r.draft, r.time)) ++ rest
  if s.ply.phase = .e then commitRecords rs s else rs.foldl commitOne s

/-- The number of the next ply that the lanes emit: the one in work, else that of the oldest marker, else the next number. -/
def nextPly (s : State) : Nat :=
  if plyOver s then
    match s.seq.window.find? fun i => decide (i.src = 0) with
    | some m => m.seq
    | none => s.seq.next
  else s.ply.number

/-- The promoting lane claims every target and emits again the commands of each ply without a ply-done notice (R101). -/
def emitAgain (l : Lane) (plies : List PlyLog) (s : State) : State :=
  let stamp := match plies with | p :: _ => p.number | [] => nextPly s
  let s := (List.range 45).foldl (fun s t => acceptClaim t l false 0 stamp 0 s) s
  plies.foldl (fun s p => p.cmds.foldl (fun s e => commandStep e.target l e.count e.ply e.idx e.content s) s) s

/-- The replies of those plies and the failed lane's port queue go out on the promoting lane's own port, as replays
and ahead of its own frames (R101, R104). DEDUCED, assumption log 59. -/
def replayFrames (l : Lane) (plies : List PlyLog) (queue : List Frame) (s : State) : State :=
  let fs := ((plies.flatMap PlyLog.frames) ++ queue).map (Frame.again l)
  s.modLane l fun g => { g with txq := fs ++ g.txq }

/-- The record of a promotion, made in the ply that runs, or by the sequencer half where none does; `ply` is the first ply that
was not complete (R100, R101, R118). -/
def promoRecord (f : Lane) (code : Nat) (ply : Option Nat) (s : State) : State :=
  match ply with
  | none => if plyOver s then s else recordPromo s.ply.number s
  | some n =>
    if plyOver s then
      { s with
        lanes := { s.lanes with promo := none, promoPly := n },
        seq := { s.seq with recs := s.seq.recs ++ [⟨1, 1, 0x9D000, laneWord f ||| Word.ofN code, wordOf n 0⟩] } }
    else recordPromo n s

/-- The standby `l` promotes itself in place of lane `f`, for the cause of R544 (R101). -/
def promote (l f : Lane) (code : Nat) (s : State) : State :=
  let queue := if (s.lane f).role = .out then s.lanes.orphans else (s.lane f).txq
  let s := (s.modLane f fun g => if g.role = .active then { g with stale := true } else g).modLane l fun g =>
    { g with role := .active }
  let s := { s with lanes := { s.lanes with
    promotions := satTo 0x3FF (s.lanes.promotions + 1), orphans := [], promo := some (f, code) } }
  let s := cancelCastle s
  let lost := s.ring.filter fun r => !agreedNumber s r.seq
  let s := { s with ring := s.ring.filter fun r => agreedNumber s r.seq }
  let s : State := renumberRecords lost (renumber s)
  let plies := s.log.filter fun p => !p.done
  let s : State := replayFrames l plies queue (emitAgain l plies s)
  let s : State := promoRecord f code (plies.head?.map PlyLog.number) s
  startPly { s with log := s.log.map fun p => { p with done := p.done || p.digested } }

/-- A joining lane finds the active lane silent: it gives up joining and its partial state, and will start alone (R100). -/
def joinAlone (l : Lane) (s : State) : State :=
  let ready := decide (2 ≤ (s.lane l).joinStage)
  let s := s.modLane (otherLane l) fun g => if g.role = .active then { g with stale := true } else g
  let s := s.modLane l fun g =>
    { g with
      role := .out, joinStage := 0, probation := 0, cutOver := none, restarted := true,
      boot := if ready then .waiting else g.boot }
  if ready then { s with lanes := { s.lanes with start := some l, solo := true } } else s

/-- The standby or joining lane acts on the silence of the active lane (R100). DEDUCED, assumption log 22. -/
def onSilence (code : Nat) (s : State) : State :=
  match standbyLane s with
  | some l => promote l (otherLane l) code s
  | none =>
    match joiningLane s with
    | some l => joinAlone l s
    | none => s

/-- WITHDRAW is received from the active lane (R99, R100). -/
def withdrawReceived (cause : WithdrawCause) (s : State) : State :=
  let s := match activeLane s with
    | some l => withdrawLane l cause s
    | none => s
  onSilence (withdrawCode cause) s

/-- 10 µs after a boundary no marker has come (R100). -/
def markerTimeout (s : State) : State :=
  let waits := (standbyLane s).isSome || (joiningLane s).isSome
  if waits = false then s
  else if s.seq.running = false then (if (activeLane s).isNone then onSilence 6 s else s)
  else
    let unheard := s.seq.missed.isEmpty && !(decide (s.ply.phase = .a) && decide (s.seq.agreed < s.ply.number)) &&
      !(s.seq.window.any fun i => decide (i.src = 0) && decide (s.seq.agreed < i.seq))
    let b := nextBoundary s
    let s := if unheard then
        { s with now := max s.now (b + 1000), seq := { s.seq with missed := [b] } }
      else { s with now := max s.now (lastBoundary s + 1000) }
    onSilence 6 s

/-! ### The rows -/

/-- PLY_BOUNDARY (R79). -/
def execPlyBoundary (s : State) : Host.Outcome State Fault Refusal := .next (boundaryStep s)

/-- The source identities of R85. -/
def sourceKnown (src : Nat) : Bool :=
  decide (1 ≤ src ∧ src ≤ 0xB) || src = 0x10 || decide (0x14 ≤ src ∧ src ≤ 0x18) || src = 0x1A ||
    decide (0x20 ≤ src ∧ src ≤ 0x3E)

/-- INPUT_PRESENTED: an input of a source that carries nothing the model acts on (R81, R83, R85). -/
def execInputPresented (src : BitVec 8) (at_ : Nat) (payload : List Word) (s : State) : Host.Outcome State Fault Refusal :=
  .next (
    if sourceKnown src.toNat && decide (payload.length ≤ 4095) then
      present src.toNat payload .none { s with now := max s.now at_ }
    else s)

/-- The standby has received the assignment of number `n`, which it agrees with no other; its time base is corrected (R78,
R82). -/
def assignmentStep (n : Nat) (s : State) : State :=
  let q := s.seq
  if (standbyLane s).isNone || decide (q.next ≤ n) then s
  else if q.agreed < n then
    { s with
      free := s.free + 1,
      seq := { q with agreed := n, unheard := q.unheard ++ (List.range (n - q.agreed - 1)).map (q.agreed + 1 + ·) } }
  else { s with seq := { q with unheard := q.unheard.filter (· ≠ n) } }

/-- ASSIGNMENT_RECEIVED (R78, R82). -/
def execAssignmentReceived (n : Nat) (s : State) : Host.Outcome State Fault Refusal := .next (assignmentStep n s)

/-- PHASE_B_START (R86). -/
def execPhaseBStart (s : State) : Host.Outcome State Fault Refusal := .next (phaseBStep s)

/-- PHASE_C_EMIT (R86, R87, R89, R91): the ends of phase B in µs from the boundary, and a target that no resend reached. -/
def execPhaseCEmit (endWhite endBlack : Nat) (failed : Option (Fin 45)) (s : State) : Host.Outcome State Fault Refusal :=
  .next (phaseCStep endWhite endBlack (failed.map Fin.val) s)

/-- PHASE_D_DIGEST (R97): the first component that differed, if any. -/
def execPhaseDDigest (diff : Option (Fin 4)) (s : State) : Host.Outcome State Fault Refusal :=
  .next (phaseDStep (diff.map Fin.val) s)

/-- PHASE_E_COMMIT (R86): whether what is left of a state transfer fits in this phase. -/
def execPhaseECommit (fits : Bool) (s : State) : Host.Outcome State Fault Refusal := .next (phaseEStep fits s)

/-- WITHDRAW_RECEIVED (R100). -/
def execWithdrawReceived (cause : WithdrawCause) (s : State) : Host.Outcome State Fault Refusal :=
  .next (withdrawReceived cause s)

/-- MARKER_TIMEOUT (R100). -/
def execMarkerTimeout (s : State) : Host.Outcome State Fault Refusal := .next (markerTimeout s)

end Sys2Proof.Machine
end

