-- ==== Sys2Proof/Machine/Supply.lean ====
section
/-! DEFINITION. The feeds, rails and monitors, the resets that they raise, and the starts of the module and of a lane
(R46 to R76, R477 to R479, R558). -/

namespace Sys2Proof.Machine

open Sys2Proof

/-! ### Feeds (R46 to R52, R56, R75, R160) -/

/-- A supply event as an input of source 17h, with the record that the lanes make of it (R85, R543). -/
def presentSupply (code : Nat) (a0 a1 : Word) (s : State) : State :=
  present 0x17 [Word.ofN (0x100 + code), a0, a1] (.upd [] [⟨0, code, 0x9E001, a0, a1⟩]) s

/-- 0 for input or feed A, 1 for B (R543). -/
def feedWord : Feed → Word
  | .a => 0
  | .b => 1

/-- Change a VLOG input. -/
def modVlog (f : Feed) (g : VlogIn → VlogIn) (s : State) : State :=
  match f with
  | .a => { s with sup := { s.sup with vlogA := g s.sup.vlogA } }
  | .b => { s with sup := { s.sup with vlogB := g s.sup.vlogB } }

/-- Change a power feed. -/
def modVpwr (f : Feed) (g : VpwrIn → VpwrIn) (s : State) : State :=
  match f with
  | .a => { s with sup := { s.sup with vpwrA := g s.sup.vpwrA } }
  | .b => { s with sup := { s.sup with vpwrB := g s.sup.vpwrB } }

/-- A VLOG input is lost (R48): nothing but its bits and a record. -/
def vlogLost (f : Feed) (sample : Word) (s : State) : State :=
  presentSupply 3 (feedWord f) sample (modVlog f (fun _ => ⟨false, true⟩) s)

/-- A VLOG input is back (R48). -/
def vlogBack (f : Feed) (sample : Word) (red : Bool) (s : State) : State :=
  presentSupply 4 (feedWord f) sample (modVlog f (fun _ => ⟨true, red⟩) s)

/-- The reduced monitors of inputs trip; reduced function begins where both inputs are below the threshold (R47, R56). -/
def reducedOn (a b : Bool) (sample : Word) (s : State) : State :=
  let s := modVlog .a (fun v => { v with red := v.red || a }) (modVlog .b (fun v => { v with red := v.red || b }) s)
  if s.sup.vlogA.red && s.sup.vlogB.red && !s.sup.reduced then
    presentSupply 5 sample 0 { s with sup := { s.sup with reduced := true } }
  else s

/-- A reduced monitor releases; full function resumes where it was reduced (R47, R56). -/
def reducedOff (f : Feed) (sample : Word) (s : State) : State :=
  let s := modVlog f (fun v => { v with red := false }) s
  if s.sup.reduced then presentSupply 6 sample 0 { s with sup := { s.sup with reduced := false } } else s

/-- A power feed is low (R56). -/
def vpwrLow (f : Feed) (sample : Word) (s : State) : State :=
  presentSupply 7 (feedWord f) sample (modVpwr f (fun v => { v with low := true }) s)

/-- The channels of a power feed (R22). -/
def channelsOf (f : Feed) : List Nat := (List.range 176).filter fun n => decide (feedOf n = f)

/-- A power feed is missing: FEED_OK clears, and every channel on it reports (R24, R160, R302). -/
def vpwrMissing (f : Feed) (sample : Word) (s : State) : State :=
  let s := presentSupply 8 (feedWord f) sample (modVpwr f (fun _ => ⟨false, true⟩) s)
  lgtFeedLost f ((channelsOf f).foldl (fun s n => reportCh n 0x008 0 s) s)

/-- An inrush window opens on a closed switch whose feed returns (R160, R167). -/
def feedWindow (n : Nat) (s : State) : State :=
  if (s.chan n).sw then
    let rr := chReg s (leaderOf s n) 6
    s.modChan n fun c => { c with inrush := true, arcSpoilt := true, used := 0, winRetry := rr }
  else s

/-- What a power feed that was missing brings back (R160, R302, R468, R475). -/
def feedReturns (f : Feed) (was : Bool) (s : State) : State :=
  let s := (channelsOf f).foldl (fun s n => reportCh n 0x009 0 (feedWindow n s)) s
  let s := lgtFeedBack f was s
  if (asleep s || s.pwr.committed) && wakeEnabled s 10 0 then raiseWake 10 (match f with | .a => 0 | .b => 1) s else s

/-- A monitor of a power feed releases: the feed is not missing any more, and `low` tells whether it is still low (R56). -/
def vpwrOk (f : Feed) (sample : Word) (low : Bool) (s : State) : State :=
  let missing := !feedOk s f
  let was := mxFeedOk s
  let s := presentSupply 9 (feedWord f) sample (modVpwr f (fun _ => ⟨true, low⟩) s)
  if missing then feedReturns f was s else s

/-! ### Power-fail (R57, R58) -/

/-- The cause of a state entry that power-fail brings, which the spec does not name. -/
def failCause (s : State) : Nat × State := (Config.failCause s.free % 4096, { s with free := s.free + 1 })

/-- A channel opens at once (R159). -/
def failChan (s : State) (n : Nat) : State :=
  if (s.chan n).state = .off then s.modChan n fun c => { c with probe := none }
  else
    let q := failCause s
    reportCh n q.1 0 (q.2.modChan n fun c => { (c.openTo .off) with src := .lane, fault := c.fault.put 19 16 0, openedAt := if c.sw then some s.clock else c.openedAt })

/-- A field output opens at once (R279). -/
def failDo (s : State) (o : Nat) : State :=
  if (s.dout o).state = .off then s
  else
    let q := failCause s
    changeDo o q.1 (fun d => { (d.openTo s.clock .off) with fault := d.fault.put 19 16 0 }) q.2

/-- A string stops at once (R308). -/
def failStr (s : State) (x : Nat) : State :=
  if (s.str x).state = .off then s.modStr x (Str.dark s.clock .off)
  else
    let q := failCause s
    changeStr x q.1 (fun d => { (d.dark s.clock .off) with fault := d.fault.put 19 16 0 }) q.2

/-- A matrix stops at once (R313). -/
def failMx (s : State) (m : Nat) : State :=
  if (s.mx m).state = .off then s.modMx m (Mx.dark s.clock .off)
  else
    let q := failCause s
    changeMx m q.1 (fun d => { (d.dark s.clock .off) with fault := d.fault.put 19 16 0 }) q.2

/-- Every load goes off at once (R57 steps 2 to 4). -/
def loadsFail (s : State) : State :=
  let s := (List.range 176).foldl failChan s
  let s := (List.range 48).foldl failDo s
  let s := (List.range 2).foldl failMx ((List.range 8).foldl failStr s)
  denStopNow 4 .stopped s

/-- POWER_FAIL: the loads go off, the input is presented, and the power-fail images are written (R57). DESIGN CHOICE,
assumption log 19. -/
def powerFail (a b : Word) (s : State) : State :=
  if s.sup.powerFail then s
  else
    let s := { s with sup := { s.sup with powerFail := true, vlogA := ⟨false, true⟩, vlogB := ⟨false, true⟩ } }
    let s := present 0x17 [0x00102, a, b] (.powerFail a b) s
    let s := loadsFail s
    s.mapLanes fun g => if g.role = .out then g else { g with nvm := { g.nvm.programmed with life := g.lifeJournal, failImage := g.image } }

/-- A lane without its rails. -/
def LaneSt.dark (g : LaneSt) : LaneSt := { g with coreOk := false, ioOk := false, anaOk := false }

/-- The supplies are gone: the rails have fallen, and the module is in OFF (R53, R463). DEDUCED, assumption log 18. -/
def railsDown (s : State) : State :=
  { (s.mapLanes LaneSt.dark) with
    sup := { s.sup with fabAna := false, fabValid := false, tilesOk := false }, pwr := { s.pwr with state := .off } }

/-- HOLD_UP_END: a module reset (R57 step 6, R58, R72). DESIGN CHOICE, assumption log 60. -/
def holdUpEnd (s : State) : State :=
  if s.sup.powerFail then
    let s := moduleReset 14 1 s
    railsDown { s with sup := { s.sup with powerFail := false } }
  else s

/-! ### Rails (R53, R54, R56, R59) -/

/-- A rail that falls takes the rails after it in the order of falling, which is analogue, I/O, core (R53). -/
def railFalls (r : Rail) (g : LaneSt) : LaneSt :=
  match r with
  | .ana => { g with anaOk := false, ioOk := false, coreOk := false }
  | .io => { g with ioOk := false, coreOk := false }
  | .core => { g with coreOk := false }

/-- The lane reset that a rail causes (R60, R72). -/
def railCause : Rail → LaneCause
  | .core => .coreRail | .io => .ioRail | .ana => .anaRail

/-- LANE_RAIL_BROWNOUT: the lane stops without withdrawing (R56, R99). -/
def laneRail (l : Lane) (r : Rail) (s : State) : State := (laneReset l (railCause r) s).modLane l (railFalls r)

/-- AO_RAIL_BROWNOUT: retention and the AO domain are lost; with no VLOG input left the AO is off (R56, R60, R65). -/
def aoBrownout (s : State) : State :=
  let s := s.mapLanes fun g => { g with image := [] }
  let s := moduleReset 5 0xA s
  let on := s.sup.vlogA.ok || s.sup.vlogB.ok
  let s := { s with
    sup := { s.sup with aoOk := on, aoLp := false, lpbo := false, powerFail := false },
    acc := { s.acc with
      latch := [], records := [], lostRecs := 0, heldOff := [], doublings := 0, handles := [], wakeGrant := none, wakeInside := none,
      wakeResult := [] },
    pwr := { s.pwr with retention := [], banksOk := 0, rtc := 0, entryRtc := 0 } }
  if on then s else railsDown s

/-- LOW_POWER_BROWNOUT: the AO regulator takes normal mode, and the module wakes (R59, R476). -/
def lowPower (s : State) : State :=
  if s.sup.aoLp then raiseWake 8 0 { s with sup := { s.sup with aoLp := false, lpbo := true } } else s

/-! ### Cold start, boot and configuration (R65, R70, R71, R478) -/

/-- A lane as the AO domain sets it after AO power-on (R72). -/
def LaneSt.firstPower (g : LaneSt) : LaneSt := { g with resetCause := 0x08000 }

/-- COLD_START: M0 to M5 (R65). After AO power-on, retention is invalid and the real-time counter starts at 0. A low or reduced
monitor that has tripped stays tripped while its supply stays (R46, R56). DEDUCED, assumption log 17. -/
def coldStart (vlogA vlogB vpwrA vpwrB calOk : Bool) (s : State) : State :=
  let parked := s.pwr.state = .parked || s.pwr.state = .deep
  if (!vlogA && !vlogB) || parked || s.white.boot ≠ .held || s.black.boot ≠ .held then s
  else
    let s := if s.sup.aoOk then s
      else
        let s := moduleReset 15 0 s
        { s with
          white := s.white.firstPower, black := s.black.firstPower, sup := { s.sup with lpbo := false },
          acc := { Access.reset with tokens := s.acc.tokens },
          pwr := { Pwr.reset with aLvl := s.pwr.aLvl, bLvl := s.pwr.bLvl, elapsed := s.pwr.elapsed } }
    let up := fun (g : LaneSt) =>
      { g with coreOk := true, ioOk := true, anaOk := true, startStatus := (Word.ofN 0).setBit 9 true, restarted := false }
    let p := s.sup
    let vlog := fun (on : Bool) (v : VlogIn) => (⟨on, !on || (v.ok && v.red)⟩ : VlogIn)
    let vpwr := fun (on : Bool) (v : VpwrIn) => (⟨on, !on || (v.ok && v.low)⟩ : VpwrIn)
    let a := vlog vlogA p.vlogA
    let b := vlog vlogB p.vlogB
    { s with
      white := up s.white, black := up s.black, lanes := Lanes.reset, copy := [], maintenance := false,
      fab := { s.fab with calFail := !calOk },
      sup := { s.sup with
        vlogA := a, vlogB := b, vpwrA := vpwr vpwrA p.vpwrA, vpwrB := vpwr vpwrB p.vpwrB, reduced := a.red && b.red,
        powerFail := false, fabAna := true, fabValid := false, tilesOk := true, tileLow := [], aoOk := true, aoLp := false },
      pwr := { s.pwr with
        state := .idle, waking := false, held := none, wakeStatus := 0, parkMinutes := 0, clk := false, locked := false } }

/-- The module is powered, and is neither parked nor off unless a wake is under way. -/
def mayBoot (s : State) : Bool :=
  (s.sup.vlogA.ok || s.sup.vlogB.ok) && (s.pwr.waking || s.pwr.state = .idle || s.pwr.state = .run)

/-- LANE_RESET_RELEASE: M6 or K6, with the lane's rails good, so that FAB-ANA is too; a lane that restarts beside an active
lane is in stage 1 of joining (R53, R63, R65, R109). -/
def resetRelease (l : Lane) (s : State) : State :=
  if (s.lane l).boot ≠ .held ∨ mayBoot s = false then s
  else
    let s := s.modLane l fun g => { g with boot := .code, coreOk := true, ioOk := true, anaOk := true }
    let s := { s with sup := { s.sup with fabAna := true } }
    if mayJoin s l then enterStage l 1 s else s

/-- PLL_LOCKED: a cold start or restart changes to 250 MHz, as does boot code of a wake whose bank 0 failed; otherwise a wake
presents the lock (R65, R471, R479). -/
def pllLocked (l : Lane) (s : State) : State :=
  if (s.lane l).boot = .held ∨ (s.lane l).pll = true then s
  else
    let slow := if s.seq.running then !s.pwr.clk else s.pwr.waking && s.pwr.banksOk.getLsbD 0
    let s := s.modLane l fun g => { g with pll := true, clk250 := !slow }
    if s.seq.running && slow && !s.pwr.locked then present 0x17 [0x00109] .locked s else s

/-- The lane starts cold and its ACTIVE firmware is not confirmed: it boots FALLBACK (R523). -/
def unconfirmed (s : State) (g : LaneSt) : Bool :=
  !g.restarted && !s.pwr.waking && (g.nvm.fw.active.map fun i => !i.confirmed).getD false

/-- A lane is held out of service at a start: its status fields are set then (R70, R71, R73). -/
def heldOut (l : Lane) (boot : Boot) (s : State) : State :=
  setStartStatus l false false false 0 (s.modLane l fun g => { g with role := .out, joinStage := 0, boot := boot })

/-- A record of a lane's start: presented while the lanes run, otherwise made at the first active ply. -/
def fallbackRecord (l : Lane) (s : State) : State :=
  present 0x3E [0x0000D, laneWord l, 1] (.upd [] [⟨0, 0x00D, 0x9E001, laneWord l, 1⟩]) s

/-- The image record of bank 0 matches the lane's NVM: at a wake the ACTIVE image is then loaded without a check of its signature
(R478, R559). -/
def recordMatches (s : State) (g : LaneSt) : Bool :=
  let digest := (g.nvm.fw.active.map Image.ident).getD 0 / 2 ^ 56
  s.pwr.waking && s.pwr.banksOk.getLsbD 0 && decide ((retWord s 0 12).field 13 12 = 0) &&
    (List.range 16).all (fun k => decide ((retWord s 0 (13 + k)).toNat = digest / 2 ^ (16 * k) % 2 ^ 16)) &&
    decide (ofWords [retWord s 0 29, retWord s 0 30] = g.nvm.programs % 2 ^ 40)

/-- IMAGE_VERIFIED: M9 or K9; without a valid image the lane stays in boot code (R65, R70, R478). -/
def imageVerified (l : Lane) (activeOk fallbackOk : Bool) (s : State) : State :=
  let g := s.lane l
  if g.boot ≠ .code then s
  else
    let first := (activeOk || recordMatches s g) && g.nvm.fw.active.isSome && !unconfirmed s g
    if first then
      s.modLane l fun g =>
        { g with boot := .image, slot := 0, imgFail := false, imageId := (g.nvm.fw.active.map Image.ident).getD 0 }
    else if fallbackOk && g.nvm.fw.fallback.isSome then
      fallbackRecord l (s.modLane l fun g =>
        { g with boot := .image, slot := 1, imgFail := true, imageId := (g.nvm.fw.fallback.map Image.ident).getD 0 })
    else heldOut l .stuck (s.modLane l fun g => { g with imgFail := true })

/-- The cores take their kinds: those that the image does not name run firmware (R489, R490). -/
def setCoreKinds (i : ConfigImage) (s : State) : State :=
  let named := i.programs.map (·.1)
  (List.range 24).foldl (fun s c =>
    if c ≠ 0 ∧ named.contains c = true then s else s.modCore c Kwask.firmware) (loadPrograms i.programs s)

/-- The enrolled tokens, which the key stores hold, in the lanes' copy (R344, R358). -/
def tokenCopy (s : State) : State :=
  s.setCopies (s.live.filter fun p => decide (0x88010 ≤ p.1) && decide (p.1 < 0x88020))

/-- The image sets MSG_EN while the store holds no drive-release key (R352). -/
def unkeyed (s : State) (i : ConfigImage) : Bool :=
  !keyHeld s 5 && i.regs.any fun p => decide (p.1 = 0x88023) && p.2.bit 18

/-- The lanes' own registers, tables and cores take a configuration, which alone says what KIND and PARTNER hold (R192); without a drive-release key MSG_EN stays 0 (R65, R352). -/
def loadConfig (i : ConfigImage) (s : State) : State :=
  let off := unkeyed s i
  let s := { s with lanes := { s.lanes with groups := [] } }
  let s := i.regs.foldl (fun s p =>
    configReg p.1.toNat (if off && decide (p.1 = 0x88023) then p.2.setBit 18 false else p.2) s) s
  tokenCopy (setCoreKinds i s)

/-- M10 or K10: the lanes' registers take the configuration; a wake restores what was retained; and the configurations go to
the tiles and units (R65, R208, R470, R478). -/
def applyConfig (i : ConfigImage) (s : State) : State :=
  let s := loadConfig i s
  let s := if s.pwr.waking then restoreRetained s
    else (List.range 11).foldl (fun s t => restoreTarget t s) s
  [fioT, lgtT, accT, denT].foldl (fun s t => restoreTarget t s) s

/-- The configuration registers of a lane's own port (R407, R438, R557). -/
def portConfig (i : ConfigImage) (g : LaneSt) : LaneSt :=
  let own := i.regs.filter fun p => decide (0x98002 ≤ p.1.toNat) && decide (p.1.toNat < 0x98018)
  { g with
    cfgImage := some i, cfgDigest := i.digest, startBlack := i.startBlack, cfgDefault := false,
    portRegs := own.foldl (fun m p =>
      if p.1.toNat < 0x98005 then Sparse.put m p.1.toNat (p.2 &&& 0x0FFFF)
      else Sparse.set regReset m p.1.toNat (p.2 &&& portMask p.1.toNat)) g.portRegs }

/-- A lane that withdrew for its command link passes the start check of its links, at this restart or a later one (R112). DESIGN
CHOICE, assumption log 81. -/
def linksPass (s : State) (l : Lane) : Bool := !(s.lane l).linkBad || Config.linkCheck s.free

/-- A lane that restarted beside an active lane is ready: it joins, or stays OUT (R63, R71, R109, R112). -/
def restartReady (l : Lane) (s : State) : State :=
  if (s.lane l).cfgDefault then laneOut l 1 (heldOut l .started s)
  else if linksPass s l = false then
    { s.modLane l fun g => { g with boot := .started, role := .out, joinStage := 0 } with free := s.free + 1 }
  else
    let s := s.modLane l fun g => { g with boot := .started, linkBad := false }
    if mayJoin s l then beginJoin l s else s.modLane l fun g => { g with role := .out, joinStage := 0 }

/-- CONFIG_APPLIED: M10 or K10, after which the lane waits at M11. A lane that restarts while the other is silent goes on
alone, unless the other is about to (R65, R71, R100, R103). -/
def configApplied (l : Lane) (ok : Bool) (i : ConfigImage) (s : State) : State :=
  let ok := ok && configOk i
  if (s.lane l).boot ≠ .image then s
  else
    let s := s.modLane l fun g =>
      { (if ok then portConfig i g else { g with cfgDefault := true }) with boot := .waiting }
    match activeLane s with
    | some _ =>
      let s := if ok && updateJoins s l && s.upd.cfgReady then { s with upd := { s.upd with cfg := some i } } else s
      restartReady l s
    | none =>
      if s.lanes.start.isSome then s
      else if (s.lane l).restarted then
        if ok then { s with lanes := { s.lanes with start := some l, solo := true } } else heldOut l .started s
      else if ok then applyConfig i s
      else s

/-! ### M11: the lanes meet (R67 to R71, R477) -/

/-- The shared registers take the configuration of the lane that will start, where the lanes' images differ. -/
def reapply (l : Lane) (s : State) : State :=
  match (s.lane l).cfgImage with
  | some i => applyConfig i { s with copy := [], tables := [], shadow := [], cores := [] }
  | none => s

/-- The numbering of a wake goes on from bank 0 (R477). -/
def keepsEpoch (s : State) : Bool := s.pwr.waking && s.pwr.banksOk.getLsbD 0

/-- The epoch is advanced in the NVM journals, or has ended: a maintenance start (R67, R68). -/
def advanceEpoch (s : State) : State :=
  if keepsEpoch s then
    let last := decide (s.pwr.lastSeq / 2 ^ 40 = 0xFFFFF)
    { (s.mapLanes fun g => { g with startStatus := g.startStatus.setBit 8 last }) with
      seq := { Seq.reset with next := s.pwr.lastSeq + 1, agreed := s.pwr.lastSeq, epochEnd := last } }
  else
    let m := max s.white.nvm.epoch s.black.nvm.epoch
    let e := min (m + 1) 0xFFFFF
    let last := decide (e = 0xFFFFF)
    let s := s.mapLanes fun g =>
      let g := if g.boot = .waiting then { g with nvm := { g.nvm.programmed with epoch := e } } else g
      { g with startStatus := g.startStatus.setBit 8 last }
    { s with
      seq := { Seq.reset with next := e * 2 ^ 40, epochEnd := last },
      maintenance := s.maintenance || decide (m = 0xFFFFF) }

/-- Lane `l` will take the first active ply; the lane `out` is held out of service. Both lanes that have reached M11 journal the
epoch first (R67, R70, R71). -/
def chooseStart (l : Lane) (solo : Bool) (out : Option Lane) (s : State) : State :=
  let s := advanceEpoch s
  let s := match out with | some o => heldOut o .started s | none => s
  { s with lanes := { s.lanes with start := some l, solo := solo } }

/-- The start lane that the configuration or the AO names (R69, R477). -/
def startLane (s : State) : Lane :=
  if keepsEpoch s then s.pwr.lastActive
  else if s.white.startBlack && s.black.startBlack then .black
  else .white

/-- LANES_MEET: M11 or K11 (R68 to R71). DEDUCED, assumption log 16. -/
def lanesMeet (s : State) : State :=
  if s.white.boot ≠ .waiting ∨ s.black.boot ≠ .waiting ∨ (activeLane s).isSome = true ∨ s.lanes.start.isSome = true then s
  else
    let s := { s with lanes := { s.lanes with xa := true, xb := true } }
    let w := s.white
    let b := s.black
    if w.cfgDefault && b.cfgDefault then chooseStart .white false none { s with maintenance := true }
    else if w.cfgDefault then chooseStart .black true (some .white) s
    else if b.cfgDefault then chooseStart .white true (some .black) s
    else
      let mismatch := w.startBlack ≠ b.startBlack
      let s := s.mapLanes fun g => { g with startStatus := g.startStatus.setBit 14 mismatch }
      if w.imageId ≠ b.imageId ∨ w.cfgDigest ≠ b.cfgDigest then
        let l := if w.imageId ≠ b.imageId ∧ w.slot ≠ b.slot then (if w.slot = 0 then Lane.white else .black) else startLane s
        chooseStart l true (some (otherLane l)) (reapply l s)
      else chooseStart (startLane s) false none s

/-- SOLO_TIMEOUT: lane `l` proceeds alone, 250 ms after M0 (R70, R71). -/
def soloTimeout (l : Lane) (s : State) : State :=
  let o := s.lane (otherLane l)
  if (s.lane l).boot ≠ .waiting ∨ o.boot = .waiting ∨ (activeLane s).isSome = true ∨ s.lanes.start.isSome = true then s
  else if (s.lane l).cfgDefault = false then chooseStart l true none s
  else if o.cfgDefault then chooseStart l true none { s with maintenance := true }
  else heldOut l .started s

/-! ### M12: the first active ply (R67, R73, R101, R477 to R479, R558) -/

/-- A lane that starts alone after a lane reset takes nothing over: the shared state begins anew, under a new epoch (R103,
R166). JOIN_EN and WDT keep what was written unless the image names LANE_CTL, since R116 gives no other value for a lane that
restarts alone: DESIGN CHOICE, assumption log 9. -/
def startAnew (l : Lane) (s : State) : State :=
  let s := clearLaneWork s
  let s : State := match (s.lane l).cfgImage with
    | some i => loadConfig i s
    | none => tokenCopy s
  let s : State := advanceEpoch (s.modLane l fun g => { g with boot := .waiting })
  { s with
    targets := s.targets.map fun (p : Nat × Target) => (p.1, { p.2 with sent := p.2.last }),
    lanes := { s.lanes with start := some l, solo := true } }

/-- The lifetime counters that NVM restores, journalled afresh in every lane that takes part (R221, R222). -/
def restoreLife (l : Lane) (s : State) : State :=
  let life := restoredLife (s.lane l).nvm
  let s := { s with life := life }
  s.mapLanes fun g =>
    if g.role = .out then g
    else { g with lifeJournal := life, image := [], nvm := { g.nvm.programmed with life := life, failImage := [] } }

/-- Why a lane is held out of service at M11: its image differs from the other lane's, or its configuration (R70, R71, R544). -/
def outReason (s : State) (l : Lane) : Word :=
  if !(s.lane l).cfgDefault && decide ((s.lane l).imageId ≠ (s.lane (otherLane l)).imageId) then 4 else 1

/-- The first record of a start, then those of what the start found (R68, R70, R71, R352, R477, R543, R555). -/
def startRecords (l : Lane) (s : State) : State :=
  let first : RecDraft := if s.pwr.waking
    then ⟨0x0C, 4, 0x9E004, s.pwr.wakeStatus, Word.ofN s.pwr.parkMinutes⟩
    else ⟨0, 1, 0x9E001, startStatusWord s l, (s.lane l).resetCause⟩
  let e := Word.ofN (s.seq.next / 2 ^ 40)
  let fell := [Lane.white, .black].filter fun l => (s.lane l).imgFail && decide ((s.lane l).boot = .started)
  let rs := [first] ++ (if s.seq.epochEnd && !keepsEpoch s then [⟨0, 0x00B, 0x9E001, e, 0⟩] else []) ++
    (if s.maintenance then [⟨0, 0x00C, 0x9E001, laneWord l, 0⟩] else []) ++
    (fell.map fun l => ⟨0, 0x00D, 0x9E001, laneWord l, Word.ofN (s.lane l).slot⟩) ++
    (([Lane.white, .black].filter fun l => decide ((s.lane l).role = .out) && decide ((s.lane l).boot = .started)).map fun l =>
      ⟨1, 9, 0x9D000, laneWord l, outReason s l⟩) ++
    (match (s.lane l).cfgImage with
      | some i => if unkeyed s i then [⟨2, 4, 0x88023, (s.copyReg 0x88023).setBit 18 true, 30⟩] else []
      | none => [])
  { s with seq := { s.seq with recs := s.seq.recs ++ rs } }

/-- What a wake brings to the first active ply: the lock, the park records and the session of its round (R338, R346,
R479). -/
def wakeInputs (l : Lane) (s : State) : State :=
  if s.pwr.waking && !s.pwr.clk && (s.lane l).pll then present 0x17 [0x00109] .locked s else s

/-- The access unit after a wake: its park records, and the session that the wake's round opens, its token ranged inside as that round found
it (R338, R346, R350). -/
def wakeAccess (s : State) : State :=
  let s := presentParkRecords s
  let s := s.acc.wakeResult.foldl (fun s e => pushEntry accT { e with time := s.now } s)
    { s with acc := { s.acc with wakeResult := [] } }
  match s.acc.wakeGrant with
  | some (i, _, _, _) =>
    let inside := s.acc.wakeInside
    let s := { s with acc := { s.acc with wakeGrant := none, wakeInside := none } }
    if s.acc.sessOpen then s
    else
      let s := openSession i s
      { s with acc := { s.acc with insideAt := inside } }
  | none => s

/-- FIRST_ACTIVE_PLY: M12 or K12; the wake levels are those of the moment (R475). The time base starts at 0, numbering begins, and every target is claimed with the
restore sequence; a lane that waits beside a start alone joins (R63, R67, R73, R78, R464, R558). DEDUCED, assumption log
15. -/
def firstActivePly (ms : Nat) (s : State) : State :=
  match s.lanes.start, activeLane s with
  | some l, none =>
    let s := if (s.lane l).restarted then startAnew l s else s
    let solo := s.lanes.solo
    let o := otherLane l
    let peer := !solo && decide ((s.lane o).boot = .waiting)
    let waking := s.pwr.waking
    let s := s.modLane l fun g => { g with role := .active, boot := .started, stale := false }
    let s := if peer then s.modLane o fun g => { g with role := .standby, boot := .started, stale := false } else s
    let s := setStartStatus l true peer solo ms s
    let s := if peer then setStartStatus o false true solo ms s else s
    let s := restoreLife l s
    let s := s.setCopies (levelCopy s)
    let s := { s with
      now := 0, seq := { s.seq with running := true }, ply := Ply.reset, log := [], ring := [], ringLost := 0,
      lanes := { s.lanes with start := none, solo := false },
      pwr := { s.pwr with
        elapsed := s.clock, state := .idle, entering := false, clk := (s.lane l).clk250, locked := (s.lane l).clk250, next := none },
      upd := if (s.upd.stage = .first ∨ s.upd.stage = .castling) ∧ s.upd.firstLane = l
        then { s.upd with stage := .second, pauseFrom := 0 } else s.upd }
    let s := wakeInputs l (startRecords l s)
    let s := startPly (closeWindow 0 s)
    let s := emit ((List.range 45).map fun t => (t, Content.restore 0 s.ply.number 0)) s
    let s := if waking then wakeAccess s else s
    let s := { s with pwr := { s.pwr with waking := false } }
    if !peer && decide ((s.lane o).boot = .waiting) then restartReady o s else s
  | _, _ => s

/-! ### The rows -/

/-- VLOG_LOST (R48). -/
def execVlogLost (f : Feed) (sample : Word) (s : State) : Host.Outcome State Fault Refusal := .next (vlogLost f sample s)

/-- VLOG_BACK (R48). -/
def execVlogBack (f : Feed) (sample : Word) (red : Bool) (s : State) : Host.Outcome State Fault Refusal :=
  .next (vlogBack f sample red s)

/-- REDUCED_ON (R47). -/
def execReducedOn (trip : ReducedTrip) (s : State) : Host.Outcome State Fault Refusal :=
  .next (reducedOn trip.a trip.b trip.sample s)

/-- REDUCED_OFF (R47). -/
def execReducedOff (f : Feed) (sample : Word) (s : State) : Host.Outcome State Fault Refusal := .next (reducedOff f sample s)

/-- VPWR_LOW (R56). -/
def execVpwrLow (f : Feed) (sample : Word) (s : State) : Host.Outcome State Fault Refusal := .next (vpwrLow f sample s)

/-- VPWR_MISSING (R56). -/
def execVpwrMissing (f : Feed) (sample : Word) (s : State) : Host.Outcome State Fault Refusal := .next (vpwrMissing f sample s)

/-- VPWR_OK (R56, R160). -/
def execVpwrOk (f : Feed) (back : FeedReturn) (s : State) : Host.Outcome State Fault Refusal :=
  .next (vpwrOk f back.sample back.low s)

/-- POWER_FAIL (R57). -/
def execPowerFail (a b : Word) (s : State) : Host.Outcome State Fault Refusal := .next (powerFail a b s)

/-- HOLD_UP_END (R57). -/
def execHoldUpEnd (s : State) : Host.Outcome State Fault Refusal := .next (holdUpEnd s)

/-- LANE_RAIL_BROWNOUT (R56). -/
def execLaneRailBrownout (l : Lane) (r : Rail) (s : State) : Host.Outcome State Fault Refusal := .next (laneRail l r s)

/-- FAB_ANA_LOST (R54). -/
def execFabAnaLost (s : State) : Host.Outcome State Fault Refusal :=
  .next { s with sup := { s.sup with fabAna := false, fabValid := false } }

/-- FAB_ANA_SETTLED: the rail has been good for 400 µs, and samples are valid again (R54). -/
def execFabAnaSettled (s : State) : Host.Outcome State Fault Refusal :=
  .next { s with sup := { s.sup with fabAna := true, fabValid := true } }

/-- Codes of TILE_STATUS.LAST_RESET (R195). -/
def tileCauseCode : TileCause → Nat
  | .rail => 1 | .clock => 2 | .selfCheck => 3

/-- A tile resets; a brown-out of its rail leaves TILES_OK in doubt until a lane claims the tile (R56, R60, R75). -/
def tileReset (t : Nat) (cause : TileCause) (s : State) : State :=
  let s : State := match cause with
    | .rail => { s with sup := { s.sup with tileLow := if s.sup.tileLow.contains t then s.sup.tileLow else s.sup.tileLow ++ [t] } }
    | .clock => s
    | .selfCheck => s
  resetTile t (tileCauseCode cause) s

/-- TILE_RESET (R60, R64). -/
def execTileReset (t : Fin 11) (cause : TileCause) (s : State) : Host.Outcome State Fault Refusal :=
  .next (tileReset t cause s)

/-- AO_RAIL_BROWNOUT (R56). -/
def execAoRailBrownout (s : State) : Host.Outcome State Fault Refusal := .next (aoBrownout s)

/-- LOW_POWER_BROWNOUT (R59). -/
def execLowPowerBrownout (s : State) : Host.Outcome State Fault Refusal := .next (lowPower s)

/-- COLD_START (R65). -/
def execColdStart (vlogA vlogB vpwrA vpwrB calOk : Bool) (s : State) : Host.Outcome State Fault Refusal :=
  .next (coldStart vlogA vlogB vpwrA vpwrB calOk s)

/-- LANE_RESET_RELEASE (R65). -/
def execLaneResetRelease (l : Lane) (s : State) : Host.Outcome State Fault Refusal := .next (resetRelease l s)

/-- PLL_LOCKED (R65, R479). -/
def execPllLocked (l : Lane) (s : State) : Host.Outcome State Fault Refusal := .next (pllLocked l s)

/-- IMAGE_VERIFIED (R65). -/
def execImageVerified (l : Lane) (activeOk fallbackOk : Bool) (s : State) : Host.Outcome State Fault Refusal :=
  .next (imageVerified l activeOk fallbackOk s)

/-- CONFIG_APPLIED (R65). -/
def execConfigApplied (l : Lane) (ok : Bool) (image : ConfigImage) (s : State) : Host.Outcome State Fault Refusal :=
  .next (configApplied l ok image s)

/-- LANES_MEET (R70). -/
def execLanesMeet (s : State) : Host.Outcome State Fault Refusal := .next (lanesMeet s)

/-- SOLO_TIMEOUT (R70). -/
def execSoloTimeout (l : Lane) (s : State) : Host.Outcome State Fault Refusal := .next (soloTimeout l s)

/-- FIRST_ACTIVE_PLY (R558). -/
def execFirstActivePly (startMs : BitVec 8) (s : State) : Host.Outcome State Fault Refusal :=
  .next (firstActivePly startMs.toNat s)

/-- EPOCH_END_RESET (R84). -/
def execEpochEndReset (s : State) : Host.Outcome State Fault Refusal := .next (if s.seq.ended then moduleReset 0 0xF s else s)

/-- DBG_EN_DEACTIVATION: a lock that debug holds is abandoned (R144). -/
def execDbgEnDeactivation (s : State) : Host.Outcome State Fault Refusal :=
  .next (abandonLocks 31 { s with sup := { s.sup with dbgEn := false } })

end Sys2Proof.Machine
end

