-- ==== Sys2Proof/Machine/Dispatch.lean ====
section
/-! DEFINITION. One arm for every command of the block. -/

namespace Sys2Proof.Machine

open Sys2Proof

-- The effect of a command on everything but the queue.
def exec (i : Instr) (s : State) : Host.Outcome State Fault Refusal :=
  match i with
  -- Supplies, resets and start (R44 to R76, R558)
  | .vlogLost f sample => Sys2Proof.Machine.execVlogLost f sample s
  | .vlogBack f sample red => Sys2Proof.Machine.execVlogBack f sample red s
  | .reducedOn trip => Sys2Proof.Machine.execReducedOn trip s
  | .reducedOff f sample => Sys2Proof.Machine.execReducedOff f sample s
  | .vpwrLow f sample => Sys2Proof.Machine.execVpwrLow f sample s
  | .vpwrMissing f sample => Sys2Proof.Machine.execVpwrMissing f sample s
  | .vpwrOk f back => Sys2Proof.Machine.execVpwrOk f back s
  | .powerFail a b => Sys2Proof.Machine.execPowerFail a b s
  | .holdUpEnd => Sys2Proof.Machine.execHoldUpEnd s
  | .laneRailBrownout l r => Sys2Proof.Machine.execLaneRailBrownout l r s
  | .fabAnaLost => Sys2Proof.Machine.execFabAnaLost s
  | .fabAnaSettled => Sys2Proof.Machine.execFabAnaSettled s
  | .tileReset t cause => Sys2Proof.Machine.execTileReset t cause s
  | .aoRailBrownout => Sys2Proof.Machine.execAoRailBrownout s
  | .lowPowerBrownout => Sys2Proof.Machine.execLowPowerBrownout s
  | .wakeInputRise k => Sys2Proof.Machine.execWakeInputRise k s
  | .wakeInputFall k => Sys2Proof.Machine.execWakeInputFall k s
  | .coldStart vlogA vlogB vpwrA vpwrB calOk => Sys2Proof.Machine.execColdStart vlogA vlogB vpwrA vpwrB calOk s
  | .laneResetRelease l => Sys2Proof.Machine.execLaneResetRelease l s
  | .pllLocked l => Sys2Proof.Machine.execPllLocked l s
  | .imageVerified l activeOk fallbackOk => Sys2Proof.Machine.execImageVerified l activeOk fallbackOk s
  | .configApplied l ok image => Sys2Proof.Machine.execConfigApplied l ok image s
  | .lanesMeet => Sys2Proof.Machine.execLanesMeet s
  | .soloTimeout l => Sys2Proof.Machine.execSoloTimeout l s
  | .firstActivePly startMs => Sys2Proof.Machine.execFirstActivePly startMs s
  | .hostLinkUp l => Sys2Proof.Machine.execHostLinkUp l s
  | .hostLinkLoss l => Sys2Proof.Machine.execHostLinkLoss l s
  | .laneResetEvent l cause => Sys2Proof.Machine.execLaneResetEvent l cause s
  | .laneWatchdog l => Sys2Proof.Machine.execLaneWatchdog l s
  | .coreFault l c k => Sys2Proof.Machine.execCoreFault l c k s
  | .uncorrectableError l => Sys2Proof.Machine.execUncorrectableError l s
  | .epochEndReset => Sys2Proof.Machine.execEpochEndReset s
  -- Plies, the sequencer and the lanes (R77 to R121)
  | .plyBoundary => Sys2Proof.Machine.execPlyBoundary s
  | .inputPresented src t payload => Sys2Proof.Machine.execInputPresented src t payload s
  | .assignmentReceived n => Sys2Proof.Machine.execAssignmentReceived n s
  | .phaseBStart => Sys2Proof.Machine.execPhaseBStart s
  | .phaseCEmit endWhite endBlack failed => Sys2Proof.Machine.execPhaseCEmit endWhite endBlack failed s
  | .phaseDDigest diff => Sys2Proof.Machine.execPhaseDDigest diff s
  | .phaseECommit fits => Sys2Proof.Machine.execPhaseECommit fits s
  | .commandReceived t l count ply idx c => Sys2Proof.Machine.execCommandReceived t l count ply idx c s
  | .keepAlive l t => Sys2Proof.Machine.execKeepAlive l t s
  | .shadowReceived t count c => Sys2Proof.Machine.execShadowReceived t count c s
  | .shadowMissing t count => Sys2Proof.Machine.execShadowMissing t count s
  | .pathDown p => Sys2Proof.Machine.execPathDown p s
  | .pathUp p => Sys2Proof.Machine.execPathUp p s
  | .withdraw l cause => Sys2Proof.Machine.execWithdraw l cause s
  | .withdrawReceived cause => Sys2Proof.Machine.execWithdrawReceived cause s
  | .markerTimeout => Sys2Proof.Machine.execMarkerTimeout s
  | .claimReceived t l ply idx => Sys2Proof.Machine.execClaimReceived t l ply idx s
  | .superseded l => Sys2Proof.Machine.execSuperseded l s
  | .joinAbandoned => Sys2Proof.Machine.execJoinAbandoned s
  | .joinRetry => Sys2Proof.Machine.execJoinRetry s
  | .laneCtlCastle => Sys2Proof.Machine.execLaneCtlCastle s
  | .joinEn v => Sys2Proof.Machine.execJoinEn v s
  | .divUnlock => Sys2Proof.Machine.execDivUnlock s
  | .scoTimeRead l m => Sys2Proof.Machine.execScoTimeRead l m s
  -- The Board and its arbiters (R122 to R150)
  | .boardRequest l t m secure addr wr lk cycle => Sys2Proof.Machine.execBoardRequest l t m secure addr wr lk cycle s
  | .arbiterGrant l t bank cycle => Sys2Proof.Machine.execArbiterGrant l t bank cycle s
  | .lockAbandoned l t => Sys2Proof.Machine.execLockAbandoned l t s
  | .lockRecoveryEnd l t => Sys2Proof.Machine.execLockRecoveryEnd l t s
  | .accessTableWrite t e w v => Sys2Proof.Machine.execAccessTableWrite t e w v s
  | .commit => Sys2Proof.Machine.execCommit s
  | .clear t m => Sys2Proof.Machine.execClear t m s
  | .clearAll t m => Sys2Proof.Machine.execClearAll t m s
  | .arbGrantsRead l m => Sys2Proof.Machine.execArbGrantsRead l m s
  | .arbSwinWrite writer m v => Sys2Proof.Machine.execArbSwinWrite writer m v s
  -- Protected channels (R151 to R196)
  | .chOn n => Sys2Proof.Machine.execChOn n s
  | .chOff n => Sys2Proof.Machine.execChOff n s
  | .chClear n => Sys2Proof.Machine.execChClear n s
  | .chProbe n => Sys2Proof.Machine.execChProbe n s
  | .chCfgWrite n v => Sys2Proof.Machine.execChCfgWrite n v s
  | .firstTurnOnProbeEnd n vOff vProbe => Sys2Proof.Machine.execFirstTurnOnProbeEnd n vOff vProbe s
  | .freewheelProbeEnd n vNeg => Sys2Proof.Machine.execFreewheelProbeEnd n vNeg s
  | .retryOffTimeEnd n => Sys2Proof.Machine.execRetryOffTimeEnd n s
  | .inrushWindowEnd n => Sys2Proof.Machine.execInrushWindowEnd n s
  | .tileSilent t => Sys2Proof.Machine.execTileSilent t s
  | .holdTimeExpiry n => Sys2Proof.Machine.execHoldTimeExpiry n s
  | .tileSilentReport t => Sys2Proof.Machine.execTileSilentReport t s
  -- Protection (R197 to R233)
  | .shortCircuit n => Sys2Proof.Machine.execShortCircuit n s
  | .currentSample n fine coarse limited => Sys2Proof.Machine.execCurrentSample n fine coarse limited s
  | .overcurrent n => Sys2Proof.Machine.execOvercurrent n s
  | .reverse n => Sys2Proof.Machine.execReverse n s
  | .wireModelUpdate n => Sys2Proof.Machine.execWireModelUpdate n s
  | .dt n temp => Sys2Proof.Machine.execDt n temp s
  | .dtRelease n temp => Sys2Proof.Machine.execDtRelease n temp s
  | .junction n temp => Sys2Proof.Machine.execJunction n temp s
  | .junctionRelease n temp => Sys2Proof.Machine.execJunctionRelease n temp s
  | .caseDiff t diff => Sys2Proof.Machine.execCaseDiff t diff s
  | .sensorFail n => Sys2Proof.Machine.execSensorFail n s
  | .arcWindowEnd t ms => Sys2Proof.Machine.execArcWindowEnd t ms s
  | .backfedEval n v settled => Sys2Proof.Machine.execBackfedEval n v settled s
  | .openLoadProbe n v => Sys2Proof.Machine.execOpenLoadProbe n v s
  | .imbalance n outside => Sys2Proof.Machine.execImbalance n outside s
  | .pairImbalance n => Sys2Proof.Machine.execPairImbalance n s
  | .lifetimeJournal => Sys2Proof.Machine.execLifetimeJournal s
  -- Measurement fabric, streams and DMA (R234 to R274)
  | .sampleBlock raw late => Sys2Proof.Machine.execSampleBlock raw late s
  | .muxReferenceCheck v good => Sys2Proof.Machine.execMuxReferenceCheck v good s
  | .modOffsetTrack n step fail => Sys2Proof.Machine.execModOffsetTrack n step fail s
  | .comparatorConfigWrite m k which v => Sys2Proof.Machine.execComparatorConfigWrite m k which v s
  | .signatureConfigWrite m k v => Sys2Proof.Machine.execSignatureConfigWrite m k v s
  | .streamEnable m x decim => Sys2Proof.Machine.execStreamEnable m x decim s
  | .streamRdWrite m x v => Sys2Proof.Machine.execStreamRdWrite m x v s
  | .evqTailWrite m v => Sys2Proof.Machine.execEvqTailWrite m v s
  | .dmaStart m e => Sys2Proof.Machine.execDmaStart m e s
  | .dmaAbort m e moved => Sys2Proof.Machine.execDmaAbort m e moved s
  | .dmaComplete e => Sys2Proof.Machine.execDmaComplete e s
  -- 24 V field inputs and outputs (R273 to R298)
  | .diCfgWrite d v => Sys2Proof.Machine.execDiCfgWrite d v s
  | .doOn o => Sys2Proof.Machine.execDoOn o s
  | .doOff o => Sys2Proof.Machine.execDoOff o s
  | .doClear o => Sys2Proof.Machine.execDoClear o s
  | .grpOn g mask => Sys2Proof.Machine.execGrpOn g mask s
  | .grpOff g mask => Sys2Proof.Machine.execGrpOff g mask s
  | .limit o => Sys2Proof.Machine.execLimit o s
  | .thermal o => Sys2Proof.Machine.execThermal o s
  | .doThermalRelease o => Sys2Proof.Machine.execDoThermalRelease o s
  | .vfldMissing g => Sys2Proof.Machine.execVfldMissing g s
  | .vfldLow g => Sys2Proof.Machine.execVfldLow g s
  | .vfldOk g low => Sys2Proof.Machine.execVfldOk g low s
  | .fioUnitSilent => Sys2Proof.Machine.execFioUnitSilent s
  | .fioTimedOut => Sys2Proof.Machine.execFioTimedOut s
  | .fioBackfedEval o above below settled => Sys2Proof.Machine.execFioBackfedEval o above below settled s
  -- LED strings and signalling matrices (R299 to R327)
  | .strOn x => Sys2Proof.Machine.execStrOn x s
  | .strOff x => Sys2Proof.Machine.execStrOff x s
  | .strClear x => Sys2Proof.Machine.execStrClear x s
  | .go x => Sys2Proof.Machine.execGo x s
  | .strCfgWrite x v => Sys2Proof.Machine.execStrCfgWrite x v s
  | .pwmPeriodStart x => Sys2Proof.Machine.execPwmPeriodStart x s
  | .bypassClose x k => Sys2Proof.Machine.execBypassClose x k s
  | .onTimeEnd x regulated under => Sys2Proof.Machine.execOnTimeEnd x regulated under s
  | .short x => Sys2Proof.Machine.execShort x s
  | .openString x => Sys2Proof.Machine.execOpenString x s
  | .openLed x led => Sys2Proof.Machine.execOpenLed x led s
  | .shortLed x k below => Sys2Proof.Machine.execShortLed x k below s
  | .strThermalSet x => Sys2Proof.Machine.execStrThermalSet x s
  | .strThermalRelease x => Sys2Proof.Machine.execStrThermalRelease x s
  | .mxOn m => Sys2Proof.Machine.execMxOn m s
  | .mxOff m => Sys2Proof.Machine.execMxOff m s
  | .mxClear m => Sys2Proof.Machine.execMxClear m s
  | .swap m => Sys2Proof.Machine.execSwap m s
  | .mxGo m => Sys2Proof.Machine.execMxGo m s
  | .frameStart m openCols => Sys2Proof.Machine.execFrameStart m openCols s
  | .lineSlot m => Sys2Proof.Machine.execLineSlot m s
  | .lineShort m l => Sys2Proof.Machine.execLineShort m l s
  | .colShort m c low => Sys2Proof.Machine.execColShort m c low s
  | .mxThermal m set => Sys2Proof.Machine.execMxThermal m set s
  | .lgtUnitSilent => Sys2Proof.Machine.execLgtUnitSilent s
  | .lgtTimedOut => Sys2Proof.Machine.execLgtTimedOut s
  -- Access, tokens and drive release (R328 to R359)
  | .parkPoll => Sys2Proof.Machine.execParkPoll s
  | .pollPeriodDouble => Sys2Proof.Machine.execPollPeriodDouble s
  | .presenceFrame k => Sys2Proof.Machine.execPresenceFrame k s
  | .handleScan h above => Sys2Proof.Machine.execHandleScan h above s
  | .handleStuck h => Sys2Proof.Machine.execHandleStuck h s
  | .tokenReply k r => Sys2Proof.Machine.execTokenReply k r s
  | .retryTelegram => Sys2Proof.Machine.execRetryTelegram s
  | .roundEnd lfFaults uwbFaults => Sys2Proof.Machine.execRoundEnd lfFaults uwbFaults s
  | .round ant => Sys2Proof.Machine.execRound ant s
  | .sessEnd => Sys2Proof.Machine.execSessEnd s
  | .tokenWrite k v => Sys2Proof.Machine.execTokenWrite k v s
  | .sessionTimeout => Sys2Proof.Machine.execSessionTimeout s
  | .run => Sys2Proof.Machine.execRun s
  | .stop => Sys2Proof.Machine.execStop s
  | .denClear => Sys2Proof.Machine.execDenClear s
  | .denCfgWrite v => Sys2Proof.Machine.execDenCfgWrite v s
  | .denHalfPeriod readP readN => Sys2Proof.Machine.execDenHalfPeriod readP readN s
  | .denSilence => Sys2Proof.Machine.execDenSilence s
  | .releaseMessage => Sys2Proof.Machine.execReleaseMessage s
  | .accUnitSilent => Sys2Proof.Machine.execAccUnitSilent s
  -- CAN, LIN and 10BASE-T1S (R360 to R405)
  | .busFrameReceived b r sof cycle col sameCopy badFcs => Sys2Proof.Machine.execBusFrameReceived b r sof cycle col sameCopy badFcs s
  | .busFrameTransmitted b obj tag sof => Sys2Proof.Machine.execBusFrameTransmitted b obj tag sof s
  | .busQueue b tag r => Sys2Proof.Machine.execBusQueue b tag r s
  | .busUpdateObject b obj r => Sys2Proof.Machine.execBusUpdateObject b obj r s
  | .busAbort b tag => Sys2Proof.Machine.execBusAbort b tag s
  | .rxAck b slot => Sys2Proof.Machine.execRxAck b slot s
  | .rxAckAll b => Sys2Proof.Machine.execRxAckAll b s
  | .moved b => Sys2Proof.Machine.execMoved b s
  | .canError n tec r lec => Sys2Proof.Machine.execCanError n tec r lec s
  | .busOffReturn n => Sys2Proof.Machine.execBusOffReturn n s
  | .recover n => Sys2Proof.Machine.execRecover n s
  | .domTimeout b => Sys2Proof.Machine.execDomTimeout b s
  | .ttCycleStart n => Sys2Proof.Machine.execTtCycleStart n s
  | .ttWindowStart n fits => Sys2Proof.Machine.execTtWindowStart n fits s
  | .ttWindowEnd n => Sys2Proof.Machine.execTtWindowEnd n s
  | .referenceReceived n cycle gap higher => Sys2Proof.Machine.execReferenceReceived n cycle gap higher s
  | .syncLost n => Sys2Proof.Machine.execSyncLost n s
  | .linSlot n => Sys2Proof.Machine.execLinSlot n s
  | .linResponse n r => Sys2Proof.Machine.execLinResponse n r s
  | .linSleep n => Sys2Proof.Machine.execLinSleep n s
  | .linWake n => Sys2Proof.Machine.execLinWake n s
  | .wakeReceived n => Sys2Proof.Machine.execWakeReceived n s
  | .linWakeRestart n => Sys2Proof.Machine.execLinWakeRestart n s
  | .plcaBeacon x nodes => Sys2Proof.Machine.execPlcaBeacon x nodes s
  | .satLost x k => Sys2Proof.Machine.execSatLost x k s
  | .satCollision x k => Sys2Proof.Machine.execSatCollision x k s
  -- The Shaeve host protocol (R406 to R441)
  | .hostPacket l head octets => Sys2Proof.Machine.execHostPacket l head octets s
  | .arpRequest l target sender => Sys2Proof.Machine.execArpRequest l target sender s
  | .hello h ws => Sys2Proof.Machine.execHello h ws s
  | .close h ws => Sys2Proof.Machine.execClose h ws s
  | .ping h ws => Sys2Proof.Machine.execPing h ws s
  | .moduleReset h ws => Sys2Proof.Machine.execModuleReset h ws s
  | .moduleResetAssert => Sys2Proof.Machine.execModuleResetAssert s
  | .read h ws => Sys2Proof.Machine.execRead h ws s
  | .write h ws => Sys2Proof.Machine.execWrite h ws s
  | .readList h ws => Sys2Proof.Machine.execReadList h ws s
  | .modify h ws => Sys2Proof.Machine.execModify h ws s
  | .chCommand h ws => Sys2Proof.Machine.execChCommand h ws s
  | .chRead h ws => Sys2Proof.Machine.execChRead h ws s
  | .chLife h ws => Sys2Proof.Machine.execChLife h ws s
  | .evtRead h ws => Sys2Proof.Machine.execEvtRead h ws s
  | .strRead h ws => Sys2Proof.Machine.execStrRead h ws s
  | .mbxPost h ws => Sys2Proof.Machine.execMbxPost h ws s
  | .mbxFetch h ws => Sys2Proof.Machine.execMbxFetch h ws s
  | .mbxStatus h ws => Sys2Proof.Machine.execMbxStatus h ws s
  | .updBegin h ws => Sys2Proof.Machine.execUpdBegin h ws s
  | .updData h ws => Sys2Proof.Machine.execUpdData h ws s
  | .updVerify h ws => Sys2Proof.Machine.execUpdVerify h ws s
  | .updActivate h ws => Sys2Proof.Machine.execUpdActivate h ws s
  | .updConfirm h ws => Sys2Proof.Machine.execUpdConfirm h ws s
  | .updStatus h ws => Sys2Proof.Machine.execUpdStatus h ws s
  | .keyLoad h ws => Sys2Proof.Machine.execKeyLoad h ws s
  | .pwrRequest h ws => Sys2Proof.Machine.execPwrRequest h ws s
  | .pwrStatus h ws => Sys2Proof.Machine.execPwrStatus h ws s
  | .castle h ws => Sys2Proof.Machine.execCastle h ws s
  | .laneReset h ws => Sys2Proof.Machine.execLaneReset h ws s
  | .laneStatus h ws => Sys2Proof.Machine.execLaneStatus h ws s
  | .lgtString h ws => Sys2Proof.Machine.execLgtString h ws s
  | .lgtPixels h ws => Sys2Proof.Machine.execLgtPixels h ws s
  | .lgtRead h ws => Sys2Proof.Machine.execLgtRead h ws s
  | .accEnrol h ws => Sys2Proof.Machine.execAccEnrol h ws s
  | .accDelete h ws => Sys2Proof.Machine.execAccDelete h ws s
  | .accRound h ws => Sys2Proof.Machine.execAccRound h ws s
  | .accDen h ws => Sys2Proof.Machine.execAccDen h ws s
  | .accRead h ws => Sys2Proof.Machine.execAccRead h ws s
  | .busSend h ws => Sys2Proof.Machine.execBusSend h ws s
  | .busTap h ws => Sys2Proof.Machine.execBusTap h ws s
  | .busRead h ws => Sys2Proof.Machine.execBusRead h ws s
  | .busStatus h ws => Sys2Proof.Machine.execBusStatus h ws s
  | .sessionIdleTimeout k => Sys2Proof.Machine.execSessionIdleTimeout k s
  | .pendingSessionExpiry k => Sys2Proof.Machine.execPendingSessionExpiry k s
  -- Mailboxes (R442 to R462)
  | .post m k v => Sys2Proof.Machine.execPost m k v s
  | .mbxAck m k v => Sys2Proof.Machine.execMbxAck m k v s
  -- Power states (R463 to R488)
  | .pwrCtlReq m target => Sys2Proof.Machine.execPwrCtlReq m target s
  | .clk250 m => Sys2Proof.Machine.execClk250 m s
  | .journalWriteComplete written => Sys2Proof.Machine.execJournalWriteComplete written s
  | .entryCommit => Sys2Proof.Machine.execEntryCommit s
  | .powerDownComplete => Sys2Proof.Machine.execPowerDownComplete s
  | .deepAfterExpiry => Sys2Proof.Machine.execDeepAfterExpiry s
  | .alarm => Sys2Proof.Machine.execAlarm s
  | .rtcReport => Sys2Proof.Machine.execRtcReport s
  | .wakeEvent cause index bankFail multi => Sys2Proof.Machine.execWakeEvent cause index bankFail multi s
  -- Kwask cores (R489 to R513)
  | .add c a => Sys2Proof.Machine.execAdd c a s
  | .sub c a => Sys2Proof.Machine.execSub c a s
  | .and c a => Sys2Proof.Machine.execAnd c a s
  | .or c a => Sys2Proof.Machine.execOr c a s
  | .xor c a => Sys2Proof.Machine.execXor c a s
  | .neg c a => Sys2Proof.Machine.execNeg c a s
  | .eq c a => Sys2Proof.Machine.execEq c a s
  | .lt c a => Sys2Proof.Machine.execLt c a s
  | .ltu c a => Sys2Proof.Machine.execLtu c a s
  | .shl c a => Sys2Proof.Machine.execShl c a s
  | .shr c a => Sys2Proof.Machine.execShr c a s
  | .sar c a => Sys2Proof.Machine.execSar c a s
  | .muls c a => Sys2Proof.Machine.execMuls c a s
  | .mulu c a => Sys2Proof.Machine.execMulu c a s
  | .divs c a => Sys2Proof.Machine.execDivs c a s
  | .divu c a => Sys2Proof.Machine.execDivu c a s
  | .sadd c a => Sys2Proof.Machine.execSadd c a s
  | .ssub c a => Sys2Proof.Machine.execSsub c a s
  | .sneg c a => Sys2Proof.Machine.execSneg c a s
  | .smul c a => Sys2Proof.Machine.execSmul c a s
  | .sabs c a => Sys2Proof.Machine.execSabs c a s
  | .ld c a => Sys2Proof.Machine.execLd c a s
  | .st c a => Sys2Proof.Machine.execSt c a s
  | .ldL c a => Sys2Proof.Machine.execLdL c a s
  | .stL c a => Sys2Proof.Machine.execStL c a s
  | .ldU c a => Sys2Proof.Machine.execLdU c a s
  | .stU c a => Sys2Proof.Machine.execStU c a s
  | .jmp c a => Sys2Proof.Machine.execJmp c a s
  | .jz c a => Sys2Proof.Machine.execJz c a s
  | .jnz c a => Sys2Proof.Machine.execJnz c a s
  | .halt c => Sys2Proof.Machine.execHalt c s
  | .sleep c => Sys2Proof.Machine.execSleep c s
  | .call c a => Sys2Proof.Machine.execCall c a s
  | .ret c => Sys2Proof.Machine.execRet c s
  | .push c a => Sys2Proof.Machine.execPush c a s
  | .pop c => Sys2Proof.Machine.execPop c s
  | .flagsClr c a => Sys2Proof.Machine.execFlagsClr c a s
  | .bundleIssue c => Sys2Proof.Machine.execBundleIssue c s
  | .budget c => Sys2Proof.Machine.execBudget c s
  | .coreWatchdog l c => Sys2Proof.Machine.execCoreWatchdog l c s
  | .coreRun m c => Sys2Proof.Machine.execCoreRun m c s
  | .coreStop m c => Sys2Proof.Machine.execCoreStop m c s
  | .coreSleep m c => Sys2Proof.Machine.execCoreSleep m c s
  | .coreReset m c => Sys2Proof.Machine.execCoreReset m c s
  -- Firmware update (R514 to R529)
  | .eraseComplete l => Sys2Proof.Machine.execEraseComplete l s
  | .verifyResult l digestOk signatureOk image checkAt => Sys2Proof.Machine.execVerifyResult l digestOk signatureOk image checkAt s
  | .laneReady l => Sys2Proof.Machine.execLaneReady l s
  | .conversionComplete l => Sys2Proof.Machine.execConversionComplete l s
  | .healthWindowExpiry => Sys2Proof.Machine.execHealthWindowExpiry s
  | .recoveryReset => Sys2Proof.Machine.execRecoveryReset s
  -- Scoresheet and registers
  | .scoLogWrite m c v => Sys2Proof.Machine.execScoLogWrite m c v s
  | .registerWrite m a v => Sys2Proof.Machine.execRegisterWrite m a v s
  | .dbgEnDeactivation => Sys2Proof.Machine.execDbgEnDeactivation s

end Sys2Proof.Machine
end

