-- ==== Sys2Proof/Safety.lean ====
section
/-! DEFINITION. What claims about the block are stated in: a command that completes, and the invariant of the state. -/

namespace Sys2Proof.Machine

open Sys2Proof

/-- The command is neither refused nor a fault: it answers a next state, and `P` holds of it. -/
def Completes (c : Instr) (s : State) (P : State → Prop) : Prop := ∃ t, exec c s = .next t ∧ P t

/-- Channel `n` is in no parallel group (R176). -/
def Alone (s : State) (n : Nat) : Prop := (chReg s n 7).field 19 18 ≠ 1

/-- Between `s` and `u`, nothing but channel `n`, the reports that its tile holds and a latched wake event may differ. -/
def ChannelOnly (n : Nat) (s u : State) : Prop :=
  u = { s with chans := u.chans, targets := u.targets, pwr := { s.pwr with held := u.pwr.held } } ∧
  (∀ m : Nat, m ≠ n → u.chan m = s.chan m) ∧ (∀ k : Nat, k ≠ n / 16 → u.tgt k = s.tgt k) ∧
  u.tgt (n / 16) = { s.tgt (n / 16) with entries := (u.tgt (n / 16)).entries }

/-- The tile of channel `n` holds one more report: the change of `n` for this cause, with its new state word (R183). The earlier
ones are kept as they are, unless another cause has opened the switch in the same cycle (R200). -/
def Reported (n cause : Nat) (s u : State) : Prop :=
  ∃ es : List Entry, ∃ e : Entry, (u.tgt (n / 16)).entries = es ++ [e] ∧ e.kind = 0 ∧ e.obj = n ∧ e.cause = cause ∧
    e.state = chWord u n ∧ es.length = (s.tgt (n / 16)).entries.length ∧
    ((s.chan n).cutNow s.clock = false → es = (s.tgt (n / 16)).entries)

/-- Channel `n` becomes `c`, its tile holds the report of this change, and nothing else differs; when its switch last opened
is kept beside (R183, R200). -/
def Becomes (n cause : Nat) (c : Chan) (s u : State) : Prop :=
  u.chan n = { c with cut := (u.chan n).cut, openedAt := (u.chan n).openedAt } ∧ Reported n cause s u ∧ ChannelOnly n s u

/-- A channel that an opening of its switch leaves in state `st` (R159): no probe, count or window of the closed switch is left. -/
def Chan.opened (st : ChState) (src : Src) (c : Chan) : Chan :=
  { c with
    state := st, src := src, sw := false, probe := none, ocCount := 0, waitOff := false, revRun := 0, bfHigh := 0, bfLow := 0,
    switched := c.sw || c.switched }

/-- A channel that a closing into `st` leaves, with a new inrush window and the retry settings `r` in force for it (R159, R167,
R168). -/
def Chan.closed (st : ChState) (src : Src) (r : Word) (c : Chan) : Chan :=
  { c with
    state := st, src := src, sw := true, inrush := true, arcSpoilt := true, used := 0, winRetry := r, probe := none, ocCount := 0,
    arcWindows := [], revRun := 0, waitOff := false, bfHigh := 0, bfLow := 0, switched := true }

/-- A channel that enters COOLING where a closing would have been: the closing that follows will open its inrush window (R159). -/
def Chan.coolsDown (src : Src) (r : Word) (c : Chan) : Chan :=
  { c.opened .cooling src with inrush := true, arcSpoilt := true, used := 0, winRetry := r }

/-- What every step keeps: Board SRAM has one canonical form (R122), the scoresheet ring holds at most 6,400 records (R540),
and the command buffer at most the ply in work and three completed ones (R95). -/
def State.Inv (s : State) : Prop := Memory.wf s.sram = true ∧ s.ring.length ≤ 6400 ∧ s.log.length ≤ 4

/-- The sequencer numbers what a source presents at once: it runs, a lane is active, the window has room, and neither the
end of the sequence numbers nor an epoch carry falls on this input (R81, R83, R84). -/
def Numbering (s : State) : Prop :=
  s.seq.running = true ∧ s.seq.ended = false ∧ (activeLane s).isSome = true ∧ s.seq.used < windowLimit ∧
  s.seq.next % 2 ^ 40 ≠ 0 ∧ s.seq.next + 1 < 2 ^ 60

/-- The window of `u` is that of `s` with one more input of source `src`: it takes the next sequence number, the time of the
presentation and the source's next count, and a castling request the COVERED of then (R81, R85, R108). -/
def Presented (src : Nat) (payload : List Word) (act : Act) (s u : State) : Prop :=
  u.seq = { s.seq with
    window := s.seq.window ++ [⟨s.seq.next, s.now, src, payload, nextCount s src, act.numbered (covered s)⟩],
    used := s.seq.used + 1, next := s.seq.next + 1,
    agreed := if (standbyLane s).isNone then s.seq.next else s.seq.agreed,
    unheard := if (standbyLane s).isNone then [] else s.seq.unheard,
    counts := Sparse.set (fun _ => 0) s.seq.counts src (nextCount s src) }

/-- `u` is `s` after inputs have been presented: nothing differs but the sequencer and, at an epoch carry, the epoch with the count of
NVM programs and its end as each lane keeps them (R81, R84). -/
def Posts (s u : State) : Prop :=
  u = { s with seq := u.seq, white := u.white, black := u.black } ∧
  u.white = { s.white with nvm := { s.white.nvm with epoch := u.white.nvm.epoch, programs := u.white.nvm.programs }, startStatus := u.white.startStatus } ∧
  u.black = { s.black with nvm := { s.black.nvm with epoch := u.black.nvm.epoch, programs := u.black.nvm.programs }, startStatus := u.black.startStatus }

/-- Core `c` issues a move to function unit `u` at work cycle `t`: it runs and has not finished its ply, `t` is the first
cycle at which the unit is free, the limit is not reached, and a next bundle exists (R496, R498, R502, R503). -/
def Issues (s : State) (c u t : Nat) : Prop :=
  (s.core c).state = .running ∧ (s.core c).done = false ∧ t = max (s.core c).used ((s.core c).readyAt u) ∧ t < kwLimit s c ∧
  (s.core c).pc < 16383

/-- Nothing differs but core `c`, which is now `k`. -/
def CoreIs (c : Nat) (k : Kwask) (s u : State) : Prop :=
  u.core c = k ∧ (∀ d : Nat, d ≠ c → u.core d = s.core d) ∧ u = { s with cores := u.cores }

/-- A core after a bundle that triggered unit `u` at work cycle `t` and goes on with the next: the unit is busy until `rdy`
(R496, R498). -/
def Kwask.after (k : Kwask) (u t rdy : Nat) : Kwask :=
  { k with ready := Sparse.set (fun _ => 0) k.ready u rdy, used := t + 1, pc := k.pc + 1 }

/-- FLAGS between two words: C, V, DZ and SAT as given, and every other bit as it was (R495). -/
def FlagsAre (c v dz sat : Bool) (f g : Word) : Prop :=
  g.bit 0 = c ∧ g.bit 1 = v ∧ g.bit 2 = dz ∧ g.bit 3 = sat ∧ ∀ i : Nat, 4 ≤ i → i < 20 → g.bit i = f.bit i

/-- Request `h` with opcode `code` and payload `ws` is executed now: no module reset is awaited, no earlier request is carried or
waits for a lock, its words fit in the ply and its reply in the queue, no host identity holds a lock, and it belongs to session `x`
of entry `k`, with a REQ_ID above every one before (R130, R415, R419 to R421, R430). -/
def Starts (code : Nat) (h : ReqHead) (ws : List Word) (s : State) (k : Nat) (x : Session) : Prop :=
  s.host.resetPort = none ∧ s.ply.blocked = false ∧ s.host.carried = [] ∧ s.ply.hostWords + wordCost code ws ≤ 4096 ∧
  findSession s.host.sessions h.session.toNat = some (k, x) ∧ x.secure = h.sec ∧ h.reqId ≠ 0 ∧ x.high < h.reqId.toNat ∧
  queuedFrames s h.port + 32 ≤ 128 ∧ hostLocked s = false ∧ s.host.lateNow = []

/-- The state in which such a request runs: its REQ_ID is counted for the session (R419). -/
def Counted (h : ReqHead) (s : State) (k : Nat) (x : Session) : State :=
  setSession none k (x.took h.reqId.toNat s.ply.boundary) { s with free := s.free + 1 }

/-- Command `c` is a request that changes the state to `v` and is answered with a status and a payload; `other` is the payload
as the lane of the other port shows it. The reply is made for phase E and kept with the session, and the words it took count
(R412, R419 to R422). -/
def Answers (c : Instr) (code : Nat) (h : ReqHead) (ws : List Word) (s : State) (x : Session) (status : Nat)
    (out other : List Word) (v : State) : Prop :=
  let p : Packet := ⟨h.port, h.source, code, h.sec, h.session, h.reqId, ws, 0, Config.deviceNonce s.free, covered s⟩
  let u := giveReply p (replyFrames p (if x.secure then some x.keyRep else none) status h.seq s.ply.number s.ply.at_
    out other) { v with ply := { v.ply with hostWords := v.ply.hostWords + wordCost code ws } }
  exec c s = .next { u with ply := { u.ply with at_ := s.ply.at_ } }

/-- No target is locked against master `m` or recovers, as the lanes see it (R142). -/
def Unlocked (s : State) (m : Nat) : Prop := ∀ a : Nat, waitsFor s m a = false

/-- The master that the host acts as in a session: 28 in a secure one, 29 otherwise (R128). -/
def Session.master (x : Session) : Nat := if x.secure then 28 else 29

/-- A bus of which the counts have gone to the lanes with a report (R11, R382). -/
def Bus.shown (x : Bus) : Bus :=
  { x with rxDrop := 0, mismatch := 0, missed := 0, overrun := 0, noResp := 0, bad := 0, fcsErr := 0 }

/-- Bus `b` becomes `z` and reports a window with event `code`: nothing else differs but the sequencer, and where that numbers, the
report is the next input; it shows the lanes the registers of the bus with its counts (R382, R387, R393). -/
def Misses (b code cycle col idx : Nat) (z : Bus) (s u : State) : Prop :=
  let w : Word := Word.ofN (cycle % 64 * 2 ^ 14 + col % 64 * 2 ^ 8 + idx % 64)
  u.bus b = z.shown ∧ (∀ c : Nat, c ≠ b → u.bus c = s.bus c) ∧ Posts { s with buses := u.buses } u ∧
  (Numbering s → Presented (sourceOf (busT b)) [Word.ofN (4 * 2 ^ 16 + code), w]
    (.report (busT b) [] [⟨9, code, Word.ofN (busStatusAddr b), Word.ofN b, w⟩] (busCopy (s.modBus b fun _ => z) b)) s u)

/-- The Board's checks pass a write of master `m` at address `a`, and no other master has locked its target (R134 to R137,
R142). -/
def MayWrite (s : State) (m a : Nat) : Prop :=
  verdict s m (masterSecure s m) a true .none = .ok ∧ ∀ t : Nat, targetOf a = some t → lockedOut s (viewLane s) t m = false

/-- Where they do not pass it (R137). -/
def MayNotWrite (s : State) (m a : Nat) : Prop := verdict s m (masterSecure s m) a true .none ≠ .ok

/-- `s` with the grant of that write counted (R140, R145). -/
def Granted (s : State) (m a : Nat) : State := countAccess (computing s) m a true s

end Sys2Proof.Machine
end

