-- ==== Sys2Proof/WellFormed.lean ====
section
/-! DEFINITION. Which commands are well formed: the bounds that the spec gives their operands and that the types of
`Syntax.lean` do not carry already. -/

namespace Sys2Proof

/-- The number of words of a frame record (R374): five header words and ⌈LEN / 2⌉ data words, none in a remote frame. -/
def frameWords (fr : List Word) : Nat :=
  5 + (if (fr.getD 0 0).field 19 18 = 0 ∧ (fr.getD 0 0).bit 15 = true then 0 else ((fr.getD 0 0).field 11 0 + 1) / 2)

/-- A frame record has the words that its LEN calls for (R374). -/
def frameOk (fr : List Word) : Bool := decide (5 ≤ fr.length) && decide (fr.length = frameWords fr)

/-- A stamp: a ply number of 60 bits and an index within the 8,192 commands of a ply (R84, R89). -/
def stampOk (ply idx : Nat) : Bool := decide (ply < 2 ^ 60) && decide (idx < 8192)

/-- What a command carries is well formed: its stamps, and the frame record of a bus submission. -/
def contentOk : Content → Bool
  | .write _ _ => true
  | .close => true
  | .claim count ply idx => decide (count < 2 ^ 20) && stampOk ply idx
  | .restore count ply idx => decide (count < 2 ^ 20) && stampOk ply idx
  | .handover ply idx => stampOk ply idx
  | .bus op _ _ fr => op = 2 || frameOk fr
  | .round _ _ _ => true
  | .park => true

/-- A request's payload fits a packet of 490 words with its five header words (R410, R411). -/
def payloadOk (ws : List Word) : Bool := decide (ws.length ≤ 485)

/-- The identities of local-program cores are 1 to 23: core 0 runs firmware (R489). -/
def imageOk (i : ConfigImage) : Bool := i.programs.all fun p => decide (1 ≤ p.1) && decide (p.1 ≤ 23)

/-- A command is well formed. DEDUCED, assumption log 72. -/
def Instr.wf : Instr → Bool
  | .configApplied _ _ image => imageOk image
  | .verifyResult _ _ _ image _ => imageOk image
  | .inputPresented src t payload => decide (src ≠ 0) && decide (t < 2 ^ 60) && decide (payload.length ≤ 4095)
  | .assignmentReceived n => decide (n < 2 ^ 60)
  | .commandReceived _ _ _ ply idx c => stampOk ply idx && contentOk c
  | .shadowReceived _ _ c => contentOk c
  | .claimReceived _ _ ply idx => stampOk ply idx
  | .clear t _ => decide (t.toNat < 18)
  | .sampleBlock raw _ => decide (raw.length = 1943)
  | .busFrameReceived _ fr sof _ _ _ _ => frameOk fr && decide (sof < 2 ^ 60)
  | .busFrameTransmitted _ _ _ sof => decide (sof < 2 ^ 60)
  | .busQueue _ _ fr => frameOk fr
  | .busUpdateObject _ _ fr => frameOk fr
  | .linResponse _ (.frame fr sof _) => frameOk fr && decide (sof < 2 ^ 60)
  | .tokenReply _ (.reply id resp _) => decide (id < 2 ^ 32) && decide (resp < 2 ^ 64)
  | .hostPacket _ _ octets => decide (octets.length ≤ 1472)
  | .wakeEvent cause _ _ _ => decide (1 ≤ cause.toNat) && decide (cause.toNat ≤ 10)
  | .hello _ ws | .close _ ws | .ping _ ws | .moduleReset _ ws | .read _ ws | .write _ ws | .readList _ ws
  | .modify _ ws | .chCommand _ ws | .chRead _ ws | .chLife _ ws | .evtRead _ ws | .strRead _ ws | .mbxPost _ ws
  | .mbxFetch _ ws | .mbxStatus _ ws | .updBegin _ ws | .updData _ ws | .updVerify _ ws | .updActivate _ ws
  | .updConfirm _ ws | .updStatus _ ws | .keyLoad _ ws | .pwrRequest _ ws | .pwrStatus _ ws | .castle _ ws
  | .laneReset _ ws | .laneStatus _ ws | .lgtString _ ws | .lgtPixels _ ws | .lgtRead _ ws | .accEnrol _ ws
  | .accDelete _ ws | .accRound _ ws | .accDen _ ws | .accRead _ ws | .busSend _ ws | .busTap _ ws | .busRead _ ws
  | .busStatus _ ws => payloadOk ws
  | _ => true

end Sys2Proof
end

