-- ==== Sys2Proof/Certificates/Slice0/Obligations.lean ====
section
/-! DEFINITION. The statements for the provers. Each command is stated on the states and operands in which the spec gives it
its own effect, by the next state that `exec` answers; a state written as a change of `s` says the frame with it: what is not
named is as it was. -/

open Sys2Proof Sys2Proof.Machine

/-! ### The queue, the idle step and the invariant -/

/-- A step takes the command at the front of the queue and runs it with the rest of the queue; on an empty queue the time
base counts one tick and nothing else changes (the model's choice, assumption log 2). -/
def Obligations.StepRunsTheFrontCommand : Prop :=
  (∀ (c : Instr) (rest : List Instr) (s : State),
    step { s with pending := c :: rest } = exec c { s with pending := rest }) ∧
  (∀ s : State, step { s with pending := [] } = .next { s with pending := [], now := s.now + 1 })

/-- Every command from every state answers a next state: none is refused and none faults, and none changes the queue. -/
def Obligations.EveryCommandCompletesAndKeepsTheQueue : Prop :=
  ∀ (c : Instr) (s : State), Completes c s fun t => t.pending = s.pending

/-- The invariant holds at reset. -/
def Obligations.ResetHasTheInvariant : Prop := State.reset.Inv

/-- Every step keeps the invariant: Board SRAM stays in its canonical form, the scoresheet ring holds at most 6,400 records
(R540), and the command buffer at most three plies (R95). -/
def Obligations.EveryStepKeepsTheInvariant : Prop :=
  ∀ s t : State, s.Inv → step s = .next t → t.Inv

/-! ### Protected channels (R151 to R196) -/

/-- ON at a channel outside a parallel group, at a tile that takes commands (R157, R159, R167, R169, R173): from OFF, and from SAFE
with its switch open, it begins the first-turn-on or the freewheel probe, or closes the switch, or enters COOLING while a
thermal latch is set. SAFE with a closed switch becomes ON, and RETRY and COOLING take SRC = LANE (their missing entry is the
model's choice, assumption log 77). ON and HOLD, and a turn-on already in progress, are left as they are. It is refused with reason
01h while EN is 0, and with 02h in LATCHED. In a maintenance start no ON has an effect (R71). -/
def Obligations.ChannelOn : Prop :=
  ∀ (s : State) (n : Fin 176), tileAccepts s (n / 16) = true → Alone s n →
    let c := s.chan n
    (s.maintenance = true → exec (.chOn n) s = .next s) ∧
    (s.maintenance = false → (chReg s n 3).bit 17 = false →
      exec (.chOn n) s = .next (refuseCh n 0 0x01 0x80000 s)) ∧
    (s.maintenance = false → (chReg s n 3).bit 17 = true →
      (c.state = .latched → exec (.chOn n) s = .next (refuseCh n 0 0x02 0x80000 s)) ∧
      (c.state = .on ∨ c.state = .hold → exec (.chOn n) s = .next s) ∧
      (c.state = .off → c.probe.isSome = true → exec (.chOn n) s = .next s) ∧
      (c.state = .retry ∨ c.state = .cooling → exec (.chOn n) s = .next (s.setChan n { c with src := .lane })) ∧
      (c.state = .safe → c.sw = true →
        Completes (.chOn n) s (Becomes n 0x001 { c with state := .on, src := .lane } s)) ∧
      (c.state = .safe → c.sw = false → ∀ p src, c.probe = some (p, src) →
        exec (.chOn n) s = .next (s.setChan n { c with probe := some (p, .lane) })) ∧
      (c.state = .off ∨ (c.state = .safe ∧ c.sw = false) → c.probe = none → c.hot = false →
        (c.probed = false → exec (.chOn n) s = .next (s.setChan n { c with probe := some (.firstTurnOn, .lane) })) ∧
        (c.probed = true → (chReg s n 3).bit 16 = true →
          Completes (.chOn n) s fun t =>
            t.chan n = { c with probe := some (.freewheel, .lane), switched := true } ∧ ChannelOnly n s t) ∧
        (c.probed = true → (chReg s n 3).bit 16 = false →
          Completes (.chOn n) s (Becomes n 0x001 (c.closed .on .lane (chReg s n 6)) s))) ∧
      (c.state = .off ∨ (c.state = .safe ∧ c.sw = false) → c.probe = none → c.hot = true →
        Completes (.chOn n) s (Becomes n 0x001 (c.coolsDown .lane (chReg s n 6)) s)))

/-- A write of CH_CFG at a tile that takes commands, by a channel outside a parallel group (R188, R164, R206): outside OFF and
LATCHED it is refused with reason 05h; in them, where no field is refused, the register takes the value and PROBED and FW
are reset (that it ends a probe in progress is the model's choice, assumption log 77).
A tile that no lane has claimed, that waits for the restore sequence or that is silent takes no command: each of the five
leaves the whole state as it is (R64, R165, R558). A member of a parallel group that is not its leader refuses ON with reason
03h and a CH_CFG with PARK = 1 with reason 05h, and it takes no OFF, CLEAR, PROBE or other CH_CFG of its own (R176, R473). -/
def Obligations.ChannelWrites : Prop :=
  (∀ (s : State) (n : Fin 176) (v : Word), tileAccepts s (n / 16) = true → Alone s n →
     ((s.chan n).state ≠ .off → (s.chan n).state ≠ .latched →
       exec (.chCfgWrite n v) s = .next (refuseCh n 3 0x05 v s)) ∧
     ((s.chan n).state = .off ∨ (s.chan n).state = .latched →
       v.bit 14 = false → (v.bit 15 = true ∨ (chReg s n 4).field 19 18 ≠ 2) → (v.bit 17 = false ∨ wireUnset s n = false) →
       exec (.chCfgWrite n v) s = .next ((s.setLive (chanAddr n 3) (regWrite (chanAddr n 3) (chReg s n 3) v)).setChan n
         { s.chan n with probed := false, fw := 0, probe := none }))) ∧
  (∀ (s : State) (n : Fin 176) (v : Word), tileAccepts s (n / 16) = false →
     exec (.chOn n) s = .next s ∧ exec (.chOff n) s = .next s ∧ exec (.chClear n) s = .next s ∧
     exec (.chProbe n) s = .next s ∧ exec (.chCfgWrite n v) s = .next s) ∧
  (∀ (s : State) (n : Fin 176) (v : Word), tileAccepts s (n / 16) = true → leaderOf s n ≠ n →
     (s.maintenance = false → exec (.chOn n) s = .next (refuseCh n 0 0x03 0x80000 s)) ∧
     exec (.chOff n) s = .next s ∧ exec (.chClear n) s = .next s ∧
     exec (.chProbe n) s = .next s ∧
     (v.bit 14 = false → exec (.chCfgWrite n v) s = .next s) ∧
     (v.bit 14 = true → exec (.chCfgWrite n v) s = .next (refuseCh n 3 0x05 v s)))

/-- OFF, CLEAR and PROBE at a tile that takes commands, at a channel outside a parallel group (R157, R159, R174, R207, R219, R220):
OFF opens the switch and ends a retry sequence; it has no effect in OFF, in HOLD and in LATCHED, but for a latch of the same
cycle that it comes before (R160, R199; assumption log 76); CLEAR takes LATCHED to OFF, but is refused with reason 05h
for a wire latch while the wire is above T_REL; PROBE asks for the open-load probe in OFF alone.
The members of a parallel group change together (R176): OFF at its leader moves every member to OFF with its switch open, CLEAR
at a leader in LATCHED without a wire latch moves every member to OFF, ON at a leader in OFF that has been probed and asks for no
freewheel probe closes every member's switch, and no other channel changes. -/
def Obligations.ChannelAndGroupCommands : Prop :=
  (∀ (s : State) (n : Fin 176), tileAccepts s (n / 16) = true → Alone s n →
     let c := s.chan n
     let wire := c.fault.field 19 16 = 3 ∧ wireAbove s n ((chReg s n 15).field 11 4) = true
     let off := { c.opened .off .lane with fault := c.fault.put 19 16 0 }
     ((c.state = .on ∨ c.state = .safe ∨ c.state = .retry ∨ c.state = .cooling) →
       Completes (.chOff n) s (Becomes n 0x002 { off with
         probeOff := match c.probe with | some (.freewheel, _) => some s.clock | _ => none } s)) ∧
     (c.state = .off ∨ c.state = .hold → exec (.chOff n) s = .next s) ∧
     (c.state = .latched →
       (c.outranked s.clock 0x002 = false → exec (.chOff n) s = .next s) ∧
       (c.outranked s.clock 0x002 = true → Completes (.chOff n) s (Becomes n 0x002 off s)) ∧
       (¬wire → Completes (.chClear n) s (Becomes n 0x003
         { c with state := .off, src := .lane, sw := false, probed := false, fw := 0, fault := c.fault.put 19 16 0 } s)) ∧
       (wire → exec (.chClear n) s = .next (refuseCh n 0 0x05 0x20000 s))) ∧
     (c.state ≠ .latched → exec (.chClear n) s = .next s) ∧
     (c.state = .off → exec (.chProbe n) s = .next (s.setChan n { c with probeReq := true })) ∧
     (c.state ≠ .off → exec (.chProbe n) s = .next s)) ∧
  (∀ (s : State) (n : Fin 176), tileAccepts s (n / 16) = true → leaderOf s n = n →
     let c := s.chan n
     let all (i : Instr) (P : Chan → Chan → Prop) : Prop := Completes i s fun t =>
       (∀ m ∈ members s n, P (s.chan m) (t.chan m)) ∧ (∀ m, m ∉ members s n → t.chan m = s.chan m) ∧
       t = { s with chans := t.chans, targets := t.targets, pwr := { s.pwr with held := t.pwr.held } }
     ((c.state = .on ∨ c.state = .safe ∨ c.state = .retry ∨ c.state = .cooling) →
       all (.chOff n) fun _ b => b.state = .off ∧ b.sw = false ∧ b.src = .lane ∧ b.probe = none) ∧
     (c.state = .latched → c.fault.field 19 16 ≠ 3 →
       all (.chClear n) fun a b =>
         b.state = .off ∧ b.sw = false ∧ b.src = .lane ∧ b.fw = 0 ∧ b.fault = a.fault.put 19 16 0) ∧
     (s.maintenance = false → (chReg s n 3).bit 17 = true → c.state = .off → c.probe = none → groupCool s n = true → c.probed = true →
       (chReg s n 3).bit 16 = false →
       all (.chOn n) fun _ b => b.state = .on ∧ b.sw = true ∧ b.src = .lane ∧ b.inrush = true ∧ b.used = 0))

/-- The probes of a closing end (R169, R173), outside a parallel group. The first-turn-on probe sets BACKFED and OPEN_LOAD from
the voltages before and in it, and leads to the freewheel probe where INDUCTIVE asks for it. A freewheel voltage below −2.0 V
latches FREEWHEEL_FAIL with FW = 2; from −2.0 V to −0.2 V FW is 1, above it 3, and the switch closes.
The timers of a channel outside a parallel group: OFF_TIME ends a RETRY with a closing that counts it (R159); the inrush
window closes (R167); a hold time expires into SAFE according to CH_SAFE.MODE, which asks for no ON in a maintenance start (R71), by a closing, an opening or with the switch as it
is, or by COOLING where the closing is held off (R163); LATCHED and SAFE stay. -/
def Obligations.ChannelProbesAndTimers : Prop :=
  (∀ (s : State) (n : Fin 176), Alone s n →
     (∀ vOff vProbe : Word, (s.chan n).probe = some (.firstTurnOn, .lane) → (chReg s n 3).bit 16 = true →
       Completes (.firstTurnOnProbeEnd n vOff vProbe) s fun t =>
         (t.chan n).probed = true ∧ (t.chan n).probe = some (.freewheel, .lane) ∧ (t.chan n).sw = (s.chan n).sw ∧
         (bfThreshold s n < vOff.s20 → (t.chan n).backfed = true) ∧
         (vOff.s20 < bfThreshold s n - 5000 → (t.chan n).backfed = false) ∧
         (t.chan n).openLoad = decide (40000 < vProbe.s20) ∧ ChannelOnly n s t) ∧
     (∀ vNeg : Word, (s.chan n).probe = some (.freewheel, .lane) → (s.chan n).hot = false →
       (vNeg.s20 < -20000 →
         Completes (.freewheelProbeEnd n vNeg) s fun t =>
           (t.chan n).state = .latched ∧ (t.chan n).sw = false ∧ (t.chan n).fw = 2 ∧
           (t.chan n).fault = ((s.chan n).fault.put 19 16 5).setBit 9 true ∧
           (t.chan n).probe = none ∧ Reported n 0x018 s t ∧ ChannelOnly n s t) ∧
       (-20000 ≤ vNeg.s20 →
         Completes (.freewheelProbeEnd n vNeg) s fun t =>
           (t.chan n).state = .on ∧ (t.chan n).sw = true ∧ (t.chan n).inrush = true ∧
           (t.chan n).fw = (if vNeg.s20 ≤ -2000 then 1 else 3) ∧ ChannelOnly n s t))) ∧
  (∀ (s : State) (n : Fin 176), Alone s n →
     let c := s.chan n
     let rr := chReg s n 6
     let set := (chReg s n 4).field 19 18
     let mode := if s.maintenance = true ∧ set = 1 then 0 else set
     (c.state = .retry →
       Completes (.retryOffTimeEnd n) s (Becomes n 0x004
         { c.closed c.src.closedState c.src c.winRetry with
           inrush := c.inrush, arcSpoilt := c.arcSpoilt, used := c.used + 1 } s)) ∧
     exec (.inrushWindowEnd n) s = .next (s.setChan n { c with inrush := false }) ∧
     ((s.tgt (n / 16)).watched = true →
       (c.state = .latched ∨ c.state = .safe → exec (.holdTimeExpiry n) s = .next s) ∧
       (c.state = .retry ∨ c.state = .cooling →
         (mode = 0 → Completes (.holdTimeExpiry n) s (Becomes n 0x006 (c.opened .safe .safe) s)) ∧
         (mode ≠ 0 → exec (.holdTimeExpiry n) s = .next (s.setChan n { c with src := .safe }))) ∧
       (c.state = .off ∨ c.state = .on ∨ c.state = .hold →
         (mode = 0 → Completes (.holdTimeExpiry n) s (Becomes n 0x006 (c.opened .safe .safe) s)) ∧
         (2 ≤ mode ∨ (mode = 1 ∧ c.sw = true) →
           Completes (.holdTimeExpiry n) s fun t =>
             (t.chan n).state = .safe ∧ (t.chan n).src = .safe ∧ (t.chan n).sw = c.sw ∧ (t.chan n).probe = none ∧
             Reported n 0x006 s t ∧ ChannelOnly n s t) ∧
         (mode = 1 → c.sw = false →
           (c.hot = false → (chReg s n 3).bit 16 = false →
             Completes (.holdTimeExpiry n) s (Becomes n 0x006 (c.closed .safe .safe rr) s)) ∧
           (c.hot = true → Completes (.holdTimeExpiry n) s (Becomes n 0x006 (c.coolsDown .safe rr) s))))))

/-- A claimed tile that hears no sign of life falls silent once: SILENT sets with its record, its channels in OFF and ON enter HOLD with
the switch as it stands, those in RETRY and COOLING go on with SRC = HOLD, and no other channel changes (R161). A silent tile
that holds changes since its previous report presents them: it keeps none of them and all its refusals, no channel and no other
target changes, and where the sequencer numbers, the state report is the next input, with the source of the tile, the header
and the words of the entries, at most four for a channel (R183, R184). -/
def Obligations.SilentTile : Prop :=
  ∀ (s : State) (t : Fin 11),
    ((s.tgt t).watched = true → (s.tgt t).silent = false → (s.tgt t).restoreWait = false →
      Completes (.tileSilent t) s fun u =>
        (u.tgt t).silent = true ∧
        (u.tgt t).recs = (s.tgt t).recs ++ [⟨0x04, 0x002, Word.ofN (tileAddr t 0), Word.ofN t, 0⟩] ∧
        (∀ k : Fin 16, (s.chan (16 * t + k)).state = .off ∨ (s.chan (16 * t + k)).state = .on →
          (u.chan (16 * t + k)).state = .hold ∧ (u.chan (16 * t + k)).src = .hold ∧
          (u.chan (16 * t + k)).sw = (s.chan (16 * t + k)).sw) ∧
        (∀ k : Fin 16, (s.chan (16 * t + k)).state = .retry ∨ (s.chan (16 * t + k)).state = .cooling →
          u.chan (16 * t + k) = { s.chan (16 * t + k) with src := .hold }) ∧
        (∀ m : Nat, m / 16 ≠ t → u.chan m = s.chan m)) ∧
    ((s.tgt t).silent = true → (s.tgt t).entries.any (reportedNow false) = true →
      Completes (.tileSilentReport ⟨t, by omega⟩) s fun u =>
        (u.tgt t).entries = ((s.tgt t).entries.filter fun e => !reportedNow false e) ∧
        (u.tgt t).refusals = (s.tgt t).refusals ∧ u.chans = s.chans ∧ (∀ k, k ≠ (t : Nat) → u.tgt k = s.tgt k) ∧
        (Numbering s → (∀ e ∈ (s.tgt t).entries, e.kind ≠ 4) →
          let es := packEntries (unitWords t s) ((s.tgt t).entries.filter (reportedNow false))
          Presented (1 + t) (Word.ofN es.length :: es.flatMap Entry.words)
            (.report t es (s.tgt t).recs (unitWords t s)) s u))
/-! ### Protection (R197 to R233) -/

/-- A short circuit and an overcurrent that reaches FILT open a closed switch (R167, R176, R201, R203, R219): into RETRY while
the inrush window is open and retries remain (and, for a short circuit, SC_RETRY is set), else into LATCHED with LATCH_CAUSE 1
or 2; the fault's sticky bit sets, and the change is reported with 010h or 011h. In a parallel group every member latches with the
one that a trip without a retry names, and no other channel changes. -/
def Obligations.TripsOpenTheSwitch : Prop :=
  (∀ (s : State) (n : Fin 176), Alone s n → (s.chan n).sw = true →
    let c := s.chan n
    let mayRetry := c.inrush = true ∧ c.used < c.winRetry.field 19 16
    let trip (i : Instr) (st : ChState) (code bit cause : Nat) : Prop := Completes i s (Becomes n code
      { c.opened st c.src with fault := (c.fault.setBit bit true).put 19 16 cause } s)
    (mayRetry → (chReg s n 10).bit 11 = true → trip (.shortCircuit n) .retry 0x010 15 0) ∧
    (¬mayRetry ∨ (chReg s n 10).bit 11 = false → trip (.shortCircuit n) .latched 0x010 15 1) ∧
    ((chReg s n 10).field 19 12 ≤ c.ocCount →
      (mayRetry → trip (.overcurrent n) .retry 0x011 14 0) ∧ (¬mayRetry → trip (.overcurrent n) .latched 0x011 14 2))) ∧
  (∀ (s : State) (n : Fin 176), n.val ∈ members s n → (s.chan n).sw = true →
    let l := s.chan (leaderOf s n)
    l.sw = true → l.inrush = false ∨ l.winRetry.field 19 16 ≤ l.used →
    Completes (.shortCircuit n) s fun t =>
      (∀ m ∈ members s n, (t.chan m).state = .latched ∧ (t.chan m).sw = false ∧ (t.chan m).fault.field 19 16 = 1) ∧
      (∀ m, m ∉ members s n → t.chan m = s.chan m))

/-- One current sample of a channel outside a parallel group (R198, R203, R204, R205): a valid sample is taken as it is, a
flagged one or one without FAB-ANA is replaced by the coarse sense and sets SENSE; the overcurrent count goes up by one at
ILIM_HI or in current limit with the switch closed and else returns to 0; and the sample enters the sum of the wire model. -/
def Obligations.CurrentSampleIsTaken : Prop :=
  ∀ (s : State) (n : Fin 176) (fine coarse : Word) (limited : Bool), Alone s n →
    Completes (.currentSample n fine coarse limited) s fun u =>
      let v := if isFlag fine || !s.sup.fabValid then coarse else fine
      (u.chan n).sample = fine ∧ (u.chan n).current = v ∧
      (u.chan n).fault = (if isFlag fine || !s.sup.fabValid then (s.chan n).fault.setBit 3 true else (s.chan n).fault) ∧
      (u.chan n).ocCount =
        (if (s.chan n).sw = true ∧
            (16 * (((chReg s n 9).field 15 0 : Nat) : Int) ≤ v.s20 ∨ (s.chan n).limited = true ∨ limited = true)
         then (s.chan n).ocCount + 1 else 0) ∧
      (u.chan n).sqSum = (s.chan n).sqSum + (if (s.chan n).sw = true then v.s20.natAbs * v.s20.natAbs else 0) ∧
      (u.chan n).sqCount = (s.chan n).sqCount + 1 ∧
      (u.chan n).state = (s.chan n).state ∧ (u.chan n).sw = (s.chan n).sw ∧ ChannelOnly n s u

/-- REVERSE sets after ten samples and clears after ten (R175). The wire model of a channel outside a parallel group takes one
step (R205) and starts new sums; a closed switch whose rise reaches the margin latches with LATCH_CAUSE 3 (R207), and else the
state and the switch stay. The rounding and the quotient that R205 leaves open are free values: this holds for each. -/
def Obligations.ReverseAndWireModel : Prop :=
  (∀ (s : State) (n : Fin 176), 10 ≤ (s.chan n).revRun →
    ((s.chan n).reverse = false →
      exec (.reverse n) s = .next (reportCh n 0x01F 0 (s.setChan n
        { s.chan n with reverse := true, revRun := 0, fault := (s.chan n).fault.setBit 5 true }))) ∧
    ((s.chan n).reverse = true →
      exec (.reverse n) s = .next (reportCh n 0x026 0 (s.setChan n { s.chan n with reverse := false, revRun := 0 })))) ∧
  (∀ (s : State) (n : Fin 176), Alone s n →
    let t1 := theta1Next (Config.wireRound s.free) (chReg s n 11) (chReg s n 13) (s.chan n).sqSum (s.chan n).sqCount
      (unitsPerAmp n) (s.chan n).theta1 (s.chan n).theta2
    let t2 := theta2Next (Config.wireRound (s.free + 1)) (chReg s n 12) (chReg s n 13) (chReg s n 14)
      (Config.wireQuotient (s.free + 2)) t1 (s.chan n).theta2
    Completes (.wireModelUpdate n) s fun u =>
      (u.chan n).theta1 = t1 ∧ (u.chan n).theta2 = t2 ∧ (u.chan n).sqSum = 0 ∧ (u.chan n).sqCount = 0 ∧
      ((s.chan n).sw = true → wireMargin s n ≤ (t1 : Int) →
        (u.chan n).state = .latched ∧ (u.chan n).sw = false ∧ (u.chan n).fault.field 19 16 = 3) ∧
      (((s.chan n).sw = false ∧ (s.chan n).cutNow s.clock = false) ∨ (t1 : Int) < wireMargin s n →
        (u.chan n).state = (s.chan n).state ∧ (u.chan n).sw = (s.chan n).sw) ∧
      (∀ m : Nat, m ≠ n → u.chan m = s.chan m))

/-- The thermal latches of a channel outside a parallel group (R159, R199, R210 to R213): a setting temperature-difference
latch, junction limit or sensor failure takes a channel with a closed switch to COOLING with its switch open, and one in RETRY to
COOLING with its OFF_TIME running on; the release of the last one closes a channel in its inrush window that has retries
left, waits where OFF_TIME still runs, and else latches COOLING_END. A difference of the case sensors marks TILE_ARC.CASE_DIFF
and is reported. -/
def Obligations.ThermalLatches : Prop :=
  (∀ (s : State) (n : Fin 176) (temp : Word), Alone s n →
    let c := s.chan n
    let cools (d : Chan) (w : Bool) : Chan := { d.opened .cooling d.src with waitOff := w, fault := d.fault.put 19 16 0 }
    let dt := { c with dt := true, fault := c.fault.setBit 11 true }
    let jn := { c with junction := true, fault := c.fault.setBit 10 true }
    let sf := { c with dt := true, sensorFail := true, fault := c.fault.setBit 11 true }
    (∀ w : Bool, (w = false ∧ c.sw = true) ∨ (w = true ∧ c.sw = false ∧ c.state = .retry ∧ c.cutNow s.clock = false) →
      (c.dt = false → Completes (.dt n temp) s (Becomes n 0x014 (cools dt w) s)) ∧
      (c.junction = false → Completes (.junction n temp) s (Becomes n 0x015 (cools jn w) s)) ∧
      Completes (.sensorFail n) s (Becomes n 0x024 (cools sf w) s)) ∧
    (c.state = .cooling → c.sensorFail = false →
      let closes := c.inrush = true ∧ c.used < c.winRetry.field 19 16
      let ends (i : Instr) (d : Chan) : Prop :=
        (closes → c.waitOff = false → Completes i s (Becomes n 0x016
          { d.closed d.src.closedState d.src d.winRetry with
            inrush := d.inrush, arcSpoilt := d.arcSpoilt, used := d.used + 1 } s)) ∧
        (closes → c.waitOff = true → exec i s = .next (s.setChan n d)) ∧
        (¬closes → Completes i s (Becomes n 0x017 { d.opened .latched d.src with fault := d.fault.put 19 16 6 } s))
      (c.dt = true → c.junction = false → ends (.dtRelease n temp) { c with dt := false }) ∧
      (c.junction = true → c.dt = false → ends (.junctionRelease n temp) { c with junction := false }))) ∧
  (∀ (s : State) (t : Fin 11) (diff : Word),
    exec (.caseDiff t diff) s = .next (reportCh (16 * t) 0x01B diff
      (s.setLive (tileAddr t 4) ((s.liveReg (tileAddr t 4)).setBit 17 true))))

/-- The arc windows of a tile end, and the next ones begin (R214, R215, R216). With one measured channel, outside a parallel group
and examined, on a tile that is awake, and a COINC above 1: a window that makes N of the last eight qualify latches the channel
where ACTION says so, and else is reported alone; one that leaves fewer enters the record. A COINC of 1 makes one qualifying window
a feed arc: TILE_ARC marks the half of the feed and no channel trips. A tile asleep detects no arc (R474). -/
def Obligations.ArcWindowsEnd : Prop :=
  ∀ (s : State) (t : Fin 11) (m : ArcMeasure),
    let n := 16 * (t : Nat) + m.k
    let ws := (arcQualifies s t m :: (s.chan n).arcWindows).take 8
    let half := feedHalf t m.k
    let coinc := (s.liveReg (tileAddr t 4)).field 16 12
    let v := arcRestart t s
    let c := v.chan n
    Alone s n → arcExamined s t m = true →
      ((∀ k : Fin 16, v.chan (16 * t + k) = { s.chan (16 * t + k) with
          arcSpoilt := (s.chan (16 * t + k)).inrush, switched := false }) ∧
        (∀ k : Nat, k / 16 ≠ t → v.chan k = s.chan k) ∧ v = { s with chans := v.chans }) ∧
      (2 ≤ coinc → tileAsleep s n = false →
        ((chReg s n 19).field 11 8 ≤ (ws.filter id).length → (chReg s n 19).field 19 18 = 2 →
          Completes (.arcWindowEnd t [m]) s (Becomes n 0x019
            { c.opened .latched c.src with arcWindows := [], fault := (c.fault.setBit 8 true).put 19 16 4 } v)) ∧
        ((chReg s n 19).field 11 8 ≤ (ws.filter id).length → (chReg s n 19).field 19 18 ≠ 2 →
          exec (.arcWindowEnd t [m]) s = .next (reportCh n 0x019 (Word.ofN m.ratio)
            (v.setChan n { c with arcWindows := [], fault := c.fault.setBit 8 true }))) ∧
        ((ws.filter id).length < (chReg s n 19).field 11 8 →
          exec (.arcWindowEnd t [m]) s = .next (v.setChan n { c with arcWindows := ws }))) ∧
      (tileAsleep s n = true → exec (.arcWindowEnd t [m]) s = .next v) ∧
      (coinc = 1 → tileAsleep s n = false → arcQualifies s t m = true →
        exec (.arcWindowEnd t [m]) s = .next (reportCh (16 * t + 8 * half) 0x01A 1
          (v.setLive (tileAddr t 4) ((s.liveReg (tileAddr t 4)).setBit (19 - half) true))))

/-- Evaluations of an output (R171, R174, R177, R474): a second sample above the back-feed threshold sets BACKFED on an open output,
and a closed or unsettled one, or the sleep of its tile, starts the counts again; the open-load probe of an OFF channel that is asked
for sets OPEN_LOAD above 4.0 V and clears it else; IMBALANCE of a group member follows the measurement.
What the lanes do for the protection (R180, R222): PAIR_IMBALANCE is recorded while both members of a redundant pair are
closed, and every 60 s each lane that is not OUT takes the lifetime counters into its journal and starts its power-fail image
afresh. -/
def Obligations.OutputAndPairEvaluations : Prop :=
  ((∀ (s : State) (n : Fin 176) (v : Word) (settled : Bool),
     ((s.chan n).sw = true ∨ settled = false ∨ tileAsleep s n = true →
       exec (.backfedEval n v settled) s = .next (s.setChan n { s.chan n with bfHigh := 0, bfLow := 0 })) ∧
     ((s.chan n).sw = false → settled = true → tileAsleep s n = false → (s.chan n).backfed = false → bfThreshold s n < v.s20 →
       (s.chan n).bfHigh = 1 →
       exec (.backfedEval n v settled) s = .next (reportCh n 0x01C v (s.setChan n
         { s.chan n with backfed := true, bfHigh := 0, bfLow := 0, fault := (s.chan n).fault.setBit 7 true }))) ∧
     ((s.chan n).sw = false → settled = true → tileAsleep s n = false → (s.chan n).backfed = true → v.s20 < bfThreshold s n - 5000 →
       1 ≤ (s.chan n).bfLow →
       exec (.backfedEval n v settled) s = .next (reportCh n 0x01D v (s.setChan n
         { s.chan n with backfed := false, bfHigh := 0, bfLow := 0 })))) ∧
   (∀ (s : State) (n : Fin 176) (v : Word), (s.chan n).state = .off → (s.chan n).backfed = false →
     tileAsleep s n = false → (chReg s (leaderOf s n) 8).bit 15 = true ∨ (s.chan n).probeReq = true →
     Completes (.openLoadProbe n v) s fun u =>
       (u.chan n).openLoad = decide (40000 < v.s20) ∧ (u.chan n).probeReq = false ∧
       (u.chan n).state = .off ∧ ChannelOnly n s u ∧
       ((u.chan n).openLoad ≠ (s.chan n).openLoad → Reported n (if 40000 < v.s20 then 0x01E else 0x025) s u)) ∧
   (∀ (s : State) (n : Fin 176) (outside : Bool), (chReg s n 7).field 19 18 = 1 → (s.chan n).imbalance ≠ outside →
     exec (.imbalance n outside) s = .next (reportCh n (if outside then 0x020 else 0x027) 0 (s.setChan n
       { s.chan n with
         imbalance := outside, fault := (s.chan n).fault.setBit 4 ((s.chan n).fault.bit 4 || outside) })))) ∧
  ((∀ (s : State) (n : Fin 176),
     let g := s.copyReg (chanAddr n 7)
     g.field 19 18 = 2 → (s.copyReg (chanAddr n 1)).bit 14 = true → (s.copyReg (chanAddr (g.field 17 10) 1)).bit 14 = true →
     exec (.pairImbalance n) s = .next { s with ply := { s.ply with recs := s.ply.recs ++
       [(⟨0x03, 0x022, Word.ofN (chanAddr n 1), s.copyReg (chanAddr n 1), Word.ofN (g.field 17 10)⟩, s.ply.at_)] } }) ∧
   (∀ s : State,
     Completes .lifetimeJournal s fun u =>
       (∀ l : Lane, (s.lane l).role ≠ .out → u.lane l = { s.lane l with
         lifeJournal := s.life, image := [], nvm := (s.lane l).nvm.programmed }) ∧
       (∀ l : Lane, (s.lane l).role = .out → u.lane l = s.lane l) ∧
       u = { s with white := u.white, black := u.black }))

/-! ### Measurement (R234 to R272) -/

/-- The fabric's sample block (R85, R243, R244): numbered at once, as an input of source 10h with 1,943 words, once for each frame,
with the frame count, which is its boundary in plies. Word 0 holds the mux phase, VALID and CAL_FAIL; words 1 to 3 spell the time
that the block begins, 21.2 µs before the boundary of its ply (which ply a late block is for is the model's choice, assumption log
61); and while the analogue rail is not settled every sample of a signal is the flag FF00h (R54). A block of a frame that was
presented before is no input.
The fabric's drift checks (R242). A bad reference sets MUX_FAULT and starts the count of good checks again; of three good
checks in a row the third clears it; each change leaves a record for the next block. The offset of a modulator moves by at most 4
units, once a second, while its channel has been open for 10 ms, and never beyond 1 % of full scale: a step beyond that, or a
stopped bitstream, sets MOD_FAULT once and leaves the offset. -/
def Obligations.SampleBlocksAndDriftChecks : Prop :=
  (∀ (s : State) (raw : List Word) (late : Bool),
     let b := blockBoundary s late
     let blk := makeBlock s raw late
     (Numbering s → s.fab.sentAt < b →
       Completes (.sampleBlock raw late) s fun u =>
         Presented 0x10 blk (.block s.fab.recs)
           { s with seq := { s.seq with counts := Sparse.set (fun _ => 0) s.seq.counts 0x10 ((b / 20000 - 1) % 2 ^ 20) } } u ∧
         (20000 ≤ b → Sparse.get (fun _ => 0) u.seq.counts 0x10 = b / 20000 % 2 ^ 20) ∧
         u = { s with seq := u.seq, fab := { s.fab with recs := [], sentAt := b } }) ∧
     (b ≤ s.fab.sentAt → exec (.sampleBlock raw late) s = .next s) ∧
     blk.length = 1943 ∧ (blk.getD 0 0).bit 16 = s.sup.fabValid ∧ (blk.getD 0 0).bit 15 = s.fab.calFail ∧
     (blk.getD 0 0).field 19 17 = b / 20000 % 5 ∧ ofWords ((blk.drop 1).take 3) = (b + 2 ^ 60 - 21200) % 2 ^ 60 ∧
     (s.sup.fabValid = false → ∀ w : Nat, 4 ≤ w → w < 1540 → blk.getD w 0 = 0x7FF00)) ∧
  ((∀ (s : State) (v : Fin 24),
     let m : Mux := Sparse.get (fun _ => ⟨false, 0⟩) s.fab.mux v
     let upd (m' : Mux) (recs : List RecDraft) : State := { s with fab := { s.fab with
       mux := Sparse.set (fun _ => ⟨false, 0⟩) s.fab.mux v m', recs := s.fab.recs ++ recs } }
     (m.fault = false →
       exec (.muxReferenceCheck v true) s = .next (upd ⟨false, 0⟩ []) ∧
       exec (.muxReferenceCheck v false) s = .next (upd ⟨true, 0⟩ [⟨0x05, 0x023, 0x8A000, Word.ofN v, 1⟩])) ∧
     (m.fault = true →
       exec (.muxReferenceCheck v false) s = .next (upd ⟨true, 0⟩ []) ∧
       (m.good < 2 → exec (.muxReferenceCheck v true) s = .next (upd ⟨true, m.good + 1⟩ [])) ∧
       (2 ≤ m.good → exec (.muxReferenceCheck v true) s =
         .next (upd ⟨false, 0⟩ [⟨0x05, 0x023, 0x8A000, Word.ofN v, 0⟩])))) ∧
   (∀ (s : State) (n : Fin 176) (step : Int),
     let open10ms := (s.chan n).sw = false ∧ pulsed s n = false ∧ ∀ t : Nat, (s.chan n).openedAt = some t → t + 1000000 ≤ s.clock
     let second := ∀ t : Nat, (s.fab.modLast.find? fun p => p.1 = (n : Nat)) = some ((n : Nat), t) → t + 100000000 ≤ s.clock
     let o := Sparse.get (fun _ => 0) s.fab.modOffset n + max (-4) (min 4 step)
     let last := ((n : Nat), s.clock) :: s.fab.modLast.filter fun p => p.1 ≠ (n : Nat)
     let faulty (f : Fabric) : Fabric := { f with
       modFaults := s.fab.modFaults ++ [(n : Nat)], recs := s.fab.recs ++ [⟨0x05, 0x024, 0x8A000, Word.ofN n, 0⟩] }
     (¬(open10ms ∧ second) → exec (.modOffsetTrack n step false) s = .next s) ∧
     (open10ms → second →
       (o.natAbs ≤ 5242 → exec (.modOffsetTrack n step false) s = .next { s with fab := { s.fab with
         modOffset := Sparse.set (fun _ => 0) s.fab.modOffset n o, modLast := last } }) ∧
       (5242 < o.natAbs → (n : Nat) ∉ s.fab.modFaults → exec (.modOffsetTrack n step false) s = .next { s with
         fab := faulty { s.fab with modLast := last } })) ∧
     ((n : Nat) ∉ s.fab.modFaults → exec (.modOffsetTrack n step true) s = .next { s with fab := faulty s.fab }) ∧
     ((n : Nat) ∈ s.fab.modFaults → exec (.modOffsetTrack n step true) s = .next s)))

/-- Writes of a master to the measurement registers, where no other write of the ply waits (R137, R235, R250, R251, R258, R259, R266,
R267, R272). One that the checks of the Board pass takes its grant; an accepted one waits for the next phase A and changes no
register before it; one that breaks its rule leaves the record WRITE_REFUSED and does not wait. One that the checks refuse changes no
register and does not wait: it is counted as refused, and its master has the result of R137. A limit may not be a sense flag, nor
leave HI not above LO with both enabled; ROC = 0 is refused with ROC_EN; a signature slot needs a channel, a mode and its
fields in range; a stream starts with a decimation of 1 to 250, a free ring and room in the write budget; RD moves to a
record boundary; TAIL does not pass HEAD. -/
def Obligations.MeasurementWrites : Prop :=
  ∀ (s : State) (m : Fin 32) (v : Word), s.measPend = [] →
    let passes (i : Instr) (a : Nat) (f : State → State) : Prop := MayWrite s m a →
      exec i s = .next (debugWrote m a (f (Granted s m a)))
    let waits (i : Instr) (a : Nat) (w : Word) : Prop := passes i a fun t => { t with measPend := [⟨m, a, w, false⟩] }
    let refused (i : Instr) (a : Nat) (w : Word) : Prop := passes i a (writeRefused m a w)
    let denied (i : Instr) (a : Nat) (w : Word) : Prop := MayNotWrite s m a →
      exec i s = .next (refuseMaster m true (refuseAccess m a true w s))
    (∀ i : Fin 856,
      let a := 0x8B000 + 4 * (i : Nat)
      let both := (s.copyReg (a + 3)).bit 19 = true ∧ (s.copyReg (a + 3)).bit 18 = true
      let write (k : Fin 4) (w : Word) : Instr := .comparatorConfigWrite m i k w
      (isFlag v = false → ¬both ∨ (s.copyReg (a + 1)).s20 < v.s20 → waits (write 0 v) a v) ∧
      (isFlag v = true ∨ (both ∧ v.s20 ≤ (s.copyReg (a + 1)).s20) → refused (write 0 v) a v) ∧
      (isFlag v = false → ¬both ∨ v.s20 < (s.copyReg a).s20 → waits (write 1 v) (a + 1) v) ∧
      (isFlag v = true ∨ (both ∧ (s.copyReg a).s20 ≤ v.s20) → refused (write 1 v) (a + 1) v) ∧
      ((s.copyReg (a + 3)).bit 17 = false ∨ v ≠ 0 → waits (write 2 v) (a + 2) v) ∧
      ((s.copyReg (a + 3)).bit 17 = true → refused (write 2 0) (a + 2) 0) ∧
      (v.bit 17 = false → v.field 16 14 ≠ 0 → v.field 13 10 ≠ 0 →
        v.bit 19 = false ∨ v.bit 18 = false ∨ (s.copyReg (a + 1)).s20 < (s.copyReg a).s20 → waits (write 3 v) (a + 3) v) ∧
      (∀ k : Fin 4, denied (write k v) (a + k) v)) ∧
    (∀ k : Fin 16,
      let n := v.field 17 10
      let a := 0x8CC00 + 16 * (k : Nat)
      (n < 176 → (s.copyReg (chanAddr n 7)).field 19 18 ≠ 1 →
        v.field 19 18 = 0 ∨ (v.field 19 18 ≠ 3 ∧ slotTaken s k n = false) → 1 ≤ v.field 9 5 → v.field 9 5 ≤ 16 →
        1 ≤ v.field 4 0 → v.field 4 0 ≤ 16 → passes (.signatureConfigWrite m k v) a fun t =>
          { t with measPend := [⟨m, a, v, decide (v.field 19 18 = 1)⟩] }) ∧
      (175 < n → refused (.signatureConfigWrite m k v) a v) ∧ denied (.signatureConfigWrite m k v) a v) ∧
    (∀ (x : Fin 16) (d : BitVec 8),
      let a := 0x8C800 + 16 * (x : Nat)
      let w : Word := Word.ofN (2 ^ 19 + d.toNat * 2 ^ 11)
      ((s.copyReg a).bit 19 = false → 1 ≤ d.toNat → d.toNat ≤ 250 → ringFree s x = true → streamsCost s x d.toNat ≤ 4096 →
        waits (.streamEnable m x d) a w) ∧
      ((s.copyReg a).bit 19 = true ∨ d = 0 ∨ 250 < d.toNat ∨ ringFree s x = false ∨ 4096 < streamsCost s x d.toNat →
        refused (.streamEnable m x d) a w) ∧
      denied (.streamEnable m x d) a w ∧
      ((v = s.copyReg (a + 4) ∨ ∃ r ∈ (s.stream x).held, Word.ofN r.off = v) → waits (.streamRdWrite m x v) (a + 5) v) ∧
      (v ≠ s.copyReg (a + 4) → (∀ r ∈ (s.stream x).held, Word.ofN r.off ≠ v) → refused (.streamRdWrite m x v) (a + 5) v) ∧
      denied (.streamRdWrite m x v) (a + 5) v) ∧
    (let unread (t : Nat) := (t + 1024 - (s.copyReg 0x8A003).toNat) % 1024
     (unread (v.field 9 0) ≤ unread (s.copyReg 0x8A002).toNat → waits (.evqTailWrite m v) 0x8A003 v) ∧
     (unread (s.copyReg 0x8A002).toNat < unread (v.field 9 0) → refused (.evqTailWrite m v) 0x8A003 v) ∧
     denied (.evqTailWrite m v) 0x8A003 v)

/-- The DMA engines (R137, R139, R140, R142, R261, R262): START by the master that last wrote all four descriptor registers begins a transfer,
and one of no words ends at once; DONE, ERR and MOVED stay until the next phase A. A START by another master, or while the engine is
busy (the model's choice, assumption log 46), is refused; ABORT holds a running transfer to the words moved and frees the engine's
locks. A transfer of one word in Board SRAM copies it, with a grant for its read and one for its write; where another master has
locked a target the word waits; a refused read ends the transfer with ERR and nothing moved; and the result waits for the next
phase A. -/
def Obligations.DmaTransfers : Prop :=
  ∀ (s : State) (m : Fin 32) (e : Fin 4),
    let n := (s.copyReg (0x8C900 + 8 * e + 3)).toNat
    let a := 0x8C900 + 8 * (e : Nat)
    let g := Granted s m a
    (MayWrite s m a →
      ((s.dma e).busy = false → dmaOwns s m e = true →
        exec (.dmaStart m e) s = .next (debugWrote m a (g.setDma e
          { s.dma e with
            busy := true, secure := masterSecure s m, limit := none, at_ := 0,
            ended := if n = 0 then some (true, false, 0) else none }))) ∧
      ((s.dma e).busy = true ∨ dmaOwns s m e = false →
        exec (.dmaStart m e) s = .next (debugWrote m a (writeRefused m a 0x80000 g))) ∧
      (∀ k : Nat,
        ((s.dma e).busy = true → (s.dma e).ended = none →
          exec (.dmaAbort m e k) s =
            .next (debugWrote m a (abandonLocks (0x18 + e) (g.setDma e { s.dma e with limit := some (min k n) })))) ∧
        ((s.dma e).busy = false → exec (.dmaAbort m e k) s = .next (debugWrote m a (abandonLocks (0x18 + e) g))))) ∧
    (MayNotWrite s m a →
      exec (.dmaStart m e) s = .next (refuseMaster m true (refuseAccess m a true 0x80000 s)) ∧
      ∀ k : Nat, exec (.dmaAbort m e k) s = .next (refuseMaster m true (refuseAccess m a true 0x40000 s))) ∧
    ((s.dma e).busy = true → (s.dma e).ended = none → (s.dma e).limit = none → (s.dma e).at_ = 0 →
      (let src := (s.copyReg (0x8C900 + 8 * e + 1)).toNat
       let dst := (s.copyReg (0x8C900 + 8 * e + 2)).toNat
       let mayMove := verdict s (0x18 + e) (s.dma e).secure src false .none = .ok
       (n = 1 → 0x20000 ≤ src → src < 0x60000 → 0x20000 ≤ dst → dst < 0x60000 → mayMove →
         verdict s (0x18 + e) (s.dma e).secure dst true .none = .ok →
         (waitsFor s (0x18 + e) src = false →
           Completes (.dmaComplete e) s fun u =>
             u = ({ s with white := u.white, black := u.black }.setSram dst (s.sramWord src)).setDma e
               { s.dma e with ended := some (true, false, 1) } ∧
             (∀ l : Lane, l ∈ computing s → u.lane l = LaneSt.countGrant 0 (arbIndex 0 (sramBank dst)) (0x18 + e) true
               (LaneSt.countGrant 0 (arbIndex 0 (sramBank src)) (0x18 + e) false (s.lane l))) ∧
             (∀ l : Lane, l ∉ computing s → u.lane l = s.lane l)) ∧
         (waitsFor s (0x18 + e) src = true →
           exec (.dmaComplete e) s = .next ((parkAccess (0x18 + e) src false 0 s).setDma e (s.dma e)))) ∧
       (1 ≤ n → ¬mayMove →
         exec (.dmaComplete e) s = .next ((refuseAccess (0x18 + e) src false 0 s).setDma e
           { s.dma e with ended := some (false, true, 0) }))))

/-! ### Field inputs and outputs (R273 to R298) -/

/-- Commands to the field outputs, at a unit that takes commands (R279, R280, R286, R293): ON closes the driver of an output
in OFF (or enters COOLING while thermal shutdown is set), which marks SUPPLY while the group's supply is missing (R298); it is refused with 01h while EN is 0 and with 02h in LATCHED; OFF opens
the driver; CLEAR leads LATCHED to OFF; a group command does the same for each output of its mask and for no other. In a maintenance
start no ON has an effect (R71). -/
def Obligations.FieldOutputCommands : Prop :=
  ∀ s : State, fioAccepts s = true →
    (∀ o : Fin 48,
      let ok := (s.liveReg (grpAddr (o / 8))).bit 19
      (s.maintenance = true → exec (.doOn o) s = .next s) ∧
      (s.maintenance = false → (s.liveReg (doAddr o 2)).bit 19 = false →
        exec (.doOn o) s = .next (refuseFio o 0 0x01 (doAddr o 0) 0x80000 s)) ∧
      (s.maintenance = false → (s.liveReg (doAddr o 2)).bit 19 = true →
        ((s.dout o).state = .latched → exec (.doOn o) s = .next (refuseFio o 0 0x02 (doAddr o 0) 0x80000 s)) ∧
        ((s.dout o).state = .off → (s.dout o).thermal = false → exec (.doOn o) s =
          .next (reportDo o 0x001 (s.modDout o fun d => { d with
            state := .on, want := true, bfHigh := 0, bfLow := 0, opened := none,
            fault := d.fault.setBit 10 (d.fault.bit 10 || !ok) }))) ∧
        ((s.dout o).state = .off → (s.dout o).thermal = true → exec (.doOn o) s =
          .next (reportDo o 0x001 (s.modDout o fun d =>
            { d with state := .cooling, want := false, cools := (s.clock :: d.cools).take 8, bfHigh := 0, bfLow := 0 }))) ∧
        ((s.dout o).state = .on ∨ (s.dout o).state = .cooling → exec (.doOn o) s = .next s)) ∧
      ((s.dout o).state = .on ∨ (s.dout o).state = .safe ∨ (s.dout o).state = .cooling → exec (.doOff o) s =
        .next (reportDo o 0x002 (s.modDout o fun d =>
          { d with
            state := .off, want := false, bfHigh := 0, bfLow := 0,
            opened := if d.want then some s.clock else d.opened }))) ∧
      ((s.dout o).state = .latched → exec (.doClear o) s =
        .next (reportDo o 0x003 (s.modDout o fun d =>
          { d with
            state := .off, want := false, bfHigh := 0, bfLow := 0, opened := none, fault := d.fault.put 19 16 0 }))) ∧
      ((s.dout o).state ≠ .latched → exec (.doClear o) s = .next s)) ∧
    (∀ (g : Fin 6) (mask : BitVec 8),
      (Completes (.grpOn g mask) s fun u =>
        (s.maintenance = true → u = s) ∧
        (s.maintenance = false → ∀ k : Fin 8, mask.getLsbD k = true → (s.liveReg (doAddr (8 * g + k) 2)).bit 19 = true →
          (s.dout (8 * g + k)).state = .off → (s.dout (8 * g + k)).thermal = false →
          (u.dout (8 * g + k)).state = .on ∧ (u.dout (8 * g + k)).want = true) ∧
        (∀ o : Nat, (∀ k : Fin 8, mask.getLsbD k = true → o ≠ 8 * g + k) → u.dout o = s.dout o) ∧
        u = { s with douts := u.douts, targets := u.targets, free := u.free }) ∧
      (Completes (.grpOff g mask) s fun u =>
        (∀ k : Fin 8, mask.getLsbD k = true →
          (s.dout (8 * g + k)).state = .on ∨ (s.dout (8 * g + k)).state = .safe ∨ (s.dout (8 * g + k)).state = .cooling →
          (u.dout (8 * g + k)).state = .off ∧ (u.dout (8 * g + k)).want = false) ∧
        (∀ o : Nat, (∀ k : Fin 8, mask.getLsbD k = true → o ≠ 8 * g + k) → u.dout o = s.dout o) ∧
        u = { s with douts := u.douts, targets := u.targets, free := u.free }))

/-- Protection of the field outputs (R279, R280, R298): LIM_MS in current limit latches LIMIT, and with an OFF of the same cycle
leaves the output OFF with LIMIT recorded; thermal shutdown takes an output in
ON, HOLD or SAFE to COOLING with its driver open, and its release closes the driver again in ON where TH_AUTO is set and fewer than eight entries into COOLING
fall within the last 10 s, and else latches THERMAL or COOL_REPEAT. -/
def Obligations.FieldOutputProtection : Prop :=
  ∀ (s : State) (o : Fin 48),
    ((s.dout o).state = .on → (s.dout o).want = true → (s.liveReg (grpAddr (o / 8))).bit 19 = true →
      exec (.limit o) s = .next (reportDo o 0x010 (s.modDout o fun d =>
        { d with
          state := .latched, want := false, bfHigh := 0, bfLow := 0, opened := some s.clock,
          fault := (d.fault.setBit 15 true).put 19 16 1 }))) ∧
    ((s.dout o).state = .off → (s.dout o).opened = some s.clock →
      exec (.limit o) s = .next (reportDo o 0x010 (s.modDout o fun d => { d with fault := d.fault.setBit 15 true }))) ∧
    ((s.dout o).state = .on ∨ (s.dout o).state = .hold ∨ (s.dout o).state = .safe → Completes (.thermal o) s fun u =>
      u.dout o = { s.dout o with
        state := .cooling, want := false, thermal := true, cools := (s.clock :: (s.dout o).cools).take 8, bfHigh := 0,
        bfLow := 0, lim := (u.dout o).lim, fault := (s.dout o).fault.setBit 14 true } ∧
      (∀ p : Nat, p ≠ o → u.dout p = s.dout p) ∧ u = { s with douts := u.douts, targets := u.targets, free := u.free }) ∧
    ((s.dout o).state ≠ .cooling →
      exec (.doThermalRelease o) s = .next (s.modDout o fun d => { d with thermal := false })) ∧
    ((s.dout o).state = .cooling → Completes (.doThermalRelease o) s fun u =>
      (u.dout o).thermal = false ∧
      ((s.liveReg (doAddr o 2)).bit 15 = false →
        (u.dout o).state = .latched ∧ (u.dout o).want = false ∧
        (u.dout o).fault = (s.dout o).fault.put 19 16 2) ∧
      ((s.liveReg (doAddr o 2)).bit 15 = true → 8 ≤ recentCools s (s.dout o) →
        (u.dout o).state = .latched ∧ (u.dout o).want = false ∧ (u.dout o).fault = (s.dout o).fault.put 19 16 3) ∧
      ((s.liveReg (doAddr o 2)).bit 15 = true → recentCools s (s.dout o) < 8 → (s.tgt fioT).silent = false →
        (s.tgt fioT).timedOut = false →
        (u.dout o).state = .on ∧ (u.dout o).want = true ∧
        (u.dout o).fault = (s.dout o).fault.setBit 10 ((s.dout o).fault.bit 10 || !(s.liveReg (grpAddr (o / 8))).bit 19)) ∧
      (∀ p : Nat, p ≠ o → u.dout p = s.dout p) ∧ u = { s with douts := u.douts, targets := u.targets, free := u.free })

/-- The supply of a field group (R281, R290): a missing VFLD clears OK, sets LOW and both sticky bits, counts, and marks SUPPLY in
the fault register of every output with a wanted driver, none of which changes state; a low one sets LOW; a return sets OK, and
no output of any group changes. LIMIT of an output is a free value (assumption log 35). Each adds to the reports of the unit a supply entry with the status of the group after the
change, as the last one, and changes no other target. -/
def Obligations.FieldSupply : Prop :=
  ∀ (s : State) (g : Fin 6),
    let a := grpAddr g
    let w := s.liveReg a
    let told (code : Nat) (v : Word) (u : State) : Prop :=
      (∃ es : List Entry, ∃ e : Entry, (u.tgt fioT).entries = es ++ [e] ∧ e.kind = 4 ∧ e.obj = g ∧
        e.words = [Word.ofN (g * 2 ^ 17), v] ∧ e.copy = [(a, v)] ∧ e.recs = [⟨0x06, code, Word.ofN a, Word.ofN g, v⟩]) ∧
      (u.tgt fioT) = { s.tgt fioT with entries := (u.tgt fioT).entries } ∧ ∀ k : Nat, k ≠ fioT → u.tgt k = s.tgt k
    (let v := ((((w.setBit 19 false).setBit 18 true).setBit 17 true).setBit 16 true).put 15 8 (min (w.field 15 8 + 1) 0xFF)
     Completes (.vfldMissing g) s fun u =>
      u.liveReg a = v ∧
      (∀ k : Fin 8, (s.dout (8 * g + k)).want = true →
        u.dout (8 * g + k) = { s.dout (8 * g + k) with
          fault := (s.dout (8 * g + k)).fault.setBit 10 true, lim := (u.dout (8 * g + k)).lim }) ∧
      (∀ k : Fin 8, (s.dout (8 * g + k)).want = false → u.dout (8 * g + k) = s.dout (8 * g + k)) ∧
      (∀ o : Nat, o / 8 ≠ g → u.dout o = s.dout o) ∧ told 0x020 v u ∧
      u = { s with live := (s.setLive a v).live, douts := u.douts, targets := u.targets, free := u.free }) ∧
    (let v := (w.setBit 18 true).setBit 16 true
     Completes (.vfldLow g) s fun u =>
      u.liveReg a = v ∧ told 0x021 v u ∧ u = { s with live := (s.setLive a v).live, targets := u.targets }) ∧
    (∀ low : Bool,
      let v := ((w.setBit 19 true).setBit 18 low).setBit 16 (w.bit 16 || low)
      Completes (.vfldOk g low) s fun u =>
        u.liveReg a = v ∧ (∀ o : Nat, u.dout o = { s.dout o with lim := (u.dout o).lim }) ∧ told 0x022 v u ∧
        (w.bit 19 = true → u.douts = s.douts) ∧
        u = { s with live := (s.setLive a v).live, douts := u.douts, targets := u.targets, free := u.free })

/-- The silent field I/O unit (R282 to R284): a claimed unit that falls silent puts the outputs in OFF and ON into HOLD with the
driver as it stands, and once its logic-silence timeout expires each output in OFF, ON or HOLD takes its safe state: open,
closed or as it is, by SAFE, and open for closed in a maintenance start (R71). -/
def Obligations.FieldUnitSilence : Prop :=
  ∀ s : State, (s.tgt fioT).watched = true →
    ((s.tgt fioT).silent = false → Completes .fioUnitSilent s fun u =>
      (u.tgt fioT).silent = true ∧
      (∀ o : Fin 48, (s.dout o).state = .off ∨ (s.dout o).state = .on → u.dout o = { s.dout o with state := .hold, lim := (u.dout o).lim }) ∧
      (∀ o : Fin 48, (s.dout o).state ≠ .off → (s.dout o).state ≠ .on → u.dout o = s.dout o) ∧
      u = { s with douts := u.douts, targets := u.targets, free := u.free }) ∧
    ((s.tgt fioT).silent = true → (s.tgt fioT).timedOut = false → Completes .fioTimedOut s fun u =>
      (u.tgt fioT).timedOut = true ∧
      (∀ o : Fin 48,
        let set := (s.liveReg (doAddr o 2)).field 17 16
        let mode := if s.maintenance = true ∧ set = 1 then 0 else set
        ((s.dout o).state = .off ∨ (s.dout o).state = .on ∨ (s.dout o).state = .hold →
          (mode = 0 → (u.dout o).state = .safe ∧ (u.dout o).want = false) ∧
          (mode = 1 → (u.dout o).state = .safe ∧ (u.dout o).want = true) ∧
          (2 ≤ mode → u.dout o = { s.dout o with state := .safe, lim := (u.dout o).lim })) ∧
        ((s.dout o).state = .latched ∨ (s.dout o).state = .safe → u.dout o = s.dout o)) ∧
      u = { s with douts := u.douts, targets := u.targets, free := u.free })

/-- Field inputs and the back-feed of field outputs (R276, R277, R285, R287): a write of FIO_DI_CFG makes the level of its input
unknown, and takes effect only where ON_THR exceeds OFF_THR by 1.0 V or more, ON_THR is at most 30.0 V and FILT is not 0; a
second comparison above the threshold sets BACKFED on an open output, a second one below clears it, and a closed or unsettled
one starts the counts again. -/
def Obligations.FieldInputAndBackfeed : Prop :=
  (∀ (s : State) (d : Fin 128) (v : Word),
    (v.field 12 7 + 2 ≤ v.field 18 13 → v.field 18 13 ≤ 60 → 1 ≤ v.field 6 0 → Completes (.diCfgWrite d v) s fun u =>
      u.liveReg (0x84100 + d) = v ∧ u.copyReg (0x84100 + d) = v ∧ u.din d = Din.reset ∧ diBit u 0x84020 d = false ∧
      diBit u 0x84040 d = false ∧ u = { s with live := u.live, copy := u.copy, dins := u.dins }) ∧
    (v.field 18 13 < v.field 12 7 + 2 ∨ 60 < v.field 18 13 ∨ v.field 6 0 = 0 → Completes (.diCfgWrite d v) s fun u =>
      u.copyReg (0x84100 + d) = s.copyReg (0x84100 + d) ∧ u.din d = Din.reset ∧
      u = { s with copy := u.copy, dins := u.dins, targets := u.targets })) ∧
  (∀ (s : State) (o : Fin 48) (above below settled : Bool),
    ((((s.dout o).want = true ∧ (s.liveReg (grpAddr (o / 8))).bit 19 = true) ∨ settled = false) →
      exec (.fioBackfedEval o above below settled) s = .next (s.modDout o fun d => { d with bfHigh := 0, bfLow := 0 })) ∧
    ((s.dout o).want = false → (s.dout o).backfed = false → 1 ≤ (s.dout o).bfHigh →
      exec (.fioBackfedEval o true below true) s = .next (reportDo o 0x013 (s.modDout o fun d =>
        { d with backfed := true, bfHigh := 0, bfLow := 0, fault := d.fault.setBit 13 true }))) ∧
    ((s.dout o).want = false → (s.dout o).backfed = true → 1 ≤ (s.dout o).bfLow →
      exec (.fioBackfedEval o above true true) s = .next (reportDo o 0x014 (s.modDout o fun d =>
        { d with backfed := false, bfHigh := 0, bfLow := 0 }))))

/-! ### Lighting (R299 to R327) -/

/-- Commands to an LED string, at a unit that takes commands (R302, R304, R306, R308 to R310, R319, R324): ON lights a string in OFF
from present values 0 with a step to its targets, marking FEED while its feed is missing, or enters COOLING while thermal shutdown is
set, and is refused with 01h while EN is 0 and with 02h in LATCHED; OFF makes it dark, cancels its fade and sets every present value to
0; CLEAR leads LATCHED to OFF; GO starts a fade from the present values; a configuration is refused with 05h where a locked field would
change outside OFF and LATCHED; an accepted one clears the open-LED bits, and the shorted-LED bits and counts of the positions that are
now absent (R303). In a maintenance start no ON has an effect (R71). -/
def Obligations.StringCommands : Prop :=
  ∀ (s : State) (x : Fin 8), lgtAccepts s = true →
    let cfg := s.liveReg (strAddr x 2)
    let fed := if (x : Nat) < 4 then s.sup.vpwrA.ok else s.sup.vpwrB.ok
    let targets := (s.liveReg (strAddr x 4)).field 15 0 :: (List.range 16).map fun k => (s.liveReg (strAddr x (0x10 + k))).field 7 0
    let curve := (s.liveReg (strAddr x 5)).bit 19
    let dark (d : Str) : Str := { d with
      run := false, lit := false, fade := none, safePend := false, vals := List.replicate 17 0,
      fault := d.fault.setBit 9 false, stopped := if d.run then some s.clock else d.stopped }
    (s.maintenance = true → exec (.strOn x) s = .next s) ∧
    (s.maintenance = false → cfg.bit 19 = false → exec (.strOn x) s = .next (refuseLgt x 0 0x01 (strAddr x 0) 0x80000 s)) ∧
    (s.maintenance = false → cfg.bit 19 = true → (s.str x).state = .latched →
      exec (.strOn x) s = .next (refuseLgt x 0 0x02 (strAddr x 0) 0x80000 s)) ∧
    (s.maintenance = false → cfg.bit 19 = true → (s.str x).state = .off →
      ((s.str x).thermal = false → exec (.strOn x) s = .next (reportStr x 0x001 (s.modStr x fun d =>
        { d with
          state := .on, run := true, stopped := none, safePend := false, vals := List.replicate 17 0,
          fault := d.fault.setBit 10 (d.fault.bit 10 || !fed),
          fade := some ⟨List.replicate 17 0, targets, 0, 0, curve⟩ }))) ∧
      ((s.str x).thermal = true → (s.str x).run = false → exec (.strOn x) s = .next (reportStr x 0x001 (s.modStr x fun d =>
        { dark d with
          state := .cooling, cools := (s.clock :: d.cools).take 8,
          fade := some ⟨List.replicate 17 0, targets, 0, 0, curve⟩ })))) ∧
    ((s.str x).state = .on ∨ (s.str x).state = .safe ∨ (s.str x).state = .cooling →
      exec (.strOff x) s = .next (reportStr x 0x002 (s.modStr x fun d => { dark d with state := .off })) ∧
      exec (.go x) s = .next (s.modStr x fun d => { d with fade := some ⟨d.vals, targets,
        ((s.liveReg (strAddr x 5)).field 9 0 * 400000 + pwmPeriod cfg - 1) / pwmPeriod cfg, 0, curve⟩ })) ∧
    ((s.str x).state = .latched →
      exec (.strClear x) s = .next (reportStr x 0x003 (s.modStr x fun d =>
        { dark d with state := .off, fault := (d.fault.setBit 9 false).put 19 16 0, openLeds := 0, stopped := none })) ∧
      ((s.str x).stopped ≠ some s.clock → exec (.strOff x) s = .next (s.modStr x dark)) ∧
      ((s.str x).stopped = some s.clock → exec (.strOff x) s = .next (reportStr x 0x002 (s.modStr x fun d =>
        { dark d with state := .off, fault := (d.fault.setBit 9 false).put 19 16 0 }))) ∧
      exec (.go x) s = .next s) ∧
    (∀ v : Word,
      (v.field 19 2 ≠ cfg.field 19 2 → (s.str x).state ≠ .off → (s.str x).state ≠ .latched →
        exec (.strCfgWrite x v) s = .next (refuseLgt x 2 0x05 (strAddr x 2) v s)) ∧
      ((s.str x).state = .off ∨ (s.str x).state = .latched → 1 ≤ v.field 17 13 → v.field 17 13 ≤ 16 → v.field 12 9 ≤ 8 →
        v.field 8 6 ≤ 5 → 2 ^ (v.field 12 9 + 8) ≤ pwmPeriod v → v.bit 18 = true →
        exec (.strCfgWrite x v) s = .next ((s.setLive (strAddr x 2) (regWrite (strAddr x 2) cfg v)).modStr x
          fun d => { d with
            openLeds := 0, shortedLeds := d.shortedLeds &&& BitVec.ofNat 16 (2 ^ v.field 17 13 - 1),
            shortRuns := d.shortRuns.filter fun p => p.1 < v.field 17 13 })))

/-- A PWM period of a string (R299, R302 to R306, R310, R324). At its start the written settings take effect, a fade advances
(linearly, truncated towards its start; at its end the values are the targets), the switches of absent, dark and open LEDs
close (until a lane claims the unit all stay open, R45), and the on-time is DUTY of the period where the string lights. In it, the next LED whose share of the on-time is over is
bypassed, 80 ticks after the one before at the earliest; at its end the string is dark until the next period.
Protection of a running string (R305, R309 to R311): a short and an open string latch with causes 1 and 2 and make it dark, and with
an OFF of the same cycle leave it OFF and are recorded; an open LED is bypassed where BYP_OPEN is set, and ends the on-time where
none is left lit, and latches the string else; an LED whose voltage stays on the other side of the
shorted threshold for a third period changes its bit; thermal shutdown enters COOLING, and its release lights the string again
unless eight entries fall within 10 s. -/
def Obligations.StringPeriodsAndProtection : Prop :=
  (∀ (s : State) (x : Fin 8),
     (let cfg := s.liveReg (strAddr x 2)
      let full := 2 ^ (cfg.field 12 9 + 8) - 1
      let fed := if (x : Nat) < 4 then s.sup.vpwrA.ok else s.sup.vpwrB.ok
      (s.str x).safePend = false →
      Completes (.pwmPeriodStart x) s fun u =>
       let d := u.str x
       (d.cfg = cfg ∧ d.cur = s.liveReg (strAddr x 3) ∧ d.lastClose = none) ∧
       ((s.str x).fade = none → d.vals = (s.str x).vals ∧ d.fade = none) ∧
       (∀ f, (s.str x).fade = some f → f.n ≤ f.p + 1 → f.startV.length = 17 → f.endV.length = 17 →
         d.vals = f.endV ∧ d.fade = none) ∧
       (∀ f, (s.str x).fade = some f → f.p + 1 < f.n → f.curve = false → f.startV.length = 17 → f.endV.length = 17 →
         d.fade = some { f with p := f.p + 1 } ∧
         ∀ i : Fin 17, d.vals.getD i 0 =
           ((f.startV.getD i 0 : Int) + Int.tdiv (((f.endV.getD i 0 : Int) - f.startV.getD i 0) * (f.p + 1 : Nat)) f.n).toNat) ∧
       ((s.tgt lgtT).claimed = none → d.bypass = 0) ∧
       ((s.tgt lgtT).claimed ≠ none → ∀ k : Fin 16, d.bypass.getLsbD k = true ↔
         (cfg.field 17 13 ≤ k ∨ d.vals.getD (k + 1) 0 = 0 ∨ (s.str x).openLeds.getLsbD k = true)) ∧
       (d.ton = if (s.str x).run = true ∧ fed = true ∧ d.bypass ≠ 0xFFFF then d.vals.getD 0 0 * pwmPeriod cfg / full else 0) ∧
       (d.lit = decide (0 < d.ton)) ∧ d.state = (s.str x).state ∧ d.run = (s.str x).run ∧
       (∀ y : Nat, y ≠ x → u.str y = s.str y) ∧ u = { s with strs := u.strs, targets := u.targets }) ∧
     (∀ k : Fin 16,
       let d := s.str x
       let due (j : Nat) : Nat := d.vals.getD (j + 1) 0 * d.ton / 255
       let t := match d.lastClose with | some c => max (due k) (c + 80) | none => due k
       d.lit = true → d.bypass.getLsbD k = false → t < d.ton →
         (∀ j : Fin 16, d.bypass.getLsbD j = false → j ≠ k → due k < due j ∨ (due k = due j ∧ k < j)) →
         Completes (.bypassClose x k) s fun u =>
           (u.str x).bypass = d.bypass ||| BitVec.ofNat 16 (2 ^ (k : Nat)) ∧ (u.str x).lastClose = some t ∧
           ((u.str x).bypass ≠ 0xFFFF → (u.str x).lit = true ∧ (u.str x).ton = d.ton) ∧
           ((u.str x).bypass = 0xFFFF → (u.str x).lit = false ∧ (u.str x).ton = t) ∧
           (∀ y : Nat, y ≠ x → u.str y = s.str y) ∧ u = { s with strs := u.strs }) ∧
     (∀ regulated under : Bool,
       Completes (.onTimeEnd x regulated under) s fun u =>
         u.str x = { s.str x with lit := false, reg := regulated, fault := (s.str x).fault.setBit 9 under } ∧
         (∀ y : Nat, y ≠ x → u.str y = s.str y) ∧ u = { s with strs := u.strs, targets := u.targets })) ∧
  (∀ (s : State) (x : Fin 8),
     let fed := if (x : Nat) < 4 then s.sup.vpwrA.ok else s.sup.vpwrB.ok
     let stop (bit : Nat) (d : Str) : Str := { d with
       run := false, lit := false, stopped := if d.run then some s.clock else d.stopped,
       fault := (d.fault.setBit 9 false).setBit bit true }
     let latch (cause bit : Nat) (d : Str) : Str := { stop bit d with state := .latched, fault := (stop bit d).fault.put 19 16 cause }
     ((s.str x).state = .on → (s.str x).run = true →
       exec (.short x) s = .next (reportStr x 0x010 (s.modStr x (latch 1 15))) ∧
       exec (.openString x) s = .next (reportStr x 0x011 (s.modStr x (latch 2 14))) ∧
       (∀ (k : Fin 16) (tick : Nat), absentLed s x k = false →
         let b := (s.str x).bypass ||| BitVec.ofNat 16 (2 ^ (k : Nat))
         let t := min tick (s.str x).ton
         ((s.str x).cfg.bit 2 = true → exec (.openLed x ⟨k, tick⟩) s = .next (reportLed x k 0x012 (s.modStr x fun d =>
           { d with
             openLeds := d.openLeds ||| BitVec.ofNat 16 (2 ^ (k : Nat)), bypass := b, fault := d.fault.setBit 13 true,
             lastClose := if d.lit then some t else d.lastClose, lit := d.lit && decide (b ≠ 0xFFFF),
             ton := if d.lit = true ∧ b = 0xFFFF then t else d.ton }))) ∧
         ((s.str x).cfg.bit 2 = false → exec (.openLed x ⟨k, tick⟩) s = .next (reportStr x 0x012 (s.modStr x (latch 3 13)))))) ∧
     ((s.str x).state = .off → (s.str x).stopped = some s.clock →
       exec (.short x) s = .next (reportStr x 0x010 (s.modStr x fun d => { d with fault := d.fault.setBit 15 true })) ∧
       exec (.openString x) s = .next (reportStr x 0x011 (s.modStr x fun d => { d with fault := d.fault.setBit 14 true }))) ∧
     ((s.str x).state = .on ∨ (s.str x).state = .hold ∨ (s.str x).state = .safe → Completes (.strThermalSet x) s fun u =>
       u.str x = { stop 11 (s.str x) with state := .cooling, thermal := true, cools := (s.clock :: (s.str x).cools).take 8 } ∧
       (∀ y : Nat, y ≠ x → u.str y = s.str y) ∧ u = { s with strs := u.strs, targets := u.targets }) ∧
     ((s.str x).state = .cooling → Completes (.strThermalRelease x) s fun u =>
       (8 ≤ recentTimes s.clock (s.str x).cools → u.str x = { s.str x with
         state := .latched, thermal := false, fault := (s.str x).fault.put 19 16 4 }) ∧
       (recentTimes s.clock (s.str x).cools < 8 → (s.tgt lgtT).silent = false → (s.tgt lgtT).timedOut = false →
         u.str x = { s.str x with
           state := .on, run := true, stopped := none, thermal := false, wasOn := true,
           fault := (s.str x).fault.setBit 10 ((s.str x).fault.bit 10 || !fed) }) ∧
       (∀ y : Nat, y ≠ x → u.str y = s.str y) ∧ u = { s with strs := u.strs, targets := u.targets }) ∧
     (∀ k : Fin 16, absentLed s x k = false →
       let run := Sparse.get (fun _ => 0) (s.str x).shortRuns k
       ((s.str x).shortedLeds.getLsbD k = false → 2 ≤ run → exec (.shortLed x k true) s =
         .next (reportLed x k 0x013 (s.modStr x fun d =>
           { d with
             shortRuns := Sparse.set (fun _ => 0) d.shortRuns k 0,
             shortedLeds := d.shortedLeds ||| BitVec.ofNat 16 (2 ^ (k : Nat)), fault := d.fault.setBit 12 true }))) ∧
       ((s.str x).shortedLeds.getLsbD k = true → 2 ≤ run → exec (.shortLed x k false) s =
         .next (reportLed x k 0x014 (s.modStr x fun d =>
           { d with
             shortRuns := Sparse.set (fun _ => 0) d.shortRuns k 0,
             shortedLeds := d.shortedLeds &&& BitVec.ofNat 16 (0xFFFF - 2 ^ (k : Nat)) }))) ∧
       ((s.str x).shortedLeds.getLsbD k = false → run < 2 → exec (.shortLed x k true) s =
         .next (s.modStr x fun d => { d with shortRuns := Sparse.set (fun _ => 0) d.shortRuns k (run + 1) }))))

/-- Commands to a signalling matrix, at a unit that takes commands (R308, R309, R315): ON, OFF, CLEAR and GO as for a string,
and SWAP asks for the exchange at the next frame start. In a maintenance start no ON has an effect (R71).
A matrix runs (R309, R313 to R316): a frame start takes the configuration, begins with line 0 and makes a pending exchange;
a line slot drives the next line and each column sinks for its pixel's share of the master level, in the resolution and step of
the configuration; LINE_SHORT latches; the third low frame marks COL_SHORT and the matrix goes on; thermal shutdown enters
COOLING and its release lights it again unless eight entries fall within 10 s. -/
def Obligations.Matrices : Prop :=
  (∀ (s : State) (m : Fin 2), lgtAccepts s = true →
     let master := (s.liveReg (mxAddr m 3)).field 11 0
     let curve := (s.liveReg (mxAddr m 4)).bit 19
     let cfg := s.liveReg (mxAddr m 2)
     (s.maintenance = true → exec (.mxOn m) s = .next s) ∧
     (s.maintenance = false → cfg.bit 19 = false → exec (.mxOn m) s = .next (refuseLgt (8 + m) 0 0x01 (mxAddr m 0) 0x80000 s)) ∧
     (s.maintenance = false → cfg.bit 19 = true → (s.mx m).state = .off → (s.mx m).thermal = false →
       exec (.mxOn m) s = .next (reportMx m 0x001 0 (s.modMx m fun d =>
         { d with state := .on, run := true, stopped := none, master := 0, fade := some ⟨[0], [master], 0, 0, curve⟩ }))) ∧
     ((s.mx m).state = .on ∨ (s.mx m).state = .safe ∨ (s.mx m).state = .cooling →
       exec (.mxOff m) s = .next (reportMx m 0x002 0 (s.modMx m fun d =>
         { d with
           state := .off, run := false, stopped := if d.run then some s.clock else d.stopped, fade := none, master := 0 })) ∧
       exec (.mxGo m) s = .next (s.modMx m fun d => { d with fade := some ⟨[d.master], [master],
         fadeLength ((s.liveReg (mxAddr m 4)).field 9 0) (24 * mxSlot cfg), 0, curve⟩ })) ∧
     ((s.mx m).state = .latched →
       (s.maintenance = false → cfg.bit 19 = true → exec (.mxOn m) s = .next (refuseLgt (8 + m) 0 0x02 (mxAddr m 0) 0x80000 s)) ∧
       exec (.mxClear m) s = .next (reportMx m 0x003 0 (s.modMx m fun d =>
         { d with
           state := .off, run := false, stopped := none, fade := none, master := 0, fault := d.fault.put 19 16 0 }))) ∧
     ((s.mx m).state ≠ .latched → exec (.mxClear m) s = .next s) ∧
     exec (.swap m) s = .next (s.modMx m fun d => { d with swapPend := true })) ∧
  (∀ (s : State) (m : Fin 2),
     ((s.mx m).fade = none → Completes (.frameStart m []) s fun u =>
       (u.mx m).cfg = s.liveReg (mxAddr m 2) ∧ (u.mx m).nextLine = 0 ∧ (u.mx m).swapPend = false ∧
       ((s.mx m).swapPend = false → (u.mx m).front = (s.mx m).front) ∧
       ((s.mx m).swapPend = true → ∀ px : Fin 1152,
         Sparse.get (fun _ => 0) (u.mx m).front px = s.liveReg (pixAddr m px)) ∧
       (u.mx m).state = (s.mx m).state ∧ (u.mx m).run = (s.mx m).run ∧ (u.mx m).master = (s.mx m).master ∧
       (∀ k : Nat, k ≠ m → u.mx k = s.mx k) ∧ u = { s with mxs := u.mxs, targets := u.targets }) ∧
     (Completes (.lineSlot m) s fun u =>
       let d := s.mx m
       (u.mx m).line = d.nextLine ∧ (u.mx m).nextLine = (d.nextLine + 1) % 24 ∧
       (d.run = true → (s.sup.vpwrA.ok = true ∨ s.sup.vpwrB.ok = true) → ∀ c : Fin 48,
         let pix := Sparse.get (fun _ => (0 : Word)) d.front (48 * d.nextLine + c)
         (u.mx m).sinks.getD c 0 =
           pix.field 11 0 * d.master / 4095 / 2 ^ (4 - 2 * d.cfg.field 17 16) * (d.cfg.field 15 12 + 1)) ∧
       (d.run = false ∨ (s.sup.vpwrA.ok = false ∧ s.sup.vpwrB.ok = false) → ∀ c : Fin 48, (u.mx m).sinks.getD c 0 = 0) ∧
       (∀ k : Nat, k ≠ m → u.mx k = s.mx k) ∧ u = { s with mxs := u.mxs }) ∧
     ((s.mx m).state = .on → (s.mx m).run = true →
       (∀ l : Fin 24, exec (.lineShort m l) s = .next (reportMx m 0x020 l (s.modMx m fun d =>
         { d with
           state := .latched, run := false, stopped := some s.clock, fault := (d.fault.setBit 15 true).put 19 16 1 }))) ∧
       (Completes (.mxThermal m true) s fun u =>
         u.mx m = { s.mx m with
           state := .cooling, run := false, stopped := some s.clock, thermal := true,
           cools := (s.clock :: (s.mx m).cools).take 8, fault := (s.mx m).fault.setBit 12 true } ∧
         (∀ k : Nat, k ≠ m → u.mx k = s.mx k) ∧ u = { s with mxs := u.mxs, targets := u.targets })) ∧
     ((s.mx m).state = .cooling → Completes (.mxThermal m false) s fun u =>
       (8 ≤ recentTimes s.clock (s.mx m).cools → u.mx m = { s.mx m with
         state := .latched, thermal := false, fault := (s.mx m).fault.put 19 16 4 }) ∧
       (recentTimes s.clock (s.mx m).cools < 8 → (s.tgt lgtT).silent = false → (s.tgt lgtT).timedOut = false →
         u.mx m = { s.mx m with state := .on, run := true, stopped := none, thermal := false, wasOn := true }) ∧
       (∀ k : Nat, k ≠ m → u.mx k = s.mx k) ∧ u = { s with mxs := u.mxs, targets := u.targets }) ∧
     (∀ c : Fin 48,
       let run := Sparse.get (fun _ => 0) (s.mx m).shortRuns c
       (run = 2 → exec (.colShort m c true) s = .next (reportMx m 0x022 c (s.modMx m fun d =>
         { d with shortRuns := Sparse.set (fun _ => 0) d.shortRuns c 0, fault := d.fault.setBit 13 true }))) ∧
       (run ≠ 2 → exec (.colShort m c true) s = .next (s.modMx m fun d =>
         { d with shortRuns := Sparse.set (fun _ => 0) d.shortRuns c (run + 1) })) ∧
       exec (.colShort m c false) s = .next (s.modMx m fun d =>
         { d with shortRuns := Sparse.set (fun _ => 0) d.shortRuns c 0 })))

/-- The silent lighting unit (R317, R318): a claimed unit that falls silent puts strings and matrices in OFF and ON into HOLD and
goes on showing what it shows, and a string whose feed is missing marks FEED (R302); once its logic-silence timeout expires each object in OFF, ON or HOLD takes its safe mode: dark,
the safe values of a string at the next period start, or as it is; a string whose safe mode is to light goes dark in a
maintenance start (R71). -/
def Obligations.LightingSilence : Prop :=
  ∀ s : State, (s.tgt lgtT).watched = true →
    let fed (x : Nat) := if x < 4 then s.sup.vpwrA.ok else s.sup.vpwrB.ok
    let feedSeen (x : Nat) : Word := (s.str x).fault.setBit 10 ((s.str x).fault.bit 10 || !fed x)
    ((s.tgt lgtT).silent = false → Completes .lgtUnitSilent s fun u =>
      (u.tgt lgtT).silent = true ∧
      (∀ x : Fin 8, (s.str x).state = .off ∨ (s.str x).state = .on → u.str x = { s.str x with
        state := .hold, wasOn := (s.str x).run, fault := feedSeen x }) ∧
      (∀ x : Fin 8, (s.str x).state ≠ .off → (s.str x).state ≠ .on → u.str x = s.str x) ∧
      (∀ m : Fin 2, (s.mx m).state = .off ∨ (s.mx m).state = .on → u.mx m = { s.mx m with
        state := .hold, wasOn := (s.mx m).run }) ∧
      (∀ m : Fin 2, (s.mx m).state ≠ .off → (s.mx m).state ≠ .on → u.mx m = s.mx m) ∧
      u = { s with strs := u.strs, mxs := u.mxs, targets := u.targets }) ∧
    ((s.tgt lgtT).silent = true → (s.tgt lgtT).timedOut = false → Completes .lgtTimedOut s fun u =>
      (u.tgt lgtT).timedOut = true ∧
      (∀ x : Fin 8,
        let set := (s.liveReg (strAddr x 6)).field 19 18
        let mode := if s.maintenance = true ∧ set = 1 then 0 else set
        ((s.str x).state = .off ∨ (s.str x).state = .on ∨ (s.str x).state = .hold →
          (mode = 0 → (u.str x).state = .safe ∧ (u.str x).run = false ∧ (u.str x).fade = none) ∧
          (mode = 1 →
            u.str x = { s.str x with state := .safe, run := true, safePend := true, fade := none, fault := feedSeen x }) ∧
          (2 ≤ mode → u.str x = { s.str x with state := .safe, fault := feedSeen x })) ∧
        ((s.str x).state = .latched ∨ (s.str x).state = .safe → u.str x = s.str x)) ∧
      (∀ m : Fin 2, (s.mx m).state = .off ∨ (s.mx m).state = .on ∨ (s.mx m).state = .hold →
        ((s.liveReg (mxAddr m 5)).field 19 18 = 0 → (u.mx m).state = .safe ∧ (u.mx m).run = false) ∧
        ((s.liveReg (mxAddr m 5)).field 19 18 ≠ 0 → u.mx m = { s.mx m with state := .safe })) ∧
      u = { s with strs := u.strs, mxs := u.mxs, targets := u.targets })

/-! ### Access (R328 to R359) -/

/-- Access in park and the handles (R334 to R338). A poll drives the antennas of POLL_ANT, marks those
found open or shorted (a free value, assumption log 86) in LF_FAULT, forgets who answered it, and frees a held-off token after HOLDOFF
polls without it, of which the first after a power-down counts none; the poll period doubles while doublings remain; a presence frame of an enrolled token that is not held off
starts a full round on the fob antennas. A handle is touched from its second scan above the threshold: that starts a round on
its antennas with a fresh challenge, or is kept for the end of the one that runs; a stuck handle returns to its baseline. -/
def Obligations.ParkPollsAndHandles : Prop :=
  ∀ s : State,
    let driven (ant : Nat) : Nat := ant &&& (s.liveReg 0x88004).field 11 6 &&& (63 - (s.liveReg 0x88000).field 17 12)
    let peak (code : Nat) : Nat := (code + 1) * (if s.sup.reduced = true then 1 else 2)
    let fresh (trigger handle ant : Nat) : Option Round :=
      some ⟨trigger, handle, driven ant, Config.challenge s.free % 2 ^ 64, [], none, none⟩
    (polls s = true →
      (Completes .parkPoll s fun u =>
        let bad := Config.pollFaults s.free % 64 &&& driven ((s.liveReg 0x88002).field 17 12)
        u.acc.present = [] ∧ u.acc.drive = peak ((s.liveReg 0x88004).field 15 12) ∧
        u.liveReg 0x88000 = (s.liveReg 0x88000).put 17 12 ((s.liveReg 0x88000).field 17 12 ||| bad) ∧
        (∀ b : Nat, b ≠ 0x88000 → u.liveReg b = s.liveReg b) ∧ (bad = 0 → u.targets = s.targets) ∧
        (∀ i n : Nat, s.acc.heldOff = [(i, n)] → s.acc.polled = true →
          u.acc.heldOff = (if i ∈ s.acc.present then
            (if (s.liveReg 0x88002).field 11 8 = 0 then [] else [(i, 0)])
            else if (s.liveReg 0x88002).field 11 8 ≤ n + 1 then [] else [(i, n + 1)])) ∧
        (∀ i n : Nat, s.acc.heldOff = [(i, n)] → n < (s.liveReg 0x88002).field 11 8 → s.acc.polled = false →
          u.acc.heldOff = [(i, n)]) ∧
        u = { s with
          acc := { s.acc with present := [], polled := true, heldOff := u.acc.heldOff, drive := u.acc.drive }, live := u.live,
          targets := u.targets, free := s.free + 1 }) ∧
      (s.acc.doublings < (s.liveReg 0x88003).field 9 7 → exec .pollPeriodDouble s =
        .next { s with acc := { s.acc with doublings := s.acc.doublings + 1 } }) ∧
      (∀ i : Fin 16, (tokenAt s i).isSome = true → s.acc.round = none →
        ((∀ p ∈ s.acc.heldOff, p.1 ≠ i) → exec (.presenceFrame i) s = .next { s with
          free := s.free + 1,
          acc := { s.acc with
            present := s.acc.present ++ [(i : Nat)], round := fresh 1 7 ((s.liveReg 0x88002).field 17 12),
            drive := peak ((s.liveReg 0x88004).field 19 16) } }) ∧
        ((∃ p ∈ s.acc.heldOff, p.1 = i) → exec (.presenceFrame i) s = .next { s with
          acc := { s.acc with present := s.acc.present ++ [(i : Nat)] } }))) ∧
    (∀ h : Fin 4,
      let d := Sparse.get (fun _ => Handle.reset) s.acc.handles h
      let held (u : State) := Sparse.get (fun _ => Handle.reset) u.acc.handles h
      (handleSearched s h = true → d.touched = false →
        (d.run = 0 → Completes (.handleScan h true) s fun u => held u = ⟨1, false⟩ ∧
          u = { s with acc := { s.acc with handles := u.acc.handles } }) ∧
        (d.run = 1 → s.acc.round = none → Completes (.handleScan h true) s fun u =>
          held u = ⟨2, true⟩ ∧ u.acc.round = fresh 2 h ((s.liveReg (0x8800C + h)).field 10 5) ∧
          u.acc.drive = peak ((s.liveReg 0x88004).field 19 16) ∧
          u = { s with
            acc := { s.acc with handles := u.acc.handles, round := u.acc.round, drive := u.acc.drive }, targets := u.targets, free := s.free + 1 }) ∧
        (d.run = 1 → s.acc.round ≠ none → Completes (.handleScan h true) s fun u =>
          held u = ⟨2, true⟩ ∧ u.acc.kept = some (s.acc.kept.getD h) ∧
          u = { s with acc := { s.acc with handles := u.acc.handles, kept := u.acc.kept }, targets := u.targets })) ∧
      (d.touched = true → exec (.handleStuck h) s = .next (reportHandle h 0x022 false
        { s with acc := { s.acc with
          handles := Sparse.set (fun _ => Handle.reset) s.acc.handles h Handle.reset } })))

/-- An access round (R340 to R343, R346, R350, R355). A command starts one with a fresh challenge, and is refused with 05h while
one runs. A reply is valid where it names the token enrolled at its slot, gives that token's response to the challenge and carries
its timestamp sequence at a fitted port that heard one, and invalid else; two in one slot collide. One retry telegram names the slots
that collided, which then answer afresh in place of the collision. At the end of a round on the
command of the lanes, a single valid answer within the grant range of a token that is not revoked opens a session for it, which keeps the cause
of the last end, its range is shown, and a range inside counts as inside; a round without an answer opens none. -/
def Obligations.AccessRounds : Prop :=
  (∀ (s : State) (ant : BitVec 6), (s.tgt accT).claimed.isSome = true → (s.tgt accT).silent = false → awake s = true →
    (s.acc.round = none → Completes (.round ant) s fun u =>
      u.acc.round = some ⟨0, 0, ant.toNat &&& (s.liveReg 0x88004).field 11 6 &&& (63 - (s.liveReg 0x88000).field 17 12),
        Config.challenge s.free % 2 ^ 64, [], none, none⟩ ∧
      u = { s with acc := { s.acc with round := u.acc.round, drive := u.acc.drive }, live := u.live, free := s.free + 1 }) ∧
    (s.acc.round ≠ none → Completes (.round ant) s fun u =>
      (u.tgt accT).refusals = (s.tgt accT).refusals ++ [⟨0xFF085, Word.ofN (2 ^ 19 + ant.toNat * 2 ^ 12), 0x88001⟩] ∧
      u = { s with live := u.live, targets := u.targets })) ∧
  (∀ (s : State) (rd : Round) (i : Fin 16), s.acc.round = some rd → rd.retry = none →
    (Completes (.tokenReply i .collided) s fun u =>
      ∃ a, u.acc.round = some { rd with answers := (rd.answers.filter fun b => b.idx ≠ (i : Nat)) ++ [a] } ∧
        a.idx = i ∧ a.heard = .collided ∧ a.retry = false ∧
        u = { s with acc := { s.acc with round := u.acc.round }, free := s.free + 1 }) ∧
    (∀ (id resp : Nat) (legs : List Leg), (∀ b ∈ rd.answers, b.idx ≠ (i : Nat)) →
      Completes (.tokenReply i (.reply id resp legs)) s fun u =>
        ∃ a, u.acc.round = some { rd with answers := (rd.answers.filter fun b => b.idx ≠ (i : Nat)) ++ [a] } ∧ a.idx = i ∧
          (a.heard = .valid ↔ ∃ t, tokenAt s i = some t ∧ t.id = id ∧ tokenResponse t rd.challenge = resp ∧
            foreignSts s (tokenSts t rd.challenge) legs = false) ∧
          (a.heard ≠ .valid → a.heard = .invalid) ∧
          u = { s with acc := { s.acc with round := u.acc.round }, free := s.free + 1 }) ∧
    (∀ (id resp : Nat) (legs : List Leg), (∃ b ∈ rd.answers, b.idx = (i : Nat) ∧ b.retry = false) →
      Completes (.tokenReply i (.reply id resp legs)) s fun u =>
        ∃ a, u.acc.round = some { rd with answers := (rd.answers.filter fun b => b.idx ≠ (i : Nat)) ++ [a] } ∧ a.idx = i ∧
          a.heard = .collided ∧ u = { s with acc := { s.acc with round := u.acc.round }, free := s.free + 1 }) ∧
    ((∃ a ∈ rd.answers, a.heard = .collided) → exec .retryTelegram s = .next { s with acc := { s.acc with
      round := some { rd with retry := some (((rd.answers.filter fun a => a.heard = .collided).map fun a => 2 ^ a.idx).sum) } } })) ∧
  (∀ (s : State) (rd : Round) (m : Nat) (i : Fin 16), s.acc.round = some rd → rd.retry = some m →
    (m.testBit i = false → ∀ r : Reply, exec (.tokenReply i r) s = .next s) ∧
    (m.testBit i = true → (∀ b ∈ rd.answers, b.idx = (i : Nat) → b.retry = false) → ∀ (id resp : Nat) (legs : List Leg),
      Completes (.tokenReply i (.reply id resp legs)) s fun u =>
        ∃ a, u.acc.round = some { rd with answers := (rd.answers.filter fun b => b.idx ≠ (i : Nat)) ++ [a] } ∧ a.idx = i ∧
          a.retry = true ∧ a.heard ≠ .collided ∧
          u = { s with acc := { s.acc with round := u.acc.round }, free := s.free + 1 })) ∧
  (∀ (s : State) (rd : Round) (a : Answer) (i : Fin 16) (cm port : Nat),
    s.acc.round = some rd → rd.trigger = 0 → awake s = true → s.acc.kept = none → s.acc.test = none →
    (rd.answers = [a] → a.idx = i → a.heard = .valid → a.range = some (cm, port) → cm ≤ (s.liveReg 0x88005).field 19 10 →
      (s.liveReg (tokAddr i)).bit 16 = false → s.acc.sessOpen = false →
      Completes (.roundEnd 0 0) s fun u =>
        u.acc.round = none ∧ u.acc.sessOpen = true ∧ u.acc.sessToken = i ∧ u.acc.sessCause = s.acc.sessCause ∧ u.acc.sessTime = s.clock ∧
        u.liveReg (0x88040 + i) = Word.sat cm ∧
        (∀ r, a.interior = some r → r ≤ (s.liveReg 0x88005).field 9 0 → u.acc.insideAt = some s.clock) ∧
        (∀ b : Nat, b ≠ 0x88040 + i → u.liveReg b = s.liveReg b) ∧
        u = { s with acc := u.acc, live := u.live, targets := u.targets }) ∧
    (rd.answers = [] → Completes (.roundEnd 0 0) s fun u =>
      u.acc = { s.acc with round := none } ∧ (∀ b : Nat, u.liveReg b = s.liveReg b) ∧
      u = { s with acc := u.acc, live := u.live, targets := u.targets }))

/-- Sessions and tokens (R344, R345, R347, R355). SESS_END and the session timeout end an open session with causes 3 and 1, the
latter only where a timeout is set; a token write that revokes the session's token ends it with cause 5, and loads the AO key
latch with the enrolled tokens that are not revoked; an access unit that falls silent goes on, says so once, and takes no
command of the lanes. -/
def Obligations.SessionsAndTokens : Prop :=
  ∀ s : State,
    let heard : Prop := (s.tgt accT).claimed.isSome = true ∧ (s.tgt accT).silent = false
    (heard → s.acc.sessOpen = true → exec .sessEnd s = .next (reportSess 0x012
      { s with acc := { s.acc with sessOpen := false, sessCause := 3, insideAt := none } })) ∧
    (s.acc.sessOpen = false → exec .sessEnd s = .next s) ∧
    (¬heard → exec .sessEnd s = .next s ∧ ∀ (i : Fin 16) (v : Word), exec (.tokenWrite i v) s = .next s) ∧
    (s.acc.sessOpen = true → (s.liveReg 0x88006).field 19 8 ≠ 0 → exec .sessionTimeout s = .next (reportSess 0x012
      { s with acc := { s.acc with sessOpen := false, sessCause := 1, insideAt := none } })) ∧
    ((s.liveReg 0x88006).field 19 8 = 0 → exec .sessionTimeout s = .next s) ∧
    (heard → ∀ (i : Fin 16) (v : Word), Completes (.tokenWrite i v) s fun u =>
      u.liveReg (tokAddr i) = regWrite (tokAddr i) (s.liveReg (tokAddr i)) v ∧
      (∀ b : Nat, b ≠ tokAddr i → u.liveReg b = s.liveReg b) ∧
      (∀ j t r, (j, t, r) ∈ u.acc.latch ↔ (j, t) ∈ s.acc.tokens ∧ (u.liveReg (tokAddr j)).bit 19 = true ∧
        (u.liveReg (tokAddr j)).bit 16 = false ∧ r = (u.liveReg (tokAddr j)).field 18 17) ∧
      (v.bit 16 = true ∧ s.acc.sessOpen = true ∧ s.acc.sessToken = i →
        u.acc.sessOpen = false ∧ u.acc.sessCause = 5 ∧ u.acc.insideAt = none) ∧
      (v.bit 16 = false ∨ s.acc.sessOpen = false ∨ s.acc.sessToken ≠ i →
        u.acc = { s.acc with latch := u.acc.latch } ∧ u.targets = s.targets) ∧
      u = { s with acc := u.acc, live := u.live, targets := u.targets }) ∧
    ((s.tgt accT).watched = true → (s.tgt accT).silent = false → exec .accUnitSilent s = .next (s.modTgt accT fun g =>
      { g with silent := true, recs := g.recs ++ [⟨0x08, 0x060, 0x88020, 0, 0⟩] }))

/-- The drive-enable generator, claimed by a lane (R349 to R352, R359). RUN starts it only while EN is 1, it is not in FAULT, a
session is open whose token carries DRIVE, and that token was ranged inside no more than 2 s ago; else, and in IDLE, RUN is
refused with 05h. A maintenance start has no RUN (R71).
STOP, a silence and EN = 0 stop it at the end of the half-period, with both outputs low; a half-period drives both outputs low and
then the next one high (R349), a readback that differs in a period after one that differed, or both high, is a FAULT; CLEAR leads FAULT to STOPPED. -/
def Obligations.DriveEnable : Prop :=
  ∀ s : State, (s.tgt denT).claimed.isSome = true →
    (s.maintenance = true → exec .run s = .next s) ∧
    (s.maintenance = false → let armed : Prop := (s.liveReg 0x88023).bit 19 = true ∧ s.den.state ≠ .fault ∧ s.acc.sessOpen = true ∧
       (s.liveReg (tokAddr s.acc.sessToken)).bit 18 = true ∧ ∃ t, s.acc.insideAt = some t ∧ s.clock ≤ t + 200000000
     (armed → s.pwr.state ≠ .idle → s.den.state = .stopped → exec .run s = .next (reportDen 0x001
       { s with den := { s.den with state := .running, stopPend := none, bad := false, badRun := 0 } })) ∧
     (armed → s.pwr.state ≠ .idle → s.den.state = .running → s.den.stopPend = none → exec .run s = .next s) ∧
     (¬armed ∨ s.pwr.state = .idle → exec .run s = .next (refuseAcc 0 0x01 0x05 0x88021 0x80000 s))) ∧
    (s.den.state = .running → s.den.stopPend = none →
      exec .stop s = .next { s with den := { s.den with stopPend := some 1 } } ∧
      ((s.tgt denT).watched = true → exec .denSilence s = .next { s with den := { s.den with stopPend := some 2 } }) ∧
      (∀ v : Word, 5 ≤ v.field 13 6 → v.field 13 6 ≤ 250 → v.bit 18 = false → v.bit 19 = false →
        Completes (.denCfgWrite v) s fun u =>
          u.den = { s.den with stopPend := some 5 } ∧
          u = { (s.setLive 0x88023 (regWrite 0x88023 (s.liveReg 0x88023) v)) with den := u.den })) ∧
    (∀ v : Word, v.field 13 6 < 5 ∨ 250 < v.field 13 6 →
      exec (.denCfgWrite v) s = .next (refuseAcc 0 0x03 0x04 0x88023 v s)) ∧
    (s.den.state ≠ .running → exec .stop s = .next s ∧ ∀ p n : Bool, exec (.denHalfPeriod p n) s = .next s) ∧
    (s.den.state = .running → ∀ c : Nat, s.den.stopPend = some c → ∀ p n : Bool,
      exec (.denHalfPeriod p n) s = .next (reportDen 0x002 { s with den := { s.den with
        state := .stopped, lastStop := c, stopPend := none, driveP := false, driveN := false, wave := [] } })) ∧
    (s.den.state = .running → s.den.stopPend = none →
      (s.den.driveP = false → exec (.denHalfPeriod true false) s = .next { s with den := { s.den with
        driveP := true, driveN := false, wave := [(false, false), (true, false)], fbP := true, fbN := false, bad := false, badRun := s.den.bad.toNat } }) ∧
      (s.den.driveP = true → exec (.denHalfPeriod false true) s = .next { s with den := { s.den with
        driveP := false, driveN := true, wave := [(false, false), (false, true)], fbP := false, fbN := true } }) ∧
      (s.den.driveP = true → s.den.badRun = 0 → exec (.denHalfPeriod false false) s = .next { s with den := { s.den with
        driveP := false, driveN := true, wave := [(false, false), (false, true)], fbP := false, fbN := false, bad := true } }) ∧
      ((if s.den.driveP = true then s.den.badRun = 1 else s.den.bad = true) →
        Completes (.denHalfPeriod false false) s fun u =>
          u.den.state = .fault ∧ u.den.lastStop = 3 ∧ u.den.driveP = false ∧ u.den.driveN = false ∧
          u = { s with den := u.den, targets := u.targets }) ∧
      (Completes (.denHalfPeriod true true) s fun u =>
        u.den.state = .fault ∧ u.den.lastStop = 3 ∧ u.den.driveP = false ∧ u.den.driveN = false ∧
        u = { s with den := u.den, targets := u.targets })) ∧
    (s.den.state = .fault → exec .denClear s = .next (reportDen 0x004
      { s with den := { s.den with state := .stopped, bad := false, badRun := 0 } })) ∧
    (s.den.state ≠ .fault → exec .denClear s = .next s)

/-! ### Vehicle buses (R360 to R405, R352) -/

/-- Requests to transmit, at a controller that a lane has claimed (R364, R375 to R379, R387). A record that breaks its format is
answered with reason 1 and one that finds the 32 places taken with reason 2; else it joins the event queue. An object that the
bus has is replaced and marked updated, but object 0 of the release channel is held with 05h. An abort takes out a frame that has not
started; whether the frame that is next has started is a free value (also where another goes ahead of it by its identifier, assumption
log 94). A completed frame leaves the queue, or marks its object sent in its window, and is reported: on an event queue the one
whose turn it is, by identifier where PRIO is 1, and no other but one that had started. -/
def Obligations.BusTransmission : Prop :=
  ∀ (s : State) (b : Fin 28) (tag : BitVec 12) (fr : List Word),
    (busAccepts s b = true →
      (recOk s b ((fr.getD 1 0).field 5 0) fr = true → (s.bus b).queue.length < 32 →
        (byIdentifier s b = false ∨ (∀ q, nextQueued s b = some q → recId q.frame ≤ recId fr) →
          exec (.busQueue b tag fr) s = .next (s.modBus b fun x => { x with queue := x.queue ++ [⟨tag.toNat, fr⟩] })) ∧
        (Completes (.busQueue b tag fr) s fun u =>
          u.bus b = { s.bus b with queue := (s.bus b).queue ++ [⟨tag.toNat, fr⟩], sending := (u.bus b).sending } ∧
          (∀ t, (s.bus b).sending = some t → (u.bus b).sending = some t) ∧
          (∀ c : Nat, c ≠ b → u.bus c = s.bus c) ∧ u = { s with buses := u.buses, free := u.free })) ∧
      (recOk s b ((fr.getD 1 0).field 5 0) fr = true → 32 ≤ (s.bus b).queue.length →
        exec (.busQueue b tag fr) s = .next (busNotSent b tag.toNat 2 s)) ∧
      (recOk s b ((fr.getD 1 0).field 5 0) fr = false →
        exec (.busQueue b tag fr) s = .next (busNotSent b tag.toNat 1 s)) ∧
      (∀ obj : BitVec 6,
        (obj = 0 → (s.liveReg 0x88023).bit 18 = true → (s.liveReg 0x88023).field 17 14 = b →
          exec (.busUpdateObject b obj fr) s = .next (refuseBus b 0x05 (busqAddr b 1) 0 s)) ∧
        (obj ≠ 0 ∨ (s.liveReg 0x88023).bit 18 = false → recOk s b obj.toNat fr = true →
          (b : Nat) < 16 ∨ ((b : Nat) < 24 ∧ (s.liveReg (linAddr (b - 16) (0x40 + obj.toNat))).field 19 18 = 1) →
          Completes (.busUpdateObject b obj fr) s fun u =>
            (u.bus b).objects = Sparse.put (s.bus b).objects obj.toNat fr ∧ obj.toNat ∈ (u.bus b).fresh ∧
            u.bus b = { s.bus b with objects := (u.bus b).objects, fresh := (u.bus b).fresh } ∧
            (∀ c : Nat, c ≠ b → u.bus c = s.bus c) ∧ u = { s with buses := u.buses })) ∧
      (let next : Prop := (nextQueued s b).map Queued.tag = some tag.toNat
       let out (v : State) : State := busNotSent b tag.toNat 3
         (v.modBus b fun x => { x with queue := x.queue.eraseP fun e => decide (e.tag = tag.toNat) })
       ((s.bus b).sending ≠ some tag.toNat → ¬next → (∃ e ∈ (s.bus b).queue, e.tag = tag.toNat) →
         exec (.busAbort b tag) s = .next (out s)) ∧
       ((s.bus b).sending = none → next → (∃ e ∈ (s.bus b).queue, e.tag = tag.toNat) →
         (Config.txStarted s.free = false → exec (.busAbort b tag) s = .next (out { s with free := s.free + 1 })) ∧
         (Config.txStarted s.free = true → exec (.busAbort b tag) s =
           .next ({ s with free := s.free + 1 }.modBus b fun x => { x with sending := some tag.toNat })))) ∧
      ((s.bus b).sending ≠ some tag.toNat → (∀ e ∈ (s.bus b).queue, e.tag ≠ tag.toNat) →
        exec (.busAbort b tag) s = .next s)) ∧
    (∀ (e : Queued) (q : List Queued) (sof : Nat),
      (s.bus b).queue = e :: q → e.tag = tag.toNat → byIdentifier s b = false → ttActive s b = false → busDown s b = false →
      (s.bus b).quiet = false →
      exec (.busFrameTransmitted b false tag sof) s = .next (busSent b false tag.toNat sof
        (s.modBus b fun x => { x with queue := q, sending := none }))) ∧
    (∀ (e : Queued) (sof : Nat),
      nextQueued s b = some e → e.tag = tag.toNat → ttActive s b = false → busDown s b = false → (s.bus b).quiet = false →
      exec (.busFrameTransmitted b false tag sof) s = .next (busSent b false tag.toNat sof
        (s.modBus b fun x => { x with queue := (s.bus b).queue.erase e, sending := none }))) ∧
    ((s.bus b).sending ≠ some tag.toNat → (nextQueued s b).map Queued.tag ≠ some tag.toNat → ∀ sof : Nat,
      exec (.busFrameTransmitted b false tag sof) s = .next s) ∧
    (∀ sof : Nat, (s.bus b).window = .send tag.toNat false → busDown s b = false → (s.bus b).waitRef = false →
      exec (.busFrameTransmitted b true tag sof) s = .next (busSent b true tag.toNat sof
        (s.modBus b fun x => { x with window := .send tag.toNat true })))

/-- Receiving (R361, R363, R380, R381, R394): a frame that a filter of an enabled bus takes is stored in the lowest free slot
and presented to the lanes, satisfies a window that expects it, and counts as a mismatch where the listening controller of the
other lane disagrees; without a free slot it counts as overrun; one that no filter takes, of a format that the channel does not
have enabled, or with a bad FCS on a segment, is not presented. RX_ACK frees one owned slot, which OWNED counts no longer, and
RX_ACK with ALL frees every one. A frame that the selective wake of a sleeping module takes wakes it (R370).
-/
def Obligations.BusReception : Prop :=
  (∀ (s : State) (b : Fin 28) (fr : List Word) (sof : Nat) (cycle col : BitVec 6) (same : Bool),
    let id := (fr.getD 1 0).field 5 0
    let flt := if (b : Nat) < 16 then canFilter s b fr
      else if (b : Nat) < 24 then (if (s.bus b).window = .expect id false then some id else none)
      else tsFilter s (b - 24) fr
    ((b : Nat) < 16 → asleep s = true → s.pwr.waking = false → s.pwr.held = none → (s.copyReg (canAddr b 0)).field 9 8 = 3 →
      wufAccepts s b fr = true → ∀ badFcs : Bool, exec (.busFrameReceived b fr sof cycle col same badFcs) s =
        .next { s with pwr := { s.pwr with held := some (3, (b : Nat)) } }) ∧
    (busAccepts s b = true → busEnabled s b = true → ((b : Nat) < 24 → (s.bus b).state < 2) → asleep s = false →
    ((b : Nat) < 16 → formatOn s b fr = false → exec (.busFrameReceived b fr sof cycle col same false) s = .next s) ∧
    ((b : Nat) < 16 → (fr.getD 0 0).field 19 18 = 2 → formatOn s b fr = true → 256 < recLen fr →
      exec (.busFrameReceived b fr sof cycle col same false) s = .next (s.modBus b fun x => { x with rxDrop := x.rxDrop + 1 })) ∧
    (24 ≤ (b : Nat) → exec (.busFrameReceived b fr sof cycle col same true) s =
      .next (s.modBus b fun x => { x with fcsErr := x.fcsErr + 1 })) ∧
    (((b : Nat) < 16 → formatOn s b fr = true ∧ ((fr.getD 0 0).field 19 18 ≠ 2 ∨ recLen fr ≤ 256)) →
    (flt = none → exec (.busFrameReceived b fr sof cycle col same false) s = .next s) ∧
    (∀ f k : Nat, flt = some f → freeSlot (s.bus b) = some k → Numbering s →
      Completes (.busFrameReceived b fr sof cycle col same false) s fun u =>
        Presented (sourceOf (busT b))
          ([Word.ofN (k * 2 ^ 10 + f % 64 * 2 ^ 4),
            if ttActive s b = true then Word.ofN (cycle.toNat * 2 ^ 14 + col.toNat * 2 ^ 8) else 0xFFF00] ++
            wordsOf sof 3 ++ fr)
          (.frame b k f) s u ∧
        u.bus b = { s.bus b with
          slots := Sparse.put (s.bus b).slots k 0,
          mismatch := if same = false ∧ (s.lane (otherLane (s.bus b).tx)).inStep = true then (s.bus b).mismatch + 1
            else (s.bus b).mismatch,
          window := if (s.bus b).window = .expect f false then .expect f true else (s.bus b).window } ∧
        (∀ c : Nat, c ≠ b → u.bus c = s.bus c) ∧ u = { s with buses := u.buses, seq := u.seq }) ∧
    (∀ f : Nat, flt = some f → freeSlot (s.bus b) = none →
      Completes (.busFrameReceived b fr sof cycle col same false) s fun u =>
        u.bus b = { s.bus b with
          overrun := (s.bus b).overrun + 1,
          window := if (s.bus b).window = .expect f false then .expect f true else (s.bus b).window } ∧
        (∀ c : Nat, c ≠ b → u.bus c = s.bus c) ∧ u = { s with buses := u.buses })))) ∧
  (∀ (s : State) (b : Fin 28), busAccepts s b = true →
    (∀ k : BitVec 6, (∀ p ∈ (s.bus b).slots, p.1 ≠ k.toNat) → exec (.rxAck b k) s = .next s) ∧
    (∀ k : BitVec 6, (∃ p ∈ (s.bus b).slots, p.1 = k.toNat) → Completes (.rxAck b k) s fun u =>
      u.bus b = { s.bus b with slots := Sparse.erase (s.bus b).slots k.toNat } ∧
      u.copyReg (busqAddr b (0x40 + k.toNat)) = 0 ∧
      u.copyReg (busqAddr b 4) = (s.copyReg (busqAddr b 4)).put 19 13
        ((List.range 64).filter fun j => decide (u.copyReg (busqAddr b (0x40 + j)) ≠ 0)).length ∧
      (∀ c : Nat, c ≠ b → u.bus c = s.bus c) ∧ u = { s with buses := u.buses, copy := u.copy }) ∧
    (Completes (.rxAckAll b) s fun u =>
      u.bus b = { s.bus b with slots := [] } ∧ (∀ p ∈ (s.bus b).slots, u.copyReg (busqAddr b (0x40 + p.1)) = 0) ∧
      (∀ c : Nat, c ≠ b → u.bus c = s.bus c) ∧
      u = { s with buses := u.buses, copy := u.copy }))

/-- Errors of a CAN channel, moves of a bus and the release message (R352, R365, R367, R379, R383). Counters up to 255 decide
between error-active and error-passive; TEC at 256 is bus-off, which counts, drops the frame in progress, and starts a return
where AUTO is set and the channel is not suspended; the return ends in error-active with counters of 0; RECOVER ends a
suspension. A dominant timeout marks the bus and moves it. A bus moves once to the other lane's controller. The release message updates
object 0 of its channel, and is queued as well on an event-driven one, once in PERIOD plies. -/
def Obligations.BusErrorsAndMoves : Prop :=
  (∀ (s : State) (n : Fin 16),
    (∀ (tec : Fin 257) (rx : BitVec 8) (lec : BitVec 3), busEnabled s n = true → (s.bus n).state < 2 →
      (let st := if 127 < (tec : Nat) ∨ 127 < rx.toNat then 1 else 0
       ((tec : Nat) ≤ 255 → Completes (.canError n tec rx lec) s fun u =>
         u.bus n = { s.bus n with tec := tec, recCount := rx.toNat, lec := lec.toNat, state := st } ∧
         ((s.bus n).state = st → u.targets = s.targets) ∧
         (∀ c : Nat, c ≠ n → u.bus c = s.bus c) ∧ u = { s with buses := u.buses, targets := u.targets })) ∧
      ((tec : Nat) = 256 → Completes (.canError n tec rx lec) s fun u =>
        (u.bus n).state = 2 ∧ (u.bus n).busOffs = (s.bus n).busOffs + 1 ∧ (u.bus n).sending = none ∧
        (u.bus n).sync = false ∧ (u.bus n).master = false ∧
        (∀ t, (s.bus n).sending = some t →
          (u.bus n).queue = (s.bus n).queue.eraseP fun e => decide (e.tag = t)) ∧
        ((s.bus n).sending = none → (s.bus n).queue = [] → (u.bus n).queue = []) ∧
        ((s.bus n).suspended = true ∨ (s.liveReg (canAddr n 0)).bit 15 = false → (u.bus n).returning = false) ∧
        (∀ c : Nat, c ≠ n → u.bus c = s.bus c) ∧
        Posts { s with buses := u.buses, targets := u.targets } u)) ∧
    ((s.bus n).state = 2 → (s.bus n).returning = true →
      exec (.busOffReturn n) s = .next (busStateLater n 0x004 none (s.modBus n fun x =>
        { x with state := 0, tec := 0, recCount := 0, returning := false, sync := false, refs := 0 }))) ∧
    ((s.bus n).state ≠ 2 → exec (.busOffReturn n) s = .next s) ∧
    (busAccepts s n = true → (s.bus n).state = 2 → exec (.recover n) s = .next (s.modBus n fun x => { x with suspended := false, returning := true }))) ∧
  (∀ (s : State) (b : Fin 24), busEnabled s b = true →
    let v := busStateLater b 0x008 none (s.modBus b fun x => { x with domTo := true })
    let mayMove : Prop := (s.bus b).moved = false ∧ (s.lane (otherLane (s.bus b).tx)).inStep = true
    (¬mayMove → exec (.domTimeout b) s = .next v) ∧
    (mayMove → exec (.domTimeout b) s =
      .next (busStateNow b 0x006 (v.modBus b fun x => { x with tx := otherLane x.tx, moved := true, faulty := true })))) ∧
  (∀ (s : State) (b : Fin 28), busEnabled s b = true →
    ((s.bus b).moved = false → (s.lane (otherLane (s.bus b).tx)).inStep = true → exec (.moved b) s =
      .next (busStateNow b 0x006 (s.modBus b fun x => { x with tx := otherLane x.tx, moved := true, faulty := true }))) ∧
    ((s.bus b).moved = true → exec (.moved b) s = .next s)) ∧
  (∀ (s : State) (k : Nat × Nat), s.keys.find? (fun p => decide (p.1 = 5)) = some k → (s.copyReg 0x88023).bit 18 = true →
    s.upd.stage ≠ .paused →
    let n := (s.copyReg 0x88023).field 17 14
    let fr := releaseRecord s n k.2
    let begun := s.pwr.elapsed + s.ply.boundary
    let sent := { s.lanes with released := some begun }
    let late : Prop := ∃ t, s.lanes.released = some t ∧ begun < t + 20000 * (s.copyReg 0x88023).field 13 6
    (late → exec .releaseMessage s = .next s) ∧
    (¬late → (s.copyReg (canAddr n 8)).field 19 18 = 0 → exec .releaseMessage s =
      .next { s with lanes := sent, ply := { s.ply with cmds := s.ply.cmds ++ [(busT n, .bus 1 0 0 fr), (busT n, .bus 0 0 0 fr)] } }) ∧
    (¬late → (s.copyReg (canAddr n 8)).field 19 18 ≠ 0 → (s.copyReg (canAddr n 9)).field 7 1 ≠ 0 → exec .releaseMessage s =
      .next { s with lanes := sent, ply := { s.ply with cmds := s.ply.cmds ++ [(busT n, .bus 1 0 0 fr)] } }))

/-- Time-triggered CAN, in force on a channel (R384 to R389, R467). A cycle start takes the written cells of the channel's matrix and
opens the reference window, and ends the quiet of an abandoned entry; an acting master counts the cycle and sends the global
time, starts an aligned cycle of count 0 at its instant after a ply boundary alone, and none while it is quiet; a channel in bus-off
counts on in silence. A window opens by its cell: an updated object is sent, with its content as it stands, where the channel is
synchronised and it fits, and else is missed; a reception is expected; the event queue may send. A window that ends without
its frame counts as missed. The second of two consecutive references synchronises (by their cycle counts, assumption log 42); a
gap and a lost reference end it, and a lost one has a channel that was not synchronised wait for two anew. -/
def Obligations.TimeTriggeredCan : Prop :=
  ∀ (s : State) (n : Fin 16), ttActive s n = true →
    let role := (s.liveReg (canAddr n 8)).field 19 18
    let rows := 2 ^ (s.liveReg (canAddr n 10)).field 19 17
    let cols := (s.liveReg (canAddr n 9)).field 7 1
    let base := (s.liveReg (canAddr n 9)).field 19 8
    let x := s.bus n
    let y := if x.quietEnd = true then { x with quiet := false, quietEnd := false } else x
    (let acting : Prop := role = 2 ∧ (x.master = true ∨ x.refs = 0)
     let count := if x.master = true then (x.cycle + 1) % 64 else x.cycle
     let late : Prop := acting ∧ (y.quiet = true ∨ ((s.liveReg (canAddr n 8)).bit 17 = true ∧ count = 0 ∧
       s.now % 20000 ≠ 100 * (s.liveReg (canAddr n 12)).field 19 12))
     x.state < 2 → (late → exec (.ttCycleStart n) s = .next (resumeQueue n s)) ∧
     (¬late → Completes (.ttCycleStart n) s fun u =>
      (acting → u.bus n = { y with
        cycle := count, master := true, sync := true, refs := 0, waitRef := false, col := 0, window := .reference, cells := [],
        refTime := s.now / (5 * (s.liveReg (canAddr n 8)).field 16 9) % 65536 }) ∧
      (¬acting → u.bus n = { y with col := 0, window := .reference, cells := [] }) ∧
      (∀ a : Nat, u.liveReg a = match x.cells.find? (fun p => decide (p.1 = a)) with | some p => p.2 | none => s.liveReg a) ∧
      (∀ c : Nat, c ≠ n → u.bus c = s.bus c) ∧ u = { s with buses := u.buses, live := u.live })) ∧
    (x.state = 2 → Completes (.ttCycleStart n) s fun u =>
      u.bus n = { y with cycle := (x.cycle + 1) % 64, col := 0, window := .idle, cells := [] } ∧
      (∀ c : Nat, c ≠ n → u.bus c = s.bus c) ∧ u = { s with buses := u.buses, live := u.live }) ∧
    (x.col + 1 < cols →
      let cell := s.liveReg (0x94000 + base + x.cycle % rows * cols + (x.col + 1))
      let obj := cell.field 16 11
      (cell.field 19 17 = 1 → (∃ p ∈ x.objects, p.1 = obj) → x.state < 2 → x.sync = true → x.waitRef = false →
        Completes (.ttWindowStart n true) s fun u =>
          u.bus n = { x with
            col := x.col + 1, window := .send obj false, taken := Sparse.get (fun _ => []) x.objects obj } ∧
          (∀ c : Nat, c ≠ n → u.bus c = s.bus c) ∧ u = { s with buses := u.buses }) ∧
      (∀ fits : Bool, cell.field 19 17 = 1 → (∃ p ∈ x.objects, p.1 = obj) →
        2 ≤ x.state ∨ fits = false ∨ x.sync = false ∨ x.waitRef = true → Completes (.ttWindowStart n fits) s fun u =>
          Misses n 0x011 x.cycle (x.col + 1) obj
            { x with col := x.col + 1, window := .idle, missed := x.missed + 1 } s u) ∧
      (∀ fits : Bool, cell.field 19 17 = 2 → Completes (.ttWindowStart n fits) s fun u =>
          u.bus n = { x with col := x.col + 1, window := .expect obj false } ∧
          (∀ c : Nat, c ≠ n → u.bus c = s.bus c) ∧ u = { s with buses := u.buses }) ∧
      (∀ fits : Bool, cell.field 19 17 = 4 → x.window = .arbitrate → Completes (.ttWindowStart n fits) s fun u =>
          u.bus n = { x with col := x.col + 1 } ∧ (∀ c : Nat, c ≠ n → u.bus c = s.bus c) ∧ u = { s with buses := u.buses }) ∧
      (∀ fits : Bool, cell.field 19 17 = 3 → x.waitRef = false → Completes (.ttWindowStart n fits) s fun u =>
          u.bus n = { x with col := x.col + 1, window := .arbitrate } ∧
          (∀ c : Nat, c ≠ n → u.bus c = s.bus c) ∧ u = { s with buses := u.buses })) ∧
    (∀ o : Nat,
      (x.window = .send o false → Completes (.ttWindowEnd n) s fun u =>
        Misses n 0x011 x.cycle x.col o { x with missed := x.missed + 1, window := .idle } s u) ∧
      (x.window = .expect o false → Completes (.ttWindowEnd n) s fun u =>
        Misses n 0x010 x.cycle x.col o { x with missed := x.missed + 1, window := .idle } s u)) ∧
    (∀ (cycle : BitVec 6) (gap higher : Bool), 2 ≤ x.state ∨ (role = 2 ∧ higher = false) →
      exec (.referenceReceived n cycle gap higher) s = .next s) ∧
    (∀ (cycle : BitVec 6) (higher : Bool), x.state < 2 → role ≠ 2 ∨ higher = true →
      let refs := if x.refs ≠ 0 ∧ cycle.toNat ≠ (x.cycle + 1) % 64 then 1 else min 2 (x.refs + 1)
      (Completes (.referenceReceived n cycle true higher) s fun u =>
        Misses n 0x013 x.cycle x.col 0 { x with sync := false, refs := 0, window := .idle } s u) ∧
      (Completes (.referenceReceived n cycle false higher) s fun u =>
        u.bus n = { y with
          refs := refs, waitRef := false, cycle := cycle.toNat, col := 0, window := .reference, master := false,
          sync := (x.sync && !x.master) || decide (refs = 2) } ∧
        (∀ c : Nat, c ≠ n → u.bus c = s.bus c) ∧ u = { s with buses := u.buses, targets := u.targets })) ∧
    (x.master = false →
      (x.sync = true → Completes (.syncLost n) s fun u =>
        Misses n 0x012 x.cycle x.col 0 { x with sync := false, refs := 0, window := .idle } s u) ∧
      (x.sync = false → exec (.syncLost n) s = .next (s.modBus n fun x => { x with refs := 0 }))) ∧
    (x.master = true → exec (.syncLost n) s = .next s)

/-- LIN and 10BASE-T1S (R390 to R396, R475). A slot of a running schedule takes the next entry and sends, expects or leaves it
silent; a pending go-to-sleep command comes first and stops the schedule. A response to an expected slot is stored and compared with
the listening controller's, or counts as missing or bad and is reported. A wake-up pulse, or one heard from a responder, starts the schedule again 100 ms later, and wakes a
sleeping module where it is enabled. A beacon marks the configured satellites that answered; a lost one and a collision are
marked and reported. -/
def Obligations.LinAndSegments : Prop :=
  (∀ (s : State) (n : Fin 8),
    let b := 16 + (n : Nat)
    let x := s.bus b
    (busAccepts s b = true → busEnabled s b = true →
      (x.quiet = false → x.state = 0 → x.sleepReq = true → exec (.linSlot n) s = .next (busStateLater b 0x024 none
        (s.modBus b fun x => { x with state := 1, sleepReq := false, window := .idle }))) ∧
      (x.quiet = false → x.state = 0 → x.sleepReq = false → x.resume = [] →
        (s.liveReg (linAddr n 2)).field 19 18 = x.table → x.window ≠ .idle → x.entry + 1 < 32 →
        (let w := linEntry s n x.table (x.entry + 1)
         w.field 19 17 ≠ 0 → Completes (.linSlot n) s fun u =>
          u.bus b = { x with
            entry := x.entry + 1, window := linHeader s n x w,
            taken := match linHeader s n x w with | .send id _ => Sparse.get (fun _ => []) x.objects id | _ => x.taken,
            fresh := match linHeader s n x w with | .send id _ => x.fresh.filter (· ≠ id) | _ => x.fresh } ∧
          (∀ c : Nat, c ≠ b → u.bus c = s.bus c) ∧ u = { s with buses := u.buses })) ∧
      (x.state = 0 → exec (.linSleep n) s = .next (s.modBus b fun x => { x with sleepReq := true })) ∧
      (exec (.linWake n) s = .next (busStateLater b 0x025 none (s.modBus b fun x => { x with returning := true }))) ∧
      (s.pwr.committed = false → exec (.wakeReceived n) s =
        .next (busStateLater b 0x026 none (s.modBus b fun x => { x with returning := true }))) ∧
      (x.returning = true → exec (.linWakeRestart n) s = .next (s.modBus b fun x =>
        { x with
          state := 0, returning := false, sleepReq := false, table := (s.liveReg (linAddr n 2)).field 19 18, entry := 0,
          resume := [], window := .idle }))) ∧
    (busAccepts s b = false → asleep s = true → s.pwr.committed = false → (s.copyReg 0x9E006).bit (7 + n) = true → s.pwr.held = none →
      exec (.wakeReceived n) s = .next { s with pwr := { s.pwr with held := some (4, n) } }) ∧
    (∀ id : Nat,
      (x.window = .expect id false →
        (∀ (fr : List Word) (sof : Nat) (same : Bool),
          let v := s.modBus b fun x => { x with window := .expect id true }
          let differs : Prop := same = false ∧ (s.lane (otherLane x.tx)).inStep = true ∧ (freeSlot x).isSome = true
          (¬differs → exec (.linResponse n (.frame fr sof same)) s = .next (storeFrame b id 63 63 fr sof v)) ∧
          (differs → exec (.linResponse n (.frame fr sof same)) s =
            .next (storeFrame b id 63 63 fr sof (v.modBus b fun x => { x with mismatch := x.mismatch + 1 })))) ∧
        (Completes (.linResponse n .missing) s fun u =>
          Misses b 0x020 63 63 id { x with noResp := x.noResp + 1, window := .expect id true } s u) ∧
        (∀ p ∈ [(LinResult.checksum, 0x021), (.framing, 0x022), (.readback, 0x023)], Completes (.linResponse n p.1) s fun u =>
          Misses b p.2 63 63 id { x with bad := x.bad + 1, window := .expect id true } s u)) ∧
      (x.window = .send id false → busDown s b = false → x.waitRef = false → ∀ (fr : List Word) (sof : Nat) (same : Bool),
        exec (.linResponse n (.frame fr sof same)) s = .next (busSent b true id sof
          (s.modBus b fun x => { x with window := .send id true }))) ∧
      (x.window = .send id false → Completes (.linResponse n .readback) s fun u =>
        Misses b 0x023 63 63 id { x with bad := x.bad + 1, window := .send id true, fresh := x.fresh ++ [id] } s u))) ∧
  (∀ (s : State) (x : Fin 4),
    let b := 24 + (x : Nat)
    (∀ nodes : BitVec 8, busAccepts s b = true → busEnabled s b = true → (s.bus b).quiet = false → Completes (.plcaBeacon x nodes) s fun u =>
      (∀ k : Fin 8, (u.bus b).present.getLsbD k =
        ((s.bus b).present.getLsbD k || (nodes.getLsbD k && decide ((k : Nat) + 1 < (s.liveReg (tsAddr x 0)).field 18 15) &&
          (s.liveReg (tsAddr x (8 + k))).bit 19))) ∧
      u.bus b = { s.bus b with state := 1, present := (u.bus b).present } ∧
      (∀ c : Nat, c ≠ b → u.bus c = s.bus c) ∧ u = { s with buses := u.buses, targets := u.targets }) ∧
    (∀ k : Fin 8,
      ((s.liveReg (tsAddr x (8 + k))).bit 19 = true → (s.bus b).present.getLsbD k = true → exec (.satLost x k) s =
        .next (busStateLater b 0x030 (some (k + 1)) (s.modBus b fun y =>
          { y with
            present := y.present &&& ~~~(BitVec.ofNat 8 (2 ^ (k : Nat))), lost := y.lost ||| BitVec.ofNat 8 (2 ^ (k : Nat)) }))) ∧
      ((s.bus b).present.getLsbD k = false → exec (.satLost x k) s = .next s) ∧
      (busEnabled s b = true → (k : Nat) + 1 < (s.liveReg (tsAddr x 0)).field 18 15 → exec (.satCollision x k) s = .next (busStateLater b 0x032 (some (k + 1))
        (s.modBus b fun y => { y with collSeen := y.collSeen ||| BitVec.ofNat 8 (2 ^ (k : Nat)) })))))

/-! ### The Board and its arbiters (R122 to R150) -/

/-- What a Board request may reach (R122 to R124, R128, R132, R133, R137, R139, R500). A core's request below 20000h reaches its own
view: local data is written from the operand port and read into DATA. An address in no target is refused as out of range;
where no fixed check refuses, the matching entry of lowest index in the target's table decides by READ, WRITE and LOCK, and
without one the request is refused. A request that shows another attribute than its master's is none (the model's choice,
assumption log 87). A refused request is counted for the record of its target; of a core it reads 0 and sets
ACC, and of the host and of debug it does nothing else. -/
def Obligations.BoardRequestsAndTables : Prop :=
  (∀ (s : State) (l : Lane) (t : Fin 18) (m : Fin 32) (a : Word) (wr : Bool) (lk : LockFlag) (cycle : Nat),
     24 ≤ (m : Nat) ∨ 0x20000 ≤ a.toNat → verdict s m (masterSecure s m) a.toNat wr lk ≠ .ok →
       let v := refuseAccess m a.toNat wr 0 s
       exec (.boardRequest l t m (masterSecure s m) a wr lk cycle) s = .next (refuseMaster m wr v) ∧
       ((m : Nat) < 24 → (s.core m).localProg = false → refuseMaster m wr v = v.modCore m fun k =>
         { k with data := if wr = true then k.data else 0, flags := k.flags.setBit 4 true }) ∧
       ((m : Nat) ∈ [28, 29, 31] → refuseMaster m wr v = v)) ∧
  (∀ (s : State) (l : Lane) (t : Fin 18) (m : Fin 32) (secure : Bool) (a : Word) (wr : Bool) (lk : LockFlag) (cycle : Nat),
     secure ≠ masterSecure s m → exec (.boardRequest l t m secure a wr lk cycle) s = .next s) ∧
  (∀ (s : State) (l : Lane) (t : Fin 18) (c : Fin 24) (a : Word) (lk : LockFlag) (cycle : Nat),
     0xC000 ≤ a.toNat → a.toNat < 0x1C000 →
       exec (.boardRequest l t ⟨c, by omega⟩ (!(s.core c).localProg) a false lk cycle) s = .next (s.modCore c fun k =>
         { k with data := Sparse.get (fun _ => 0) k.localData a.toNat }) ∧
       exec (.boardRequest l t ⟨c, by omega⟩ (!(s.core c).localProg) a true lk cycle) s = .next (s.modCore c fun k =>
         { k with localData := Sparse.set (fun _ => 0) k.localData a.toNat (s.core c).lsuO })) ∧
  (∀ (s : State) (m : Nat) (secure : Bool) (a : Nat) (wr : Bool) (lk : LockFlag),
     (a < 0x20000 ∨ 0xA0000 ≤ a → verdict s m secure a wr lk = .range) ∧
     (∀ t : Nat, targetOf a = some t → fixedRefuses s t m secure a wr = false → ownSwin m a wr = false →
       ((∀ e : Nat, e < 64 → entryMatches s t e m secure a = false) → verdict s m secure a wr lk = .refused) ∧
       (∀ e : Nat, e < 64 → entryMatches s t e m secure a = true → (∀ d : Nat, d < e → entryMatches s t d m secure a = false) →
         let w := tableWord s.tables t e 0
         (((wr = true ∧ w.bit 7 = true) ∨ (wr = false ∧ w.bit 8 = true)) ∧ (lk = .start → w.bit 6 = true) →
           verdict s m secure a wr lk = .ok) ∧
         ((wr = true ∧ w.bit 7 = false) ∨ (wr = false ∧ w.bit 8 = false) ∨ (lk = .start ∧ w.bit 6 = false) →
           verdict s m secure a wr lk = .refused))))

/-- The arbiters (R140, R145). A permitted request of a master that has none outstanding at the target is granted at once where
the target is neither recovering nor occupied and is unlocked with an empty queue, or locked by this master; else it is parked
with its age, the cycle of its presentation; a second one of the same master waits. Where another request of the same cycle was
granted at once, but the scan from the pointer reaches the new one first, the new one has the grant and the other is parked. At a
decision nothing is granted while the target recovers or is occupied; under a lock the owner's request is granted, or none; else the
oldest, and of equal age the first from the pointer upwards, wrapping. After a grant the pointer is one past the master, the access
occupies the target, START locks the target and RELEASE unlocks it, and the grant, its wait and the longest wait are counted; the
access of a DMA engine or of the host, which follows its grant, counts the grant itself. A
core's parked load of Board SRAM then has its word, and a parked write of one is made. The pointer is 0 after a lane reset. -/
def Obligations.ArbitersGrantByAge : Prop :=
  let locked (m : Nat) (lk : LockFlag) (wr : Bool) (x : TargetLock) : TargetLock :=
    if lk = .release ∧ x.owner = some m then { x with owner := none, wrote := false }
    else
      let o := if lk = .start ∧ x.owner = none then some m else x.owner
      { x with owner := o, wrote := x.wrote || (wr && decide (o = some m)) }
  (∀ (s : State) (l : Lane) (t0 : Fin 18) (m : Fin 32) (a : Word) (wr : Bool) (lk : LockFlag) (cycle t : Nat),
     24 ≤ (m : Nat) ∨ 0x20000 ≤ a.toNat → verdict s m (masterSecure s m) a.toNat wr lk = .ok → targetOf a.toNat = some t →
       let i := arbIndex t ((a.toNat - 0x20000) / 0x8000)
       let g := s.lane l
       let x := g.arb i
       let waits : Prop := ∃ b : Fin 8, ∃ q ∈ (g.arb (arbIndex t b)).queue, q.master = m
       let free := (g.lock t).recovering = false ∧ x.busyUntil ≤ cycle ∧
         (((g.lock t).owner = none ∧ x.queue = []) ∨ (g.lock t).owner = some (m : Nat))
       (waits → exec (.boardRequest l t0 m (masterSecure s m) a wr lk cycle) s = .next s) ∧
       (¬waits → (∀ b, x.atOnce = some b → b.req.age ≠ cycle) →
         (free → Completes (.boardRequest l t0 m (masterSecure s m) a wr lk cycle) s fun u =>
           (u.lane l).arb i = ⟨((m : Nat) + 1) % 32, x.queue, cycle + (if t ≤ 1 then 1 else 12),
             some ⟨⟨m, cycle, lk, wr, none⟩, x.pointer, x.busyUntil, g.lock t, g.counter t m⟩⟩ ∧
           (u.lane l).lock t = locked m lk wr (g.lock t) ∧
           (u.lane l).counter t m = { g.counter t m with
             grants := min (2 ^ 60 - 1) ((g.counter t m).grants + 1), waits := min (2 ^ 60 - 1) (g.counter t m).waits } ∧
           u = s.setLane l (u.lane l)) ∧
         (¬free → Completes (.boardRequest l t0 m (masterSecure s m) a wr lk cycle) s fun u =>
           (u.lane l).arb i = { x with queue := x.queue ++ [⟨m, cycle, lk, wr, none⟩] } ∧ u = s.setLane l (u.lane l))) ∧
       (∀ b : AtOnce, ¬waits → x.atOnce = some b → b.req.age = cycle → b.lock.owner = none → b.req.master ≠ m →
         (((m : Nat) + 32 - b.pointer) % 32 < (b.req.master + 32 - b.pointer) % 32) →
         Completes (.boardRequest l t0 m (masterSecure s m) a wr lk cycle) s fun u =>
           (u.lane l).arb i = ⟨((m : Nat) + 1) % 32, b.req :: x.queue, cycle + (if t ≤ 1 then 1 else 12), none⟩ ∧
           (u.lane l).lock t = locked m lk wr b.lock ∧ (u.lane l).counter t b.req.master = b.counter ∧
           ((u.lane l).counter t m).grants = min (2 ^ 60 - 1) ((g.counter t m).grants + 1) ∧
           u = s.setLane l (u.lane l))) ∧
  (∀ (s : State) (l : Lane) (t : Fin 18) (bank : Fin 8) (cycle : Nat),
     let i := arbIndex t bank
     let g := s.lane l
     let x := g.arb i
     let above (q : BoardReq) : Nat := (q.master + 32 - x.pointer) % 32
     ((g.lock t).recovering = true ∨ cycle < x.busyUntil → exec (.arbiterGrant l t bank cycle) s = .next s) ∧
     (x.queue = [] → exec (.arbiterGrant l t bank cycle) s = .next s) ∧
     (∀ o : Nat, (g.lock t).owner = some o → (∀ q ∈ x.queue, q.master ≠ o) →
       exec (.arbiterGrant l t bank cycle) s = .next s) ∧
     (∀ r ∈ x.queue, (g.lock t).recovering = false → x.busyUntil ≤ cycle → (x.queue.Pairwise fun p q => p.master ≠ q.master) →
       (g.lock t).owner = some r.master ∨ ((g.lock t).owner = none ∧
         ∀ q ∈ x.queue, q ≠ r → r.age < q.age ∨ (r.age = q.age ∧ above r < above q)) →
       let c := g.counter t r.master
       let granted (u : State) : Prop :=
         (u.lane l).arb i = ⟨(r.master + 1) % 32, x.queue.filter fun q => decide (q.master ≠ r.master),
           cycle + (if (t : Nat) ≤ 1 then 1 else 12), none⟩ ∧
         (u.lane l).lock t = locked r.master r.lock r.wr (g.lock t) ∧
         (u.lane l).counter t r.master = ⟨min (2 ^ 60 - 1) (c.grants + 1) -
             (if 24 ≤ r.master ∧ r.master < 30 ∧ r.put = none then 1 else 0),
           min (2 ^ 60 - 1) (c.waits + if cycle - r.age = 0 then 0 else 1), max c.longest (min 0xFFFFF (cycle - r.age))⟩
       ((24 ≤ r.master ∧ r.put = none ∧ (r.master < 28 → (s.dma (r.master - 24)).busy = false)) ∨ l ≠ viewLane s →
        Completes (.arbiterGrant l t bank cycle) s fun u =>
         granted u ∧ u = s.setLane l (u.lane l)) ∧
       (∀ (a : Nat) (v : Word), l = viewLane s → r.put = some (a, v) → 0x20000 ≤ a → a < 0x60000 →
         Completes (.arbiterGrant l t bank cycle) s fun u =>
           granted u ∧ u = (s.setLane l (u.lane l)).setSram a v) ∧
       (∀ a d : Word, (t : Nat) = 0 → r.master < 24 → r.put = none → l = viewLane s →
         (s.core r.master).wait = some ⟨a, false, .none, d⟩ →
         (s.core r.master).state = .running → 0x20000 ≤ a.toNat → a.toNat < 0x60000 →
         Completes (.arbiterGrant l t bank cycle) s fun u =>
           granted u ∧ u.core r.master = { s.core r.master with wait := none, data := s.sramWord a.toNat } ∧
           (∀ b : Nat, u.sramWord b = s.sramWord b)))) ∧
  (∀ (s : State) (l : Lane), s.upd.stage = .idle → s.lanes.castle = none →
     (∀ t : Nat, ((s.lane (otherLane l)).lock t).owner ≠ some 30) →
     Completes (.laneWatchdog l) s fun u => ∀ i : Nat, (u.lane l).arb i = ⟨0, [], 0, none⟩)

/-- The access tables (R136). A write of entry 1 to 63 goes to the shadow and entry 0 ignores it; COMMIT waits; neither changes
what any request may reach. Phase A of the next ply, which begins at its boundary, takes the shadow where a COMMIT waits. The
tables are one state for both lanes. -/
def Obligations.TablesTakeEffectAtTheBoundary : Prop :=
  (∀ (s : State) (t : Fin 18) (e : Fin 64) (w : Fin 3) (v : Word),
    ((e : Nat) = 0 → exec (.accessTableWrite t e w v) s = .next s) ∧
    ((e : Nat) ≠ 0 → Completes (.accessTableWrite t e w v) s fun u =>
      u = { s with
        shadow := Sparse.set (fun _ => 0) s.shadow (0x9B000 + 0xC0 * t + 3 * e + w)
          (if (w : Nat) = 0 then v &&& 0xFFFE0 else v) } ∧
      ∀ (m : Nat) (secure : Bool) (a : Nat) (wr : Bool) (lk : LockFlag),
        verdict u m secure a wr lk = verdict s m secure a wr lk)) ∧
  (∀ s : State, Completes .commit s fun u => u = { s with commitPend := true } ∧
    ∀ (m : Nat) (secure : Bool) (a : Nat) (wr : Bool) (lk : LockFlag), verdict u m secure a wr lk = verdict s m secure a wr lk) ∧
  (∀ s : State, s.lanes.castle = none → s.upd.stage = .idle →
    (phaseA s).tables = (if s.commitPend = true then s.shadow else s.tables) ∧ (phaseA s).commitPend = false) ∧
  (∀ s : State, s.seq.running = true → s.seq.ended = false → (activeLane s).isSome = true → s.seq.spilled = 0 →
    s.seq.held = [] → s.seq.window = [] → s.seq.next % 2 ^ 40 ≠ 0 → s.seq.next + 1 < 2 ^ 60 → s.ply.phase = .none →
    s.lanes.promo = none → s.lanes.castle = none → s.upd.stage = .idle →
    Completes .plyBoundary s fun u =>
      u.tables = (if s.commitPend = true then s.shadow else s.tables) ∧ u.commitPend = false ∧ u.ply.phase = .a)

/-- Locks, counters and window banks (R144, R147, R148, R150). An abandoned lock is free and names its master, and its target
recovers while there is something to undo: of the cross-link, the non-volatile memory and the secure element where the owner has
written under the lock, of the bus queues where it has left a frame partly written, which is discarded, of the arbiter registers
where the shadow differs from the tables, whose values it then takes, and of every other target but those of the tiles and
mailboxes never; the target of the other lane recovers with it where its lock of the same master was abandoned before. CLEAR empties the counters of one target and
master and CLEAR_ALL every one, in both lanes; a target above 17 is refused. Reading the grants latches the seven words for the reader.
A master writes its own window bank; another's only a secure core. -/
def Obligations.LocksAndCounters : Prop :=
  (∀ (s : State) (l : Lane) (t : Fin 18),
    (((s.lane l).lock t).owner = none → exec (.lockAbandoned l t) s = .next s) ∧
    (∀ m : Nat, ((s.lane l).lock t).owner = some m →
      let wrote := ((s.lane l).lock t).wrote
      let part := decide (∃ b : Fin 28, (s.bus b).part = some m)
      let other := (s.lane (otherLane l)).lock t
      let both := other.recovering && decide (other.abandonedId = m)
      (Completes (.lockAbandoned l t) s fun u => ∃ r : Bool, (u.lane l).lock t = ⟨none, true, m, r, false⟩) ∧
      ((s.lane l).role ≠ .active →
        ((t : Nat) ∉ [2, 8, 10, 11, 14, 16, 17] → exec (.lockAbandoned l t) s =
          .next (s.modLane l fun g => g.setLock t ⟨none, true, m, both, false⟩)) ∧
        ((t : Nat) ∈ [14, 16, 17] → exec (.lockAbandoned l t) s =
          .next (s.modLane l fun g => g.setLock t ⟨none, true, m, wrote || both, false⟩)) ∧
        ((t : Nat) = 8 → Completes (.lockAbandoned l t) s fun u =>
          (u.lane l).lock t = ⟨none, true, m, part || both, false⟩ ∧ (∀ b : Fin 28, (u.bus b).part ≠ some m) ∧
          (part = false → u.buses = s.buses)) ∧
        ((t : Nat) = 11 → exec (.lockAbandoned l t) s = .next ({ s with shadow := s.tables }.modLane l
          fun g => g.setLock t ⟨none, true, m, decide (s.shadow ≠ s.tables) || both, false⟩)))) ∧
    exec (.lockRecoveryEnd l t) s = .next (s.modLane l fun g => g.setLock t { g.lock t with recovering := false }) ∧
    (∀ m : Fin 32, exec (.arbGrantsRead l m) s = .next (s.modLane l fun g =>
      { g with arbLatch := Sparse.put g.arbLatch m (
        let c := g.counter ((s.copyReg 0x9BE01).field 19 15) ((s.copyReg 0x9BE01).field 14 10)
        wordsOf c.grants 3 ++ wordsOf c.waits 3 ++ [Word.ofN c.longest]) }))) ∧
  (∀ (s : State) (t m : BitVec 5),
    (t.toNat ≤ 17 →
      (Completes (.clear t m) s fun u =>
        (∀ l : Lane, (u.lane l).counter t.toNat m.toNat = ⟨0, 0, 0⟩ ∧
          ∀ t' m' : Nat, 32 * t' + m' ≠ 32 * t.toNat + m.toNat → (u.lane l).counter t' m' = (s.lane l).counter t' m') ∧
        u = { s with copy := u.copy, white := u.white, black := u.black }) ∧
      (Completes (.clearAll t m) s fun u =>
        (∀ (l : Lane) (t' m' : Nat), (u.lane l).counter t' m' = ⟨0, 0, 0⟩) ∧
        u = { s with copy := u.copy, white := u.white, black := u.black })) ∧
    (17 < t.toNat → exec (.clear t m) s =
      .next (writeRefused 0 0x9BE01 (Word.ofN (t.toNat * 2 ^ 15 + m.toNat * 2 ^ 10 + 2 ^ 9)) s))) ∧
  (∀ (s : State) (w m : Fin 32) (v : Word),
    (w = m → (w : Nat) ≠ 31 → lockedOut s (viewLane s) 11 w = false → exec (.arbSwinWrite w m v) s =
      .next ((countAccess (computing s) w (0x9BE40 + m) true s).setCopy (0x9BE40 + m) (v &&& 3))) ∧
    (w ≠ m → 24 ≤ (w : Nat) → exec (.arbSwinWrite w m v) s =
      .next (refuseMaster w true (refuseAccess w (0x9BE40 + m) true v s))))

/-- Writes of a master through the Board (R130, R137, R142, R144, R145, R541, R542): a permitted write of Board SRAM changes that word
alone, and its grant moves the pointer and is counted in each lane that computes the ply; a debug write marks that the lanes now differ
in Board SRAM; where another master has locked the target the write waits there; a refused one is counted for the record of its target
and has its master's consequence. A core's write of its log port leaves its record for the end of the ply, and another master's is
refused. When debug is disabled, the locks it holds are abandoned. -/
def Obligations.MasterWrites : Prop :=
  (∀ (s : State) (m a : Nat) (t : Nat), targetOf a = some t →
    let v := countAccess (computing s) m a true s
    let i := arbIndex t ((a - 0x20000) / 0x8000)
    v = { s with white := v.white, black := v.black } ∧
    ∀ l : Lane, ((s.lane l).inStep = false → v.lane l = s.lane l) ∧
      ((s.lane l).inStep = true →
        (v.lane l).arb i = { (s.lane l).arb i with pointer := (m + 1) % 32, atOnce := none } ∧
        ((v.lane l).counter t m).grants = min (2 ^ 60 - 1) (((s.lane l).counter t m).grants + 1) ∧
        ((v.lane l).lock t).owner = ((s.lane l).lock t).owner)) ∧
  (∀ (s : State) (m : Fin 32) (a v : Word),
    let grant := countAccess (computing s) m a.toNat true s
    (verdict s m (masterSecure s m) a.toNat true .none = .ok → 0x20000 ≤ a.toNat → a.toNat < 0x60000 →
      (lockedOut s (viewLane s) 0 m = false →
        ((m : Nat) ≠ 31 → exec (.registerWrite m a v) s = .next (grant.setSram a.toNat v)) ∧
        ((m : Nat) = 31 → Completes (.registerWrite m a v) s fun u =>
          u = { grant.setSram a.toNat v with ply := { s.ply with debugged := some 3 } })) ∧
      (let l := viewLane s
       lockedOut s l 0 m = true → (s.lane (otherLane l)).inStep = false →
       (∀ b : Fin 8, ∀ q ∈ ((s.lane l).arb (arbIndex 0 b)).queue, q.master ≠ (m : Nat)) →
        Completes (.registerWrite m a v) s fun u =>
          let i := arbIndex 0 ((a.toNat - 0x20000) / 0x8000)
          (∃ q, ((u.lane l).arb i).queue = ((s.lane l).arb i).queue ++ [q] ∧ q.master = (m : Nat) ∧ q.put = some (a.toNat, v)) ∧
          u = s.setLane l (u.lane l))) ∧
    (24 ≤ (m : Nat) ∨ 0x20000 ≤ a.toNat → verdict s m (masterSecure s m) a.toNat true .none ≠ .ok →
      exec (.registerWrite m a v) s = .next (refuseMaster m true (refuseAccess m a.toNat true v s)))) ∧
  (∀ (s : State) (c : Fin 24) (v : Word),
    let a := 0x9C040 + 4 * (c : Nat)
    let w := s.copyReg a
    let grant := countAccess (computing s) c (a + 3) true s
    (verdict s c (masterSecure s c) (a + 3) true .none = .ok → (∀ t, targetOf a = some t → lockedOut s (viewLane s) t c = false) →
      (s.core c).localProg = false ∨ w.field 19 12 = 0x10 →
      exec (.scoLogWrite ⟨c, by omega⟩ c v) s = .next { grant with ply := { s.ply with
        logRecs := s.ply.logRecs ++ [((c : Nat), ⟨w.field 19 12, w.field 11 0, s.copyReg (a + 1), s.copyReg (a + 2), v⟩)] } }) ∧
    (∀ m : Fin 32, 24 ≤ (m : Nat) → exec (.scoLogWrite m c v) s =
      .next (refuseMaster m true (refuseAccess m (a + 3) true v s)))) ∧
  (∀ s : State, exec .dbgEnDeactivation s = .next (abandonLocks 31 { s with sup := { s.sup with dbgEn := false } })) ∧
  (∀ s : State, (∀ (l : Lane) (t : Nat), ((s.lane l).lock t).owner ≠ some 31) →
    exec .dbgEnDeactivation s = .next { s with sup := { s.sup with dbgEn := false } })

/-- Posts and acknowledgements of a mailbox (R444 to R447, R458, R461): a permitted post takes the first LEN words of the compose
window of its channel, for the next phase A; more than eight are refused; a permitted acknowledgement takes no more messages than
are pending, at most eight; a post by another master than the sender, an acknowledgement by another than the receiver, and each of
them on a disabled channel, is refused. -/
def Obligations.MailboxPostAndAck : Prop :=
  ∀ (s : State) (m : Fin 32) (k : Fin 48) (v : Word), (m : Nat) ≠ 31 → lockedOut s (viewLane s) 10 m = false →
    let permitted (a : Nat) : Prop := verdict s m (masterSecure s m) a true .none = .ok
    (let a := 0x9AC00 + 8 * (k : Nat) + 1
     let grant := countAccess (computing s) m a true s
     (permitted a →
       (m : Nat) = mbxSender s k ∧ mbxOn s k = true ∧
       (v.field 3 0 ≤ 8 → v.bit 19 = true → exec (.post m k v) s = .next { grant with mbx := { s.mbx with
         posts := s.mbx.posts ++ [((k : Nat), (List.range (v.field 3 0)).map fun i => s.copyReg (0x9AE00 + 8 * k + i))] } }) ∧
       (v.field 3 0 ≤ 8 → v.bit 19 = false → exec (.post m k v) s = .next grant) ∧
       (8 < v.field 3 0 → exec (.post m k v) s = .next (writeRefused m a v grant))) ∧
     ((m : Nat) ≠ mbxSender s k ∨ mbxOn s k = false →
       exec (.post m k v) s = .next (refuseMaster m true (refuseAccess m a true v s)))) ∧
    (let a := 0x9AC00 + 8 * (k : Nat) + 7
     let grant := countAccess (computing s) m a true s
     let n := v.field 19 16
     let taken := ((s.mbx.acks.filter fun p => p.1 = (k : Nat)).map (·.2)).sum
     (permitted a →
       (m : Nat) = mbxReceiver s k ∧ mbxOn s k = true ∧
       (1 ≤ n → n ≤ 8 → n + taken ≤ (s.box k).queue.length →
         exec (.mbxAck m k v) s = .next { grant with mbx := { s.mbx with acks := s.mbx.acks ++ [((k : Nat), n)] } }) ∧
       (8 < n ∨ (s.box k).queue.length < n + taken → exec (.mbxAck m k v) s = .next (writeRefused m a v grant))) ∧
     ((m : Nat) ≠ mbxReceiver s k ∨ mbxOn s k = false →
       exec (.mbxAck m k v) s = .next (refuseMaster m true (refuseAccess m a true v s))))

/-! ### Kwask cores (R489 to R513) -/

/-- The ALU, with A the word of the trigger and O its operand port (R495, R496, R499): the result is ready in the next cycle;
ADD and SUB set C to the carry and the borrow and V where the signed result is out of range, NEG sets V for the most negative
number, V is sticky, and the other operations change no flag.
Shifts, multiplications and divisions (R495, R496, R499): a shift count of 20 or more gives 0, or the sign for SAR; a
product is 40 bits in HI and LO, ready after three cycles; a division, ready after 22, truncates towards zero with the
remainder of A's sign; by 0 it gives the largest quotient of A's sign (FFFFFh for DIVU) and A, and sets DZ; −2¹⁹ by −1 gives
−2¹⁹ and 0 and sets V. Saturating arithmetic (R495, R499): the exact result, rounded to nearest with ties away from zero for
the Q1.19 product, is clamped to the signed range, and SAT sets, and stays set, where it was clamped. -/
def Obligations.UnitResults : Prop :=
  (∀ (s : State) (c : Fin 24) (a : Word) (t : Nat), Issues s c 0 t →
     let k := s.core c
     let o := k.aluO
     let f := k.flags
     let gives (i : Instr) (w : Word) (cy v : Bool) : Prop := Completes i s fun u =>
       CoreIs c { k.after 0 t (t + 1) with alu := w, flags := (u.core c).flags } s u ∧
       FlagsAre cy v (f.bit 2) (f.bit 3) f (u.core c).flags
     let out (n : Int) : Bool := decide (n < -524288 ∨ 524287 < n)
     let bool (b : Bool) : Word := if b then 1 else 0
     gives (.add c a) (a + o) (decide (2 ^ 20 ≤ a.toNat + o.toNat)) (f.bit 1 || out (a.s20 + o.s20)) ∧
     gives (.sub c a) (a - o) (decide (a.toNat < o.toNat)) (f.bit 1 || out (a.s20 - o.s20)) ∧
     gives (.and c a) (a &&& o) (f.bit 0) (f.bit 1) ∧
     gives (.or c a) (a ||| o) (f.bit 0) (f.bit 1) ∧
     gives (.xor c a) (a ^^^ o) (f.bit 0) (f.bit 1) ∧
     gives (.neg c a) (-a) (f.bit 0) (f.bit 1 || decide (a = 0x80000)) ∧
     gives (.eq c a) (bool (decide (a = o))) (f.bit 0) (f.bit 1) ∧
     gives (.lt c a) (bool (decide (a.s20 < o.s20))) (f.bit 0) (f.bit 1) ∧
     gives (.ltu c a) (bool (decide (a.toNat < o.toNat))) (f.bit 0) (f.bit 1)) ∧
  (∀ (s : State) (c : Fin 24) (a : Word) (t : Nat),
     let k := s.core c
     let f := k.flags
     (Issues s c 1 t →
       let o := k.shuO
       let gives (i : Instr) (w : Word) : Prop := Completes i s fun u => CoreIs c { k.after 1 t (t + 1) with shu := w, flags := (u.core c).flags } s u ∧
         FlagsAre (f.bit 0) (f.bit 1) (f.bit 2) (f.bit 3) f (u.core c).flags
       gives (.shl c a) (if 20 ≤ o.toNat then 0 else a <<< o.toNat) ∧
       gives (.shr c a) (if 20 ≤ o.toNat then 0 else a >>> o.toNat) ∧
       gives (.sar c a) (if 20 ≤ o.toNat then (if 0 ≤ a.s20 then 0 else 0xFFFFF) else a.sshiftRight o.toNat)) ∧
     (Issues s c 2 t →
       let o := k.mulO
       let gives (i : Instr) (p : Word → Word → Prop) : Prop := Completes i s fun u =>
         CoreIs c { k.after 2 t (t + 3) with hi := (u.core c).hi, lo := (u.core c).lo, flags := (u.core c).flags } s u ∧
         p (u.core c).hi (u.core c).lo ∧ FlagsAre (f.bit 0) (f.bit 1) (f.bit 2) (f.bit 3) f (u.core c).flags
       gives (.muls c a) (fun hi lo => (hi ++ lo).toInt = a.s20 * o.s20) ∧
       gives (.mulu c a) (fun hi lo => (hi ++ lo).toNat = a.toNat * o.toNat)) ∧
     (Issues s c 3 t →
       let o := k.divO
       let gives (i : Instr) (q r : Word) (v dz : Bool) : Prop := Completes i s fun u =>
         CoreIs c { k.after 3 t (t + 22) with quo := q, rem := r, flags := (u.core c).flags } s u ∧
         FlagsAre (f.bit 0) (f.bit 1 || v) (f.bit 2 || dz) (f.bit 3) f (u.core c).flags
       (o = 0 → gives (.divs c a) (if 0 ≤ a.s20 then 0x7FFFF else 0x80000) a false true ∧
         gives (.divu c a) 0xFFFFF a false true) ∧
       (a = 0x80000 → o = 0xFFFFF → gives (.divs c a) 0x80000 0 true false) ∧
       (o ≠ 0 → a ≠ 0x80000 ∨ o ≠ 0xFFFFF → ∃ q r : Word, gives (.divs c a) q r false false ∧
         q.s20 = Int.tdiv a.s20 o.s20 ∧ r.s20 = Int.tmod a.s20 o.s20) ∧
       (o ≠ 0 → ∃ q r : Word, gives (.divu c a) q r false false ∧
         q.toNat = a.toNat / o.toNat ∧ r.toNat = a.toNat % o.toNat))) ∧
  (∀ (s : State) (c : Fin 24) (a : Word) (t : Nat), Issues s c 4 t →
     let k := s.core c
     let f := k.flags
     let o := k.satO
     let gives (i : Instr) (n : Int) : Prop := Completes i s fun u =>
       CoreIs c { k.after 4 t (t + 1) with sat := (u.core c).sat, flags := (u.core c).flags } s u ∧
       (u.core c).sat.s20 = max (-524288) (min 524287 n) ∧
       FlagsAre (f.bit 0) (f.bit 1) (f.bit 2) (f.bit 3 || decide (n < -524288 ∨ 524287 < n)) f (u.core c).flags
     let p := a.s20 * o.s20
     gives (.sadd c a) (a.s20 + o.s20) ∧ gives (.ssub c a) (a.s20 - o.s20) ∧ gives (.sneg c a) (-a.s20) ∧
     gives (.sabs c a) (if a.s20 < 0 then -a.s20 else a.s20) ∧
     gives (.smul c a) (if 0 ≤ p then (p + 2 ^ 18) / 2 ^ 19 else -((-p + 2 ^ 18) / 2 ^ 19)))

/-- Loads and stores (R495, R496, R500, R504). In the core-local view they reach local data, whatever lock they ask for, and
complete in two cycles; a refused load of firmware reads 0 and sets ACC. In Board SRAM, where the core's lane alone computes
the ply, the access is permitted and its arbiter is free, they are granted at once and complete in six cycles: the word is
read or written, LD_L and ST_L take the lock and LD_U and ST_U give it up. -/
def Obligations.LoadsAndStores : Prop :=
  ∀ (s : State) (c : Fin 24) (a : Word) (t : Nat), Issues s c 5 t → (s.core c).wait = none →
    let k := s.core c
    let v := k.lsuO
    (0xC000 ≤ a.toNat → a.toNat < 0x1C000 →
      (∀ i ∈ [Instr.ld c a, Instr.ldL c a, Instr.ldU c a], Completes i s
        (CoreIs c { k.after 5 t (t + 2) with data := Sparse.get (fun _ => 0) k.localData a.toNat } s)) ∧
      (∀ i ∈ [Instr.st c a, Instr.stL c a, Instr.stU c a], Completes i s
        (CoreIs c { k.after 5 t (t + 2) with localData := Sparse.set (fun _ => 0) k.localData a.toNat v } s))) ∧
    (0x1C201 ≤ a.toNat → a.toNat < 0x20000 → k.localProg = false → Completes (.ld c a) s
      (CoreIs c { k.after 5 t (t + 2) with data := 0, flags := k.flags.setBit 4 true } s)) ∧
    (let l := viewLane s
     let g := s.lane l
     let i := (a.toNat - 0x20000) / 0x8000
     0x20000 ≤ a.toNat → a.toNat < 0x60000 → (s.lane (otherLane l)).inStep = false → (g.lock 0).recovering = false →
     (g.arb i).busyUntil ≤ laneCycle s t → (∀ b : Fin 8, ∀ q ∈ (g.arb b).queue, q.master ≠ c) →
     ((g.lock 0).owner = none ∧ (g.arb i).queue = []) ∨ (g.lock 0).owner = some (c : Nat) →
      (∀ (ins : Instr) (lk : LockFlag), (ins, lk) ∈ [(Instr.ld c a, LockFlag.none), (Instr.ldL c a, .start), (Instr.ldU c a, .release)] →
        verdict s c (masterSecure s c) a.toNat false lk = .ok → Completes ins s fun u =>
          u.core c = { k.after 5 t (t + 6) with data := s.sramWord a.toNat } ∧
          (u.lane l).lock 0 = (g.lock 0).grant c lk false ∧ (∀ b : Nat, u.sramWord b = s.sramWord b) ∧
          (∀ d : Nat, d ≠ c → u.core d = s.core d) ∧
          u = { s with cores := u.cores, white := u.white, black := u.black }) ∧
      (∀ (ins : Instr) (lk : LockFlag), (ins, lk) ∈ [(Instr.st c a, LockFlag.none), (Instr.stL c a, .start), (Instr.stU c a, .release)] →
        verdict s c (masterSecure s c) a.toNat true lk = .ok → Completes ins s fun u =>
          u.core c = k.after 5 t (t + 6) ∧ (u.lane l).lock 0 = (g.lock 0).grant c lk true ∧
          u.sramWord a.toNat = v ∧ (∀ b : Nat, b ≠ a.toNat → u.sramWord b = s.sramWord b) ∧
          (∀ d : Nat, d ≠ c → u.core d = s.core d) ∧
          u = { s with cores := u.cores, white := u.white, black := u.black, sram := u.sram }))

/-- Branches, stacks and flags (R494 to R498, R502, R503, R505). A taken jump, call or return costs a cycle more; CALL keeps the
next bundle on the return stack of 64 places and RET takes it back; PUSH and POP use the data stack of 256; FLAGS_CLR clears
the sticky flags written 1; HALT ends the work of the ply once every access has completed, and SLEEP of a core but 0 clears
the core as well; a local program that reaches its limit stops with cause 3. -/
def Obligations.BranchesAndStacks : Prop :=
  ∀ (s : State) (c : Fin 24) (a : Word),
    let k := s.core c
    (k.state = .running → k.done = false → k.used < kwLimit s c →
      (a.toNat ≤ 16383 →
        Completes (.jmp c a) s (CoreIs c { k with pc := a.toNat, used := k.used + 2 } s) ∧
        (k.bruO = 0 → Completes (.jz c a) s (CoreIs c { k with pc := a.toNat, used := k.used + 2 } s)) ∧
        (k.bruO ≠ 0 → Completes (.jnz c a) s (CoreIs c { k with pc := a.toNat, used := k.used + 2 } s)) ∧
        (k.rstack.length < 64 →
          Completes (.call c a) s (CoreIs c { k with pc := a.toNat, used := k.used + 2, rstack := (k.pc + 1) :: k.rstack } s))) ∧
      (k.pc < 16383 →
        (k.bruO ≠ 0 → Completes (.jz c a) s (CoreIs c { k with pc := k.pc + 1, used := k.used + 1 } s)) ∧
        (k.bruO = 0 → Completes (.jnz c a) s (CoreIs c { k with pc := k.pc + 1, used := k.used + 1 } s)) ∧
        (k.stack.length < 256 →
          Completes (.push c a) s (CoreIs c { k with pc := k.pc + 1, used := k.used + 1, stack := a :: k.stack } s)) ∧
        (∀ (w : Word) (st : List Word), k.stack = w :: st →
          Completes (.pop c) s (CoreIs c { k with pc := k.pc + 1, used := k.used + 1, stack := st } s)) ∧
        Completes (.flagsClr c a) s (CoreIs c { k with
          pc := k.pc + 1, used := k.used + 1, flags := k.flags &&& ~~~(a &&& 0x0001E) } s)) ∧
      (∀ (b : Nat) (st : List Nat), k.rstack = b :: st → b ≤ 16383 →
        Completes (.ret c) s (CoreIs c { k with pc := b, used := k.used + 2, rstack := st } s)) ∧
      (let e := max (k.used + 1) (k.readyAt 5)
       e < kwLimit s c →
        (let h : Kwask := { k with
            done := true, used := e, lastUsed := e, usedMax := max k.usedMax e, lastFlags := k.flags }
         Completes (.halt c) s (CoreIs c h s) ∧
         ((c : Nat) = 0 → Completes (.sleep c) s (CoreIs c h s))) ∧
        ((c : Nat) ≠ 0 → Completes (.sleep c) s fun u =>
          (u.core c).state = .sleeping ∧ (u.core c).g = [] ∧ (u.core c).flags = 0 ∧ (u.core c).stack = [] ∧
          (u.core c).rstack = [] ∧ (u.core c).program = k.program ∧ (u.core c).localData = k.localData ∧
          (u.core c).lastUsed = e ∧ (u.core c).lastFlags = k.flags ∧ CoreIs c (u.core c) s u))) ∧
    (k.state = .running → k.done = false → k.wait = none → (s.lane (viewLane s)).parked c = false → k.localProg = true → Completes (.budget c) s fun u =>
      CoreIs c { k with
        state := .stopped, cause := 3, lastFlags := k.flags, done := true, used := kwLimit s c, lastUsed := kwLimit s c,
        usedMax := max k.usedMax (kwLimit s c), stops := min (k.stops + 1) 0x3FF } { s with ply := u.ply } u ∧
      u.ply = { s.ply with recs := s.ply.recs ++
        [(⟨0x0D, 1, Word.ofN (0x9D101 + 8 * c), Word.ofN (c * 2 ^ 15 + 3), Word.ofN k.pc⟩, s.ply.at_)] })

/-- A bundle (R491, R492, R494, R503): all its moves read before any writes, so a bundle of a local program that moves two
registers into each other exchanges them, and a move whose guard does not hold does nothing; an undefined destination stops
the program with cause 5 at that bundle. -/
def Obligations.BundleReadsBeforeItWrites : Prop :=
  ∀ (s : State) (c : Fin 24) (i j : Fin 32),
    let k := s.core c
    let word (n : Nat) : Word := Sparse.get (fun _ => 0) k.program (3 * k.pc + n)
    k.state = .running → k.done = false → k.localProg = true → k.used < kwLimit s c → i ≠ j →
    (k.pc < 16383 → word 0 = Word.ofN (i * 2 ^ 11 + j * 4) → word 1 = Word.ofN (j * 2 ^ 11 + i * 4) →
      word 2 = Word.ofN (i * 2 ^ 11 + j * 4 + 1) → k.g0 = false → Completes (.bundleIssue c) s fun u =>
        (u.core c).reg i = k.reg j ∧ (u.core c).reg j = k.reg i ∧
        (∀ m : Nat, m ≠ i → m ≠ j → (u.core c).reg m = k.reg m) ∧
        CoreIs c { k with g := (u.core c).g, pc := k.pc + 1, used := k.used + 1 } s u) ∧
    (word 0 = Word.ofN (i * 2 ^ 11 + 0x7F * 4) → word 1 = Word.ofN (j * 2 ^ 11) → Completes (.bundleIssue c) s fun u =>
        (u.core c).state = .stopped ∧ (u.core c).cause = 5 ∧ (u.core c).g = k.g ∧ (u.core c).pc = k.pc)

/-- Control of the cores (R490, R505, R506, R510): a permitted write of KW_CTL keeps its bit for the next ply boundary; STOP,
SLEEP and RESET of core 0 and RUN of an unloaded core are refused with a record and kept for no boundary. Each takes a grant of the
target. -/
def Obligations.CoreControl : Prop :=
  ∀ (s : State) (m : Fin 32) (c : Fin 24),
    let a := 0x9D100 + 8 * (c : Nat)
    let grant := countAccess (computing s) m a true s
    (m : Nat) ≠ 31 → verdict s m (masterSecure s m) a true .none = .ok →
    (∀ t, targetOf a = some t → lockedOut s (viewLane s) t m = false) →
    ((s.core c).state ≠ .unloaded →
      Completes (.coreRun m c) s fun u => CoreIs c { s.core c with ctl := (s.core c).ctl ||| 0x80000 } grant u) ∧
    ((s.core c).state = .unloaded → exec (.coreRun m c) s = .next (writeRefused m a 0x80000 grant)) ∧
    ((c : Nat) ≠ 0 →
      (Completes (.coreStop m c) s fun u => CoreIs c { s.core c with ctl := (s.core c).ctl ||| 0x40000 } grant u) ∧
      (Completes (.coreSleep m c) s fun u => CoreIs c { s.core c with ctl := (s.core c).ctl ||| 0x20000 } grant u) ∧
      (Completes (.coreReset m c) s fun u => CoreIs c { s.core c with ctl := (s.core c).ctl ||| 0x10000 } grant u)) ∧
    ((c : Nat) = 0 →
      exec (.coreStop m c) s = .next (writeRefused m a 0x40000 grant) ∧
      exec (.coreSleep m c) s = .next (writeRefused m a 0x20000 grant) ∧
      exec (.coreReset m c) s = .next (writeRefused m a 0x10000 grant))

/-! ### The lanes and their plies (R60 to R121) -/

/-- Lane resets and withdrawals (R60, R62, R72, R87, R99). The lane is as after a reset: its cause is recorded, and what NVM,
the AO domain and the rails hold stays. The loads, the units and the supplies are untouched. Where the other lane computes
the plies it keeps the state that both compute; otherwise that state is gone. The other lane is as it was, but that an active one
sends again, first and as replays, the replies of the failed port to the requests of the last eight plies (R106). A lane that is
superseded also reads ISOLATED and is recorded, and has not failed its link. -/
def Obligations.LaneResets : Prop :=
  ∀ (s : State) (l : Lane), s.upd.stage = .idle → s.lanes.castle = none →
    (∀ t : Nat, ((s.lane (otherLane l)).lock t).owner ≠ some 30) →
    let o := otherLane l
    let g := s.lane l
    let resets := fun (c : Instr) (bit last : Nat) => Completes c s fun u =>
      u.lane l = { LaneSt.reset ((g.resetCause.setBit bit true).put 19 16 last)
          { g.nvm with life := g.lifeJournal, failImage := g.image } with
        coreOk := g.coreOk, ioOk := g.ioOk, anaOk := g.anaOk, restarted := true, startBlack := g.startBlack, image := g.image,
        barred := g.barred, linkBad := g.linkBad || decide (last = 0xE) } ∧
      (activeLane s ≠ some o → u.lane o = s.lane o) ∧
      (activeLane s = some o → u.lane o = { s.lane o with
        txq := ((g.sent ++ g.txq).filter fun f => decide (f.time ≤ s.now ∧ s.now ≤ f.time + 160000)).map (Frame.again o) ++
          (s.lane o).txq }) ∧
      u.sup = s.sup ∧ u.chans = s.chans ∧ u.douts = s.douts ∧ u.strs = s.strs ∧ u.mxs = s.mxs ∧
      u.acc = s.acc ∧ u.den = s.den ∧ u.pwr = s.pwr ∧ u.keys = s.keys ∧ u.now = s.now ∧ u.upd = s.upd ∧
      ((s.lane o).inStep = true →
        u = { s with
          free := s.free + 1, white := u.white, black := u.black, buses := u.buses,
          lanes := { s.lanes with
            orphans := u.lanes.orphans, linkFailed := if s.lanes.linkFailed = some l then none else s.lanes.linkFailed } } ∧
        (activeLane s = some l → (s.lane o).role = .standby → u.lanes.orphans = g.txq)) ∧
      ((s.lane o).inStep = false → u.ring = [] ∧ u.log = [] ∧ u.cores = [] ∧ u.copy = [] ∧ u.sram = [] ∧ u.tables = [] ∧
        u.seq = Seq.reset ∧ u.ply = Ply.reset ∧ u.host = HostSt.reset ∧ u.mbx = Mailboxes.reset ∧ u.buses = [])
    resets (.laneWatchdog l) 12 3 ∧ resets (.laneResetEvent l .watchdog) 12 3 ∧ resets (.laneResetEvent l .coreRail) 11 4 ∧
    resets (.laneResetEvent l .ioRail) 10 5 ∧ resets (.laneResetEvent l .anaRail) 9 6 ∧
    resets (.laneResetEvent l .memory) 8 7 ∧ resets (.laneResetEvent l .coreFault) 7 8 ∧
    resets (.laneResetEvent l .command) 6 9 ∧ resets (.laneResetEvent l .wake) 4 0xB ∧
    resets (.laneResetEvent l .update) 3 0xC ∧ resets (.laneResetEvent l .sequencer) 2 0xD ∧
    resets (.laneResetEvent l .link) 1 0xE ∧ resets (.uncorrectableError l) 8 7 ∧
    (∀ (c : Fin 24) (k : CoreFault), resets (.coreFault l c k) 7 8) ∧
    (∀ c : Fin 24, (s.core c).state = .running → (s.core c).done = false → (s.core c).wait = none → g.parked c = false →
      g.inStep = true →
      resets (.coreWatchdog l c) 7 8) ∧
    resets (.withdraw l .coreFault) 7 8 ∧ resets (.withdraw l .memory) 8 7 ∧ resets (.withdraw l .sequencer) 2 0xD ∧
    resets (.withdraw l .link) 1 0xE ∧ resets (.withdraw l .command) 6 9 ∧
    Completes (.superseded l) s fun u => ∃ v w, exec (.laneResetEvent l .link) s = .next v ∧
      w = v.setLane l { v.lane l with isolated := true, linkBad := g.linkBad } ∧ Posts w u ∧
      (Numbering w → Presented 0x3E [0x0000E, laneWord l, 0] (.upd [] [⟨1, 0x00E, 0x9D000, laneWord l, 0⟩]) w u)

/-- What a target does with a command (R89, R90, R92 to R94, R101, R558). It follows the lane that has claimed it. A command
of an older stamp is dropped; the count one above the last is applied; the last 524,288 counts are duplicates; at a gap the lane
sends again what it holds for the target, at most three times in a ply, and a target that this does not reach has failed its
command link. With a standby the command is held for its shadow. A keep-alive of the active lane, where the target follows
it in this ply, is a sign of life. A claim of a lane whose claims stand takes the target over, and a target without a claimant takes the count that the
lanes have reached. A shadow that differs, or does not come, is held for the target's next report. -/
def Obligations.TargetCommands : Prop :=
  ∀ (s : State) (t : Fin 45) (l : Lane),
    let g := s.tgt t
    let only := fun (h : Target) (u : State) =>
      u.tgt t = h ∧ (∀ k : Nat, k ≠ t → u.tgt k = s.tgt k) ∧ u = { s with targets := u.targets }
    (∀ (count : BitVec 20) (ply idx : Nat) (c : Content), (∀ n p i, c ≠ .claim n p i ∧ c ≠ .restore n p i) →
      g.handover = none →
      let d := (count.toNat + 2 ^ 20 - g.last) % 2 ^ 20
      (g.claimed ≠ some l → exec (.commandReceived t l count ply idx c) s = .next s) ∧
      (g.claimed = some l → (ply < g.stampPly ∨ (ply = g.stampPly ∧ idx < g.stampIdx) →
          exec (.commandReceived t l count ply idx c) s = .next (s.setTgt t { g with lastSign := s.clock })) ∧
        (g.stampPly < ply ∨ (ply = g.stampPly ∧ g.stampIdx ≤ idx) →
          (d = 0 ∨ 524289 ≤ d → Completes (.commandReceived t l count ply idx c) s
            (only { g with lastSign := s.clock, dups := g.dups + 1 })) ∧
          (2 ≤ d → d ≤ 524288 →
            let sends := Sparse.get (fun _ => 0) s.ply.resends t
            let resent := { s.ply with resends := Sparse.set (fun _ => 0) s.ply.resends t (sends + 1) }
            (sends < 3 → (∀ p ∈ s.log, ∀ e ∈ p.cmds, e.target = t →
                (e.count + 2 ^ 20 - g.last) % 2 ^ 20 = 0 ∨ d ≤ (e.count + 2 ^ 20 - g.last) % 2 ^ 20) →
              exec (.commandReceived t l count ply idx c) s =
                .next { s.setTgt t { g with lastSign := s.clock } with ply := resent }) ∧
            (∀ e : Emitted, sends < 3 → d = 2 → c = .park → e.content = .park → standbyLane s = none → g.last < 2 ^ 20 →
              e.count = (g.last + 1) % 2 ^ 20 → ((s.log.flatMap PlyLog.cmds).filter fun x =>
                decide (x.target = (t : Nat) ∧ (x.count + 2 ^ 20 - g.last) % 2 ^ 20 = 1)) = [e] →
              let v := s.setTgt t { g with lastSign := s.clock, last := (g.last + 1) % 2 ^ 20 }
              let w := parkTarget t { v with ply := resent }
              exec (.commandReceived t l count ply idx c) s =
                .next (parkTarget t (w.modTgt t fun h => { h with last := count.toNat }))) ∧
            (3 ≤ sends → exec (.commandReceived t l count ply idx c) s =
              .next { s.setTgt t { g with lastSign := s.clock } with
                lanes := { s.lanes with
                  linkFailed := if activeLane s = some l then some l else s.lanes.linkFailed } })) ∧
          (d = 1 → standbyLane s = none →
            (c = .park → Completes (.commandReceived t l count ply idx c) s fun u =>
              ∃ w, only { g with lastSign := s.clock, last := count.toNat } w ∧ u = parkTarget t w ∧
                (u.tgt t).parked = true) ∧
            (∀ p i : Nat, c = .handover p i → Completes (.commandReceived t l count ply idx c) s
              (only { g with lastSign := s.clock, last := count.toNat, handover := some (p, i) })) ∧
            (∀ a v : Word, c = .write a v → Completes (.commandReceived t l count ply idx c) s fun u =>
              ∃ w, only { g with lastSign := s.clock, last := count.toNat } w ∧ u = targetWrite t a.toNat v w) ∧
            (c = .close → Completes (.commandReceived t l count ply idx c) s fun u =>
              ∃ w, only { g with lastSign := s.clock, last := count.toNat, lastClose := s.clock } w ∧ u = targetClose t w)) ∧
          (d = 1 → (standbyLane s).isSome = true → (∀ h ∈ g.shadows, h.count ≠ count.toNat) → g.shadows.length < 64 →
            c = .park → Completes (.commandReceived t l count ply idx c) s fun u =>
              ∃ w, only { g with
                lastSign := s.clock, last := count.toNat, shadows := g.shadows ++ [⟨count.toNat, c, ply, idx, false⟩] } w ∧
                u = parkTarget t w)))) ∧
    (let n := s.ply.number
     let follows := fun (f : Lane) =>
       (g.claimed = some f → exec (.keepAlive l t) s = .next (s.setTgt t { g with lastSign := s.clock })) ∧
       (g.claimed ≠ some f → exec (.keepAlive l t) s = .next s)
     ((s.lane l).role ≠ .active → exec (.keepAlive l t) s = .next s) ∧
     ((s.lane l).role = .active → g.handover = none → follows l) ∧
     (∀ p i : Nat, (s.lane l).role = .active → g.handover = some (p, i) → (n < p ∨ (n = p ∧ 0 < i) → follows l) ∧
       (p < n ∨ (p = n ∧ i = 0) → follows (otherLane l)))) ∧
    (∀ ply idx : Nat,
      ((s.lane l).stale = true → exec (.claimReceived t l ply idx) s = .next s) ∧
      ((s.lane l).stale = false → Completes (.claimReceived t l ply idx) s fun u =>
        let h := u.tgt t
        let fresh := g.claimed.isNone || g.restoreWait || g.silent
        h.claimed = some l ∧ h.stampPly = ply ∧ h.stampIdx = (if fresh then idx + 1 else idx) ∧
        h.last = (if fresh then g.sent else g.last) ∧ h.silent = false ∧ h.timedOut = false ∧ h.restoreWait = false ∧
        h.parked = false ∧ h.handover = none ∧ h.shadows = [] ∧ h.shadowDue = none ∧ h.lastSign = s.clock ∧
        u.sram = s.sram ∧ u.cores = s.cores ∧ u.host = s.host ∧ u.ring = s.ring ∧ u.sup = s.sup)) ∧
    (∀ (count : BitVec 20) (c : Content),
      (g.claimed = none → exec (.shadowReceived t count c) s = .next s) ∧
      (g.claimed.isSome = true → (∀ h ∈ g.shadows, h.count ≠ count.toNat) → g.shadows.length < 64 →
        exec (.shadowReceived t count c) s =
          .next (s.setTgt t { g with shadows := g.shadows ++ [⟨count.toNat, c, 0, 0, true⟩] })) ∧
      (∀ h : HeldCmd, g.claimed.isSome = true → g.shadows = [h] → h.count = count.toNat → h.shadow = false →
        (h.content = c → exec (.shadowReceived t count c) s = .next (s.setTgt t { g with shadows := [] })) ∧
        (h.content ≠ c → Completes (.shadowReceived t count c) s (only { g with
          shadows := [], shadowDue := if g.shadowDue = none then some (false, count.toNat, h.ply, h.idx) else g.shadowDue })))) ∧
    (∀ count : BitVec 20,
      ((∀ h ∈ g.shadows, h.count = count.toNat → h.shadow = true) → exec (.shadowMissing t count) s = .next s) ∧
      (∀ h : HeldCmd, g.shadows = [h] → h.count = count.toNat → h.shadow = false →
        Completes (.shadowMissing t count) s (only { g with
          shadows := [], shadowDue := if g.shadowDue = none then some (true, count.toNat, h.ply, h.idx) else g.shadowDue }))) ∧
    (∀ (missing : Bool) (n p i : Nat), g.shadowDue = some (missing, n, p, i) →
      let u := presentShadow t s
      let v := s.setTgt t { g with shadowDue := none }
      Posts v u ∧ (Numbering s → Presented (sourceOf t)
        ([0x10001] ++ wordsOf p 3 ++ [Word.ofN i, if missing = true then 0x80000 else 0]) (.shadow t missing n) v u))

/-- Paths, joining, castling requests and promotion (R96, R99 to R101, R107, R109, R111, R116, R121). A path's change is
presented. JOIN_EN and DIV_UNLOCK let an OUT lane begin: equal identities bring it to stage 3, others leave it OUT. JOIN_EN
written 0 returns a joining lane past cut-over to stage 3 (the model's reading, assumption log 23). A transfer abandoned before its
cut-over is retried, and after the third the lane is OUT until JOIN_EN is written 0 and then 1. A time read latches the three words
of a time base within 5 ticks, 0 before the first ply. A standby that hears a withdrawal, or no marker, is active at once: it claims
every target, counts a promotion, and a silent lane's claims no longer stand; a joining lane starts alone. -/
def Obligations.JoiningAndPromotion : Prop :=
  ∀ s : State,
    (∀ p : Path, s.lanes.castle = none →
      let arg : Word := if p = .xa then 0 else 1
      let set := fun (v : Bool) =>
        { s with lanes := { s.lanes with xa := if p = .xa then v else s.lanes.xa, xb := if p = .xb then v else s.lanes.xb } }
      (Completes (.pathDown p) s fun u => Posts (set false) u ∧
        (Numbering s → Presented 0x3E [0x0000C, arg, 0] (.upd [] [⟨1, 0x00C, 0x9D000, arg, 0⟩]) (set false) u)) ∧
      (Completes (.pathUp p) s fun u => Posts (set true) u ∧
        (Numbering s → Presented 0x3E [0x0000D, arg, 0] (.upd [] [⟨1, 0x00D, 0x9D000, arg, 0⟩]) (set true) u))) ∧
    (Completes .laneCtlCastle s fun u => Posts s u ∧ (Numbering s → Presented 0x3E [0x00002] (.castle false) s u)) ∧
    (∀ a : Lane, activeLane s = some a → s.upd.stage = .idle →
      let l := otherLane a
      let g := s.lane l
      let same := decide (g.imageId = (s.lane a).imageId ∧ g.cfgDigest = (s.lane a).cfgDigest)
      let begins := fun (c : Instr) (n : Lanes) => Completes c s fun u =>
        (u.lane l).role = (if same then .joining else .out) ∧ (u.lane l).joinStage = (if same then 3 else 0) ∧
        (u.lane l).joinTries = 0 ∧ (u.lane l).boot = .started ∧ u.lanes = n ∧
        u = { s with seq := u.seq, white := u.white, black := u.black, lanes := u.lanes } ∧ (u.lane a).role = .active
      (g.role = .out → g.boot = .started → s.lanes.joinEn = false → s.lanes.divLock = false → g.linkBad = false →
        begins (.joinEn true) { s.lanes with joinEn := true }) ∧
      (g.role = .out → g.boot = .started → s.lanes.divLock = true → g.barred = false → g.linkBad = false →
        begins .divUnlock { s.lanes with divLock := false }) ∧
      (g.role ≠ .joining → exec (.joinEn false) s = .next { s with lanes := { s.lanes with joinEn := false } }) ∧
      (g.joinStage ≤ 3 → exec (.joinEn false) s = .next { s with lanes := { s.lanes with joinEn := false } }) ∧
      (g.role = .joining → 4 ≤ g.joinStage → Completes (.joinEn false) s fun u =>
        (u.lane l).role = .joining ∧ (u.lane l).joinStage = 3 ∧ (u.lane l).probation = 0 ∧ (u.lane l).cutOver = none ∧
        u = { s with seq := u.seq, white := u.white, black := u.black, lanes := { s.lanes with joinEn := false } }) ∧
      (g.role = .joining → g.stale = false → g.joinStage = 3 ∨ g.joinStage = 4 →
        (g.joinTries + 1 < 3 → Completes .joinAbandoned s fun u =>
          (u.lane l).role = .joining ∧ (u.lane l).joinStage = 3 ∧ (u.lane l).joinTries = g.joinTries + 1 ∧
          u = { s with seq := u.seq, white := u.white, black := u.black, lanes := { s.lanes with retry := true } }) ∧
        (3 ≤ g.joinTries + 1 → Completes .joinAbandoned s fun u =>
          (u.lane l).role = .out ∧ (u.lane l).joinStage = 0 ∧ (u.lane l).barred = true ∧
          u = { s with seq := u.seq, white := u.white, black := u.black, lanes := { s.lanes with retry := false } }))) ∧
    (∀ l : Lane, (s.lane l).stale = false → (s.lane l).role = .joining → (s.lane (otherLane l)).role ≠ .joining →
      (s.lane l).joinStage ≠ 3 → (s.lane l).joinStage ≠ 4 → exec .joinAbandoned s = .next s) ∧
    (s.lanes.divLock = false → exec .divUnlock s = .next s) ∧
    exec .joinRetry s = .next { s with lanes := { s.lanes with retry := false } } ∧
    (∀ (l : Lane) (m : Fin 32),
      let latches := fun (t : Nat) => exec (.scoTimeRead l m) s =
        .next (s.modLane l fun g => { g with timeLatch := Sparse.put g.timeLatch m (wordsOf t 3) })
      (s.seq.running = false → latches 0) ∧
      (s.seq.running = true → ∃ d : Nat, d ≤ 10 ∧ ((s.lane l).role ≠ .standby → d = 5) ∧ latches (s.now + d - 5))) ∧
    (∀ l : Lane, standbyLane s = some l → activeLane s = some (otherLane l) → s.upd.stage = .idle → s.lanes.castle = none →
      s.seq.running = true → s.ply.phase = .b ∨ s.ply.phase = .c ∨ s.ply.phase = .d →
      let promotes := fun (u : State) =>
        (u.lane l).role = .active ∧ u.lanes.promotions = min 0x3FF (s.lanes.promotions + 1) ∧ u.lanes.promo = none ∧
        u.lanes.orphans = [] ∧ (∀ t : Fin 45, (u.tgt t).claimed = some l) ∧ u.ply.number = s.ply.number ∧
        u.ply.phase = s.ply.phase
      (∀ c : WithdrawCause, Completes (.withdrawReceived c) s fun u => promotes u ∧ (u.lane (otherLane l)).role = .out) ∧
      Completes .markerTimeout s fun u => promotes u ∧ (u.lane (otherLane l)).stale = true) ∧
    (∀ l : Lane, joiningLane s = some l → standbyLane s = none → s.seq.running = true ∨ activeLane s = none → Completes .markerTimeout s fun u =>
      (u.lane l).role = .out ∧ (u.lane l).joinStage = 0 ∧ (u.lane l).restarted = true ∧
      (2 ≤ (s.lane l).joinStage → u.lanes.start = some l ∧ u.lanes.solo = true ∧ (u.lane l).boot = .waiting)) ∧
    (standbyLane s = none → joiningLane s = none → exec .markerTimeout s = .next s) ∧
    (s.seq.running = false → (activeLane s).isSome = true → exec .markerTimeout s = .next s)

/-- The plies (R78, R79, R81 to R83, R86, R92, R97, R98, R538, R540). The marker of a boundary, a whole multiple of 20,000
ticks, closes the window; without an active lane the boundary waits. An input takes the next number, or is held where the
window is full. A number is agreed by its own assignment. Phase B waits until the marker and every number before it are agreed,
processes the input set in order, and the host step and the cores follow. Phase C waits for the cores, and emits the ply's
commands, every target's close among them, at most 8,192. A digest that differs sends the standby back
to joining, the third time OUT. Phase E numbers the records of the ply in order, at most 256 of them, into a ring of 6,400. -/
def Obligations.PlyPhases : Prop :=
  ∀ s : State,
    (s.seq.running = false ∨ s.seq.ended = true → exec .plyBoundary s = .next s) ∧
    (s.seq.running = true → s.seq.ended = false → ∃ b : Nat, b % 20000 = 0 ∧ s.now ≤ b ∧ b ≤ s.now + 20000 ∧
      (s.now % 20000 ≠ 0 → b < s.now + 20000) ∧
      (activeLane s = none → exec .plyBoundary s =
        .next { s with now := b, seq := { s.seq with missed := s.seq.missed ++ [b] } }) ∧
      ((activeLane s).isSome = true → s.seq.spilled = 0 → s.seq.held = [] → s.seq.next % 2 ^ 40 ≠ 0 →
        s.seq.next + 1 < 2 ^ 60 →
        let m : Input := ⟨s.seq.next, b, 0, [], nextCount s 0, .none⟩
        let v := { s with
          now := b,
          seq := { s.seq with
            window := s.seq.window ++ [m], used := 0, next := s.seq.next + 1,
            agreed := if (standbyLane s).isNone then s.seq.next else s.seq.agreed,
            unheard := if (standbyLane s).isNone then [] else s.seq.unheard,
            counts := Sparse.set (fun _ => 0) s.seq.counts 0 (nextCount s 0) } }
        (s.ply.phase = .a ∨ s.ply.phase = .b ∨ s.ply.phase = .c ∨ s.ply.phase = .d → exec .plyBoundary s = .next v) ∧
        (s.ply.phase = .none → s.seq.window = [] → s.lanes.promo = none → exec .plyBoundary s = .next (phaseA (placeRecord m { v with
          ply := { Ply.reset with
            boundary := b, number := m.seq, phase := .a, at_ := b, cmds := s.ply.cmds,
            recs := s.ply.recs ++ s.seq.recs.map fun r => (r, b) },
          seq := { v.seq with window := [], recs := [] } }))))) ∧
    (∀ (src : BitVec 8) (at_ : Nat) (ws : List Word),
      (1 ≤ src.toNat ∧ src.toNat ≤ 0xB) ∨ src = 0x10 ∨ (0x14 ≤ src.toNat ∧ src.toNat ≤ 0x18) ∨ src = 0x1A ∨
        (0x20 ≤ src.toNat ∧ src.toNat ≤ 0x3E) → ws.length ≤ 4095 →
      let v := { s with now := max s.now at_ }
      (Completes (.inputPresented src at_ ws) s fun u => Posts v u ∧ (Numbering s → Presented src.toNat ws .none v u)) ∧
      (s.seq.running = true → s.seq.ended = false → (activeLane s).isSome = true → 1024 ≤ s.seq.used →
        exec (.inputPresented src at_ ws) s = .next { v with seq := { s.seq with
          held := s.seq.held ++ [⟨0, v.now, src.toNat, ws, nextCount s src.toNat, .none⟩], spilled := s.seq.spilled + 1,
          counts := Sparse.set (fun _ => 0) s.seq.counts src.toNat (nextCount s src.toNat) } })) ∧
    (∀ n : Nat, (standbyLane s).isSome = true → n < s.seq.next →
      (s.seq.agreed < n → exec (.assignmentReceived n) s = .next { s with
        free := s.free + 1,
        seq := { s.seq with
          agreed := n,
          unheard := s.seq.unheard ++ (List.range (n - s.seq.agreed - 1)).map (s.seq.agreed + 1 + ·) } }) ∧
      (n ≤ s.seq.agreed → exec (.assignmentReceived n) s =
        .next { s with seq := { s.seq with unheard := s.seq.unheard.filter (· ≠ n) } })) ∧
    (∀ n : Nat, standbyLane s = none ∨ s.seq.next ≤ n → exec (.assignmentReceived n) s = .next s) ∧
    ((standbyLane s).isSome = true →
      (s.ply.phase ≠ .a ∨ s.seq.agreed < s.ply.number ∨ (∃ n ∈ s.seq.unheard, n ≤ s.ply.number) →
        exec .phaseBStart s = .next s) ∧
      (s.ply.phase = .a → s.ply.number ≤ s.seq.agreed → (∀ n ∈ s.seq.unheard, s.ply.number < n) → s.upd.stage = .idle → s.upd.cfg = none → s.upd.diffs = [] →
        let v := { s with
          now := max s.now (s.ply.boundary + 1200), ply := { s.ply with phase := .b }, seq := { s.seq with due := [] } }
        let w := hostStep (duePackets s.seq.due) (s.seq.due.foldl takeInput v)
        let x := { w with ply := { w.ply with at_ := w.ply.boundary } }
        exec .phaseBStart s = .next (if x.ply.blocked = true then x else coresBegin x))) ∧
    (∀ endW endB : Nat,
      (s.ply.phase ≠ .b → exec (.phaseCEmit endW endB none) s = .next s) ∧
      (s.upd.stage = .idle → s.ply.blocked = false → coresBusy s = true → exec (.phaseCEmit endW endB none) s = .next s) ∧
      (s.ply.phase = .b → s.ply.blocked = false → coresBusy s = false → (∀ e : Nat, (s.dma e).busy = false) →
        s.upd.stage = .idle → s.pwr.entering = false →
        (standbyLane s).isSome = true ∨ (s.lanes.linkFailed = none ∧ s.lanes.castle = none ∧ s.ply.cmds = [] ∧
          s.ply.slots = [] ∧ s.cores = [] ∧ ∀ t : Fin 45, (s.tgt t).last = (s.tgt t).sent ∧ (s.tgt t).sent < 2 ^ 20) →
        Completes (.phaseCEmit endW endB none) s fun u => u.ply.phase = .c ∧
          ∃ e, u.log.getLast? = some e ∧ e.number = s.ply.number ∧ e.cmds.length ≤ 8192 ∧
            ∀ t : Fin 45, ∃ x ∈ e.cmds, x.target = t ∧ x.content = .close)) ∧
    (∀ d : Option (Fin 4), s.ply.phase ≠ .c → exec (.phaseDDigest d) s = .next s) ∧
    (s.ply.phase = .c → joiningLane s = none → s.ply.debugged = none → Completes (.phaseDDigest none) s fun u =>
      u.ply = { s.ply with phase := .d } ∧ u.now = max s.now (s.ply.boundary + 18000) ∧ u.lanes = s.lanes ∧ u.seq = s.seq ∧ u.chans = s.chans ∧ u.targets = s.targets) ∧
    (∀ (k : Fin 4) (l : Lane), s.ply.phase = .c → standbyLane s = some l → activeLane s = some (otherLane l) →
      s.lanes.castle = none → s.upd.stage = .idle → s.lanes.divLock = false →
      let t := s.pwr.elapsed + max s.now (s.ply.boundary + 18000)
      let same := decide ((s.lane l).imageId = (s.lane (otherLane l)).imageId ∧
        (s.lane l).cfgDigest = (s.lane (otherLane l)).cfgDigest)
      let late := (s.lanes.divTimes.filter fun x => decide (t < x + 360000000000)).length
      Completes (.phaseDDigest (some k)) s fun u =>
        u.lanes.diverges = min 0xF (s.lanes.diverges + 1) ∧ u.lanes.divLock = decide (2 ≤ late) ∧
        (u.lane l).role = (if late < 2 ∧ same = true then .joining else .out) ∧
        (u.lane l).joinStage = (if late < 2 ∧ same = true then 3 else 0)) ∧
    (plyRecords s).length ≤ 256 ∧
    (∀ fits : Bool, s.ply.phase ≠ .d → exec (.phaseECommit fits) s = .next s) ∧
    (s.ply.phase = .d → (activeLane s).isSome = true → s.lanes.resetReq = [] → s.host.owed = [] →
      (∀ i ∈ s.seq.window, i.src ≠ 0) → s.seq.used + (plyRecords s).length ≤ 1024 →
      s.seq.next % 2 ^ 40 ≠ 0 → (s.seq.next + (plyRecords s).length) / 2 ^ 40 = s.seq.next / 2 ^ 40 →
      s.seq.next + (plyRecords s).length < 2 ^ 60 →
      let made := (plyRecords s).zipIdx.map fun p => (⟨p.1.1, s.seq.next + p.2, p.1.2⟩ : Rec)
      Completes (.phaseECommit false) s fun u =>
        u.ply.phase = .e ∧ u.ply.recs = [] ∧ u.now = max s.now (s.ply.boundary + 18600) ∧
        u.seq.next = s.seq.next + made.length ∧
        (s.ring.length ≤ 6400 → u.ring = (s.ring ++ made).drop (s.ring.length + made.length - 6400)))

/-! ### Supplies, resets and starts (R46 to R76, R477 to R479, R558) -/

/-- Supply events (R46 to R48, R52 to R54, R56 to R59, R160). Each shows in the supply's bits and is presented with its record;
reduced function begins when both inputs are below the threshold, and ends when one is not.
A feed that goes missing leaves every switch as it was, and each of its channels reports it; on its return from missing a closed
switch has an inrush window; a feed that was only low brings its record alone. At power-fail every load opens at once and each lane in service keeps its power-fail image. -/
def Obligations.SupplyEvents : Prop :=
  ∀ (s : State) (f : Feed),
    let arg : Word := if f = .a then 0 else 1
    let vlog := fun (v : VlogIn) => if f = .a then { s.sup with vlogA := v } else { s.sup with vlogB := v }
    let vpwr := fun (v : VpwrIn) => if f = .a then { s.sup with vpwrA := v } else { s.sup with vpwrB := v }
    let inLog := if f = .a then s.sup.vlogA else s.sup.vlogB
    let inPwr := if f = .a then s.sup.vpwrA else s.sup.vpwrB
    let told := fun (c : Instr) (code : Nat) (a0 a1 : Word) (p : Supply) => Completes c s fun u =>
      Posts { s with sup := p } u ∧
      (Numbering s → Presented 0x17 [Word.ofN (0x100 + code), a0, a1] (.upd [] [⟨0, code, 0x9E001, a0, a1⟩]) s u)
    let entry := fun (n cause : Nat) (u : State) =>
      ∃ e ∈ (u.tgt (n / 16)).entries, e.kind = 0 ∧ e.obj = n ∧ e.cause = cause
    (∀ x : Word,
      told (.vlogLost f x) 3 arg x (vlog ⟨false, true⟩) ∧
      (∀ red : Bool, told (.vlogBack f x red) 4 arg x (vlog ⟨true, red⟩)) ∧
      (∀ a b : Bool,
        let v : Supply := { s.sup with
          vlogA := { s.sup.vlogA with red := s.sup.vlogA.red || a }, vlogB := { s.sup.vlogB with red := s.sup.vlogB.red || b } }
        (v.vlogA.red = true → v.vlogB.red = true → v.reduced = false →
          told (.reducedOn ⟨a, b, x⟩) 5 x 0 { v with reduced := true }) ∧
        (v.vlogA.red = false ∨ v.vlogB.red = false ∨ v.reduced = true → exec (.reducedOn ⟨a, b, x⟩) s = .next { s with sup := v })) ∧
      (s.sup.reduced = true → told (.reducedOff f x) 6 x 0 { vlog { inLog with red := false } with reduced := false }) ∧
      (s.sup.reduced = false → exec (.reducedOff f x) s = .next { s with sup := vlog { inLog with red := false } }) ∧
      told (.vpwrLow f x) 7 arg x (vpwr { inPwr with low := true }) ∧
      (Completes (.vpwrMissing f x) s fun u =>
        u.sup = vpwr ⟨false, true⟩ ∧ u.chans = s.chans ∧ u.live = s.live ∧ u.copy = s.copy ∧ u.sram = s.sram ∧
        (∀ n : Fin 176, feedOf n = f → entry n 0x008 u) ∧ (Numbering s → Presented 0x17 [0x00108, arg, x]
          (.upd [] [⟨0, 8, 0x9E001, arg, x⟩]) s u)) ∧
      (∀ low : Bool, inPwr.ok = true → told (.vpwrOk f ⟨x, low⟩) 9 arg x (vpwr ⟨true, low⟩)) ∧
      (∀ low : Bool, inPwr.ok = false → Completes (.vpwrOk f ⟨x, low⟩) s fun u =>
        u.sup = vpwr ⟨true, low⟩ ∧ u.live = s.live ∧ u.copy = s.copy ∧ u.sram = s.sram ∧
        (∀ n : Fin 176, feedOf n = f → entry n 0x009 u ∧ u.chan n =
          if (s.chan n).sw then
            { s.chan n with inrush := true, arcSpoilt := true, used := 0, winRetry := chReg s (leaderOf s n) 6 }
          else s.chan n) ∧
        (∀ n : Nat, feedOf n ≠ f → u.chan n = s.chan n) ∧
        (Numbering s → Presented 0x17 [0x00109, arg, x] (.upd [] [⟨0, 9, 0x9E001, arg, x⟩]) s u))) ∧
    (∀ a b : Word,
      (s.sup.powerFail = true → exec (.powerFail a b) s = .next s) ∧
      (s.sup.powerFail = false → Completes (.powerFail a b) s fun u =>
        u.sup = { s.sup with powerFail := true, vlogA := ⟨false, true⟩, vlogB := ⟨false, true⟩ } ∧
        (∀ n : Fin 176, (u.chan n).state = .off ∧ ((s.chan n).state ≠ .off → (u.chan n).sw = false)) ∧
        (∀ o : Fin 48, (u.dout o).state = .off) ∧ (∀ x : Fin 8, (u.str x).state = .off ∧ (u.str x).lit = false) ∧
        (∀ m : Fin 2, (u.mx m).state = .off ∧ (u.mx m).run = false) ∧ u.den.state ≠ .running ∧
        (∀ l : Lane, (s.lane l).role ≠ .out →
          (u.lane l).nvm.life = (s.lane l).lifeJournal ∧ (u.lane l).nvm.failImage = (s.lane l).image) ∧
        u.live = s.live ∧ u.copy = s.copy ∧ u.sram = s.sram ∧ u.cores = s.cores ∧
        (Numbering s → Presented 0x17 [0x00102, a, b] (.powerFail a b) s u))) ∧
    exec .fabAnaLost s = .next { s with sup := { s.sup with fabAna := false, fabValid := false } } ∧
    exec .fabAnaSettled s = .next { s with sup := { s.sup with fabAna := true, fabValid := true } } ∧
    (s.sup.aoLp = false → exec .lowPowerBrownout s = .next s) ∧
    (s.sup.aoLp = true → exec .lowPowerBrownout s = .next { s with
      sup := { s.sup with aoLp := false, lpbo := true },
      pwr := { s.pwr with held := if s.pwr.held = none then some (8, 0) else s.pwr.held } })

/-- Module, lane and tile resets (R53, R60, R64, R72, R84, R430, R526). A module reset leaves both lanes, every unit and all
that the lanes compute as at reset, records its cause in both lanes, and keeps the keys, the lifetime counters as NVM has
them, and, but for a brown-out of the AO rail, what is retained. A module whose supplies are gone is in OFF. A lane rail takes the lane and the rails that fall with
it.
A tile reset clears the tile's channels and registers alone, and asks for the restore sequence. -/
def Obligations.ModuleAndTileResets : Prop :=
  ∀ s : State,
    let fresh := fun (c : Instr) (bit last : Nat) (P : State → Prop) => Completes c s fun u => P u ∧
      (∀ l : Lane, (u.lane l).role = .out ∧ (u.lane l).boot = .held ∧
        (u.lane l).resetCause = ((s.lane l).resetCause.setBit bit true).put 19 16 last ∧
        (u.lane l).nvm.epoch = (s.lane l).nvm.epoch ∧ (u.lane l).nvm.fw = (s.lane l).nvm.fw ∧
        (u.lane l).nvm.cfg = (s.lane l).nvm.cfg ∧ (u.lane l).nvm.life = (s.lane l).lifeJournal) ∧
      u.chans = [] ∧ u.targets = [] ∧ u.douts = [] ∧ u.strs = [] ∧ u.mxs = [] ∧ u.buses = [] ∧
      u.den = { Den.reset with lastStop := if s.den.state = .running then 4 else 0 } ∧
      u.cores = [] ∧ u.copy = [] ∧ u.sram = [] ∧ u.tables = [] ∧ u.ring = [] ∧ u.log = [] ∧ u.seq = Seq.reset ∧
      u.ply = Ply.reset ∧ u.host = HostSt.reset ∧ u.mbx = Mailboxes.reset ∧ u.lanes = Lanes.reset ∧ u.upd = Upd.reset ∧
      u.keys = s.keys ∧ u.acc.tokens = s.acc.tokens ∧ u.maintenance = false ∧ u.fab.modOffset = s.fab.modOffset
    (s.sup.powerFail = true → fresh .holdUpEnd 14 1 fun u =>
      u.sup = { s.sup with powerFail := false, fabAna := false, fabValid := false, tilesOk := false } ∧ u.pwr.state = .off ∧
      u.pwr.retention = s.pwr.retention ∧ u.pwr.rtc = s.pwr.rtc ∧
      ∀ l : Lane, (u.lane l).coreOk = false ∧ (u.lane l).ioOk = false ∧ (u.lane l).anaOk = false ∧
        (u.lane l).nvm.failImage = (s.lane l).image) ∧
    (s.sup.powerFail = false → exec .holdUpEnd s = .next s) ∧
    (fresh .aoRailBrownout 5 0xA fun u =>
      u.pwr.retention = [] ∧ u.pwr.banksOk = 0 ∧ u.pwr.rtc = 0 ∧ u.acc.latch = [] ∧ u.acc.records = [] ∧
      u.sup.aoOk = (s.sup.vlogA.ok || s.sup.vlogB.ok) ∧ (u.sup.aoOk = false → u.pwr.state = .off) ∧ ∀ l : Lane, (u.lane l).nvm.failImage = []) ∧
    (s.seq.ended = true → fresh .epochEndReset 0 0xF fun u => u.pwr.retention = s.pwr.retention ∧ u.sup = s.sup) ∧
    (s.seq.ended = false → exec .epochEndReset s = .next s) ∧
    (s.host.resetPort.isSome = true → resetReplyWaits s = true → exec .moduleResetAssert s = .next s) ∧
    (s.host.resetPort.isSome = true → resetReplyWaits s = false → fresh .moduleResetAssert 13 2 fun u =>
      u.pwr.retention = s.pwr.retention ∧ u.sup = s.sup ∧ ∀ l : Lane, (u.lane l).nvm.failImage = (s.lane l).image) ∧
    (s.host.resetPort = none → exec .moduleResetAssert s = .next s) ∧
    (activeLane s = none → s.updWhite.recovery = true ∨ s.updBlack.recovery = true →
      fresh .recoveryReset 3 0xC fun u => u.pwr.retention = s.pwr.retention ∧ u.sup = s.sup) ∧
    ((activeLane s).isSome = true → exec .recoveryReset s = .next s) ∧
    (∀ l : Lane,
      let falls := fun (r : Rail) (c : LaneCause) (g : LaneSt → LaneSt) => Completes (.laneRailBrownout l r) s fun u =>
        ∃ v, exec (.laneResetEvent l c) s = .next v ∧ u = v.setLane l (g (v.lane l))
      falls .core .coreRail (fun g => { g with coreOk := false }) ∧
      falls .io .ioRail (fun g => { g with ioOk := false, coreOk := false }) ∧
      falls .ana .anaRail (fun g => { g with anaOk := false, ioOk := false, coreOk := false })) ∧
    (∀ (t : Fin 11) (c : TileCause), Completes (.tileReset t c) s fun u =>
      (∀ n : Nat, u.chan n = if n / 16 = t then
        { Chan.reset with openedAt := if (s.chan n).sw then some s.clock else (s.chan n).openedAt } else s.chan n) ∧
      (∀ n off : Nat, n < 176 → off < 32 → chReg u n off = if n / 16 = t then regReset (chanAddr n off) else chReg s n off) ∧
      u.tgt t = { s.tgt t with
        claimed := none, last := 0, stampPly := 0, stampIdx := 0, silent := false, restoreWait := true, shadows := [],
        shadowDue := none, entries := [], refusals := [], dups := 0, handover := none,
        lastReset := (match c with | .rail => 1 | .clock => 2 | .selfCheck => 3),
        resets := min 0xF ((s.tgt t).resets + 1) } ∧
      (∀ k : Nat, k ≠ t → u.tgt k = s.tgt k) ∧
      u.sup = { s.sup with tileLow := u.sup.tileLow } ∧ (c ≠ .rail → u.sup = s.sup) ∧ (c = .rail → (t : Nat) ∈ u.sup.tileLow) ∧
      Posts { s with chans := u.chans, live := u.live, targets := u.targets, fab := u.fab, sup := u.sup } u ∧
      (Numbering s → Presented (1 + t) [0x30000] (.report t [] [] (tileWords t u)) s u))

/-- The starts (R63, R65, R67 to R71, R73, R78, R100, R477 to R479, R558). A cold start raises the rails; after AO power-on
nothing is retained, and a monitor that has tripped stays so while its supply stays (R46, R56). A released lane runs boot code, and beside an active lane it is in stage 1. At 250 MHz, or with its lock
presented at a wake, it verifies an image: the confirmed ACTIVE one, at a wake without a check where the record of bank 0 matches (R478), else FALLBACK, else it stays in boot code. The
configuration is applied where the checker takes it, the lanes meet or one goes on alone, and the epoch advances in the journal of
each lane that has reached M11, one held out among them. The first active
ply gives the roles, has its boundary at time 0, and sends every target the restore sequence. -/
def Obligations.StartSequence : Prop :=
  ∀ s : State,
    (∀ va vb pa pb cal : Bool,
      (va = false → vb = false → exec (.coldStart va vb pa pb cal) s = .next s) ∧
      ((va || vb) = true → s.pwr.state ≠ .parked → s.pwr.state ≠ .deep → s.white.boot = .held → s.black.boot = .held →
        Completes (.coldStart va vb pa pb cal) s fun u =>
          (∀ l : Lane, (u.lane l).coreOk = true ∧ (u.lane l).ioOk = true ∧ (u.lane l).anaOk = true ∧
            (u.lane l).startStatus = 0x00200 ∧ (u.lane l).boot = .held ∧
            (u.lane l).resetCause = (if s.sup.aoOk then (s.lane l).resetCause else 0x08000)) ∧
          u.sup = { s.sup with
            vlogA := ⟨va, !va || (s.sup.vlogA.ok && s.sup.vlogA.red)⟩, vlogB := ⟨vb, !vb || (s.sup.vlogB.ok && s.sup.vlogB.red)⟩,
            vpwrA := ⟨pa, !pa || (s.sup.vpwrA.ok && s.sup.vpwrA.low)⟩, vpwrB := ⟨pb, !pb || (s.sup.vpwrB.ok && s.sup.vpwrB.low)⟩,
            reduced := u.sup.vlogA.red && u.sup.vlogB.red,
            powerFail := false, fabAna := true, fabValid := false, tilesOk := true, tileLow := [], aoOk := true, aoLp := false,
            lpbo := s.sup.lpbo && s.sup.aoOk } ∧
          u.pwr.state = .idle ∧ u.fab.calFail = !cal ∧ u.lanes = Lanes.reset ∧
          (s.sup.aoOk = false → u.pwr.retention = [] ∧ u.pwr.banksOk = 0 ∧ u.pwr.rtc = 0 ∧ u.acc.latch = [] ∧ u.acc.handles = [] ∧
            u.upd = Upd.reset))) ∧
    (∀ l : Lane,
      let g := s.lane l
      let o := otherLane l
      (g.boot ≠ .held → exec (.laneResetRelease l) s = .next s) ∧
      (g.boot = .held → mayBoot s = true → mayJoin s l = false → exec (.laneResetRelease l) s =
        .next { s.setLane l { g with boot := .code, coreOk := true, ioOk := true, anaOk := true } with
          sup := { s.sup with fabAna := true } }) ∧
      (g.boot = .held → g.role = .out → mayBoot s = true → mayJoin s l = true → Completes (.laneResetRelease l) s fun u =>
        (u.lane l).boot = .code ∧ (u.lane l).role = .joining ∧ (u.lane l).joinStage = 1 ∧ (u.lane o).role = (s.lane o).role) ∧
      (g.boot ≠ .held → g.pll = false → s.seq.running = false → exec (.pllLocked l) s =
        .next (s.setLane l { g with pll := true, clk250 := !(s.pwr.waking && s.pwr.banksOk.getLsbD 0) })) ∧
      (g.boot = .held ∨ g.pll = true → exec (.pllLocked l) s = .next s) ∧
      (g.boot ≠ .held → g.pll = false → s.seq.running = true → s.pwr.clk = false → s.pwr.locked = false →
        Completes (.pllLocked l) s fun u =>
          let v := s.setLane l { g with pll := true, clk250 := false }
          Posts v u ∧ (Numbering v → Presented 0x17 [0x00109] .locked v u)) ∧
      (∀ (act fb : Bool) (i j : Image), g.boot = .code →
        (act = true ∨ recordMatches s g = true → g.nvm.fw.active = some i → i.confirmed = true ∨ g.restarted = true ∨ s.pwr.waking = true →
          exec (.imageVerified l act fb) s =
            .next (s.setLane l { g with boot := .image, slot := 0, imgFail := false, imageId := i.ident })) ∧
        ((act = false ∧ recordMatches s g = false) ∨ (g.nvm.fw.active = some i ∧ i.confirmed = false ∧ g.restarted = false ∧ s.pwr.waking = false) →
          fb = true → g.nvm.fw.fallback = some j → Completes (.imageVerified l act fb) s fun u =>
            Posts (s.setLane l { g with boot := .image, slot := 1, imgFail := true, imageId := j.ident }) u) ∧
        (act = false → recordMatches s g = false → fb = false → Completes (.imageVerified l act fb) s fun u =>
          (u.lane l).boot = .stuck ∧ (u.lane l).role = .out ∧ (u.lane l).imgFail = true ∧ u.lane o = s.lane o)) ∧
      (∀ i : ConfigImage, g.boot = .image → activeLane s = none →
        (g.restarted = false → exec (.configApplied l false i) s =
          .next (s.setLane l { g with cfgDefault := true, boot := .waiting })) ∧
        (configOk i = false → exec (.configApplied l true i) s = exec (.configApplied l false i) s) ∧
        (g.restarted = false → configOk i = true → s.lanes.start = none → Completes (.configApplied l true i) s fun u =>
          (u.lane l).boot = .waiting ∧ (u.lane l).cfgDefault = false ∧ (u.lane l).cfgImage = some i ∧
          (u.lane l).cfgDigest = i.digest ∧ (u.lane l).startBlack = i.startBlack ∧ u.lane o = s.lane o ∧
          (∀ v : Word, s.pwr.waking = false → i.regs = [(0x9E006, v)] →
            u.copyReg 0x9E006 = regWrite 0x9E006 (s.copyReg 0x9E006) v)) ∧
        (g.restarted = true → configOk i = true → s.lanes.start = none → Completes (.configApplied l true i) s fun u =>
          (u.lane l).boot = .waiting ∧ u.lanes = { s.lanes with start := some l, solo := true } ∧ u.chans = s.chans ∧
          u.copy = s.copy)) ∧
      (g.boot = .waiting → (s.lane o).boot ≠ .waiting → activeLane s = none → s.lanes.start = none → g.cfgDefault = false →
        s.pwr.waking = false → Completes (.soloTimeout l) s fun u =>
          let e := min (max s.white.nvm.epoch s.black.nvm.epoch + 1) 0xFFFFF
          u.lanes = { s.lanes with start := some l, solo := true } ∧ (u.lane l).nvm.epoch = e ∧ u.lane o = { s.lane o with
            startStatus := (u.lane o).startStatus } ∧
          u.seq = { Seq.reset with next := e * 2 ^ 40, epochEnd := decide (e = 0xFFFFF) })) ∧
    (s.white.boot = .waiting → s.black.boot = .waiting → activeLane s = none → s.lanes.start = none →
      s.white.cfgDefault = false → s.black.cfgDefault = false → s.white.imageId = s.black.imageId →
      s.white.cfgDigest = s.black.cfgDigest → s.pwr.waking = false → Completes .lanesMeet s fun u =>
        let e := min (max s.white.nvm.epoch s.black.nvm.epoch + 1) 0xFFFFF
        let first := if s.white.startBlack = true ∧ s.black.startBlack = true then Lane.black else .white
        u.lanes = { s.lanes with xa := true, xb := true, start := some first, solo := false } ∧
        u.white.nvm.epoch = e ∧ u.black.nvm.epoch = e ∧
        u.seq = { Seq.reset with next := e * 2 ^ 40, epochEnd := decide (e = 0xFFFFF) } ∧
        u.white.startStatus.bit 14 = decide (s.white.startBlack ≠ s.black.startBlack) ∧ u.copy = s.copy) ∧
    (∀ l : Lane, s.white.boot = .waiting → s.black.boot = .waiting → activeLane s = none → s.lanes.start = none →
      (s.lane l).cfgDefault = true → (s.lane (otherLane l)).cfgDefault = false → s.pwr.waking = false →
      Completes .lanesMeet s fun u =>
        let e := min (max s.white.nvm.epoch s.black.nvm.epoch + 1) 0xFFFFF
        u.lanes = { s.lanes with xa := true, xb := true, start := some (otherLane l), solo := true } ∧
        (u.lane l).role = .out ∧ (u.lane l).boot = .started ∧ u.white.nvm.epoch = e ∧ u.black.nvm.epoch = e ∧
        u.seq = { Seq.reset with next := e * 2 ^ 40, epochEnd := decide (e = 0xFFFFF) }) ∧
    (s.white.boot ≠ .waiting → exec .lanesMeet s = .next s) ∧
    (s.lanes.start = none → ∀ ms : BitVec 8, exec (.firstActivePly ms) s = .next s) ∧
    (∀ (ms : BitVec 8) (l : Lane), s.lanes.start = some l → activeLane s = none → (s.lane l).restarted = false →
      (s.lane (otherLane l)).boot = .waiting → s.lanes.solo = false → s.pwr.waking = false → s.upd.stage = .idle →
      s.lanes.castle = none → s.lanes.promo = none → s.seq.window = [] → s.seq.held = [] → s.seq.spilled = 0 →
      s.seq.ended = false → Completes (.firstActivePly ms) s fun u =>
        (u.lane l).role = .active ∧ (u.lane (otherLane l)).role = .standby ∧ u.seq.running = true ∧ u.ply.boundary = 0 ∧
        u.pwr.elapsed = s.clock ∧ u.now = 0 ∧ u.ply.number = s.seq.next ∧ u.ply.phase = .a ∧ u.ring = [] ∧ u.log = [] ∧ u.lanes.start = none ∧
        u.pwr.state = .idle ∧ ∀ t : Fin 45, ((t : Nat), Content.restore 0 s.seq.next 0) ∈ u.ply.cmds)

/-! ### Power states and updates (R463 to R488, R514 to R529) -/

/-- Power requests, entries and wakes (R134, R137, R464, R465, R467 to R469, R474, R475, R478, R479, R482, R484, R486). A request is a
write of PWR_CTL, which the checks of the Board may refuse. A reserved target is refused; IDLE and RUN hold from the next
boundary; an entry begins where nothing forbids it, and an upward request abandons it at its next point. The commit ply closes
every session and ends the access session; at the end of its phase B it holds the banks, and at its end their CRCs and the last
agreed number; the power-down after it leaves the lanes without rails in the state that was the target. A wake raises them
again, and a bank that does not have its CRC is no longer valid. An event from the commit ply on is held for the wake. -/
def Obligations.PowerStatesAndWakes : Prop :=
  ∀ s : State,
    (∀ m : Fin 32,
      let a := 0x9E005
      let g := Granted s m a
      (MayNotWrite s m a →
        (∀ t : BitVec 3, exec (.pwrCtlReq m t) s =
          .next (refuseMaster m true (refuseAccess m a true (Word.ofN (2 ^ 19 + t.toNat * 2 ^ 16)) s))) ∧
        exec (.clk250 m) s = .next (refuseMaster m true (refuseAccess m a true 0x08000 s))) ∧
      (MayWrite s m a →
        let gives (i : Instr) (v : State) : Prop := exec i s = .next (debugWrote m a v)
        (∀ t : BitVec 3,
          (4 < t.toNat → gives (.pwrCtlReq m t)
            (laneRecord ⟨2, 4, 0x9E005, Word.ofN (2 ^ 19 + t.toNat * 2 ^ 16), Word.ofN m⟩ g)) ∧
          (t = 1 → s.pwr.entering = false → s.pwr.state ≠ .idle → denRunning s = false →
            gives (.pwrCtlReq m t) { g with pwr := { s.pwr with next := some .idle } }) ∧
          (t = 0 → s.pwr.entering = false → s.pwr.state ≠ .run →
            gives (.pwrCtlReq m t) { g with pwr := { s.pwr with next := some .run } }) ∧
          (2 ≤ t.toNat → t.toNat ≤ 4 → t.toNat ≠ s.pwr.state.code → s.pwr.entering = false → s.pwr.clk = true →
            denRunning s = false → s.upd.stage = .idle → s.upd.phase ≠ .confirmWait → (t = 4 ∨ anyWake s = true) →
            gives (.pwrCtlReq m t) (laneRecord ⟨0x0C, 1, 0x9E004, Word.ofN t.toNat, 0⟩ { g with pwr := { s.pwr with
              entering := true, target := t.toNat - 2, point := 0, wakePend := false, wakeBy := 0, upward := none,
              journalDone := false, a1Due := true } })) ∧
          (2 ≤ t.toNat → t.toNat ≤ 4 → s.pwr.entering = true → gives (.pwrCtlReq m t) g) ∧
          (t = 0 → s.pwr.entering = true → s.pwr.point < 3 → gives (.pwrCtlReq m t) { g with pwr := { s.pwr with
            wakePend := true, wakeBy := if s.pwr.wakePend then s.pwr.wakeBy else 0xF, upward := some .run } })) ∧
        (s.pwr.locked = true → s.pwr.clk = false → gives (.clk250 m) { g with pwr := { s.pwr with clkReq := true } }) ∧
        (s.pwr.locked = false ∨ s.pwr.clk = true → gives (.clk250 m) g))) ∧
    (s.pwr.entering = true → s.pwr.point = 0 → s.pwr.journalDone = false →
      (exec (.journalWriteComplete false) s =
        .next (laneRecord ⟨0x0C, 5, 0x9E004, 0, 0⟩ { s with pwr := { s.pwr with journalDone := true } })) ∧
      (nvmRefused s = false → Completes (.journalWriteComplete true) s fun u =>
        (∀ l : Lane, u.lane l = if (s.lane l).role = .out then s.lane l
          else { s.lane l with lifeJournal := s.life, image := [], nvm := (s.lane l).nvm.programmed }) ∧
        u = { s with white := u.white, black := u.black, pwr := { s.pwr with journalDone := true } })) ∧
    (commitReady s = false → exec .entryCommit s = .next s) ∧
    (commitReady s = true → (activeLane s).isSome = true → Completes .entryCommit s fun u =>
      u.pwr = { s.pwr with
        point := 3, wakePend := false, committed := true, kept := [], parkDone := false, wakeStatus := 0, held := none } ∧
      u.host = { s.host with sessions := [] } ∧ u.acc.sessOpen = false ∧ u.chans = s.chans ∧ u.buses = s.buses ∧
      ⟨0x0C, 3, 0x9E004, Word.ofN (s.pwr.target + 2), 0⟩ ∈ u.ply.recs.map (·.1)) ∧
    (∀ l : Lane, activeLane s = some l → s.pwr.committed = true →
      let u := pwrEndB s
      u = { s with pwr := u.pwr } ∧
      (∀ n : Fin 176, (n : Nat) ∈ u.pwr.kept ↔
        s.pwr.target = 0 ∧ (chReg s n 3).bit 14 = true ∧ (s.chan n).state = .on) ∧
      (s.pwr.target = 2 → u.pwr.retention = [] ∧ u.pwr.banksOk = 0) ∧
      (s.pwr.target ≠ 2 → u.pwr.banksOk = 0xFF ∧ u.pwr.lastSeq = s.seq.agreed ∧ u.pwr.lastActive = l ∧
        u.pwr.programs = (s.lane l).nvm.programs)) ∧
    (s.pwr.committed = true →
      let u := captureNumber s
      u.pwr.parkDone = true ∧
      (s.pwr.target ≠ 2 → u.pwr.lastSeq = s.seq.agreed ∧ u.pwr.crcs = (List.range 8).map (bankCrc u))) ∧
    (s.pwr.committed = false ∨ s.pwr.parkDone = false → exec .powerDownComplete s = .next s) ∧
    (s.pwr.committed = true → s.pwr.parkDone = true → Completes .powerDownComplete s fun u =>
      u.pwr.state = (if s.pwr.target = 0 then .parked else if s.pwr.target = 1 then .deep else .off) ∧
      u.pwr.entering = false ∧ u.pwr.committed = false ∧ u.pwr.clk = false ∧ u.pwr.retention = s.pwr.retention ∧ u.pwr.entryRtc = s.pwr.rtc ∧
      (∀ l : Lane, (u.lane l).role = .out ∧ (u.lane l).boot = .held ∧ (u.lane l).coreOk = false ∧ (u.lane l).ioOk = false ∧
        (u.lane l).anaOk = false ∧ (u.lane l).resetCause = (s.lane l).resetCause) ∧
      u.sup = { s.sup with
        fabAna := false, fabValid := false, tilesOk := false, aoLp := decide (s.pwr.target < 2),
        aoOk := s.sup.aoOk && decide (s.pwr.target < 2) } ∧
      u.seq = Seq.reset ∧ u.ring = [] ∧ u.cores = [] ∧ u.targets = [] ∧ u.douts = [] ∧ u.strs = [] ∧ u.mxs = [] ∧
      u.den = Den.reset ∧ u.lanes = Lanes.reset ∧ (s.pwr.target ≠ 0 → u.pwr.sleeping = []) ∧
      ∀ n : Fin 176, (n : Nat) / 16 < 5 → u.chan n = Chan.reset) ∧
    (s.pwr.state = .parked → s.pwr.waking = false → (s.copyReg 0x9E008).field 19 12 ≠ 0 →
      Completes .deepAfterExpiry s fun u =>
        u.pwr = { s.pwr with state := .deep, autoDeep := true, sleeping := [] } ∧
        (∀ t ∈ s.pwr.sleeping, ∀ k : Fin 16, u.chan (16 * t + k) = Chan.reset) ∧
        u = { s with
          pwr := u.pwr, chans := u.chans, live := u.live,
          acc := { s.acc with round := s.acc.round.filter fun r => decide (r.trigger ≠ 1) } }) ∧
    (s.pwr.state ≠ .parked → exec .deepAfterExpiry s = .next s) ∧
    (s.seq.running = true → s.pwr.committed = true → (s.copyReg 0x9E006).bit 17 = true → s.pwr.held = none →
      Completes .alarm s fun u => u.pwr = { s.pwr with held := some (7, 0) }) ∧
    (s.seq.running = true → s.pwr.committed = false → Completes .alarm s fun u => Posts s u ∧ (Numbering s → Presented 0x17 [7, 0] (.wake 7 []) s u)) ∧
    (s.seq.running = false → s.pwr.state = .parked ∨ s.pwr.state = .deep → (s.copyReg 0x9E006).bit 17 = true →
      s.pwr.held = none → exec .alarm s = .next { s with pwr := { s.pwr with held := some (7, 0) } }) ∧
    (Completes .rtcReport s fun u =>
      let r := (s.pwr.rtc + 1024) % 2 ^ 40
      Posts { s with pwr := { s.pwr with rtc := r } } u ∧ (Numbering s → Presented 0x17 (8 :: wordsOf r 2)
        (.upd [(0x9E00A, wordOf r 0), (0x9E00B, wordOf r 1)] []) s u)) ∧
    (∀ i : Feed,
      let cause : Nat := if i = .a then 1 else 2
      let pin := fun (v : Bool) =>
        if i = .a then { s with pwr := { s.pwr with aLvl := v } } else { s with pwr := { s.pwr with bLvl := v } }
      let levels := fun (v : Bool) => [((0x9E004 : Nat), Word.ofN (flagAt (pin v).pwr.aLvl 10 + flagAt (pin v).pwr.bLvl 9))]
      (s.seq.running = true → s.pwr.committed = false → Completes (.wakeInputRise i) s fun u => Posts (pin true) u ∧
        (Numbering s → Presented 0x17 [Word.ofN cause, 1] (.wake cause (levels true)) s u)) ∧
      (s.seq.running = false → s.pwr.state = .off → s.sup.vlogA.ok = true ∨ s.sup.vlogB.ok = true → s.pwr.held = none → exec (.wakeInputRise i) s =
        .next { pin true with pwr := { (pin true).pwr with held := some (cause, 0) } }) ∧
      (Completes (.wakeInputFall i) s fun u => Posts (pin false) u ∧
        (Numbering s → Presented 0x17 [Word.ofN cause, 0] (.upd (levels false) []) s u))) ∧
    (∀ (cause idx : BitVec 4) (bad : BitVec 8) (multi : Bool),
      (s.pwr.committed = false → s.pwr.state = .run ∨ s.pwr.state = .idle ∨ s.pwr.waking = true →
        exec (.wakeEvent cause idx bad multi) s = .next s) ∧
      (s.pwr.state = .parked ∨ s.pwr.state = .deep → s.pwr.waking = false → s.pwr.held = none →
        s.pwr.committed = false → wakeEnabled s cause.toNat idx.toNat = true → wakeActive s cause.toNat idx.toNat = true →
        Completes (.wakeEvent cause idx bad multi) s fun u =>
          let bad := bad ||| badBanks s
          (∀ l : Lane, (u.lane l).coreOk = true ∧ (u.lane l).ioOk = true ∧ (u.lane l).anaOk = true ∧
            (u.lane l).resetCause = ((s.lane l).resetCause.setBit 4 true).put 19 16 0xB) ∧
          u.sup = { s.sup with fabAna := true, tilesOk := true, tileLow := [], aoLp := false } ∧ u.pwr.waking = true ∧ u.pwr.held = none ∧
          u.pwr.parkMinutes = min 0xFFFFF ((s.pwr.rtc - s.pwr.entryRtc) / 61440) ∧
          u.pwr.banksOk = s.pwr.banksOk &&& ~~~bad ∧
          u.pwr.wakeStatus = Word.ofN (cause.toNat * 2 ^ 16 + bad.toNat * 2 ^ 8 + idx.toNat * 2 ^ 4 +
            flagAt (s.pwr.state = .deep) 3 + flagAt multi 2 + flagAt s.pwr.autoDeep 1) ∧
          u.chans = s.chans ∧ u.copy = []))

/-- Update events (R516, R518, R521, R524, R526). While the lanes run, an erase, a check and a lane's readiness are inputs; in
the recovery service of a lane they act at once. A check stops at its first failure, that of the configuration checker last. The converted lane resumes service;
an unconfirmed image falls back when its health window ends. -/
def Obligations.UpdateEvents : Prop :=
  ∀ (s : State) (l : Lane),
    (serves s l = false ∨ (s.updOf (some l)).phase ≠ .erasing → Completes (.eraseComplete l) s fun u => Posts s u ∧
      (Numbering s → Presented 0x3E [0x00020, laneWord l, 0] (.erased l) s u)) ∧
    (serves s l = true → (s.updOf (some l)).phase = .erasing → Completes (.eraseComplete l) s fun u =>
      (u.updOf (some l)).phase = .receiving ∧ u = { s with updWhite := u.updWhite, updBlack := u.updBlack }) ∧
    (∀ (dig sig : Bool) (i : ConfigImage) (at_ : Word),
      let chk := configOk i
      (serves s l = false ∨ (s.updOf (some l)).phase ≠ .verifying → Completes (.verifyResult l dig sig i at_) s fun u =>
        let c := updCheck s s.upd l dig sig chk
        Posts s u ∧ (Numbering s → Presented 0x3E [0x00021, laneWord l, Word.ofN c] (.verified l c at_) s u)) ∧
      (let v := s.updOf (some l)
       serves s l = true → v.phase = .verifying → v.verifiedW = none → v.verifiedB = none →
        Completes (.verifyResult l dig sig i at_) s fun u =>
          let c := updCheck s v l dig sig chk
          (u.updOf (some l)).result = c ∧ (u.updOf (some l)).phase = (if c = 1 then .verified else .failed) ∧
          (c = 1 → ((u.lane l).nvm.areas v.kind).staging.map Image.ident = some v.image.ident)) ∧
      (∀ v : Upd,
        (v.headerOk = false → updCheck s v l dig sig chk = 4) ∧
        (v.headerOk = true → v.number 16 4 + 128 ≠ v.length → updCheck s v l dig sig chk = 5) ∧
        (v.headerOk = true → v.number 16 4 + 128 = v.length →
          (dig = false → updCheck s v l dig sig chk = 2) ∧ (dig = true → sig = false → updCheck s v l dig sig chk = 3) ∧
          (dig = true → sig = true → v.kind = false → updCheck s v l dig sig chk =
            if v.number 14 2 ≤ runningFormat (s.lane l) ∧ runningFormat (s.lane l) ≤ v.number 12 2 then 1 else 0xA) ∧
          (dig = true → sig = true → v.kind = true → keyHeld s 6 = true → updCheck s v l dig sig chk = if chk then 1 else 6)))) ∧
    (Completes (.laneReady l) s fun u => Posts s u ∧
      (Numbering s → Presented 0x3E [0x00022, laneWord l, 0] (.ready l) s u)) ∧
    (s.upd.stage ≠ .paused → exec (.conversionComplete l) s = .next s) ∧
    (s.upd.stage = .paused → activeLane s = some l → s.ply.phase = .a → exec (.conversionComplete l) s =
      .next (laneRecord ⟨0x0E, 4, 0x9F000, laneWord l, Word.ofN ((s.ply.boundary - s.upd.pauseFrom) / 20000)⟩
        { s with upd := { s.upd with stage := .second, pauseFrom := s.ply.boundary } })) ∧
    (s.upd.stage = .paused → activeLane s = some l → s.ply.phase ≠ .a → exec (.conversionComplete l) s =
      .next (laneRecord ⟨0x0E, 4, 0x9F000, laneWord l, Word.ofN ((s.ply.boundary - s.upd.pauseFrom) / 20000 + 1)⟩
        { s with upd := { s.upd with stage := .second, pauseFrom := s.ply.boundary + 20000 } })) ∧
    (s.upd.stage ≠ .health → exec .healthWindowExpiry s = .next s) ∧
    (s.upd.stage = .health → standbyLane s = some l → exec .healthWindowExpiry s =
      .next (laneRecord ⟨0x0E, 6, 0x9F000, 0, 8⟩ { s with upd := { s.upd with
        phase := .activating, result := 8, fellBack := true, mixed := s.upd.mixed, stage := .ordered, reverting := true,
        firstLane := l, healthEnd := 0, cfg := none } }))

/-! ### The host protocol (R406 to R441, R454, R455) -/

/-- Packets, sessions and links (R106, R406, R408, R415 to R419, R428, R437, R553). A frame that the filter refuses is
dropped, and a packet is presented, waits in the buffer of 128, or is dropped. HELLO opens a non-secure session in the lowest
free entry under the next handle, and is BUSY at eight sessions; CLOSE, idleness and expiry close one. PING is answered from
the lane of its port, and an ARP request of a permitted host for the port's address gets its reply. A link that changes is presented; one comes up only from the first active ply on, or
for the recovery service. -/
def Obligations.HostSessionsAndPackets : Prop :=
  ∀ s : State,
    (∀ (h : ReqHead) (n0 n1 n2 n3 : Word), s.host.resetPort = none → s.ply.blocked = false → s.host.carried = [] →
      s.ply.hostWords ≤ 4096 → hostLocked s = false →
      h.reqId ≠ 0 → (s.copyReg 0x99000).bit 19 = true → queuedFrames s h.port < 128 →
      (8 ≤ s.host.sessions.length → Completes (.hello h [0, n0, n1, n2, n3]) s fun u =>
        u.host.sessions = s.host.sessions ∧ ∃ f, u.host.made = s.host.made ++ [f] ∧ f.port = h.port ∧
          f.words.getD 5 0 = 0x01000 ∧ f.words.length = 12) ∧
      (s.host.sessions.length < 8 → Completes (.hello h [0, n0, n1, n2, n3]) s fun u =>
        let n := freeHandle s.host.sessions 10 s.host.nextHandle
        let k := freeEntry s.host.sessions
        (∃ x : Session, u.host.sessions = Sparse.put s.host.sessions k x ∧ x.handle = n ∧ x.pending = false ∧
          x.secure = false ∧ x.high = h.reqId.toNat) ∧
        u.host.nextHandle = n + 1 ∧
        u.ply.recs = s.ply.recs ++ [(⟨0x0A, 1, Word.ofN (0x99010 + 4 * k), Word.ofN n, 0⟩, s.ply.at_)] ∧
        ∃ f, u.host.made = s.host.made ++ [f] ∧ f.port = h.port ∧ f.words.getD 5 0 = 0 ∧ f.words.drop 12 =
          [Word.ofN n, 0, 0, 0, 0, Word.ofN ((s.copyReg 0x99000).field 18 9), epochWord s])) ∧
    (∀ (h : ReqHead) (k : Nat) (x : Session),
      (Starts 1 h [] s k x → sessionAt s k = some x → Completes (.close h []) s fun u =>
        u.host.sessions = s.host.sessions.filter (fun p => decide (p.1 ≠ k)) ∧
        u.ply.recs = s.ply.recs ++ [(⟨0x0A, 2, Word.ofN (0x99010 + 4 * k), Word.ofN x.handle, 1⟩, s.ply.at_)] ∧
        ∃ f, u.host.made = s.host.made ++ [f] ∧ f.port = h.port ∧ f.words.getD 5 0 = 0) ∧
      (Starts 2 h [] s k x → Answers (.ping h []) 2 h [] s x 0 (pingWords s h.port) (pingWords s (otherLane h.port))
        (Counted h s k x))) ∧
    (∀ (k : Fin 8) (x : Session), sessionAt s k = some x →
      let closed := fun (cause : Word) => laneRecord ⟨0x0A, 2, Word.ofN (0x99010 + 4 * k), Word.ofN x.handle, cause⟩
        { s with host := { s.host with sessions := s.host.sessions.filter fun p => decide (p.1 ≠ k) } }
      let idle := fun (secs : Nat) => x.lastExec + 100000000 * secs ≤ s.now
      (x.pending = false → idle ((s.copyReg 0x99000).field 18 9) → exec (.sessionIdleTimeout k) s = .next (closed 2)) ∧
      (x.pending = false → exec (.pendingSessionExpiry k) s = .next s) ∧
      (x.pending = true → idle 1 → exec (.pendingSessionExpiry k) s = .next (closed 3)) ∧
      (x.pending = true → exec (.sessionIdleTimeout k) s = .next s)) ∧
    (∀ (l : Lane) (head : HostFrame) (os : List (BitVec 8)),
      let g := s.lane l
      let dropped := s.setLane l (g.countPort 1 1)
      (portAnswers s l = true →
        head.plain = false ∨ head.checksum = false ∨ head.destIp.toNat ≠ portIp g ∨ (head.source.ip.toNat ∉ permittedHosts g) ∨
          head.destUdp.toNat ≠ (portReg g 0x98009).toNat ∨ os.length < 15 →
        exec (.hostPacket l head os) s = .next dropped) ∧
      (g.role = .active ∨ g.role = .standby → g.stale = false → head.plain = true → head.checksum = true →
        head.destMac.toNat = portMac g l → head.destIp.toNat = portIp g →
        head.source.ip.toNat ∈ permittedHosts g → head.destUdp.toNat = (portReg g 0x98009).toNat →
        15 ≤ os.length → failedStep s l os = 0 →
        let p := packetOf l head.source (packetWords os) 0 0
        p.opcode ≠ 0 →
        (g.rxPly < 32 → g.rxBuf = [] → Completes (.hostPacket l head os) s fun u =>
          (u.lane l).rxPly = g.rxPly + 1 ∧ (u.lane l).portCounts = (g.countPort 0 1).portCounts ∧
          (Numbering s → Presented (if l = .white then 0x3C else 0x3D)
            ([Word.ofN (2 ^ 16 + flagAt p.sec 14 + p.opcode), Word.ofN p.payload.length, Word.ofN p.session.toNat] ++
              wordsOf p.reqId.toNat 2 ++ p.payload ++ [0]) (.packet p) s u)) ∧
        (32 ≤ g.rxPly ∨ g.rxBuf ≠ [] →
          (g.rxBuf.length < 128 → exec (.hostPacket l head os) s = .next (s.setLane l { g with rxBuf := g.rxBuf ++ [p] })) ∧
          (128 ≤ g.rxBuf.length → exec (.hostPacket l head os) s = .next (s.setLane l (g.countPort 4 1))))) ∧
      (∀ target sender : BitVec 32,
        (portAnswers s l = true → target.toNat = portIp g → sender.toNat ∈ permittedHosts g →
          exec (.arpRequest l target sender) s = .next (s.setLane l { g with arps :=
            (g.arps ++ [(⟨portIp g, portMac g l, sender.toNat, s.now⟩ : ArpReply)]).filter fun r => decide (s.now < r.time + 240000) })) ∧
        (portAnswers s l = true → target.toNat ≠ portIp g ∨ (sender.toNat ∉ permittedHosts g) →
          exec (.arpRequest l target sender) s = .next dropped)) ∧
      (g.linkUp = true → exec (.hostLinkUp l) s = .next s) ∧ (g.linkUp = false → exec (.hostLinkLoss l) s = .next s) ∧
      (g.linkUp = false → portReady s l = false → exec (.hostLinkUp l) s = .next s) ∧
      (g.linkUp = false → portReady s l = true → Completes (.hostLinkUp l) s fun u =>
        (u.lane l).linkUp = true ∧ (u.lane l).linkLosses = g.linkLosses ∧
        (u.lane l).txq = g.txq ∧ (Numbering s → Presented 0x1A [1, laneWord l, 0] (.link l true) s u)) ∧
      (g.linkUp = true → Completes (.hostLinkLoss l) s fun u =>
        (u.lane l).linkUp = false ∧ (u.lane l).linkLosses = min 0xFF (g.linkLosses + 1) ∧
        (u.lane l).txq = g.txq ∧ (Numbering s → Presented 0x1A [0, laneWord l, 0] (.link l false) s u)))

/-- Host access to the Board (R128, R137, R138, R428, R431, R434, R435). Every point is checked before any part is executed;
a point in no target makes the request RANGE, and one that the tables refuse makes it ACCESS. Reads answer the words in
order, writes store them, and writes to a unit are commands of the ply; every access is counted. A request that meets a locked
target waits at its arbiter, and changes nothing else. -/
def Obligations.HostBoardAccess : Prop :=
  ∀ (s : State) (h : ReqHead) (k : Nat) (x : Session),
    let m := x.master
    let C := Counted h s k x
    let reads := fun (as : List Nat) => accesses m (as.map fun a => (a, false)) C
    let rd := fun (a : Nat) => verdict s m x.secure a false .none = .ok
    let wr := fun (a : Nat) => verdict s m x.secure a true .none = .ok
    let sends := fun (t : Nat) (ps : List (Nat × Word)) => accesses m (ps.map fun p => (p.1, true)) { C with ply := { C.ply with
      cmds := C.ply.cmds ++ ps.map (fun p => (t, Content.write (Word.ofN p.1) p.2)),
      writes := C.ply.writes ++ ps.map fun p => (m, p.1, p.2) } }
    (∀ a : Word, Starts 0x10 h [a, 1] s k x → rd a.toNat → waitsFor s m a.toNat = true →
      Completes (.read h [a, 1]) s fun u => u = { s with
        white := { s.white with arbs := u.white.arbs }, black := { s.black with arbs := u.black.arbs }, free := s.free + 1,
        ply := { s.ply with blocked := true }, host := { s.host with stalled := u.host.stalled } } ∧
        ∃ p : Packet, u.host.stalled = s.host.stalled ++ [(p, h.seq, s.ply.at_)] ∧ p.opcode = 0x10 ∧ p.payload = [a, 1]) ∧
    (Unlocked s m →
    (∀ (a n : Word) (ws : List Word), ws = [a, n] → Starts 0x10 h ws s k x →
      (4096 < n.toNat → Answers (.read h ws) 0x10 h ws s x 4 [] [] C) ∧
      (n.toNat ≤ 4096 → 0x20000 ≤ a.toNat → a.toNat + n.toNat ≤ 0x60000 → (∀ i : Nat, i < n.toNat → rd (a.toNat + i)) →
        Answers (.read h ws) 0x10 h ws s x 0 (s.sramWords a.toNat n.toNat) (s.sramWords a.toNat n.toNat)
          (reads (addrsFrom a.toNat n.toNat))) ∧
      (n = 1 → verdict s m x.secure a.toNat false .none = .range → Answers (.read h ws) 0x10 h ws s x 4 [] [] C) ∧
      (n = 1 → verdict s m x.secure a.toNat false .none = .refused →
        Answers (.read h ws) 0x10 h ws s x 3 [] [] (refuseAccess m a.toNat false 0 C))) ∧
    (∀ ws : List Word, ws.length ≠ 2 → Starts 0x10 h ws s k x → Answers (.read h ws) 0x10 h ws s x 2 [] [] C) ∧
    (∀ (a n : Word) (data ws : List Word), ws = a :: n :: data → Starts 0x11 h ws s k x →
      (data.length ≠ n.toNat → Answers (.write h ws) 0x11 h ws s x 2 [] [] C) ∧
      (data.length = n.toNat → 478 < n.toNat → Answers (.write h ws) 0x11 h ws s x 4 [] [] C) ∧
      (data.length = n.toNat → n.toNat ≤ 478 → 0x20000 ≤ a.toNat → a.toNat + n.toNat ≤ 0x60000 →
        (∀ i : Nat, i < n.toNat → wr (a.toNat + i)) →
        Answers (.write h ws) 0x11 h ws s x 0 [] []
          (accesses m ((addrsFrom a.toNat n.toNat).map fun a => (a, true)) (C.setSrams a.toNat data)))) ∧
    (∀ ws : List Word, ws ≠ [] → ws.length ≤ 480 → (∀ a ∈ ws, 0x20000 ≤ a.toNat ∧ a.toNat < 0x60000 ∧ rd a.toNat) →
      Starts 0x12 h ws s k x →
      let out := ws.map fun a => s.sramWord a.toNat
      Answers (.readList h ws) 0x12 h ws s x 0 out out (reads (ws.map BitVec.toNat))) ∧
    (∀ (a mask v : Word) (ws : List Word), ws = [a, mask, v] → 0x20000 ≤ a.toNat → a.toNat < 0x60000 → rd a.toNat →
      wr a.toNat → Starts 0x13 h ws s k x →
      let old := s.sramWord a.toNat
      Answers (.modify h ws) 0x13 h ws s x 0 [old] [old]
        (accesses m [(a.toNat, false), (a.toNat, true)] (C.setSram a.toNat ((old &&& ~~~mask) ||| (v &&& mask))))) ∧
    (∀ (w : Word) (ws : List Word), ws = [w] → Starts 0x20 h ws s k x →
      let n := w.field 19 12
      let a := chanAddr n 0
      (175 < n ∨ w.field 11 8 = 0 ∨ 5 < w.field 11 8 → Answers (.chCommand h ws) 0x20 h ws s x 4 [] [] C) ∧
      (n ≤ 175 → wr a → pairOf s n = none →
        (w.field 11 8 = 1 → Answers (.chCommand h ws) 0x20 h ws s x 0 [] [] (sends (n / 16) [(a, 0x80000)])) ∧
        (w.field 11 8 = 2 → Answers (.chCommand h ws) 0x20 h ws s x 0 [] [] (sends (n / 16) [(a, 0x40000)])) ∧
        (w.field 11 8 = 3 → Answers (.chCommand h ws) 0x20 h ws s x 0 [] [] (sends (n / 16) [(a, 0x20000)])) ∧
        (w.field 11 8 = 4 → Answers (.chCommand h ws) 0x20 h ws s x 0 [] [] (sends (n / 16) [(a, 0x10000)])) ∧
        (w.field 11 8 = 5 → Answers (.chCommand h ws) 0x20 h ws s x 0 [] []
          (sends (n / 16) [(a, 0x20000), (a, 0x80000)])))) ∧
    (∀ (n : Word) (ws : List Word), ws = [n, 1] → n.toNat < 176 →
      (Starts 0x21 h ws s k x → (∀ o ∈ [1, 2, 0x1D, 0x1E], rd (chanAddr n.toNat o)) →
        let out := [1, 2, 0x1D, 0x1E].map fun o => s.copyReg (chanAddr n.toNat o)
        Answers (.chRead h ws) 0x21 h ws s x 0 out out (reads ([1, 2, 0x1D, 0x1E].map (chanAddr n.toNat)))) ∧
      (Starts 0x22 h ws s k x → (∀ o ∈ addrsFrom 0x14 8, rd (chanAddr n.toNat o)) →
        let out := (addrsFrom 0x14 8).map fun o => lifeWord s n.toNat o
        Answers (.chLife h ws) 0x22 h ws s x 0 out out (reads ((addrsFrom 0x14 8).map (chanAddr n.toNat))))) ∧
    (Starts 0x82 h [] s k x → (∀ a ∈ lgtReadAddrs, rd a) →
      Answers (.lgtRead h []) 0x82 h [] s x 0 (lgtReadAddrs.map s.copyReg) (lgtReadAddrs.map s.copyReg)
        (reads lgtReadAddrs)) ∧
    (Starts 0x94 h [] s k x → (∀ a ∈ accReadAddrs, rd a) →
      ∃ v, Answers (.accRead h []) 0x94 h [] s x 0 (accReadAddrs.map s.copyReg) (accReadAddrs.map s.copyReg) v) ∧
    (∀ (w : Word) (ws : List Word), ws = [w] →
      (Starts 0x92 h ws s k x → wr 0x88001 → Answers (.accRound h ws) 0x92 h ws s x 0 [] []
        (sends 13 [(0x88001, Word.ofN (2 ^ 19 + w.field 5 0 * 2 ^ 12))])) ∧
      (Starts 0x93 h ws s k x → x.secure = true → wr 0x88021 → Answers (.accDen h ws) 0x93 h ws s x 0 [] []
        (sends 14 [(0x88021, w &&& 0xE0000)]))) ∧
    (∀ (w duty fade : Word) (lvl ws : List Word), ws = w :: duty :: fade :: lvl → lvl.length = 16 → duty.toNat ≤ 0xFFFF →
      (∀ v ∈ lvl, v.toNat ≤ 0xFF) → Starts 0x80 h ws s k x →
      let y := w.field 18 16
      let ps := [(strAddr y 4, duty), (strAddr y 5, fade)] ++ ((List.range 16).map fun i => (strAddr y (16 + i), lvl.getD i 0)) ++
        [(strAddr y 0, Word.ofN (w.field 15 12 * 2 ^ 16))]
      (∀ p ∈ ps, wr p.1) → Answers (.lgtString h ws) 0x80 h ws s x 0 [] [] (sends 12 ps)) ∧
    (∀ (w : Word) (px ws : List Word), ws = w :: px → px.length = 48 * w.field 13 10 → Starts 0x81 h ws s k x →
      let first := w.field 18 14
      let n := w.field 13 10
      (n = 0 ∨ 9 < n ∨ 24 < first + n → Answers (.lgtPixels h ws) 0x81 h ws s x 4 [] [] C) ∧
      (n ≠ 0 → n ≤ 9 → first + n ≤ 24 → w.bit 0 = false →
        let ps := ((List.range (48 * n)).map fun i => pixAddr (w.field 19 19) (48 * first + i)).zip px
        (∀ p ∈ ps, wr p.1) → Answers (.lgtPixels h ws) 0x81 h ws s x 0 [] [] (sends 12 ps))) ∧
    (∀ (w : Word) (ws : List Word), ws = [w] → Starts 0xA3 h ws s k x →
      (27 < w.field 4 0 → Answers (.busStatus h ws) 0xA3 h ws s x 4 [] [] C) ∧
      (w.field 4 0 ≤ 27 → (∀ a ∈ busStatusAddrs (w.field 4 0), rd a) →
        ∃ out other v, Answers (.busStatus h ws) 0xA3 h ws s x 0 out other v ∧ out.length = 8 ∧
          out.take (busStatusAddrs (w.field 4 0)).length =
            (busStatusAddrs (w.field 4 0)).map fun a => pointValue h.port m a s)))

/-- Records, streams, mailboxes, tokens and frames over the host port (R258, R260, R344, R345, R347, R432, R433, R436, R454,
R455). -/
def Obligations.HostQueuesAndTokens : Prop :=
  ∀ (s : State) (h : ReqHead) (k : Nat) (x : Session),
    let m := x.master
    let C := Counted h s k x
    Unlocked s m →
    (∀ (a b c n : Word) (ws : List Word), ws = [a, b, c, n] →
      (Starts 0x30 h ws s k x → n.toNat ≤ 1510 →
        let from_ := ofWords [a, b, c]
        let held := s.ring.filter fun r => decide (from_ < r.seq ∧ r.seq ≤ s.seq.agreed) && !s.seq.unheard.contains r.seq
        let out := [Word.ofN (held.take n.toNat).length, Word.ofN (flagAt (decide (from_ < s.ringLost)) 19 +
          min 0x1FFF (held.length - (held.take n.toNat).length))] ++ (held.take n.toNat).flatMap recordWords
        Answers (.evtRead h ws) 0x30 h ws s x 0 out out C) ∧
      (Starts 0x30 h ws s k x → 1510 < n.toNat → Answers (.evtRead h ws) 0x30 h ws s x 4 [] [] C) ∧
      (Starts 0xA2 h ws s k x → n.toNat ≤ 255 → s.host.captures = [] →
        let out := [0, Word.ofN (flagAt (decide (ofWords [a, b, c] < s.host.captureLost)) 19)]
        Answers (.busRead h ws) 0xA2 h ws s x 0 out out C)) ∧
    (∀ (w off n : Word) (ws : List Word), ws = [w, off, n] → n.toNat ≤ 2400 → w.bit 15 = false → Starts 0x31 h ws s k x →
      let y := w.field 19 16
      (∀ o ∈ [4, 5, 6], verdict s m x.secure (strmAddr y o) false .none = .ok) →
      measView s (strmAddr y 5) = s.copyReg (strmAddr y 4) →
      let out := [s.copyReg (strmAddr y 4), measView s (strmAddr y 5), s.copyReg (strmAddr y 6), 0]
      Answers (.strRead h ws) 0x31 h ws s x 0 out out
        (accesses m [(strmAddr y 4, false), (strmAddr y 5, false), (strmAddr y 6, false)] C)) ∧
    (∀ (w : Word) (msg ws : List Word), ws = w :: msg → msg.length ≤ 8 → Starts 0x40 h ws s k x →
      let c := 32 + w.field 2 0
      (mbxOn s c = false → Answers (.mbxPost h ws) 0x40 h ws s x 4 [] [] C) ∧
      (let pts := (mbxAddr c 1 :: (List.range msg.length).map (composeAddr c)).map fun a => (a, true)
       mbxHostStatus s c x.secure = 0 → mbxDenied s m x.secure pts = none →
        let P := accesses m pts C
        let n := (s.box c).queue.length + (s.mbx.posts.filter fun p => decide (p.1 = c)).length
        (8 ≤ n → Answers (.mbxPost h ws) 0x40 h ws s x 1 [] [] P) ∧
        (n < 8 →
          let v := P.modBox c fun b => { b with aborted := false }
          Answers (.mbxPost h ws) 0x40 h ws s x 0 [] [] { v with mbx := { v.mbx with posts := s.mbx.posts ++ [(c, msg)] } }))) ∧
    (∀ (w : Word) (ws : List Word), ws = [w] → Starts 0x41 h ws s k x →
      let c := 40 + w.field 2 0
      let n := w.field 7 4
      let pts := ((mbxAddr c 5 :: mbxAddr c 6 :: (List.range 64).map (0x9A000 + 64 * c + ·)).map fun a => (a, false)) ++
        [(mbxAddr c 7, true)]
      mbxHostStatus s c x.secure = 0 → mbxDenied s m x.secure pts = none → ackedNow s c = 0 →
      ((s.box c).queue.length < n → Answers (.mbxFetch h ws) 0x41 h ws s x 4 [] [] C) ∧
      (n ≤ (s.box c).queue.length → n ≠ 0 →
        let rest := (s.box c).queue.drop n
        let out := Word.ofN rest.length :: rest.flatMap fun ws => Word.ofN ws.length :: ws
        let v := (accesses m pts C).modBox c fun b => { b with db := false }
        out.length ≤ 472 → Answers (.mbxFetch h ws) 0x41 h ws s x 0 out out
          { v with mbx := { v.mbx with acks := s.mbx.acks ++ [(c, n)] } })) ∧
    (Starts 0x42 h [] s k x →
      let out := (List.range 8).map (mbxStatusWord s)
      Answers (.mbxStatus h []) 0x42 h [] s x 0 out out C) ∧
    (∀ (w tx : Word) (fr ws : List Word), ws = w :: tx :: fr → Starts 0xA0 h ws s k x →
      let b := w.field 4 0
      let op := tx.field 19 18
      (op ≠ 2 → fr.length ≠ recWords fr → Answers (.busSend h ws) 0xA0 h ws s x 2 [] [] C) ∧
      (b ≤ 27 → op = 0 ∨ op = 1 → fr.length = recWords fr → objectZeroHeld s b op (tx.field 17 12) = false →
        verdict s m x.secure (busqAddr b 0) true .none = .ok → verdict s m x.secure (busqAddr b 1) true .none = .ok →
        Answers (.busSend h ws) 0xA0 h ws s x 0 [] [] (emit [(15 + b, .bus (BitVec.ofNat 2 op)
          (BitVec.ofNat 6 (tx.field 17 12)) (BitVec.ofNat 12 (tx.field 11 0)) fr)]
          (let v := (accesses m [(busqAddr b 0, true), (busqAddr b 1, true)] C).setLive (busqAddr b 0) tx
           let v := { v with ply := { v.ply with writes := v.ply.writes ++ [(m, busqAddr b 0, tx)] } }
           let v := v.modBus b fun y => { y with part := none }
           if fr = [] then v else { v.setSrams (freePlace v fr.length) fr with free := v.free + 1 })))) ∧
    (∀ (w a b c d : Word) (ws : List Word), ws = [w, a, b, c, d] → w.field 4 0 ≤ 27 → Starts 0xA1 h ws s k x →
      Answers (.busTap h ws) 0xA1 h ws s x 0 [] [] (C.modBus (w.field 4 0) fun y => { y with
        tap := a.toNat % 2 ^ 16 + b.toNat % 2 ^ 16 * 2 ^ 16 + c.toNat % 2 ^ 16 * 2 ^ 32 + d.toNat % 2 ^ 16 * 2 ^ 48 })) ∧
    (∀ ws : List Word, ws.length = 16 → ws.getD 0 0 &&& 0xFFFF0 = 0 → x.secure = true → Starts 0x90 h ws s k x →
      let i := (ws.getD 0 0).field 3 0
      let P := accesses m [(tokAddr i, true)] C
      verdict s m true (tokAddr i) true .none = .ok →
      (nvmRefused s = true ∨ (∃ p ∈ s.acc.tokens, p.1 = i) → Answers (.accEnrol h ws) 0x90 h ws s x 5 [] [] P) ∧
      (nvmRefused s = false → (∀ p ∈ s.acc.tokens, p.1 ≠ i) →
        let id := (ws.getD 1 0).toNat % 2 ^ 16 + 2 ^ 16 * ((ws.getD 2 0).toNat % 2 ^ 16)
        let reg := Word.ofN (2 ^ 19 + (ws.getD 3 0).field 1 0 * 2 ^ 17 + id % 2 ^ 16)
        match unwrapKey Config.transportKey (wordOctets (ws.drop 4)) with
        | none => Answers (.accEnrol h ws) 0x90 h ws s x 9 [] [] P
        | some key => ∃ v, Answers (.accEnrol h ws) 0x90 h ws s x 0 [0xFFFFF] [0xFFFFF] v ∧
          v.acc.tokens = Sparse.put s.acc.tokens i ⟨id, key⟩ ∧ v.liveReg (tokAddr i) = reg ∧ v.copyReg (tokAddr i) = reg ∧
          v.ply.cmds = s.ply.cmds ++ [(13, .round 0 63 (some (BitVec.ofNat 4 i)))])) ∧
    (∀ (w : Word) (ws : List Word), ws = [w] → x.secure = true → Starts 0x91 h ws s k x →
      let i := w.field 3 0
      let P := accesses m [(tokAddr i, true)] C
      verdict s m true (tokAddr i) true .none = .ok →
      (nvmRefused s = true ∨ (∀ p ∈ s.acc.tokens, p.1 ≠ i) → Answers (.accDelete h ws) 0x91 h ws s x 5 [] [] P) ∧
      (nvmRefused s = false → (∃ p ∈ s.acc.tokens, p.1 = i) → ∃ v, Answers (.accDelete h ws) 0x91 h ws s x 0 [] [] v ∧
        v.acc.tokens = s.acc.tokens.filter (fun p => decide (p.1 ≠ i)) ∧ v.liveReg (tokAddr i) = 0 ∧ v.copyReg (tokAddr i) = 0 ∧
        (s.acc.sessToken = i → v.acc.sessOpen = false)))

/-- Power, lanes, updates and keys over the host port (R107, R415, R428, R430, R465, R488, R516 to R519, R523, R527,
R528). A non-secure session is answered ACCESS; where the supply forbids programming the NVM, what would program it is answered
STATE (R47, as assumption log 55 reads it). -/
def Obligations.HostControl : Prop :=
  ∀ (s : State) (h : ReqHead) (k : Nat) (x : Session),
    let C := Counted h s k x
    let ok := fun (c : Instr) (code : Nat) (ws : List Word) (v : State) => Answers c code h ws s x 0 [] [] v
    let no := fun (c : Instr) (code : Nat) (ws : List Word) (status : Nat) => Answers c code h ws s x status [] [] C
    (x.secure = false → ∀ ws : List Word,
      (Starts 0x03 h ws s k x → no (.moduleReset h ws) 0x03 ws 3) ∧ (Starts 0x50 h ws s k x → no (.updBegin h ws) 0x50 ws 3) ∧
      (Starts 0x51 h ws s k x → no (.updData h ws) 0x51 ws 3) ∧ (Starts 0x52 h ws s k x → no (.updVerify h ws) 0x52 ws 3) ∧
      (Starts 0x53 h ws s k x → no (.updActivate h ws) 0x53 ws 3) ∧ (Starts 0x54 h ws s k x → no (.updConfirm h ws) 0x54 ws 3) ∧
      (Starts 0x56 h ws s k x → no (.keyLoad h ws) 0x56 ws 3) ∧ (Starts 0x60 h ws s k x → no (.pwrRequest h ws) 0x60 ws 3) ∧
      (Starts 0x70 h ws s k x → no (.castle h ws) 0x70 ws 3) ∧ (Starts 0x71 h ws s k x → no (.laneReset h ws) 0x71 ws 3)) ∧
    (Starts 0x55 h [] s k x →
      let out := (List.range 6).map (updWord s s.upd)
      Answers (.updStatus h []) 0x55 h [] s x 0 out out C) ∧
    (Starts 0x61 h [] s k x → Answers (.pwrStatus h []) 0x61 h [] s x 0 ([4, 7, 9, 6].map (pwrRegWord s h.port))
      ([4, 7, 9, 6].map (pwrRegWord s (otherLane h.port))) C) ∧
    (Starts 0x72 h [] s k x → Answers (.laneStatus h []) 0x72 h [] s x 0 (laneStatusWords s h.port)
      (laneStatusWords s (otherLane h.port)) C) ∧
    (x.secure = true →
      (∀ w : Word, Starts 0x03 h [w] s k x →
        (w = 0x5A5A5 → ok (.moduleReset h [w]) 0x03 [w] { C with host := { C.host with resetPort := some h.port } }) ∧
        (w ≠ 0x5A5A5 → no (.moduleReset h [w]) 0x03 [w] 4)) ∧
      (∀ w : Word, Starts 0x71 h [w] s k x →
        let l := if w.bit 19 then Lane.black else .white
        (w.bit 0 = true ∨ activeLane s ≠ some l ∨ covered s = true →
          ok (.laneReset h [w]) 0x71 [w] { C with lanes := { s.lanes with resetReq := s.lanes.resetReq ++ [l] } }) ∧
        (w.bit 0 = false → activeLane s = some l → covered s = false → no (.laneReset h [w]) 0x71 [w] 5)) ∧
      (Starts 0x70 h [] s k x →
        (covered s = false → no (.castle h []) 0x70 [] 5) ∧
        (covered s = true → s.lanes.castle.isSome = true → no (.castle h []) 0x70 [] 1) ∧
        (covered s = true → s.lanes.castle = none → exec (.castle h []) s = .next { C with lanes := { s.lanes with
          castle := some (some ⟨⟨h.port, h.source, 0x70, h.sec, h.session, h.reqId, [], 0, Config.deviceNonce s.free, true⟩,
            h.seq, s.ply.at_, some x.keyRep⟩, s.ply.number), handed := false } })) ∧
      (∀ w : Word, Starts 0x60 h [w] s k x →
        (4 < w.field 2 0 → no (.pwrRequest h [w]) 0x60 [w] 4) ∧
        (w.field 2 0 = s.pwr.state.code → s.pwr.entering = false → ok (.pwrRequest h [w]) 0x60 [w] C) ∧
        (w.field 2 0 = 1 → s.pwr.state = .run → s.pwr.entering = false → denRunning s = false →
          ok (.pwrRequest h [w]) 0x60 [w] { C with pwr := { s.pwr with next := some .idle } }) ∧
        (w.field 2 0 = 2 → s.pwr.entering = true → no (.pwrRequest h [w]) 0x60 [w] 1)) ∧
      (∀ a b c : Word, Starts 0x50 h [a, b, c] s k x →
        let len := b.toNat + 2 ^ 20 * c.toNat
        let kind := a.field 19 18
        (a.field 17 16 ≠ 3 ∨ 1 < kind ∨ updLengthOk kind len = false → no (.updBegin h [a, b, c]) 0x50 [a, b, c] 4) ∧
        (a.field 17 16 = 3 → kind ≤ 1 → updLengthOk kind len = true → s.upd.stage ≠ .idle →
          no (.updBegin h [a, b, c]) 0x50 [a, b, c] 1) ∧
        (a.field 17 16 = 3 → kind ≤ 1 → updLengthOk kind len = true → s.upd.stage = .idle → nvmRefused s = true →
          no (.updBegin h [a, b, c]) 0x50 [a, b, c] 5) ∧
        (a.field 17 16 = 3 → kind ≤ 1 → updLengthOk kind len = true → s.upd.stage = .idle → nvmRefused s = false →
          ∃ v, ok (.updBegin h [a, b, c]) 0x50 [a, b, c] v ∧ v.upd.phase = .erasing ∧ v.upd.kind = decide (kind = 1) ∧
            v.upd.length = len ∧ v.upd.rcvd = 0 ∧ v.upd.result = 0 ∧ v.upd.octets = [] ∧
            (∀ l : Lane, ((v.lane l).nvm.areas (decide (kind = 1))).staging = none) ∧
            v.ply.recs = s.ply.recs ++ [(⟨0x0E, 1, 0x9F000, Word.ofN kind, 0⟩, s.ply.at_)])) ∧
      (∀ (a b : Word) (ds : List Word), Starts 0x51 h (a :: b :: ds) s k x → 1 ≤ ds.length → ds.length ≤ 478 →
        let off := a.toNat + 2 ^ 20 * b.toNat
        let last := off + 2 * ds.length
        (s.upd.phase = .erasing → no (.updData h (a :: b :: ds)) 0x51 (a :: b :: ds) 1) ∧
        (s.upd.phase = .verified ∨ (s.upd.phase = .receiving ∧ nvmRefused s = true) →
          no (.updData h (a :: b :: ds)) 0x51 (a :: b :: ds) 5) ∧
        (s.upd.phase = .receiving → nvmRefused s = false → s.upd.rcvd < off ∨ s.upd.length < last →
          no (.updData h (a :: b :: ds)) 0x51 (a :: b :: ds) 4) ∧
        (s.upd.phase = .receiving → nvmRefused s = false → off = s.upd.rcvd → last ≤ s.upd.length → updQueued s s.upd + 2 * ds.length ≤ 32768 →
          ∃ v, ok (.updData h (a :: b :: ds)) 0x51 (a :: b :: ds) v ∧ v.upd.rcvd = last ∧
            v.upd.queued = updQueued s s.upd + 2 * ds.length ∧ v = { C with upd := v.upd })) ∧
      (Starts 0x52 h [] s k x →
        (s.upd.phase = .receiving → s.upd.rcvd = s.upd.length → Answers (.updVerify h []) 0x52 h [] s x 0 [0] [0]
          { C with upd := { s.upd with phase := .verifying, verifiedW := none, verifiedB := none } }) ∧
        (s.upd.phase ≠ .receiving ∨ s.upd.rcvd ≠ s.upd.length → no (.updVerify h []) 0x52 [] 5)) ∧
      (∀ w : Word, Starts 0x53 h [w] s k x →
        (w.field 17 16 ≠ 3 → no (.updActivate h [w]) 0x53 [w] 4) ∧
        (∀ l : Lane, w.field 17 16 = 3 → s.upd.stage = .idle → s.upd.fwReady = true ∨ s.upd.cfgReady = true →
          covered s = true → standbyLane s = some l → denRunning s = false → s.pwr.entering = false →
          formatAccepted s = true → nvmRefused s = false →
          ok (.updActivate h [w]) 0x53 [w] (laneRecord ⟨0x0E, 3, 0x9F000,
            Word.ofN (flagAt s.upd.fwReady 11 + flagAt s.upd.cfgReady 10), 0⟩ { C with upd := { s.upd with
              phase := .activating, stage := .ordered, firstLane := l, reverting := false, fellBack := false } }))) ∧
      (Starts 0x54 h [] s k x →
        (s.upd.stage ≠ .health ∨ nvmRefused s = true → no (.updConfirm h []) 0x54 [] 5) ∧
        (s.upd.stage = .health → nvmRefused s = false → ∃ v, ok (.updConfirm h []) 0x54 [] v ∧ v.upd.phase = .none ∧ v.upd.result = 1 ∧
          v.upd.stage = .idle ∧ (∀ l : Lane, s.upd.fwReady = true →
            (v.lane l).nvm.fw.active = (s.lane l).nvm.fw.active.map (fun i => { i with confirmed := true }) ∧
            (v.lane l).nvm.fw.staging = none))) ∧
      (∀ (w : Word) (key : List Word) (n : Nat), Starts 0x56 h (w :: key) s k x →
        (w.field 19 16 = 0 → no (.keyLoad h (w :: key)) 0x56 (w :: key) 5) ∧
        (6 < w.field 19 16 → no (.keyLoad h (w :: key)) 0x56 (w :: key) 4) ∧
        (keyWords (w.field 19 16) = some n → key.length ≠ n → no (.keyLoad h (w :: key)) 0x56 (w :: key) 2) ∧
        (keyWords (w.field 19 16) = some n → key.length = n → nvmRefused s = true →
          no (.keyLoad h (w :: key)) 0x56 (w :: key) 5) ∧
        (keyWords (w.field 19 16) = some n → key.length = n → nvmRefused s = false →
          match unwrapKey Config.transportKey (wordOctets key) with
          | none => no (.keyLoad h (w :: key)) 0x56 (w :: key) 9
          | some y => ok (.keyLoad h (w :: key)) 0x56 (w :: key) (laneRecord ⟨0x0E, 7, 0x9F000, Word.ofN (w.field 19 16), 0⟩
              { C with keys := Sparse.put s.keys (w.field 19 16) y }))))
end

