-- ==== Sys2Proof/Laws/Sparse.lean ====
section
/-! SUPPORT. The laws of the sparse collections: a read after a write, and that every operation keeps the canonical form. -/

namespace Sys2Proof.Machine

open Sys2Proof

theorem Sparse.get_put {α : Type} (d : Nat → α) (m : List (Nat × α)) (k j : Nat) (v : α) :
    Sparse.get d (Sparse.put m k v) j = if k = j then v else Sparse.get d m j := by
  induction m with
  | nil => simp [Sparse.put, Sparse.get]
  | cons p m ih =>
    obtain ⟨i, w⟩ := p
    simp only [Sparse.put]
    split
    · by_cases h : k = j <;> simp [Sparse.get, h]
    · split
      · subst_vars; by_cases h : i = j <;> simp [Sparse.get, h]
      · by_cases h : i = j
        · have : ¬k = j := by omega
          simp [Sparse.get, h, this]
        · simp [Sparse.get, h, ih]

theorem Sparse.put_put {α : Type} (m : List (Nat × α)) (k : Nat) (v w : α) :
    Sparse.put (Sparse.put m k v) k w = Sparse.put m k w := by
  induction m with
  | nil => simp [Sparse.put]
  | cons p m ih =>
    obtain ⟨i, x⟩ := p
    simp only [Sparse.put]
    split
    · simp [Sparse.put]
    · split
      · simp [Sparse.put]
      · simp [Sparse.put, *]

theorem Sparse.get_erase {α : Type} (d : Nat → α) (m : List (Nat × α)) (k j : Nat) :
    Sparse.get d (Sparse.erase m k) j = if k = j then d j else Sparse.get d m j := by
  induction m with
  | nil => simp [Sparse.erase, Sparse.get]
  | cons p m ih =>
    obtain ⟨i, w⟩ := p
    simp only [Sparse.erase] at ih
    by_cases h : i = k
    · subst h
      simp only [Sparse.erase, List.filter, ne_eq, not_true, decide_false, ih, Sparse.get]
      split <;> rfl
    · by_cases hj : i = j
      · subst hj
        have : ¬k = i := fun e => h e.symm
        simp [Sparse.erase, List.filter, Sparse.get, h, this]
      · simp only [Sparse.erase, List.filter, ne_eq, h, not_false_eq_true, decide_true, Sparse.get, hj, if_false, ih]

/-- A read after a write: the value at the key written, and what was there anywhere else. -/
theorem Sparse.get_set {α : Type} [DecidableEq α] (d : Nat → α) (m : List (Nat × α)) (k j : Nat) (v : α) :
    Sparse.get d (Sparse.set d m k v) j = if k = j then v else Sparse.get d m j := by
  unfold Sparse.set
  split
  · rw [Sparse.get_erase]; split
    · subst_vars; rfl
    · rfl
  · exact Sparse.get_put d m k j v

theorem Sparse.rising_iff {α : Type} (lo : Option Nat) (k : Nat) (w : α) (m : List (Nat × α)) :
    Sparse.rising lo ((k, w) :: m) = true ↔ (∀ j, lo = some j → j < k) ∧ Sparse.rising (some k) m = true := by
  cases lo <;> simp [Sparse.rising]

theorem Sparse.rising_weaken {α : Type} {lo hi : Option Nat} {m : List (Nat × α)}
    (h : ∀ j, lo = some j → ∃ i, hi = some i ∧ j ≤ i) (hm : Sparse.rising hi m = true) : Sparse.rising lo m = true := by
  cases m with
  | nil => rfl
  | cons p m =>
    obtain ⟨k, w⟩ := p
    rw [Sparse.rising_iff] at hm ⊢
    refine ⟨fun j hj => ?_, hm.2⟩
    obtain ⟨i, hi, hle⟩ := h j hj
    exact lt_of_le_of_lt hle (hm.1 i hi)

theorem Sparse.rising_put {α : Type} (m : List (Nat × α)) (lo : Option Nat) (k : Nat) (v : α)
    (hl : ∀ j, lo = some j → j < k) (hm : Sparse.rising lo m = true) : Sparse.rising lo (Sparse.put m k v) = true := by
  induction m generalizing lo with
  | nil => exact (Sparse.rising_iff _ _ _ _).2 ⟨hl, rfl⟩
  | cons p m ih =>
    obtain ⟨i, w⟩ := p
    have h := (Sparse.rising_iff _ _ _ _).1 hm
    simp only [Sparse.put]
    split
    · exact (Sparse.rising_iff _ _ _ _).2
        ⟨hl, (Sparse.rising_iff _ _ _ _).2 ⟨fun j hj => by injection hj with e; omega, h.2⟩⟩
    · split
      · subst_vars; exact (Sparse.rising_iff _ _ _ _).2 ⟨hl, h.2⟩
      · exact (Sparse.rising_iff _ _ _ _).2 ⟨h.1, ih (some i) (fun j hj => by injection hj with e; omega) h.2⟩

theorem Sparse.rising_filter {α : Type} (m : List (Nat × α)) (f : Nat × α → Bool) (lo : Option Nat)
    (hm : Sparse.rising lo m = true) : Sparse.rising lo (m.filter f) = true := by
  induction m generalizing lo with
  | nil => rfl
  | cons p m ih =>
    obtain ⟨i, w⟩ := p
    have h := (Sparse.rising_iff _ _ _ _).1 hm
    simp only [List.filter]
    split
    · exact (Sparse.rising_iff _ _ _ _).2 ⟨h.1, ih (some i) h.2⟩
    · exact ih lo (Sparse.rising_weaken (fun j hj => ⟨i, rfl, le_of_lt (h.1 j hj)⟩) h.2)

theorem Sparse.all_put {α : Type} (m : List (Nat × α)) (k : Nat) (v : α) (f : Nat × α → Bool) (hv : f (k, v) = true)
    (hm : m.all f = true) : (Sparse.put m k v).all f = true := by
  induction m with
  | nil => simp [Sparse.put, hv]
  | cons p m ih =>
    obtain ⟨i, w⟩ := p
    simp only [List.all_cons, Bool.and_eq_true] at hm
    simp only [Sparse.put]
    split
    · simp [hv, hm.1, hm.2]
    · split
      · simp [hv, hm.2]
      · simp [hm.1, ih hm.2]

/-- A write keeps the canonical form. -/
theorem Sparse.wf_set {α : Type} [DecidableEq α] (d : Nat → α) (m : List (Nat × α)) (k : Nat) (v : α)
    (h : Sparse.wf d m = true) : Sparse.wf d (Sparse.set d m k v) = true := by
  unfold Sparse.wf at h ⊢
  simp only [Bool.and_eq_true] at h ⊢
  unfold Sparse.set
  split
  · refine ⟨Sparse.rising_filter m _ none h.1, ?_⟩
    simp only [Sparse.erase, List.all_filter]
    exact List.all_eq_true.2 fun p hp => by simp [List.all_eq_true.1 h.2 p hp]
  · exact ⟨Sparse.rising_put m none k v (fun _ hj => by cases hj) h.1, Sparse.all_put m k v _ (by simpa using ‹_›) h.2⟩

end Sys2Proof.Machine
end

