-- ==== Sys2Proof/Laws/State.lean ====
section
/-! SUPPORT. What each update of the state leaves unchanged, and what a read gives after it. -/

namespace Sys2Proof.Machine

open Sys2Proof

variable (s : State)

/-! ### A change is a replacement by the changed value -/

@[simp] theorem State.modChan_eq (n : Nat) (f : Chan → Chan) : s.modChan n f = s.setChan n (f (s.chan n)) := rfl
@[simp] theorem State.modTgt_eq (t : Nat) (f : Target → Target) : s.modTgt t f = s.setTgt t (f (s.tgt t)) := rfl
@[simp] theorem State.modBus_eq (b : Nat) (f : Bus → Bus) : s.modBus b f = s.setBus b (f (s.bus b)) := rfl
@[simp] theorem State.modBox_eq (k : Nat) (f : Mbx → Mbx) : s.modBox k f = s.setBox k (f (s.box k)) := rfl
@[simp] theorem State.modCore_eq (c : Nat) (f : Kwask → Kwask) : s.modCore c f = s.setCore c (f (s.core c)) := rfl
@[simp] theorem State.modLane_eq (l : Lane) (f : LaneSt → LaneSt) : s.modLane l f = s.setLane l (f (s.lane l)) := rfl

/-! ### `setChan` -/

@[simp] theorem State.setChan_fields (n : Nat) (c : Chan) :
    (s.setChan n c).pending = s.pending ∧ (s.setChan n c).now = s.now ∧ (s.setChan n c).free = s.free ∧
    (s.setChan n c).sup = s.sup ∧ (s.setChan n c).seq = s.seq ∧ (s.setChan n c).ply = s.ply ∧
    (s.setChan n c).lanes = s.lanes ∧ (s.setChan n c).white = s.white ∧ (s.setChan n c).black = s.black ∧
    (s.setChan n c).targets = s.targets ∧ (s.setChan n c).douts = s.douts ∧ (s.setChan n c).strs = s.strs ∧
    (s.setChan n c).mxs = s.mxs ∧ (s.setChan n c).acc = s.acc ∧ (s.setChan n c).den = s.den ∧
    (s.setChan n c).buses = s.buses ∧ (s.setChan n c).fab = s.fab ∧ (s.setChan n c).live = s.live ∧
    (s.setChan n c).copy = s.copy ∧ (s.setChan n c).sram = s.sram ∧ (s.setChan n c).measPend = s.measPend ∧
    (s.setChan n c).comps = s.comps ∧ (s.setChan n c).slots = s.slots ∧ (s.setChan n c).streams = s.streams ∧
    (s.setChan n c).dmas = s.dmas ∧ (s.setChan n c).dins = s.dins ∧ (s.setChan n c).dinRuns = s.dinRuns ∧
    (s.setChan n c).life = s.life ∧ (s.setChan n c).tables = s.tables ∧ (s.setChan n c).shadow = s.shadow ∧
    (s.setChan n c).commitPend = s.commitPend ∧ (s.setChan n c).host = s.host ∧ (s.setChan n c).mbx = s.mbx ∧
    (s.setChan n c).pwr = s.pwr ∧ (s.setChan n c).cores = s.cores ∧ (s.setChan n c).upd = s.upd ∧
    (s.setChan n c).updWhite = s.updWhite ∧ (s.setChan n c).updBlack = s.updBlack ∧ (s.setChan n c).keys = s.keys ∧
    (s.setChan n c).ring = s.ring ∧ (s.setChan n c).ringLost = s.ringLost ∧ (s.setChan n c).log = s.log ∧
    (s.setChan n c).maintenance = s.maintenance := by
  refine ⟨rfl, rfl, rfl, rfl, rfl, rfl, rfl, rfl, rfl, rfl, rfl, rfl, rfl, rfl, rfl, rfl, rfl, rfl, rfl, rfl, rfl, rfl, rfl, rfl, rfl, rfl, rfl, rfl, rfl, rfl, rfl, rfl, rfl, rfl, rfl, rfl, rfl, rfl, rfl, rfl, rfl, rfl, rfl⟩

@[simp] theorem State.setChan_reads (n : Nat) (c : Chan) (j : Nat) :
    (s.setChan n c).tgt j = s.tgt j ∧ (s.setChan n c).dout j = s.dout j ∧ (s.setChan n c).str j = s.str j ∧
    (s.setChan n c).mx j = s.mx j ∧ (s.setChan n c).bus j = s.bus j ∧ (s.setChan n c).comp j = s.comp j ∧
    (s.setChan n c).slot j = s.slot j ∧ (s.setChan n c).stream j = s.stream j ∧ (s.setChan n c).dma j = s.dma j ∧
    (s.setChan n c).din j = s.din j ∧ (s.setChan n c).doutRuns j = s.doutRuns j ∧ (s.setChan n c).box j = s.box j ∧
    (s.setChan n c).core j = s.core j ∧ (s.setChan n c).lifeOf j = s.lifeOf j ∧
    (s.setChan n c).liveReg j = s.liveReg j ∧ (s.setChan n c).copyReg j = s.copyReg j ∧
    (s.setChan n c).sramWord j = s.sramWord j ∧ leaderOf (s.setChan n c) j = leaderOf s j ∧
    members (s.setChan n c) j = members s j := by
  refine ⟨rfl, rfl, rfl, rfl, rfl, rfl, rfl, rfl, rfl, rfl, rfl, rfl, rfl, rfl, rfl, rfl, rfl, rfl, rfl⟩
@[simp] theorem State.setChan_chReg (n : Nat) (c : Chan) (j off : Nat) : chReg (s.setChan n c) j off = chReg s j off := rfl
@[simp] theorem State.setChan_lane (n : Nat) (c : Chan) (l : Lane) : (s.setChan n c).lane l = s.lane l := by cases l <;> rfl
@[simp] theorem State.setChan_roles (n : Nat) (c : Chan) :
    activeLane (s.setChan n c) = activeLane s ∧ standbyLane (s.setChan n c) = standbyLane s := ⟨rfl, rfl⟩
@[simp] theorem State.setChan_feedOk (n : Nat) (c : Chan) (fd : Feed) : feedOk (s.setChan n c) fd = feedOk s fd := by cases fd <;> rfl

/-- A read after `setChan`. -/
@[simp] theorem State.setChan_chan (n : Nat) (c : Chan) (j : Nat) : (s.setChan n c).chan j = if n = j then c else s.chan j :=
  Sparse.get_set _ _ _ _ _

/-! ### `setTgt` -/

@[simp] theorem State.setTgt_fields (t : Nat) (g : Target) :
    (s.setTgt t g).pending = s.pending ∧ (s.setTgt t g).now = s.now ∧ (s.setTgt t g).free = s.free ∧
    (s.setTgt t g).sup = s.sup ∧ (s.setTgt t g).seq = s.seq ∧ (s.setTgt t g).ply = s.ply ∧
    (s.setTgt t g).lanes = s.lanes ∧ (s.setTgt t g).white = s.white ∧ (s.setTgt t g).black = s.black ∧
    (s.setTgt t g).chans = s.chans ∧ (s.setTgt t g).douts = s.douts ∧ (s.setTgt t g).strs = s.strs ∧
    (s.setTgt t g).mxs = s.mxs ∧ (s.setTgt t g).acc = s.acc ∧ (s.setTgt t g).den = s.den ∧
    (s.setTgt t g).buses = s.buses ∧ (s.setTgt t g).fab = s.fab ∧ (s.setTgt t g).live = s.live ∧
    (s.setTgt t g).copy = s.copy ∧ (s.setTgt t g).sram = s.sram ∧ (s.setTgt t g).measPend = s.measPend ∧
    (s.setTgt t g).comps = s.comps ∧ (s.setTgt t g).slots = s.slots ∧ (s.setTgt t g).streams = s.streams ∧
    (s.setTgt t g).dmas = s.dmas ∧ (s.setTgt t g).dins = s.dins ∧ (s.setTgt t g).dinRuns = s.dinRuns ∧
    (s.setTgt t g).life = s.life ∧ (s.setTgt t g).tables = s.tables ∧ (s.setTgt t g).shadow = s.shadow ∧
    (s.setTgt t g).commitPend = s.commitPend ∧ (s.setTgt t g).host = s.host ∧ (s.setTgt t g).mbx = s.mbx ∧
    (s.setTgt t g).pwr = s.pwr ∧ (s.setTgt t g).cores = s.cores ∧ (s.setTgt t g).upd = s.upd ∧
    (s.setTgt t g).updWhite = s.updWhite ∧ (s.setTgt t g).updBlack = s.updBlack ∧ (s.setTgt t g).keys = s.keys ∧
    (s.setTgt t g).ring = s.ring ∧ (s.setTgt t g).ringLost = s.ringLost ∧ (s.setTgt t g).log = s.log ∧
    (s.setTgt t g).maintenance = s.maintenance := by
  refine ⟨rfl, rfl, rfl, rfl, rfl, rfl, rfl, rfl, rfl, rfl, rfl, rfl, rfl, rfl, rfl, rfl, rfl, rfl, rfl, rfl, rfl, rfl, rfl, rfl, rfl, rfl, rfl, rfl, rfl, rfl, rfl, rfl, rfl, rfl, rfl, rfl, rfl, rfl, rfl, rfl, rfl, rfl, rfl⟩

@[simp] theorem State.setTgt_reads (t : Nat) (g : Target) (j : Nat) :
    (s.setTgt t g).chan j = s.chan j ∧ (s.setTgt t g).dout j = s.dout j ∧ (s.setTgt t g).str j = s.str j ∧
    (s.setTgt t g).mx j = s.mx j ∧ (s.setTgt t g).bus j = s.bus j ∧ (s.setTgt t g).comp j = s.comp j ∧
    (s.setTgt t g).slot j = s.slot j ∧ (s.setTgt t g).stream j = s.stream j ∧ (s.setTgt t g).dma j = s.dma j ∧
    (s.setTgt t g).din j = s.din j ∧ (s.setTgt t g).doutRuns j = s.doutRuns j ∧ (s.setTgt t g).box j = s.box j ∧
    (s.setTgt t g).core j = s.core j ∧ (s.setTgt t g).lifeOf j = s.lifeOf j ∧
    (s.setTgt t g).liveReg j = s.liveReg j ∧ (s.setTgt t g).copyReg j = s.copyReg j ∧
    (s.setTgt t g).sramWord j = s.sramWord j ∧ leaderOf (s.setTgt t g) j = leaderOf s j ∧
    members (s.setTgt t g) j = members s j := by
  refine ⟨rfl, rfl, rfl, rfl, rfl, rfl, rfl, rfl, rfl, rfl, rfl, rfl, rfl, rfl, rfl, rfl, rfl, rfl, rfl⟩
@[simp] theorem State.setTgt_chReg (t : Nat) (g : Target) (j off : Nat) : chReg (s.setTgt t g) j off = chReg s j off := rfl
@[simp] theorem State.setTgt_lane (t : Nat) (g : Target) (l : Lane) : (s.setTgt t g).lane l = s.lane l := by cases l <;> rfl
@[simp] theorem State.setTgt_roles (t : Nat) (g : Target) :
    activeLane (s.setTgt t g) = activeLane s ∧ standbyLane (s.setTgt t g) = standbyLane s := ⟨rfl, rfl⟩
@[simp] theorem State.setTgt_feedOk (t : Nat) (g : Target) (fd : Feed) : feedOk (s.setTgt t g) fd = feedOk s fd := by cases fd <;> rfl

/-- A read after `setTgt`. -/
@[simp] theorem State.setTgt_tgt (t : Nat) (g : Target) (j : Nat) : (s.setTgt t g).tgt j = if t = j then g else s.tgt j :=
  Sparse.get_set _ _ _ _ _

/-! ### `modDout` -/

@[simp] theorem State.modDout_fields (o : Nat) (f : Dout → Dout) :
    (s.modDout o f).pending = s.pending ∧ (s.modDout o f).now = s.now ∧ (s.modDout o f).free = s.free ∧
    (s.modDout o f).sup = s.sup ∧ (s.modDout o f).seq = s.seq ∧ (s.modDout o f).ply = s.ply ∧
    (s.modDout o f).lanes = s.lanes ∧ (s.modDout o f).white = s.white ∧ (s.modDout o f).black = s.black ∧
    (s.modDout o f).targets = s.targets ∧ (s.modDout o f).chans = s.chans ∧ (s.modDout o f).strs = s.strs ∧
    (s.modDout o f).mxs = s.mxs ∧ (s.modDout o f).acc = s.acc ∧ (s.modDout o f).den = s.den ∧
    (s.modDout o f).buses = s.buses ∧ (s.modDout o f).fab = s.fab ∧ (s.modDout o f).live = s.live ∧
    (s.modDout o f).copy = s.copy ∧ (s.modDout o f).sram = s.sram ∧ (s.modDout o f).measPend = s.measPend ∧
    (s.modDout o f).comps = s.comps ∧ (s.modDout o f).slots = s.slots ∧ (s.modDout o f).streams = s.streams ∧
    (s.modDout o f).dmas = s.dmas ∧ (s.modDout o f).dins = s.dins ∧ (s.modDout o f).dinRuns = s.dinRuns ∧
    (s.modDout o f).life = s.life ∧ (s.modDout o f).tables = s.tables ∧ (s.modDout o f).shadow = s.shadow ∧
    (s.modDout o f).commitPend = s.commitPend ∧ (s.modDout o f).host = s.host ∧ (s.modDout o f).mbx = s.mbx ∧
    (s.modDout o f).pwr = s.pwr ∧ (s.modDout o f).cores = s.cores ∧ (s.modDout o f).upd = s.upd ∧
    (s.modDout o f).updWhite = s.updWhite ∧ (s.modDout o f).updBlack = s.updBlack ∧ (s.modDout o f).keys = s.keys ∧
    (s.modDout o f).ring = s.ring ∧ (s.modDout o f).ringLost = s.ringLost ∧ (s.modDout o f).log = s.log ∧
    (s.modDout o f).maintenance = s.maintenance := by
  refine ⟨rfl, rfl, rfl, rfl, rfl, rfl, rfl, rfl, rfl, rfl, rfl, rfl, rfl, rfl, rfl, rfl, rfl, rfl, rfl, rfl, rfl, rfl, rfl, rfl, rfl, rfl, rfl, rfl, rfl, rfl, rfl, rfl, rfl, rfl, rfl, rfl, rfl, rfl, rfl, rfl, rfl, rfl, rfl⟩

@[simp] theorem State.modDout_reads (o : Nat) (f : Dout → Dout) (j : Nat) :
    (s.modDout o f).chan j = s.chan j ∧ (s.modDout o f).tgt j = s.tgt j ∧ (s.modDout o f).str j = s.str j ∧
    (s.modDout o f).mx j = s.mx j ∧ (s.modDout o f).bus j = s.bus j ∧ (s.modDout o f).comp j = s.comp j ∧
    (s.modDout o f).slot j = s.slot j ∧ (s.modDout o f).stream j = s.stream j ∧ (s.modDout o f).dma j = s.dma j ∧
    (s.modDout o f).din j = s.din j ∧ (s.modDout o f).doutRuns j = s.doutRuns j ∧ (s.modDout o f).box j = s.box j ∧
    (s.modDout o f).core j = s.core j ∧ (s.modDout o f).lifeOf j = s.lifeOf j ∧
    (s.modDout o f).liveReg j = s.liveReg j ∧ (s.modDout o f).copyReg j = s.copyReg j ∧
    (s.modDout o f).sramWord j = s.sramWord j ∧ leaderOf (s.modDout o f) j = leaderOf s j ∧
    members (s.modDout o f) j = members s j := by
  refine ⟨rfl, rfl, rfl, rfl, rfl, rfl, rfl, rfl, rfl, rfl, rfl, rfl, rfl, rfl, rfl, rfl, rfl, rfl, rfl⟩
@[simp] theorem State.modDout_chReg (o : Nat) (f : Dout → Dout) (j off : Nat) : chReg (s.modDout o f) j off = chReg s j off := rfl
@[simp] theorem State.modDout_lane (o : Nat) (f : Dout → Dout) (l : Lane) : (s.modDout o f).lane l = s.lane l := by cases l <;> rfl
@[simp] theorem State.modDout_roles (o : Nat) (f : Dout → Dout) :
    activeLane (s.modDout o f) = activeLane s ∧ standbyLane (s.modDout o f) = standbyLane s := ⟨rfl, rfl⟩
@[simp] theorem State.modDout_feedOk (o : Nat) (f : Dout → Dout) (fd : Feed) : feedOk (s.modDout o f) fd = feedOk s fd := by cases fd <;> rfl

/-- A read after `modDout`. -/
@[simp] theorem State.modDout_dout (o : Nat) (f : Dout → Dout) (j : Nat) : (s.modDout o f).dout j = if o = j then f (s.dout o) else s.dout j :=
  Sparse.get_set _ _ _ _ _

/-! ### `modStr` -/

@[simp] theorem State.modStr_fields (x : Nat) (f : Str → Str) :
    (s.modStr x f).pending = s.pending ∧ (s.modStr x f).now = s.now ∧ (s.modStr x f).free = s.free ∧
    (s.modStr x f).sup = s.sup ∧ (s.modStr x f).seq = s.seq ∧ (s.modStr x f).ply = s.ply ∧
    (s.modStr x f).lanes = s.lanes ∧ (s.modStr x f).white = s.white ∧ (s.modStr x f).black = s.black ∧
    (s.modStr x f).targets = s.targets ∧ (s.modStr x f).chans = s.chans ∧ (s.modStr x f).douts = s.douts ∧
    (s.modStr x f).mxs = s.mxs ∧ (s.modStr x f).acc = s.acc ∧ (s.modStr x f).den = s.den ∧
    (s.modStr x f).buses = s.buses ∧ (s.modStr x f).fab = s.fab ∧ (s.modStr x f).live = s.live ∧
    (s.modStr x f).copy = s.copy ∧ (s.modStr x f).sram = s.sram ∧ (s.modStr x f).measPend = s.measPend ∧
    (s.modStr x f).comps = s.comps ∧ (s.modStr x f).slots = s.slots ∧ (s.modStr x f).streams = s.streams ∧
    (s.modStr x f).dmas = s.dmas ∧ (s.modStr x f).dins = s.dins ∧ (s.modStr x f).dinRuns = s.dinRuns ∧
    (s.modStr x f).life = s.life ∧ (s.modStr x f).tables = s.tables ∧ (s.modStr x f).shadow = s.shadow ∧
    (s.modStr x f).commitPend = s.commitPend ∧ (s.modStr x f).host = s.host ∧ (s.modStr x f).mbx = s.mbx ∧
    (s.modStr x f).pwr = s.pwr ∧ (s.modStr x f).cores = s.cores ∧ (s.modStr x f).upd = s.upd ∧
    (s.modStr x f).updWhite = s.updWhite ∧ (s.modStr x f).updBlack = s.updBlack ∧ (s.modStr x f).keys = s.keys ∧
    (s.modStr x f).ring = s.ring ∧ (s.modStr x f).ringLost = s.ringLost ∧ (s.modStr x f).log = s.log ∧
    (s.modStr x f).maintenance = s.maintenance := by
  refine ⟨rfl, rfl, rfl, rfl, rfl, rfl, rfl, rfl, rfl, rfl, rfl, rfl, rfl, rfl, rfl, rfl, rfl, rfl, rfl, rfl, rfl, rfl, rfl, rfl, rfl, rfl, rfl, rfl, rfl, rfl, rfl, rfl, rfl, rfl, rfl, rfl, rfl, rfl, rfl, rfl, rfl, rfl, rfl⟩

@[simp] theorem State.modStr_reads (x : Nat) (f : Str → Str) (j : Nat) :
    (s.modStr x f).chan j = s.chan j ∧ (s.modStr x f).tgt j = s.tgt j ∧ (s.modStr x f).dout j = s.dout j ∧
    (s.modStr x f).mx j = s.mx j ∧ (s.modStr x f).bus j = s.bus j ∧ (s.modStr x f).comp j = s.comp j ∧
    (s.modStr x f).slot j = s.slot j ∧ (s.modStr x f).stream j = s.stream j ∧ (s.modStr x f).dma j = s.dma j ∧
    (s.modStr x f).din j = s.din j ∧ (s.modStr x f).doutRuns j = s.doutRuns j ∧ (s.modStr x f).box j = s.box j ∧
    (s.modStr x f).core j = s.core j ∧ (s.modStr x f).lifeOf j = s.lifeOf j ∧
    (s.modStr x f).liveReg j = s.liveReg j ∧ (s.modStr x f).copyReg j = s.copyReg j ∧
    (s.modStr x f).sramWord j = s.sramWord j ∧ leaderOf (s.modStr x f) j = leaderOf s j ∧
    members (s.modStr x f) j = members s j := by
  refine ⟨rfl, rfl, rfl, rfl, rfl, rfl, rfl, rfl, rfl, rfl, rfl, rfl, rfl, rfl, rfl, rfl, rfl, rfl, rfl⟩
@[simp] theorem State.modStr_chReg (x : Nat) (f : Str → Str) (j off : Nat) : chReg (s.modStr x f) j off = chReg s j off := rfl
@[simp] theorem State.modStr_lane (x : Nat) (f : Str → Str) (l : Lane) : (s.modStr x f).lane l = s.lane l := by cases l <;> rfl
@[simp] theorem State.modStr_roles (x : Nat) (f : Str → Str) :
    activeLane (s.modStr x f) = activeLane s ∧ standbyLane (s.modStr x f) = standbyLane s := ⟨rfl, rfl⟩
@[simp] theorem State.modStr_feedOk (x : Nat) (f : Str → Str) (fd : Feed) : feedOk (s.modStr x f) fd = feedOk s fd := by cases fd <;> rfl

/-- A read after `modStr`. -/
@[simp] theorem State.modStr_str (x : Nat) (f : Str → Str) (j : Nat) : (s.modStr x f).str j = if x = j then f (s.str x) else s.str j :=
  Sparse.get_set _ _ _ _ _

/-! ### `modMx` -/

@[simp] theorem State.modMx_fields (m : Nat) (f : Mx → Mx) :
    (s.modMx m f).pending = s.pending ∧ (s.modMx m f).now = s.now ∧ (s.modMx m f).free = s.free ∧
    (s.modMx m f).sup = s.sup ∧ (s.modMx m f).seq = s.seq ∧ (s.modMx m f).ply = s.ply ∧
    (s.modMx m f).lanes = s.lanes ∧ (s.modMx m f).white = s.white ∧ (s.modMx m f).black = s.black ∧
    (s.modMx m f).targets = s.targets ∧ (s.modMx m f).chans = s.chans ∧ (s.modMx m f).douts = s.douts ∧
    (s.modMx m f).strs = s.strs ∧ (s.modMx m f).acc = s.acc ∧ (s.modMx m f).den = s.den ∧
    (s.modMx m f).buses = s.buses ∧ (s.modMx m f).fab = s.fab ∧ (s.modMx m f).live = s.live ∧
    (s.modMx m f).copy = s.copy ∧ (s.modMx m f).sram = s.sram ∧ (s.modMx m f).measPend = s.measPend ∧
    (s.modMx m f).comps = s.comps ∧ (s.modMx m f).slots = s.slots ∧ (s.modMx m f).streams = s.streams ∧
    (s.modMx m f).dmas = s.dmas ∧ (s.modMx m f).dins = s.dins ∧ (s.modMx m f).dinRuns = s.dinRuns ∧
    (s.modMx m f).life = s.life ∧ (s.modMx m f).tables = s.tables ∧ (s.modMx m f).shadow = s.shadow ∧
    (s.modMx m f).commitPend = s.commitPend ∧ (s.modMx m f).host = s.host ∧ (s.modMx m f).mbx = s.mbx ∧
    (s.modMx m f).pwr = s.pwr ∧ (s.modMx m f).cores = s.cores ∧ (s.modMx m f).upd = s.upd ∧
    (s.modMx m f).updWhite = s.updWhite ∧ (s.modMx m f).updBlack = s.updBlack ∧ (s.modMx m f).keys = s.keys ∧
    (s.modMx m f).ring = s.ring ∧ (s.modMx m f).ringLost = s.ringLost ∧ (s.modMx m f).log = s.log ∧
    (s.modMx m f).maintenance = s.maintenance := by
  refine ⟨rfl, rfl, rfl, rfl, rfl, rfl, rfl, rfl, rfl, rfl, rfl, rfl, rfl, rfl, rfl, rfl, rfl, rfl, rfl, rfl, rfl, rfl, rfl, rfl, rfl, rfl, rfl, rfl, rfl, rfl, rfl, rfl, rfl, rfl, rfl, rfl, rfl, rfl, rfl, rfl, rfl, rfl, rfl⟩

@[simp] theorem State.modMx_reads (m : Nat) (f : Mx → Mx) (j : Nat) :
    (s.modMx m f).chan j = s.chan j ∧ (s.modMx m f).tgt j = s.tgt j ∧ (s.modMx m f).dout j = s.dout j ∧
    (s.modMx m f).str j = s.str j ∧ (s.modMx m f).bus j = s.bus j ∧ (s.modMx m f).comp j = s.comp j ∧
    (s.modMx m f).slot j = s.slot j ∧ (s.modMx m f).stream j = s.stream j ∧ (s.modMx m f).dma j = s.dma j ∧
    (s.modMx m f).din j = s.din j ∧ (s.modMx m f).doutRuns j = s.doutRuns j ∧ (s.modMx m f).box j = s.box j ∧
    (s.modMx m f).core j = s.core j ∧ (s.modMx m f).lifeOf j = s.lifeOf j ∧ (s.modMx m f).liveReg j = s.liveReg j ∧
    (s.modMx m f).copyReg j = s.copyReg j ∧ (s.modMx m f).sramWord j = s.sramWord j ∧
    leaderOf (s.modMx m f) j = leaderOf s j ∧ members (s.modMx m f) j = members s j := by
  refine ⟨rfl, rfl, rfl, rfl, rfl, rfl, rfl, rfl, rfl, rfl, rfl, rfl, rfl, rfl, rfl, rfl, rfl, rfl, rfl⟩
@[simp] theorem State.modMx_chReg (m : Nat) (f : Mx → Mx) (j off : Nat) : chReg (s.modMx m f) j off = chReg s j off := rfl
@[simp] theorem State.modMx_lane (m : Nat) (f : Mx → Mx) (l : Lane) : (s.modMx m f).lane l = s.lane l := by cases l <;> rfl
@[simp] theorem State.modMx_roles (m : Nat) (f : Mx → Mx) :
    activeLane (s.modMx m f) = activeLane s ∧ standbyLane (s.modMx m f) = standbyLane s := ⟨rfl, rfl⟩
@[simp] theorem State.modMx_feedOk (m : Nat) (f : Mx → Mx) (fd : Feed) : feedOk (s.modMx m f) fd = feedOk s fd := by cases fd <;> rfl

/-- A read after `modMx`. -/
@[simp] theorem State.modMx_mx (m : Nat) (f : Mx → Mx) (j : Nat) : (s.modMx m f).mx j = if m = j then f (s.mx m) else s.mx j :=
  Sparse.get_set _ _ _ _ _

/-! ### `setBus` -/

@[simp] theorem State.setBus_fields (b : Nat) (x : Bus) :
    (s.setBus b x).pending = s.pending ∧ (s.setBus b x).now = s.now ∧ (s.setBus b x).free = s.free ∧
    (s.setBus b x).sup = s.sup ∧ (s.setBus b x).seq = s.seq ∧ (s.setBus b x).ply = s.ply ∧
    (s.setBus b x).lanes = s.lanes ∧ (s.setBus b x).white = s.white ∧ (s.setBus b x).black = s.black ∧
    (s.setBus b x).targets = s.targets ∧ (s.setBus b x).chans = s.chans ∧ (s.setBus b x).douts = s.douts ∧
    (s.setBus b x).strs = s.strs ∧ (s.setBus b x).mxs = s.mxs ∧ (s.setBus b x).acc = s.acc ∧
    (s.setBus b x).den = s.den ∧ (s.setBus b x).fab = s.fab ∧ (s.setBus b x).live = s.live ∧
    (s.setBus b x).copy = s.copy ∧ (s.setBus b x).sram = s.sram ∧ (s.setBus b x).measPend = s.measPend ∧
    (s.setBus b x).comps = s.comps ∧ (s.setBus b x).slots = s.slots ∧ (s.setBus b x).streams = s.streams ∧
    (s.setBus b x).dmas = s.dmas ∧ (s.setBus b x).dins = s.dins ∧ (s.setBus b x).dinRuns = s.dinRuns ∧
    (s.setBus b x).life = s.life ∧ (s.setBus b x).tables = s.tables ∧ (s.setBus b x).shadow = s.shadow ∧
    (s.setBus b x).commitPend = s.commitPend ∧ (s.setBus b x).host = s.host ∧ (s.setBus b x).mbx = s.mbx ∧
    (s.setBus b x).pwr = s.pwr ∧ (s.setBus b x).cores = s.cores ∧ (s.setBus b x).upd = s.upd ∧
    (s.setBus b x).updWhite = s.updWhite ∧ (s.setBus b x).updBlack = s.updBlack ∧ (s.setBus b x).keys = s.keys ∧
    (s.setBus b x).ring = s.ring ∧ (s.setBus b x).ringLost = s.ringLost ∧ (s.setBus b x).log = s.log ∧
    (s.setBus b x).maintenance = s.maintenance := by
  refine ⟨rfl, rfl, rfl, rfl, rfl, rfl, rfl, rfl, rfl, rfl, rfl, rfl, rfl, rfl, rfl, rfl, rfl, rfl, rfl, rfl, rfl, rfl, rfl, rfl, rfl, rfl, rfl, rfl, rfl, rfl, rfl, rfl, rfl, rfl, rfl, rfl, rfl, rfl, rfl, rfl, rfl, rfl, rfl⟩

@[simp] theorem State.setBus_reads (b : Nat) (x : Bus) (j : Nat) :
    (s.setBus b x).chan j = s.chan j ∧ (s.setBus b x).tgt j = s.tgt j ∧ (s.setBus b x).dout j = s.dout j ∧
    (s.setBus b x).str j = s.str j ∧ (s.setBus b x).mx j = s.mx j ∧ (s.setBus b x).comp j = s.comp j ∧
    (s.setBus b x).slot j = s.slot j ∧ (s.setBus b x).stream j = s.stream j ∧ (s.setBus b x).dma j = s.dma j ∧
    (s.setBus b x).din j = s.din j ∧ (s.setBus b x).doutRuns j = s.doutRuns j ∧ (s.setBus b x).box j = s.box j ∧
    (s.setBus b x).core j = s.core j ∧ (s.setBus b x).lifeOf j = s.lifeOf j ∧
    (s.setBus b x).liveReg j = s.liveReg j ∧ (s.setBus b x).copyReg j = s.copyReg j ∧
    (s.setBus b x).sramWord j = s.sramWord j ∧ leaderOf (s.setBus b x) j = leaderOf s j ∧
    members (s.setBus b x) j = members s j := by
  refine ⟨rfl, rfl, rfl, rfl, rfl, rfl, rfl, rfl, rfl, rfl, rfl, rfl, rfl, rfl, rfl, rfl, rfl, rfl, rfl⟩
@[simp] theorem State.setBus_chReg (b : Nat) (x : Bus) (j off : Nat) : chReg (s.setBus b x) j off = chReg s j off := rfl
@[simp] theorem State.setBus_lane (b : Nat) (x : Bus) (l : Lane) : (s.setBus b x).lane l = s.lane l := by cases l <;> rfl
@[simp] theorem State.setBus_roles (b : Nat) (x : Bus) :
    activeLane (s.setBus b x) = activeLane s ∧ standbyLane (s.setBus b x) = standbyLane s := ⟨rfl, rfl⟩
@[simp] theorem State.setBus_feedOk (b : Nat) (x : Bus) (fd : Feed) : feedOk (s.setBus b x) fd = feedOk s fd := by cases fd <;> rfl

/-- A read after `setBus`. -/
@[simp] theorem State.setBus_bus (b : Nat) (x : Bus) (j : Nat) : (s.setBus b x).bus j = if b = j then x else s.bus j :=
  Sparse.get_set _ _ _ _ _

/-! ### `setComp` -/

@[simp] theorem State.setComp_fields (i : Nat) (c : Comp) :
    (s.setComp i c).pending = s.pending ∧ (s.setComp i c).now = s.now ∧ (s.setComp i c).free = s.free ∧
    (s.setComp i c).sup = s.sup ∧ (s.setComp i c).seq = s.seq ∧ (s.setComp i c).ply = s.ply ∧
    (s.setComp i c).lanes = s.lanes ∧ (s.setComp i c).white = s.white ∧ (s.setComp i c).black = s.black ∧
    (s.setComp i c).targets = s.targets ∧ (s.setComp i c).chans = s.chans ∧ (s.setComp i c).douts = s.douts ∧
    (s.setComp i c).strs = s.strs ∧ (s.setComp i c).mxs = s.mxs ∧ (s.setComp i c).acc = s.acc ∧
    (s.setComp i c).den = s.den ∧ (s.setComp i c).buses = s.buses ∧ (s.setComp i c).fab = s.fab ∧
    (s.setComp i c).live = s.live ∧ (s.setComp i c).copy = s.copy ∧ (s.setComp i c).sram = s.sram ∧
    (s.setComp i c).measPend = s.measPend ∧ (s.setComp i c).slots = s.slots ∧ (s.setComp i c).streams = s.streams ∧
    (s.setComp i c).dmas = s.dmas ∧ (s.setComp i c).dins = s.dins ∧ (s.setComp i c).dinRuns = s.dinRuns ∧
    (s.setComp i c).life = s.life ∧ (s.setComp i c).tables = s.tables ∧ (s.setComp i c).shadow = s.shadow ∧
    (s.setComp i c).commitPend = s.commitPend ∧ (s.setComp i c).host = s.host ∧ (s.setComp i c).mbx = s.mbx ∧
    (s.setComp i c).pwr = s.pwr ∧ (s.setComp i c).cores = s.cores ∧ (s.setComp i c).upd = s.upd ∧
    (s.setComp i c).updWhite = s.updWhite ∧ (s.setComp i c).updBlack = s.updBlack ∧ (s.setComp i c).keys = s.keys ∧
    (s.setComp i c).ring = s.ring ∧ (s.setComp i c).ringLost = s.ringLost ∧ (s.setComp i c).log = s.log ∧
    (s.setComp i c).maintenance = s.maintenance := by
  refine ⟨rfl, rfl, rfl, rfl, rfl, rfl, rfl, rfl, rfl, rfl, rfl, rfl, rfl, rfl, rfl, rfl, rfl, rfl, rfl, rfl, rfl, rfl, rfl, rfl, rfl, rfl, rfl, rfl, rfl, rfl, rfl, rfl, rfl, rfl, rfl, rfl, rfl, rfl, rfl, rfl, rfl, rfl, rfl⟩

@[simp] theorem State.setComp_reads (i : Nat) (c : Comp) (j : Nat) :
    (s.setComp i c).chan j = s.chan j ∧ (s.setComp i c).tgt j = s.tgt j ∧ (s.setComp i c).dout j = s.dout j ∧
    (s.setComp i c).str j = s.str j ∧ (s.setComp i c).mx j = s.mx j ∧ (s.setComp i c).bus j = s.bus j ∧
    (s.setComp i c).slot j = s.slot j ∧ (s.setComp i c).stream j = s.stream j ∧ (s.setComp i c).dma j = s.dma j ∧
    (s.setComp i c).din j = s.din j ∧ (s.setComp i c).doutRuns j = s.doutRuns j ∧ (s.setComp i c).box j = s.box j ∧
    (s.setComp i c).core j = s.core j ∧ (s.setComp i c).lifeOf j = s.lifeOf j ∧
    (s.setComp i c).liveReg j = s.liveReg j ∧ (s.setComp i c).copyReg j = s.copyReg j ∧
    (s.setComp i c).sramWord j = s.sramWord j ∧ leaderOf (s.setComp i c) j = leaderOf s j ∧
    members (s.setComp i c) j = members s j := by
  refine ⟨rfl, rfl, rfl, rfl, rfl, rfl, rfl, rfl, rfl, rfl, rfl, rfl, rfl, rfl, rfl, rfl, rfl, rfl, rfl⟩
@[simp] theorem State.setComp_chReg (i : Nat) (c : Comp) (j off : Nat) : chReg (s.setComp i c) j off = chReg s j off := rfl
@[simp] theorem State.setComp_lane (i : Nat) (c : Comp) (l : Lane) : (s.setComp i c).lane l = s.lane l := by cases l <;> rfl
@[simp] theorem State.setComp_roles (i : Nat) (c : Comp) :
    activeLane (s.setComp i c) = activeLane s ∧ standbyLane (s.setComp i c) = standbyLane s := ⟨rfl, rfl⟩
@[simp] theorem State.setComp_feedOk (i : Nat) (c : Comp) (fd : Feed) : feedOk (s.setComp i c) fd = feedOk s fd := by cases fd <;> rfl

/-- A read after `setComp`. -/
@[simp] theorem State.setComp_comp (i : Nat) (c : Comp) (j : Nat) : (s.setComp i c).comp j = if i = j then c else s.comp j :=
  Sparse.get_set _ _ _ _ _

/-! ### `setSlot` -/

@[simp] theorem State.setSlot_fields (k : Nat) (c : SigSlot) :
    (s.setSlot k c).pending = s.pending ∧ (s.setSlot k c).now = s.now ∧ (s.setSlot k c).free = s.free ∧
    (s.setSlot k c).sup = s.sup ∧ (s.setSlot k c).seq = s.seq ∧ (s.setSlot k c).ply = s.ply ∧
    (s.setSlot k c).lanes = s.lanes ∧ (s.setSlot k c).white = s.white ∧ (s.setSlot k c).black = s.black ∧
    (s.setSlot k c).targets = s.targets ∧ (s.setSlot k c).chans = s.chans ∧ (s.setSlot k c).douts = s.douts ∧
    (s.setSlot k c).strs = s.strs ∧ (s.setSlot k c).mxs = s.mxs ∧ (s.setSlot k c).acc = s.acc ∧
    (s.setSlot k c).den = s.den ∧ (s.setSlot k c).buses = s.buses ∧ (s.setSlot k c).fab = s.fab ∧
    (s.setSlot k c).live = s.live ∧ (s.setSlot k c).copy = s.copy ∧ (s.setSlot k c).sram = s.sram ∧
    (s.setSlot k c).measPend = s.measPend ∧ (s.setSlot k c).comps = s.comps ∧ (s.setSlot k c).streams = s.streams ∧
    (s.setSlot k c).dmas = s.dmas ∧ (s.setSlot k c).dins = s.dins ∧ (s.setSlot k c).dinRuns = s.dinRuns ∧
    (s.setSlot k c).life = s.life ∧ (s.setSlot k c).tables = s.tables ∧ (s.setSlot k c).shadow = s.shadow ∧
    (s.setSlot k c).commitPend = s.commitPend ∧ (s.setSlot k c).host = s.host ∧ (s.setSlot k c).mbx = s.mbx ∧
    (s.setSlot k c).pwr = s.pwr ∧ (s.setSlot k c).cores = s.cores ∧ (s.setSlot k c).upd = s.upd ∧
    (s.setSlot k c).updWhite = s.updWhite ∧ (s.setSlot k c).updBlack = s.updBlack ∧ (s.setSlot k c).keys = s.keys ∧
    (s.setSlot k c).ring = s.ring ∧ (s.setSlot k c).ringLost = s.ringLost ∧ (s.setSlot k c).log = s.log ∧
    (s.setSlot k c).maintenance = s.maintenance := by
  refine ⟨rfl, rfl, rfl, rfl, rfl, rfl, rfl, rfl, rfl, rfl, rfl, rfl, rfl, rfl, rfl, rfl, rfl, rfl, rfl, rfl, rfl, rfl, rfl, rfl, rfl, rfl, rfl, rfl, rfl, rfl, rfl, rfl, rfl, rfl, rfl, rfl, rfl, rfl, rfl, rfl, rfl, rfl, rfl⟩

@[simp] theorem State.setSlot_reads (k : Nat) (c : SigSlot) (j : Nat) :
    (s.setSlot k c).chan j = s.chan j ∧ (s.setSlot k c).tgt j = s.tgt j ∧ (s.setSlot k c).dout j = s.dout j ∧
    (s.setSlot k c).str j = s.str j ∧ (s.setSlot k c).mx j = s.mx j ∧ (s.setSlot k c).bus j = s.bus j ∧
    (s.setSlot k c).comp j = s.comp j ∧ (s.setSlot k c).stream j = s.stream j ∧ (s.setSlot k c).dma j = s.dma j ∧
    (s.setSlot k c).din j = s.din j ∧ (s.setSlot k c).doutRuns j = s.doutRuns j ∧ (s.setSlot k c).box j = s.box j ∧
    (s.setSlot k c).core j = s.core j ∧ (s.setSlot k c).lifeOf j = s.lifeOf j ∧
    (s.setSlot k c).liveReg j = s.liveReg j ∧ (s.setSlot k c).copyReg j = s.copyReg j ∧
    (s.setSlot k c).sramWord j = s.sramWord j ∧ leaderOf (s.setSlot k c) j = leaderOf s j ∧
    members (s.setSlot k c) j = members s j := by
  refine ⟨rfl, rfl, rfl, rfl, rfl, rfl, rfl, rfl, rfl, rfl, rfl, rfl, rfl, rfl, rfl, rfl, rfl, rfl, rfl⟩
@[simp] theorem State.setSlot_chReg (k : Nat) (c : SigSlot) (j off : Nat) : chReg (s.setSlot k c) j off = chReg s j off := rfl
@[simp] theorem State.setSlot_lane (k : Nat) (c : SigSlot) (l : Lane) : (s.setSlot k c).lane l = s.lane l := by cases l <;> rfl
@[simp] theorem State.setSlot_roles (k : Nat) (c : SigSlot) :
    activeLane (s.setSlot k c) = activeLane s ∧ standbyLane (s.setSlot k c) = standbyLane s := ⟨rfl, rfl⟩
@[simp] theorem State.setSlot_feedOk (k : Nat) (c : SigSlot) (fd : Feed) : feedOk (s.setSlot k c) fd = feedOk s fd := by cases fd <;> rfl

/-- A read after `setSlot`. -/
@[simp] theorem State.setSlot_slot (k : Nat) (c : SigSlot) (j : Nat) : (s.setSlot k c).slot j = if k = j then c else s.slot j :=
  Sparse.get_set _ _ _ _ _

/-! ### `setStream` -/

@[simp] theorem State.setStream_fields (x : Nat) (c : Stream) :
    (s.setStream x c).pending = s.pending ∧ (s.setStream x c).now = s.now ∧ (s.setStream x c).free = s.free ∧
    (s.setStream x c).sup = s.sup ∧ (s.setStream x c).seq = s.seq ∧ (s.setStream x c).ply = s.ply ∧
    (s.setStream x c).lanes = s.lanes ∧ (s.setStream x c).white = s.white ∧ (s.setStream x c).black = s.black ∧
    (s.setStream x c).targets = s.targets ∧ (s.setStream x c).chans = s.chans ∧ (s.setStream x c).douts = s.douts ∧
    (s.setStream x c).strs = s.strs ∧ (s.setStream x c).mxs = s.mxs ∧ (s.setStream x c).acc = s.acc ∧
    (s.setStream x c).den = s.den ∧ (s.setStream x c).buses = s.buses ∧ (s.setStream x c).fab = s.fab ∧
    (s.setStream x c).live = s.live ∧ (s.setStream x c).copy = s.copy ∧ (s.setStream x c).sram = s.sram ∧
    (s.setStream x c).measPend = s.measPend ∧ (s.setStream x c).comps = s.comps ∧ (s.setStream x c).slots = s.slots ∧
    (s.setStream x c).dmas = s.dmas ∧ (s.setStream x c).dins = s.dins ∧ (s.setStream x c).dinRuns = s.dinRuns ∧
    (s.setStream x c).life = s.life ∧ (s.setStream x c).tables = s.tables ∧ (s.setStream x c).shadow = s.shadow ∧
    (s.setStream x c).commitPend = s.commitPend ∧ (s.setStream x c).host = s.host ∧ (s.setStream x c).mbx = s.mbx ∧
    (s.setStream x c).pwr = s.pwr ∧ (s.setStream x c).cores = s.cores ∧ (s.setStream x c).upd = s.upd ∧
    (s.setStream x c).updWhite = s.updWhite ∧ (s.setStream x c).updBlack = s.updBlack ∧
    (s.setStream x c).keys = s.keys ∧ (s.setStream x c).ring = s.ring ∧ (s.setStream x c).ringLost = s.ringLost ∧
    (s.setStream x c).log = s.log ∧ (s.setStream x c).maintenance = s.maintenance := by
  refine ⟨rfl, rfl, rfl, rfl, rfl, rfl, rfl, rfl, rfl, rfl, rfl, rfl, rfl, rfl, rfl, rfl, rfl, rfl, rfl, rfl, rfl, rfl, rfl, rfl, rfl, rfl, rfl, rfl, rfl, rfl, rfl, rfl, rfl, rfl, rfl, rfl, rfl, rfl, rfl, rfl, rfl, rfl, rfl⟩

@[simp] theorem State.setStream_reads (x : Nat) (c : Stream) (j : Nat) :
    (s.setStream x c).chan j = s.chan j ∧ (s.setStream x c).tgt j = s.tgt j ∧ (s.setStream x c).dout j = s.dout j ∧
    (s.setStream x c).str j = s.str j ∧ (s.setStream x c).mx j = s.mx j ∧ (s.setStream x c).bus j = s.bus j ∧
    (s.setStream x c).comp j = s.comp j ∧ (s.setStream x c).slot j = s.slot j ∧ (s.setStream x c).dma j = s.dma j ∧
    (s.setStream x c).din j = s.din j ∧ (s.setStream x c).doutRuns j = s.doutRuns j ∧
    (s.setStream x c).box j = s.box j ∧ (s.setStream x c).core j = s.core j ∧
    (s.setStream x c).lifeOf j = s.lifeOf j ∧ (s.setStream x c).liveReg j = s.liveReg j ∧
    (s.setStream x c).copyReg j = s.copyReg j ∧ (s.setStream x c).sramWord j = s.sramWord j ∧
    leaderOf (s.setStream x c) j = leaderOf s j ∧ members (s.setStream x c) j = members s j := by
  refine ⟨rfl, rfl, rfl, rfl, rfl, rfl, rfl, rfl, rfl, rfl, rfl, rfl, rfl, rfl, rfl, rfl, rfl, rfl, rfl⟩
@[simp] theorem State.setStream_chReg (x : Nat) (c : Stream) (j off : Nat) : chReg (s.setStream x c) j off = chReg s j off := rfl
@[simp] theorem State.setStream_lane (x : Nat) (c : Stream) (l : Lane) : (s.setStream x c).lane l = s.lane l := by cases l <;> rfl
@[simp] theorem State.setStream_roles (x : Nat) (c : Stream) :
    activeLane (s.setStream x c) = activeLane s ∧ standbyLane (s.setStream x c) = standbyLane s := ⟨rfl, rfl⟩
@[simp] theorem State.setStream_feedOk (x : Nat) (c : Stream) (fd : Feed) : feedOk (s.setStream x c) fd = feedOk s fd := by cases fd <;> rfl

/-- A read after `setStream`. -/
@[simp] theorem State.setStream_stream (x : Nat) (c : Stream) (j : Nat) : (s.setStream x c).stream j = if x = j then c else s.stream j :=
  Sparse.get_set _ _ _ _ _

/-! ### `setDma` -/

@[simp] theorem State.setDma_fields (e : Nat) (d : Dma) :
    (s.setDma e d).pending = s.pending ∧ (s.setDma e d).now = s.now ∧ (s.setDma e d).free = s.free ∧
    (s.setDma e d).sup = s.sup ∧ (s.setDma e d).seq = s.seq ∧ (s.setDma e d).ply = s.ply ∧
    (s.setDma e d).lanes = s.lanes ∧ (s.setDma e d).white = s.white ∧ (s.setDma e d).black = s.black ∧
    (s.setDma e d).targets = s.targets ∧ (s.setDma e d).chans = s.chans ∧ (s.setDma e d).douts = s.douts ∧
    (s.setDma e d).strs = s.strs ∧ (s.setDma e d).mxs = s.mxs ∧ (s.setDma e d).acc = s.acc ∧
    (s.setDma e d).den = s.den ∧ (s.setDma e d).buses = s.buses ∧ (s.setDma e d).fab = s.fab ∧
    (s.setDma e d).live = s.live ∧ (s.setDma e d).copy = s.copy ∧ (s.setDma e d).sram = s.sram ∧
    (s.setDma e d).measPend = s.measPend ∧ (s.setDma e d).comps = s.comps ∧ (s.setDma e d).slots = s.slots ∧
    (s.setDma e d).streams = s.streams ∧ (s.setDma e d).dins = s.dins ∧ (s.setDma e d).dinRuns = s.dinRuns ∧
    (s.setDma e d).life = s.life ∧ (s.setDma e d).tables = s.tables ∧ (s.setDma e d).shadow = s.shadow ∧
    (s.setDma e d).commitPend = s.commitPend ∧ (s.setDma e d).host = s.host ∧ (s.setDma e d).mbx = s.mbx ∧
    (s.setDma e d).pwr = s.pwr ∧ (s.setDma e d).cores = s.cores ∧ (s.setDma e d).upd = s.upd ∧
    (s.setDma e d).updWhite = s.updWhite ∧ (s.setDma e d).updBlack = s.updBlack ∧ (s.setDma e d).keys = s.keys ∧
    (s.setDma e d).ring = s.ring ∧ (s.setDma e d).ringLost = s.ringLost ∧ (s.setDma e d).log = s.log ∧
    (s.setDma e d).maintenance = s.maintenance := by
  refine ⟨rfl, rfl, rfl, rfl, rfl, rfl, rfl, rfl, rfl, rfl, rfl, rfl, rfl, rfl, rfl, rfl, rfl, rfl, rfl, rfl, rfl, rfl, rfl, rfl, rfl, rfl, rfl, rfl, rfl, rfl, rfl, rfl, rfl, rfl, rfl, rfl, rfl, rfl, rfl, rfl, rfl, rfl, rfl⟩

@[simp] theorem State.setDma_reads (e : Nat) (d : Dma) (j : Nat) :
    (s.setDma e d).chan j = s.chan j ∧ (s.setDma e d).tgt j = s.tgt j ∧ (s.setDma e d).dout j = s.dout j ∧
    (s.setDma e d).str j = s.str j ∧ (s.setDma e d).mx j = s.mx j ∧ (s.setDma e d).bus j = s.bus j ∧
    (s.setDma e d).comp j = s.comp j ∧ (s.setDma e d).slot j = s.slot j ∧ (s.setDma e d).stream j = s.stream j ∧
    (s.setDma e d).din j = s.din j ∧ (s.setDma e d).doutRuns j = s.doutRuns j ∧ (s.setDma e d).box j = s.box j ∧
    (s.setDma e d).core j = s.core j ∧ (s.setDma e d).lifeOf j = s.lifeOf j ∧
    (s.setDma e d).liveReg j = s.liveReg j ∧ (s.setDma e d).copyReg j = s.copyReg j ∧
    (s.setDma e d).sramWord j = s.sramWord j ∧ leaderOf (s.setDma e d) j = leaderOf s j ∧
    members (s.setDma e d) j = members s j := by
  refine ⟨rfl, rfl, rfl, rfl, rfl, rfl, rfl, rfl, rfl, rfl, rfl, rfl, rfl, rfl, rfl, rfl, rfl, rfl, rfl⟩
@[simp] theorem State.setDma_chReg (e : Nat) (d : Dma) (j off : Nat) : chReg (s.setDma e d) j off = chReg s j off := rfl
@[simp] theorem State.setDma_lane (e : Nat) (d : Dma) (l : Lane) : (s.setDma e d).lane l = s.lane l := by cases l <;> rfl
@[simp] theorem State.setDma_roles (e : Nat) (d : Dma) :
    activeLane (s.setDma e d) = activeLane s ∧ standbyLane (s.setDma e d) = standbyLane s := ⟨rfl, rfl⟩
@[simp] theorem State.setDma_feedOk (e : Nat) (d : Dma) (fd : Feed) : feedOk (s.setDma e d) fd = feedOk s fd := by cases fd <;> rfl

/-- A read after `setDma`. -/
@[simp] theorem State.setDma_dma (e : Nat) (d : Dma) (j : Nat) : (s.setDma e d).dma j = if e = j then d else s.dma j :=
  Sparse.get_set _ _ _ _ _

/-! ### `setDin` -/

@[simp] theorem State.setDin_fields (d : Nat) (c : Din) :
    (s.setDin d c).pending = s.pending ∧ (s.setDin d c).now = s.now ∧ (s.setDin d c).free = s.free ∧
    (s.setDin d c).sup = s.sup ∧ (s.setDin d c).seq = s.seq ∧ (s.setDin d c).ply = s.ply ∧
    (s.setDin d c).lanes = s.lanes ∧ (s.setDin d c).white = s.white ∧ (s.setDin d c).black = s.black ∧
    (s.setDin d c).targets = s.targets ∧ (s.setDin d c).chans = s.chans ∧ (s.setDin d c).douts = s.douts ∧
    (s.setDin d c).strs = s.strs ∧ (s.setDin d c).mxs = s.mxs ∧ (s.setDin d c).acc = s.acc ∧
    (s.setDin d c).den = s.den ∧ (s.setDin d c).buses = s.buses ∧ (s.setDin d c).fab = s.fab ∧
    (s.setDin d c).live = s.live ∧ (s.setDin d c).copy = s.copy ∧ (s.setDin d c).sram = s.sram ∧
    (s.setDin d c).measPend = s.measPend ∧ (s.setDin d c).comps = s.comps ∧ (s.setDin d c).slots = s.slots ∧
    (s.setDin d c).streams = s.streams ∧ (s.setDin d c).dmas = s.dmas ∧ (s.setDin d c).dinRuns = s.dinRuns ∧
    (s.setDin d c).life = s.life ∧ (s.setDin d c).tables = s.tables ∧ (s.setDin d c).shadow = s.shadow ∧
    (s.setDin d c).commitPend = s.commitPend ∧ (s.setDin d c).host = s.host ∧ (s.setDin d c).mbx = s.mbx ∧
    (s.setDin d c).pwr = s.pwr ∧ (s.setDin d c).cores = s.cores ∧ (s.setDin d c).upd = s.upd ∧
    (s.setDin d c).updWhite = s.updWhite ∧ (s.setDin d c).updBlack = s.updBlack ∧ (s.setDin d c).keys = s.keys ∧
    (s.setDin d c).ring = s.ring ∧ (s.setDin d c).ringLost = s.ringLost ∧ (s.setDin d c).log = s.log ∧
    (s.setDin d c).maintenance = s.maintenance := by
  refine ⟨rfl, rfl, rfl, rfl, rfl, rfl, rfl, rfl, rfl, rfl, rfl, rfl, rfl, rfl, rfl, rfl, rfl, rfl, rfl, rfl, rfl, rfl, rfl, rfl, rfl, rfl, rfl, rfl, rfl, rfl, rfl, rfl, rfl, rfl, rfl, rfl, rfl, rfl, rfl, rfl, rfl, rfl, rfl⟩

@[simp] theorem State.setDin_reads (d : Nat) (c : Din) (j : Nat) :
    (s.setDin d c).chan j = s.chan j ∧ (s.setDin d c).tgt j = s.tgt j ∧ (s.setDin d c).dout j = s.dout j ∧
    (s.setDin d c).str j = s.str j ∧ (s.setDin d c).mx j = s.mx j ∧ (s.setDin d c).bus j = s.bus j ∧
    (s.setDin d c).comp j = s.comp j ∧ (s.setDin d c).slot j = s.slot j ∧ (s.setDin d c).stream j = s.stream j ∧
    (s.setDin d c).dma j = s.dma j ∧ (s.setDin d c).doutRuns j = s.doutRuns j ∧ (s.setDin d c).box j = s.box j ∧
    (s.setDin d c).core j = s.core j ∧ (s.setDin d c).lifeOf j = s.lifeOf j ∧
    (s.setDin d c).liveReg j = s.liveReg j ∧ (s.setDin d c).copyReg j = s.copyReg j ∧
    (s.setDin d c).sramWord j = s.sramWord j ∧ leaderOf (s.setDin d c) j = leaderOf s j ∧
    members (s.setDin d c) j = members s j := by
  refine ⟨rfl, rfl, rfl, rfl, rfl, rfl, rfl, rfl, rfl, rfl, rfl, rfl, rfl, rfl, rfl, rfl, rfl, rfl, rfl⟩
@[simp] theorem State.setDin_chReg (d : Nat) (c : Din) (j off : Nat) : chReg (s.setDin d c) j off = chReg s j off := rfl
@[simp] theorem State.setDin_lane (d : Nat) (c : Din) (l : Lane) : (s.setDin d c).lane l = s.lane l := by cases l <;> rfl
@[simp] theorem State.setDin_roles (d : Nat) (c : Din) :
    activeLane (s.setDin d c) = activeLane s ∧ standbyLane (s.setDin d c) = standbyLane s := ⟨rfl, rfl⟩
@[simp] theorem State.setDin_feedOk (d : Nat) (c : Din) (fd : Feed) : feedOk (s.setDin d c) fd = feedOk s fd := by cases fd <;> rfl

/-- A read after `setDin`. -/
@[simp] theorem State.setDin_din (d : Nat) (c : Din) (j : Nat) : (s.setDin d c).din j = if d = j then c else s.din j :=
  Sparse.get_set _ _ _ _ _

/-! ### `setDoutRuns` -/

@[simp] theorem State.setDoutRuns_fields (o : Nat) (c : DoutRuns) :
    (s.setDoutRuns o c).pending = s.pending ∧ (s.setDoutRuns o c).now = s.now ∧ (s.setDoutRuns o c).free = s.free ∧
    (s.setDoutRuns o c).sup = s.sup ∧ (s.setDoutRuns o c).seq = s.seq ∧ (s.setDoutRuns o c).ply = s.ply ∧
    (s.setDoutRuns o c).lanes = s.lanes ∧ (s.setDoutRuns o c).white = s.white ∧ (s.setDoutRuns o c).black = s.black ∧
    (s.setDoutRuns o c).targets = s.targets ∧ (s.setDoutRuns o c).chans = s.chans ∧
    (s.setDoutRuns o c).douts = s.douts ∧ (s.setDoutRuns o c).strs = s.strs ∧ (s.setDoutRuns o c).mxs = s.mxs ∧
    (s.setDoutRuns o c).acc = s.acc ∧ (s.setDoutRuns o c).den = s.den ∧ (s.setDoutRuns o c).buses = s.buses ∧
    (s.setDoutRuns o c).fab = s.fab ∧ (s.setDoutRuns o c).live = s.live ∧ (s.setDoutRuns o c).copy = s.copy ∧
    (s.setDoutRuns o c).sram = s.sram ∧ (s.setDoutRuns o c).measPend = s.measPend ∧
    (s.setDoutRuns o c).comps = s.comps ∧ (s.setDoutRuns o c).slots = s.slots ∧
    (s.setDoutRuns o c).streams = s.streams ∧ (s.setDoutRuns o c).dmas = s.dmas ∧ (s.setDoutRuns o c).dins = s.dins ∧
    (s.setDoutRuns o c).life = s.life ∧ (s.setDoutRuns o c).tables = s.tables ∧
    (s.setDoutRuns o c).shadow = s.shadow ∧ (s.setDoutRuns o c).commitPend = s.commitPend ∧
    (s.setDoutRuns o c).host = s.host ∧ (s.setDoutRuns o c).mbx = s.mbx ∧ (s.setDoutRuns o c).pwr = s.pwr ∧
    (s.setDoutRuns o c).cores = s.cores ∧ (s.setDoutRuns o c).upd = s.upd ∧
    (s.setDoutRuns o c).updWhite = s.updWhite ∧ (s.setDoutRuns o c).updBlack = s.updBlack ∧
    (s.setDoutRuns o c).keys = s.keys ∧ (s.setDoutRuns o c).ring = s.ring ∧
    (s.setDoutRuns o c).ringLost = s.ringLost ∧ (s.setDoutRuns o c).log = s.log ∧
    (s.setDoutRuns o c).maintenance = s.maintenance := by
  refine ⟨rfl, rfl, rfl, rfl, rfl, rfl, rfl, rfl, rfl, rfl, rfl, rfl, rfl, rfl, rfl, rfl, rfl, rfl, rfl, rfl, rfl, rfl, rfl, rfl, rfl, rfl, rfl, rfl, rfl, rfl, rfl, rfl, rfl, rfl, rfl, rfl, rfl, rfl, rfl, rfl, rfl, rfl, rfl⟩

@[simp] theorem State.setDoutRuns_reads (o : Nat) (c : DoutRuns) (j : Nat) :
    (s.setDoutRuns o c).chan j = s.chan j ∧ (s.setDoutRuns o c).tgt j = s.tgt j ∧
    (s.setDoutRuns o c).dout j = s.dout j ∧ (s.setDoutRuns o c).str j = s.str j ∧ (s.setDoutRuns o c).mx j = s.mx j ∧
    (s.setDoutRuns o c).bus j = s.bus j ∧ (s.setDoutRuns o c).comp j = s.comp j ∧
    (s.setDoutRuns o c).slot j = s.slot j ∧ (s.setDoutRuns o c).stream j = s.stream j ∧
    (s.setDoutRuns o c).dma j = s.dma j ∧ (s.setDoutRuns o c).din j = s.din j ∧ (s.setDoutRuns o c).box j = s.box j ∧
    (s.setDoutRuns o c).core j = s.core j ∧ (s.setDoutRuns o c).lifeOf j = s.lifeOf j ∧
    (s.setDoutRuns o c).liveReg j = s.liveReg j ∧ (s.setDoutRuns o c).copyReg j = s.copyReg j ∧
    (s.setDoutRuns o c).sramWord j = s.sramWord j ∧ leaderOf (s.setDoutRuns o c) j = leaderOf s j ∧
    members (s.setDoutRuns o c) j = members s j := by
  refine ⟨rfl, rfl, rfl, rfl, rfl, rfl, rfl, rfl, rfl, rfl, rfl, rfl, rfl, rfl, rfl, rfl, rfl, rfl, rfl⟩
@[simp] theorem State.setDoutRuns_chReg (o : Nat) (c : DoutRuns) (j off : Nat) : chReg (s.setDoutRuns o c) j off = chReg s j off := rfl
@[simp] theorem State.setDoutRuns_lane (o : Nat) (c : DoutRuns) (l : Lane) : (s.setDoutRuns o c).lane l = s.lane l := by cases l <;> rfl
@[simp] theorem State.setDoutRuns_roles (o : Nat) (c : DoutRuns) :
    activeLane (s.setDoutRuns o c) = activeLane s ∧ standbyLane (s.setDoutRuns o c) = standbyLane s := ⟨rfl, rfl⟩
@[simp] theorem State.setDoutRuns_feedOk (o : Nat) (c : DoutRuns) (fd : Feed) : feedOk (s.setDoutRuns o c) fd = feedOk s fd := by cases fd <;> rfl

/-- A read after `setDoutRuns`. -/
@[simp] theorem State.setDoutRuns_doutRuns (o : Nat) (c : DoutRuns) (j : Nat) : (s.setDoutRuns o c).doutRuns j = if o = j then c else s.doutRuns j :=
  Sparse.get_set _ _ _ _ _

/-! ### `setBox` -/

@[simp] theorem State.setBox_fields (k : Nat) (c : Mbx) :
    (s.setBox k c).pending = s.pending ∧ (s.setBox k c).now = s.now ∧ (s.setBox k c).free = s.free ∧
    (s.setBox k c).sup = s.sup ∧ (s.setBox k c).seq = s.seq ∧ (s.setBox k c).ply = s.ply ∧
    (s.setBox k c).lanes = s.lanes ∧ (s.setBox k c).white = s.white ∧ (s.setBox k c).black = s.black ∧
    (s.setBox k c).targets = s.targets ∧ (s.setBox k c).chans = s.chans ∧ (s.setBox k c).douts = s.douts ∧
    (s.setBox k c).strs = s.strs ∧ (s.setBox k c).mxs = s.mxs ∧ (s.setBox k c).acc = s.acc ∧
    (s.setBox k c).den = s.den ∧ (s.setBox k c).buses = s.buses ∧ (s.setBox k c).fab = s.fab ∧
    (s.setBox k c).live = s.live ∧ (s.setBox k c).copy = s.copy ∧ (s.setBox k c).sram = s.sram ∧
    (s.setBox k c).measPend = s.measPend ∧ (s.setBox k c).comps = s.comps ∧ (s.setBox k c).slots = s.slots ∧
    (s.setBox k c).streams = s.streams ∧ (s.setBox k c).dmas = s.dmas ∧ (s.setBox k c).dins = s.dins ∧
    (s.setBox k c).dinRuns = s.dinRuns ∧ (s.setBox k c).life = s.life ∧ (s.setBox k c).tables = s.tables ∧
    (s.setBox k c).shadow = s.shadow ∧ (s.setBox k c).commitPend = s.commitPend ∧ (s.setBox k c).host = s.host ∧
    (s.setBox k c).pwr = s.pwr ∧ (s.setBox k c).cores = s.cores ∧ (s.setBox k c).upd = s.upd ∧
    (s.setBox k c).updWhite = s.updWhite ∧ (s.setBox k c).updBlack = s.updBlack ∧ (s.setBox k c).keys = s.keys ∧
    (s.setBox k c).ring = s.ring ∧ (s.setBox k c).ringLost = s.ringLost ∧ (s.setBox k c).log = s.log ∧
    (s.setBox k c).maintenance = s.maintenance := by
  refine ⟨rfl, rfl, rfl, rfl, rfl, rfl, rfl, rfl, rfl, rfl, rfl, rfl, rfl, rfl, rfl, rfl, rfl, rfl, rfl, rfl, rfl, rfl, rfl, rfl, rfl, rfl, rfl, rfl, rfl, rfl, rfl, rfl, rfl, rfl, rfl, rfl, rfl, rfl, rfl, rfl, rfl, rfl, rfl⟩

@[simp] theorem State.setBox_reads (k : Nat) (c : Mbx) (j : Nat) :
    (s.setBox k c).chan j = s.chan j ∧ (s.setBox k c).tgt j = s.tgt j ∧ (s.setBox k c).dout j = s.dout j ∧
    (s.setBox k c).str j = s.str j ∧ (s.setBox k c).mx j = s.mx j ∧ (s.setBox k c).bus j = s.bus j ∧
    (s.setBox k c).comp j = s.comp j ∧ (s.setBox k c).slot j = s.slot j ∧ (s.setBox k c).stream j = s.stream j ∧
    (s.setBox k c).dma j = s.dma j ∧ (s.setBox k c).din j = s.din j ∧ (s.setBox k c).doutRuns j = s.doutRuns j ∧
    (s.setBox k c).core j = s.core j ∧ (s.setBox k c).lifeOf j = s.lifeOf j ∧
    (s.setBox k c).liveReg j = s.liveReg j ∧ (s.setBox k c).copyReg j = s.copyReg j ∧
    (s.setBox k c).sramWord j = s.sramWord j ∧ leaderOf (s.setBox k c) j = leaderOf s j ∧
    members (s.setBox k c) j = members s j := by
  refine ⟨rfl, rfl, rfl, rfl, rfl, rfl, rfl, rfl, rfl, rfl, rfl, rfl, rfl, rfl, rfl, rfl, rfl, rfl, rfl⟩
@[simp] theorem State.setBox_chReg (k : Nat) (c : Mbx) (j off : Nat) : chReg (s.setBox k c) j off = chReg s j off := rfl
@[simp] theorem State.setBox_lane (k : Nat) (c : Mbx) (l : Lane) : (s.setBox k c).lane l = s.lane l := by cases l <;> rfl
@[simp] theorem State.setBox_roles (k : Nat) (c : Mbx) :
    activeLane (s.setBox k c) = activeLane s ∧ standbyLane (s.setBox k c) = standbyLane s := ⟨rfl, rfl⟩
@[simp] theorem State.setBox_feedOk (k : Nat) (c : Mbx) (fd : Feed) : feedOk (s.setBox k c) fd = feedOk s fd := by cases fd <;> rfl

/-- A read after `setBox`. -/
@[simp] theorem State.setBox_box (k : Nat) (c : Mbx) (j : Nat) : (s.setBox k c).box j = if k = j then c else s.box j :=
  Sparse.get_set _ _ _ _ _

/-! ### `setCore` -/

@[simp] theorem State.setCore_fields (c : Nat) (k : Kwask) :
    (s.setCore c k).pending = s.pending ∧ (s.setCore c k).now = s.now ∧ (s.setCore c k).free = s.free ∧
    (s.setCore c k).sup = s.sup ∧ (s.setCore c k).seq = s.seq ∧ (s.setCore c k).ply = s.ply ∧
    (s.setCore c k).lanes = s.lanes ∧ (s.setCore c k).white = s.white ∧ (s.setCore c k).black = s.black ∧
    (s.setCore c k).targets = s.targets ∧ (s.setCore c k).chans = s.chans ∧ (s.setCore c k).douts = s.douts ∧
    (s.setCore c k).strs = s.strs ∧ (s.setCore c k).mxs = s.mxs ∧ (s.setCore c k).acc = s.acc ∧
    (s.setCore c k).den = s.den ∧ (s.setCore c k).buses = s.buses ∧ (s.setCore c k).fab = s.fab ∧
    (s.setCore c k).live = s.live ∧ (s.setCore c k).copy = s.copy ∧ (s.setCore c k).sram = s.sram ∧
    (s.setCore c k).measPend = s.measPend ∧ (s.setCore c k).comps = s.comps ∧ (s.setCore c k).slots = s.slots ∧
    (s.setCore c k).streams = s.streams ∧ (s.setCore c k).dmas = s.dmas ∧ (s.setCore c k).dins = s.dins ∧
    (s.setCore c k).dinRuns = s.dinRuns ∧ (s.setCore c k).life = s.life ∧ (s.setCore c k).tables = s.tables ∧
    (s.setCore c k).shadow = s.shadow ∧ (s.setCore c k).commitPend = s.commitPend ∧ (s.setCore c k).host = s.host ∧
    (s.setCore c k).mbx = s.mbx ∧ (s.setCore c k).pwr = s.pwr ∧ (s.setCore c k).upd = s.upd ∧
    (s.setCore c k).updWhite = s.updWhite ∧ (s.setCore c k).updBlack = s.updBlack ∧ (s.setCore c k).keys = s.keys ∧
    (s.setCore c k).ring = s.ring ∧ (s.setCore c k).ringLost = s.ringLost ∧ (s.setCore c k).log = s.log ∧
    (s.setCore c k).maintenance = s.maintenance := by
  refine ⟨rfl, rfl, rfl, rfl, rfl, rfl, rfl, rfl, rfl, rfl, rfl, rfl, rfl, rfl, rfl, rfl, rfl, rfl, rfl, rfl, rfl, rfl, rfl, rfl, rfl, rfl, rfl, rfl, rfl, rfl, rfl, rfl, rfl, rfl, rfl, rfl, rfl, rfl, rfl, rfl, rfl, rfl, rfl⟩

@[simp] theorem State.setCore_reads (c : Nat) (k : Kwask) (j : Nat) :
    (s.setCore c k).chan j = s.chan j ∧ (s.setCore c k).tgt j = s.tgt j ∧ (s.setCore c k).dout j = s.dout j ∧
    (s.setCore c k).str j = s.str j ∧ (s.setCore c k).mx j = s.mx j ∧ (s.setCore c k).bus j = s.bus j ∧
    (s.setCore c k).comp j = s.comp j ∧ (s.setCore c k).slot j = s.slot j ∧ (s.setCore c k).stream j = s.stream j ∧
    (s.setCore c k).dma j = s.dma j ∧ (s.setCore c k).din j = s.din j ∧ (s.setCore c k).doutRuns j = s.doutRuns j ∧
    (s.setCore c k).box j = s.box j ∧ (s.setCore c k).lifeOf j = s.lifeOf j ∧
    (s.setCore c k).liveReg j = s.liveReg j ∧ (s.setCore c k).copyReg j = s.copyReg j ∧
    (s.setCore c k).sramWord j = s.sramWord j ∧ leaderOf (s.setCore c k) j = leaderOf s j ∧
    members (s.setCore c k) j = members s j := by
  refine ⟨rfl, rfl, rfl, rfl, rfl, rfl, rfl, rfl, rfl, rfl, rfl, rfl, rfl, rfl, rfl, rfl, rfl, rfl, rfl⟩
@[simp] theorem State.setCore_chReg (c : Nat) (k : Kwask) (j off : Nat) : chReg (s.setCore c k) j off = chReg s j off := rfl
@[simp] theorem State.setCore_lane (c : Nat) (k : Kwask) (l : Lane) : (s.setCore c k).lane l = s.lane l := by cases l <;> rfl
@[simp] theorem State.setCore_roles (c : Nat) (k : Kwask) :
    activeLane (s.setCore c k) = activeLane s ∧ standbyLane (s.setCore c k) = standbyLane s := ⟨rfl, rfl⟩
@[simp] theorem State.setCore_feedOk (c : Nat) (k : Kwask) (fd : Feed) : feedOk (s.setCore c k) fd = feedOk s fd := by cases fd <;> rfl

/-- A read after `setCore`. -/
@[simp] theorem State.setCore_core (c : Nat) (k : Kwask) (j : Nat) : (s.setCore c k).core j = if c = j then k else s.core j :=
  Sparse.get_set _ _ _ _ _

/-! ### `modLife` -/

@[simp] theorem State.modLife_fields (n : Nat) (f : Life → Life) :
    (s.modLife n f).pending = s.pending ∧ (s.modLife n f).now = s.now ∧ (s.modLife n f).free = s.free ∧
    (s.modLife n f).sup = s.sup ∧ (s.modLife n f).seq = s.seq ∧ (s.modLife n f).ply = s.ply ∧
    (s.modLife n f).lanes = s.lanes ∧ (s.modLife n f).white = s.white ∧ (s.modLife n f).black = s.black ∧
    (s.modLife n f).targets = s.targets ∧ (s.modLife n f).chans = s.chans ∧ (s.modLife n f).douts = s.douts ∧
    (s.modLife n f).strs = s.strs ∧ (s.modLife n f).mxs = s.mxs ∧ (s.modLife n f).acc = s.acc ∧
    (s.modLife n f).den = s.den ∧ (s.modLife n f).buses = s.buses ∧ (s.modLife n f).fab = s.fab ∧
    (s.modLife n f).live = s.live ∧ (s.modLife n f).copy = s.copy ∧ (s.modLife n f).sram = s.sram ∧
    (s.modLife n f).measPend = s.measPend ∧ (s.modLife n f).comps = s.comps ∧ (s.modLife n f).slots = s.slots ∧
    (s.modLife n f).streams = s.streams ∧ (s.modLife n f).dmas = s.dmas ∧ (s.modLife n f).dins = s.dins ∧
    (s.modLife n f).dinRuns = s.dinRuns ∧ (s.modLife n f).tables = s.tables ∧ (s.modLife n f).shadow = s.shadow ∧
    (s.modLife n f).commitPend = s.commitPend ∧ (s.modLife n f).host = s.host ∧ (s.modLife n f).mbx = s.mbx ∧
    (s.modLife n f).pwr = s.pwr ∧ (s.modLife n f).cores = s.cores ∧ (s.modLife n f).upd = s.upd ∧
    (s.modLife n f).updWhite = s.updWhite ∧ (s.modLife n f).updBlack = s.updBlack ∧ (s.modLife n f).keys = s.keys ∧
    (s.modLife n f).ring = s.ring ∧ (s.modLife n f).ringLost = s.ringLost ∧ (s.modLife n f).log = s.log ∧
    (s.modLife n f).maintenance = s.maintenance := by
  refine ⟨rfl, rfl, rfl, rfl, rfl, rfl, rfl, rfl, rfl, rfl, rfl, rfl, rfl, rfl, rfl, rfl, rfl, rfl, rfl, rfl, rfl, rfl, rfl, rfl, rfl, rfl, rfl, rfl, rfl, rfl, rfl, rfl, rfl, rfl, rfl, rfl, rfl, rfl, rfl, rfl, rfl, rfl, rfl⟩

@[simp] theorem State.modLife_reads (n : Nat) (f : Life → Life) (j : Nat) :
    (s.modLife n f).chan j = s.chan j ∧ (s.modLife n f).tgt j = s.tgt j ∧ (s.modLife n f).dout j = s.dout j ∧
    (s.modLife n f).str j = s.str j ∧ (s.modLife n f).mx j = s.mx j ∧ (s.modLife n f).bus j = s.bus j ∧
    (s.modLife n f).comp j = s.comp j ∧ (s.modLife n f).slot j = s.slot j ∧ (s.modLife n f).stream j = s.stream j ∧
    (s.modLife n f).dma j = s.dma j ∧ (s.modLife n f).din j = s.din j ∧ (s.modLife n f).doutRuns j = s.doutRuns j ∧
    (s.modLife n f).box j = s.box j ∧ (s.modLife n f).core j = s.core j ∧ (s.modLife n f).liveReg j = s.liveReg j ∧
    (s.modLife n f).copyReg j = s.copyReg j ∧ (s.modLife n f).sramWord j = s.sramWord j ∧
    leaderOf (s.modLife n f) j = leaderOf s j ∧ members (s.modLife n f) j = members s j := by
  refine ⟨rfl, rfl, rfl, rfl, rfl, rfl, rfl, rfl, rfl, rfl, rfl, rfl, rfl, rfl, rfl, rfl, rfl, rfl, rfl⟩
@[simp] theorem State.modLife_chReg (n : Nat) (f : Life → Life) (j off : Nat) : chReg (s.modLife n f) j off = chReg s j off := rfl
@[simp] theorem State.modLife_lane (n : Nat) (f : Life → Life) (l : Lane) : (s.modLife n f).lane l = s.lane l := by cases l <;> rfl
@[simp] theorem State.modLife_roles (n : Nat) (f : Life → Life) :
    activeLane (s.modLife n f) = activeLane s ∧ standbyLane (s.modLife n f) = standbyLane s := ⟨rfl, rfl⟩
@[simp] theorem State.modLife_feedOk (n : Nat) (f : Life → Life) (fd : Feed) : feedOk (s.modLife n f) fd = feedOk s fd := by cases fd <;> rfl

/-- A read after `modLife`. -/
@[simp] theorem State.modLife_lifeOf (n : Nat) (f : Life → Life) (j : Nat) : (s.modLife n f).lifeOf j = if n = j then f (s.lifeOf n) else s.lifeOf j :=
  Sparse.get_set _ _ _ _ _

/-! ### `setLive` -/

@[simp] theorem State.setLive_fields (a : Nat) (v : Word) :
    (s.setLive a v).pending = s.pending ∧ (s.setLive a v).now = s.now ∧ (s.setLive a v).free = s.free ∧
    (s.setLive a v).sup = s.sup ∧ (s.setLive a v).seq = s.seq ∧ (s.setLive a v).ply = s.ply ∧
    (s.setLive a v).lanes = s.lanes ∧ (s.setLive a v).white = s.white ∧ (s.setLive a v).black = s.black ∧
    (s.setLive a v).targets = s.targets ∧ (s.setLive a v).chans = s.chans ∧ (s.setLive a v).douts = s.douts ∧
    (s.setLive a v).strs = s.strs ∧ (s.setLive a v).mxs = s.mxs ∧ (s.setLive a v).acc = s.acc ∧
    (s.setLive a v).den = s.den ∧ (s.setLive a v).buses = s.buses ∧ (s.setLive a v).fab = s.fab ∧
    (s.setLive a v).copy = s.copy ∧ (s.setLive a v).sram = s.sram ∧ (s.setLive a v).measPend = s.measPend ∧
    (s.setLive a v).comps = s.comps ∧ (s.setLive a v).slots = s.slots ∧ (s.setLive a v).streams = s.streams ∧
    (s.setLive a v).dmas = s.dmas ∧ (s.setLive a v).dins = s.dins ∧ (s.setLive a v).dinRuns = s.dinRuns ∧
    (s.setLive a v).life = s.life ∧ (s.setLive a v).tables = s.tables ∧ (s.setLive a v).shadow = s.shadow ∧
    (s.setLive a v).commitPend = s.commitPend ∧ (s.setLive a v).host = s.host ∧ (s.setLive a v).mbx = s.mbx ∧
    (s.setLive a v).pwr = s.pwr ∧ (s.setLive a v).cores = s.cores ∧ (s.setLive a v).upd = s.upd ∧
    (s.setLive a v).updWhite = s.updWhite ∧ (s.setLive a v).updBlack = s.updBlack ∧ (s.setLive a v).keys = s.keys ∧
    (s.setLive a v).ring = s.ring ∧ (s.setLive a v).ringLost = s.ringLost ∧ (s.setLive a v).log = s.log ∧
    (s.setLive a v).maintenance = s.maintenance := by
  refine ⟨rfl, rfl, rfl, rfl, rfl, rfl, rfl, rfl, rfl, rfl, rfl, rfl, rfl, rfl, rfl, rfl, rfl, rfl, rfl, rfl, rfl, rfl, rfl, rfl, rfl, rfl, rfl, rfl, rfl, rfl, rfl, rfl, rfl, rfl, rfl, rfl, rfl, rfl, rfl, rfl, rfl, rfl, rfl⟩

@[simp] theorem State.setLive_reads (a : Nat) (v : Word) (j : Nat) :
    (s.setLive a v).chan j = s.chan j ∧ (s.setLive a v).tgt j = s.tgt j ∧ (s.setLive a v).dout j = s.dout j ∧
    (s.setLive a v).str j = s.str j ∧ (s.setLive a v).mx j = s.mx j ∧ (s.setLive a v).bus j = s.bus j ∧
    (s.setLive a v).comp j = s.comp j ∧ (s.setLive a v).slot j = s.slot j ∧ (s.setLive a v).stream j = s.stream j ∧
    (s.setLive a v).dma j = s.dma j ∧ (s.setLive a v).din j = s.din j ∧ (s.setLive a v).doutRuns j = s.doutRuns j ∧
    (s.setLive a v).box j = s.box j ∧ (s.setLive a v).core j = s.core j ∧ (s.setLive a v).lifeOf j = s.lifeOf j ∧
    (s.setLive a v).copyReg j = s.copyReg j ∧ (s.setLive a v).sramWord j = s.sramWord j := by
  refine ⟨rfl, rfl, rfl, rfl, rfl, rfl, rfl, rfl, rfl, rfl, rfl, rfl, rfl, rfl, rfl, rfl, rfl⟩
@[simp] theorem State.setLive_lane (a : Nat) (v : Word) (l : Lane) : (s.setLive a v).lane l = s.lane l := by cases l <;> rfl
@[simp] theorem State.setLive_roles (a : Nat) (v : Word) :
    activeLane (s.setLive a v) = activeLane s ∧ standbyLane (s.setLive a v) = standbyLane s := ⟨rfl, rfl⟩
@[simp] theorem State.setLive_feedOk (a : Nat) (v : Word) (fd : Feed) : feedOk (s.setLive a v) fd = feedOk s fd := by cases fd <;> rfl

/-- A read after `setLive`. -/
@[simp] theorem State.setLive_liveReg (a : Nat) (v : Word) (j : Nat) : (s.setLive a v).liveReg j = if a = j then v else s.liveReg j :=
  Sparse.get_set _ _ _ _ _

/-! ### `setCopy` -/

@[simp] theorem State.setCopy_fields (a : Nat) (v : Word) :
    (s.setCopy a v).pending = s.pending ∧ (s.setCopy a v).now = s.now ∧ (s.setCopy a v).free = s.free ∧
    (s.setCopy a v).sup = s.sup ∧ (s.setCopy a v).seq = s.seq ∧ (s.setCopy a v).ply = s.ply ∧
    (s.setCopy a v).lanes = s.lanes ∧ (s.setCopy a v).white = s.white ∧ (s.setCopy a v).black = s.black ∧
    (s.setCopy a v).targets = s.targets ∧ (s.setCopy a v).chans = s.chans ∧ (s.setCopy a v).douts = s.douts ∧
    (s.setCopy a v).strs = s.strs ∧ (s.setCopy a v).mxs = s.mxs ∧ (s.setCopy a v).acc = s.acc ∧
    (s.setCopy a v).den = s.den ∧ (s.setCopy a v).buses = s.buses ∧ (s.setCopy a v).fab = s.fab ∧
    (s.setCopy a v).live = s.live ∧ (s.setCopy a v).sram = s.sram ∧ (s.setCopy a v).measPend = s.measPend ∧
    (s.setCopy a v).comps = s.comps ∧ (s.setCopy a v).slots = s.slots ∧ (s.setCopy a v).streams = s.streams ∧
    (s.setCopy a v).dmas = s.dmas ∧ (s.setCopy a v).dins = s.dins ∧ (s.setCopy a v).dinRuns = s.dinRuns ∧
    (s.setCopy a v).life = s.life ∧ (s.setCopy a v).tables = s.tables ∧ (s.setCopy a v).shadow = s.shadow ∧
    (s.setCopy a v).commitPend = s.commitPend ∧ (s.setCopy a v).host = s.host ∧ (s.setCopy a v).mbx = s.mbx ∧
    (s.setCopy a v).pwr = s.pwr ∧ (s.setCopy a v).cores = s.cores ∧ (s.setCopy a v).upd = s.upd ∧
    (s.setCopy a v).updWhite = s.updWhite ∧ (s.setCopy a v).updBlack = s.updBlack ∧ (s.setCopy a v).keys = s.keys ∧
    (s.setCopy a v).ring = s.ring ∧ (s.setCopy a v).ringLost = s.ringLost ∧ (s.setCopy a v).log = s.log ∧
    (s.setCopy a v).maintenance = s.maintenance := by
  refine ⟨rfl, rfl, rfl, rfl, rfl, rfl, rfl, rfl, rfl, rfl, rfl, rfl, rfl, rfl, rfl, rfl, rfl, rfl, rfl, rfl, rfl, rfl, rfl, rfl, rfl, rfl, rfl, rfl, rfl, rfl, rfl, rfl, rfl, rfl, rfl, rfl, rfl, rfl, rfl, rfl, rfl, rfl, rfl⟩

@[simp] theorem State.setCopy_reads (a : Nat) (v : Word) (j : Nat) :
    (s.setCopy a v).chan j = s.chan j ∧ (s.setCopy a v).tgt j = s.tgt j ∧ (s.setCopy a v).dout j = s.dout j ∧
    (s.setCopy a v).str j = s.str j ∧ (s.setCopy a v).mx j = s.mx j ∧ (s.setCopy a v).bus j = s.bus j ∧
    (s.setCopy a v).comp j = s.comp j ∧ (s.setCopy a v).slot j = s.slot j ∧ (s.setCopy a v).stream j = s.stream j ∧
    (s.setCopy a v).dma j = s.dma j ∧ (s.setCopy a v).din j = s.din j ∧ (s.setCopy a v).doutRuns j = s.doutRuns j ∧
    (s.setCopy a v).box j = s.box j ∧ (s.setCopy a v).core j = s.core j ∧ (s.setCopy a v).lifeOf j = s.lifeOf j ∧
    (s.setCopy a v).liveReg j = s.liveReg j ∧ (s.setCopy a v).sramWord j = s.sramWord j ∧
    leaderOf (s.setCopy a v) j = leaderOf s j ∧ members (s.setCopy a v) j = members s j := by
  refine ⟨rfl, rfl, rfl, rfl, rfl, rfl, rfl, rfl, rfl, rfl, rfl, rfl, rfl, rfl, rfl, rfl, rfl, rfl, rfl⟩
@[simp] theorem State.setCopy_chReg (a : Nat) (v : Word) (j off : Nat) : chReg (s.setCopy a v) j off = chReg s j off := rfl
@[simp] theorem State.setCopy_lane (a : Nat) (v : Word) (l : Lane) : (s.setCopy a v).lane l = s.lane l := by cases l <;> rfl
@[simp] theorem State.setCopy_roles (a : Nat) (v : Word) :
    activeLane (s.setCopy a v) = activeLane s ∧ standbyLane (s.setCopy a v) = standbyLane s := ⟨rfl, rfl⟩
@[simp] theorem State.setCopy_feedOk (a : Nat) (v : Word) (fd : Feed) : feedOk (s.setCopy a v) fd = feedOk s fd := by cases fd <;> rfl

/-- A read after `setCopy`. -/
@[simp] theorem State.setCopy_copyReg (a : Nat) (v : Word) (j : Nat) : (s.setCopy a v).copyReg j = if a = j then v else s.copyReg j :=
  Sparse.get_set _ _ _ _ _

/-! ### `setSram` -/

@[simp] theorem State.setSram_fields (a : Nat) (v : Word) :
    (s.setSram a v).pending = s.pending ∧ (s.setSram a v).now = s.now ∧ (s.setSram a v).free = s.free ∧
    (s.setSram a v).sup = s.sup ∧ (s.setSram a v).seq = s.seq ∧ (s.setSram a v).ply = s.ply ∧
    (s.setSram a v).lanes = s.lanes ∧ (s.setSram a v).white = s.white ∧ (s.setSram a v).black = s.black ∧
    (s.setSram a v).targets = s.targets ∧ (s.setSram a v).chans = s.chans ∧ (s.setSram a v).douts = s.douts ∧
    (s.setSram a v).strs = s.strs ∧ (s.setSram a v).mxs = s.mxs ∧ (s.setSram a v).acc = s.acc ∧
    (s.setSram a v).den = s.den ∧ (s.setSram a v).buses = s.buses ∧ (s.setSram a v).fab = s.fab ∧
    (s.setSram a v).live = s.live ∧ (s.setSram a v).copy = s.copy ∧ (s.setSram a v).measPend = s.measPend ∧
    (s.setSram a v).comps = s.comps ∧ (s.setSram a v).slots = s.slots ∧ (s.setSram a v).streams = s.streams ∧
    (s.setSram a v).dmas = s.dmas ∧ (s.setSram a v).dins = s.dins ∧ (s.setSram a v).dinRuns = s.dinRuns ∧
    (s.setSram a v).life = s.life ∧ (s.setSram a v).tables = s.tables ∧ (s.setSram a v).shadow = s.shadow ∧
    (s.setSram a v).commitPend = s.commitPend ∧ (s.setSram a v).host = s.host ∧ (s.setSram a v).mbx = s.mbx ∧
    (s.setSram a v).pwr = s.pwr ∧ (s.setSram a v).cores = s.cores ∧ (s.setSram a v).upd = s.upd ∧
    (s.setSram a v).updWhite = s.updWhite ∧ (s.setSram a v).updBlack = s.updBlack ∧ (s.setSram a v).keys = s.keys ∧
    (s.setSram a v).ring = s.ring ∧ (s.setSram a v).ringLost = s.ringLost ∧ (s.setSram a v).log = s.log ∧
    (s.setSram a v).maintenance = s.maintenance := by
  refine ⟨rfl, rfl, rfl, rfl, rfl, rfl, rfl, rfl, rfl, rfl, rfl, rfl, rfl, rfl, rfl, rfl, rfl, rfl, rfl, rfl, rfl, rfl, rfl, rfl, rfl, rfl, rfl, rfl, rfl, rfl, rfl, rfl, rfl, rfl, rfl, rfl, rfl, rfl, rfl, rfl, rfl, rfl, rfl⟩

@[simp] theorem State.setSram_reads (a : Nat) (v : Word) (j : Nat) :
    (s.setSram a v).chan j = s.chan j ∧ (s.setSram a v).tgt j = s.tgt j ∧ (s.setSram a v).dout j = s.dout j ∧
    (s.setSram a v).str j = s.str j ∧ (s.setSram a v).mx j = s.mx j ∧ (s.setSram a v).bus j = s.bus j ∧
    (s.setSram a v).comp j = s.comp j ∧ (s.setSram a v).slot j = s.slot j ∧ (s.setSram a v).stream j = s.stream j ∧
    (s.setSram a v).dma j = s.dma j ∧ (s.setSram a v).din j = s.din j ∧ (s.setSram a v).doutRuns j = s.doutRuns j ∧
    (s.setSram a v).box j = s.box j ∧ (s.setSram a v).core j = s.core j ∧ (s.setSram a v).lifeOf j = s.lifeOf j ∧
    (s.setSram a v).liveReg j = s.liveReg j ∧ (s.setSram a v).copyReg j = s.copyReg j ∧
    leaderOf (s.setSram a v) j = leaderOf s j ∧ members (s.setSram a v) j = members s j := by
  refine ⟨rfl, rfl, rfl, rfl, rfl, rfl, rfl, rfl, rfl, rfl, rfl, rfl, rfl, rfl, rfl, rfl, rfl, rfl, rfl⟩
@[simp] theorem State.setSram_chReg (a : Nat) (v : Word) (j off : Nat) : chReg (s.setSram a v) j off = chReg s j off := rfl
@[simp] theorem State.setSram_lane (a : Nat) (v : Word) (l : Lane) : (s.setSram a v).lane l = s.lane l := by cases l <;> rfl
@[simp] theorem State.setSram_roles (a : Nat) (v : Word) :
    activeLane (s.setSram a v) = activeLane s ∧ standbyLane (s.setSram a v) = standbyLane s := ⟨rfl, rfl⟩
@[simp] theorem State.setSram_feedOk (a : Nat) (v : Word) (fd : Feed) : feedOk (s.setSram a v) fd = feedOk s fd := by cases fd <;> rfl

/-- A read after `setSram`. -/
@[simp] theorem State.setSram_sramWord (a : Nat) (v : Word) (j : Nat) : (s.setSram a v).sramWord j = if a = j then v else s.sramWord j :=
  Sparse.get_set _ _ _ _ _

/-! ### `mapLanes` -/

@[simp] theorem State.mapLanes_fields (f : LaneSt → LaneSt) :
    (s.mapLanes f).pending = s.pending ∧ (s.mapLanes f).now = s.now ∧ (s.mapLanes f).free = s.free ∧
    (s.mapLanes f).sup = s.sup ∧ (s.mapLanes f).seq = s.seq ∧ (s.mapLanes f).ply = s.ply ∧
    (s.mapLanes f).lanes = s.lanes ∧ (s.mapLanes f).targets = s.targets ∧ (s.mapLanes f).chans = s.chans ∧
    (s.mapLanes f).douts = s.douts ∧ (s.mapLanes f).strs = s.strs ∧ (s.mapLanes f).mxs = s.mxs ∧
    (s.mapLanes f).acc = s.acc ∧ (s.mapLanes f).den = s.den ∧ (s.mapLanes f).buses = s.buses ∧
    (s.mapLanes f).fab = s.fab ∧ (s.mapLanes f).live = s.live ∧ (s.mapLanes f).copy = s.copy ∧
    (s.mapLanes f).sram = s.sram ∧ (s.mapLanes f).measPend = s.measPend ∧ (s.mapLanes f).comps = s.comps ∧
    (s.mapLanes f).slots = s.slots ∧ (s.mapLanes f).streams = s.streams ∧ (s.mapLanes f).dmas = s.dmas ∧
    (s.mapLanes f).dins = s.dins ∧ (s.mapLanes f).dinRuns = s.dinRuns ∧ (s.mapLanes f).life = s.life ∧
    (s.mapLanes f).tables = s.tables ∧ (s.mapLanes f).shadow = s.shadow ∧ (s.mapLanes f).commitPend = s.commitPend ∧
    (s.mapLanes f).host = s.host ∧ (s.mapLanes f).mbx = s.mbx ∧ (s.mapLanes f).pwr = s.pwr ∧
    (s.mapLanes f).cores = s.cores ∧ (s.mapLanes f).upd = s.upd ∧ (s.mapLanes f).updWhite = s.updWhite ∧
    (s.mapLanes f).updBlack = s.updBlack ∧ (s.mapLanes f).keys = s.keys ∧ (s.mapLanes f).ring = s.ring ∧
    (s.mapLanes f).ringLost = s.ringLost ∧ (s.mapLanes f).log = s.log ∧ (s.mapLanes f).maintenance = s.maintenance := by
  refine ⟨rfl, rfl, rfl, rfl, rfl, rfl, rfl, rfl, rfl, rfl, rfl, rfl, rfl, rfl, rfl, rfl, rfl, rfl, rfl, rfl, rfl, rfl, rfl, rfl, rfl, rfl, rfl, rfl, rfl, rfl, rfl, rfl, rfl, rfl, rfl, rfl, rfl, rfl, rfl, rfl, rfl, rfl⟩

@[simp] theorem State.mapLanes_reads (f : LaneSt → LaneSt) (j : Nat) :
    (s.mapLanes f).chan j = s.chan j ∧ (s.mapLanes f).tgt j = s.tgt j ∧ (s.mapLanes f).dout j = s.dout j ∧
    (s.mapLanes f).str j = s.str j ∧ (s.mapLanes f).mx j = s.mx j ∧ (s.mapLanes f).bus j = s.bus j ∧
    (s.mapLanes f).comp j = s.comp j ∧ (s.mapLanes f).slot j = s.slot j ∧ (s.mapLanes f).stream j = s.stream j ∧
    (s.mapLanes f).dma j = s.dma j ∧ (s.mapLanes f).din j = s.din j ∧ (s.mapLanes f).doutRuns j = s.doutRuns j ∧
    (s.mapLanes f).box j = s.box j ∧ (s.mapLanes f).core j = s.core j ∧ (s.mapLanes f).lifeOf j = s.lifeOf j ∧
    (s.mapLanes f).liveReg j = s.liveReg j ∧ (s.mapLanes f).copyReg j = s.copyReg j ∧
    (s.mapLanes f).sramWord j = s.sramWord j ∧ leaderOf (s.mapLanes f) j = leaderOf s j ∧
    members (s.mapLanes f) j = members s j := by
  refine ⟨rfl, rfl, rfl, rfl, rfl, rfl, rfl, rfl, rfl, rfl, rfl, rfl, rfl, rfl, rfl, rfl, rfl, rfl, rfl, rfl⟩
@[simp] theorem State.mapLanes_chReg (f : LaneSt → LaneSt) (j off : Nat) : chReg (s.mapLanes f) j off = chReg s j off := rfl
@[simp] theorem State.mapLanes_feedOk (f : LaneSt → LaneSt) (fd : Feed) : feedOk (s.mapLanes f) fd = feedOk s fd := by cases fd <;> rfl

/-! ### `setLane` -/

@[simp] theorem State.setLane_fields (l : Lane) (g : LaneSt) :
    (s.setLane l g).pending = s.pending ∧ (s.setLane l g).now = s.now ∧ (s.setLane l g).free = s.free ∧
    (s.setLane l g).sup = s.sup ∧ (s.setLane l g).seq = s.seq ∧ (s.setLane l g).ply = s.ply ∧
    (s.setLane l g).lanes = s.lanes ∧ (s.setLane l g).targets = s.targets ∧ (s.setLane l g).chans = s.chans ∧
    (s.setLane l g).douts = s.douts ∧ (s.setLane l g).strs = s.strs ∧ (s.setLane l g).mxs = s.mxs ∧
    (s.setLane l g).acc = s.acc ∧ (s.setLane l g).den = s.den ∧ (s.setLane l g).buses = s.buses ∧
    (s.setLane l g).fab = s.fab ∧ (s.setLane l g).live = s.live ∧ (s.setLane l g).copy = s.copy ∧
    (s.setLane l g).sram = s.sram ∧ (s.setLane l g).measPend = s.measPend ∧ (s.setLane l g).comps = s.comps ∧
    (s.setLane l g).slots = s.slots ∧ (s.setLane l g).streams = s.streams ∧ (s.setLane l g).dmas = s.dmas ∧
    (s.setLane l g).dins = s.dins ∧ (s.setLane l g).dinRuns = s.dinRuns ∧ (s.setLane l g).life = s.life ∧
    (s.setLane l g).tables = s.tables ∧ (s.setLane l g).shadow = s.shadow ∧
    (s.setLane l g).commitPend = s.commitPend ∧ (s.setLane l g).host = s.host ∧ (s.setLane l g).mbx = s.mbx ∧
    (s.setLane l g).pwr = s.pwr ∧ (s.setLane l g).cores = s.cores ∧ (s.setLane l g).upd = s.upd ∧
    (s.setLane l g).updWhite = s.updWhite ∧ (s.setLane l g).updBlack = s.updBlack ∧ (s.setLane l g).keys = s.keys ∧
    (s.setLane l g).ring = s.ring ∧ (s.setLane l g).ringLost = s.ringLost ∧ (s.setLane l g).log = s.log ∧
    (s.setLane l g).maintenance = s.maintenance := by
  cases l <;> refine ⟨rfl, rfl, rfl, rfl, rfl, rfl, rfl, rfl, rfl, rfl, rfl, rfl, rfl, rfl, rfl, rfl, rfl, rfl, rfl, rfl, rfl, rfl, rfl, rfl, rfl, rfl, rfl, rfl, rfl, rfl, rfl, rfl, rfl, rfl, rfl, rfl, rfl, rfl, rfl, rfl, rfl, rfl⟩

@[simp] theorem State.setLane_lane (l m : Lane) (g : LaneSt) : (s.setLane l g).lane m = if l = m then g else s.lane m := by
  cases l <;> cases m <;> rfl

@[simp] theorem State.mapLanes_lane (f : LaneSt → LaneSt) (l : Lane) : (s.mapLanes f).lane l = f (s.lane l) := by
  cases l <;> rfl

end Sys2Proof.Machine
end

