-- ==== Sys2Proof/Laws/Kept.lean ====
section
/-! SUPPORT. How a claim that the queue and the invariant are kept goes through the forms that definitions are made of. -/

set_option linter.all false

namespace Sys2Proof.Machine

open Sys2Proof

/-- The queue is `q`, and the invariant holds. -/
def Kept (q : List Instr) (s : State) : Prop := s.pending = q ∧ s.Inv
theorem kept_update {q : List Instr} {s : State} {a0 a1 a2 a3 a4 a5 a6 a7 a8 a9 a10 a11 a12 a13 a14 a15 a16 a17 a18 a19 a20 a21 a22 a23 a24 a25 a26 a27 a28 a29 a30 a31 a32 a33 a34 a35 a36 a37 a38 a39} :
    Kept q ⟨s.pending, a0, a1, a2, a3, a4, a5, a6, a7, a8, a9, a10, a11, a12, a13, a14, a15, a16, a17, a18, s.sram, a19, a20, a21, a22, a23, a24, a25, a26, a27, a28, a29, a30, a31, a32, a33, a34, a35, a36, a37, s.ring, a38, s.log, a39⟩ = Kept q s := propext ⟨fun h => ⟨h.1, h.2⟩, fun h => ⟨h.1, h.2⟩⟩
theorem kept_put {q : List Instr} {s : State} {ring : List Rec} {log : List PlyLog} {a0 a1 a2 a3 a4 a5 a6 a7 a8 a9 a10 a11 a12 a13 a14 a15 a16 a17 a18 a19 a20 a21 a22 a23 a24 a25 a26 a27 a28 a29 a30 a31 a32 a33 a34 a35 a36 a37 a38 a39} (h : Kept q s) (hr : ring.length ≤ 6400) (hl : log.length ≤ 4) :
    Kept q ⟨s.pending, a0, a1, a2, a3, a4, a5, a6, a7, a8, a9, a10, a11, a12, a13, a14, a15, a16, a17, a18, s.sram, a19, a20, a21, a22, a23, a24, a25, a26, a27, a28, a29, a30, a31, a32, a33, a34, a35, a36, a37, ring, a38, log, a39⟩ := ⟨h.1, h.2.1, hr, hl⟩
theorem kept_ring {q : List Instr} {s : State} (h : Kept q s) : s.ring.length ≤ 6400 := h.2.2.1
theorem kept_ring_filter {q : List Instr} {s : State} (f : Rec → Bool) (h : Kept q s) : (s.ring.filter f).length ≤ 6400 :=
  le_trans (List.length_filter_le _ _) h.2.2.1
theorem kept_log {q : List Instr} {s : State} (h : Kept q s) : s.log.length ≤ 4 := h.2.2.2
theorem kept_log_map {q : List Instr} {s : State} (f : PlyLog → PlyLog) (h : Kept q s) : (s.log.map f).length ≤ 4 := by
  rw [List.length_map]; exact h.2.2.2
theorem ring_drop (r : List Rec) : (r.drop (r.length - 6400)).length ≤ 6400 := by rw [List.length_drop]; omega
theorem log_drop (l : List PlyLog) (e : PlyLog) : ((l ++ [e]).drop (l.length - 3)).length ≤ 4 := by
  rw [List.length_drop, List.length_append]; simp only [List.length_cons, List.length_nil]; omega
theorem log_last (l : List PlyLog) : (l.drop (l.length - 3)).length ≤ 4 := by rw [List.length_drop]; omega
theorem nil_le {α : Type} (k : Nat) : ([] : List α).length ≤ k := Nat.zero_le _
theorem kept_cut {q : List Instr} {P : Prop} {x : State} (h : Kept q x) (h' : Kept q x → P) : P := h' h
theorem kept_ite {q : List Instr} {c : Prop} [Decidable c] {a b : State} (ha : Kept q a) (hb : Kept q b) : Kept q (if c then a else b) := by
  split <;> assumption
theorem kept_foldl {α : Type} {q : List Instr} {l : List α} {f : State → α → State} {s : State} (hf : ∀ s a, Kept q s → Kept q (f s a)) (h : Kept q s) : Kept q (l.foldl f s) := by
  induction l generalizing s with
  | nil => exact h
  | cons a l ih => exact ih (hf s a h)
def KeptO (q : List Instr) : Host.Outcome State Fault Refusal → Prop
  | .next t => Kept q t
  | .fault _ => True
  | .refused _ => True
theorem kept_foldr {α : Type} {q : List Instr} {l : List α} {f : α → State → State} {s : State} (hf : ∀ a s, Kept q s → Kept q (f a s)) (h : Kept q s) : Kept q (l.foldr f s) := by
  induction l with
  | nil => exact h
  | cons a l ih => exact hf a _ ih
theorem keptO_ite {q : List Instr} {c : Prop} [Decidable c] {a b : Host.Outcome State Fault Refusal} (ha : KeptO q a) (hb : KeptO q b) : KeptO q (if c then a else b) := by
  split <;> assumption
theorem kept_ite2 {β : Type} {q : List Instr} {c : Prop} [Decidable c] {a b : β × State} (ha : Kept q a.2) (hb : Kept q b.2) : Kept q (if c then a else b).2 := by
  split <;> assumption
theorem kept_ite3 {β γ : Type} {q : List Instr} {c : Prop} [Decidable c] {a b : β × γ × State} (ha : Kept q a.2.2) (hb : Kept q b.2.2) : Kept q (if c then a else b).2.2 := by
  split <;> assumption
theorem kept_ite4 {β γ δ : Type} {q : List Instr} {c : Prop} [Decidable c] {a b : β × γ × δ × State} (ha : Kept q a.2.2.2) (hb : Kept q b.2.2.2) : Kept q (if c then a else b).2.2.2 := by
  split <;> assumption
theorem kept_eq {β : Type} {q : List Instr} {p : β × State} {a : β} {s : State} (e : p = (a, s)) (h : Kept q p.2) : Kept q s := by subst e; exact h
theorem kept_eq3 {β γ : Type} {q : List Instr} {p : β × γ × State} {a : β} {b : γ} {s : State} (e : p = (a, b, s)) (h : Kept q p.2.2) : Kept q s := by subst e; exact h
theorem kept_eq4 {β γ δ : Type} {q : List Instr} {p : β × γ × δ × State} {a : β} {b : γ} {c : δ} {s : State} (e : p = (a, b, c, s)) (h : Kept q p.2.2.2) : Kept q s := by subst e; exact h
theorem kept_foldl2 {α β : Type} {q : List Instr} {l : List α} {f : β × State → α → β × State} {r : β × State} (hf : ∀ r a, Kept q r.2 → Kept q (f r a).2) (h : Kept q r.2) : Kept q (l.foldl f r).2 := by
  induction l generalizing r with
  | nil => exact h
  | cons a l ih => exact ih (hf r a h)
theorem kept_cut2 {β : Type} {q : List Instr} {P : Prop} {x : β × State} (h : Kept q x.2) (h' : Kept q x.2 → P) : P := h' h
theorem kept_cut3 {β γ : Type} {q : List Instr} {P : Prop} {x : β × γ × State} (h : Kept q x.2.2) (h' : Kept q x.2.2 → P) : P := h' h
theorem keptO_next {q : List Instr} {s : State} (h : Kept q s) : KeptO q (.next s) := h
end Sys2Proof.Machine
end

