-- ==== Sys2Proof/Laws/KeptUnits.lean ====
section
/-! SUPPORT. The operations of tiles, units, buses, the Board and the mailboxes keep the queue and the invariant: one lemma for
each, proved from its callees'. -/

set_option linter.all false
set_option maxRecDepth 8000

namespace Sys2Proof.Machine

open Sys2Proof

variable {q : List Instr}

/-! ### Ops -/
theorem State.setLane_kept (s : State) (l : Lane) (g : LaneSt) (hk : Kept q s) :
    Kept q (State.setLane s l g) := by
  unfold State.setLane
  repeat'
    first
      | (with_reducible first
          | intro _ | assumption) | simp only [kept_update] | split
theorem State.modLane_kept (s : State) (l : Lane) (f : LaneSt → LaneSt) (hk : Kept q s) :
    Kept q (State.modLane s l f) := by
  unfold State.modLane
  repeat'
    first
      | (with_reducible first
          | intro _ | assumption | apply State.setLane_kept)
theorem State.mapLanes_kept (s : State) (f : LaneSt → LaneSt) (hk : Kept q s) :
    Kept q (State.mapLanes s f) := by
  unfold State.mapLanes
  repeat'
    first
      | (with_reducible first
          | intro _ | assumption) | simp only [kept_update]
theorem State.setChan_kept (s : State) (n : Nat) (c : Chan) (hk : Kept q s) :
    Kept q (State.setChan s n c) := by
  unfold State.setChan
  repeat'
    first
      | (with_reducible first
          | intro _ | assumption) | simp only [kept_update]
theorem State.modChan_kept (s : State) (n : Nat) (f : Chan → Chan) (hk : Kept q s) :
    Kept q (State.modChan s n f) := by
  unfold State.modChan
  repeat'
    first
      | (with_reducible first
          | intro _ | assumption | apply State.setChan_kept)
theorem State.setTgt_kept (s : State) (t : Nat) (g : Target) (hk : Kept q s) :
    Kept q (State.setTgt s t g) := by
  unfold State.setTgt
  repeat'
    first
      | (with_reducible first
          | intro _ | assumption) | simp only [kept_update]
theorem State.modTgt_kept (s : State) (t : Nat) (f : Target → Target) (hk : Kept q s) :
    Kept q (State.modTgt s t f) := by
  unfold State.modTgt
  repeat'
    first
      | (with_reducible first
          | intro _ | assumption | apply State.setTgt_kept)
theorem State.modDout_kept (s : State) (o : Nat) (f : Dout → Dout) (hk : Kept q s) :
    Kept q (State.modDout s o f) := by
  unfold State.modDout
  repeat'
    first
      | (with_reducible first
          | intro _ | assumption) | simp only [kept_update]
theorem State.modStr_kept (s : State) (x : Nat) (f : Str → Str) (hk : Kept q s) :
    Kept q (State.modStr s x f) := by
  unfold State.modStr
  repeat'
    first
      | (with_reducible first
          | intro _ | assumption) | simp only [kept_update]
theorem State.modMx_kept (s : State) (m : Nat) (f : Mx → Mx) (hk : Kept q s) :
    Kept q (State.modMx s m f) := by
  unfold State.modMx
  repeat'
    first
      | (with_reducible first
          | intro _ | assumption) | simp only [kept_update]
theorem State.setBus_kept (s : State) (b : Nat) (x : Bus) (hk : Kept q s) :
    Kept q (State.setBus s b x) := by
  unfold State.setBus
  repeat'
    first
      | (with_reducible first
          | intro _ | assumption) | simp only [kept_update]
theorem State.modBus_kept (s : State) (b : Nat) (f : Bus → Bus) (hk : Kept q s) :
    Kept q (State.modBus s b f) := by
  unfold State.modBus
  repeat'
    first
      | (with_reducible first
          | intro _ | assumption | apply State.setBus_kept)
theorem State.setComp_kept (s : State) (i : Nat) (c : Comp) (hk : Kept q s) :
    Kept q (State.setComp s i c) := by
  unfold State.setComp
  repeat'
    first
      | (with_reducible first
          | intro _ | assumption) | simp only [kept_update]
theorem State.setSlot_kept (s : State) (k : Nat) (c : SigSlot) (hk : Kept q s) :
    Kept q (State.setSlot s k c) := by
  unfold State.setSlot
  repeat'
    first
      | (with_reducible first
          | intro _ | assumption) | simp only [kept_update]
theorem State.setStream_kept (s : State) (x : Nat) (c : Stream) (hk : Kept q s) :
    Kept q (State.setStream s x c) := by
  unfold State.setStream
  repeat'
    first
      | (with_reducible first
          | intro _ | assumption) | simp only [kept_update]
theorem State.setDma_kept (s : State) (e : Nat) (d : Dma) (hk : Kept q s) :
    Kept q (State.setDma s e d) := by
  unfold State.setDma
  repeat'
    first
      | (with_reducible first
          | intro _ | assumption) | simp only [kept_update]
theorem State.setDin_kept (s : State) (d : Nat) (c : Din) (hk : Kept q s) :
    Kept q (State.setDin s d c) := by
  unfold State.setDin
  repeat'
    first
      | (with_reducible first
          | intro _ | assumption) | simp only [kept_update]
theorem State.setDoutRuns_kept (s : State) (o : Nat) (c : DoutRuns) (hk : Kept q s) :
    Kept q (State.setDoutRuns s o c) := by
  unfold State.setDoutRuns
  repeat'
    first
      | (with_reducible first
          | intro _ | assumption) | simp only [kept_update]
theorem State.setBox_kept (s : State) (k : Nat) (c : Mbx) (hk : Kept q s) :
    Kept q (State.setBox s k c) := by
  unfold State.setBox
  repeat'
    first
      | (with_reducible first
          | intro _ | assumption) | simp only [kept_update]
theorem State.modBox_kept (s : State) (k : Nat) (f : Mbx → Mbx) (hk : Kept q s) :
    Kept q (State.modBox s k f) := by
  unfold State.modBox
  repeat'
    first
      | (with_reducible first
          | intro _ | assumption | apply State.setBox_kept)
theorem State.setCore_kept (s : State) (c : Nat) (k : Kwask) (hk : Kept q s) :
    Kept q (State.setCore s c k) := by
  unfold State.setCore
  repeat'
    first
      | (with_reducible first
          | intro _ | assumption) | simp only [kept_update]
theorem State.modCore_kept (s : State) (c : Nat) (f : Kwask → Kwask) (hk : Kept q s) :
    Kept q (State.modCore s c f) := by
  unfold State.modCore
  repeat'
    first
      | (with_reducible first
          | intro _ | assumption | apply State.setCore_kept)
theorem State.modLife_kept (s : State) (n : Nat) (f : Life → Life) (hk : Kept q s) :
    Kept q (State.modLife s n f) := by
  unfold State.modLife
  repeat'
    first
      | (with_reducible first
          | intro _ | assumption) | simp only [kept_update]
theorem State.setLive_kept (s : State) (a : Nat) (v : Word) (hk : Kept q s) :
    Kept q (State.setLive s a v) := by
  unfold State.setLive
  repeat'
    first
      | (with_reducible first
          | intro _ | assumption) | simp only [kept_update]
theorem State.clearLive_kept (s : State) (r : (Nat × Nat) × (Nat × Nat)) (hk : Kept q s) :
    Kept q (State.clearLive s r) := by
  unfold State.clearLive
  repeat'
    first
      | (with_reducible first
          | intro _ | assumption) | simp only [kept_update]
theorem State.setCopy_kept (s : State) (a : Nat) (v : Word) (hk : Kept q s) :
    Kept q (State.setCopy s a v) := by
  unfold State.setCopy
  repeat'
    first
      | (with_reducible first
          | intro _ | assumption) | simp only [kept_update]
theorem State.clearCopy_kept (s : State) (r : Nat × Nat) (hk : Kept q s) :
    Kept q (State.clearCopy s r) := by
  unfold State.clearCopy
  repeat'
    first
      | (with_reducible first
          | intro _ | assumption) | simp only [kept_update]
theorem State.setCopies_kept (s : State) (ps : List (Nat × Word)) (hk : Kept q s) :
    Kept q (State.setCopies s ps) := by
  unfold State.setCopies
  repeat'
    first
      | (with_reducible first
          | intro _ | assumption | apply State.setCopy_kept | apply kept_foldl)
theorem State.setReported_kept (s : State) (ps : List (Nat × Word)) (hk : Kept q s) :
    Kept q (State.setReported s ps) := by
  unfold State.setReported
  repeat'
    first
      | (with_reducible first
          | intro _ | assumption | apply State.setCopy_kept | apply kept_foldl)
      | (extract_lets +onlyGivenNames x; first | (refine kept_cut (q := q) (x := x) ?_ ?_ <;> [(unfold x; clear x); (intro hx; clear_value x)]) | clear_value x)
theorem State.setSram_kept (s : State) (a : Nat) (v : Word) (hk : Kept q s) : Kept q (State.setSram s a v) :=
  ⟨hk.1, Sparse.wf_set _ _ _ _ hk.2.1, hk.2.2⟩
theorem State.setSrams_kept (s : State) (a : Nat) (ws : List Word) (hk : Kept q s) : Kept q (State.setSrams s a ws) := by
  induction ws generalizing s a with
  | nil => exact hk
  | cons w ws ih => exact ih _ _ (State.setSram_kept s a w hk)
theorem afterNumber_kept (n : Nat) (s : State) (hk : Kept q s) :
    Kept q (afterNumber n s) := by
  unfold afterNumber
  repeat'
    first
      | (with_reducible first
          | intro _ | assumption | apply kept_ite) | simp only [kept_update] | split
theorem epochCarry_kept (s : State) (hk : Kept q s) :
    Kept q (epochCarry s) := by
  unfold epochCarry
  repeat'
    first
      | (with_reducible first
          | intro _ | assumption | apply State.mapLanes_kept | apply kept_ite)
      | (extract_lets +onlyGivenNames x; first | (refine kept_cut (q := q) (x := x) ?_ ?_ <;> [(unfold x; clear x); (intro hx; clear_value x)]) | clear_value x)
      | simp only [kept_update] | split
theorem countSource_kept (src : Nat) (s : State) (hk : Kept q s) :
    Kept q (countSource src s) := by
  unfold countSource
  repeat'
    first
      | (with_reducible first
          | intro _ | assumption) | simp only [kept_update]
theorem numberInput_kept (t : Nat) (i : Input) (s : State) (hk : Kept q s) :
    Kept q (numberInput t i s) := by
  unfold numberInput
  repeat'
    first
      | (with_reducible first
          | intro _ | assumption | apply afterNumber_kept | apply epochCarry_kept)
      | (extract_lets +onlyGivenNames x; first | (refine kept_cut (q := q) (x := x) ?_ ?_ <;> [(unfold x; clear x); (intro hx; clear_value x)]) | clear_value x)
      | simp only [kept_update]
theorem present_kept (src : Nat) (payload : List Word) (act : Act) (s : State) (hk : Kept q s) :
    Kept q (present src payload act s) := by
  unfold present
  repeat'
    first
      | (with_reducible first
          | intro _ | assumption | apply countSource_kept | apply numberInput_kept | apply kept_ite)
      | (extract_lets +onlyGivenNames x; first | (refine kept_cut (q := q) (x := x) ?_ ?_ <;> [(unfold x; clear x); (intro hx; clear_value x)]) | clear_value x)
      | simp only [kept_update] | split
theorem laneRecord_kept (r : RecDraft) (s : State) (hk : Kept q s) :
    Kept q (laneRecord r s) := by
  unfold laneRecord
  repeat'
    first
      | (with_reducible first
          | intro _ | assumption) | simp only [kept_update]
theorem laneRecords_kept (rs : List RecDraft) (s : State) (hk : Kept q s) :
    Kept q (laneRecords rs s) := by
  unfold laneRecords
  repeat'
    first
      | (with_reducible first
          | intro _ | assumption | apply laneRecord_kept | apply kept_foldl)
theorem writeRefused_kept (m a : Nat) (v : Word) (s : State) (hk : Kept q s) :
    Kept q (writeRefused m a v s) := by
  unfold writeRefused
  repeat'
    first
      | (with_reducible first
          | intro _ | assumption | apply laneRecord_kept)
theorem raiseWake_kept (cause idx : Nat) (s : State) (hk : Kept q s) :
    Kept q (raiseWake cause idx s) := by
  unfold raiseWake
  repeat'
    first
      | (with_reducible first
          | intro _ | assumption) | simp only [kept_update] | split
theorem pushEntry_kept (t : Nat) (e : Entry) (s : State) (hk : Kept q s) :
    Kept q (pushEntry t e s) := by
  unfold pushEntry
  repeat'
    first
      | (with_reducible first
          | intro _ | assumption | apply State.modTgt_kept) | simp only [kept_update]
theorem parkFault_kept (n cause : Nat) (s : State) (hk : Kept q s) :
    Kept q (parkFault n cause s) := by
  unfold parkFault
  repeat'
    first
      | (with_reducible first
          | intro _ | assumption | apply raiseWake_kept | apply kept_ite)
      | (extract_lets +onlyGivenNames x; first | (refine kept_cut (q := q) (x := x) ?_ ?_ <;> [(unfold x; clear x); (intro hx; clear_value x)]) | clear_value x)
      | split
theorem reportChAs_kept (n cause : Nat) (w2 arg1 : Word) (own pulse : Bool) (s : State) (hk : Kept q s) :
    Kept q (reportChAs n cause w2 arg1 own pulse s) := by
  unfold reportChAs
  repeat'
    first
      | (with_reducible first
          | intro _ | assumption | apply pushEntry_kept | apply parkFault_kept)
      | (extract_lets +onlyGivenNames x; first | (refine kept_cut (q := q) (x := x) ?_ ?_ <;> [(unfold x; clear x); (intro hx; clear_value x)]) | clear_value x)
      | simp only [kept_update]
theorem reportCh_kept (n cause : Nat) (arg1 : Word) (s : State) (hk : Kept q s) :
    Kept q (reportCh n cause arg1 s) := by
  unfold reportCh
  repeat'
    first
      | (with_reducible first
          | intro _ | assumption | apply reportChAs_kept)
theorem presentKind_kept (t : Nat) (now : List (Nat × Word)) (es : List Entry) (k : Nat) (s : State) (hk : Kept q s) :
    Kept q (presentKind t now es k s) := by
  unfold presentKind
  repeat'
    first
      | (with_reducible first
          | intro _ | assumption | apply State.modTgt_kept | apply present_kept | apply kept_ite)
      | (extract_lets +onlyGivenNames x; first | (refine kept_cut (q := q) (x := x) ?_ ?_ <;> [(unfold x; clear x); (intro hx; clear_value x)]) | clear_value x)
      | simp only [kept_update] | split
theorem presentShadow_kept (t : Nat) (s : State) (hk : Kept q s) :
    Kept q (presentShadow t s) := by
  unfold presentShadow
  repeat'
    first
      | (with_reducible first
          | intro _ | assumption | apply State.modTgt_kept | apply present_kept) | simp only [kept_update] | split
theorem presentReport_kept (t : Nat) (all : Bool) (now : List (Nat × Word)) (s : State) (hk : Kept q s) :
    Kept q (presentReport t all now s) := by
  unfold presentReport
  repeat'
    first
      | (with_reducible first
          | intro _ | assumption | apply State.modTgt_kept | apply State.setReported_kept | apply presentKind_kept
          | apply presentShadow_kept | apply kept_foldl | apply kept_ite)
      | (extract_lets +onlyGivenNames x; first | (refine kept_cut (q := q) (x := x) ?_ ?_ <;> [(unfold x; clear x); (intro hx; clear_value x)]) | clear_value x)
      | simp only [kept_update] | split
theorem wireWarn_kept (n : Nat) (was : Bool) (s : State) (hk : Kept q s) :
    Kept q (wireWarn n was s) := by
  unfold wireWarn
  repeat'
    first
      | (with_reducible first
          | intro _ | assumption | apply State.modChan_kept | apply reportCh_kept | apply kept_ite)
      | (extract_lets +onlyGivenNames x; first | (refine kept_cut (q := q) (x := x) ?_ ?_ <;> [(unfold x; clear x); (intro hx; clear_value x)]) | clear_value x)
      | simp only [kept_update] | split
theorem startWire_kept (n : Nat) (s : State) (hk : Kept q s) :
    Kept q (startWire n s) := by
  unfold startWire
  repeat'
    first
      | (with_reducible first
          | intro _ | assumption | apply State.modChan_kept | apply wireWarn_kept | apply kept_ite)
      | (extract_lets +onlyGivenNames x; first | (refine kept_cut (q := q) (x := x) ?_ ?_ <;> [(unfold x; clear x); (intro hx; clear_value x)]) | clear_value x)
      | simp only [kept_update] | split
/-! ### Channel -/
theorem refuseTile_kept (t blk off reason : Nat) (v : Word) (s : State) (hk : Kept q s) :
    Kept q (refuseTile t blk off reason v s) := by
  unfold refuseTile
  repeat'
    first
      | (with_reducible first
          | intro _ | assumption | apply State.modTgt_kept | apply kept_ite)
      | (extract_lets +onlyGivenNames x; first | (refine kept_cut (q := q) (x := x) ?_ ?_ <;> [(unfold x; clear x); (intro hx; clear_value x)]) | clear_value x)
      | simp only [kept_update] | split
theorem refuseCh_kept (n off reason : Nat) (v : Word) (s : State) (hk : Kept q s) :
    Kept q (refuseCh n off reason v s) := by
  unfold refuseCh
  repeat'
    first
      | (with_reducible first
          | intro _ | assumption | apply refuseTile_kept)
theorem settleEntries_kept (n : Nat) (s : State) (hk : Kept q s) :
    Kept q (settleEntries n s) := by
  unfold settleEntries
  repeat'
    first
      | (with_reducible first
          | intro _ | assumption | apply State.modTgt_kept | apply kept_ite)
      | (extract_lets +onlyGivenNames x; first | (refine kept_cut (q := q) (x := x) ?_ ?_ <;> [(unfold x; clear x); (intro hx; clear_value x)]) | clear_value x)
      | simp only [kept_update] | split
theorem changeOne_kept (at_ cause : Nat) (w2 : Option Word) (arg1 : Word) (pulse : Bool) (f : Chan → Chan) (s : State) (m : Nat) (hk : Kept q s) :
    Kept q (changeOne at_ cause w2 arg1 pulse f s m) := by
  unfold changeOne
  repeat'
    first
      | (with_reducible first
          | intro _ | assumption | apply State.modChan_kept | apply reportChAs_kept | apply settleEntries_kept
          | apply kept_ite)
      | (extract_lets +onlyGivenNames x; first | (refine kept_cut (q := q) (x := x) ?_ ?_ <;> [(unfold x; clear x); (intro hx; clear_value x)]) | clear_value x)
      | split
theorem changeGroup_kept (n cause : Nat) (arg1 : Word) (f : Chan → Chan) (s : State) (hk : Kept q s) :
    Kept q (changeGroup n cause arg1 f s) := by
  unfold changeGroup
  repeat'
    first
      | (with_reducible first
          | intro _ | assumption | apply changeOne_kept | apply kept_foldl)
      | (extract_lets +onlyGivenNames x; first | (refine kept_cut (q := q) (x := x) ?_ ?_ <;> [(unfold x; clear x); (intro hx; clear_value x)]) | clear_value x)
theorem closeOn_kept (n : Nat) (s : State) (hk : Kept q s) :
    Kept q (closeOn n s) := by
  unfold closeOn
  repeat'
    first
      | (with_reducible first
          | intro _ | assumption | apply changeGroup_kept)
      | (extract_lets +onlyGivenNames x; first | (refine kept_cut (q := q) (x := x) ?_ ?_ <;> [(unfold x; clear x); (intro hx; clear_value x)]) | clear_value x)
theorem closeSafe_kept (n : Nat) (s : State) (hk : Kept q s) :
    Kept q (closeSafe n s) := by
  unfold closeSafe
  repeat'
    first
      | (with_reducible first
          | intro _ | assumption | apply changeGroup_kept)
      | (extract_lets +onlyGivenNames x; first | (refine kept_cut (q := q) (x := x) ?_ ?_ <;> [(unfold x; clear x); (intro hx; clear_value x)]) | clear_value x)
theorem coolInstead_kept (n cause : Nat) (src : Src) (s : State) (hk : Kept q s) :
    Kept q (coolInstead n cause src s) := by
  unfold coolInstead
  repeat'
    first
      | (with_reducible first
          | intro _ | assumption | apply changeGroup_kept | apply kept_ite)
      | (extract_lets +onlyGivenNames x; first | (refine kept_cut (q := q) (x := x) ?_ ?_ <;> [(unfold x; clear x); (intro hx; clear_value x)]) | clear_value x)
      | simp only [kept_update] | split
theorem finishClosing_kept (n : Nat) (src : Src) (s : State) (hk : Kept q s) :
    Kept q (finishClosing n src s) := by
  unfold finishClosing
  repeat'
    first
      | (with_reducible first
          | intro _ | assumption | apply closeOn_kept | apply closeSafe_kept | apply coolInstead_kept
          | apply kept_ite) | split
theorem freewheelOrClose_kept (n : Nat) (src : Src) (s : State) (hk : Kept q s) :
    Kept q (freewheelOrClose n src s) := by
  unfold freewheelOrClose
  repeat'
    first
      | (with_reducible first
          | intro _ | assumption | apply State.modChan_kept | apply finishClosing_kept | apply kept_foldl
          | apply kept_ite) | simp only [kept_update] | split
theorem startTurnOn_kept (n : Nat) (s : State) (hk : Kept q s) :
    Kept q (startTurnOn n s) := by
  unfold startTurnOn
  repeat'
    first
      | (with_reducible first
          | intro _ | assumption | apply State.modChan_kept | apply coolInstead_kept | apply freewheelOrClose_kept
          | apply kept_ite) | simp only [kept_update] | split
theorem chOn_kept (n : Nat) (v : Word) (s : State) (hk : Kept q s) :
    Kept q (chOn n v s) := by
  unfold chOn
  repeat'
    first
      | (with_reducible first
          | intro _ | assumption | apply State.modChan_kept | apply refuseCh_kept | apply changeGroup_kept
          | apply startTurnOn_kept | apply kept_foldl | apply kept_ite)
      | (extract_lets +onlyGivenNames x; first | (refine kept_cut (q := q) (x := x) ?_ ?_ <;> [(unfold x; clear x); (intro hx; clear_value x)]) | clear_value x)
      | simp only [kept_update] | split
theorem chOff_kept (n : Nat) (s : State) (hk : Kept q s) :
    Kept q (chOff n s) := by
  unfold chOff
  repeat'
    first
      | (with_reducible first
          | intro _ | assumption | apply changeGroup_kept | apply kept_ite)
      | (extract_lets +onlyGivenNames x; first | (refine kept_cut (q := q) (x := x) ?_ ?_ <;> [(unfold x; clear x); (intro hx; clear_value x)]) | clear_value x)
      | simp only [kept_update] | split
theorem chClear_kept (n : Nat) (v : Word) (s : State) (hk : Kept q s) :
    Kept q (chClear n v s) := by
  unfold chClear
  repeat'
    first
      | (with_reducible first
          | intro _ | assumption | apply refuseCh_kept | apply changeGroup_kept | apply kept_ite)
      | (extract_lets +onlyGivenNames x; first | (refine kept_cut (q := q) (x := x) ?_ ?_ <;> [(unfold x; clear x); (intro hx; clear_value x)]) | clear_value x)
      | simp only [kept_update] | split
theorem chProbe_kept (n : Nat) (s : State) (hk : Kept q s) :
    Kept q (chProbe n s) := by
  unfold chProbe
  repeat'
    first
      | (with_reducible first
          | intro _ | assumption | apply State.modChan_kept | apply kept_ite) | simp only [kept_update] | split
theorem chCtl_kept (n : Nat) (v : Word) (s : State) (hk : Kept q s) :
    Kept q (chCtl n v s) := by
  unfold chCtl
  repeat'
    first
      | (with_reducible first
          | intro _ | assumption | apply chOn_kept | apply chOff_kept | apply chClear_kept | apply chProbe_kept
          | apply kept_ite)
      | (extract_lets +onlyGivenNames x; first | (refine kept_cut (q := q) (x := x) ?_ ?_ <;> [(unfold x; clear x); (intro hx; clear_value x)]) | clear_value x)
      | split
theorem chCfgWrite_kept (n : Nat) (v : Word) (s : State) (hk : Kept q s) :
    Kept q (chCfgWrite n v s) := by
  unfold chCfgWrite
  repeat'
    first
      | (with_reducible first
          | intro _ | assumption | apply State.modChan_kept | apply State.setLive_kept | apply refuseCh_kept
          | apply kept_ite)
      | (extract_lets +onlyGivenNames x; first | (refine kept_cut (q := q) (x := x) ?_ ?_ <;> [(unfold x; clear x); (intro hx; clear_value x)]) | clear_value x)
      | simp only [kept_update] | split
theorem firstProbeEnd_kept (n : Nat) (vOff vProbe : Word) (s : State) (hk : Kept q s) :
    Kept q (firstProbeEnd n vOff vProbe s) := by
  unfold firstProbeEnd
  repeat'
    first
      | (with_reducible first
          | intro _ | assumption | apply State.modChan_kept | apply reportCh_kept | apply freewheelOrClose_kept
          | apply kept_ite)
      | (extract_lets +onlyGivenNames x; first | (refine kept_cut (q := q) (x := x) ?_ ?_ <;> [(unfold x; clear x); (intro hx; clear_value x)]) | clear_value x)
      | simp only [kept_update] | split
theorem freewheelEnd_kept (n : Nat) (vNeg : Word) (s : State) (hk : Kept q s) :
    Kept q (freewheelEnd n vNeg s) := by
  unfold freewheelEnd
  repeat'
    first
      | (with_reducible first
          | intro _ | assumption | apply State.modChan_kept | apply changeOne_kept | apply finishClosing_kept
          | apply kept_foldl | apply kept_ite)
      | (extract_lets +onlyGivenNames x; first | (refine kept_cut (q := q) (x := x) ?_ ?_ <;> [(unfold x; clear x); (intro hx; clear_value x)]) | clear_value x)
      | simp only [kept_update] | split
theorem retryOffEnd_kept (n : Nat) (s : State) (hk : Kept q s) :
    Kept q (retryOffEnd n s) := by
  unfold retryOffEnd
  repeat'
    first
      | (with_reducible first
          | intro _ | assumption | apply State.modChan_kept | apply changeGroup_kept | apply kept_foldl
          | apply kept_ite)
      | (extract_lets +onlyGivenNames x; first | (refine kept_cut (q := q) (x := x) ?_ ?_ <;> [(unfold x; clear x); (intro hx; clear_value x)]) | clear_value x)
      | simp only [kept_update] | split
theorem inrushEnd_kept (n : Nat) (s : State) (hk : Kept q s) :
    Kept q (inrushEnd n s) := by
  unfold inrushEnd
  repeat'
    first
      | (with_reducible first
          | intro _ | assumption | apply State.modChan_kept | apply kept_foldl) | simp only [kept_update]
theorem silenceChan_kept (n : Nat) (s : State) (hk : Kept q s) :
    Kept q (silenceChan n s) := by
  unfold silenceChan
  repeat'
    first
      | (with_reducible first
          | intro _ | assumption | apply State.modChan_kept | apply reportChAs_kept)
      | (extract_lets +onlyGivenNames x; first | (refine kept_cut (q := q) (x := x) ?_ ?_ <;> [(unfold x; clear x); (intro hx; clear_value x)]) | clear_value x)
      | simp only [kept_update] | split
theorem tileSilence_kept (t : Nat) (s : State) (hk : Kept q s) :
    Kept q (tileSilence t s) := by
  unfold tileSilence
  repeat'
    first
      | (with_reducible first
          | intro _ | assumption | apply State.modTgt_kept | apply silenceChan_kept | apply kept_foldl
          | apply kept_ite)
      | (extract_lets +onlyGivenNames x; first | (refine kept_cut (q := q) (x := x) ?_ ?_ <;> [(unfold x; clear x); (intro hx; clear_value x)]) | clear_value x)
      | simp only [kept_update] | split
theorem safeKeep_kept (n mode : Nat) (s : State) (hk : Kept q s) :
    Kept q (safeKeep n mode s) := by
  unfold safeKeep
  repeat'
    first
      | (with_reducible first
          | intro _ | assumption | apply changeGroup_kept) | simp only [kept_update]
theorem safeOpen_kept (n : Nat) (s : State) (hk : Kept q s) :
    Kept q (safeOpen n s) := by
  unfold safeOpen
  repeat'
    first
      | (with_reducible first
          | intro _ | assumption | apply changeGroup_kept) | simp only [kept_update]
theorem holdExpiry_kept (n : Nat) (s : State) (hk : Kept q s) :
    Kept q (holdExpiry n s) := by
  unfold holdExpiry
  repeat'
    first
      | (with_reducible first
          | intro _ | assumption | apply State.modChan_kept | apply closeSafe_kept | apply coolInstead_kept
          | apply freewheelOrClose_kept | apply safeKeep_kept | apply safeOpen_kept | apply kept_foldl
          | apply kept_ite)
      | (extract_lets +onlyGivenNames x; first | (refine kept_cut (q := q) (x := x) ?_ ?_ <;> [(unfold x; clear x); (intro hx; clear_value x)]) | clear_value x)
      | simp only [kept_update] | split
theorem claimChan_kept (n : Nat) (s : State) (hk : Kept q s) :
    Kept q (claimChan n s) := by
  unfold claimChan
  repeat'
    first
      | (with_reducible first
          | intro _ | assumption | apply State.modChan_kept | apply kept_ite) | simp only [kept_update] | split
theorem fullTileReport_kept (t : Nat) (s : State) (hk : Kept q s) :
    Kept q (fullTileReport t s) := by
  unfold fullTileReport
  repeat'
    first
      | (with_reducible first
          | intro _ | assumption | apply reportCh_kept | apply kept_foldl)
theorem resetTile_kept (t cause : Nat) (s : State) (hk : Kept q s) :
    Kept q (resetTile t cause s) := by
  unfold resetTile
  repeat'
    first
      | (with_reducible first
          | intro _ | assumption | apply State.modChan_kept | apply State.modTgt_kept | apply State.clearLive_kept
          | apply present_kept | apply kept_foldl | apply kept_ite)
      | (extract_lets +onlyGivenNames x; first | (refine kept_cut (q := q) (x := x) ?_ ?_ <;> [(unfold x; clear x); (intro hx; clear_value x)]) | clear_value x)
      | simp only [kept_update] | split
theorem chWrite_kept (n off : Nat) (v : Word) (s : State) (hk : Kept q s) :
    Kept q (chWrite n off v s) := by
  unfold chWrite
  repeat'
    first
      | (with_reducible first
          | intro _ | assumption | apply State.modChan_kept | apply State.setLive_kept | apply startWire_kept
          | apply refuseCh_kept | apply chCtl_kept | apply chCfgWrite_kept | apply kept_foldl | apply kept_ite)
      | (extract_lets +onlyGivenNames x; first | (refine kept_cut (q := q) (x := x) ?_ ?_ <;> [(unfold x; clear x); (intro hx; clear_value x)]) | clear_value x)
      | simp only [kept_update] | split
theorem ambWrite_kept (t : Nat) (v : Word) (s : State) (hk : Kept q s) :
    Kept q (ambWrite t v s) := by
  unfold ambWrite
  repeat'
    first
      | (with_reducible first
          | intro _ | assumption | apply State.setLive_kept | apply wireWarn_kept | apply kept_foldl | apply kept_ite)
      | (extract_lets +onlyGivenNames x; first | (refine kept_cut (q := q) (x := x) ?_ ?_ <;> [(unfold x; clear x); (intro hx; clear_value x)]) | clear_value x)
      | split
theorem tileRegWrite_kept (t off : Nat) (v : Word) (s : State) (hk : Kept q s) :
    Kept q (tileRegWrite t off v s) := by
  unfold tileRegWrite
  repeat'
    first
      | (with_reducible first
          | intro _ | assumption | apply State.setLive_kept | apply refuseTile_kept | apply resetTile_kept
          | apply ambWrite_kept | apply kept_ite)
      | (extract_lets +onlyGivenNames x; first | (refine kept_cut (q := q) (x := x) ?_ ?_ <;> [(unfold x; clear x); (intro hx; clear_value x)]) | clear_value x)
      | split
theorem tileApply_kept (a : Nat) (v : Word) (s : State) (hk : Kept q s) :
    Kept q (tileApply a v s) := by
  unfold tileApply
  repeat'
    first
      | (with_reducible first
          | intro _ | assumption | apply refuseCh_kept | apply chWrite_kept | apply tileRegWrite_kept
          | apply kept_ite)
      | (extract_lets +onlyGivenNames x; first | (refine kept_cut (q := q) (x := x) ?_ ?_ <;> [(unfold x; clear x); (intro hx; clear_value x)]) | clear_value x)
      | split
theorem execChOn_kept (n : Fin 176) (s : State) (hk : Kept q s) :
    KeptO q (execChOn n s) := by
  unfold execChOn
  repeat'
    first
      | (with_reducible first
          | intro _ | assumption | apply chOn_kept | apply kept_ite | apply keptO_ite | apply keptO_next) | split
theorem execChOff_kept (n : Fin 176) (s : State) (hk : Kept q s) :
    KeptO q (execChOff n s) := by
  unfold execChOff
  repeat'
    first
      | (with_reducible first
          | intro _ | assumption | apply chOff_kept | apply kept_ite | apply keptO_ite | apply keptO_next) | split
theorem execChClear_kept (n : Fin 176) (s : State) (hk : Kept q s) :
    KeptO q (execChClear n s) := by
  unfold execChClear
  repeat'
    first
      | (with_reducible first
          | intro _ | assumption | apply chClear_kept | apply kept_ite | apply keptO_ite | apply keptO_next) | split
theorem execChProbe_kept (n : Fin 176) (s : State) (hk : Kept q s) :
    KeptO q (execChProbe n s) := by
  unfold execChProbe
  repeat'
    first
      | (with_reducible first
          | intro _ | assumption | apply chProbe_kept | apply kept_ite | apply keptO_ite | apply keptO_next) | split
theorem execChCfgWrite_kept (n : Fin 176) (v : Word) (s : State) (hk : Kept q s) :
    KeptO q (execChCfgWrite n v s) := by
  unfold execChCfgWrite
  repeat'
    first
      | (with_reducible first
          | intro _ | assumption | apply tileApply_kept | apply kept_ite | apply keptO_ite | apply keptO_next) | split
theorem execFirstTurnOnProbeEnd_kept (n : Fin 176) (vOff vProbe : Word) (s : State) (hk : Kept q s) :
    KeptO q (execFirstTurnOnProbeEnd n vOff vProbe s) := by
  unfold execFirstTurnOnProbeEnd
  repeat'
    first
      | (with_reducible first
          | intro _ | assumption | apply firstProbeEnd_kept | apply keptO_next)
theorem execFreewheelProbeEnd_kept (n : Fin 176) (vNeg : Word) (s : State) (hk : Kept q s) :
    KeptO q (execFreewheelProbeEnd n vNeg s) := by
  unfold execFreewheelProbeEnd
  repeat'
    first
      | (with_reducible first
          | intro _ | assumption | apply freewheelEnd_kept | apply keptO_next)
theorem execRetryOffTimeEnd_kept (n : Fin 176) (s : State) (hk : Kept q s) :
    KeptO q (execRetryOffTimeEnd n s) := by
  unfold execRetryOffTimeEnd
  repeat'
    first
      | (with_reducible first
          | intro _ | assumption | apply retryOffEnd_kept | apply keptO_next)
theorem execInrushWindowEnd_kept (n : Fin 176) (s : State) (hk : Kept q s) :
    KeptO q (execInrushWindowEnd n s) := by
  unfold execInrushWindowEnd
  repeat'
    first
      | (with_reducible first
          | intro _ | assumption | apply inrushEnd_kept | apply keptO_next)
theorem execTileSilent_kept (t : Fin 11) (s : State) (hk : Kept q s) :
    KeptO q (execTileSilent t s) := by
  unfold execTileSilent
  repeat'
    first
      | (with_reducible first
          | intro _ | assumption | apply tileSilence_kept | apply keptO_next)
theorem execHoldTimeExpiry_kept (n : Fin 176) (s : State) (hk : Kept q s) :
    KeptO q (execHoldTimeExpiry n s) := by
  unfold execHoldTimeExpiry
  repeat'
    first
      | (with_reducible first
          | intro _ | assumption | apply holdExpiry_kept | apply keptO_next)
/-! ### Protect -/
theorem groupSample_kept (n : Nat) (s : State) (hk : Kept q s) :
    Kept q (groupSample n s) := by
  unfold groupSample
  repeat'
    first
      | (with_reducible first
          | intro _ | assumption | apply State.modChan_kept | apply kept_foldl | apply kept_ite)
      | (extract_lets +onlyGivenNames x; first | (refine kept_cut (q := q) (x := x) ?_ ?_ <;> [(unfold x; clear x); (intro hx; clear_value x)]) | clear_value x)
      | simp only [kept_update] | split
theorem takeSample_kept (n : Nat) (fine coarse : Word) (limited : Bool) (s : State) (hk : Kept q s) :
    Kept q (takeSample n fine coarse limited s) := by
  unfold takeSample
  repeat'
    first
      | (with_reducible first
          | intro _ | assumption | apply State.modChan_kept | apply reportCh_kept | apply groupSample_kept
          | apply kept_ite)
      | (extract_lets +onlyGivenNames x; first | (refine kept_cut (q := q) (x := x) ?_ ?_ <;> [(unfold x; clear x); (intro hx; clear_value x)]) | clear_value x)
      | simp only [kept_update] | split
theorem tripOrRetry_kept (n code bit latch : Nat) (mayRetry : Bool) (arg1 : Word) (s : State) (hk : Kept q s) :
    Kept q (tripOrRetry n code bit latch mayRetry arg1 s) := by
  unfold tripOrRetry
  repeat'
    first
      | (with_reducible first
          | intro _ | assumption | apply State.modChan_kept | apply reportCh_kept | apply changeGroup_kept
          | apply kept_ite)
      | (extract_lets +onlyGivenNames x; first | (refine kept_cut (q := q) (x := x) ?_ ?_ <;> [(unfold x; clear x); (intro hx; clear_value x)]) | clear_value x)
      | simp only [kept_update] | split
theorem shortTrip_kept (n : Nat) (s : State) (hk : Kept q s) :
    Kept q (shortTrip n s) := by
  unfold shortTrip
  repeat'
    first
      | (with_reducible first
          | intro _ | assumption | apply tripOrRetry_kept | apply kept_ite)
      | (extract_lets +onlyGivenNames x; first | (refine kept_cut (q := q) (x := x) ?_ ?_ <;> [(unfold x; clear x); (intro hx; clear_value x)]) | clear_value x)
      | split
theorem overTrip_kept (n : Nat) (s : State) (hk : Kept q s) :
    Kept q (overTrip n s) := by
  unfold overTrip
  repeat'
    first
      | (with_reducible first
          | intro _ | assumption | apply tripOrRetry_kept | apply kept_ite)
      | (extract_lets +onlyGivenNames x; first | (refine kept_cut (q := q) (x := x) ?_ ?_ <;> [(unfold x; clear x); (intro hx; clear_value x)]) | clear_value x)
      | split
theorem reverseChange_kept (n : Nat) (s : State) (hk : Kept q s) :
    Kept q (reverseChange n s) := by
  unfold reverseChange
  repeat'
    first
      | (with_reducible first
          | intro _ | assumption | apply State.modChan_kept | apply reportCh_kept | apply kept_ite)
      | (extract_lets +onlyGivenNames x; first | (refine kept_cut (q := q) (x := x) ?_ ?_ <;> [(unfold x; clear x); (intro hx; clear_value x)]) | clear_value x)
      | simp only [kept_update] | split
theorem latchTrip_kept (n code latch : Nat) (arg1 : Word) (s : State) (hk : Kept q s) :
    Kept q (latchTrip n code latch arg1 s) := by
  unfold latchTrip
  repeat'
    first
      | (with_reducible first
          | intro _ | assumption | apply reportCh_kept | apply changeGroup_kept | apply kept_ite)
      | (extract_lets +onlyGivenNames x; first | (refine kept_cut (q := q) (x := x) ?_ ?_ <;> [(unfold x; clear x); (intro hx; clear_value x)]) | clear_value x)
      | split
theorem wireTrip_kept (n : Nat) (s : State) (hk : Kept q s) :
    Kept q (wireTrip n s) := by
  unfold wireTrip
  repeat'
    first
      | (with_reducible first
          | intro _ | assumption | apply State.modChan_kept | apply latchTrip_kept)
      | (extract_lets +onlyGivenNames x; first | (refine kept_cut (q := q) (x := x) ?_ ?_ <;> [(unfold x; clear x); (intro hx; clear_value x)]) | clear_value x)
      | simp only [kept_update]
theorem wireUpdate_kept (n : Nat) (s : State) (hk : Kept q s) :
    Kept q (wireUpdate n s) := by
  unfold wireUpdate
  repeat'
    first
      | (with_reducible first
          | intro _ | assumption | apply State.modChan_kept | apply wireWarn_kept | apply wireTrip_kept
          | apply kept_ite)
      | (extract_lets +onlyGivenNames x; first | (refine kept_cut (q := q) (x := x) ?_ ?_ <;> [(unfold x; clear x); (intro hx; clear_value x)]) | clear_value x)
      | simp only [kept_update] | split
theorem hotSet_kept (n code : Nat) (arg1 : Word) (f : Chan → Chan) (s : State) (hk : Kept q s) :
    Kept q (hotSet n code arg1 f s) := by
  unfold hotSet
  repeat'
    first
      | (with_reducible first
          | intro _ | assumption | apply State.modChan_kept | apply reportCh_kept | apply changeGroup_kept
          | apply kept_ite)
      | (extract_lets +onlyGivenNames x; first | (refine kept_cut (q := q) (x := x) ?_ ?_ <;> [(unfold x; clear x); (intro hx; clear_value x)]) | clear_value x)
      | simp only [kept_update] | split
theorem coolRelease_kept (n : Nat) (temp : Word) (s : State) (hk : Kept q s) :
    Kept q (coolRelease n temp s) := by
  unfold coolRelease
  repeat'
    first
      | (with_reducible first
          | intro _ | assumption | apply changeGroup_kept | apply kept_ite)
      | (extract_lets +onlyGivenNames x; first | (refine kept_cut (q := q) (x := x) ?_ ?_ <;> [(unfold x; clear x); (intro hx; clear_value x)]) | clear_value x)
      | simp only [kept_update] | split
theorem dtSet_kept (n : Nat) (temp : Word) (s : State) (hk : Kept q s) :
    Kept q (dtSet n temp s) := by
  unfold dtSet
  repeat'
    first
      | (with_reducible first
          | intro _ | assumption | apply hotSet_kept | apply kept_ite) | simp only [kept_update] | split
theorem dtClear_kept (n : Nat) (temp : Word) (s : State) (hk : Kept q s) :
    Kept q (dtClear n temp s) := by
  unfold dtClear
  repeat'
    first
      | (with_reducible first
          | intro _ | assumption | apply State.modChan_kept | apply coolRelease_kept | apply kept_ite)
      | simp only [kept_update] | split
theorem junctionSet_kept (n : Nat) (temp : Word) (s : State) (hk : Kept q s) :
    Kept q (junctionSet n temp s) := by
  unfold junctionSet
  repeat'
    first
      | (with_reducible first
          | intro _ | assumption | apply hotSet_kept | apply kept_ite) | simp only [kept_update] | split
theorem junctionClear_kept (n : Nat) (temp : Word) (s : State) (hk : Kept q s) :
    Kept q (junctionClear n temp s) := by
  unfold junctionClear
  repeat'
    first
      | (with_reducible first
          | intro _ | assumption | apply State.modChan_kept | apply coolRelease_kept | apply kept_ite)
      | simp only [kept_update] | split
theorem sensorFailed_kept (n : Nat) (s : State) (hk : Kept q s) :
    Kept q (sensorFailed n s) := by
  unfold sensorFailed
  repeat'
    first
      | (with_reducible first
          | intro _ | assumption | apply hotSet_kept) | simp only [kept_update]
theorem arcWindow_kept {z : List Instr} (t : Nat) (q : Bool) (m : ArcMeasure) (s : State) (hk : Kept z s) :
    Kept z (arcWindow t q m s) := by
  unfold arcWindow
  repeat'
    first
      | (with_reducible first
          | intro _ | assumption | apply State.modChan_kept | apply reportCh_kept | apply latchTrip_kept
          | apply kept_ite)
      | (extract_lets +onlyGivenNames x; first | (refine kept_cut (q := z) (x := x) ?_ ?_ <;> [(unfold x; clear x); (intro hx; clear_value x)]) | clear_value x)
      | simp only [kept_update] | split
theorem feedArcMark_kept {z : List Instr} (t half q : Nat) (s : State) (hk : Kept z s) :
    Kept z (feedArcMark t half q s) := by
  unfold feedArcMark
  repeat'
    first
      | (with_reducible first
          | intro _ | assumption | apply State.setLive_kept | apply reportCh_kept)
      | (extract_lets +onlyGivenNames x; first | (refine kept_cut (q := z) (x := x) ?_ ?_ <;> [(unfold x; clear x); (intro hx; clear_value x)]) | clear_value x)
theorem arcHalf_kept (t half : Nat) (ws : List (ArcMeasure × Bool)) (s : State) (hk : Kept q s) :
    Kept q (arcHalf t half ws s) := by
  unfold arcHalf
  repeat'
    first
      | (with_reducible first
          | intro _ | assumption | apply arcWindow_kept | apply feedArcMark_kept | apply kept_foldl | apply kept_ite)
      | (extract_lets +onlyGivenNames x; first | (refine kept_cut (q := q) (x := x) ?_ ?_ <;> [(unfold x; clear x); (intro hx; clear_value x)]) | clear_value x)
      | split
theorem arcRestart_kept (t : Nat) (s : State) (hk : Kept q s) :
    Kept q (arcRestart t s) := by
  unfold arcRestart
  repeat'
    first
      | (with_reducible first
          | intro _ | assumption | apply State.modChan_kept | apply kept_foldl) | simp only [kept_update]
theorem backfedSample_kept (n : Nat) (v : Word) (settled : Bool) (s : State) (hk : Kept q s) :
    Kept q (backfedSample n v settled s) := by
  unfold backfedSample
  repeat'
    first
      | (with_reducible first
          | intro _ | assumption | apply State.modChan_kept | apply reportCh_kept | apply kept_ite)
      | (extract_lets +onlyGivenNames x; first | (refine kept_cut (q := q) (x := x) ?_ ?_ <;> [(unfold x; clear x); (intro hx; clear_value x)]) | clear_value x)
      | simp only [kept_update] | split
theorem openLoadResult_kept (n : Nat) (v : Word) (s : State) (hk : Kept q s) :
    Kept q (openLoadResult n v s) := by
  unfold openLoadResult
  repeat'
    first
      | (with_reducible first
          | intro _ | assumption | apply State.modChan_kept | apply reportCh_kept | apply kept_ite)
      | (extract_lets +onlyGivenNames x; first | (refine kept_cut (q := q) (x := x) ?_ ?_ <;> [(unfold x; clear x); (intro hx; clear_value x)]) | clear_value x)
      | simp only [kept_update] | split
theorem imbalanceChange_kept (n : Nat) (outside : Bool) (s : State) (hk : Kept q s) :
    Kept q (imbalanceChange n outside s) := by
  unfold imbalanceChange
  repeat'
    first
      | (with_reducible first
          | intro _ | assumption | apply State.modChan_kept | apply reportCh_kept | apply kept_ite)
      | simp only [kept_update] | split
theorem pairImbalanceRecord_kept (n : Nat) (s : State) (hk : Kept q s) :
    Kept q (pairImbalanceRecord n s) := by
  unfold pairImbalanceRecord
  repeat'
    first
      | (with_reducible first
          | intro _ | assumption | apply laneRecord_kept | apply kept_ite)
      | (extract_lets +onlyGivenNames x; first | (refine kept_cut (q := q) (x := x) ?_ ?_ <;> [(unfold x; clear x); (intro hx; clear_value x)]) | clear_value x)
      | split
theorem journalLife_kept (s : State) (hk : Kept q s) :
    Kept q (journalLife s) := by
  unfold journalLife
  repeat'
    first
      | (with_reducible first
          | intro _ | assumption | apply State.mapLanes_kept | apply kept_ite) | simp only [kept_update] | split
theorem updateImages_kept (s : State) (hk : Kept q s) :
    Kept q (updateImages s) := by
  unfold updateImages
  repeat'
    first
      | (with_reducible first
          | intro _ | assumption | apply State.mapLanes_kept | apply kept_ite) | simp only [kept_update] | split
theorem execShortCircuit_kept (n : Fin 176) (s : State) (hk : Kept q s) :
    KeptO q (execShortCircuit n s) := by
  unfold execShortCircuit
  repeat'
    first
      | (with_reducible first
          | intro _ | assumption | apply shortTrip_kept | apply keptO_next)
theorem execCurrentSample_kept (n : Fin 176) (fine coarse : Word) (limited : Bool) (s : State) (hk : Kept q s) :
    KeptO q (execCurrentSample n fine coarse limited s) := by
  unfold execCurrentSample
  repeat'
    first
      | (with_reducible first
          | intro _ | assumption | apply takeSample_kept | apply keptO_next)
theorem execOvercurrent_kept (n : Fin 176) (s : State) (hk : Kept q s) :
    KeptO q (execOvercurrent n s) := by
  unfold execOvercurrent
  repeat'
    first
      | (with_reducible first
          | intro _ | assumption | apply overTrip_kept | apply keptO_next)
theorem execReverse_kept (n : Fin 176) (s : State) (hk : Kept q s) :
    KeptO q (execReverse n s) := by
  unfold execReverse
  repeat'
    first
      | (with_reducible first
          | intro _ | assumption | apply reverseChange_kept | apply keptO_next)
theorem execWireModelUpdate_kept (n : Fin 176) (s : State) (hk : Kept q s) :
    KeptO q (execWireModelUpdate n s) := by
  unfold execWireModelUpdate
  repeat'
    first
      | (with_reducible first
          | intro _ | assumption | apply wireUpdate_kept | apply keptO_next)
theorem execDt_kept (n : Fin 176) (temp : Word) (s : State) (hk : Kept q s) :
    KeptO q (execDt n temp s) := by
  unfold execDt
  repeat'
    first
      | (with_reducible first
          | intro _ | assumption | apply dtSet_kept | apply keptO_next)
theorem execDtRelease_kept (n : Fin 176) (temp : Word) (s : State) (hk : Kept q s) :
    KeptO q (execDtRelease n temp s) := by
  unfold execDtRelease
  repeat'
    first
      | (with_reducible first
          | intro _ | assumption | apply dtClear_kept | apply keptO_next)
theorem execJunction_kept (n : Fin 176) (temp : Word) (s : State) (hk : Kept q s) :
    KeptO q (execJunction n temp s) := by
  unfold execJunction
  repeat'
    first
      | (with_reducible first
          | intro _ | assumption | apply junctionSet_kept | apply keptO_next)
theorem execJunctionRelease_kept (n : Fin 176) (temp : Word) (s : State) (hk : Kept q s) :
    KeptO q (execJunctionRelease n temp s) := by
  unfold execJunctionRelease
  repeat'
    first
      | (with_reducible first
          | intro _ | assumption | apply junctionClear_kept | apply keptO_next)
theorem execCaseDiff_kept (t : Fin 11) (diff : Word) (s : State) (hk : Kept q s) :
    KeptO q (execCaseDiff t diff s) := by
  unfold execCaseDiff
  repeat'
    first
      | (with_reducible first
          | intro _ | assumption | apply State.setLive_kept | apply reportCh_kept | apply keptO_next)
      | (extract_lets +onlyGivenNames x; first | (refine kept_cut (q := q) (x := x) ?_ ?_ <;> [(unfold x; clear x); (intro hx; clear_value x)]) | clear_value x)
theorem execSensorFail_kept (n : Fin 176) (s : State) (hk : Kept q s) :
    KeptO q (execSensorFail n s) := by
  unfold execSensorFail
  repeat'
    first
      | (with_reducible first
          | intro _ | assumption | apply sensorFailed_kept | apply keptO_next)
theorem execArcWindowEnd_kept (t : Fin 11) (ms : List ArcMeasure) (s : State) (hk : Kept q s) :
    KeptO q (execArcWindowEnd t ms s) := by
  unfold execArcWindowEnd
  repeat'
    first
      | (with_reducible first
          | intro _ | assumption | apply arcHalf_kept | apply arcRestart_kept | apply keptO_next)
theorem execBackfedEval_kept (n : Fin 176) (v : Word) (settled : Bool) (s : State) (hk : Kept q s) :
    KeptO q (execBackfedEval n v settled s) := by
  unfold execBackfedEval
  repeat'
    first
      | (with_reducible first
          | intro _ | assumption | apply backfedSample_kept | apply keptO_next)
theorem execOpenLoadProbe_kept (n : Fin 176) (v : Word) (s : State) (hk : Kept q s) :
    KeptO q (execOpenLoadProbe n v s) := by
  unfold execOpenLoadProbe
  repeat'
    first
      | (with_reducible first
          | intro _ | assumption | apply openLoadResult_kept | apply keptO_next)
theorem execImbalance_kept (n : Fin 176) (outside : Bool) (s : State) (hk : Kept q s) :
    KeptO q (execImbalance n outside s) := by
  unfold execImbalance
  repeat'
    first
      | (with_reducible first
          | intro _ | assumption | apply imbalanceChange_kept | apply keptO_next)
theorem execPairImbalance_kept (n : Fin 176) (s : State) (hk : Kept q s) :
    KeptO q (execPairImbalance n s) := by
  unfold execPairImbalance
  repeat'
    first
      | (with_reducible first
          | intro _ | assumption | apply pairImbalanceRecord_kept | apply keptO_next)
theorem execLifetimeJournal_kept (s : State) (hk : Kept q s) :
    KeptO q (execLifetimeJournal s) := by
  unfold execLifetimeJournal
  repeat'
    first
      | (with_reducible first
          | intro _ | assumption | apply journalLife_kept | apply keptO_next)
/-! ### Meas -/
theorem postEvent_kept (idx kind pos : Nat) (w1 : Word) (s : State) (hk : Kept q s) :
    Kept q (postEvent idx kind pos w1 s) := by
  unfold postEvent
  repeat'
    first
      | (with_reducible first
          | intro _ | assumption | apply State.setCopy_kept | apply kept_ite)
      | (extract_lets +onlyGivenNames x; first | (refine kept_cut (q := q) (x := x) ?_ ?_ <;> [(unfold x; clear x); (intro hx; clear_value x)]) | clear_value x)
      | split
theorem countLost_kept (f : State → State) (s : State) (hf : ∀ s, Kept q s → Kept q (f s)) (hk : Kept q s) :
    Kept q (countLost f s) := by
  unfold countLost
  have := hf s hk
  dsimp only
  repeat' first | with_reducible assumption | with_reducible apply laneRecord_kept | with_reducible apply kept_ite
theorem compSample_kept (i : Nat) (p : Nat × Word) (s : State) (hk : Kept q s) :
    Kept q (compSample i p s) := by
  unfold compSample
  repeat'
    first
      | (with_reducible first
          | intro _ | assumption | apply State.setComp_kept | apply State.setCopy_kept | apply postEvent_kept
          | apply kept_ite)
      | (extract_lets +onlyGivenNames x; first | (refine kept_cut (q := q) (x := x) ?_ ?_ <;> [(unfold x; clear x); (intro hx; clear_value x)]) | clear_value x)
      | split
theorem compBlock_kept (blk : List Word) (s : State) (hk : Kept q s) :
    Kept q (compBlock blk s) := by
  unfold compBlock
  repeat'
    first
      | (with_reducible first
          | intro _ | assumption | apply compSample_kept | apply kept_foldl | apply kept_ite) | split
theorem latestValues_kept (blk : List Word) (s : State) (hk : Kept q s) :
    Kept q (latestValues blk s) := by
  unfold latestValues
  repeat'
    first
      | (with_reducible first
          | intro _ | assumption | apply State.setCopy_kept | apply kept_foldl)
      | (extract_lets +onlyGivenNames x; first | (refine kept_cut (q := q) (x := x) ?_ ?_ <;> [(unfold x; clear x); (intro hx; clear_value x)]) | clear_value x)
      | split
theorem fabricRecords_kept (first : Bool) (blk : List Word) (s : State) (hk : Kept q s) :
    Kept q (fabricRecords first blk s) := by
  unfold fabricRecords
  repeat'
    first
      | (with_reducible first
          | intro _ | assumption | apply laneRecord_kept | apply kept_ite)
      | (extract_lets +onlyGivenNames x; first | (refine kept_cut (q := q) (x := x) ?_ ?_ <;> [(unfold x; clear x); (intro hx; clear_value x)]) | clear_value x)
      | split
theorem measStatus_kept (blk : List Word) (s : State) (hk : Kept q s) :
    Kept q (measStatus blk s) := by
  unfold measStatus
  repeat'
    first
      | (with_reducible first
          | intro _ | assumption | apply State.setCopy_kept)
      | (extract_lets +onlyGivenNames x; first | (refine kept_cut (q := q) (x := x) ?_ ?_ <;> [(unfold x; clear x); (intro hx; clear_value x)]) | clear_value x)
theorem sigDrop_kept (k reason : Nat) (s : State) (hk : Kept q s) :
    Kept q (sigDrop k reason s) := by
  unfold sigDrop
  repeat'
    first
      | (with_reducible first
          | intro _ | assumption | apply State.setSlot_kept | apply kept_ite) | simp only [kept_update] | split
theorem sigFlush_kept (k : Nat) (s : State) (hk : Kept q s) :
    Kept q (sigFlush k s) := by
  unfold sigFlush
  repeat'
    first
      | (with_reducible first
          | intro _ | assumption | apply State.setSlot_kept | apply postEvent_kept) | simp only [kept_update] | split
theorem sigFlushAll_kept (s : State) (hk : Kept q s) :
    Kept q (sigFlushAll s) := by
  unfold sigFlushAll
  repeat'
    first
      | (with_reducible first
          | intro _ | assumption | apply countLost_kept | apply sigFlush_kept | apply kept_foldl | apply kept_ite)
      | split
theorem blockOrder_kept (frame : Nat) (blk : List Word) (s : State) (hk : Kept q s) :
    Kept q (blockOrder frame blk s) := by
  unfold blockOrder
  dsimp only
  repeat'
    first
      | (with_reducible first
          | intro _ | assumption | apply State.setCopy_kept | apply laneRecord_kept | apply sigDrop_kept
          | apply kept_foldl | apply kept_ite)
      | (extract_lets +onlyGivenNames x; first | (refine kept_cut (q := q) (x := x) ?_ ?_ <;> [(unfold x; clear x); (intro hx; clear_value x)]) | clear_value x)
      | simp only [kept_update] | split
theorem sigFinish_kept (k : Nat) (pts : List Word) (s : State) (hk : Kept q s) :
    Kept q (sigFinish k pts s) := by
  unfold sigFinish
  repeat'
    first
      | (with_reducible first
          | intro _ | assumption | apply State.setSlot_kept | apply State.setCopy_kept | apply postEvent_kept
          | apply kept_foldl | apply kept_ite)
      | (extract_lets +onlyGivenNames x; first | (refine kept_cut (q := q) (x := x) ?_ ?_ <;> [(unfold x; clear x); (intro hx; clear_value x)]) | clear_value x)
      | simp only [kept_update] | split
theorem sigStep_kept (k : Nat) (p : Nat × Word) (s : State) (hk : Kept q s) :
    Kept q (sigStep k p s) := by
  unfold sigStep
  repeat'
    first
      | (with_reducible first
          | intro _ | assumption | apply State.setSlot_kept | apply sigFinish_kept | apply kept_ite)
      | (extract_lets +onlyGivenNames x; first | (refine kept_cut (q := q) (x := x) ?_ ?_ <;> [(unfold x; clear x); (intro hx; clear_value x)]) | clear_value x)
      | simp only [kept_update] | split
theorem sigBlock_kept (blk : List Word) (s : State) (hk : Kept q s) :
    Kept q (sigBlock blk s) := by
  unfold sigBlock
  repeat'
    first
      | (with_reducible first
          | intro _ | assumption | apply State.setSlot_kept | apply sigFlush_kept | apply sigStep_kept
          | apply kept_foldl | apply kept_ite)
      | (extract_lets +onlyGivenNames x; first | (refine kept_cut (q := q) (x := x) ?_ ?_ <;> [(unfold x; clear x); (intro hx; clear_value x)]) | clear_value x)
      | simp only [kept_update] | split
theorem sigBegin_kept (n start : Nat) (s : State) (hk : Kept q s) :
    Kept q (sigBegin n start s) := by
  unfold sigBegin
  repeat'
    first
      | (with_reducible first
          | intro _ | assumption | apply State.setSlot_kept | apply sigDrop_kept | apply sigFlush_kept
          | apply sigStep_kept | apply kept_foldl | apply kept_ite)
      | (extract_lets +onlyGivenNames x; first | (refine kept_cut (q := q) (x := x) ?_ ?_ <;> [(unfold x; clear x); (intro hx; clear_value x)]) | clear_value x)
      | simp only [kept_update] | split
theorem sigLeft_kept (n : Nat) (s : State) (hk : Kept q s) :
    Kept q (sigLeft n s) := by
  unfold sigLeft
  repeat'
    first
      | (with_reducible first
          | intro _ | assumption | apply sigDrop_kept | apply sigFlushAll_kept | apply kept_foldl | apply kept_ite)
      | split
theorem ringWrite_kept (base size off : Nat) (ws : List Word) (s : State) (hk : Kept q s) :
    Kept q (ringWrite base size off ws s) := by
  unfold ringWrite
  repeat'
    first
      | (with_reducible first
          | intro _ | assumption | apply State.mapLanes_kept | apply kept_foldl | apply kept_ite)
      | simp only [kept_update] | split
theorem markGap_kept (x : Nat) (s : State) (hk : Kept q s) :
    Kept q (markGap x s) := by
  unfold markGap
  repeat'
    first
      | (with_reducible first
          | intro _ | assumption | apply State.setStream_kept | apply ringWrite_kept)
      | (extract_lets +onlyGivenNames x; first | (refine kept_cut (q := q) (x := x) ?_ ?_ <;> [(unfold x; clear x); (intro hx; clear_value x)]) | clear_value x)
      | simp only [kept_update] | split
theorem streamRecord_kept (x seq : Nat) (blk : List Word) (s : State) (hk : Kept q s) :
    Kept q (streamRecord x seq blk s) := by
  unfold streamRecord
  repeat'
    first
      | (with_reducible first
          | intro _ | assumption | apply State.setStream_kept | apply State.setCopy_kept | apply laneRecord_kept
          | apply ringWrite_kept | apply markGap_kept | apply kept_ite)
      | (extract_lets +onlyGivenNames x; first | (refine kept_cut (q := q) (x := x) ?_ ?_ <;> [(unfold x; clear x); (intro hx; clear_value x)]) | clear_value x)
      | simp only [kept_update] | split
theorem streamBlock_kept (seq : Nat) (blk : List Word) (s : State) (hk : Kept q s) :
    Kept q (streamBlock seq blk s) := by
  unfold streamBlock
  repeat'
    first
      | (with_reducible first
          | intro _ | assumption | apply streamRecord_kept | apply kept_foldl)
theorem measBlock_kept (seq frame : Nat) (blk : List Word) (s : State) (hk : Kept q s) :
    Kept q (measBlock seq frame blk s) := by
  unfold measBlock
  repeat'
    first
      | (with_reducible first
          | intro _ | assumption | apply countLost_kept | apply compBlock_kept | apply latestValues_kept
          | apply fabricRecords_kept | apply measStatus_kept | apply blockOrder_kept | apply sigBlock_kept
          | apply streamBlock_kept)
      | (extract_lets +onlyGivenNames x; first | (refine kept_cut (q := q) (x := x) ?_ ?_ <;> [(unfold x; clear x); (intro hx; clear_value x)]) | clear_value x)
theorem measWrite_kept (m a : Nat) (v : Word) (s : State) (hk : Kept q s) :
    Kept q (measWrite m a v s) := by
  unfold measWrite
  repeat'
    first
      | (with_reducible first
          | intro _ | assumption | apply writeRefused_kept | apply kept_ite)
      | (extract_lets +onlyGivenNames x; first | (refine kept_cut (q := q) (x := x) ?_ ?_ <;> [(unfold x; clear x); (intro hx; clear_value x)]) | clear_value x)
      | simp only [kept_update] | split
theorem envWritten_kept (a : Nat) (was : Word) (s : State) (hk : Kept q s) :
    Kept q (envWritten a was s) := by
  unfold envWritten
  repeat'
    first
      | (with_reducible first
          | intro _ | assumption | apply State.setSlot_kept | apply kept_ite)
      | (extract_lets +onlyGivenNames x; first | (refine kept_cut (q := q) (x := x) ?_ ?_ <;> [(unfold x; clear x); (intro hx; clear_value x)]) | clear_value x)
      | simp only [kept_update] | split
theorem measApply_kept (p : MeasWrite) (s : State) (hk : Kept q s) :
    Kept q (measApply p s) := by
  unfold measApply
  repeat'
    first
      | (with_reducible first
          | intro _ | assumption | apply State.setComp_kept | apply State.setSlot_kept | apply State.setStream_kept
          | apply State.setDma_kept | apply State.setCopy_kept | apply State.clearCopy_kept | apply sigDrop_kept
          | apply envWritten_kept | apply kept_ite)
      | (extract_lets +onlyGivenNames x; first | (refine kept_cut (q := q) (x := x) ?_ ?_ <;> [(unfold x; clear x); (intro hx; clear_value x)]) | clear_value x)
      | simp only [kept_update] | split
theorem measApplyAll_kept (s : State) (hk : Kept q s) :
    Kept q (measApplyAll s) := by
  unfold measApplyAll
  repeat'
    first
      | (with_reducible first
          | intro _ | assumption | apply measApply_kept | apply kept_foldl)
      | (extract_lets +onlyGivenNames x; first | (refine kept_cut (q := q) (x := x) ?_ ?_ <;> [(unfold x; clear x); (intro hx; clear_value x)]) | clear_value x)
      | simp only [kept_update]
theorem execSampleBlock_kept (raw : List Word) (late : Bool) (s : State) (hk : Kept q s) :
    KeptO q (execSampleBlock raw late s) := by
  unfold execSampleBlock
  repeat'
    first
      | (with_reducible first
          | intro _ | assumption | apply present_kept | apply kept_ite | apply keptO_ite | apply keptO_next)
      | (extract_lets +onlyGivenNames x; first | (refine kept_cut (q := q) (x := x) ?_ ?_ <;> [(unfold x; clear x); (intro hx; clear_value x)]) | clear_value x)
      | simp only [kept_update] | split
theorem execMuxReferenceCheck_kept (v : Fin 24) (good : Bool) (s : State) (hk : Kept q s) :
    KeptO q (execMuxReferenceCheck v good s) := by
  unfold execMuxReferenceCheck
  repeat'
    first
      | (with_reducible first
          | intro _ | assumption | apply kept_ite | apply keptO_ite | apply keptO_next)
      | (extract_lets +onlyGivenNames x; first | (refine kept_cut (q := q) (x := x) ?_ ?_ <;> [(unfold x; clear x); (intro hx; clear_value x)]) | clear_value x)
      | simp only [kept_update] | split
theorem modFault_kept (n : Nat) (s : State) (hk : Kept q s) :
    Kept q (modFault n s) := by
  unfold modFault
  repeat'
    first
      | (with_reducible first
          | intro _ | assumption | apply kept_ite) | simp only [kept_update] | split
theorem execModOffsetTrack_kept (n : Fin 176) (step : Int) (fail : Bool) (s : State) (hk : Kept q s) :
    KeptO q (execModOffsetTrack n step fail s) := by
  unfold execModOffsetTrack
  repeat'
    first
      | (with_reducible first
          | intro _ | assumption | apply modFault_kept | apply kept_ite | apply keptO_ite | apply keptO_next)
      | (extract_lets +onlyGivenNames x; first | (refine kept_cut (q := q) (x := x) ?_ ?_ <;> [(unfold x; clear x); (intro hx; clear_value x)]) | clear_value x)
      | simp only [kept_update] | split
/-! ### Fio -/
theorem reportDo_kept (o cause : Nat) (s : State) (hk : Kept q s) :
    Kept q (reportDo o cause s) := by
  unfold reportDo
  repeat'
    first
      | (with_reducible first
          | intro _ | assumption | apply State.modDout_kept | apply pushEntry_kept)
      | (extract_lets +onlyGivenNames x; first | (refine kept_cut (q := q) (x := x) ?_ ?_ <;> [(unfold x; clear x); (intro hx; clear_value x)]) | clear_value x)
      | simp only [kept_update]
theorem reportGrp_kept (g : Nat) (recs : List RecDraft) (s : State) (hk : Kept q s) :
    Kept q (reportGrp g recs s) := by
  unfold reportGrp
  repeat'
    first
      | (with_reducible first
          | intro _ | assumption | apply pushEntry_kept)
      | (extract_lets +onlyGivenNames x; first | (refine kept_cut (q := q) (x := x) ?_ ?_ <;> [(unfold x; clear x); (intro hx; clear_value x)]) | clear_value x)
      | simp only [kept_update]
theorem refuseFio_kept (obj off reason a : Nat) (v : Word) (s : State) (hk : Kept q s) :
    Kept q (refuseFio obj off reason a v s) := by
  unfold refuseFio
  repeat'
    first
      | (with_reducible first
          | intro _ | assumption | apply State.modTgt_kept) | simp only [kept_update]
theorem changeDo_kept (o cause : Nat) (f : Dout → Dout) (s : State) (hk : Kept q s) :
    Kept q (changeDo o cause f s) := by
  unfold changeDo
  repeat'
    first
      | (with_reducible first
          | intro _ | assumption | apply State.modDout_kept | apply reportDo_kept)
theorem fioOn_kept (o : Nat) (v : Word) (s : State) (hk : Kept q s) :
    Kept q (fioOn o v s) := by
  unfold fioOn
  repeat'
    first
      | (with_reducible first
          | intro _ | assumption | apply refuseFio_kept | apply changeDo_kept | apply kept_ite)
      | (extract_lets +onlyGivenNames x; first | (refine kept_cut (q := q) (x := x) ?_ ?_ <;> [(unfold x; clear x); (intro hx; clear_value x)]) | clear_value x)
      | simp only [kept_update] | split
theorem fioOff_kept (o : Nat) (s : State) (hk : Kept q s) :
    Kept q (fioOff o s) := by
  unfold fioOff
  repeat'
    first
      | (with_reducible first
          | intro _ | assumption | apply changeDo_kept | apply kept_ite)
      | (extract_lets +onlyGivenNames x; first | (refine kept_cut (q := q) (x := x) ?_ ?_ <;> [(unfold x; clear x); (intro hx; clear_value x)]) | clear_value x)
      | simp only [kept_update] | split
theorem fioClear_kept (o : Nat) (s : State) (hk : Kept q s) :
    Kept q (fioClear o s) := by
  unfold fioClear
  repeat'
    first
      | (with_reducible first
          | intro _ | assumption | apply changeDo_kept | apply kept_ite) | simp only [kept_update] | split
theorem fioCtl_kept (o : Nat) (v : Word) (s : State) (hk : Kept q s) :
    Kept q (fioCtl o v s) := by
  unfold fioCtl
  repeat'
    first
      | (with_reducible first
          | intro _ | assumption | apply fioOn_kept | apply fioOff_kept | apply fioClear_kept | apply kept_ite)
      | (extract_lets +onlyGivenNames x; first | (refine kept_cut (q := q) (x := x) ?_ ?_ <;> [(unfold x; clear x); (intro hx; clear_value x)]) | clear_value x)
      | split
theorem fioGrpCtl_kept (g : Nat) (v : Word) (s : State) (hk : Kept q s) :
    Kept q (fioGrpCtl g v s) := by
  unfold fioGrpCtl
  repeat'
    first
      | (with_reducible first
          | intro _ | assumption | apply fioOn_kept | apply fioOff_kept | apply kept_foldl | apply kept_ite) | split
theorem fioLimit_kept (o : Nat) (s : State) (hk : Kept q s) :
    Kept q (fioLimit o s) := by
  unfold fioLimit
  repeat'
    first
      | (with_reducible first
          | intro _ | assumption | apply changeDo_kept | apply kept_ite)
      | (extract_lets +onlyGivenNames x; first | (refine kept_cut (q := q) (x := x) ?_ ?_ <;> [(unfold x; clear x); (intro hx; clear_value x)]) | clear_value x)
      | simp only [kept_update] | split
theorem fioThermal_kept (o : Nat) (s : State) (hk : Kept q s) :
    Kept q (fioThermal o s) := by
  unfold fioThermal
  repeat'
    first
      | (with_reducible first
          | intro _ | assumption | apply State.modDout_kept | apply changeDo_kept | apply kept_ite)
      | (extract_lets +onlyGivenNames x; first | (refine kept_cut (q := q) (x := x) ?_ ?_ <;> [(unfold x; clear x); (intro hx; clear_value x)]) | clear_value x)
      | simp only [kept_update] | split
theorem fioThermalRelease_kept (o : Nat) (s : State) (hk : Kept q s) :
    Kept q (fioThermalRelease o s) := by
  unfold fioThermalRelease
  repeat'
    first
      | (with_reducible first
          | intro _ | assumption | apply State.modDout_kept | apply changeDo_kept | apply kept_ite)
      | (extract_lets +onlyGivenNames x; first | (refine kept_cut (q := q) (x := x) ?_ ?_ <;> [(unfold x; clear x); (intro hx; clear_value x)]) | clear_value x)
      | simp only [kept_update] | split
theorem fioMissing_kept (g : Nat) (s : State) (hk : Kept q s) :
    Kept q (fioMissing g s) := by
  unfold fioMissing
  repeat'
    first
      | (with_reducible first
          | intro _ | assumption | apply State.setLive_kept | apply reportGrp_kept | apply changeDo_kept
          | apply kept_foldl | apply kept_ite)
      | (extract_lets +onlyGivenNames x; first | (refine kept_cut (q := q) (x := x) ?_ ?_ <;> [(unfold x; clear x); (intro hx; clear_value x)]) | clear_value x)
      | simp only [kept_update] | split
theorem fioLow_kept (g : Nat) (s : State) (hk : Kept q s) :
    Kept q (fioLow g s) := by
  unfold fioLow
  repeat'
    first
      | (with_reducible first
          | intro _ | assumption | apply State.setLive_kept | apply reportGrp_kept)
      | (extract_lets +onlyGivenNames x; first | (refine kept_cut (q := q) (x := x) ?_ ?_ <;> [(unfold x; clear x); (intro hx; clear_value x)]) | clear_value x)
theorem fioReturn_kept (g : Nat) (low : Bool) (s : State) (hk : Kept q s) :
    Kept q (fioReturn g low s) := by
  unfold fioReturn
  repeat'
    first
      | (with_reducible first
          | intro _ | assumption | apply State.setLive_kept | apply reportDo_kept | apply reportGrp_kept
          | apply kept_foldl | apply kept_ite)
      | (extract_lets +onlyGivenNames x; first | (refine kept_cut (q := q) (x := x) ?_ ?_ <;> [(unfold x; clear x); (intro hx; clear_value x)]) | clear_value x)
      | split
theorem fioSilence_kept (s : State) (hk : Kept q s) :
    Kept q (fioSilence s) := by
  unfold fioSilence
  repeat'
    first
      | (with_reducible first
          | intro _ | assumption | apply State.modTgt_kept | apply changeDo_kept | apply kept_foldl | apply kept_ite)
      | (extract_lets +onlyGivenNames x; first | (refine kept_cut (q := q) (x := x) ?_ ?_ <;> [(unfold x; clear x); (intro hx; clear_value x)]) | clear_value x)
      | simp only [kept_update] | split
theorem fioSafe_kept (o : Nat) (s : State) (hk : Kept q s) :
    Kept q (fioSafe o s) := by
  unfold fioSafe
  repeat'
    first
      | (with_reducible first
          | intro _ | assumption | apply changeDo_kept | apply kept_ite)
      | (extract_lets +onlyGivenNames x; first | (refine kept_cut (q := q) (x := x) ?_ ?_ <;> [(unfold x; clear x); (intro hx; clear_value x)]) | clear_value x)
      | simp only [kept_update] | split
theorem fioTimeout_kept (s : State) (hk : Kept q s) :
    Kept q (fioTimeout s) := by
  unfold fioTimeout
  repeat'
    first
      | (with_reducible first
          | intro _ | assumption | apply State.modTgt_kept | apply fioSafe_kept | apply kept_foldl | apply kept_ite)
      | (extract_lets +onlyGivenNames x; first | (refine kept_cut (q := q) (x := x) ?_ ?_ <;> [(unfold x; clear x); (intro hx; clear_value x)]) | clear_value x)
      | simp only [kept_update] | split
theorem fioBackfed_kept (o : Nat) (above below settled : Bool) (s : State) (hk : Kept q s) :
    Kept q (fioBackfed o above below settled s) := by
  unfold fioBackfed
  repeat'
    first
      | (with_reducible first
          | intro _ | assumption | apply State.modDout_kept | apply changeDo_kept | apply kept_ite)
      | (extract_lets +onlyGivenNames x; first | (refine kept_cut (q := q) (x := x) ?_ ?_ <;> [(unfold x; clear x); (intro hx; clear_value x)]) | clear_value x)
      | simp only [kept_update] | split
theorem fioClaim_kept (s : State) (hk : Kept q s) :
    Kept q (fioClaim s) := by
  unfold fioClaim
  repeat'
    first
      | (with_reducible first
          | intro _ | assumption | apply State.modTgt_kept | apply State.modDout_kept | apply reportDo_kept
          | apply reportGrp_kept | apply kept_foldl | apply kept_ite)
      | (extract_lets +onlyGivenNames x; first | (refine kept_cut (q := q) (x := x) ?_ ?_ <;> [(unfold x; clear x); (intro hx; clear_value x)]) | clear_value x)
      | simp only [kept_update] | split
theorem setDiBit_kept (base d : Nat) (b : Bool) (s : State) (hk : Kept q s) :
    Kept q (setDiBit base d b s) := by
  unfold setDiBit
  repeat'
    first
      | (with_reducible first
          | intro _ | assumption | apply State.setCopy_kept)
theorem diUnknown_kept (d : Nat) (s : State) (hk : Kept q s) :
    Kept q (diUnknown d s) := by
  unfold diUnknown
  repeat'
    first
      | (with_reducible first
          | intro _ | assumption | apply State.setDin_kept | apply setDiBit_kept)
theorem fioDiCfg_kept (d : Nat) (v : Word) (s : State) (hk : Kept q s) :
    Kept q (fioDiCfg d v s) := by
  unfold fioDiCfg
  repeat'
    first
      | (with_reducible first
          | intro _ | assumption | apply State.setLive_kept | apply refuseFio_kept | apply diUnknown_kept
          | apply kept_ite)
      | (extract_lets +onlyGivenNames x; first | (refine kept_cut (q := q) (x := x) ?_ ?_ <;> [(unfold x; clear x); (intro hx; clear_value x)]) | clear_value x)
      | split
theorem fioApply_kept (a : Nat) (v : Word) (s : State) (hk : Kept q s) :
    Kept q (fioApply a v s) := by
  unfold fioApply
  repeat'
    first
      | (with_reducible first
          | intro _ | assumption | apply State.modDout_kept | apply State.setLive_kept | apply refuseFio_kept
          | apply fioCtl_kept | apply fioGrpCtl_kept | apply fioDiCfg_kept | apply kept_ite)
      | (extract_lets +onlyGivenNames x; first | (refine kept_cut (q := q) (x := x) ?_ ?_ <;> [(unfold x; clear x); (intro hx; clear_value x)]) | clear_value x)
      | simp only [kept_update] | split
theorem diShow_kept (d : Nat) (known lvl : Bool) (s : State) (hk : Kept q s) :
    Kept q (diShow d known lvl s) := by
  unfold diShow
  repeat'
    first
      | (with_reducible first
          | intro _ | assumption | apply setDiBit_kept | apply kept_ite)
      | (extract_lets +onlyGivenNames x; first | (refine kept_cut (q := q) (x := x) ?_ ?_ <;> [(unfold x; clear x); (intro hx; clear_value x)]) | clear_value x)
      | split
theorem diSample_kept (d : Nat) (x : Word) (s : State) (hk : Kept q s) :
    Kept q (diSample d x s) := by
  unfold diSample
  repeat'
    first
      | (with_reducible first
          | intro _ | assumption | apply State.setDin_kept | apply laneRecord_kept | apply setDiBit_kept
          | apply diShow_kept | apply kept_ite)
      | (extract_lets +onlyGivenNames x; first | (refine kept_cut (q := q) (x := x) ?_ ?_ <;> [(unfold x; clear x); (intro hx; clear_value x)]) | clear_value x)
      | simp only [kept_update] | split
theorem doSample_kept (o : Nat) (x : Word) (s : State) (hk : Kept q s) :
    Kept q (doSample o x s) := by
  unfold doSample
  repeat'
    first
      | (with_reducible first
          | intro _ | assumption | apply State.setDoutRuns_kept | apply State.setCopy_kept | apply laneRecord_kept
          | apply kept_ite)
      | (extract_lets +onlyGivenNames x; first | (refine kept_cut (q := q) (x := x) ?_ ?_ <;> [(unfold x; clear x); (intro hx; clear_value x)]) | clear_value x)
      | split
theorem fioBlock_kept (blk : List Word) (s : State) (hk : Kept q s) :
    Kept q (fioBlock blk s) := by
  unfold fioBlock
  repeat'
    first
      | (with_reducible first
          | intro _ | assumption | apply diSample_kept | apply doSample_kept | apply kept_foldl)
      | (extract_lets +onlyGivenNames x; first | (refine kept_cut (q := q) (x := x) ?_ ?_ <;> [(unfold x; clear x); (intro hx; clear_value x)]) | clear_value x)
      | split
theorem execDiCfgWrite_kept (d : Fin 128) (v : Word) (s : State) (hk : Kept q s) :
    KeptO q (execDiCfgWrite d v s) := by
  unfold execDiCfgWrite
  repeat'
    first
      | (with_reducible first
          | intro _ | assumption | apply State.setCopy_kept | apply fioDiCfg_kept | apply kept_ite | apply keptO_ite
          | apply keptO_next)
      | (extract_lets +onlyGivenNames x; first | (refine kept_cut (q := q) (x := x) ?_ ?_ <;> [(unfold x; clear x); (intro hx; clear_value x)]) | clear_value x)
      | split
theorem execDoOn_kept (o : Fin 48) (s : State) (hk : Kept q s) :
    KeptO q (execDoOn o s) := by
  unfold execDoOn
  repeat'
    first
      | (with_reducible first
          | intro _ | assumption | apply fioOn_kept | apply kept_ite | apply keptO_ite | apply keptO_next) | split
theorem execDoOff_kept (o : Fin 48) (s : State) (hk : Kept q s) :
    KeptO q (execDoOff o s) := by
  unfold execDoOff
  repeat'
    first
      | (with_reducible first
          | intro _ | assumption | apply fioOff_kept | apply kept_ite | apply keptO_ite | apply keptO_next) | split
theorem execDoClear_kept (o : Fin 48) (s : State) (hk : Kept q s) :
    KeptO q (execDoClear o s) := by
  unfold execDoClear
  repeat'
    first
      | (with_reducible first
          | intro _ | assumption | apply fioClear_kept | apply kept_ite | apply keptO_ite | apply keptO_next) | split
theorem execGrpOn_kept (g : Fin 6) (mask : BitVec 8) (s : State) (hk : Kept q s) :
    KeptO q (execGrpOn g mask s) := by
  unfold execGrpOn
  repeat'
    first
      | (with_reducible first
          | intro _ | assumption | apply fioGrpCtl_kept | apply kept_ite | apply keptO_ite | apply keptO_next) | split
theorem execGrpOff_kept (g : Fin 6) (mask : BitVec 8) (s : State) (hk : Kept q s) :
    KeptO q (execGrpOff g mask s) := by
  unfold execGrpOff
  repeat'
    first
      | (with_reducible first
          | intro _ | assumption | apply fioGrpCtl_kept | apply kept_ite | apply keptO_ite | apply keptO_next) | split
theorem execLimit_kept (o : Fin 48) (s : State) (hk : Kept q s) :
    KeptO q (execLimit o s) := by
  unfold execLimit
  repeat'
    first
      | (with_reducible first
          | intro _ | assumption | apply fioLimit_kept | apply keptO_next)
theorem execThermal_kept (o : Fin 48) (s : State) (hk : Kept q s) :
    KeptO q (execThermal o s) := by
  unfold execThermal
  repeat'
    first
      | (with_reducible first
          | intro _ | assumption | apply fioThermal_kept | apply keptO_next)
theorem execDoThermalRelease_kept (o : Fin 48) (s : State) (hk : Kept q s) :
    KeptO q (execDoThermalRelease o s) := by
  unfold execDoThermalRelease
  repeat'
    first
      | (with_reducible first
          | intro _ | assumption | apply fioThermalRelease_kept | apply keptO_next)
theorem execVfldMissing_kept (g : Fin 6) (s : State) (hk : Kept q s) :
    KeptO q (execVfldMissing g s) := by
  unfold execVfldMissing
  repeat'
    first
      | (with_reducible first
          | intro _ | assumption | apply fioMissing_kept | apply keptO_next)
theorem execVfldLow_kept (g : Fin 6) (s : State) (hk : Kept q s) :
    KeptO q (execVfldLow g s) := by
  unfold execVfldLow
  repeat'
    first
      | (with_reducible first
          | intro _ | assumption | apply fioLow_kept | apply keptO_next)
theorem execVfldOk_kept (g : Fin 6) (low : Bool) (s : State) (hk : Kept q s) :
    KeptO q (execVfldOk g low s) := by
  unfold execVfldOk
  repeat'
    first
      | (with_reducible first
          | intro _ | assumption | apply fioReturn_kept | apply keptO_next)
theorem execFioUnitSilent_kept (s : State) (hk : Kept q s) :
    KeptO q (execFioUnitSilent s) := by
  unfold execFioUnitSilent
  repeat'
    first
      | (with_reducible first
          | intro _ | assumption | apply fioSilence_kept | apply keptO_next)
theorem execFioTimedOut_kept (s : State) (hk : Kept q s) :
    KeptO q (execFioTimedOut s) := by
  unfold execFioTimedOut
  repeat'
    first
      | (with_reducible first
          | intro _ | assumption | apply fioTimeout_kept | apply keptO_next)
theorem execFioBackfedEval_kept (o : Fin 48) (above below settled : Bool) (s : State) (hk : Kept q s) :
    KeptO q (execFioBackfedEval o above below settled s) := by
  unfold execFioBackfedEval
  repeat'
    first
      | (with_reducible first
          | intro _ | assumption | apply fioBackfed_kept | apply keptO_next)
/-! ### Light -/
theorem pushLgt_kept (obj cause : Nat) (w : Word) (a hi : Nat) (arg1 : Word) (copy : List (Nat × Word)) (s : State) (hk : Kept q s) :
    Kept q (pushLgt obj cause w a hi arg1 copy s) := by
  unfold pushLgt
  repeat'
    first
      | (with_reducible first
          | intro _ | assumption | apply pushEntry_kept) | simp only [kept_update]
theorem reportStr_kept (x cause : Nat) (s : State) (hk : Kept q s) :
    Kept q (reportStr x cause s) := by
  unfold reportStr
  repeat'
    first
      | (with_reducible first
          | intro _ | assumption | apply pushLgt_kept)
      | (extract_lets +onlyGivenNames x; first | (refine kept_cut (q := q) (x := x) ?_ ?_ <;> [(unfold x; clear x); (intro hx; clear_value x)]) | clear_value x)
theorem reportLed_kept (x k cause : Nat) (s : State) (hk : Kept q s) :
    Kept q (reportLed x k cause s) := by
  unfold reportLed
  repeat'
    first
      | (with_reducible first
          | intro _ | assumption | apply pushLgt_kept)
      | (extract_lets +onlyGivenNames x; first | (refine kept_cut (q := q) (x := x) ?_ ?_ <;> [(unfold x; clear x); (intro hx; clear_value x)]) | clear_value x)
theorem reportMx_kept (m cause hi : Nat) (s : State) (hk : Kept q s) :
    Kept q (reportMx m cause hi s) := by
  unfold reportMx
  repeat'
    first
      | (with_reducible first
          | intro _ | assumption | apply pushLgt_kept | apply kept_ite)
      | (extract_lets +onlyGivenNames x; first | (refine kept_cut (q := q) (x := x) ?_ ?_ <;> [(unfold x; clear x); (intro hx; clear_value x)]) | clear_value x)
      | split
theorem refuseLgt_kept (obj off reason a : Nat) (v : Word) (s : State) (hk : Kept q s) :
    Kept q (refuseLgt obj off reason a v s) := by
  unfold refuseLgt
  repeat'
    first
      | (with_reducible first
          | intro _ | assumption | apply State.modTgt_kept) | simp only [kept_update]
theorem changeStr_kept (x cause : Nat) (f : Str → Str) (s : State) (hk : Kept q s) :
    Kept q (changeStr x cause f s) := by
  unfold changeStr
  repeat'
    first
      | (with_reducible first
          | intro _ | assumption | apply State.modStr_kept | apply reportStr_kept)
      | (extract_lets +onlyGivenNames x; first | (refine kept_cut (q := q) (x := x) ?_ ?_ <;> [(unfold x; clear x); (intro hx; clear_value x)]) | clear_value x)
      | simp only [kept_update]
theorem changeMx_kept (m cause : Nat) (f : Mx → Mx) (s : State) (hk : Kept q s) :
    Kept q (changeMx m cause f s) := by
  unfold changeMx
  repeat'
    first
      | (with_reducible first
          | intro _ | assumption | apply State.modMx_kept | apply reportMx_kept)
theorem lgtOn_kept (x : Nat) (withGo : Bool) (v : Word) (s : State) (hk : Kept q s) :
    Kept q (lgtOn x withGo v s) := by
  unfold lgtOn
  repeat'
    first
      | (with_reducible first
          | intro _ | assumption | apply State.modStr_kept | apply refuseLgt_kept | apply changeStr_kept
          | apply kept_ite)
      | (extract_lets +onlyGivenNames x; first | (refine kept_cut (q := q) (x := x) ?_ ?_ <;> [(unfold x; clear x); (intro hx; clear_value x)]) | clear_value x)
      | simp only [kept_update] | split
theorem lgtOff_kept (x : Nat) (s : State) (hk : Kept q s) :
    Kept q (lgtOff x s) := by
  unfold lgtOff
  repeat'
    first
      | (with_reducible first
          | intro _ | assumption | apply State.modStr_kept | apply changeStr_kept | apply kept_ite)
      | (extract_lets +onlyGivenNames x; first | (refine kept_cut (q := q) (x := x) ?_ ?_ <;> [(unfold x; clear x); (intro hx; clear_value x)]) | clear_value x)
      | simp only [kept_update] | split
theorem lgtClear_kept (x : Nat) (s : State) (hk : Kept q s) :
    Kept q (lgtClear x s) := by
  unfold lgtClear
  repeat'
    first
      | (with_reducible first
          | intro _ | assumption | apply State.modStr_kept | apply changeStr_kept)
      | (extract_lets +onlyGivenNames x; first | (refine kept_cut (q := q) (x := x) ?_ ?_ <;> [(unfold x; clear x); (intro hx; clear_value x)]) | clear_value x)
      | simp only [kept_update] | split
theorem lgtGo_kept (x : Nat) (s : State) (hk : Kept q s) :
    Kept q (lgtGo x s) := by
  unfold lgtGo
  repeat'
    first
      | (with_reducible first
          | intro _ | assumption | apply State.modStr_kept) | simp only [kept_update] | split
theorem lgtCtl_kept (x : Nat) (v : Word) (s : State) (hk : Kept q s) :
    Kept q (lgtCtl x v s) := by
  unfold lgtCtl
  repeat'
    first
      | (with_reducible first
          | intro _ | assumption | apply lgtOn_kept | apply lgtOff_kept | apply lgtClear_kept | apply lgtGo_kept
          | apply kept_ite)
      | (extract_lets +onlyGivenNames x; first | (refine kept_cut (q := q) (x := x) ?_ ?_ <;> [(unfold x; clear x); (intro hx; clear_value x)]) | clear_value x)
      | split
theorem strCfg_kept (x : Nat) (v : Word) (s : State) (hk : Kept q s) :
    Kept q (strCfg x v s) := by
  unfold strCfg
  repeat'
    first
      | (with_reducible first
          | intro _ | assumption | apply State.modStr_kept | apply State.setLive_kept | apply refuseLgt_kept
          | apply kept_ite)
      | (extract_lets +onlyGivenNames x; first | (refine kept_cut (q := q) (x := x) ?_ ?_ <;> [(unfold x; clear x); (intro hx; clear_value x)]) | clear_value x)
      | simp only [kept_update] | split
theorem periodStart_kept (x : Nat) (s : State) (hk : Kept q s) :
    Kept q (periodStart x s) := by
  unfold periodStart
  repeat'
    first
      | (with_reducible first
          | intro _ | assumption | apply State.modStr_kept | apply reportStr_kept | apply kept_ite)
      | (extract_lets +onlyGivenNames x; first | (refine kept_cut (q := q) (x := x) ?_ ?_ <;> [(unfold x; clear x); (intro hx; clear_value x)]) | clear_value x)
      | simp only [kept_update] | split
theorem bypassOne_kept (x k : Nat) (s : State) (hk : Kept q s) :
    Kept q (bypassOne x k s) := by
  unfold bypassOne
  repeat'
    first
      | (with_reducible first
          | intro _ | assumption | apply State.modStr_kept | apply kept_ite)
      | (extract_lets +onlyGivenNames x; first | (refine kept_cut (q := q) (x := x) ?_ ?_ <;> [(unfold x; clear x); (intro hx; clear_value x)]) | clear_value x)
      | simp only [kept_update] | split
theorem onTimeEnd_kept (x : Nat) (regulated under : Bool) (s : State) (hk : Kept q s) :
    Kept q (onTimeEnd x regulated under s) := by
  unfold onTimeEnd
  repeat'
    first
      | (with_reducible first
          | intro _ | assumption | apply State.modStr_kept | apply reportStr_kept | apply kept_ite)
      | (extract_lets +onlyGivenNames x; first | (refine kept_cut (q := q) (x := x) ?_ ?_ <;> [(unfold x; clear x); (intro hx; clear_value x)]) | clear_value x)
      | simp only [kept_update] | split
theorem strTrip_kept (x cause code bit : Nat) (s : State) (hk : Kept q s) :
    Kept q (strTrip x cause code bit s) := by
  unfold strTrip
  repeat'
    first
      | (with_reducible first
          | intro _ | assumption | apply changeStr_kept | apply kept_ite)
      | (extract_lets +onlyGivenNames x; first | (refine kept_cut (q := q) (x := x) ?_ ?_ <;> [(unfold x; clear x); (intro hx; clear_value x)]) | clear_value x)
      | simp only [kept_update] | split
theorem ledOpen_kept (x k tick : Nat) (s : State) (hk : Kept q s) :
    Kept q (ledOpen x k tick s) := by
  unfold ledOpen
  repeat'
    first
      | (with_reducible first
          | intro _ | assumption | apply State.modStr_kept | apply reportLed_kept | apply strTrip_kept
          | apply kept_ite)
      | (extract_lets +onlyGivenNames x; first | (refine kept_cut (q := q) (x := x) ?_ ?_ <;> [(unfold x; clear x); (intro hx; clear_value x)]) | clear_value x)
      | simp only [kept_update] | split
theorem ledShort_kept (x k : Nat) (below : Bool) (s : State) (hk : Kept q s) :
    Kept q (ledShort x k below s) := by
  unfold ledShort
  repeat'
    first
      | (with_reducible first
          | intro _ | assumption | apply State.modStr_kept | apply reportLed_kept | apply kept_ite)
      | (extract_lets +onlyGivenNames x; first | (refine kept_cut (q := q) (x := x) ?_ ?_ <;> [(unfold x; clear x); (intro hx; clear_value x)]) | clear_value x)
      | simp only [kept_update] | split
theorem strHot_kept (x : Nat) (s : State) (hk : Kept q s) :
    Kept q (strHot x s) := by
  unfold strHot
  repeat'
    first
      | (with_reducible first
          | intro _ | assumption | apply State.modStr_kept | apply changeStr_kept | apply kept_ite)
      | (extract_lets +onlyGivenNames x; first | (refine kept_cut (q := q) (x := x) ?_ ?_ <;> [(unfold x; clear x); (intro hx; clear_value x)]) | clear_value x)
      | simp only [kept_update] | split
theorem strCooled_kept (x : Nat) (s : State) (hk : Kept q s) :
    Kept q (strCooled x s) := by
  unfold strCooled
  repeat'
    first
      | (with_reducible first
          | intro _ | assumption | apply State.modStr_kept | apply changeStr_kept | apply kept_ite)
      | (extract_lets +onlyGivenNames x; first | (refine kept_cut (q := q) (x := x) ?_ ?_ <;> [(unfold x; clear x); (intro hx; clear_value x)]) | clear_value x)
      | simp only [kept_update] | split
theorem mxOnCmd_kept (m : Nat) (withGo : Bool) (v : Word) (s : State) (hk : Kept q s) :
    Kept q (mxOnCmd m withGo v s) := by
  unfold mxOnCmd
  repeat'
    first
      | (with_reducible first
          | intro _ | assumption | apply State.modMx_kept | apply refuseLgt_kept | apply changeMx_kept
          | apply kept_ite)
      | (extract_lets +onlyGivenNames x; first | (refine kept_cut (q := q) (x := x) ?_ ?_ <;> [(unfold x; clear x); (intro hx; clear_value x)]) | clear_value x)
      | simp only [kept_update] | split
theorem mxOffCmd_kept (m : Nat) (s : State) (hk : Kept q s) :
    Kept q (mxOffCmd m s) := by
  unfold mxOffCmd
  repeat'
    first
      | (with_reducible first
          | intro _ | assumption | apply State.modMx_kept | apply changeMx_kept | apply kept_ite)
      | (extract_lets +onlyGivenNames x; first | (refine kept_cut (q := q) (x := x) ?_ ?_ <;> [(unfold x; clear x); (intro hx; clear_value x)]) | clear_value x)
      | simp only [kept_update] | split
theorem mxClearCmd_kept (m : Nat) (s : State) (hk : Kept q s) :
    Kept q (mxClearCmd m s) := by
  unfold mxClearCmd
  repeat'
    first
      | (with_reducible first
          | intro _ | assumption | apply changeMx_kept | apply kept_ite) | simp only [kept_update] | split
theorem mxGoCmd_kept (m : Nat) (s : State) (hk : Kept q s) :
    Kept q (mxGoCmd m s) := by
  unfold mxGoCmd
  repeat'
    first
      | (with_reducible first
          | intro _ | assumption | apply State.modMx_kept) | simp only [kept_update] | split
theorem mxSwapCmd_kept (m : Nat) (s : State) (hk : Kept q s) :
    Kept q (mxSwapCmd m s) := by
  unfold mxSwapCmd
  repeat'
    first
      | (with_reducible first
          | intro _ | assumption | apply State.modMx_kept) | simp only [kept_update]
theorem mxCtl_kept (m : Nat) (v : Word) (s : State) (hk : Kept q s) :
    Kept q (mxCtl m v s) := by
  unfold mxCtl
  repeat'
    first
      | (with_reducible first
          | intro _ | assumption | apply mxOnCmd_kept | apply mxOffCmd_kept | apply mxClearCmd_kept
          | apply mxGoCmd_kept | apply mxSwapCmd_kept | apply kept_ite)
      | (extract_lets +onlyGivenNames x; first | (refine kept_cut (q := q) (x := x) ?_ ?_ <;> [(unfold x; clear x); (intro hx; clear_value x)]) | clear_value x)
      | split
theorem mxFrame_kept (m : Nat) (openCols : List (Fin 48)) (s : State) (hk : Kept q s) :
    Kept q (mxFrame m openCols s) := by
  unfold mxFrame
  repeat'
    first
      | (with_reducible first
          | intro _ | assumption | apply State.modMx_kept | apply reportMx_kept | apply kept_foldl | apply kept_ite)
      | (extract_lets +onlyGivenNames x; first | (refine kept_cut (q := q) (x := x) ?_ ?_ <;> [(unfold x; clear x); (intro hx; clear_value x)]) | clear_value x)
      | simp only [kept_update] | split
theorem mxLine_kept (m : Nat) (s : State) (hk : Kept q s) :
    Kept q (mxLine m s) := by
  unfold mxLine
  repeat'
    first
      | (with_reducible first
          | intro _ | assumption | apply State.modMx_kept | apply kept_ite)
      | (extract_lets +onlyGivenNames x; first | (refine kept_cut (q := q) (x := x) ?_ ?_ <;> [(unfold x; clear x); (intro hx; clear_value x)]) | clear_value x)
      | simp only [kept_update] | split
theorem mxLineShort_kept (m l : Nat) (s : State) (hk : Kept q s) :
    Kept q (mxLineShort m l s) := by
  unfold mxLineShort
  repeat'
    first
      | (with_reducible first
          | intro _ | assumption | apply State.modMx_kept | apply reportMx_kept | apply kept_ite)
      | (extract_lets +onlyGivenNames x; first | (refine kept_cut (q := q) (x := x) ?_ ?_ <;> [(unfold x; clear x); (intro hx; clear_value x)]) | clear_value x)
      | simp only [kept_update] | split
theorem mxColShort_kept (m c : Nat) (low : Bool) (s : State) (hk : Kept q s) :
    Kept q (mxColShort m c low s) := by
  unfold mxColShort
  repeat'
    first
      | (with_reducible first
          | intro _ | assumption | apply State.modMx_kept | apply reportMx_kept | apply kept_ite)
      | (extract_lets +onlyGivenNames x; first | (refine kept_cut (q := q) (x := x) ?_ ?_ <;> [(unfold x; clear x); (intro hx; clear_value x)]) | clear_value x)
      | simp only [kept_update] | split
theorem mxHot_kept (m : Nat) (set : Bool) (s : State) (hk : Kept q s) :
    Kept q (mxHot m set s) := by
  unfold mxHot
  repeat'
    first
      | (with_reducible first
          | intro _ | assumption | apply State.modMx_kept | apply changeMx_kept | apply kept_ite)
      | (extract_lets +onlyGivenNames x; first | (refine kept_cut (q := q) (x := x) ?_ ?_ <;> [(unfold x; clear x); (intro hx; clear_value x)]) | clear_value x)
      | simp only [kept_update] | split
theorem lgtSilence_kept (s : State) (hk : Kept q s) :
    Kept q (lgtSilence s) := by
  unfold lgtSilence
  repeat'
    first
      | (with_reducible first
          | intro _ | assumption | apply State.modTgt_kept | apply changeStr_kept | apply changeMx_kept
          | apply kept_foldl | apply kept_ite)
      | (extract_lets +onlyGivenNames x; first | (refine kept_cut (q := q) (x := x) ?_ ?_ <;> [(unfold x; clear x); (intro hx; clear_value x)]) | clear_value x)
      | simp only [kept_update] | split
theorem strSafe_kept (x : Nat) (s : State) (hk : Kept q s) :
    Kept q (strSafe x s) := by
  unfold strSafe
  repeat'
    first
      | (with_reducible first
          | intro _ | assumption | apply State.modStr_kept | apply changeStr_kept | apply kept_ite)
      | (extract_lets +onlyGivenNames x; first | (refine kept_cut (q := q) (x := x) ?_ ?_ <;> [(unfold x; clear x); (intro hx; clear_value x)]) | clear_value x)
      | simp only [kept_update] | split
theorem mxSafe_kept (m : Nat) (s : State) (hk : Kept q s) :
    Kept q (mxSafe m s) := by
  unfold mxSafe
  repeat'
    first
      | (with_reducible first
          | intro _ | assumption | apply changeMx_kept | apply kept_ite)
      | (extract_lets +onlyGivenNames x; first | (refine kept_cut (q := q) (x := x) ?_ ?_ <;> [(unfold x; clear x); (intro hx; clear_value x)]) | clear_value x)
      | simp only [kept_update] | split
theorem lgtTimeout_kept (s : State) (hk : Kept q s) :
    Kept q (lgtTimeout s) := by
  unfold lgtTimeout
  repeat'
    first
      | (with_reducible first
          | intro _ | assumption | apply State.modTgt_kept | apply strSafe_kept | apply mxSafe_kept | apply kept_foldl
          | apply kept_ite)
      | (extract_lets +onlyGivenNames x; first | (refine kept_cut (q := q) (x := x) ?_ ?_ <;> [(unfold x; clear x); (intro hx; clear_value x)]) | clear_value x)
      | simp only [kept_update] | split
theorem lgtClaim_kept (s : State) (hk : Kept q s) :
    Kept q (lgtClaim s) := by
  unfold lgtClaim
  repeat'
    first
      | (with_reducible first
          | intro _ | assumption | apply State.modTgt_kept | apply State.modStr_kept | apply State.modMx_kept
          | apply reportStr_kept | apply reportMx_kept | apply kept_foldl | apply kept_ite)
      | (extract_lets +onlyGivenNames x; first | (refine kept_cut (q := q) (x := x) ?_ ?_ <;> [(unfold x; clear x); (intro hx; clear_value x)]) | clear_value x)
      | simp only [kept_update] | split
theorem lgtFeedLost_kept (f : Feed) (s : State) (hk : Kept q s) :
    Kept q (lgtFeedLost f s) := by
  unfold lgtFeedLost
  repeat'
    first
      | (with_reducible first
          | intro _ | assumption | apply reportMx_kept | apply changeStr_kept | apply kept_foldl | apply kept_ite)
      | (extract_lets +onlyGivenNames x; first | (refine kept_cut (q := q) (x := x) ?_ ?_ <;> [(unfold x; clear x); (intro hx; clear_value x)]) | clear_value x)
      | simp only [kept_update] | split
theorem lgtFeedBack_kept (f : Feed) (mxWas : Bool) (s : State) (hk : Kept q s) :
    Kept q (lgtFeedBack f mxWas s) := by
  unfold lgtFeedBack
  repeat'
    first
      | (with_reducible first
          | intro _ | assumption | apply reportStr_kept | apply reportMx_kept | apply kept_foldl | apply kept_ite)
      | (extract_lets +onlyGivenNames x; first | (refine kept_cut (q := q) (x := x) ?_ ?_ <;> [(unfold x; clear x); (intro hx; clear_value x)]) | clear_value x)
      | split
theorem strApply_kept (x off a : Nat) (v : Word) (s : State) (hk : Kept q s) :
    Kept q (strApply x off a v s) := by
  unfold strApply
  repeat'
    first
      | (with_reducible first
          | intro _ | assumption | apply State.modStr_kept | apply State.setLive_kept | apply refuseLgt_kept
          | apply lgtCtl_kept | apply strCfg_kept | apply kept_ite)
      | (extract_lets +onlyGivenNames x; first | (refine kept_cut (q := q) (x := x) ?_ ?_ <;> [(unfold x; clear x); (intro hx; clear_value x)]) | clear_value x)
      | simp only [kept_update] | split
theorem mxApply_kept (m off a : Nat) (v : Word) (s : State) (hk : Kept q s) :
    Kept q (mxApply m off a v s) := by
  unfold mxApply
  repeat'
    first
      | (with_reducible first
          | intro _ | assumption | apply State.modMx_kept | apply State.setLive_kept | apply refuseLgt_kept
          | apply mxCtl_kept | apply kept_ite)
      | (extract_lets +onlyGivenNames x; first | (refine kept_cut (q := q) (x := x) ?_ ?_ <;> [(unfold x; clear x); (intro hx; clear_value x)]) | clear_value x)
      | simp only [kept_update] | split
theorem lgtApply_kept (a : Nat) (v : Word) (s : State) (hk : Kept q s) :
    Kept q (lgtApply a v s) := by
  unfold lgtApply
  repeat'
    first
      | (with_reducible first
          | intro _ | assumption | apply State.setLive_kept | apply refuseLgt_kept | apply strApply_kept
          | apply mxApply_kept | apply kept_ite)
      | (extract_lets +onlyGivenNames x; first | (refine kept_cut (q := q) (x := x) ?_ ?_ <;> [(unfold x; clear x); (intro hx; clear_value x)]) | clear_value x)
      | split
theorem execStrOn_kept (x : Fin 8) (s : State) (hk : Kept q s) :
    KeptO q (execStrOn x s) := by
  unfold execStrOn
  repeat'
    first
      | (with_reducible first
          | intro _ | assumption | apply lgtOn_kept | apply kept_ite | apply keptO_ite | apply keptO_next) | split
theorem execStrOff_kept (x : Fin 8) (s : State) (hk : Kept q s) :
    KeptO q (execStrOff x s) := by
  unfold execStrOff
  repeat'
    first
      | (with_reducible first
          | intro _ | assumption | apply lgtOff_kept | apply kept_ite | apply keptO_ite | apply keptO_next) | split
theorem execStrClear_kept (x : Fin 8) (s : State) (hk : Kept q s) :
    KeptO q (execStrClear x s) := by
  unfold execStrClear
  repeat'
    first
      | (with_reducible first
          | intro _ | assumption | apply lgtClear_kept | apply kept_ite | apply keptO_ite | apply keptO_next) | split
theorem execGo_kept (x : Fin 8) (s : State) (hk : Kept q s) :
    KeptO q (execGo x s) := by
  unfold execGo
  repeat'
    first
      | (with_reducible first
          | intro _ | assumption | apply lgtGo_kept | apply kept_ite | apply keptO_ite | apply keptO_next) | split
theorem execStrCfgWrite_kept (x : Fin 8) (v : Word) (s : State) (hk : Kept q s) :
    KeptO q (execStrCfgWrite x v s) := by
  unfold execStrCfgWrite
  repeat'
    first
      | (with_reducible first
          | intro _ | assumption | apply strCfg_kept | apply kept_ite | apply keptO_ite | apply keptO_next) | split
theorem execPwmPeriodStart_kept (x : Fin 8) (s : State) (hk : Kept q s) :
    KeptO q (execPwmPeriodStart x s) := by
  unfold execPwmPeriodStart
  repeat'
    first
      | (with_reducible first
          | intro _ | assumption | apply periodStart_kept | apply keptO_next)
theorem execBypassClose_kept (x : Fin 8) (k : Fin 16) (s : State) (hk : Kept q s) :
    KeptO q (execBypassClose x k s) := by
  unfold execBypassClose
  repeat'
    first
      | (with_reducible first
          | intro _ | assumption | apply bypassOne_kept | apply keptO_next)
theorem execOnTimeEnd_kept (x : Fin 8) (regulated under : Bool) (s : State) (hk : Kept q s) :
    KeptO q (execOnTimeEnd x regulated under s) := by
  unfold execOnTimeEnd
  repeat'
    first
      | (with_reducible first
          | intro _ | assumption | apply onTimeEnd_kept | apply keptO_next)
theorem execShort_kept (x : Fin 8) (s : State) (hk : Kept q s) :
    KeptO q (execShort x s) := by
  unfold execShort
  repeat'
    first
      | (with_reducible first
          | intro _ | assumption | apply strTrip_kept | apply keptO_next)
theorem execOpenString_kept (x : Fin 8) (s : State) (hk : Kept q s) :
    KeptO q (execOpenString x s) := by
  unfold execOpenString
  repeat'
    first
      | (with_reducible first
          | intro _ | assumption | apply strTrip_kept | apply keptO_next)
theorem execOpenLed_kept (x : Fin 8) (led : LedMoment) (s : State) (hk : Kept q s) :
    KeptO q (execOpenLed x led s) := by
  unfold execOpenLed
  repeat'
    first
      | (with_reducible first
          | intro _ | assumption | apply ledOpen_kept | apply keptO_next)
theorem execShortLed_kept (x : Fin 8) (k : Fin 16) (below : Bool) (s : State) (hk : Kept q s) :
    KeptO q (execShortLed x k below s) := by
  unfold execShortLed
  repeat'
    first
      | (with_reducible first
          | intro _ | assumption | apply ledShort_kept | apply keptO_next)
theorem execStrThermalSet_kept (x : Fin 8) (s : State) (hk : Kept q s) :
    KeptO q (execStrThermalSet x s) := by
  unfold execStrThermalSet
  repeat'
    first
      | (with_reducible first
          | intro _ | assumption | apply strHot_kept | apply keptO_next)
theorem execStrThermalRelease_kept (x : Fin 8) (s : State) (hk : Kept q s) :
    KeptO q (execStrThermalRelease x s) := by
  unfold execStrThermalRelease
  repeat'
    first
      | (with_reducible first
          | intro _ | assumption | apply strCooled_kept | apply keptO_next)
theorem execMxOn_kept (m : Fin 2) (s : State) (hk : Kept q s) :
    KeptO q (execMxOn m s) := by
  unfold execMxOn
  repeat'
    first
      | (with_reducible first
          | intro _ | assumption | apply mxOnCmd_kept | apply kept_ite | apply keptO_ite | apply keptO_next) | split
theorem execMxOff_kept (m : Fin 2) (s : State) (hk : Kept q s) :
    KeptO q (execMxOff m s) := by
  unfold execMxOff
  repeat'
    first
      | (with_reducible first
          | intro _ | assumption | apply mxOffCmd_kept | apply kept_ite | apply keptO_ite | apply keptO_next) | split
theorem execMxClear_kept (m : Fin 2) (s : State) (hk : Kept q s) :
    KeptO q (execMxClear m s) := by
  unfold execMxClear
  repeat'
    first
      | (with_reducible first
          | intro _ | assumption | apply mxClearCmd_kept | apply kept_ite | apply keptO_ite | apply keptO_next)
      | split
theorem execSwap_kept (m : Fin 2) (s : State) (hk : Kept q s) :
    KeptO q (execSwap m s) := by
  unfold execSwap
  repeat'
    first
      | (with_reducible first
          | intro _ | assumption | apply mxSwapCmd_kept | apply kept_ite | apply keptO_ite | apply keptO_next) | split
theorem execMxGo_kept (m : Fin 2) (s : State) (hk : Kept q s) :
    KeptO q (execMxGo m s) := by
  unfold execMxGo
  repeat'
    first
      | (with_reducible first
          | intro _ | assumption | apply mxGoCmd_kept | apply kept_ite | apply keptO_ite | apply keptO_next) | split
theorem execFrameStart_kept (m : Fin 2) (openCols : List (Fin 48)) (s : State) (hk : Kept q s) :
    KeptO q (execFrameStart m openCols s) := by
  unfold execFrameStart
  repeat'
    first
      | (with_reducible first
          | intro _ | assumption | apply mxFrame_kept | apply keptO_next)
theorem execLineSlot_kept (m : Fin 2) (s : State) (hk : Kept q s) :
    KeptO q (execLineSlot m s) := by
  unfold execLineSlot
  repeat'
    first
      | (with_reducible first
          | intro _ | assumption | apply mxLine_kept | apply keptO_next)
theorem execLineShort_kept (m : Fin 2) (l : Fin 24) (s : State) (hk : Kept q s) :
    KeptO q (execLineShort m l s) := by
  unfold execLineShort
  repeat'
    first
      | (with_reducible first
          | intro _ | assumption | apply mxLineShort_kept | apply keptO_next)
theorem execColShort_kept (m : Fin 2) (c : Fin 48) (low : Bool) (s : State) (hk : Kept q s) :
    KeptO q (execColShort m c low s) := by
  unfold execColShort
  repeat'
    first
      | (with_reducible first
          | intro _ | assumption | apply mxColShort_kept | apply keptO_next)
theorem execMxThermal_kept (m : Fin 2) (set : Bool) (s : State) (hk : Kept q s) :
    KeptO q (execMxThermal m set s) := by
  unfold execMxThermal
  repeat'
    first
      | (with_reducible first
          | intro _ | assumption | apply mxHot_kept | apply keptO_next)
theorem execLgtUnitSilent_kept (s : State) (hk : Kept q s) :
    KeptO q (execLgtUnitSilent s) := by
  unfold execLgtUnitSilent
  repeat'
    first
      | (with_reducible first
          | intro _ | assumption | apply lgtSilence_kept | apply keptO_next)
theorem execLgtTimedOut_kept (s : State) (hk : Kept q s) :
    KeptO q (execLgtTimedOut s) := by
  unfold execLgtTimedOut
  repeat'
    first
      | (with_reducible first
          | intro _ | assumption | apply lgtTimeout_kept | apply keptO_next)
/-! ### Access -/
theorem pushAcc_kept (obj cause : Nat) (w : Word) (copy : List (Nat × Word)) (rec : RecDraft) (s : State) (hk : Kept q s) :
    Kept q (pushAcc obj cause w copy rec s) := by
  unfold pushAcc
  repeat'
    first
      | (with_reducible first
          | intro _ | assumption | apply pushEntry_kept) | simp only [kept_update]
theorem reportDen_kept (cause : Nat) (s : State) (hk : Kept q s) :
    Kept q (reportDen cause s) := by
  unfold reportDen
  repeat'
    first
      | (with_reducible first
          | intro _ | assumption | apply pushAcc_kept)
      | (extract_lets +onlyGivenNames x; first | (refine kept_cut (q := q) (x := x) ?_ ?_ <;> [(unfold x; clear x); (intro hx; clear_value x)]) | clear_value x)
theorem reportSess_kept (cause : Nat) (s : State) (hk : Kept q s) :
    Kept q (reportSess cause s) := by
  unfold reportSess
  repeat'
    first
      | (with_reducible first
          | intro _ | assumption | apply pushAcc_kept)
      | (extract_lets +onlyGivenNames x; first | (refine kept_cut (q := q) (x := x) ?_ ?_ <;> [(unfold x; clear x); (intro hx; clear_value x)]) | clear_value x)
theorem reportHandle_kept (h cause : Nat) (touch : Bool) (s : State) (hk : Kept q s) :
    Kept q (reportHandle h cause touch s) := by
  unfold reportHandle
  repeat'
    first
      | (with_reducible first
          | intro _ | assumption | apply pushAcc_kept | apply touch_kept)
theorem refuseAcc_kept (obj off reason a : Nat) (v : Word) (s : State) (hk : Kept q s) :
    Kept q (refuseAcc obj off reason a v s) := by
  unfold refuseAcc
  repeat'
    first
      | (with_reducible first
          | intro _ | assumption | apply State.modTgt_kept) | simp only [kept_update]
theorem endSession_kept (cause : Nat) (s : State) (hk : Kept q s) :
    Kept q (endSession cause s) := by
  unfold endSession
  repeat'
    first
      | (with_reducible first
          | intro _ | assumption | apply reportSess_kept | apply kept_ite) | simp only [kept_update] | split
theorem openSession_kept (i : Nat) (s : State) (hk : Kept q s) :
    Kept q (openSession i s) := by
  unfold openSession
  repeat'
    first
      | (with_reducible first
          | intro _ | assumption | apply reportSess_kept) | simp only [kept_update]
theorem loadLatch_kept (s : State) (hk : Kept q s) :
    Kept q (loadLatch s) := by
  unfold loadLatch
  repeat'
    first
      | (with_reducible first
          | intro _ | assumption | apply kept_ite)
      | (extract_lets +onlyGivenNames x; first | (refine kept_cut (q := q) (x := x) ?_ ?_ <;> [(unfold x; clear x); (intro hx; clear_value x)]) | clear_value x)
      | simp only [kept_update] | split
theorem startRound_kept (trigger handle ant : Nat) (s : State) (hk : Kept q s) :
    Kept q (startRound trigger handle ant s) := by
  unfold startRound
  repeat'
    first
      | (with_reducible first
          | intro _ | assumption | apply doorCheck_kept) | simp only [kept_update]
theorem takeReply_kept (i : Nat) (r : Reply) (s : State) (hk : Kept q s) :
    Kept q (takeReply i r s) := by
  unfold takeReply
  repeat'
    first
      | (with_reducible first
          | intro _ | assumption | apply kept_ite)
      | (extract_lets +onlyGivenNames x; first | (refine kept_cut (q := q) (x := x) ?_ ?_ <;> [(unfold x; clear x); (intro hx; clear_value x)]) | clear_value x)
      | simp only [kept_update] | split
theorem sendRetry_kept (s : State) (hk : Kept q s) :
    Kept q (sendRetry s) := by
  unfold sendRetry
  repeat'
    first
      | (with_reducible first
          | intro _ | assumption | apply kept_ite) | simp only [kept_update] | split
theorem pushEntries_kept (es : List Entry) (s : State) (hk : Kept q s) :
    Kept q (pushEntries es s) := by
  unfold pushEntries
  repeat'
    first
      | (with_reducible first
          | intro _ | assumption | apply pushEntry_kept | apply kept_foldl)
theorem reportRound_kept (rd : Round) (g : Option Nat) (s : State) (hk : Kept q s) :
    Kept q (reportRound rd g s) := by
  unfold reportRound
  repeat'
    first
      | (with_reducible first
          | intro _ | assumption | apply pushEntries_kept)
      | (extract_lets +onlyGivenNames x; first | (refine kept_cut (q := q) (x := x) ?_ ?_ <;> [(unfold x; clear x); (intro hx; clear_value x)]) | clear_value x)
      | simp only [kept_update]
theorem takeRanges_kept (rd : Round) (s : State) (hk : Kept q s) :
    Kept q (takeRanges rd s) := by
  unfold takeRanges
  repeat'
    first
      | (with_reducible first
          | intro _ | assumption | apply State.setLive_kept | apply kept_foldl) | split
theorem roundSession_kept (rd : Round) (g : Option Answer) (s : State) (hk : Kept q s) :
    Kept q (roundSession rd g s) := by
  unfold roundSession
  dsimp only
  repeat'
    first
      | (with_reducible first
          | intro _ | assumption | apply reportSess_kept | apply endSession_kept | apply openSession_kept
          | apply doorCheck_kept | apply kept_ite)
      | (extract_lets +onlyGivenNames x; first | (refine kept_cut (q := q) (x := x) ?_ ?_ <;> [(unfold x; clear x); (intro hx; clear_value x)]) | clear_value x)
      | simp only [kept_update] | split
theorem parkOutcome_kept (rd : Round) (g : Option Answer) (s : State) (hk : Kept q s) :
    Kept q (parkOutcome rd g s) := by
  unfold parkOutcome
  repeat'
    first
      | (with_reducible first
          | intro _ | assumption | apply raiseWake_kept | apply kept_ite)
      | (extract_lets +onlyGivenNames x; first | (refine kept_cut (q := q) (x := x) ?_ ?_ <;> [(unfold x; clear x); (intro hx; clear_value x)]) | clear_value x)
      | simp only [kept_update] | split
theorem radioFaults_kept (lf uwb : Nat) (s : State) (hk : Kept q s) :
    Kept q (radioFaults lf uwb s) := by
  unfold radioFaults
  repeat'
    first
      | (with_reducible first
          | intro _ | assumption | apply State.setLive_kept | apply pushAcc_kept | apply kept_foldl | apply kept_ite)
      | (extract_lets +onlyGivenNames x; first | (refine kept_cut (q := q) (x := x) ?_ ?_ <;> [(unfold x; clear x); (intro hx; clear_value x)]) | clear_value x)
      | split
theorem startTest_kept (i ant : Nat) (s : State) (hk : Kept q s) :
    Kept q (startTest i ant s) := by
  unfold startTest
  repeat'
    first
      | (with_reducible first
          | intro _ | assumption | apply startRound_kept | apply kept_ite)
      | (extract_lets +onlyGivenNames x; first | (refine kept_cut (q := q) (x := x) ?_ ?_ <;> [(unfold x; clear x); (intro hx; clear_value x)]) | clear_value x)
      | simp only [kept_update] | split
theorem nextRound_kept (s : State) (hk : Kept q s) :
    Kept q (nextRound s) := by
  unfold nextRound
  repeat'
    first
      | (with_reducible first
          | intro _ | assumption | apply startRound_kept | apply startTest_kept | apply kept_ite)
      | (extract_lets +onlyGivenNames x; first | (refine kept_cut (q := q) (x := x) ?_ ?_ <;> [(unfold x; clear x); (intro hx; clear_value x)]) | clear_value x)
      | simp only [kept_update] | split
theorem finishRound_kept (lf uwb : Nat) (s : State) (hk : Kept q s) :
    Kept q (finishRound lf uwb s) := by
  unfold finishRound
  repeat'
    first
      | (with_reducible first
          | intro _ | assumption | apply reportRound_kept | apply takeRanges_kept | apply roundSession_kept
          | apply parkOutcome_kept | apply radioFaults_kept | apply nextRound_kept | apply kept_ite)
      | (extract_lets +onlyGivenNames x; first | (refine kept_cut (q := q) (x := x) ?_ ?_ <;> [(unfold x; clear x); (intro hx; clear_value x)]) | clear_value x)
      | simp only [kept_update] | split
theorem parkPollStep_kept (s : State) (hk : Kept q s) :
    Kept q (parkPollStep s) := by
  unfold parkPollStep
  repeat'
    first
      | (with_reducible first
          | intro _ | assumption | apply present_kept | apply radioFaults_kept | apply kept_ite)
      | (extract_lets +onlyGivenNames x; first | (refine kept_cut (q := q) (x := x) ?_ ?_ <;> [(unfold x; clear x); (intro hx; clear_value x)]) | clear_value x)
      | simp only [kept_update] | split
theorem presence_kept (i : Nat) (s : State) (hk : Kept q s) :
    Kept q (presence i s) := by
  unfold presence
  repeat'
    first
      | (with_reducible first
          | intro _ | assumption | apply present_kept | apply startRound_kept | apply kept_ite)
      | (extract_lets +onlyGivenNames x; first | (refine kept_cut (q := q) (x := x) ?_ ?_ <;> [(unfold x; clear x); (intro hx; clear_value x)]) | clear_value x)
      | simp only [kept_update] | split
theorem touch_kept (h : Nat) (s : State) (hk : Kept q s) :
    Kept q (touch h s) := by
  unfold touch
  repeat'
    first
      | (with_reducible first
          | intro _ | assumption | apply reportHandle_kept | apply startRound_kept | apply kept_ite)
      | (extract_lets +onlyGivenNames x; first | (refine kept_cut (q := q) (x := x) ?_ ?_ <;> [(unfold x; clear x); (intro hx; clear_value x)]) | clear_value x)
      | simp only [kept_update] | split
theorem scanHandle_kept (h : Nat) (above : Bool) (s : State) (hk : Kept q s) :
    Kept q (scanHandle h above s) := by
  unfold scanHandle
  repeat'
    first
      | (with_reducible first
          | intro _ | assumption | apply reportHandle_kept | apply touch_kept | apply kept_ite)
      | (extract_lets +onlyGivenNames x; first | (refine kept_cut (q := q) (x := x) ?_ ?_ <;> [(unfold x; clear x); (intro hx; clear_value x)]) | clear_value x)
      | simp only [kept_update] | split
theorem stuckHandle_kept (h : Nat) (s : State) (hk : Kept q s) :
    Kept q (stuckHandle h s) := by
  unfold stuckHandle
  repeat'
    first
      | (with_reducible first
          | intro _ | assumption | apply reportHandle_kept | apply kept_ite)
      | (extract_lets +onlyGivenNames x; first | (refine kept_cut (q := q) (x := x) ?_ ?_ <;> [(unfold x; clear x); (intro hx; clear_value x)]) | clear_value x)
      | simp only [kept_update] | split
theorem commandRound_kept (ant : Nat) (v : Word) (s : State) (hk : Kept q s) :
    Kept q (commandRound ant v s) := by
  unfold commandRound
  repeat'
    first
      | (with_reducible first
          | intro _ | assumption | apply refuseAcc_kept | apply startRound_kept | apply kept_ite) | split
theorem roundCommand_kept (trigger ant : Nat) (test : Option Nat) (s : State) (hk : Kept q s) :
    Kept q (roundCommand trigger ant test s) := by
  unfold roundCommand
  repeat'
    first
      | (with_reducible first
          | intro _ | assumption | apply refuseAcc_kept | apply startRound_kept | apply startTest_kept
          | apply kept_ite) | simp only [kept_update] | split
theorem tokWrite_kept (i : Nat) (v : Word) (s : State) (hk : Kept q s) :
    Kept q (tokWrite i v s) := by
  unfold tokWrite
  repeat'
    first
      | (with_reducible first
          | intro _ | assumption | apply State.setLive_kept | apply endSession_kept | apply loadLatch_kept
          | apply kept_ite)
      | (extract_lets +onlyGivenNames x; first | (refine kept_cut (q := q) (x := x) ?_ ?_ <;> [(unfold x; clear x); (intro hx; clear_value x)]) | clear_value x)
      | split
theorem denRun_kept (v : Word) (s : State) (hk : Kept q s) :
    Kept q (denRun v s) := by
  unfold denRun
  repeat'
    first
      | (with_reducible first
          | intro _ | assumption | apply reportDen_kept | apply refuseAcc_kept | apply kept_ite)
      | simp only [kept_update] | split
theorem denStopSoon_kept (cause : Nat) (s : State) (hk : Kept q s) :
    Kept q (denStopSoon cause s) := by
  unfold denStopSoon
  repeat'
    first
      | (with_reducible first
          | intro _ | assumption | apply kept_ite) | simp only [kept_update] | split
theorem denStopNow_kept (cause : Nat) (st : DenState) (s : State) (hk : Kept q s) :
    Kept q (denStopNow cause st s) := by
  unfold denStopNow
  repeat'
    first
      | (with_reducible first
          | intro _ | assumption | apply reportDen_kept | apply kept_ite) | simp only [kept_update] | split
theorem denClearCmd_kept (s : State) (hk : Kept q s) :
    Kept q (denClearCmd s) := by
  unfold denClearCmd
  repeat'
    first
      | (with_reducible first
          | intro _ | assumption | apply reportDen_kept | apply kept_ite) | simp only [kept_update] | split
theorem denCtl_kept (v : Word) (s : State) (hk : Kept q s) :
    Kept q (denCtl v s) := by
  unfold denCtl
  repeat'
    first
      | (with_reducible first
          | intro _ | assumption | apply denRun_kept | apply denStopSoon_kept | apply denClearCmd_kept
          | apply kept_ite)
      | (extract_lets +onlyGivenNames x; first | (refine kept_cut (q := q) (x := x) ?_ ?_ <;> [(unfold x; clear x); (intro hx; clear_value x)]) | clear_value x)
      | split
theorem denCfg_kept (v : Word) (s : State) (hk : Kept q s) :
    Kept q (denCfg v s) := by
  unfold denCfg
  repeat'
    first
      | (with_reducible first
          | intro _ | assumption | apply State.setLive_kept | apply refuseAcc_kept | apply denStopSoon_kept
          | apply kept_ite)
      | (extract_lets +onlyGivenNames x; first | (refine kept_cut (q := q) (x := x) ?_ ?_ <;> [(unfold x; clear x); (intro hx; clear_value x)]) | clear_value x)
      | split
theorem denHalf_kept (readP readN : Bool) (s : State) (hk : Kept q s) :
    Kept q (denHalf readP readN s) := by
  unfold denHalf
  repeat'
    first
      | (with_reducible first
          | intro _ | assumption | apply denStopNow_kept | apply kept_ite)
      | (extract_lets +onlyGivenNames x; first | (refine kept_cut (q := q) (x := x) ?_ ?_ <;> [(unfold x; clear x); (intro hx; clear_value x)]) | clear_value x)
      | simp only [kept_update] | split
theorem accClaim_kept (s : State) (hk : Kept q s) :
    Kept q (accClaim s) := by
  unfold accClaim
  repeat'
    first
      | (with_reducible first
          | intro _ | assumption | apply State.modTgt_kept | apply pushEntry_kept)
      | (extract_lets +onlyGivenNames x; first | (refine kept_cut (q := q) (x := x) ?_ ?_ <;> [(unfold x; clear x); (intro hx; clear_value x)]) | clear_value x)
      | simp only [kept_update]
theorem denClaim_kept (s : State) (hk : Kept q s) :
    Kept q (denClaim s) := by
  unfold denClaim
  repeat'
    first
      | (with_reducible first
          | intro _ | assumption | apply pushEntry_kept)
      | (extract_lets +onlyGivenNames x; first | (refine kept_cut (q := q) (x := x) ?_ ?_ <;> [(unfold x; clear x); (intro hx; clear_value x)]) | clear_value x)
      | simp only [kept_update]
theorem presentParkRecords_kept (s : State) (hk : Kept q s) :
    Kept q (presentParkRecords s) := by
  unfold presentParkRecords
  repeat'
    first
      | (with_reducible first
          | intro _ | assumption | apply State.setLive_kept | apply present_kept | apply kept_ite)
      | (extract_lets +onlyGivenNames x; first | (refine kept_cut (q := q) (x := x) ?_ ?_ <;> [(unfold x; clear x); (intro hx; clear_value x)]) | clear_value x)
      | simp only [kept_update] | split
theorem accApply_kept (a : Nat) (v : Word) (s : State) (hk : Kept q s) :
    Kept q (accApply a v s) := by
  unfold accApply
  repeat'
    first
      | (with_reducible first
          | intro _ | assumption | apply State.setLive_kept | apply refuseAcc_kept | apply endSession_kept
          | apply commandRound_kept | apply tokWrite_kept | apply kept_ite)
      | (extract_lets +onlyGivenNames x; first | (refine kept_cut (q := q) (x := x) ?_ ?_ <;> [(unfold x; clear x); (intro hx; clear_value x)]) | clear_value x)
      | split
theorem denApply_kept (a : Nat) (v : Word) (s : State) (hk : Kept q s) :
    Kept q (denApply a v s) := by
  unfold denApply
  repeat'
    first
      | (with_reducible first
          | intro _ | assumption | apply denCtl_kept | apply denCfg_kept | apply kept_ite) | split
theorem accSilence_kept (s : State) (hk : Kept q s) :
    Kept q (accSilence s) := by
  unfold accSilence
  repeat'
    first
      | (with_reducible first
          | intro _ | assumption | apply State.modTgt_kept | apply kept_ite) | simp only [kept_update] | split
theorem execParkPoll_kept (s : State) (hk : Kept q s) :
    KeptO q (execParkPoll s) := by
  unfold execParkPoll
  repeat'
    first
      | (with_reducible first
          | intro _ | assumption | apply parkPollStep_kept | apply keptO_next)
theorem execPollPeriodDouble_kept (s : State) (hk : Kept q s) :
    KeptO q (execPollPeriodDouble s) := by
  unfold execPollPeriodDouble
  repeat'
    first
      | (with_reducible first
          | intro _ | assumption | apply kept_ite | apply keptO_ite | apply keptO_next) | simp only [kept_update]
      | split
theorem execPresenceFrame_kept (i : Fin 16) (s : State) (hk : Kept q s) :
    KeptO q (execPresenceFrame i s) := by
  unfold execPresenceFrame
  repeat'
    first
      | (with_reducible first
          | intro _ | assumption | apply presence_kept | apply keptO_next)
theorem execHandleScan_kept (h : Fin 4) (above : Bool) (s : State) (hk : Kept q s) :
    KeptO q (execHandleScan h above s) := by
  unfold execHandleScan
  repeat'
    first
      | (with_reducible first
          | intro _ | assumption | apply scanHandle_kept | apply keptO_next)
theorem execHandleStuck_kept (h : Fin 4) (s : State) (hk : Kept q s) :
    KeptO q (execHandleStuck h s) := by
  unfold execHandleStuck
  repeat'
    first
      | (with_reducible first
          | intro _ | assumption | apply stuckHandle_kept | apply keptO_next)
theorem execTokenReply_kept (i : Fin 16) (r : Reply) (s : State) (hk : Kept q s) :
    KeptO q (execTokenReply i r s) := by
  unfold execTokenReply
  repeat'
    first
      | (with_reducible first
          | intro _ | assumption | apply takeReply_kept | apply keptO_next)
theorem execRetryTelegram_kept (s : State) (hk : Kept q s) :
    KeptO q (execRetryTelegram s) := by
  unfold execRetryTelegram
  repeat'
    first
      | (with_reducible first
          | intro _ | assumption | apply sendRetry_kept | apply keptO_next)
theorem execRoundEnd_kept (lf : BitVec 6) (uwb : BitVec 4) (s : State) (hk : Kept q s) :
    KeptO q (execRoundEnd lf uwb s) := by
  unfold execRoundEnd
  repeat'
    first
      | (with_reducible first
          | intro _ | assumption | apply finishRound_kept | apply keptO_next)
theorem execRound_kept (ant : BitVec 6) (s : State) (hk : Kept q s) :
    KeptO q (execRound ant s) := by
  unfold execRound
  repeat'
    first
      | (with_reducible first
          | intro _ | assumption | apply accApply_kept | apply kept_ite | apply keptO_ite | apply keptO_next) | split
theorem execSessEnd_kept (s : State) (hk : Kept q s) :
    KeptO q (execSessEnd s) := by
  unfold execSessEnd
  repeat'
    first
      | (with_reducible first
          | intro _ | assumption | apply endSession_kept | apply kept_ite | apply keptO_ite | apply keptO_next)
      | split
theorem execTokenWrite_kept (i : Fin 16) (v : Word) (s : State) (hk : Kept q s) :
    KeptO q (execTokenWrite i v s) := by
  unfold execTokenWrite
  repeat'
    first
      | (with_reducible first
          | intro _ | assumption | apply tokWrite_kept | apply kept_ite | apply keptO_ite | apply keptO_next) | split
theorem execSessionTimeout_kept (s : State) (hk : Kept q s) :
    KeptO q (execSessionTimeout s) := by
  unfold execSessionTimeout
  repeat'
    first
      | (with_reducible first
          | intro _ | assumption | apply endSession_kept | apply kept_ite | apply keptO_ite | apply keptO_next)
      | split
theorem execRun_kept (s : State) (hk : Kept q s) :
    KeptO q (execRun s) := by
  unfold execRun
  repeat'
    first
      | (with_reducible first
          | intro _ | assumption | apply denRun_kept | apply kept_ite | apply keptO_ite | apply keptO_next) | split
theorem execStop_kept (s : State) (hk : Kept q s) :
    KeptO q (execStop s) := by
  unfold execStop
  repeat'
    first
      | (with_reducible first
          | intro _ | assumption | apply denStopSoon_kept | apply kept_ite | apply keptO_ite | apply keptO_next)
      | split
theorem execDenClear_kept (s : State) (hk : Kept q s) :
    KeptO q (execDenClear s) := by
  unfold execDenClear
  repeat'
    first
      | (with_reducible first
          | intro _ | assumption | apply denClearCmd_kept | apply kept_ite | apply keptO_ite | apply keptO_next)
      | split
theorem execDenCfgWrite_kept (v : Word) (s : State) (hk : Kept q s) :
    KeptO q (execDenCfgWrite v s) := by
  unfold execDenCfgWrite
  repeat'
    first
      | (with_reducible first
          | intro _ | assumption | apply denCfg_kept | apply kept_ite | apply keptO_ite | apply keptO_next) | split
theorem execDenHalfPeriod_kept (readP readN : Bool) (s : State) (hk : Kept q s) :
    KeptO q (execDenHalfPeriod readP readN s) := by
  unfold execDenHalfPeriod
  repeat'
    first
      | (with_reducible first
          | intro _ | assumption | apply denHalf_kept | apply keptO_next)
theorem execDenSilence_kept (s : State) (hk : Kept q s) :
    KeptO q (execDenSilence s) := by
  unfold execDenSilence
  repeat'
    first
      | (with_reducible first
          | intro _ | assumption | apply denStopSoon_kept | apply kept_ite | apply keptO_ite | apply keptO_next)
      | split
theorem execAccUnitSilent_kept (s : State) (hk : Kept q s) :
    KeptO q (execAccUnitSilent s) := by
  unfold execAccUnitSilent
  repeat'
    first
      | (with_reducible first
          | intro _ | assumption | apply accSilence_kept | apply keptO_next)
/-! ### Bus -/
theorem countsShown_kept (b : Nat) (s : State) (hk : Kept q s) :
    Kept q (countsShown b s) := by
  unfold countsShown
  repeat'
    first
      | (with_reducible first
          | intro _ | assumption | apply State.modBus_kept | apply overrun_kept) | simp only [kept_update]
theorem presentBus_kept (b : Nat) (ws : List Word) (recs : List RecDraft) (s : State) (hk : Kept q s) :
    Kept q (presentBus b ws recs s) := by
  unfold presentBus
  repeat'
    first
      | (with_reducible first
          | intro _ | assumption | apply present_kept | apply countsShown_kept)
theorem busReport_kept (b kind code : Nat) (w1 : Word) (s : State) (hk : Kept q s) :
    Kept q (busReport b kind code w1 s) := by
  unfold busReport
  repeat'
    first
      | (with_reducible first
          | intro _ | assumption | apply presentBus_kept)
theorem busStateNow_kept (b code : Nat) (s : State) (hk : Kept q s) :
    Kept q (busStateNow b code s) := by
  unfold busStateNow
  repeat'
    first
      | (with_reducible first
          | intro _ | assumption | apply busReport_kept)
theorem busStateLater_kept (b code : Nat) (node : Option Nat) (s : State) (hk : Kept q s) :
    Kept q (busStateLater b code node s) := by
  unfold busStateLater
  repeat'
    first
      | (with_reducible first
          | intro _ | assumption | apply pushEntry_kept)
      | (extract_lets +onlyGivenNames x; first | (refine kept_cut (q := q) (x := x) ?_ ?_ <;> [(unfold x; clear x); (intro hx; clear_value x)]) | clear_value x)
      | simp only [kept_update] | split
theorem busWindow_kept (b code cycle col idx : Nat) (s : State) (hk : Kept q s) :
    Kept q (busWindow b code cycle col idx s) := by
  unfold busWindow
  repeat'
    first
      | (with_reducible first
          | intro _ | assumption | apply busReport_kept)
theorem busNotSent_kept (b tag reason : Nat) (s : State) (hk : Kept q s) :
    Kept q (busNotSent b tag reason s) := by
  unfold busNotSent
  repeat'
    first
      | (with_reducible first
          | intro _ | assumption | apply presentBus_kept)
theorem busSent_kept (b : Nat) (obj : Bool) (tag sof : Nat) (s : State) (hk : Kept q s) :
    Kept q (busSent b obj tag sof s) := by
  unfold busSent
  repeat'
    first
      | (with_reducible first
          | intro _ | assumption | apply presentBus_kept)
theorem refuseBus_kept (b reason a : Nat) (v : Word) (s : State) (hk : Kept q s) :
    Kept q (refuseBus b reason a v s) := by
  unfold refuseBus
  repeat'
    first
      | (with_reducible first
          | intro _ | assumption | apply State.modTgt_kept) | simp only [kept_update]
theorem busClose_kept (b : Nat) (s : State) (hk : Kept q s) :
    Kept q (busClose b s) := by
  unfold busClose
  repeat'
    first
      | (with_reducible first
          | intro _ | assumption | apply State.modTgt_kept | apply State.setReported_kept | apply present_kept
          | apply countsShown_kept | apply presentBus_kept | apply kept_foldl)
      | (extract_lets +onlyGivenNames x; first | (refine kept_cut (q := q) (x := x) ?_ ?_ <;> [(unfold x; clear x); (intro hx; clear_value x)]) | clear_value x)
      | simp only [kept_update] | split
theorem markStarted_kept (b : Nat) (s : State) (hk : Kept q s) :
    Kept q (markStarted b s) := by
  unfold markStarted
  repeat'
    first
      | (with_reducible first
          | intro _ | assumption | apply State.modBus_kept | apply kept_ite) | simp only [kept_update] | split
theorem busQueueReq_kept (b tag : Nat) (fr : List Word) (s : State) (hk : Kept q s) :
    Kept q (busQueueReq b tag fr s) := by
  unfold busQueueReq
  repeat'
    first
      | (with_reducible first
          | intro _ | assumption | apply State.modBus_kept | apply busNotSent_kept | apply markStarted_kept
          | apply kept_ite)
      | (extract_lets +onlyGivenNames x; first | (refine kept_cut (q := q) (x := x) ?_ ?_ <;> [(unfold x; clear x); (intro hx; clear_value x)]) | clear_value x)
      | simp only [kept_update] | split
theorem busUpdateReq_kept (b obj tag : Nat) (fr : List Word) (s : State) (hk : Kept q s) :
    Kept q (busUpdateReq b obj tag fr s) := by
  unfold busUpdateReq
  repeat'
    first
      | (with_reducible first
          | intro _ | assumption | apply State.modBus_kept | apply busNotSent_kept | apply kept_ite)
      | simp only [kept_update] | split
theorem busAbortReq_kept (b tag : Nat) (s : State) (hk : Kept q s) :
    Kept q (busAbortReq b tag s) := by
  unfold busAbortReq
  repeat'
    first
      | (with_reducible first
          | intro _ | assumption | apply State.modBus_kept | apply busNotSent_kept | apply kept_ite)
      | (extract_lets +onlyGivenNames x; first | (refine kept_cut (q := q) (x := x) ?_ ?_ <;> [(unfold x; clear x); (intro hx; clear_value x)]) | clear_value x)
      | simp only [kept_update] | split
theorem busSubmit_kept (b op obj tag : Nat) (fr : List Word) (s : State) (hk : Kept q s) :
    Kept q (busSubmit b op obj tag fr s) := by
  unfold busSubmit
  repeat'
    first
      | (with_reducible first
          | intro _ | assumption | apply refuseBus_kept | apply busQueueReq_kept | apply busUpdateReq_kept
          | apply busAbortReq_kept) | split
theorem queuedSent_kept (b tag sof : Nat) (s : State) (hk : Kept q s) :
    Kept q (queuedSent b tag sof s) := by
  unfold queuedSent
  repeat'
    first
      | (with_reducible first
          | intro _ | assumption | apply State.modBus_kept | apply busSent_kept | apply kept_ite)
      | (extract_lets +onlyGivenNames x; first | (refine kept_cut (q := q) (x := x) ?_ ?_ <;> [(unfold x; clear x); (intro hx; clear_value x)]) | clear_value x)
      | simp only [kept_update] | split
theorem objectSent_kept (b obj sof : Nat) (s : State) (hk : Kept q s) :
    Kept q (objectSent b obj sof s) := by
  unfold objectSent
  repeat'
    first
      | (with_reducible first
          | intro _ | assumption | apply State.modBus_kept | apply busSent_kept | apply kept_ite)
      | simp only [kept_update] | split
theorem wufFrame_kept (n : Nat) (fr : List Word) (s : State) (hk : Kept q s) :
    Kept q (wufFrame n fr s) := by
  unfold wufFrame
  repeat'
    first
      | (with_reducible first
          | intro _ | assumption | apply raiseWake_kept | apply kept_ite)
      | (extract_lets +onlyGivenNames x; first | (refine kept_cut (q := q) (x := x) ?_ ?_ <;> [(unfold x; clear x); (intro hx; clear_value x)]) | clear_value x)
      | split
theorem storeFrame_kept (b flt cycle col : Nat) (fr : List Word) (sof : Nat) (s : State) (hk : Kept q s) :
    Kept q (storeFrame b flt cycle col fr sof s) := by
  unfold storeFrame
  repeat'
    first
      | (with_reducible first
          | intro _ | assumption | apply State.modBus_kept | apply present_kept | apply overrun_kept)
      | (extract_lets +onlyGivenNames x; first | (refine kept_cut (q := q) (x := x) ?_ ?_ <;> [(unfold x; clear x); (intro hx; clear_value x)]) | clear_value x)
      | simp only [kept_update] | split
theorem gotExpected_kept (b flt : Nat) (s : State) (hk : Kept q s) :
    Kept q (gotExpected b flt s) := by
  unfold gotExpected
  repeat'
    first
      | (with_reducible first
          | intro _ | assumption | apply State.modBus_kept | apply kept_ite) | simp only [kept_update] | split
theorem compareCopies_kept (b : Nat) (same : Bool) (s : State) (hk : Kept q s) :
    Kept q (compareCopies b same s) := by
  unfold compareCopies
  repeat'
    first
      | (with_reducible first
          | intro _ | assumption | apply State.modBus_kept | apply kept_ite) | simp only [kept_update] | split
theorem frameReceived_kept (b : Nat) (fr : List Word) (sof cycle col : Nat) (same badFcs : Bool) (s : State) (hk : Kept q s) :
    Kept q (frameReceived b fr sof cycle col same badFcs s) := by
  unfold frameReceived
  repeat'
    first
      | (with_reducible first
          | intro _ | assumption | apply State.modBus_kept | apply wufFrame_kept | apply storeFrame_kept
          | apply gotExpected_kept | apply compareCopies_kept | apply kept_ite)
      | (extract_lets +onlyGivenNames x; first | (refine kept_cut (q := q) (x := x) ?_ ?_ <;> [(unfold x; clear x); (intro hx; clear_value x)]) | clear_value x)
      | simp only [kept_update] | split
theorem setCapture_kept (i : Nat) (ws : List Word) (s : State) (hk : Kept q s) :
    Kept q (setCapture i ws s) := by
  unfold setCapture
  repeat'
    first
      | (with_reducible first
          | intro _ | assumption | apply State.setSram_kept | apply kept_foldl)
theorem capture_kept (seq : Nat) (words : List Word) (s : State) (hk : Kept q s) :
    Kept q (capture seq words s) := by
  unfold capture
  repeat'
    first
      | (with_reducible first
          | intro _ | assumption | apply setCapture_kept)
      | (extract_lets +onlyGivenNames x; first | (refine kept_cut (q := q) (x := x) ?_ ?_ <;> [(unfold x; clear x); (intro hx; clear_value x)]) | clear_value x)
      | simp only [kept_update]
theorem showOwned_kept (b : Nat) (s : State) (hk : Kept q s) :
    Kept q (showOwned b s) := by
  unfold showOwned
  repeat'
    first
      | (with_reducible first
          | intro _ | assumption | apply State.setCopy_kept)
      | (extract_lets +onlyGivenNames x; first | (refine kept_cut (q := q) (x := x) ?_ ?_ <;> [(unfold x; clear x); (intro hx; clear_value x)]) | clear_value x)
theorem takeFrame_kept (b slot flt : Nat) (words : List Word) (seq : Nat) (s : State) (hk : Kept q s) :
    Kept q (takeFrame b slot flt words seq s) := by
  unfold takeFrame
  repeat'
    first
      | (with_reducible first
          | intro _ | assumption | apply State.modBus_kept | apply State.setCopy_kept | apply State.setSrams_kept
          | apply capture_kept | apply showOwned_kept | apply kept_ite)
      | (extract_lets +onlyGivenNames x; first | (refine kept_cut (q := q) (x := x) ?_ ?_ <;> [(unfold x; clear x); (intro hx; clear_value x)]) | clear_value x)
      | simp only [kept_update] | split
theorem ackSlot_kept (b k : Nat) (s : State) (hk : Kept q s) :
    Kept q (ackSlot b k s) := by
  unfold ackSlot
  repeat'
    first
      | (with_reducible first
          | intro _ | assumption | apply State.modBus_kept | apply State.setCopy_kept | apply showOwned_kept
          | apply kept_ite)
      | (extract_lets +onlyGivenNames x; first | (refine kept_cut (q := q) (x := x) ?_ ?_ <;> [(unfold x; clear x); (intro hx; clear_value x)]) | clear_value x)
      | simp only [kept_update] | split
theorem ackAll_kept (b : Nat) (s : State) (hk : Kept q s) :
    Kept q (ackAll b s) := by
  unfold ackAll
  repeat'
    first
      | (with_reducible first
          | intro _ | assumption | apply ackSlot_kept | apply kept_foldl)
      | (extract_lets +onlyGivenNames x; first | (refine kept_cut (q := q) (x := x) ?_ ?_ <;> [(unfold x; clear x); (intro hx; clear_value x)]) | clear_value x)
theorem busOff_kept (n : Nat) (s : State) (hk : Kept q s) :
    Kept q (busOff n s) := by
  unfold busOff
  repeat'
    first
      | (with_reducible first
          | intro _ | assumption | apply State.modBus_kept | apply busStateNow_kept | apply busStateLater_kept
          | apply busNotSent_kept | apply kept_ite)
      | (extract_lets +onlyGivenNames x; first | (refine kept_cut (q := q) (x := x) ?_ ?_ <;> [(unfold x; clear x); (intro hx; clear_value x)]) | clear_value x)
      | simp only [kept_update] | split
theorem canErrorStep_kept (n tec fr lec : Nat) (s : State) (hk : Kept q s) :
    Kept q (canErrorStep n tec fr lec s) := by
  unfold canErrorStep
  repeat'
    first
      | (with_reducible first
          | intro _ | assumption | apply State.modBus_kept | apply busStateLater_kept | apply busOff_kept
          | apply kept_ite)
      | (extract_lets +onlyGivenNames x; first | (refine kept_cut (q := q) (x := x) ?_ ?_ <;> [(unfold x; clear x); (intro hx; clear_value x)]) | clear_value x)
      | simp only [kept_update] | split
theorem busOffEnd_kept (n : Nat) (s : State) (hk : Kept q s) :
    Kept q (busOffEnd n s) := by
  unfold busOffEnd
  repeat'
    first
      | (with_reducible first
          | intro _ | assumption | apply State.modBus_kept | apply busStateLater_kept | apply kept_ite)
      | (extract_lets +onlyGivenNames x; first | (refine kept_cut (q := q) (x := x) ?_ ?_ <;> [(unfold x; clear x); (intro hx; clear_value x)]) | clear_value x)
      | simp only [kept_update] | split
theorem recoverStep_kept (n : Nat) (s : State) (hk : Kept q s) :
    Kept q (recoverStep n s) := by
  unfold recoverStep
  repeat'
    first
      | (with_reducible first
          | intro _ | assumption | apply State.modBus_kept) | simp only [kept_update]
theorem moveStep_kept (b : Nat) (s : State) (hk : Kept q s) :
    Kept q (moveStep b s) := by
  unfold moveStep
  repeat'
    first
      | (with_reducible first
          | intro _ | assumption | apply State.modBus_kept | apply busStateNow_kept | apply kept_ite)
      | (extract_lets +onlyGivenNames x; first | (refine kept_cut (q := q) (x := x) ?_ ?_ <;> [(unfold x; clear x); (intro hx; clear_value x)]) | clear_value x)
      | simp only [kept_update] | split
theorem domStep_kept (b : Nat) (s : State) (hk : Kept q s) :
    Kept q (domStep b s) := by
  unfold domStep
  repeat'
    first
      | (with_reducible first
          | intro _ | assumption | apply State.modBus_kept | apply busStateLater_kept | apply moveStep_kept
          | apply kept_ite) | simp only [kept_update] | split
theorem moveBack_kept (b : Nat) (s : State) (hk : Kept q s) :
    Kept q (moveBack b s) := by
  unfold moveBack
  repeat'
    first
      | (with_reducible first
          | intro _ | assumption | apply State.modBus_kept | apply busStateLater_kept | apply joined_kept
          | apply kept_ite)
      | (extract_lets +onlyGivenNames x; first | (refine kept_cut (q := q) (x := x) ?_ ?_ <;> [(unfold x; clear x); (intro hx; clear_value x)]) | clear_value x)
      | simp only [kept_update] | split
theorem busClaim_kept (b : Nat) (l : Lane) (s : State) (hk : Kept q s) :
    Kept q (busClaim b l s) := by
  unfold busClaim
  repeat'
    first
      | (with_reducible first
          | intro _ | assumption | apply State.modBus_kept | apply kept_ite) | simp only [kept_update] | split
theorem ttRestoreCells_kept (s : State) (n : Nat) (hk : Kept q s) :
    Kept q (ttRestoreCells s n) := by
  unfold ttRestoreCells
  repeat'
    first
      | (with_reducible first
          | intro _ | assumption | apply State.setLive_kept | apply kept_foldl)
      | (extract_lets +onlyGivenNames x; first | (refine kept_cut (q := q) (x := x) ?_ ?_ <;> [(unfold x; clear x); (intro hx; clear_value x)]) | clear_value x)
theorem ttTakeCells_kept (s : State) (n : Nat) (hk : Kept q s) :
    Kept q (ttTakeCells s n) := by
  unfold ttTakeCells
  repeat'
    first
      | (with_reducible first
          | intro _ | assumption | apply State.modBus_kept | apply State.setLive_kept | apply kept_foldr)
      | simp only [kept_update]
theorem resumeQueue_kept (n : Nat) (s : State) (hk : Kept q s) :
    Kept q (resumeQueue n s) := by
  unfold resumeQueue
  repeat'
    first
      | (with_reducible first
          | intro _ | assumption | apply State.modBus_kept | apply kept_ite) | simp only [kept_update] | split
theorem ttCycle_kept (n : Nat) (s : State) (hk : Kept q s) :
    Kept q (ttCycle n s) := by
  unfold ttCycle
  repeat'
    first
      | (with_reducible first
          | intro _ | assumption | apply State.modBus_kept | apply ttTakeCells_kept | apply resumeQueue_kept
          | apply kept_ite)
      | (extract_lets +onlyGivenNames x; first | (refine kept_cut (q := q) (x := x) ?_ ?_ <;> [(unfold x; clear x); (intro hx; clear_value x)]) | clear_value x)
      | simp only [kept_update] | split
theorem ttMiss_kept (n code idx : Nat) (s : State) (hk : Kept q s) :
    Kept q (ttMiss n code idx s) := by
  unfold ttMiss
  repeat'
    first
      | (with_reducible first
          | intro _ | assumption | apply State.modBus_kept | apply busWindow_kept)
      | (extract_lets +onlyGivenNames x; first | (refine kept_cut (q := q) (x := x) ?_ ?_ <;> [(unfold x; clear x); (intro hx; clear_value x)]) | clear_value x)
      | simp only [kept_update]
theorem ttOpen_kept (n : Nat) (fits : Bool) (s : State) (hk : Kept q s) :
    Kept q (ttOpen n fits s) := by
  unfold ttOpen
  dsimp only
  repeat'
    first
      | (with_reducible first
          | intro _ | assumption | apply State.modBus_kept | apply ttMiss_kept | apply kept_ite)
      | (extract_lets +onlyGivenNames x; first | (refine kept_cut (q := q) (x := x) ?_ ?_ <;> [(unfold x; clear x); (intro hx; clear_value x)]) | clear_value x)
      | simp only [kept_update] | split
theorem ttClose_kept (n : Nat) (s : State) (hk : Kept q s) :
    Kept q (ttClose n s) := by
  unfold ttClose
  repeat'
    first
      | (with_reducible first
          | intro _ | assumption | apply State.modBus_kept | apply ttMiss_kept | apply kept_ite)
      | simp only [kept_update] | split
theorem ttLose_kept (n code : Nat) (s : State) (hk : Kept q s) :
    Kept q (ttLose n code s) := by
  unfold ttLose
  repeat'
    first
      | (with_reducible first
          | intro _ | assumption | apply State.modBus_kept | apply busWindow_kept)
      | (extract_lets +onlyGivenNames x; first | (refine kept_cut (q := q) (x := x) ?_ ?_ <;> [(unfold x; clear x); (intro hx; clear_value x)]) | clear_value x)
      | simp only [kept_update]
theorem ttReference_kept (n cycle : Nat) (gap higher : Bool) (s : State) (hk : Kept q s) :
    Kept q (ttReference n cycle gap higher s) := by
  unfold ttReference
  repeat'
    first
      | (with_reducible first
          | intro _ | assumption | apply State.modBus_kept | apply busStateLater_kept | apply resumeQueue_kept
          | apply ttLose_kept | apply kept_ite)
      | (extract_lets +onlyGivenNames x; first | (refine kept_cut (q := q) (x := x) ?_ ?_ <;> [(unfold x; clear x); (intro hx; clear_value x)]) | clear_value x)
      | simp only [kept_update] | split
theorem ttSyncLost_kept (n : Nat) (s : State) (hk : Kept q s) :
    Kept q (ttSyncLost n s) := by
  unfold ttSyncLost
  repeat'
    first
      | (with_reducible first
          | intro _ | assumption | apply State.modBus_kept | apply ttLose_kept | apply kept_ite)
      | (extract_lets +onlyGivenNames x; first | (refine kept_cut (q := q) (x := x) ?_ ?_ <;> [(unfold x; clear x); (intro hx; clear_value x)]) | clear_value x)
      | simp only [kept_update] | split
theorem linSlotStep_kept (n : Nat) (s : State) (hk : Kept q s) :
    Kept q (linSlotStep n s) := by
  unfold linSlotStep
  repeat'
    first
      | (with_reducible first
          | intro _ | assumption | apply State.modBus_kept | apply busStateLater_kept | apply kept_ite)
      | (extract_lets +onlyGivenNames x; first | (refine kept_cut (q := q) (x := x) ?_ ?_ <;> [(unfold x; clear x); (intro hx; clear_value x)]) | clear_value x)
      | simp only [kept_update] | split
theorem linFail_kept (n code : Nat) (missing : Bool) (id : Nat) (s : State) (hk : Kept q s) :
    Kept q (linFail n code missing id s) := by
  unfold linFail
  repeat'
    first
      | (with_reducible first
          | intro _ | assumption | apply State.modBus_kept | apply busWindow_kept | apply kept_ite)
      | (extract_lets +onlyGivenNames x; first | (refine kept_cut (q := q) (x := x) ?_ ?_ <;> [(unfold x; clear x); (intro hx; clear_value x)]) | clear_value x)
      | simp only [kept_update] | split
theorem linRespond_kept (n : Nat) (r : LinResult) (s : State) (hk : Kept q s) :
    Kept q (linRespond n r s) := by
  unfold linRespond
  repeat'
    first
      | (with_reducible first
          | intro _ | assumption | apply State.modBus_kept | apply busStateLater_kept | apply objectSent_kept
          | apply storeFrame_kept | apply compareCopies_kept | apply linFail_kept | apply kept_ite)
      | (extract_lets +onlyGivenNames x; first | (refine kept_cut (q := q) (x := x) ?_ ?_ <;> [(unfold x; clear x); (intro hx; clear_value x)]) | clear_value x)
      | simp only [kept_update] | split
theorem linSleepStep_kept (n : Nat) (s : State) (hk : Kept q s) :
    Kept q (linSleepStep n s) := by
  unfold linSleepStep
  repeat'
    first
      | (with_reducible first
          | intro _ | assumption | apply State.modBus_kept | apply kept_ite)
      | (extract_lets +onlyGivenNames x; first | (refine kept_cut (q := q) (x := x) ?_ ?_ <;> [(unfold x; clear x); (intro hx; clear_value x)]) | clear_value x)
      | simp only [kept_update] | split
theorem linWakeStep_kept (n : Nat) (s : State) (hk : Kept q s) :
    Kept q (linWakeStep n s) := by
  unfold linWakeStep
  repeat'
    first
      | (with_reducible first
          | intro _ | assumption | apply State.modBus_kept | apply busStateLater_kept | apply kept_ite)
      | (extract_lets +onlyGivenNames x; first | (refine kept_cut (q := q) (x := x) ?_ ?_ <;> [(unfold x; clear x); (intro hx; clear_value x)]) | clear_value x)
      | simp only [kept_update] | split
theorem linWakeHeard_kept (n : Nat) (s : State) (hk : Kept q s) :
    Kept q (linWakeHeard n s) := by
  unfold linWakeHeard
  repeat'
    first
      | (with_reducible first
          | intro _ | assumption | apply State.modBus_kept | apply raiseWake_kept | apply busStateLater_kept
          | apply kept_ite)
      | (extract_lets +onlyGivenNames x; first | (refine kept_cut (q := q) (x := x) ?_ ?_ <;> [(unfold x; clear x); (intro hx; clear_value x)]) | clear_value x)
      | simp only [kept_update] | split
theorem linRestart_kept (n : Nat) (s : State) (hk : Kept q s) :
    Kept q (linRestart n s) := by
  unfold linRestart
  repeat'
    first
      | (with_reducible first
          | intro _ | assumption | apply State.modBus_kept | apply kept_ite)
      | (extract_lets +onlyGivenNames x; first | (refine kept_cut (q := q) (x := x) ?_ ?_ <;> [(unfold x; clear x); (intro hx; clear_value x)]) | clear_value x)
      | simp only [kept_update] | split
theorem beacon_kept (x : Nat) (nodes : BitVec 8) (s : State) (hk : Kept q s) :
    Kept q (beacon x nodes s) := by
  unfold beacon
  repeat'
    first
      | (with_reducible first
          | intro _ | assumption | apply State.modBus_kept | apply present_kept | apply busStateLater_kept
          | apply kept_foldl | apply kept_ite)
      | (extract_lets +onlyGivenNames x; first | (refine kept_cut (q := q) (x := x) ?_ ?_ <;> [(unfold x; clear x); (intro hx; clear_value x)]) | clear_value x)
      | simp only [kept_update] | split
theorem satLostStep_kept (x k : Nat) (s : State) (hk : Kept q s) :
    Kept q (satLostStep x k s) := by
  unfold satLostStep
  repeat'
    first
      | (with_reducible first
          | intro _ | assumption | apply State.modBus_kept | apply present_kept | apply busStateLater_kept
          | apply kept_ite)
      | (extract_lets +onlyGivenNames x; first | (refine kept_cut (q := q) (x := x) ?_ ?_ <;> [(unfold x; clear x); (intro hx; clear_value x)]) | clear_value x)
      | simp only [kept_update] | split
theorem satCollide_kept (x k : Nat) (s : State) (hk : Kept q s) :
    Kept q (satCollide x k s) := by
  unfold satCollide
  repeat'
    first
      | (with_reducible first
          | intro _ | assumption | apply State.modBus_kept | apply busStateLater_kept | apply kept_ite)
      | (extract_lets +onlyGivenNames x; first | (refine kept_cut (q := q) (x := x) ?_ ?_ <;> [(unfold x; clear x); (intro hx; clear_value x)]) | clear_value x)
      | simp only [kept_update] | split
theorem canCfgEffect_kept (n : Nat) (was v : Word) (s : State) (hk : Kept q s) :
    Kept q (canCfgEffect n was v s) := by
  unfold canCfgEffect
  repeat'
    first
      | (with_reducible first
          | intro _ | assumption | apply State.modBus_kept | apply busStateLater_kept | apply recoverStep_kept
          | apply kept_ite)
      | (extract_lets +onlyGivenNames x; first | (refine kept_cut (q := q) (x := x) ?_ ?_ <;> [(unfold x; clear x); (intro hx; clear_value x)]) | clear_value x)
      | simp only [kept_update] | split
theorem canApply_kept (n off a : Nat) (v : Word) (s : State) (hk : Kept q s) :
    Kept q (canApply n off a v s) := by
  unfold canApply
  repeat'
    first
      | (with_reducible first
          | intro _ | assumption | apply State.modBus_kept | apply State.setLive_kept | apply refuseBus_kept
          | apply ttTakeCells_kept | apply canCfgEffect_kept | apply kept_ite)
      | (extract_lets +onlyGivenNames x; first | (refine kept_cut (q := q) (x := x) ?_ ?_ <;> [(unfold x; clear x); (intro hx; clear_value x)]) | clear_value x)
      | simp only [kept_update] | split
theorem linApply_kept (n off a : Nat) (v : Word) (s : State) (hk : Kept q s) :
    Kept q (linApply n off a v s) := by
  unfold linApply
  repeat'
    first
      | (with_reducible first
          | intro _ | assumption | apply State.modBus_kept | apply State.setLive_kept | apply busStateLater_kept
          | apply refuseBus_kept | apply linSleepStep_kept | apply linWakeStep_kept | apply kept_ite)
      | (extract_lets +onlyGivenNames x; first | (refine kept_cut (q := q) (x := x) ?_ ?_ <;> [(unfold x; clear x); (intro hx; clear_value x)]) | clear_value x)
      | simp only [kept_update] | split
theorem busConfigured_kept (b : Nat) (s : State) (hk : Kept q s) :
    Kept q (busConfigured b s) := by
  unfold busConfigured
  repeat'
    first
      | (with_reducible first
          | intro _ | assumption | apply State.modBus_kept | apply ttRestoreCells_kept | apply canCfgEffect_kept
          | apply kept_ite) | simp only [kept_update] | split
theorem tsApply_kept (x off a : Nat) (v : Word) (s : State) (hk : Kept q s) :
    Kept q (tsApply x off a v s) := by
  unfold tsApply
  repeat'
    first
      | (with_reducible first
          | intro _ | assumption | apply State.modBus_kept | apply State.setLive_kept | apply present_kept
          | apply busStateLater_kept | apply refuseBus_kept | apply kept_ite)
      | (extract_lets +onlyGivenNames x; first | (refine kept_cut (q := q) (x := x) ?_ ?_ <;> [(unfold x; clear x); (intro hx; clear_value x)]) | clear_value x)
      | simp only [kept_update] | split
theorem busApply_kept (a : Nat) (v : Word) (s : State) (hk : Kept q s) :
    Kept q (busApply a v s) := by
  unfold busApply
  repeat'
    first
      | (with_reducible first
          | intro _ | assumption | apply State.modBus_kept | apply State.setLive_kept | apply ackSlot_kept
          | apply ackAll_kept | apply canApply_kept | apply linApply_kept | apply tsApply_kept | apply kept_ite)
      | (extract_lets +onlyGivenNames x; first | (refine kept_cut (q := q) (x := x) ?_ ?_ <;> [(unfold x; clear x); (intro hx; clear_value x)]) | clear_value x)
      | simp only [kept_update] | split
theorem emit_kept (cs : List (Nat × Content)) (s : State) (hk : Kept q s) :
    Kept q (emit cs s) := by
  unfold emit
  repeat'
    first
      | (with_reducible first
          | intro _ | assumption) | simp only [kept_update]
theorem releaseStep_kept (s : State) (hk : Kept q s) :
    Kept q (releaseStep s) := by
  unfold releaseStep
  repeat'
    first
      | (with_reducible first
          | intro _ | assumption | apply emit_kept | apply kept_ite)
      | (extract_lets +onlyGivenNames x; first | (refine kept_cut (q := q) (x := x) ?_ ?_ <;> [(unfold x; clear x); (intro hx; clear_value x)]) | clear_value x)
      | simp only [kept_update] | split
theorem execReleaseMessage_kept (s : State) (hk : Kept q s) :
    KeptO q (execReleaseMessage s) := by
  unfold execReleaseMessage
  repeat'
    first
      | (with_reducible first
          | intro _ | assumption | apply releaseStep_kept | apply keptO_next)
theorem execBusFrameReceived_kept (b : Fin 28) (fr : List Word) (sof : Nat) (cycle col : BitVec 6) (same badFcs : Bool) (s : State) (hk : Kept q s) :
    KeptO q (execBusFrameReceived b fr sof cycle col same badFcs s) := by
  unfold execBusFrameReceived
  repeat'
    first
      | (with_reducible first
          | intro _ | assumption | apply frameReceived_kept | apply keptO_next)
theorem execBusFrameTransmitted_kept (b : Fin 28) (obj : Bool) (tag : BitVec 12) (sof : Nat) (s : State) (hk : Kept q s) :
    KeptO q (execBusFrameTransmitted b obj tag sof s) := by
  unfold execBusFrameTransmitted
  repeat'
    first
      | (with_reducible first
          | intro _ | assumption | apply queuedSent_kept | apply objectSent_kept | apply kept_ite | apply keptO_ite
          | apply keptO_next) | split
theorem execBusQueue_kept (b : Fin 28) (tag : BitVec 12) (fr : List Word) (s : State) (hk : Kept q s) :
    KeptO q (execBusQueue b tag fr s) := by
  unfold execBusQueue
  repeat'
    first
      | (with_reducible first
          | intro _ | assumption | apply busQueueReq_kept | apply kept_ite | apply keptO_ite | apply keptO_next)
      | split
theorem execBusUpdateObject_kept (b : Fin 28) (obj : BitVec 6) (fr : List Word) (s : State) (hk : Kept q s) :
    KeptO q (execBusUpdateObject b obj fr s) := by
  unfold execBusUpdateObject
  repeat'
    first
      | (with_reducible first
          | intro _ | assumption | apply refuseBus_kept | apply busUpdateReq_kept | apply kept_ite | apply keptO_ite
          | apply keptO_next) | split
theorem execBusAbort_kept (b : Fin 28) (tag : BitVec 12) (s : State) (hk : Kept q s) :
    KeptO q (execBusAbort b tag s) := by
  unfold execBusAbort
  repeat'
    first
      | (with_reducible first
          | intro _ | assumption | apply busAbortReq_kept | apply kept_ite | apply keptO_ite | apply keptO_next)
      | split
theorem execRxAck_kept (b : Fin 28) (slot : BitVec 6) (s : State) (hk : Kept q s) :
    KeptO q (execRxAck b slot s) := by
  unfold execRxAck
  repeat'
    first
      | (with_reducible first
          | intro _ | assumption | apply ackSlot_kept | apply kept_ite | apply keptO_ite | apply keptO_next) | split
theorem execRxAckAll_kept (b : Fin 28) (s : State) (hk : Kept q s) :
    KeptO q (execRxAckAll b s) := by
  unfold execRxAckAll
  repeat'
    first
      | (with_reducible first
          | intro _ | assumption | apply ackAll_kept | apply kept_ite | apply keptO_ite | apply keptO_next) | split
theorem execMoved_kept (b : Fin 28) (s : State) (hk : Kept q s) :
    KeptO q (execMoved b s) := by
  unfold execMoved
  repeat'
    first
      | (with_reducible first
          | intro _ | assumption | apply moveStep_kept | apply keptO_next)
theorem execCanError_kept (n : Fin 16) (tec : Fin 257) (fr : BitVec 8) (lec : BitVec 3) (s : State) (hk : Kept q s) :
    KeptO q (execCanError n tec fr lec s) := by
  unfold execCanError
  repeat'
    first
      | (with_reducible first
          | intro _ | assumption | apply canErrorStep_kept | apply keptO_next)
theorem execBusOffReturn_kept (n : Fin 16) (s : State) (hk : Kept q s) :
    KeptO q (execBusOffReturn n s) := by
  unfold execBusOffReturn
  repeat'
    first
      | (with_reducible first
          | intro _ | assumption | apply busOffEnd_kept | apply keptO_next)
theorem execRecover_kept (n : Fin 16) (s : State) (hk : Kept q s) :
    KeptO q (execRecover n s) := by
  unfold execRecover
  repeat'
    first
      | (with_reducible first
          | intro _ | assumption | apply recoverStep_kept | apply kept_ite | apply keptO_ite | apply keptO_next)
      | split
theorem execDomTimeout_kept (b : Fin 24) (s : State) (hk : Kept q s) :
    KeptO q (execDomTimeout b s) := by
  unfold execDomTimeout
  repeat'
    first
      | (with_reducible first
          | intro _ | assumption | apply domStep_kept | apply keptO_next)
theorem execTtCycleStart_kept (n : Fin 16) (s : State) (hk : Kept q s) :
    KeptO q (execTtCycleStart n s) := by
  unfold execTtCycleStart
  repeat'
    first
      | (with_reducible first
          | intro _ | assumption | apply ttCycle_kept | apply keptO_next)
theorem execTtWindowStart_kept (n : Fin 16) (fits : Bool) (s : State) (hk : Kept q s) :
    KeptO q (execTtWindowStart n fits s) := by
  unfold execTtWindowStart
  repeat'
    first
      | (with_reducible first
          | intro _ | assumption | apply ttOpen_kept | apply keptO_next)
theorem execTtWindowEnd_kept (n : Fin 16) (s : State) (hk : Kept q s) :
    KeptO q (execTtWindowEnd n s) := by
  unfold execTtWindowEnd
  repeat'
    first
      | (with_reducible first
          | intro _ | assumption | apply ttClose_kept | apply keptO_next)
theorem execReferenceReceived_kept (n : Fin 16) (cycle : BitVec 6) (gap higher : Bool) (s : State) (hk : Kept q s) :
    KeptO q (execReferenceReceived n cycle gap higher s) := by
  unfold execReferenceReceived
  repeat'
    first
      | (with_reducible first
          | intro _ | assumption | apply ttReference_kept | apply keptO_next)
theorem execSyncLost_kept (n : Fin 16) (s : State) (hk : Kept q s) :
    KeptO q (execSyncLost n s) := by
  unfold execSyncLost
  repeat'
    first
      | (with_reducible first
          | intro _ | assumption | apply ttSyncLost_kept | apply keptO_next)
theorem execLinSlot_kept (n : Fin 8) (s : State) (hk : Kept q s) :
    KeptO q (execLinSlot n s) := by
  unfold execLinSlot
  repeat'
    first
      | (with_reducible first
          | intro _ | assumption | apply linSlotStep_kept | apply keptO_next)
theorem execLinResponse_kept (n : Fin 8) (r : LinResult) (s : State) (hk : Kept q s) :
    KeptO q (execLinResponse n r s) := by
  unfold execLinResponse
  repeat'
    first
      | (with_reducible first
          | intro _ | assumption | apply linRespond_kept | apply keptO_next)
theorem execLinSleep_kept (n : Fin 8) (s : State) (hk : Kept q s) :
    KeptO q (execLinSleep n s) := by
  unfold execLinSleep
  repeat'
    first
      | (with_reducible first
          | intro _ | assumption | apply linSleepStep_kept | apply kept_ite | apply keptO_ite | apply keptO_next)
      | split
theorem execLinWake_kept (n : Fin 8) (s : State) (hk : Kept q s) :
    KeptO q (execLinWake n s) := by
  unfold execLinWake
  repeat'
    first
      | (with_reducible first
          | intro _ | assumption | apply linWakeStep_kept | apply kept_ite | apply keptO_ite | apply keptO_next)
      | split
theorem execWakeReceived_kept (n : Fin 8) (s : State) (hk : Kept q s) :
    KeptO q (execWakeReceived n s) := by
  unfold execWakeReceived
  repeat'
    first
      | (with_reducible first
          | intro _ | assumption | apply linWakeHeard_kept | apply keptO_next)
theorem execLinWakeRestart_kept (n : Fin 8) (s : State) (hk : Kept q s) :
    KeptO q (execLinWakeRestart n s) := by
  unfold execLinWakeRestart
  repeat'
    first
      | (with_reducible first
          | intro _ | assumption | apply linRestart_kept | apply keptO_next)
theorem execPlcaBeacon_kept (x : Fin 4) (nodes : BitVec 8) (s : State) (hk : Kept q s) :
    KeptO q (execPlcaBeacon x nodes s) := by
  unfold execPlcaBeacon
  repeat'
    first
      | (with_reducible first
          | intro _ | assumption | apply beacon_kept | apply keptO_next)
theorem execSatLost_kept (x : Fin 4) (k : Fin 8) (s : State) (hk : Kept q s) :
    KeptO q (execSatLost x k s) := by
  unfold execSatLost
  repeat'
    first
      | (with_reducible first
          | intro _ | assumption | apply satLostStep_kept | apply keptO_next)
theorem execSatCollision_kept (x : Fin 4) (k : Fin 8) (s : State) (hk : Kept q s) :
    KeptO q (execSatCollision x k s) := by
  unfold execSatCollision
  repeat'
    first
      | (with_reducible first
          | intro _ | assumption | apply satCollide_kept | apply keptO_next)
/-! ### Board -/
theorem tableWrite_kept (a : Nat) (v : Word) (s : State) (hk : Kept q s) :
    Kept q (tableWrite a v s) := by
  unfold tableWrite
  repeat'
    first
      | (with_reducible first
          | intro _ | assumption | apply kept_ite)
      | (extract_lets +onlyGivenNames x; first | (refine kept_cut (q := q) (x := x) ?_ ?_ <;> [(unfold x; clear x); (intro hx; clear_value x)]) | clear_value x)
      | simp only [kept_update] | split
theorem commitTables_kept (s : State) (hk : Kept q s) :
    Kept q (commitTables s) := by
  unfold commitTables
  repeat'
    first
      | (with_reducible first
          | intro _ | assumption) | simp only [kept_update]
theorem takeCommit_kept (s : State) (hk : Kept q s) :
    Kept q (takeCommit s) := by
  unfold takeCommit
  repeat'
    first
      | (with_reducible first
          | intro _ | assumption | apply laneRecord_kept | apply kept_ite) | simp only [kept_update] | split
theorem refuseAccess_kept (m a : Nat) (wr : Bool) (v : Word) (s : State) (hk : Kept q s) :
    Kept q (refuseAccess m a wr v s) := by
  unfold refuseAccess
  repeat'
    first
      | (with_reducible first
          | intro _ | assumption | apply writeRefused_kept | apply kept_ite)
      | (extract_lets +onlyGivenNames x; first | (refine kept_cut (q := q) (x := x) ?_ ?_ <;> [(unfold x; clear x); (intro hx; clear_value x)]) | clear_value x)
      | simp only [kept_update] | split
theorem stopProgram_kept (c cause bundle : Nat) (s : State) (hk : Kept q s) :
    Kept q (stopProgram c cause bundle s) := by
  unfold stopProgram
  repeat'
    first
      | (with_reducible first
          | intro _ | assumption | apply State.modCore_kept | apply laneRecord_kept | apply kept_ite)
      | (extract_lets +onlyGivenNames x; first | (refine kept_cut (q := q) (x := x) ?_ ?_ <;> [(unfold x; clear x); (intro hx; clear_value x)]) | clear_value x)
      | simp only [kept_update] | split
theorem refuseLoad_kept (c : Nat) (wr : Bool) (s : State) (hk : Kept q s) :
    Kept q (refuseLoad c wr s) := by
  unfold refuseLoad
  repeat'
    first
      | (with_reducible first
          | intro _ | assumption | apply State.modCore_kept | apply kept_ite) | simp only [kept_update] | split
theorem refuseCore_kept (c : Nat) (wr : Bool) (s : State) (hk : Kept q s) :
    Kept q (refuseCore c wr s) := by
  unfold refuseCore
  repeat'
    first
      | (with_reducible first
          | intro _ | assumption | apply stopProgram_kept | apply refuseLoad_kept | apply kept_ite)
      | (extract_lets +onlyGivenNames x; first | (refine kept_cut (q := q) (x := x) ?_ ?_ <;> [(unfold x; clear x); (intro hx; clear_value x)]) | clear_value x)
      | split
theorem boardPresent_kept (l : Lane) (t a : Nat) (r : BoardReq) (s : State) (hk : Kept q s) :
    Kept q (boardPresent l t a r s).2 := by
  unfold boardPresent
  repeat'
    first
      | (with_reducible first
          | intro _ | assumption | apply State.setLane_kept | apply kept_ite | apply kept_ite2 | apply kept_ite3
          | apply kept_ite4)
      | (extract_lets +onlyGivenNames x; first | (refine kept_cut (q := q) (x := x) ?_ ?_ <;> [(unfold x; clear x); (intro hx; clear_value x)]) | (refine kept_cut3 (q := q) (x := x) ?_ ?_ <;> [(unfold x; clear x); (intro hx; clear_value x)]) | (refine kept_cut2 (q := q) (x := x) ?_ ?_ <;> [(unfold x; clear x); (intro hx; clear_value x)]) | clear_value x)
      | refine kept_eq (by assumption) ?_ | refine kept_eq3 (by assumption) ?_ | refine kept_eq4 (by assumption) ?_
      | simp only [kept_update] | split | dsimp only
theorem countAccess_kept (ls : List Lane) (m a : Nat) (wr : Bool) (s : State) (hk : Kept q s) :
    Kept q (countAccess ls m a wr s) := by
  unfold countAccess
  repeat'
    first
      | (with_reducible first
          | intro _ | assumption | apply State.modLane_kept | apply kept_foldl) | split
theorem presentBoth_kept (t a : Nat) (r : BoardReq) (s : State) (hk : Kept q s) :
    Kept q (presentBoth t a r s).2 := by
  unfold presentBoth
  repeat'
    first
      | (with_reducible first
          | intro _ | assumption | apply boardPresent_kept | apply kept_ite | apply kept_ite2 | apply kept_ite3
          | apply kept_ite4)
      | (extract_lets +onlyGivenNames x; first | (refine kept_cut (q := q) (x := x) ?_ ?_ <;> [(unfold x; clear x); (intro hx; clear_value x)]) | (refine kept_cut3 (q := q) (x := x) ?_ ?_ <;> [(unfold x; clear x); (intro hx; clear_value x)]) | (refine kept_cut2 (q := q) (x := x) ?_ ?_ <;> [(unfold x; clear x); (intro hx; clear_value x)]) | clear_value x)
      | split | dsimp only
theorem parkAccess_kept (m a : Nat) (wr : Bool) (t : Nat) (s : State) (hk : Kept q s) :
    Kept q (parkAccess m a wr t s) := by
  unfold parkAccess
  repeat'
    first
      | (with_reducible first
          | intro _ | assumption | apply presentBoth_kept) | refine kept_eq (by assumption) ?_
      | refine kept_eq3 (by assumption) ?_ | refine kept_eq4 (by assumption) ?_ | split | dsimp only
theorem arbDecide_kept (l : Lane) (t bank cycle : Nat) (s : State) (hk : Kept q s) :
    Kept q (arbDecide l t bank cycle s).2 := by
  unfold arbDecide
  repeat'
    first
      | (with_reducible first
          | intro _ | assumption | apply State.setLane_kept | apply kept_ite | apply kept_ite2 | apply kept_ite3
          | apply kept_ite4)
      | (extract_lets +onlyGivenNames x; first | (refine kept_cut (q := q) (x := x) ?_ ?_ <;> [(unfold x; clear x); (intro hx; clear_value x)]) | (refine kept_cut3 (q := q) (x := x) ?_ ?_ <;> [(unfold x; clear x); (intro hx; clear_value x)]) | (refine kept_cut2 (q := q) (x := x) ?_ ?_ <;> [(unfold x; clear x); (intro hx; clear_value x)]) | clear_value x)
      | refine kept_eq (by assumption) ?_ | refine kept_eq3 (by assumption) ?_ | refine kept_eq4 (by assumption) ?_
      | split | dsimp only
theorem dropTileWrites_kept (m : Nat) (s : State) (hk : Kept q s) :
    Kept q (dropTileWrites m s) := by
  unfold dropTileWrites
  repeat'
    first
      | (with_reducible first
          | intro _ | assumption | apply kept_foldl)
      | (extract_lets +onlyGivenNames x; first | (refine kept_cut (q := q) (x := x) ?_ ?_ <;> [(unfold x; clear x); (intro hx; clear_value x)]) | clear_value x)
      | simp only [kept_update]
theorem clearCompose_kept (m : Nat) (s : State) (hk : Kept q s) :
    Kept q (clearCompose m s) := by
  unfold clearCompose
  repeat'
    first
      | (with_reducible first
          | intro _ | assumption | apply State.clearCopy_kept | apply kept_foldl | apply kept_ite) | split
theorem dropFrames_kept (m : Nat) (s : State) (hk : Kept q s) :
    Kept q (dropFrames m s) := by
  unfold dropFrames
  repeat'
    first
      | (with_reducible first
          | intro _ | assumption | apply State.modBus_kept | apply State.setLive_kept | apply State.setCopy_kept
          | apply kept_foldl | apply kept_ite) | simp only [kept_update] | split
theorem recoverLock_kept (t m : Nat) (wrote : Bool) (s : State) (hk : Kept q s) :
    Kept q (recoverLock t m wrote s).2 := by
  unfold recoverLock
  repeat'
    first
      | (with_reducible first
          | intro _ | assumption | apply dropTileWrites_kept | apply clearCompose_kept | apply dropFrames_kept)
      | refine kept_eq (by assumption) ?_ | refine kept_eq3 (by assumption) ?_ | refine kept_eq4 (by assumption) ?_
      | simp only [kept_update] | split | dsimp only
theorem abandonIn_kept (ls : List Lane) (m t : Nat) (s : State) (hk : Kept q s) :
    Kept q (abandonIn ls m t s) := by
  unfold abandonIn
  repeat'
    first
      | (with_reducible first
          | intro _ | assumption | apply State.modLane_kept | apply laneRecord_kept | apply recoverLock_kept
          | apply kept_foldl | apply kept_ite | apply kept_foldl2 | apply kept_ite2 | apply kept_ite3
          | apply kept_ite4)
      | (extract_lets +onlyGivenNames x; first | (refine kept_cut (q := q) (x := x) ?_ ?_ <;> [(unfold x; clear x); (intro hx; clear_value x)]) | (refine kept_cut3 (q := q) (x := x) ?_ ?_ <;> [(unfold x; clear x); (intro hx; clear_value x)]) | (refine kept_cut2 (q := q) (x := x) ?_ ?_ <;> [(unfold x; clear x); (intro hx; clear_value x)]) | clear_value x)
      | simp only [kept_update] | split | dsimp only
theorem abandonLock_kept (l : Lane) (t : Nat) (s : State) (hk : Kept q s) :
    Kept q (abandonLock l t s) := by
  unfold abandonLock
  repeat'
    first
      | (with_reducible first
          | intro _ | assumption | apply abandonIn_kept) | split
theorem abandonLocksIn_kept (ls : List Lane) (m : Nat) (s : State) (hk : Kept q s) :
    Kept q (abandonLocksIn ls m s) := by
  unfold abandonLocksIn
  repeat'
    first
      | (with_reducible first
          | intro _ | assumption | apply abandonIn_kept | apply kept_foldl)
theorem abandonLocks_kept (m : Nat) (s : State) (hk : Kept q s) :
    Kept q (abandonLocks m s) := by
  unfold abandonLocks
  repeat'
    first
      | (with_reducible first
          | intro _ | assumption | apply abandonLocksIn_kept)
theorem dropHostLocks_kept (s : State) (hk : Kept q s) :
    Kept q (dropHostLocks s) := by
  unfold dropHostLocks
  repeat'
    first
      | (with_reducible first
          | intro _ | assumption | apply State.mapLanes_kept | apply kept_foldl | apply kept_ite)
      | simp only [kept_update] | split
theorem endRecovery_kept (l : Lane) (t : Nat) (s : State) (hk : Kept q s) :
    Kept q (endRecovery l t s) := by
  unfold endRecovery
  repeat'
    first
      | (with_reducible first
          | intro _ | assumption | apply State.modLane_kept) | simp only [kept_update]
theorem clearCounter_kept (t m : Nat) (s : State) (hk : Kept q s) :
    Kept q (clearCounter t m s) := by
  unfold clearCounter
  repeat'
    first
      | (with_reducible first
          | intro _ | assumption | apply State.mapLanes_kept)
theorem cntSelWrite_kept (writer : Nat) (v : Word) (s : State) (hk : Kept q s) :
    Kept q (cntSelWrite writer v s) := by
  unfold cntSelWrite
  repeat'
    first
      | (with_reducible first
          | intro _ | assumption | apply State.mapLanes_kept | apply State.setCopy_kept | apply writeRefused_kept
          | apply clearCounter_kept | apply kept_ite)
      | (extract_lets +onlyGivenNames x; first | (refine kept_cut (q := q) (x := x) ?_ ?_ <;> [(unfold x; clear x); (intro hx; clear_value x)]) | clear_value x)
      | simp only [kept_update] | split
theorem latchCounters_kept (l : Lane) (m : Nat) (s : State) (hk : Kept q s) :
    Kept q (latchCounters l m s) := by
  unfold latchCounters
  repeat'
    first
      | (with_reducible first
          | intro _ | assumption | apply State.modLane_kept) | simp only [kept_update]
theorem swinWrite_kept (m : Nat) (v : Word) (s : State) (hk : Kept q s) :
    Kept q (swinWrite m v s) := by
  unfold swinWrite
  repeat'
    first
      | (with_reducible first
          | intro _ | assumption | apply State.setCopy_kept)
theorem execLockAbandoned_kept (l : Lane) (t : Fin 18) (s : State) (hk : Kept q s) :
    KeptO q (execLockAbandoned l t s) := by
  unfold execLockAbandoned
  repeat'
    first
      | (with_reducible first
          | intro _ | assumption | apply abandonLock_kept | apply keptO_next)
theorem execLockRecoveryEnd_kept (l : Lane) (t : Fin 18) (s : State) (hk : Kept q s) :
    KeptO q (execLockRecoveryEnd l t s) := by
  unfold execLockRecoveryEnd
  repeat'
    first
      | (with_reducible first
          | intro _ | assumption | apply endRecovery_kept | apply keptO_next)
theorem execAccessTableWrite_kept (t : Fin 18) (e : Fin 64) (w : Fin 3) (v : Word) (s : State) (hk : Kept q s) :
    KeptO q (execAccessTableWrite t e w v s) := by
  unfold execAccessTableWrite
  repeat'
    first
      | (with_reducible first
          | intro _ | assumption | apply tableWrite_kept | apply keptO_next)
theorem execCommit_kept (s : State) (hk : Kept q s) :
    KeptO q (execCommit s) := by
  unfold execCommit
  repeat'
    first
      | (with_reducible first
          | intro _ | assumption | apply commitTables_kept | apply keptO_next)
theorem execClear_kept (t m : BitVec 5) (s : State) (hk : Kept q s) :
    KeptO q (execClear t m s) := by
  unfold execClear
  repeat'
    first
      | (with_reducible first
          | intro _ | assumption | apply cntSelWrite_kept | apply keptO_next)
theorem execClearAll_kept (t m : BitVec 5) (s : State) (hk : Kept q s) :
    KeptO q (execClearAll t m s) := by
  unfold execClearAll
  repeat'
    first
      | (with_reducible first
          | intro _ | assumption | apply cntSelWrite_kept | apply keptO_next)
theorem execArbGrantsRead_kept (l : Lane) (m : Fin 32) (s : State) (hk : Kept q s) :
    KeptO q (execArbGrantsRead l m s) := by
  unfold execArbGrantsRead
  repeat'
    first
      | (with_reducible first
          | intro _ | assumption | apply latchCounters_kept | apply keptO_next)
/-! ### Mailbox -/
theorem wakeCore_kept (c : Nat) (s : State) (hk : Kept q s) :
    Kept q (wakeCore c s) := by
  unfold wakeCore
  repeat'
    first
      | (with_reducible first
          | intro _ | assumption | apply State.modCore_kept | apply kept_ite) | simp only [kept_update] | split
theorem postMessage_kept (k : Nat) (ws : List Word) (s : State) (hk : Kept q s) :
    Kept q (postMessage k ws s) := by
  unfold postMessage
  repeat'
    first
      | (with_reducible first
          | intro _ | assumption) | simp only [kept_update]
theorem postWrite_kept (m k : Nat) (v : Word) (s : State) (hk : Kept q s) :
    Kept q (postWrite m k v s) := by
  unfold postWrite
  repeat'
    first
      | (with_reducible first
          | intro _ | assumption | apply writeRefused_kept | apply postMessage_kept | apply kept_ite) | split
theorem ackMessages_kept (k n : Nat) (s : State) (hk : Kept q s) :
    Kept q (ackMessages k n s) := by
  unfold ackMessages
  repeat'
    first
      | (with_reducible first
          | intro _ | assumption | apply kept_ite) | simp only [kept_update] | split
theorem ackWrite_kept (m k : Nat) (v : Word) (s : State) (hk : Kept q s) :
    Kept q (ackWrite m k v s) := by
  unfold ackWrite
  repeat'
    first
      | (with_reducible first
          | intro _ | assumption | apply writeRefused_kept | apply ackMessages_kept | apply kept_ite)
      | (extract_lets +onlyGivenNames x; first | (refine kept_cut (q := q) (x := x) ?_ ?_ <;> [(unfold x; clear x); (intro hx; clear_value x)]) | clear_value x)
      | split
theorem mbxLater_kept (k : Nat) (e : MbxLater) (s : State) (hk : Kept q s) :
    Kept q (mbxLater k e s) := by
  unfold mbxLater
  repeat'
    first
      | (with_reducible first
          | intro _ | assumption) | simp only [kept_update]
theorem sctlWrite_kept (m k : Nat) (v : Word) (s : State) (hk : Kept q s) :
    Kept q (sctlWrite m k v s) := by
  unfold sctlWrite
  repeat'
    first
      | (with_reducible first
          | intro _ | assumption | apply writeRefused_kept | apply mbxLater_kept | apply kept_ite) | split
theorem sstatWrite_kept (k : Nat) (v : Word) (s : State) (hk : Kept q s) :
    Kept q (sstatWrite k v s) := by
  unfold sstatWrite
  repeat'
    first
      | (with_reducible first
          | intro _ | assumption | apply mbxLater_kept)
theorem rstatWrite_kept (k : Nat) (v : Word) (s : State) (hk : Kept q s) :
    Kept q (rstatWrite k v s) := by
  unfold rstatWrite
  repeat'
    first
      | (with_reducible first
          | intro _ | assumption | apply mbxLater_kept | apply kept_ite) | split
theorem sstatRead_kept (k : Nat) (s : State) (hk : Kept q s) :
    Kept q (sstatRead k s) := by
  unfold sstatRead
  repeat'
    first
      | (with_reducible first
          | intro _ | assumption | apply mbxLater_kept | apply kept_ite) | split
theorem mbxCfgWrite_kept (m k : Nat) (v : Word) (s : State) (hk : Kept q s) :
    Kept q (mbxCfgWrite m k v s) := by
  unfold mbxCfgWrite
  repeat'
    first
      | (with_reducible first
          | intro _ | assumption | apply writeRefused_kept | apply kept_ite) | split
theorem mbxCtlWrite_kept (m : Nat) (v : Word) (s : State) (hk : Kept q s) :
    Kept q (mbxCtlWrite m v s) := by
  unfold mbxCtlWrite
  repeat'
    first
      | (with_reducible first
          | intro _ | assumption | apply writeRefused_kept | apply kept_ite) | simp only [kept_update] | split
theorem ackStep_kept (k n : Nat) (s : State) (hk : Kept q s) :
    Kept q (ackStep k n s) := by
  unfold ackStep
  repeat'
    first
      | (with_reducible first
          | intro _ | assumption | apply State.modBox_kept)
      | (extract_lets +onlyGivenNames x; first | (refine kept_cut (q := q) (x := x) ?_ ?_ <;> [(unfold x; clear x); (intro hx; clear_value x)]) | clear_value x)
      | simp only [kept_update]
theorem postStep_kept (k : Nat) (ws : List Word) (s : State) (hk : Kept q s) :
    Kept q (postStep k ws s).2 := by
  unfold postStep
  repeat'
    first
      | (with_reducible first
          | intro _ | assumption | apply State.modBox_kept | apply laneRecord_kept | apply kept_ite | apply kept_ite2
          | apply kept_ite3 | apply kept_ite4) | simp only [kept_update] | split | dsimp only
theorem receiverReset_kept (k : Nat) (s : State) (hk : Kept q s) :
    Kept q (receiverReset k s) := by
  unfold receiverReset
  repeat'
    first
      | (with_reducible first
          | intro _ | assumption | apply State.modBox_kept | apply laneRecord_kept | apply kept_ite)
      | (extract_lets +onlyGivenNames x; first | (refine kept_cut (q := q) (x := x) ?_ ?_ <;> [(unfold x; clear x); (intro hx; clear_value x)]) | clear_value x)
      | simp only [kept_update] | split
theorem senderReset_kept (k : Nat) (s : State) (hk : Kept q s) :
    Kept q (senderReset k s) := by
  unfold senderReset
  repeat'
    first
      | (with_reducible first
          | intro _ | assumption | apply State.modBox_kept | apply State.clearCopy_kept) | simp only [kept_update]
theorem mbxCoreReset_kept (c : Nat) (s : State) (hk : Kept q s) :
    Kept q (mbxCoreReset c s) := by
  unfold mbxCoreReset
  repeat'
    first
      | (with_reducible first
          | intro _ | assumption | apply receiverReset_kept | apply senderReset_kept | apply kept_foldl
          | apply kept_ite)
      | (extract_lets +onlyGivenNames x; first | (refine kept_cut (q := q) (x := x) ?_ ?_ <;> [(unfold x; clear x); (intro hx; clear_value x)]) | clear_value x)
      | split
theorem clearWaits_kept (s : State) (hk : Kept q s) :
    Kept q (clearWaits s) := by
  unfold clearWaits
  repeat'
    first
      | (with_reducible first
          | intro _ | assumption | apply State.modBox_kept | apply kept_foldl | apply kept_ite)
      | simp only [kept_update] | split
theorem stalePair_kept (i j : Nat) (s : State) (hk : Kept q s) :
    Kept q (stalePair i j s).2 := by
  unfold stalePair
  repeat'
    first
      | (with_reducible first
          | intro _ | assumption | apply State.modBox_kept | apply laneRecord_kept | apply kept_ite | apply kept_ite2
          | apply kept_ite3 | apply kept_ite4)
      | (extract_lets +onlyGivenNames x; first | (refine kept_cut (q := q) (x := x) ?_ ?_ <;> [(unfold x; clear x); (intro hx; clear_value x)]) | (refine kept_cut3 (q := q) (x := x) ?_ ?_ <;> [(unfold x; clear x); (intro hx; clear_value x)]) | (refine kept_cut2 (q := q) (x := x) ?_ ?_ <;> [(unfold x; clear x); (intro hx; clear_value x)]) | clear_value x)
      | simp only [kept_update] | split | dsimp only
theorem staleStep_kept (s : State) (hk : Kept q s) :
    Kept q (staleStep s).2 := by
  unfold staleStep
  repeat'
    first
      | (with_reducible first
          | intro _ | assumption | apply stalePair_kept | apply kept_foldl | apply kept_ite | apply kept_foldl2
          | apply kept_ite2 | apply kept_ite3 | apply kept_ite4)
      | (extract_lets +onlyGivenNames x; first | (refine kept_cut (q := q) (x := x) ?_ ?_ <;> [(unfold x; clear x); (intro hx; clear_value x)]) | (refine kept_cut3 (q := q) (x := x) ?_ ?_ <;> [(unfold x; clear x); (intro hx; clear_value x)]) | (refine kept_cut2 (q := q) (x := x) ?_ ?_ <;> [(unfold x; clear x); (intro hx; clear_value x)]) | clear_value x)
      | split | dsimp only
theorem ringBell_kept (k : Nat) (s : State) (hk : Kept q s) :
    Kept q (ringBell k s) := by
  unfold ringBell
  repeat'
    first
      | (with_reducible first
          | intro _ | assumption | apply State.modBox_kept | apply wakeCore_kept | apply kept_ite)
      | (extract_lets +onlyGivenNames x; first | (refine kept_cut (q := q) (x := x) ?_ ?_ <;> [(unfold x; clear x); (intro hx; clear_value x)]) | clear_value x)
      | simp only [kept_update] | split
theorem firmwareAcks_kept (s : State) (hk : Kept q s) :
    Kept q (firmwareAcks s) := by
  unfold firmwareAcks
  repeat'
    first
      | (with_reducible first
          | intro _ | assumption | apply ackMessages_kept | apply kept_foldl | apply kept_ite)
      | (extract_lets +onlyGivenNames x; first | (refine kept_cut (q := q) (x := x) ?_ ?_ <;> [(unfold x; clear x); (intro hx; clear_value x)]) | clear_value x)
      | split
theorem mbxPhaseA_kept (resets : List Nat) (s : State) (hk : Kept q s) :
    Kept q (mbxPhaseA resets s) := by
  unfold mbxPhaseA
  repeat'
    first
      | (with_reducible first
          | intro _ | assumption | apply State.modBox_kept | apply ackStep_kept | apply postStep_kept
          | apply mbxCoreReset_kept | apply clearWaits_kept | apply staleStep_kept | apply ringBell_kept
          | apply firmwareAcks_kept | apply kept_foldl | apply kept_ite | apply kept_foldl2 | apply kept_ite2
          | apply kept_ite3 | apply kept_ite4)
      | (extract_lets +onlyGivenNames x; first | (refine kept_cut (q := q) (x := x) ?_ ?_ <;> [(unfold x; clear x); (intro hx; clear_value x)]) | (refine kept_cut3 (q := q) (x := x) ?_ ?_ <;> [(unfold x; clear x); (intro hx; clear_value x)]) | (refine kept_cut2 (q := q) (x := x) ?_ ?_ <;> [(unfold x; clear x); (intro hx; clear_value x)]) | clear_value x)
      | simp only [kept_update] | split | dsimp only

end Sys2Proof.Machine
end

