-- ==== Sys2Proof/Laws/KeptLanes.lean ====
section
/-! SUPPORT. The operations of the lanes, power, update, register and core operations keep the queue and the invariant: one lemma for
each, proved from its callees'. -/

set_option linter.all false
set_option maxRecDepth 8000

namespace Sys2Proof.Machine

open Sys2Proof

variable {q : List Instr}

/-! ### Lanes -/
theorem presentLane_kept (code : Nat) (arg0 arg1 : Word) (s : State) (hk : Kept q s) :
    Kept q (presentLane code arg0 arg1 s) := by
  unfold presentLane
  repeat'
    first
      | (with_reducible first
          | intro _ | assumption | apply present_kept)
theorem clearLaneWork_kept (s : State) (hk : Kept q s) : Kept q (clearLaneWork s) := ⟨hk.1, rfl, Nat.zero_le _, Nat.zero_le _⟩
theorem moduleReset_kept (bit last : Nat) (s : State) (hk : Kept q s) :
    Kept q (moduleReset bit last s) := by
  unfold moduleReset
  repeat'
    first
      | (with_reducible first
          | intro _ | assumption | apply clearLaneWork_kept | apply kept_ite)
      | (extract_lets +onlyGivenNames x; first | (refine kept_cut (q := q) (x := x) ?_ ?_ <;> [(unfold x; clear x); (intro hx; clear_value x)]) | clear_value x)
      | simp only [kept_update] | split
theorem cancelCastle_kept (s : State) (hk : Kept q s) :
    Kept q (cancelCastle s) := by
  unfold cancelCastle
  repeat'
    first
      | (with_reducible first
          | intro _ | assumption | apply State.modTgt_kept | apply laneRecord_kept | apply emit_kept
          | apply kept_foldl | apply kept_ite)
      | (extract_lets +onlyGivenNames x; first | (refine kept_cut (q := q) (x := x) ?_ ?_ <;> [(unfold x; clear x); (intro hx; clear_value x)]) | clear_value x)
      | simp only [kept_update] | split
theorem checkCastle_kept (s : State) (hk : Kept q s) :
    Kept q (checkCastle s) := by
  unfold checkCastle
  repeat'
    first
      | (with_reducible first
          | intro _ | assumption | apply cancelCastle_kept | apply kept_ite) | split
theorem castleRequest_kept (req : Option CastleReq) (cov : Bool) (s : State) (hk : Kept q s) :
    Kept q (castleRequest req cov s) := by
  unfold castleRequest
  repeat'
    first
      | (with_reducible first
          | intro _ | assumption | apply checkCastle_kept | apply kept_ite) | simp only [kept_update] | split
theorem castleSwap_kept (s : State) (hk : Kept q s) :
    Kept q (castleSwap s) := by
  unfold castleSwap
  repeat'
    first
      | (with_reducible first
          | intro _ | assumption | apply State.modLane_kept | apply laneRecord_kept | apply kept_ite)
      | (extract_lets +onlyGivenNames x; first | (refine kept_cut (q := q) (x := x) ?_ ?_ <;> [(unfold x; clear x); (intro hx; clear_value x)]) | clear_value x)
      | simp only [kept_update] | split
theorem resendReplies_kept (l : Lane) (fs : List Frame) (s : State) (hk : Kept q s) :
    Kept q (resendReplies l fs s) := by
  unfold resendReplies
  repeat'
    first
      | (with_reducible first
          | intro _ | assumption | apply State.modLane_kept) | simp only [kept_update]
theorem endUpdate_kept (phase : UpdPhase) (result : Nat) (s : State) (hk : Kept q s) :
    Kept q (endUpdate phase result s) := by
  unfold endUpdate
  repeat'
    first
      | (with_reducible first
          | intro _ | assumption) | simp only [kept_update]
theorem fallBack_kept (stage : ActStage) (l : Lane) (result : Nat) (s : State) (hk : Kept q s) :
    Kept q (fallBack stage l result s) := by
  unfold fallBack
  repeat'
    first
      | (with_reducible first
          | intro _ | assumption | apply laneRecord_kept) | simp only [kept_update]
theorem updLaneReset_kept (l : Lane) (cause : LaneCause) (s : State) (hk : Kept q s) :
    Kept q (updLaneReset l cause s) := by
  unfold updLaneReset
  repeat'
    first
      | (with_reducible first
          | intro _ | assumption | apply State.modLane_kept | apply endUpdate_kept | apply fallBack_kept
          | apply kept_ite) | split
theorem portFails_kept (l : Lane) (s : State) (hk : Kept q s) :
    Kept q (portFails l s) := by
  unfold portFails
  repeat'
    first
      | (with_reducible first
          | intro _ | assumption | apply resendReplies_kept | apply kept_ite) | simp only [kept_update] | split
theorem laneReset_kept (l : Lane) (cause : LaneCause) (s : State) (hk : Kept q s) :
    Kept q (laneReset l cause s) := by
  unfold laneReset
  repeat'
    first
      | (with_reducible first
          | intro _ | assumption | apply State.modLane_kept | apply abandonLocksIn_kept | apply clearLaneWork_kept
          | apply checkCastle_kept | apply updLaneReset_kept | apply portFails_kept | apply kept_ite)
      | (extract_lets +onlyGivenNames x; first | (refine kept_cut (q := q) (x := x) ?_ ?_ <;> [(unfold x; clear x); (intro hx; clear_value x)]) | clear_value x)
      | simp only [kept_update] | split
theorem withdrawLane_kept (l : Lane) (cause : WithdrawCause) (s : State) (hk : Kept q s) :
    Kept q (withdrawLane l cause s) := by
  unfold withdrawLane
  repeat'
    first
      | (with_reducible first
          | intro _ | assumption | apply laneReset_kept)
theorem supersede_kept (l : Lane) (s : State) (hk : Kept q s) :
    Kept q (supersede l s) := by
  unfold supersede
  repeat'
    first
      | (with_reducible first
          | intro _ | assumption | apply State.modLane_kept | apply presentLane_kept | apply laneReset_kept)
      | (extract_lets +onlyGivenNames x; first | (refine kept_cut (q := q) (x := x) ?_ ?_ <;> [(unfold x; clear x); (intro hx; clear_value x)]) | clear_value x)
      | simp only [kept_update]
theorem stageRecord_kept (l : Lane) (stage : Nat) (s : State) (hk : Kept q s) :
    Kept q (stageRecord l stage s) := by
  unfold stageRecord
  repeat'
    first
      | (with_reducible first
          | intro _ | assumption | apply presentLane_kept)
theorem laneOut_kept (l : Lane) (why : Nat) (s : State) (hk : Kept q s) :
    Kept q (laneOut l why s) := by
  unfold laneOut
  repeat'
    first
      | (with_reducible first
          | intro _ | assumption | apply State.modLane_kept | apply presentLane_kept | apply cutOver_kept)
      | simp only [kept_update]
theorem enterStage_kept (l : Lane) (stage : Nat) (s : State) (hk : Kept q s) :
    Kept q (enterStage l stage s) := by
  unfold enterStage
  repeat'
    first
      | (with_reducible first
          | intro _ | assumption | apply State.modLane_kept | apply stageRecord_kept | apply cutOver_kept)
      | simp only [kept_update]
theorem joinIdentity_kept (l : Lane) (s : State) (hk : Kept q s) :
    Kept q (joinIdentity l s) := by
  unfold joinIdentity
  repeat'
    first
      | (with_reducible first
          | intro _ | assumption | apply laneOut_kept | apply enterStage_kept | apply kept_ite)
      | (extract_lets +onlyGivenNames x; first | (refine kept_cut (q := q) (x := x) ?_ ?_ <;> [(unfold x; clear x); (intro hx; clear_value x)]) | clear_value x)
      | split
theorem beginJoin_kept (l : Lane) (s : State) (hk : Kept q s) :
    Kept q (beginJoin l s) := by
  unfold beginJoin
  repeat'
    first
      | (with_reducible first
          | intro _ | assumption | apply State.modLane_kept | apply joinIdentity_kept | apply kept_ite)
      | simp only [kept_update] | split
theorem abandonJoin_kept (l : Lane) (s : State) (hk : Kept q s) :
    Kept q (abandonJoin l s) := by
  unfold abandonJoin
  repeat'
    first
      | (with_reducible first
          | intro _ | assumption | apply State.modLane_kept | apply presentLane_kept | apply laneOut_kept
          | apply cutOver_kept | apply kept_ite)
      | (extract_lets +onlyGivenNames x; first | (refine kept_cut (q := q) (x := x) ?_ ?_ <;> [(unfold x; clear x); (intro hx; clear_value x)]) | clear_value x)
      | simp only [kept_update] | split
theorem diverge_kept (component : Nat) (s : State) (hk : Kept q s) :
    Kept q (diverge component s) := by
  unfold diverge
  repeat'
    first
      | (with_reducible first
          | intro _ | assumption | apply State.modLane_kept | apply laneRecord_kept | apply checkCastle_kept
          | apply laneOut_kept | apply joinIdentity_kept | apply kept_ite)
      | (extract_lets +onlyGivenNames x; first | (refine kept_cut (q := q) (x := x) ?_ ?_ <;> [(unfold x; clear x); (intro hx; clear_value x)]) | clear_value x)
      | simp only [kept_update] | split
theorem divUnlock_kept (s : State) (hk : Kept q s) :
    Kept q (divUnlock s) := by
  unfold divUnlock
  repeat'
    first
      | (with_reducible first
          | intro _ | assumption | apply beginJoin_kept | apply kept_ite)
      | (extract_lets +onlyGivenNames x; first | (refine kept_cut (q := q) (x := x) ?_ ?_ <;> [(unfold x; clear x); (intro hx; clear_value x)]) | clear_value x)
      | simp only [kept_update] | split
theorem joinEnWrite_kept (v : Bool) (s : State) (hk : Kept q s) :
    Kept q (joinEnWrite v s) := by
  unfold joinEnWrite
  repeat'
    first
      | (with_reducible first
          | intro _ | assumption | apply State.mapLanes_kept | apply enterStage_kept | apply beginJoin_kept
          | apply kept_ite)
      | (extract_lets +onlyGivenNames x; first | (refine kept_cut (q := q) (x := x) ?_ ?_ <;> [(unfold x; clear x); (intro hx; clear_value x)]) | clear_value x)
      | simp only [kept_update] | split
theorem castleInput_kept (s : State) (hk : Kept q s) :
    Kept q (castleInput s) := by
  unfold castleInput
  repeat'
    first
      | (with_reducible first
          | intro _ | assumption | apply present_kept)
theorem laneCtlWrite_kept (m : Nat) (v : Word) (s : State) (hk : Kept q s) :
    Kept q (laneCtlWrite m v s) := by
  unfold laneCtlWrite
  repeat'
    first
      | (with_reducible first
          | intro _ | assumption | apply writeRefused_kept | apply divUnlock_kept | apply joinEnWrite_kept
          | apply castleInput_kept | apply kept_ite)
      | (extract_lets +onlyGivenNames x; first | (refine kept_cut (q := q) (x := x) ?_ ?_ <;> [(unfold x; clear x); (intro hx; clear_value x)]) | clear_value x)
      | simp only [kept_update] | split
theorem setStartStatus_kept (l : Lane) (active peer solo : Bool) (ms : Nat) (s : State) (hk : Kept q s) :
    Kept q (setStartStatus l active peer solo ms s) := by
  unfold setStartStatus
  repeat'
    first
      | (with_reducible first
          | intro _ | assumption | apply State.modLane_kept)
      | (extract_lets +onlyGivenNames x; first | (refine kept_cut (q := q) (x := x) ?_ ?_ <;> [(unfold x; clear x); (intro hx; clear_value x)]) | clear_value x)
      | simp only [kept_update]
theorem joined_kept (l : Lane) (s : State) (hk : Kept q s) :
    Kept q (joined l s) := by
  unfold joined
  repeat'
    first
      | (with_reducible first
          | intro _ | assumption | apply State.modLane_kept | apply laneRecord_kept | apply setStartStatus_kept
          | apply cutOver_kept)
      | (extract_lets +onlyGivenNames x; first | (refine kept_cut (q := q) (x := x) ?_ ?_ <;> [(unfold x; clear x); (intro hx; clear_value x)]) | clear_value x)
      | simp only [kept_update]
theorem pathState_kept (p : Path) (up : Bool) (s : State) (hk : Kept q s) :
    Kept q (pathState p up s) := by
  unfold pathState
  repeat'
    first
      | (with_reducible first
          | intro _ | assumption | apply presentLane_kept | apply checkCastle_kept | apply kept_ite)
      | (extract_lets +onlyGivenNames x; first | (refine kept_cut (q := q) (x := x) ?_ ?_ <;> [(unfold x; clear x); (intro hx; clear_value x)]) | clear_value x)
      | simp only [kept_update] | split
theorem restoreRegs_kept (t : Nat) (s : State) (hk : Kept q s) :
    Kept q (restoreRegs t s) := by
  unfold restoreRegs
  repeat'
    first
      | (with_reducible first
          | intro _ | assumption | apply State.setLive_kept | apply State.setCopy_kept | apply kept_foldl
          | apply kept_ite)
      | (extract_lets +onlyGivenNames x; first | (refine kept_cut (q := q) (x := x) ?_ ?_ <;> [(unfold x; clear x); (intro hx; clear_value x)]) | clear_value x)
      | split
theorem restoreTarget_kept (t : Nat) (s : State) (hk : Kept q s) :
    Kept q (restoreTarget t s) := by
  unfold restoreTarget
  repeat'
    first
      | (with_reducible first
          | intro _ | assumption | apply startWire_kept | apply busConfigured_kept | apply restoreRegs_kept
          | apply kept_foldl | apply kept_ite)
      | (extract_lets +onlyGivenNames x; first | (refine kept_cut (q := q) (x := x) ?_ ?_ <;> [(unfold x; clear x); (intro hx; clear_value x)]) | clear_value x)
      | split
theorem presentUnit_kept (t : Nat) (all : Bool) (s : State) (hk : Kept q s) :
    Kept q (presentUnit t all s) := by
  unfold presentUnit
  repeat'
    first
      | (with_reducible first
          | intro _ | assumption | apply presentShadow_kept | apply presentReport_kept | apply kept_ite)
      | (extract_lets +onlyGivenNames x; first | (refine kept_cut (q := q) (x := x) ?_ ?_ <;> [(unfold x; clear x); (intro hx; clear_value x)]) | clear_value x)
      | split
theorem claimUnit_kept (t : Nat) (l : Lane) (s : State) (hk : Kept q s) :
    Kept q (claimUnit t l s) := by
  unfold claimUnit
  repeat'
    first
      | (with_reducible first
          | intro _ | assumption | apply claimChan_kept | apply fullTileReport_kept | apply fioClaim_kept
          | apply lgtClaim_kept | apply accClaim_kept | apply denClaim_kept | apply presentBus_kept
          | apply busClaim_kept | apply presentUnit_kept | apply kept_foldl | apply kept_ite)
      | (extract_lets +onlyGivenNames x; first | (refine kept_cut (q := q) (x := x) ?_ ?_ <;> [(unfold x; clear x); (intro hx; clear_value x)]) | clear_value x)
      | split
theorem acceptClaim_kept (t : Nat) (l : Lane) (restore : Bool) (count ply idx : Nat) (s : State) (hk : Kept q s) :
    Kept q (acceptClaim t l restore count ply idx s) := by
  unfold acceptClaim
  repeat'
    first
      | (with_reducible first
          | intro _ | assumption | apply State.setTgt_kept | apply restoreRegs_kept | apply restoreTarget_kept
          | apply claimUnit_kept | apply kept_ite)
      | (extract_lets +onlyGivenNames x; first | (refine kept_cut (q := q) (x := x) ?_ ?_ <;> [(unfold x; clear x); (intro hx; clear_value x)]) | clear_value x)
      | simp only [kept_update] | split
theorem targetWrite_kept (t a : Nat) (v : Word) (s : State) (hk : Kept q s) :
    Kept q (targetWrite t a v s) := by
  unfold targetWrite
  repeat'
    first
      | (with_reducible first
          | intro _ | assumption | apply tileApply_kept | apply fioApply_kept | apply lgtApply_kept
          | apply accApply_kept | apply denApply_kept | apply busApply_kept | apply kept_ite) | split
theorem targetClose_kept (t : Nat) (s : State) (hk : Kept q s) :
    Kept q (targetClose t s) := by
  unfold targetClose
  repeat'
    first
      | (with_reducible first
          | intro _ | assumption | apply presentShadow_kept | apply busClose_kept | apply presentUnit_kept
          | apply kept_ite)
      | (extract_lets +onlyGivenNames x; first | (refine kept_cut (q := q) (x := x) ?_ ?_ <;> [(unfold x; clear x); (intro hx; clear_value x)]) | clear_value x)
      | split
theorem parkTarget_kept (t : Nat) (s : State) (hk : Kept q s) :
    Kept q (parkTarget t s) := by
  unfold parkTarget
  repeat'
    first
      | (with_reducible first
          | intro _ | assumption | apply State.modTgt_kept | apply State.modBus_kept | apply chOff_kept
          | apply fioOff_kept | apply lgtOff_kept | apply mxOffCmd_kept | apply kept_foldl | apply kept_ite)
      | (extract_lets +onlyGivenNames x; first | (refine kept_cut (q := q) (x := x) ?_ ?_ <;> [(unfold x; clear x); (intro hx; clear_value x)]) | clear_value x)
      | simp only [kept_update] | split
theorem applyContent_kept (t : Nat) (l : Lane) (c : Content) (s : State) (hk : Kept q s) :
    Kept q (applyContent t l c s) := by
  unfold applyContent
  repeat'
    first
      | (with_reducible first
          | intro _ | assumption | apply State.modTgt_kept | apply roundCommand_kept | apply busSubmit_kept
          | apply acceptClaim_kept | apply targetWrite_kept | apply targetClose_kept | apply parkTarget_kept
          | apply kept_ite) | simp only [kept_update] | split
theorem shadowFailed_kept (t : Nat) (missing : Bool) (count ply idx : Nat) (s : State) (hk : Kept q s) :
    Kept q (shadowFailed t missing count ply idx s) := by
  unfold shadowFailed
  repeat'
    first
      | (with_reducible first
          | intro _ | assumption | apply State.modTgt_kept) | simp only [kept_update] | split
theorem shadowCompare_kept (t count : Nat) (c : Content) (isShadow : Bool) (ply idx : Nat) (s : State) (hk : Kept q s) :
    Kept q (shadowCompare t count c isShadow ply idx s) := by
  unfold shadowCompare
  repeat'
    first
      | (with_reducible first
          | intro _ | assumption | apply State.modTgt_kept | apply shadowFailed_kept | apply kept_ite)
      | (extract_lets +onlyGivenNames x; first | (refine kept_cut (q := q) (x := x) ?_ ?_ <;> [(unfold x; clear x); (intro hx; clear_value x)]) | clear_value x)
      | simp only [kept_update] | split
theorem applyCommand_kept (t : Nat) (l : Lane) (count ply idx : Nat) (c : Content) (s : State) (hk : Kept q s) :
    Kept q (applyCommand t l count ply idx c s) := by
  unfold applyCommand
  repeat'
    first
      | (with_reducible first
          | intro _ | assumption | apply State.modTgt_kept | apply applyContent_kept | apply shadowCompare_kept
          | apply kept_ite)
      | (extract_lets +onlyGivenNames x; first | (refine kept_cut (q := q) (x := x) ?_ ?_ <;> [(unfold x; clear x); (intro hx; clear_value x)]) | clear_value x)
      | simp only [kept_update] | split
theorem commandOnce_kept (t : Nat) (l : Lane) (count ply idx : Nat) (c : Content) (s : State) (hk : Kept q s) :
    Kept q (commandOnce t l count ply idx c s) := by
  unfold commandOnce
  repeat'
    first
      | (with_reducible first
          | intro _ | assumption | apply State.modTgt_kept | apply applyCommand_kept | apply kept_ite)
      | (extract_lets +onlyGivenNames x; first | (refine kept_cut (q := q) (x := x) ?_ ?_ <;> [(unfold x; clear x); (intro hx; clear_value x)]) | clear_value x)
      | simp only [kept_update] | split
theorem resendFrom_kept (t : Nat) (l : Lane) (count : Nat) (s : State) (hk : Kept q s) :
    Kept q (resendFrom t l count s) := by
  unfold resendFrom
  repeat'
    first
      | (with_reducible first
          | intro _ | assumption | apply commandOnce_kept | apply kept_foldl | apply kept_ite)
      | (extract_lets +onlyGivenNames x; first | (refine kept_cut (q := q) (x := x) ?_ ?_ <;> [(unfold x; clear x); (intro hx; clear_value x)]) | clear_value x)
      | simp only [kept_update] | split
theorem commandStep_kept (t : Nat) (l : Lane) (count ply idx : Nat) (c : Content) (s : State) (hk : Kept q s) :
    Kept q (commandStep t l count ply idx c s) := by
  unfold commandStep
  repeat'
    first
      | (with_reducible first
          | intro _ | assumption | apply State.setTgt_kept | apply busClaim_kept | apply acceptClaim_kept
          | apply commandOnce_kept | apply resendFrom_kept | apply kept_ite)
      | (extract_lets +onlyGivenNames x; first | (refine kept_cut (q := q) (x := x) ?_ ?_ <;> [(unfold x; clear x); (intro hx; clear_value x)]) | clear_value x)
      | simp only [kept_update] | split
theorem execLaneResetEvent_kept (l : Lane) (cause : LaneCause) (s : State) (hk : Kept q s) :
    KeptO q (execLaneResetEvent l cause s) := by
  unfold execLaneResetEvent
  repeat'
    first
      | (with_reducible first
          | intro _ | assumption | apply laneReset_kept | apply keptO_next)
theorem execLaneWatchdog_kept (l : Lane) (s : State) (hk : Kept q s) :
    KeptO q (execLaneWatchdog l s) := by
  unfold execLaneWatchdog
  repeat'
    first
      | (with_reducible first
          | intro _ | assumption | apply laneReset_kept | apply keptO_next)
theorem execCoreFault_kept (l : Lane) (_c : Fin 24) (_k : CoreFault) (s : State) (hk : Kept q s) :
    KeptO q (execCoreFault l _c _k s) := by
  unfold execCoreFault
  repeat'
    first
      | (with_reducible first
          | intro _ | assumption | apply withdrawLane_kept | apply keptO_next)
theorem execUncorrectableError_kept (l : Lane) (s : State) (hk : Kept q s) :
    KeptO q (execUncorrectableError l s) := by
  unfold execUncorrectableError
  repeat'
    first
      | (with_reducible first
          | intro _ | assumption | apply withdrawLane_kept | apply keptO_next)
theorem execCommandReceived_kept (t : Fin 45) (l : Lane) (count : BitVec 20) (ply idx : Nat) (c : Content) (s : State) (hk : Kept q s) :
    KeptO q (execCommandReceived t l count ply idx c s) := by
  unfold execCommandReceived
  repeat'
    first
      | (with_reducible first
          | intro _ | assumption | apply commandStep_kept | apply keptO_next)
theorem execKeepAlive_kept (l : Lane) (t : Fin 45) (s : State) (hk : Kept q s) :
    KeptO q (execKeepAlive l t s) := by
  unfold execKeepAlive
  repeat'
    first
      | (with_reducible first
          | intro _ | assumption | apply State.modTgt_kept | apply kept_ite | apply keptO_ite | apply keptO_next)
      | simp only [kept_update] | split
theorem execShadowReceived_kept (t : Fin 45) (count : BitVec 20) (c : Content) (s : State) (hk : Kept q s) :
    KeptO q (execShadowReceived t count c s) := by
  unfold execShadowReceived
  repeat'
    first
      | (with_reducible first
          | intro _ | assumption | apply shadowCompare_kept | apply kept_ite | apply keptO_ite | apply keptO_next)
      | split
theorem execShadowMissing_kept (t : Fin 45) (count : BitVec 20) (s : State) (hk : Kept q s) :
    KeptO q (execShadowMissing t count s) := by
  unfold execShadowMissing
  repeat'
    first
      | (with_reducible first
          | intro _ | assumption | apply State.modTgt_kept | apply shadowFailed_kept | apply keptO_next)
      | simp only [kept_update] | split
theorem execPathDown_kept (p : Path) (s : State) (hk : Kept q s) :
    KeptO q (execPathDown p s) := by
  unfold execPathDown
  repeat'
    first
      | (with_reducible first
          | intro _ | assumption | apply pathState_kept | apply keptO_next)
theorem execPathUp_kept (p : Path) (s : State) (hk : Kept q s) :
    KeptO q (execPathUp p s) := by
  unfold execPathUp
  repeat'
    first
      | (with_reducible first
          | intro _ | assumption | apply pathState_kept | apply keptO_next)
theorem execWithdraw_kept (l : Lane) (cause : WithdrawCause) (s : State) (hk : Kept q s) :
    KeptO q (execWithdraw l cause s) := by
  unfold execWithdraw
  repeat'
    first
      | (with_reducible first
          | intro _ | assumption | apply withdrawLane_kept | apply keptO_next)
theorem execClaimReceived_kept (t : Fin 45) (l : Lane) (ply idx : Nat) (s : State) (hk : Kept q s) :
    KeptO q (execClaimReceived t l ply idx s) := by
  unfold execClaimReceived
  repeat'
    first
      | (with_reducible first
          | intro _ | assumption | apply acceptClaim_kept | apply keptO_next)
theorem execSuperseded_kept (l : Lane) (s : State) (hk : Kept q s) :
    KeptO q (execSuperseded l s) := by
  unfold execSuperseded
  repeat'
    first
      | (with_reducible first
          | intro _ | assumption | apply supersede_kept | apply keptO_next)
theorem execJoinAbandoned_kept (s : State) (hk : Kept q s) :
    KeptO q (execJoinAbandoned s) := by
  unfold execJoinAbandoned
  repeat'
    first
      | (with_reducible first
          | intro _ | assumption | apply abandonJoin_kept | apply keptO_next) | split
theorem execJoinRetry_kept (s : State) (hk : Kept q s) :
    KeptO q (execJoinRetry s) := by
  unfold execJoinRetry
  repeat'
    first
      | (with_reducible first
          | intro _ | assumption | apply kept_ite | apply keptO_ite | apply keptO_next) | simp only [kept_update]
      | split
theorem execLaneCtlCastle_kept (s : State) (hk : Kept q s) :
    KeptO q (execLaneCtlCastle s) := by
  unfold execLaneCtlCastle
  repeat'
    first
      | (with_reducible first
          | intro _ | assumption | apply castleInput_kept | apply keptO_next)
theorem execJoinEn_kept (v : Bool) (s : State) (hk : Kept q s) :
    KeptO q (execJoinEn v s) := by
  unfold execJoinEn
  repeat'
    first
      | (with_reducible first
          | intro _ | assumption | apply joinEnWrite_kept | apply keptO_next)
theorem execDivUnlock_kept (s : State) (hk : Kept q s) :
    KeptO q (execDivUnlock s) := by
  unfold execDivUnlock
  repeat'
    first
      | (with_reducible first
          | intro _ | assumption | apply divUnlock_kept | apply keptO_next)
theorem latchTime_kept (l : Lane) (m : Nat) (s : State) (hk : Kept q s) :
    Kept q (latchTime l m s) := by
  unfold latchTime
  repeat'
    first
      | (with_reducible first
          | intro _ | assumption | apply State.modLane_kept)
      | (extract_lets +onlyGivenNames x; first | (refine kept_cut (q := q) (x := x) ?_ ?_ <;> [(unfold x; clear x); (intro hx; clear_value x)]) | clear_value x)
      | simp only [kept_update]
theorem execScoTimeRead_kept (l : Lane) (m : Fin 32) (s : State) (hk : Kept q s) :
    KeptO q (execScoTimeRead l m s) := by
  unfold execScoTimeRead
  repeat'
    first
      | (with_reducible first
          | intro _ | assumption | apply latchTime_kept | apply keptO_next)
theorem tileSilentPresent_kept (t : Nat) (s : State) (hk : Kept q s) :
    Kept q (tileSilentPresent t s) := by
  unfold tileSilentPresent
  repeat'
    first
      | (with_reducible first
          | intro _ | assumption | apply presentUnit_kept | apply kept_ite) | split
theorem execTileSilentReport_kept (t : Fin 14) (s : State) (hk : Kept q s) :
    KeptO q (execTileSilentReport t s) := by
  unfold execTileSilentReport
  repeat'
    first
      | (with_reducible first
          | intro _ | assumption | apply tileSilentPresent_kept | apply keptO_next)
/-! ### Power -/
theorem pendWake_kept (cause : Nat) (s : State) (hk : Kept q s) :
    Kept q (pendWake cause s) := by
  unfold pendWake
  repeat'
    first
      | (with_reducible first
          | intro _ | assumption | apply kept_ite) | simp only [kept_update] | split
theorem wakeInput_kept (cause : Nat) (s : State) (hk : Kept q s) :
    Kept q (wakeInput cause s) := by
  unfold wakeInput
  repeat'
    first
      | (with_reducible first
          | intro _ | assumption | apply raiseWake_kept | apply pendWake_kept | apply kept_ite) | split
theorem beginEntry_kept (target : Nat) (s : State) (hk : Kept q s) :
    Kept q (beginEntry target s) := by
  unfold beginEntry
  repeat'
    first
      | (with_reducible first
          | intro _ | assumption | apply laneRecord_kept) | simp only [kept_update]
theorem requestPower_kept (target : Nat) (s : State) (hk : Kept q s) :
    Kept q (requestPower target s).2 := by
  unfold requestPower
  repeat'
    first
      | (with_reducible first
          | intro _ | assumption | apply pendWake_kept | apply beginEntry_kept | apply kept_ite | apply kept_ite2
          | apply kept_ite3 | apply kept_ite4)
      | (extract_lets +onlyGivenNames x; first | (refine kept_cut (q := q) (x := x) ?_ ?_ <;> [(unfold x; clear x); (intro hx; clear_value x)]) | (refine kept_cut3 (q := q) (x := x) ?_ ?_ <;> [(unfold x; clear x); (intro hx; clear_value x)]) | (refine kept_cut2 (q := q) (x := x) ?_ ?_ <;> [(unfold x; clear x); (intro hx; clear_value x)]) | clear_value x)
      | simp only [kept_update] | split | dsimp only
theorem linCommand_kept (bit : Nat) (f : Nat → Bool) (s : State) (hk : Kept q s) :
    Kept q (linCommand bit f s) := by
  unfold linCommand
  repeat'
    first
      | (with_reducible first
          | intro _ | assumption | apply emit_kept)
theorem quietCan_kept {z : List Instr} (q : Bool) (s : State) (hk : Kept z s) :
    Kept z (quietCan q s) := by
  unfold quietCan
  repeat'
    first
      | (with_reducible first
          | intro _ | assumption | apply State.modBus_kept | apply markStarted_kept | apply kept_foldl
          | apply kept_ite) | simp only [kept_update] | split
theorem abandonEntry_kept (s : State) (hk : Kept q s) :
    Kept q (abandonEntry s) := by
  unfold abandonEntry
  repeat'
    first
      | (with_reducible first
          | intro _ | assumption | apply laneRecord_kept | apply linCommand_kept | apply quietCan_kept
          | apply kept_ite)
      | (extract_lets +onlyGivenNames x; first | (refine kept_cut (q := q) (x := x) ?_ ?_ <;> [(unfold x; clear x); (intro hx; clear_value x)]) | clear_value x)
      | simp only [kept_update] | split
theorem abortPoint_kept (s : State) (hk : Kept q s) :
    Kept q (abortPoint s) := by
  unfold abortPoint
  repeat'
    first
      | (with_reducible first
          | intro _ | assumption | apply linCommand_kept | apply quietCan_kept | apply abandonEntry_kept
          | apply kept_ite) | simp only [kept_update] | split
theorem pwrBoundary_kept (s : State) (hk : Kept q s) :
    Kept q (pwrBoundary s) := by
  unfold pwrBoundary
  repeat'
    first
      | (with_reducible first
          | intro _ | assumption | apply State.mapLanes_kept | apply laneRecord_kept | apply kept_ite)
      | (extract_lets +onlyGivenNames x; first | (refine kept_cut (q := q) (x := x) ?_ ?_ <;> [(unfold x; clear x); (intro hx; clear_value x)]) | clear_value x)
      | simp only [kept_update] | split
theorem captureRetention_kept (l : Lane) (s : State) (hk : Kept q s) :
    Kept q (captureRetention l s) := by
  unfold captureRetention
  repeat'
    first
      | (with_reducible first
          | intro _ | assumption | apply kept_ite) | simp only [kept_update] | split
theorem pwrEndB_kept (s : State) (hk : Kept q s) :
    Kept q (pwrEndB s) := by
  unfold pwrEndB
  repeat'
    first
      | (with_reducible first
          | intro _ | assumption | apply abortPoint_kept | apply captureRetention_kept | apply kept_ite)
      | (extract_lets +onlyGivenNames x; first | (refine kept_cut (q := q) (x := x) ?_ ?_ <;> [(unfold x; clear x); (intro hx; clear_value x)]) | clear_value x)
      | simp only [kept_update] | split
theorem captureNumber_kept (s : State) (hk : Kept q s) :
    Kept q (captureNumber s) := by
  unfold captureNumber
  repeat'
    first
      | (with_reducible first
          | intro _ | assumption | apply loadLatch_kept | apply kept_foldl | apply kept_ite)
      | (extract_lets +onlyGivenNames x; first | (refine kept_cut (q := q) (x := x) ?_ ?_ <;> [(unfold x; clear x); (intro hx; clear_value x)]) | clear_value x)
      | simp only [kept_update] | split
theorem restoreBank_kept (b : Nat) (s : State) (hk : Kept q s) :
    Kept q (restoreBank b s) := by
  unfold restoreBank
  repeat'
    first
      | (with_reducible first
          | intro _ | assumption | apply State.setCopy_kept | apply kept_foldl | apply kept_ite)
      | (extract_lets +onlyGivenNames x; first | (refine kept_cut (q := q) (x := x) ?_ ?_ <;> [(unfold x; clear x); (intro hx; clear_value x)]) | clear_value x)
      | split
theorem restoreBankZero_kept (s : State) (hk : Kept q s) :
    Kept q (restoreBankZero s) := by
  unfold restoreBankZero
  repeat'
    first
      | (with_reducible first
          | intro _ | assumption | apply State.setCopy_kept | apply State.setCopies_kept)
      | (extract_lets +onlyGivenNames x; first | (refine kept_cut (q := q) (x := x) ?_ ?_ <;> [(unfold x; clear x); (intro hx; clear_value x)]) | clear_value x)
      | simp only [kept_update]
theorem restoreChan_kept (n : Nat) (s : State) (hk : Kept q s) :
    Kept q (restoreChan n s) := by
  unfold restoreChan
  repeat'
    first
      | (with_reducible first
          | intro _ | assumption | apply State.modChan_kept | apply kept_ite)
      | (extract_lets +onlyGivenNames x; first | (refine kept_cut (q := q) (x := x) ?_ ?_ <;> [(unfold x; clear x); (intro hx; clear_value x)]) | clear_value x)
      | simp only [kept_update] | split
theorem restoreRetained_kept (s : State) (hk : Kept q s) :
    Kept q (restoreRetained s) := by
  unfold restoreRetained
  repeat'
    first
      | (with_reducible first
          | intro _ | assumption | apply State.setCopy_kept | apply State.clearCopy_kept | apply restoreTarget_kept
          | apply restoreBank_kept | apply restoreBankZero_kept | apply restoreChan_kept | apply kept_foldl
          | apply kept_ite)
      | (extract_lets +onlyGivenNames x; first | (refine kept_cut (q := q) (x := x) ?_ ?_ <;> [(unfold x; clear x); (intro hx; clear_value x)]) | clear_value x)
      | split
theorem closeAllSessions_kept (cause : Nat) (s : State) (hk : Kept q s) :
    Kept q (closeAllSessions cause s) := by
  unfold closeAllSessions
  repeat'
    first
      | (with_reducible first
          | intro _ | assumption | apply laneRecord_kept | apply kept_foldl)
      | (extract_lets +onlyGivenNames x; first | (refine kept_cut (q := q) (x := x) ?_ ?_ <;> [(unfold x; clear x); (intro hx; clear_value x)]) | clear_value x)
      | simp only [kept_update]
theorem commitEntry_kept (s : State) (hk : Kept q s) :
    Kept q (commitEntry s) := by
  unfold commitEntry
  repeat'
    first
      | (with_reducible first
          | intro _ | assumption | apply laneRecord_kept | apply endSession_kept | apply closeAllSessions_kept
          | apply kept_ite)
      | (extract_lets +onlyGivenNames x; first | (refine kept_cut (q := q) (x := x) ?_ ?_ <;> [(unfold x; clear x); (intro hx; clear_value x)]) | clear_value x)
      | simp only [kept_update] | split
theorem unpowerTile_kept (t : Nat) (s : State) (hk : Kept q s) :
    Kept q (unpowerTile t s) := by
  unfold unpowerTile
  repeat'
    first
      | (with_reducible first
          | intro _ | assumption | apply State.setChan_kept | apply State.clearLive_kept | apply kept_foldl)
theorem sleepTile_kept (t : Nat) (s : State) (hk : Kept q s) :
    Kept q (sleepTile t s) := by
  unfold sleepTile
  repeat'
    first
      | (with_reducible first
          | intro _ | assumption | apply State.modChan_kept | apply kept_foldl) | simp only [kept_update]
theorem pastAlarm_kept (s : State) (hk : Kept q s) :
    Kept q (pastAlarm s) := by
  unfold pastAlarm
  repeat'
    first
      | (with_reducible first
          | intro _ | assumption | apply raiseWake_kept | apply kept_ite) | split
theorem powerDown_kept (s : State) (hk : Kept q s) :
    Kept q (powerDown s) := by
  unfold powerDown
  repeat'
    first
      | (with_reducible first
          | intro _ | assumption | apply present_kept | apply clearLaneWork_kept | apply unpowerTile_kept
          | apply sleepTile_kept | apply pastAlarm_kept | apply doorCheck_kept | apply kept_foldl | apply kept_ite)
      | (extract_lets +onlyGivenNames x; first | (refine kept_cut (q := q) (x := x) ?_ ?_ <;> [(unfold x; clear x); (intro hx; clear_value x)]) | clear_value x)
      | simp only [kept_update] | split
theorem deepAfter_kept (s : State) (hk : Kept q s) :
    Kept q (deepAfter s) := by
  unfold deepAfter
  repeat'
    first
      | (with_reducible first
          | intro _ | assumption | apply unpowerTile_kept | apply kept_foldl | apply kept_ite)
      | (extract_lets +onlyGivenNames x; first | (refine kept_cut (q := q) (x := x) ?_ ?_ <;> [(unfold x; clear x); (intro hx; clear_value x)]) | clear_value x)
      | simp only [kept_update] | split
theorem wakeStep_kept (cause idx : Nat) (bankFail : BitVec 8) (multi : Bool) (s : State) (hk : Kept q s) :
    Kept q (wakeStep cause idx bankFail multi s) := by
  unfold wakeStep
  repeat'
    first
      | (with_reducible first
          | intro _ | assumption | apply raiseWake_kept | apply kept_ite)
      | (extract_lets +onlyGivenNames x; first | (refine kept_cut (q := q) (x := x) ?_ ?_ <;> [(unfold x; clear x); (intro hx; clear_value x)]) | clear_value x)
      | simp only [kept_update] | split
theorem pwrCtlWrite_kept (m : Nat) (v : Word) (s : State) (hk : Kept q s) :
    Kept q (pwrCtlWrite m v s) := by
  unfold pwrCtlWrite
  repeat'
    first
      | (with_reducible first
          | intro _ | assumption | apply writeRefused_kept | apply requestPower_kept | apply kept_ite
          | apply kept_ite2 | apply kept_ite3 | apply kept_ite4)
      | (extract_lets +onlyGivenNames x; first | (refine kept_cut (q := q) (x := x) ?_ ?_ <;> [(unfold x; clear x); (intro hx; clear_value x)]) | (refine kept_cut3 (q := q) (x := x) ?_ ?_ <;> [(unfold x; clear x); (intro hx; clear_value x)]) | (refine kept_cut2 (q := q) (x := x) ?_ ?_ <;> [(unfold x; clear x); (intro hx; clear_value x)]) | clear_value x)
      | simp only [kept_update] | split | dsimp only
theorem wakeRise_kept (i : Feed) (s : State) (hk : Kept q s) :
    Kept q (wakeRise i s) := by
  unfold wakeRise
  repeat'
    first
      | (with_reducible first
          | intro _ | assumption | apply present_kept | apply raiseWake_kept | apply kept_ite)
      | (extract_lets +onlyGivenNames x; first | (refine kept_cut (q := q) (x := x) ?_ ?_ <;> [(unfold x; clear x); (intro hx; clear_value x)]) | clear_value x)
      | simp only [kept_update] | split
theorem wakeFall_kept (i : Feed) (s : State) (hk : Kept q s) :
    Kept q (wakeFall i s) := by
  unfold wakeFall
  repeat'
    first
      | (with_reducible first
          | intro _ | assumption | apply present_kept)
      | (extract_lets +onlyGivenNames x; first | (refine kept_cut (q := q) (x := x) ?_ ?_ <;> [(unfold x; clear x); (intro hx; clear_value x)]) | clear_value x)
      | simp only [kept_update] | split
theorem execWakeInputRise_kept (i : Feed) (s : State) (hk : Kept q s) :
    KeptO q (execWakeInputRise i s) := by
  unfold execWakeInputRise
  repeat'
    first
      | (with_reducible first
          | intro _ | assumption | apply wakeRise_kept | apply keptO_next)
theorem execWakeInputFall_kept (i : Feed) (s : State) (hk : Kept q s) :
    KeptO q (execWakeInputFall i s) := by
  unfold execWakeInputFall
  repeat'
    first
      | (with_reducible first
          | intro _ | assumption | apply wakeFall_kept | apply keptO_next)
theorem execJournalWriteComplete_kept (written : Bool) (s : State) (hk : Kept q s) :
    KeptO q (execJournalWriteComplete written s) := by
  unfold execJournalWriteComplete
  repeat'
    first
      | (with_reducible first
          | intro _ | assumption | apply laneRecord_kept | apply journalLife_kept | apply kept_ite | apply keptO_ite
          | apply keptO_next)
      | (extract_lets +onlyGivenNames x; first | (refine kept_cut (q := q) (x := x) ?_ ?_ <;> [(unfold x; clear x); (intro hx; clear_value x)]) | clear_value x)
      | simp only [kept_update] | split
theorem execEntryCommit_kept (s : State) (hk : Kept q s) :
    KeptO q (execEntryCommit s) := by
  unfold execEntryCommit
  repeat'
    first
      | (with_reducible first
          | intro _ | assumption | apply commitEntry_kept | apply keptO_next)
theorem execPowerDownComplete_kept (s : State) (hk : Kept q s) :
    KeptO q (execPowerDownComplete s) := by
  unfold execPowerDownComplete
  repeat'
    first
      | (with_reducible first
          | intro _ | assumption | apply powerDown_kept | apply keptO_next)
theorem execDeepAfterExpiry_kept (s : State) (hk : Kept q s) :
    KeptO q (execDeepAfterExpiry s) := by
  unfold execDeepAfterExpiry
  repeat'
    first
      | (with_reducible first
          | intro _ | assumption | apply deepAfter_kept | apply keptO_next)
theorem execAlarm_kept (s : State) (hk : Kept q s) :
    KeptO q (execAlarm s) := by
  unfold execAlarm
  repeat'
    first
      | (with_reducible first
          | intro _ | assumption | apply present_kept | apply raiseWake_kept | apply kept_ite | apply keptO_ite
          | apply keptO_next) | split
theorem execRtcReport_kept (s : State) (hk : Kept q s) :
    KeptO q (execRtcReport s) := by
  unfold execRtcReport
  repeat'
    first
      | (with_reducible first
          | intro _ | assumption | apply present_kept | apply keptO_next)
      | (extract_lets +onlyGivenNames x; first | (refine kept_cut (q := q) (x := x) ?_ ?_ <;> [(unfold x; clear x); (intro hx; clear_value x)]) | clear_value x)
      | simp only [kept_update]
theorem execWakeEvent_kept (cause idx : BitVec 4) (bankFail : BitVec 8) (multi : Bool) (s : State) (hk : Kept q s) :
    KeptO q (execWakeEvent cause idx bankFail multi s) := by
  unfold execWakeEvent
  repeat'
    first
      | (with_reducible first
          | intro _ | assumption | apply wakeStep_kept | apply keptO_next)
/-! ### Update -/
theorem State.modUpd_kept (s : State) (r : Option Lane) (f : Upd → Upd) (hk : Kept q s) :
    Kept q (State.modUpd s r f) := by
  unfold State.modUpd
  repeat'
    first
      | (with_reducible first
          | intro _ | assumption) | simp only [kept_update] | split
theorem State.modNvm_kept (s : State) (r : Option Lane) (f : Nvm → Nvm) (hk : Kept q s) :
    Kept q (State.modNvm s r f) := by
  unfold State.modNvm
  repeat'
    first
      | (with_reducible first
          | intro _ | assumption | apply State.modLane_kept | apply State.mapLanes_kept) | simp only [kept_update]
      | split
theorem updBegin_kept (r : Option Lane) (kind lanes len : Nat) (s : State) (hk : Kept q s) :
    Kept q (updBegin r kind lanes len s).2 := by
  unfold updBegin
  repeat'
    first
      | (with_reducible first
          | intro _ | assumption | apply laneRecord_kept | apply State.modUpd_kept | apply State.modNvm_kept
          | apply kept_ite | apply kept_ite2 | apply kept_ite3 | apply kept_ite4)
      | (extract_lets +onlyGivenNames x; first | (refine kept_cut (q := q) (x := x) ?_ ?_ <;> [(unfold x; clear x); (intro hx; clear_value x)]) | (refine kept_cut3 (q := q) (x := x) ?_ ?_ <;> [(unfold x; clear x); (intro hx; clear_value x)]) | (refine kept_cut2 (q := q) (x := x) ?_ ?_ <;> [(unfold x; clear x); (intro hx; clear_value x)]) | clear_value x)
      | simp only [kept_update] | split | dsimp only
theorem updErased_kept (r : Option Lane) (l : Lane) (s : State) (hk : Kept q s) :
    Kept q (updErased r l s) := by
  unfold updErased
  repeat'
    first
      | (with_reducible first
          | intro _ | assumption | apply State.modUpd_kept | apply kept_ite)
      | (extract_lets +onlyGivenNames x; first | (refine kept_cut (q := q) (x := x) ?_ ?_ <;> [(unfold x; clear x); (intro hx; clear_value x)]) | clear_value x)
      | simp only [kept_update] | split
theorem updData_kept (r : Option Lane) (off : Nat) (ws : List Word) (s : State) (hk : Kept q s) :
    Kept q (updData r off ws s).2 := by
  unfold updData
  repeat'
    first
      | (with_reducible first
          | intro _ | assumption | apply State.modUpd_kept | apply State.modNvm_kept | apply kept_foldl
          | apply kept_ite | apply kept_foldl2 | apply kept_ite2 | apply kept_ite3 | apply kept_ite4)
      | (extract_lets +onlyGivenNames x; first | (refine kept_cut (q := q) (x := x) ?_ ?_ <;> [(unfold x; clear x); (intro hx; clear_value x)]) | (refine kept_cut3 (q := q) (x := x) ?_ ?_ <;> [(unfold x; clear x); (intro hx; clear_value x)]) | (refine kept_cut2 (q := q) (x := x) ?_ ?_ <;> [(unfold x; clear x); (intro hx; clear_value x)]) | clear_value x)
      | simp only [kept_update] | split | dsimp only
theorem updVerify_kept (r : Option Lane) (s : State) (hk : Kept q s) :
    Kept q (updVerify r s).2 := by
  unfold updVerify
  repeat'
    first
      | (with_reducible first
          | intro _ | assumption | apply State.modUpd_kept | apply kept_ite | apply kept_ite2 | apply kept_ite3
          | apply kept_ite4)
      | (extract_lets +onlyGivenNames x; first | (refine kept_cut (q := q) (x := x) ?_ ?_ <;> [(unfold x; clear x); (intro hx; clear_value x)]) | (refine kept_cut3 (q := q) (x := x) ?_ ?_ <;> [(unfold x; clear x); (intro hx; clear_value x)]) | (refine kept_cut2 (q := q) (x := x) ?_ ?_ <;> [(unfold x; clear x); (intro hx; clear_value x)]) | clear_value x)
      | simp only [kept_update] | split | dsimp only
theorem updVerified_kept (r : Option Lane) (l : Lane) (code : Nat) (checkAt : Word) (s : State) (hk : Kept q s) :
    Kept q (updVerified r l code checkAt s) := by
  unfold updVerified
  repeat'
    first
      | (with_reducible first
          | intro _ | assumption | apply laneRecord_kept | apply State.modUpd_kept | apply State.modNvm_kept
          | apply kept_ite)
      | (extract_lets +onlyGivenNames x; first | (refine kept_cut (q := q) (x := x) ?_ ?_ <;> [(unfold x; clear x); (intro hx; clear_value x)]) | clear_value x)
      | simp only [kept_update] | split
theorem updActivate_kept (lanes : Nat) (s : State) (hk : Kept q s) :
    Kept q (updActivate lanes s).2 := by
  unfold updActivate
  repeat'
    first
      | (with_reducible first
          | intro _ | assumption | apply laneRecord_kept | apply kept_ite | apply kept_ite2 | apply kept_ite3
          | apply kept_ite4)
      | (extract_lets +onlyGivenNames x; first | (refine kept_cut (q := q) (x := x) ?_ ?_ <;> [(unfold x; clear x); (intro hx; clear_value x)]) | (refine kept_cut3 (q := q) (x := x) ?_ ?_ <;> [(unfold x; clear x); (intro hx; clear_value x)]) | (refine kept_cut2 (q := q) (x := x) ?_ ?_ <;> [(unfold x; clear x); (intro hx; clear_value x)]) | clear_value x)
      | simp only [kept_update] | split | dsimp only
theorem recoveryActivate_kept (l : Lane) (lanes : Nat) (s : State) (hk : Kept q s) :
    Kept q (recoveryActivate l lanes s).2 := by
  unfold recoveryActivate
  repeat'
    first
      | (with_reducible first
          | intro _ | assumption | apply State.modLane_kept | apply laneReset_kept | apply State.modUpd_kept
          | apply kept_ite | apply kept_ite2 | apply kept_ite3 | apply kept_ite4)
      | (extract_lets +onlyGivenNames x; first | (refine kept_cut (q := q) (x := x) ?_ ?_ <;> [(unfold x; clear x); (intro hx; clear_value x)]) | (refine kept_cut3 (q := q) (x := x) ?_ ?_ <;> [(unfold x; clear x); (intro hx; clear_value x)]) | (refine kept_cut2 (q := q) (x := x) ?_ ?_ <;> [(unfold x; clear x); (intro hx; clear_value x)]) | clear_value x)
      | simp only [kept_update] | split | dsimp only
theorem updConfirm_kept (s : State) (hk : Kept q s) :
    Kept q (updConfirm s).2 := by
  unfold updConfirm
  repeat'
    first
      | (with_reducible first
          | intro _ | assumption | apply State.mapLanes_kept | apply laneRecord_kept | apply endUpdate_kept
          | apply kept_ite | apply kept_ite2 | apply kept_ite3 | apply kept_ite4)
      | (extract_lets +onlyGivenNames x; first | (refine kept_cut (q := q) (x := x) ?_ ?_ <;> [(unfold x; clear x); (intro hx; clear_value x)]) | (refine kept_cut3 (q := q) (x := x) ?_ ?_ <;> [(unfold x; clear x); (intro hx; clear_value x)]) | (refine kept_cut2 (q := q) (x := x) ?_ ?_ <;> [(unfold x; clear x); (intro hx; clear_value x)]) | clear_value x)
      | simp only [kept_update] | split | dsimp only
theorem updReady_kept (l : Lane) (s : State) (hk : Kept q s) :
    Kept q (updReady l s) := by
  unfold updReady
  repeat'
    first
      | (with_reducible first
          | intro _ | assumption | apply kept_ite) | simp only [kept_update] | split
theorem updBoundary_kept (s : State) (hk : Kept q s) :
    Kept q (updBoundary s) := by
  unfold updBoundary
  repeat'
    first
      | (with_reducible first
          | intro _ | assumption | apply State.modLane_kept | apply laneReset_kept | apply laneOut_kept
          | apply kept_ite)
      | (extract_lets +onlyGivenNames x; first | (refine kept_cut (q := q) (x := x) ?_ ?_ <;> [(unfold x; clear x); (intro hx; clear_value x)]) | clear_value x)
      | simp only [kept_update] | split
theorem updResume_kept (l : Lane) (s : State) (hk : Kept q s) :
    Kept q (updResume l s) := by
  unfold updResume
  repeat'
    first
      | (with_reducible first
          | intro _ | assumption | apply laneRecord_kept | apply kept_ite)
      | (extract_lets +onlyGivenNames x; first | (refine kept_cut (q := q) (x := x) ?_ ?_ <;> [(unfold x; clear x); (intro hx; clear_value x)]) | clear_value x)
      | simp only [kept_update] | split
theorem updJoined_kept (s : State) (hk : Kept q s) :
    Kept q (updJoined s) := by
  unfold updJoined
  repeat'
    first
      | (with_reducible first
          | intro _ | assumption | apply endUpdate_kept | apply kept_ite) | simp only [kept_update] | split
theorem loadPrograms_kept (ps : List (Nat × List Word)) (s : State) (hk : Kept q s) :
    Kept q (loadPrograms ps s) := by
  unfold loadPrograms
  repeat'
    first
      | (with_reducible first
          | intro _ | assumption | apply State.modCore_kept | apply kept_foldl | apply kept_ite)
      | simp only [kept_update] | split
theorem freeCores_kept (i : ConfigImage) (s : State) (hk : Kept q s) :
    Kept q (freeCores i s) := by
  unfold freeCores
  repeat'
    first
      | (with_reducible first
          | intro _ | assumption | apply State.modCore_kept | apply kept_foldl | apply kept_ite)
      | simp only [kept_update] | split
theorem configReg_kept (a : Nat) (v : Word) (s : State) (hk : Kept q s) :
    Kept q (configReg a v s) := by
  unfold configReg
  repeat'
    first
      | (with_reducible first
          | intro _ | assumption | apply State.setCopy_kept | apply tableWrite_kept | apply kept_ite)
      | (extract_lets +onlyGivenNames x; first | (refine kept_cut (q := q) (x := x) ?_ ?_ <;> [(unfold x; clear x); (intro hx; clear_value x)]) | clear_value x)
      | simp only [kept_update] | split
theorem writeDiffs_kept (s : State) (hk : Kept q s) :
    Kept q (writeDiffs s) := by
  unfold writeDiffs
  repeat'
    first
      | (with_reducible first
          | intro _ | assumption | apply laneRecord_kept | apply emit_kept | apply kept_ite)
      | (extract_lets +onlyGivenNames x; first | (refine kept_cut (q := q) (x := x) ?_ ?_ <;> [(unfold x; clear x); (intro hx; clear_value x)]) | clear_value x)
      | simp only [kept_update] | split
theorem resumeConfig_kept (s : State) (hk : Kept q s) :
    Kept q (resumeConfig s) := by
  unfold resumeConfig
  repeat'
    first
      | (with_reducible first
          | intro _ | assumption | apply loadPrograms_kept | apply freeCores_kept | apply configReg_kept | apply kept_foldl
          | apply kept_ite)
      | (extract_lets +onlyGivenNames x; first | (refine kept_cut (q := q) (x := x) ?_ ?_ <;> [(unfold x; clear x); (intro hx; clear_value x)]) | clear_value x)
      | simp only [kept_update] | split
theorem updPhaseB_kept (s : State) (hk : Kept q s) :
    Kept q (updPhaseB s) := by
  unfold updPhaseB
  repeat'
    first
      | (with_reducible first
          | intro _ | assumption | apply writeDiffs_kept | apply resumeConfig_kept | apply kept_ite) | split
theorem keyLoad_kept (slot : Nat) (ws : List Word) (s : State) (hk : Kept q s) :
    Kept q (keyLoad slot ws s).2 := by
  unfold keyLoad
  repeat'
    first
      | (with_reducible first
          | intro _ | assumption | apply laneRecord_kept | apply kept_ite | apply kept_ite2 | apply kept_ite3
          | apply kept_ite4) | refine kept_eq (by assumption) ?_ | refine kept_eq3 (by assumption) ?_
      | refine kept_eq4 (by assumption) ?_ | simp only [kept_update] | split | dsimp only
theorem execEraseComplete_kept (l : Lane) (s : State) (hk : Kept q s) :
    KeptO q (execEraseComplete l s) := by
  unfold execEraseComplete
  repeat'
    first
      | (with_reducible first
          | intro _ | assumption | apply present_kept | apply updErased_kept | apply kept_ite | apply keptO_ite
          | apply keptO_next) | split
theorem execLaneReady_kept (l : Lane) (s : State) (hk : Kept q s) :
    KeptO q (execLaneReady l s) := by
  unfold execLaneReady
  repeat'
    first
      | (with_reducible first
          | intro _ | assumption | apply present_kept | apply keptO_next)
theorem execConversionComplete_kept (l : Lane) (s : State) (hk : Kept q s) :
    KeptO q (execConversionComplete l s) := by
  unfold execConversionComplete
  repeat'
    first
      | (with_reducible first
          | intro _ | assumption | apply updResume_kept | apply keptO_next)
theorem execHealthWindowExpiry_kept (s : State) (hk : Kept q s) :
    KeptO q (execHealthWindowExpiry s) := by
  unfold execHealthWindowExpiry
  repeat'
    first
      | (with_reducible first
          | intro _ | assumption | apply fallBack_kept | apply kept_ite | apply keptO_ite | apply keptO_next) | split
theorem execRecoveryReset_kept (s : State) (hk : Kept q s) :
    KeptO q (execRecoveryReset s) := by
  unfold execRecoveryReset
  repeat'
    first
      | (with_reducible first
          | intro _ | assumption | apply moduleReset_kept | apply kept_ite | apply keptO_ite | apply keptO_next)
      | split
/-! ### Points -/
theorem clearRc_kept (a : Nat) (s : State) (hk : Kept q s) :
    Kept q (clearRc a s) := by
  unfold clearRc
  repeat'
    first
      | (with_reducible first
          | intro _ | assumption | apply State.setLive_kept | apply State.setCopy_kept | apply kept_ite)
      | (extract_lets +onlyGivenNames x; first | (refine kept_cut (q := q) (x := x) ?_ ?_ <;> [(unfold x; clear x); (intro hx; clear_value x)]) | clear_value x)
      | split
theorem touchLane_kept (m a : Nat) (s : State) (l : Lane) (hk : Kept q s) :
    Kept q (touchLane m a s l) := by
  unfold touchLane
  repeat'
    first
      | (with_reducible first
          | intro _ | assumption | apply State.modLane_kept | apply latchCounters_kept | apply latchTime_kept
          | apply kept_ite) | simp only [kept_update] | split
theorem pointTouch_kept (ls : List Lane) (m a : Nat) (s : State) (hk : Kept q s) :
    Kept q (pointTouch ls m a s) := by
  unfold pointTouch
  repeat'
    first
      | (with_reducible first
          | intro _ | assumption | apply State.modCore_kept | apply sstatRead_kept | apply clearRc_kept
          | apply touchLane_kept | apply kept_foldl | apply kept_ite)
      | (extract_lets +onlyGivenNames x; first | (refine kept_cut (q := q) (x := x) ?_ ?_ <;> [(unfold x; clear x); (intro hx; clear_value x)]) | clear_value x)
      | simp only [kept_update] | split
theorem readOn_kept (v : Lane) (m a : Nat) (s : State) (hk : Kept q s) :
    Kept q (readOn v m a s).2 := by
  unfold readOn
  repeat'
    first
      | (with_reducible first
          | intro _ | assumption | apply pointTouch_kept) | dsimp only
theorem pointRead_kept (m a : Nat) (s : State) (hk : Kept q s) :
    Kept q (pointRead m a s).2 := by
  unfold pointRead
  repeat'
    first
      | (with_reducible first
          | intro _ | assumption | apply readOn_kept) | dsimp only
theorem unitWrite_kept (m a : Nat) (v : Word) (s : State) (hk : Kept q s) :
    Kept q (unitWrite m a v s) := by
  unfold unitWrite
  repeat'
    first
      | (with_reducible first
          | intro _ | assumption | apply emit_kept | apply kept_foldl)
      | (extract_lets +onlyGivenNames x; first | (refine kept_cut (q := q) (x := x) ?_ ?_ <;> [(unfold x; clear x); (intro hx; clear_value x)]) | clear_value x)
      | simp only [kept_update] | split
theorem submitWrite_kept (b : Nat) (v : Word) (s : State) (hk : Kept q s) :
    Kept q (submitWrite b v s) := by
  unfold submitWrite
  repeat'
    first
      | (with_reducible first
          | intro _ | assumption | apply busNotSent_kept | apply refuseBus_kept | apply emit_kept | apply kept_ite)
      | (extract_lets +onlyGivenNames x; first | (refine kept_cut (q := q) (x := x) ?_ ?_ <;> [(unfold x; clear x); (intro hx; clear_value x)]) | clear_value x)
      | split
theorem busqWrite_kept (m a : Nat) (v : Word) (s : State) (hk : Kept q s) :
    Kept q (busqWrite m a v s) := by
  unfold busqWrite
  repeat'
    first
      | (with_reducible first
          | intro _ | assumption | apply State.modBus_kept | apply State.setLive_kept | apply refuseBus_kept
          | apply unitWrite_kept | apply submitWrite_kept | apply kept_ite)
      | (extract_lets +onlyGivenNames x; first | (refine kept_cut (q := q) (x := x) ?_ ?_ <;> [(unfold x; clear x); (intro hx; clear_value x)]) | clear_value x)
      | simp only [kept_update] | split
theorem hostWrite_kept (m a : Nat) (v : Word) (s : State) (hk : Kept q s) :
    Kept q (hostWrite m a v s) := by
  unfold hostWrite
  repeat'
    first
      | (with_reducible first
          | intro _ | assumption | apply writeRefused_kept | apply kept_ite)
      | (extract_lets +onlyGivenNames x; first | (refine kept_cut (q := q) (x := x) ?_ ?_ <;> [(unfold x; clear x); (intro hx; clear_value x)]) | clear_value x)
      | simp only [kept_update] | split
theorem mbxWrite_kept (m a : Nat) (v : Word) (s : State) (hk : Kept q s) :
    Kept q (mbxWrite m a v s) := by
  unfold mbxWrite
  repeat'
    first
      | (with_reducible first
          | intro _ | assumption | apply State.setCopy_kept | apply postWrite_kept | apply ackWrite_kept
          | apply sctlWrite_kept | apply sstatWrite_kept | apply rstatWrite_kept | apply mbxCfgWrite_kept
          | apply mbxCtlWrite_kept | apply kept_ite)
      | (extract_lets +onlyGivenNames x; first | (refine kept_cut (q := q) (x := x) ?_ ?_ <;> [(unfold x; clear x); (intro hx; clear_value x)]) | clear_value x)
      | split
theorem laneLocalWrite_kept (m a : Nat) (v : Word) (s : State) (l : Lane) (hk : Kept q s) :
    Kept q (laneLocalWrite m a v s l) := by
  unfold laneLocalWrite
  repeat'
    first
      | (with_reducible first
          | intro _ | assumption | apply State.modLane_kept | apply kept_ite) | simp only [kept_update] | split
theorem eachLaneWrite_kept (m a : Nat) (v : Word) (s : State) (hk : Kept q s) :
    Kept q (eachLaneWrite m a v s) := by
  unfold eachLaneWrite
  repeat'
    first
      | (with_reducible first
          | intro _ | assumption | apply laneLocalWrite_kept | apply kept_foldl)
theorem arbWrite_kept (m a : Nat) (v : Word) (s : State) (hk : Kept q s) :
    Kept q (arbWrite m a v s) := by
  unfold arbWrite
  repeat'
    first
      | (with_reducible first
          | intro _ | assumption | apply tableWrite_kept | apply commitTables_kept | apply cntSelWrite_kept
          | apply swinWrite_kept | apply eachLaneWrite_kept | apply kept_ite) | split
theorem scoLogWrite_kept (c off : Nat) (v : Word) (s : State) (hk : Kept q s) :
    Kept q (scoLogWrite c off v s) := by
  unfold scoLogWrite
  repeat'
    first
      | (with_reducible first
          | intro _ | assumption | apply State.setCopy_kept | apply writeRefused_kept | apply kept_ite)
      | (extract_lets +onlyGivenNames x; first | (refine kept_cut (q := q) (x := x) ?_ ?_ <;> [(unfold x; clear x); (intro hx; clear_value x)]) | clear_value x)
      | simp only [kept_update] | split
theorem kwCtlWrite_kept (m c : Nat) (v : Word) (s : State) (hk : Kept q s) :
    Kept q (kwCtlWrite m c v s) := by
  unfold kwCtlWrite
  repeat'
    first
      | (with_reducible first
          | intro _ | assumption | apply State.modCore_kept | apply writeRefused_kept | apply kept_ite)
      | (extract_lets +onlyGivenNames x; first | (refine kept_cut (q := q) (x := x) ?_ ?_ <;> [(unfold x; clear x); (intro hx; clear_value x)]) | clear_value x)
      | simp only [kept_update] | split
theorem kwWrite_kept (m a : Nat) (v : Word) (s : State) (hk : Kept q s) :
    Kept q (kwWrite m a v s) := by
  unfold kwWrite
  repeat'
    first
      | (with_reducible first
          | intro _ | assumption | apply writeRefused_kept | apply kwCtlWrite_kept | apply kept_ite)
      | (extract_lets +onlyGivenNames x; first | (refine kept_cut (q := q) (x := x) ?_ ?_ <;> [(unfold x; clear x); (intro hx; clear_value x)]) | clear_value x)
      | simp only [kept_update] | split
theorem pwrWrite_kept (m a : Nat) (v : Word) (s : State) (hk : Kept q s) :
    Kept q (pwrWrite m a v s) := by
  unfold pwrWrite
  repeat'
    first
      | (with_reducible first
          | intro _ | assumption | apply State.setCopy_kept | apply pwrCtlWrite_kept | apply eachLaneWrite_kept
          | apply kept_ite) | simp only [kept_update] | split
theorem dmaFieldWrite_kept (m e off : Nat) (v : Word) (s : State) (hk : Kept q s) :
    Kept q (dmaFieldWrite m e off v s) := by
  unfold dmaFieldWrite
  repeat'
    first
      | (with_reducible first
          | intro _ | assumption | apply writeRefused_kept | apply kept_ite)
      | (extract_lets +onlyGivenNames x; first | (refine kept_cut (q := q) (x := x) ?_ ?_ <;> [(unfold x; clear x); (intro hx; clear_value x)]) | clear_value x)
      | simp only [kept_update] | split
theorem plainWrite_kept (m a : Nat) (v : Word) (s : State) (hk : Kept q s) :
    Kept q (plainWrite m a v s) := by
  unfold plainWrite
  repeat'
    first
      | (with_reducible first
          | intro _ | assumption | apply State.setSram_kept | apply measWrite_kept | apply laneCtlWrite_kept
          | apply unitWrite_kept | apply busqWrite_kept | apply hostWrite_kept | apply mbxWrite_kept
          | apply eachLaneWrite_kept | apply arbWrite_kept | apply scoLogWrite_kept | apply kwWrite_kept
          | apply pwrWrite_kept | apply dmaFieldWrite_kept | apply kept_ite)
      | (extract_lets +onlyGivenNames x; first | (refine kept_cut (q := q) (x := x) ?_ ?_ <;> [(unfold x; clear x); (intro hx; clear_value x)]) | clear_value x)
      | split
theorem showWrites_kept (s : State) (hk : Kept q s) :
    Kept q (showWrites s) := by
  unfold showWrites
  repeat'
    first
      | (with_reducible first
          | intro _ | assumption | apply State.setCopy_kept | apply kept_foldl)
      | (extract_lets +onlyGivenNames x; first | (refine kept_cut (q := q) (x := x) ?_ ?_ <;> [(unfold x; clear x); (intro hx; clear_value x)]) | clear_value x)
      | simp only [kept_update]
/-! ### Dma -/
theorem dmaStart_kept (m e : Nat) (s : State) (hk : Kept q s) :
    Kept q (dmaStart m e s) := by
  unfold dmaStart
  repeat'
    first
      | (with_reducible first
          | intro _ | assumption | apply State.setDma_kept | apply writeRefused_kept | apply kept_ite)
      | (extract_lets +onlyGivenNames x; first | (refine kept_cut (q := q) (x := x) ?_ ?_ <;> [(unfold x; clear x); (intro hx; clear_value x)]) | clear_value x)
      | simp only [kept_update] | split
theorem dmaAbort_kept (e n : Nat) (s : State) (hk : Kept q s) :
    Kept q (dmaAbort e n s) := by
  unfold dmaAbort
  repeat'
    first
      | (with_reducible first
          | intro _ | assumption | apply State.setDma_kept | apply abandonLocks_kept | apply kept_ite)
      | (extract_lets +onlyGivenNames x; first | (refine kept_cut (q := q) (x := x) ?_ ?_ <;> [(unfold x; clear x); (intro hx; clear_value x)]) | clear_value x)
      | simp only [kept_update] | split
theorem dmaCtlWrite_kept (m e : Nat) (v : Word) (s : State) (hk : Kept q s) :
    Kept q (dmaCtlWrite m e v s) := by
  unfold dmaCtlWrite
  repeat'
    first
      | (with_reducible first
          | intro _ | assumption | apply dmaStart_kept | apply dmaAbort_kept | apply kept_ite)
      | (extract_lets +onlyGivenNames x; first | (refine kept_cut (q := q) (x := x) ?_ ?_ <;> [(unfold x; clear x); (intro hx; clear_value x)]) | clear_value x)
      | simp only [kept_update] | split
theorem pointWrite_kept (m a : Nat) (v : Word) (s : State) (hk : Kept q s) :
    Kept q (pointWrite m a v s) := by
  unfold pointWrite
  repeat'
    first
      | (with_reducible first
          | intro _ | assumption | apply plainWrite_kept | apply dmaCtlWrite_kept | apply kept_ite) | split
theorem dmaMove_kept (e w k : Nat) (s : State) (hk : Kept q s) : Kept q (dmaMove e w k s).2.2 := by
  induction k generalizing w s with
  | zero => exact hk
  | succ k ih =>
    unfold dmaMove
    dsimp only
    repeat' first | with_reducible assumption | with_reducible apply refuseAccess_kept | with_reducible apply parkAccess_kept | with_reducible apply countAccess_kept | with_reducible apply kept_ite3 | with_reducible apply ih | with_reducible apply pointWrite_kept | with_reducible apply pointRead_kept | dsimp only
theorem dmaFinish_kept (e : Nat) (s : State) (hk : Kept q s) :
    Kept q (dmaFinish e s) := by
  unfold dmaFinish
  repeat'
    first
      | (with_reducible first
          | intro _ | assumption | apply State.setDma_kept | apply dmaMove_kept | apply kept_ite | apply kept_ite2
          | apply kept_ite3 | apply kept_ite4)
      | (extract_lets +onlyGivenNames x; first | (refine kept_cut (q := q) (x := x) ?_ ?_ <;> [(unfold x; clear x); (intro hx; clear_value x)]) | (refine kept_cut3 (q := q) (x := x) ?_ ?_ <;> [(unfold x; clear x); (intro hx; clear_value x)]) | (refine kept_cut2 (q := q) (x := x) ?_ ?_ <;> [(unfold x; clear x); (intro hx; clear_value x)]) | clear_value x)
      | refine kept_eq (by assumption) ?_ | refine kept_eq3 (by assumption) ?_ | refine kept_eq4 (by assumption) ?_
      | simp only [kept_update] | split | dsimp only
theorem dmaFinishAll_kept (s : State) (hk : Kept q s) :
    Kept q (dmaFinishAll s) := by
  unfold dmaFinishAll
  repeat'
    first
      | (with_reducible first
          | intro _ | assumption | apply dmaFinish_kept | apply kept_foldl)
theorem dmaBoundary_kept (s : State) (hk : Kept q s) :
    Kept q (dmaBoundary s) := by
  unfold dmaBoundary
  repeat'
    first
      | (with_reducible first
          | intro _ | assumption | apply State.setDma_kept | apply kept_foldl)
      | (extract_lets +onlyGivenNames x; first | (refine kept_cut (q := q) (x := x) ?_ ?_ <;> [(unfold x; clear x); (intro hx; clear_value x)]) | clear_value x)
      | simp only [kept_update] | split
theorem execDmaComplete_kept (e : Fin 4) (s : State) (hk : Kept q s) :
    KeptO q (execDmaComplete e s) := by
  unfold execDmaComplete
  repeat'
    first
      | (with_reducible first
          | intro _ | assumption | apply dmaFinish_kept | apply keptO_next)
/-! ### Flags -/
/-! ### Operands -/
/-! ### Kwask -/
theorem completeAccess_kept (c a : Nat) (wr : Bool) (v : Word) (s : State) (hk : Kept q s) :
    Kept q (completeAccess c a wr v s) := by
  unfold completeAccess
  repeat'
    first
      | (with_reducible first
          | intro _ | assumption | apply State.modCore_kept | apply pointRead_kept | apply pointWrite_kept
          | apply kept_ite | apply kept_ite2 | apply kept_ite3 | apply kept_ite4)
      | (extract_lets +onlyGivenNames x; first | (refine kept_cut (q := q) (x := x) ?_ ?_ <;> [(unfold x; clear x); (intro hx; clear_value x)]) | (refine kept_cut3 (q := q) (x := x) ?_ ?_ <;> [(unfold x; clear x); (intro hx; clear_value x)]) | (refine kept_cut2 (q := q) (x := x) ?_ ?_ <;> [(unfold x; clear x); (intro hx; clear_value x)]) | clear_value x)
      | simp only [kept_update] | split | dsimp only
theorem grantCore_kept (t c : Nat) (s : State) (hk : Kept q s) :
    Kept q (grantCore t c s) := by
  unfold grantCore
  repeat'
    first
      | (with_reducible first
          | intro _ | assumption | apply State.modCore_kept | apply completeAccess_kept | apply kept_ite)
      | simp only [kept_update] | split
theorem grantPut_kept (m : Nat) (p : Option (Nat × Word)) (s : State) (hk : Kept q s) :
    Kept q (grantPut m p s) := by
  unfold grantPut
  repeat'
    first
      | (with_reducible first
          | intro _ | assumption | apply pointWrite_kept) | split
theorem uncountGrant_kept (l : Lane) (t m : Nat) (s : State) (hk : Kept q s) :
    Kept q (uncountGrant l t m s) := by
  unfold uncountGrant
  repeat'
    first
      | (with_reducible first
          | intro _ | assumption | apply State.modLane_kept) | simp only [kept_update]
theorem grantAccess_kept (l : Lane) (t m : Nat) (s : State) (hk : Kept q s) :
    Kept q (grantAccess l t m s) := by
  unfold grantAccess
  repeat'
    first
      | (with_reducible first
          | intro _ | assumption | apply dmaFinish_kept | apply grantCore_kept | apply uncountGrant_kept
          | apply kept_ite)
      | (extract_lets +onlyGivenNames x; first | (refine kept_cut (q := q) (x := x) ?_ ?_ <;> [(unfold x; clear x); (intro hx; clear_value x)]) | clear_value x)
      | split
theorem arbiterGrant_kept (l : Lane) (t bank cycle : Nat) (s : State) (hk : Kept q s) :
    Kept q (arbiterGrant l t bank cycle s) := by
  unfold arbiterGrant
  repeat'
    first
      | (with_reducible first
          | intro _ | assumption | apply arbDecide_kept | apply grantPut_kept | apply grantAccess_kept
          | apply kept_ite | apply kept_ite2 | apply kept_ite3 | apply kept_ite4)
      | (extract_lets +onlyGivenNames x; first | (refine kept_cut (q := q) (x := x) ?_ ?_ <;> [(unfold x; clear x); (intro hx; clear_value x)]) | (refine kept_cut3 (q := q) (x := x) ?_ ?_ <;> [(unfold x; clear x); (intro hx; clear_value x)]) | (refine kept_cut2 (q := q) (x := x) ?_ ?_ <;> [(unfold x; clear x); (intro hx; clear_value x)]) | clear_value x)
      | refine kept_eq (by assumption) ?_ | refine kept_eq3 (by assumption) ?_ | refine kept_eq4 (by assumption) ?_
      | split | dsimp only
theorem refuseDma_kept (e : Nat) (s : State) (hk : Kept q s) :
    Kept q (refuseDma e s) := by
  unfold refuseDma
  repeat'
    first
      | (with_reducible first
          | intro _ | assumption | apply State.setDma_kept | apply dmaFinish_kept | apply kept_ite)
      | (extract_lets +onlyGivenNames x; first | (refine kept_cut (q := q) (x := x) ?_ ?_ <;> [(unfold x; clear x); (intro hx; clear_value x)]) | clear_value x)
      | simp only [kept_update] | split
theorem refuseMaster_kept (m : Nat) (wr : Bool) (s : State) (hk : Kept q s) :
    Kept q (refuseMaster m wr s) := by
  unfold refuseMaster
  repeat'
    first
      | (with_reducible first
          | intro _ | assumption | apply refuseCore_kept | apply abandonJoin_kept | apply refuseDma_kept
          | apply kept_ite) | split
theorem localAccess_kept (c a : Nat) (wr : Bool) (v : Word) (s : State) (hk : Kept q s) :
    Kept q (localAccess c a wr v s).2 := by
  unfold localAccess
  repeat'
    first
      | (with_reducible first
          | intro _ | assumption | apply State.modCore_kept | apply refuseLoad_kept | apply kept_ite | apply kept_ite2
          | apply kept_ite3 | apply kept_ite4) | refine kept_eq (by assumption) ?_
      | refine kept_eq3 (by assumption) ?_ | refine kept_eq4 (by assumption) ?_ | simp only [kept_update] | split
      | dsimp only
theorem ownAccess_kept (c a : Nat) (wr : Bool) (v : Word) (s : State) (hk : Kept q s) :
    Kept q (ownAccess c a wr v s) := by
  unfold ownAccess
  repeat'
    first
      | (with_reducible first
          | intro _ | assumption | apply stopProgram_kept | apply localAccess_kept | apply kept_ite | apply kept_ite2
          | apply kept_ite3 | apply kept_ite4)
      | (extract_lets +onlyGivenNames x; first | (refine kept_cut (q := q) (x := x) ?_ ?_ <;> [(unfold x; clear x); (intro hx; clear_value x)]) | (refine kept_cut3 (q := q) (x := x) ?_ ?_ <;> [(unfold x; clear x); (intro hx; clear_value x)]) | (refine kept_cut2 (q := q) (x := x) ?_ ?_ <;> [(unfold x; clear x); (intro hx; clear_value x)]) | clear_value x)
      | split | dsimp only
theorem boardRequest_kept (l : Lane) (m a : Nat) (wr : Bool) (lk : LockFlag) (cycle : Nat) (s : State) (hk : Kept q s) :
    Kept q (boardRequest l m a wr lk cycle s) := by
  unfold boardRequest
  repeat'
    first
      | (with_reducible first
          | intro _ | assumption | apply refuseAccess_kept | apply boardPresent_kept | apply refuseMaster_kept
          | apply ownAccess_kept | apply kept_ite | apply kept_ite2 | apply kept_ite3 | apply kept_ite4)
      | refine kept_eq (by assumption) ?_ | refine kept_eq3 (by assumption) ?_ | refine kept_eq4 (by assumption) ?_
      | split | dsimp only
theorem debugWrote_kept (m a : Nat) (s : State) (hk : Kept q s) :
    Kept q (debugWrote m a s) := by
  unfold debugWrote
  repeat'
    first
      | (with_reducible first
          | intro _ | assumption | apply kept_ite) | simp only [kept_update] | split
theorem masterDo_kept (m a : Nat) (v : Word) (act : State → State) (s : State) (ha : ∀ s, Kept q s → Kept q (act s)) (hk : Kept q s) : Kept q (masterDo m a v act s) := by
  unfold masterDo
  split
  · apply kept_ite
    · exact presentBoth_kept _ _ _ _ hk
    · exact debugWrote_kept _ _ _ (ha _ (countAccess_kept _ _ _ _ _ hk))
  · exact refuseMaster_kept _ _ _ (refuseAccess_kept _ _ _ _ _ hk)
theorem masterWrite_kept (m a : Nat) (v : Word) (s : State) (hk : Kept q s) :
    Kept q (masterWrite m a v s) := by
  unfold masterWrite
  repeat'
    first
      | (with_reducible first
          | intro _ | assumption | apply pointWrite_kept | apply ownAccess_kept | apply masterDo_kept
          | apply kept_ite) | split
theorem boardAccess_kept (c t a : Nat) (wr : Bool) (lk : LockFlag) (v : Word) (s : State) (hk : Kept q s) :
    Kept q (boardAccess c t a wr lk v s).2 := by
  unfold boardAccess
  repeat'
    first
      | (with_reducible first
          | intro _ | assumption | apply State.modCore_kept | apply refuseAccess_kept | apply refuseLoad_kept
          | apply presentBoth_kept | apply completeAccess_kept | apply kept_ite | apply kept_ite2 | apply kept_ite3
          | apply kept_ite4)
      | (extract_lets +onlyGivenNames x; first | (refine kept_cut (q := q) (x := x) ?_ ?_ <;> [(unfold x; clear x); (intro hx; clear_value x)]) | (refine kept_cut3 (q := q) (x := x) ?_ ?_ <;> [(unfold x; clear x); (intro hx; clear_value x)]) | (refine kept_cut2 (q := q) (x := x) ?_ ?_ <;> [(unfold x; clear x); (intro hx; clear_value x)]) | clear_value x)
      | refine kept_eq (by assumption) ?_ | refine kept_eq3 (by assumption) ?_ | refine kept_eq4 (by assumption) ?_
      | simp only [kept_update] | split | dsimp only
theorem lsuTrigger_kept (c t dst : Nat) (a : Word) (s : State) (hk : Kept q s) :
    Kept q (lsuTrigger c t dst a s).2 := by
  unfold lsuTrigger
  repeat'
    first
      | (with_reducible first
          | intro _ | assumption | apply State.modCore_kept | apply localAccess_kept | apply boardAccess_kept
          | apply kept_ite | apply kept_ite2 | apply kept_ite3 | apply kept_ite4)
      | (extract_lets +onlyGivenNames x; first | (refine kept_cut (q := q) (x := x) ?_ ?_ <;> [(unfold x; clear x); (intro hx; clear_value x)]) | (refine kept_cut3 (q := q) (x := x) ?_ ?_ <;> [(unfold x; clear x); (intro hx; clear_value x)]) | (refine kept_cut2 (q := q) (x := x) ?_ ?_ <;> [(unfold x; clear x); (intro hx; clear_value x)]) | clear_value x)
      | split | dsimp only
theorem faultCore_kept (c : Nat) (s : State) (hk : Kept q s) :
    Kept q (faultCore c s) := by
  unfold faultCore
  dsimp only
  repeat'
    first
      | (with_reducible first
          | intro _ | assumption | apply State.modCore_kept | apply withdrawLane_kept | apply kept_ite)
      | (extract_lets +onlyGivenNames x; first | (refine kept_cut (q := q) (x := x) ?_ ?_ <;> [(unfold x; clear x); (intro hx; clear_value x)]) | clear_value x)
      | simp only [kept_update] | split
theorem overrun_kept (c : Nat) (s : State) (hk : Kept q s) :
    Kept q (overrun c s) := by
  unfold overrun
  repeat'
    first
      | (with_reducible first
          | intro _ | assumption | apply State.modCore_kept | apply stopProgram_kept | apply faultCore_kept
          | apply kept_ite)
      | (extract_lets +onlyGivenNames x; first | (refine kept_cut (q := q) (x := x) ?_ ?_ <;> [(unfold x; clear x); (intro hx; clear_value x)]) | clear_value x)
      | simp only [kept_update] | split
theorem goOn_kept (c b used : Nat) (s : State) (hk : Kept q s) :
    Kept q (goOn c b used s) := by
  unfold goOn
  repeat'
    first
      | (with_reducible first
          | intro _ | assumption | apply State.modCore_kept | apply stopProgram_kept | apply kept_ite)
      | (extract_lets +onlyGivenNames x; first | (refine kept_cut (q := q) (x := x) ?_ ?_ <;> [(unfold x; clear x); (intro hx; clear_value x)]) | clear_value x)
      | simp only [kept_update] | split
theorem haltCore_kept (c t : Nat) (asleep : Bool) (s : State) (hk : Kept q s) :
    Kept q (haltCore c t asleep s) := by
  unfold haltCore
  repeat'
    first
      | (with_reducible first
          | intro _ | assumption | apply State.setCore_kept | apply overrun_kept | apply kept_ite)
      | (extract_lets +onlyGivenNames x; first | (refine kept_cut (q := q) (x := x) ?_ ?_ <;> [(unfold x; clear x); (intro hx; clear_value x)]) | clear_value x)
      | split
theorem follow_kept (c t : Nat) (f : Flow) (s : State) (hk : Kept q s) :
    Kept q (follow c t f s) := by
  unfold follow
  repeat'
    first
      | (with_reducible first
          | intro _ | assumption | apply State.modCore_kept | apply faultCore_kept | apply goOn_kept
          | apply haltCore_kept) | simp only [kept_update] | split
theorem endBundle_kept (c t : Nat) (ps : List (Nat × Word)) (refused : Bool) (s : State) (hk : Kept q s) :
    Kept q (endBundle c t ps refused s) := by
  unfold endBundle
  repeat'
    first
      | (with_reducible first
          | intro _ | assumption | apply State.modCore_kept | apply stopProgram_kept | apply faultCore_kept
          | apply follow_kept | apply kept_ite)
      | (extract_lets +onlyGivenNames x; first | (refine kept_cut (q := q) (x := x) ?_ ?_ <;> [(unfold x; clear x); (intro hx; clear_value x)]) | clear_value x)
      | simp only [kept_update] | split
theorem runMoves_kept (c t : Nat) (ps : List (Nat × Word)) (st : List Word) (s : State) (hk : Kept q s) :
    Kept q (runMoves c t ps st s) := by
  unfold runMoves
  repeat'
    first
      | (with_reducible first
          | intro _ | assumption | apply State.setCore_kept | apply lsuTrigger_kept | apply endBundle_kept)
      | (extract_lets +onlyGivenNames x; first | (refine kept_cut (q := q) (x := x) ?_ ?_ <;> [(unfold x; clear x); (intro hx; clear_value x)]) | (refine kept_cut3 (q := q) (x := x) ?_ ?_ <;> [(unfold x; clear x); (intro hx; clear_value x)]) | (refine kept_cut2 (q := q) (x := x) ?_ ?_ <;> [(unfold x; clear x); (intro hx; clear_value x)]) | clear_value x)
      | refine kept_eq (by assumption) ?_ | refine kept_eq3 (by assumption) ?_ | refine kept_eq4 (by assumption) ?_
      | split | dsimp only
theorem issueMoves_kept (c : Nat) (ms : List Move) (imm : Word) (s : State) (hk : Kept q s) :
    Kept q (issueMoves c ms imm s) := by
  unfold issueMoves
  repeat'
    first
      | (with_reducible first
          | intro _ | assumption | apply faultCore_kept | apply overrun_kept | apply runMoves_kept | apply kept_ite)
      | (extract_lets +onlyGivenNames x; first | (refine kept_cut (q := q) (x := x) ?_ ?_ <;> [(unfold x; clear x); (intro hx; clear_value x)]) | clear_value x)
      | split
theorem issueOne_kept (c dst : Nat) (a : Word) (s : State) (hk : Kept q s) :
    Kept q (issueOne c dst a s) := by
  unfold issueOne
  repeat'
    first
      | (with_reducible first
          | intro _ | assumption | apply issueMoves_kept)
theorem issueBundle_kept (c : Nat) (s : State) (hk : Kept q s) :
    Kept q (issueBundle c s) := by
  unfold issueBundle
  repeat'
    first
      | (with_reducible first
          | intro _ | assumption | apply State.modCore_kept | apply stopProgram_kept | apply overrun_kept
          | apply issueMoves_kept | apply kept_ite)
      | (extract_lets +onlyGivenNames x; first | (refine kept_cut (q := q) (x := x) ?_ ?_ <;> [(unfold x; clear x); (intro hx; clear_value x)]) | clear_value x)
      | simp only [kept_update] | split
theorem coreBegin_kept (c : Nat) (s : State) (hk : Kept q s) :
    Kept q (coreBegin c s) := by
  unfold coreBegin
  repeat'
    first
      | (with_reducible first
          | intro _ | assumption | apply State.modCore_kept | apply kept_ite)
      | (extract_lets +onlyGivenNames x; first | (refine kept_cut (q := q) (x := x) ?_ ?_ <;> [(unfold x; clear x); (intro hx; clear_value x)]) | clear_value x)
      | simp only [kept_update] | split
theorem coresBegin_kept (s : State) (hk : Kept q s) :
    Kept q (coresBegin s) := by
  unfold coresBegin
  repeat'
    first
      | (with_reducible first
          | intro _ | assumption | apply coreBegin_kept | apply kept_foldl)
theorem coresFinish_kept (s : State) (hk : Kept q s) :
    Kept q (coresFinish s) := by
  unfold coresFinish
  repeat'
    first
      | (with_reducible first
          | intro _ | assumption | apply State.setCore_kept | apply kept_foldl | apply kept_ite)
      | (extract_lets +onlyGivenNames x; first | (refine kept_cut (q := q) (x := x) ?_ ?_ <;> [(unfold x; clear x); (intro hx; clear_value x)]) | clear_value x)
      | split
theorem resetCore_kept (c : Nat) (s : State) (hk : Kept q s) :
    Kept q (resetCore c s) := by
  unfold resetCore
  repeat'
    first
      | (with_reducible first
          | intro _ | assumption | apply State.modCore_kept | apply laneRecord_kept | apply stopProgram_kept
          | apply abandonLocks_kept | apply kept_ite)
      | (extract_lets +onlyGivenNames x; first | (refine kept_cut (q := q) (x := x) ?_ ?_ <;> [(unfold x; clear x); (intro hx; clear_value x)]) | clear_value x)
      | simp only [kept_update] | split
theorem runCore_kept (c : Nat) (s : State) (hk : Kept q s) :
    Kept q (runCore c s) := by
  unfold runCore
  repeat'
    first
      | (with_reducible first
          | intro _ | assumption | apply State.modCore_kept) | simp only [kept_update] | split
theorem takeCtl_kept (c : Nat) (s : State) (hk : Kept q s) :
    Kept q (takeCtl c s) := by
  unfold takeCtl
  repeat'
    first
      | (with_reducible first
          | intro _ | assumption | apply State.modCore_kept | apply stopProgram_kept | apply resetCore_kept
          | apply runCore_kept | apply kept_ite)
      | (extract_lets +onlyGivenNames x; first | (refine kept_cut (q := q) (x := x) ?_ ?_ <;> [(unfold x; clear x); (intro hx; clear_value x)]) | clear_value x)
      | simp only [kept_update] | split
theorem kwBoundary_kept (s : State) (hk : Kept q s) :
    Kept q (kwBoundary s).2 := by
  unfold kwBoundary
  repeat'
    first
      | (with_reducible first
          | intro _ | assumption | apply takeCtl_kept | apply kept_foldl | apply kept_ite | apply kept_foldl2
          | apply kept_ite2 | apply kept_ite3 | apply kept_ite4) | split | dsimp only
theorem execBoardRequest_kept (l : Lane) (_t : Fin 18) (m : Fin 32) (secure : Bool) (a : Word) (wr : Bool) (lk : LockFlag) (cycle : Nat) (s : State) (hk : Kept q s) :
    KeptO q (execBoardRequest l _t m secure a wr lk cycle s) := by
  unfold execBoardRequest
  repeat'
    first
      | (with_reducible first
          | intro _ | assumption | apply boardRequest_kept | apply kept_ite | apply keptO_ite | apply keptO_next)
      | split
theorem execArbiterGrant_kept (l : Lane) (t : Fin 18) (bank : Fin 8) (cycle : Nat) (s : State) (hk : Kept q s) :
    KeptO q (execArbiterGrant l t bank cycle s) := by
  unfold execArbiterGrant
  repeat'
    first
      | (with_reducible first
          | intro _ | assumption | apply arbiterGrant_kept | apply keptO_next)
theorem execRegisterWrite_kept (m : Fin 32) (a v : Word) (s : State) (hk : Kept q s) :
    KeptO q (execRegisterWrite m a v s) := by
  unfold execRegisterWrite
  repeat'
    first
      | (with_reducible first
          | intro _ | assumption | apply masterWrite_kept | apply keptO_next)
theorem execArbSwinWrite_kept (writer m : Fin 32) (v : Word) (s : State) (hk : Kept q s) :
    KeptO q (execArbSwinWrite writer m v s) := by
  unfold execArbSwinWrite
  repeat'
    first
      | (with_reducible first
          | intro _ | assumption | apply masterWrite_kept | apply keptO_next)
theorem execPost_kept (m : Fin 32) (k : Fin 48) (v : Word) (s : State) (hk : Kept q s) :
    KeptO q (execPost m k v s) := by
  unfold execPost
  repeat'
    first
      | (with_reducible first
          | intro _ | assumption | apply masterWrite_kept | apply keptO_next)
theorem execMbxAck_kept (m : Fin 32) (k : Fin 48) (v : Word) (s : State) (hk : Kept q s) :
    KeptO q (execMbxAck m k v s) := by
  unfold execMbxAck
  repeat'
    first
      | (with_reducible first
          | intro _ | assumption | apply masterWrite_kept | apply keptO_next)
theorem execComparatorConfigWrite_kept (m : Fin 32) (i : Fin 856) (which : Fin 4) (v : Word) (s : State) (hk : Kept q s) :
    KeptO q (execComparatorConfigWrite m i which v s) := by
  unfold execComparatorConfigWrite
  repeat'
    first
      | (with_reducible first
          | intro _ | assumption | apply masterWrite_kept | apply keptO_next)
theorem execSignatureConfigWrite_kept (m : Fin 32) (k : Fin 16) (v : Word) (s : State) (hk : Kept q s) :
    KeptO q (execSignatureConfigWrite m k v s) := by
  unfold execSignatureConfigWrite
  repeat'
    first
      | (with_reducible first
          | intro _ | assumption | apply masterWrite_kept | apply keptO_next)
theorem execStreamEnable_kept (m : Fin 32) (x : Fin 16) (decim : BitVec 8) (s : State) (hk : Kept q s) :
    KeptO q (execStreamEnable m x decim s) := by
  unfold execStreamEnable
  repeat'
    first
      | (with_reducible first
          | intro _ | assumption | apply masterWrite_kept | apply keptO_next)
theorem execStreamRdWrite_kept (m : Fin 32) (x : Fin 16) (v : Word) (s : State) (hk : Kept q s) :
    KeptO q (execStreamRdWrite m x v s) := by
  unfold execStreamRdWrite
  repeat'
    first
      | (with_reducible first
          | intro _ | assumption | apply masterWrite_kept | apply keptO_next)
theorem execEvqTailWrite_kept (m : Fin 32) (v : Word) (s : State) (hk : Kept q s) :
    KeptO q (execEvqTailWrite m v s) := by
  unfold execEvqTailWrite
  repeat'
    first
      | (with_reducible first
          | intro _ | assumption | apply masterWrite_kept | apply keptO_next)
theorem execDmaStart_kept (m : Fin 32) (e : Fin 4) (s : State) (hk : Kept q s) :
    KeptO q (execDmaStart m e s) := by
  unfold execDmaStart
  repeat'
    first
      | (with_reducible first
          | intro _ | assumption | apply dmaStart_kept | apply masterDo_kept | apply keptO_next)
theorem execDmaAbort_kept (m : Fin 32) (e : Fin 4) (moved : Nat) (s : State) (hk : Kept q s) :
    KeptO q (execDmaAbort m e moved s) := by
  unfold execDmaAbort
  repeat'
    first
      | (with_reducible first
          | intro _ | assumption | apply dmaAbort_kept | apply masterDo_kept | apply keptO_next)
theorem execPwrCtlReq_kept (m : Fin 32) (target : BitVec 3) (s : State) (hk : Kept q s) :
    KeptO q (execPwrCtlReq m target s) := by
  unfold execPwrCtlReq
  repeat'
    first
      | (with_reducible first
          | intro _ | assumption | apply masterWrite_kept | apply keptO_next)
theorem execClk250_kept (m : Fin 32) (s : State) (hk : Kept q s) :
    KeptO q (execClk250 m s) := by
  unfold execClk250
  repeat'
    first
      | (with_reducible first
          | intro _ | assumption | apply masterWrite_kept | apply keptO_next)
theorem execScoLogWrite_kept (m : Fin 32) (c : Fin 24) (v : Word) (s : State) (hk : Kept q s) :
    KeptO q (execScoLogWrite m c v s) := by
  unfold execScoLogWrite
  repeat'
    first
      | (with_reducible first
          | intro _ | assumption | apply masterWrite_kept | apply keptO_next)
theorem execAdd_kept (c : Fin 24) (a : Word) (s : State) (hk : Kept q s) :
    KeptO q (execAdd c a s) := by
  unfold execAdd
  repeat'
    first
      | (with_reducible first
          | intro _ | assumption | apply issueOne_kept | apply keptO_next)
theorem execSub_kept (c : Fin 24) (a : Word) (s : State) (hk : Kept q s) :
    KeptO q (execSub c a s) := by
  unfold execSub
  repeat'
    first
      | (with_reducible first
          | intro _ | assumption | apply issueOne_kept | apply keptO_next)
theorem execAnd_kept (c : Fin 24) (a : Word) (s : State) (hk : Kept q s) :
    KeptO q (execAnd c a s) := by
  unfold execAnd
  repeat'
    first
      | (with_reducible first
          | intro _ | assumption | apply issueOne_kept | apply keptO_next)
theorem execOr_kept (c : Fin 24) (a : Word) (s : State) (hk : Kept q s) :
    KeptO q (execOr c a s) := by
  unfold execOr
  repeat'
    first
      | (with_reducible first
          | intro _ | assumption | apply issueOne_kept | apply keptO_next)
theorem execXor_kept (c : Fin 24) (a : Word) (s : State) (hk : Kept q s) :
    KeptO q (execXor c a s) := by
  unfold execXor
  repeat'
    first
      | (with_reducible first
          | intro _ | assumption | apply issueOne_kept | apply keptO_next)
theorem execNeg_kept (c : Fin 24) (a : Word) (s : State) (hk : Kept q s) :
    KeptO q (execNeg c a s) := by
  unfold execNeg
  repeat'
    first
      | (with_reducible first
          | intro _ | assumption | apply issueOne_kept | apply keptO_next)
theorem execEq_kept (c : Fin 24) (a : Word) (s : State) (hk : Kept q s) :
    KeptO q (execEq c a s) := by
  unfold execEq
  repeat'
    first
      | (with_reducible first
          | intro _ | assumption | apply issueOne_kept | apply keptO_next)
theorem execLt_kept (c : Fin 24) (a : Word) (s : State) (hk : Kept q s) :
    KeptO q (execLt c a s) := by
  unfold execLt
  repeat'
    first
      | (with_reducible first
          | intro _ | assumption | apply issueOne_kept | apply keptO_next)
theorem execLtu_kept (c : Fin 24) (a : Word) (s : State) (hk : Kept q s) :
    KeptO q (execLtu c a s) := by
  unfold execLtu
  repeat'
    first
      | (with_reducible first
          | intro _ | assumption | apply issueOne_kept | apply keptO_next)
theorem execShl_kept (c : Fin 24) (a : Word) (s : State) (hk : Kept q s) :
    KeptO q (execShl c a s) := by
  unfold execShl
  repeat'
    first
      | (with_reducible first
          | intro _ | assumption | apply issueOne_kept | apply keptO_next)
theorem execShr_kept (c : Fin 24) (a : Word) (s : State) (hk : Kept q s) :
    KeptO q (execShr c a s) := by
  unfold execShr
  repeat'
    first
      | (with_reducible first
          | intro _ | assumption | apply issueOne_kept | apply keptO_next)
theorem execSar_kept (c : Fin 24) (a : Word) (s : State) (hk : Kept q s) :
    KeptO q (execSar c a s) := by
  unfold execSar
  repeat'
    first
      | (with_reducible first
          | intro _ | assumption | apply issueOne_kept | apply keptO_next)
theorem execMuls_kept (c : Fin 24) (a : Word) (s : State) (hk : Kept q s) :
    KeptO q (execMuls c a s) := by
  unfold execMuls
  repeat'
    first
      | (with_reducible first
          | intro _ | assumption | apply issueOne_kept | apply keptO_next)
theorem execMulu_kept (c : Fin 24) (a : Word) (s : State) (hk : Kept q s) :
    KeptO q (execMulu c a s) := by
  unfold execMulu
  repeat'
    first
      | (with_reducible first
          | intro _ | assumption | apply issueOne_kept | apply keptO_next)
theorem execDivs_kept (c : Fin 24) (a : Word) (s : State) (hk : Kept q s) :
    KeptO q (execDivs c a s) := by
  unfold execDivs
  repeat'
    first
      | (with_reducible first
          | intro _ | assumption | apply issueOne_kept | apply keptO_next)
theorem execDivu_kept (c : Fin 24) (a : Word) (s : State) (hk : Kept q s) :
    KeptO q (execDivu c a s) := by
  unfold execDivu
  repeat'
    first
      | (with_reducible first
          | intro _ | assumption | apply issueOne_kept | apply keptO_next)
theorem execSadd_kept (c : Fin 24) (a : Word) (s : State) (hk : Kept q s) :
    KeptO q (execSadd c a s) := by
  unfold execSadd
  repeat'
    first
      | (with_reducible first
          | intro _ | assumption | apply issueOne_kept | apply keptO_next)
theorem execSsub_kept (c : Fin 24) (a : Word) (s : State) (hk : Kept q s) :
    KeptO q (execSsub c a s) := by
  unfold execSsub
  repeat'
    first
      | (with_reducible first
          | intro _ | assumption | apply issueOne_kept | apply keptO_next)
theorem execSneg_kept (c : Fin 24) (a : Word) (s : State) (hk : Kept q s) :
    KeptO q (execSneg c a s) := by
  unfold execSneg
  repeat'
    first
      | (with_reducible first
          | intro _ | assumption | apply issueOne_kept | apply keptO_next)
theorem execSmul_kept (c : Fin 24) (a : Word) (s : State) (hk : Kept q s) :
    KeptO q (execSmul c a s) := by
  unfold execSmul
  repeat'
    first
      | (with_reducible first
          | intro _ | assumption | apply issueOne_kept | apply keptO_next)
theorem execSabs_kept (c : Fin 24) (a : Word) (s : State) (hk : Kept q s) :
    KeptO q (execSabs c a s) := by
  unfold execSabs
  repeat'
    first
      | (with_reducible first
          | intro _ | assumption | apply issueOne_kept | apply keptO_next)
theorem execLd_kept (c : Fin 24) (a : Word) (s : State) (hk : Kept q s) :
    KeptO q (execLd c a s) := by
  unfold execLd
  repeat'
    first
      | (with_reducible first
          | intro _ | assumption | apply issueOne_kept | apply keptO_next)
theorem execSt_kept (c : Fin 24) (a : Word) (s : State) (hk : Kept q s) :
    KeptO q (execSt c a s) := by
  unfold execSt
  repeat'
    first
      | (with_reducible first
          | intro _ | assumption | apply issueOne_kept | apply keptO_next)
theorem execLdL_kept (c : Fin 24) (a : Word) (s : State) (hk : Kept q s) :
    KeptO q (execLdL c a s) := by
  unfold execLdL
  repeat'
    first
      | (with_reducible first
          | intro _ | assumption | apply issueOne_kept | apply keptO_next)
theorem execStL_kept (c : Fin 24) (a : Word) (s : State) (hk : Kept q s) :
    KeptO q (execStL c a s) := by
  unfold execStL
  repeat'
    first
      | (with_reducible first
          | intro _ | assumption | apply issueOne_kept | apply keptO_next)
theorem execLdU_kept (c : Fin 24) (a : Word) (s : State) (hk : Kept q s) :
    KeptO q (execLdU c a s) := by
  unfold execLdU
  repeat'
    first
      | (with_reducible first
          | intro _ | assumption | apply issueOne_kept | apply keptO_next)
theorem execStU_kept (c : Fin 24) (a : Word) (s : State) (hk : Kept q s) :
    KeptO q (execStU c a s) := by
  unfold execStU
  repeat'
    first
      | (with_reducible first
          | intro _ | assumption | apply issueOne_kept | apply keptO_next)
theorem execJmp_kept (c : Fin 24) (a : Word) (s : State) (hk : Kept q s) :
    KeptO q (execJmp c a s) := by
  unfold execJmp
  repeat'
    first
      | (with_reducible first
          | intro _ | assumption | apply issueOne_kept | apply keptO_next)
theorem execJz_kept (c : Fin 24) (a : Word) (s : State) (hk : Kept q s) :
    KeptO q (execJz c a s) := by
  unfold execJz
  repeat'
    first
      | (with_reducible first
          | intro _ | assumption | apply issueOne_kept | apply keptO_next)
theorem execJnz_kept (c : Fin 24) (a : Word) (s : State) (hk : Kept q s) :
    KeptO q (execJnz c a s) := by
  unfold execJnz
  repeat'
    first
      | (with_reducible first
          | intro _ | assumption | apply issueOne_kept | apply keptO_next)
theorem execHalt_kept (c : Fin 24) (s : State) (hk : Kept q s) :
    KeptO q (execHalt c s) := by
  unfold execHalt
  repeat'
    first
      | (with_reducible first
          | intro _ | assumption | apply issueOne_kept | apply keptO_next)
theorem execSleep_kept (c : Fin 24) (s : State) (hk : Kept q s) :
    KeptO q (execSleep c s) := by
  unfold execSleep
  repeat'
    first
      | (with_reducible first
          | intro _ | assumption | apply issueOne_kept | apply keptO_next)
theorem execCall_kept (c : Fin 24) (a : Word) (s : State) (hk : Kept q s) :
    KeptO q (execCall c a s) := by
  unfold execCall
  repeat'
    first
      | (with_reducible first
          | intro _ | assumption | apply issueOne_kept | apply keptO_next)
theorem execRet_kept (c : Fin 24) (s : State) (hk : Kept q s) :
    KeptO q (execRet c s) := by
  unfold execRet
  repeat'
    first
      | (with_reducible first
          | intro _ | assumption | apply issueOne_kept | apply keptO_next)
theorem execPush_kept (c : Fin 24) (a : Word) (s : State) (hk : Kept q s) :
    KeptO q (execPush c a s) := by
  unfold execPush
  repeat'
    first
      | (with_reducible first
          | intro _ | assumption | apply issueOne_kept | apply keptO_next)
theorem execFlagsClr_kept (c : Fin 24) (a : Word) (s : State) (hk : Kept q s) :
    KeptO q (execFlagsClr c a s) := by
  unfold execFlagsClr
  repeat'
    first
      | (with_reducible first
          | intro _ | assumption | apply issueOne_kept | apply keptO_next)
theorem execPop_kept (c : Fin 24) (s : State) (hk : Kept q s) :
    KeptO q (execPop c s) := by
  unfold execPop
  repeat'
    first
      | (with_reducible first
          | intro _ | assumption | apply issueMoves_kept | apply keptO_next)
theorem execBundleIssue_kept (c : Fin 24) (s : State) (hk : Kept q s) :
    KeptO q (execBundleIssue c s) := by
  unfold execBundleIssue
  repeat'
    first
      | (with_reducible first
          | intro _ | assumption | apply issueBundle_kept | apply keptO_next)
theorem execBudget_kept (c : Fin 24) (s : State) (hk : Kept q s) :
    KeptO q (execBudget c s) := by
  unfold execBudget
  repeat'
    first
      | (with_reducible first
          | intro _ | assumption | apply overrun_kept | apply kept_ite | apply keptO_ite | apply keptO_next)
      | (extract_lets +onlyGivenNames x; first | (refine kept_cut (q := q) (x := x) ?_ ?_ <;> [(unfold x; clear x); (intro hx; clear_value x)]) | clear_value x)
      | split
theorem execCoreWatchdog_kept (l : Lane) (c : Fin 24) (s : State) (hk : Kept q s) :
    KeptO q (execCoreWatchdog l c s) := by
  unfold execCoreWatchdog
  repeat'
    first
      | (with_reducible first
          | intro _ | assumption | apply withdrawLane_kept | apply kept_ite | apply keptO_ite | apply keptO_next)
      | (extract_lets +onlyGivenNames x; first | (refine kept_cut (q := q) (x := x) ?_ ?_ <;> [(unfold x; clear x); (intro hx; clear_value x)]) | clear_value x)
      | split
theorem execCoreRun_kept (m : Fin 32) (c : Fin 24) (s : State) (hk : Kept q s) :
    KeptO q (execCoreRun m c s) := by
  unfold execCoreRun
  repeat'
    first
      | (with_reducible first
          | intro _ | assumption | apply masterWrite_kept | apply keptO_next)
theorem execCoreStop_kept (m : Fin 32) (c : Fin 24) (s : State) (hk : Kept q s) :
    KeptO q (execCoreStop m c s) := by
  unfold execCoreStop
  repeat'
    first
      | (with_reducible first
          | intro _ | assumption | apply masterWrite_kept | apply keptO_next)
theorem execCoreSleep_kept (m : Fin 32) (c : Fin 24) (s : State) (hk : Kept q s) :
    KeptO q (execCoreSleep m c s) := by
  unfold execCoreSleep
  repeat'
    first
      | (with_reducible first
          | intro _ | assumption | apply masterWrite_kept | apply keptO_next)
theorem execCoreReset_kept (m : Fin 32) (c : Fin 24) (s : State) (hk : Kept q s) :
    KeptO q (execCoreReset m c s) := by
  unfold execCoreReset
  repeat'
    first
      | (with_reducible first
          | intro _ | assumption | apply masterWrite_kept | apply keptO_next)
/-! ### Checker -/
theorem quietState_kept (s : State) (hk : Kept q s) :
    Kept q (quietState s) := by
  unfold quietState
  repeat'
    first
      | (with_reducible first
          | intro _ | assumption | apply State.setLive_kept | apply kept_foldl)
      | (extract_lets +onlyGivenNames x; first | (refine kept_cut (q := q) (x := x) ?_ ?_ <;> [(unfold x; clear x); (intro hx; clear_value x)]) | clear_value x)
theorem asAlone_kept (s : State) (a : Nat) (hk : Kept q s) :
    Kept q (asAlone s a) := by
  unfold asAlone
  repeat'
    first
      | (with_reducible first
          | intro _ | assumption | apply State.setLive_kept | apply kept_ite)
      | (extract_lets +onlyGivenNames x; first | (refine kept_cut (q := q) (x := x) ?_ ?_ <;> [(unfold x; clear x); (intro hx; clear_value x)]) | clear_value x)
      | split
theorem execVerifyResult_kept (l : Lane) (digestOk signatureOk : Bool) (image : ConfigImage) (checkAt : Word) (s : State) (hk : Kept q s) :
    KeptO q (execVerifyResult l digestOk signatureOk image checkAt s) := by
  unfold execVerifyResult
  repeat'
    first
      | (with_reducible first
          | intro _ | assumption | apply present_kept | apply updVerified_kept | apply kept_ite | apply keptO_ite
          | apply keptO_next)
      | (extract_lets +onlyGivenNames x; first | (refine kept_cut (q := q) (x := x) ?_ ?_ <;> [(unfold x; clear x); (intro hx; clear_value x)]) | clear_value x)
      | split

end Sys2Proof.Machine
end

