-- ==== Sys2Proof/Laws/KeptHost.lean ====
section
/-! SUPPORT. The operations of the host protocol, the plies and the supplies keep the queue and the invariant: one lemma for
each, proved from its callees'. -/

set_option linter.all false
set_option maxRecDepth 8000

namespace Sys2Proof.Machine

open Sys2Proof

variable {q : List Instr}

/-! ### Session -/
theorem setSession_kept (r : Option Lane) (k : Nat) (x : Session) (s : State) (hk : Kept q s) :
    Kept q (setSession r k x s) := by
  unfold setSession
  repeat'
    first
      | (with_reducible first
          | intro _ | assumption | apply State.modLane_kept) | simp only [kept_update] | split
theorem closeSession_kept (r : Option Lane) (k cause : Nat) (s : State) (hk : Kept q s) :
    Kept q (closeSession r k cause s) := by
  unfold closeSession
  repeat'
    first
      | (with_reducible first
          | intro _ | assumption | apply State.modLane_kept | apply laneRecord_kept) | simp only [kept_update] | split
theorem hello_kept (r : Option Lane) (p : Packet) (s : State) (hk : Kept q s) :
    Kept q (hello r p s).2.2.2 := by
  unfold hello
  repeat'
    first
      | (with_reducible first
          | intro _ | assumption | apply State.modLane_kept | apply laneRecord_kept | apply setSession_kept
          | apply kept_ite | apply kept_ite2 | apply kept_ite3 | apply kept_ite4)
      | (extract_lets +onlyGivenNames x; first | (refine kept_cut (q := q) (x := x) ?_ ?_ <;> [(unfold x; clear x); (intro hx; clear_value x)]) | (refine kept_cut3 (q := q) (x := x) ?_ ?_ <;> [(unfold x; clear x); (intro hx; clear_value x)]) | (refine kept_cut2 (q := q) (x := x) ?_ ?_ <;> [(unfold x; clear x); (intro hx; clear_value x)]) | clear_value x)
      | refine kept_eq (by assumption) ?_ | refine kept_eq3 (by assumption) ?_ | refine kept_eq4 (by assumption) ?_
      | simp only [kept_update] | split | dsimp only
theorem addFrames_kept (fs : List Frame) (s : State) (hk : Kept q s) :
    Kept q (addFrames fs s) := by
  unfold addFrames
  repeat'
    first
      | (with_reducible first
          | intro _ | assumption | apply kept_ite) | simp only [kept_update] | split
theorem releasePort_kept (l : Lane) (s : State) (hk : Kept q s) :
    Kept q (releasePort l s) := by
  unfold releasePort
  repeat'
    first
      | (with_reducible first
          | intro _ | assumption | apply State.modLane_kept | apply kept_foldl | apply kept_ite)
      | (extract_lets +onlyGivenNames x; first | (refine kept_cut (q := q) (x := x) ?_ ?_ <;> [(unfold x; clear x); (intro hx; clear_value x)]) | clear_value x)
      | simp only [kept_update] | split
theorem releaseReplies_kept (s : State) (hk : Kept q s) :
    Kept q (releaseReplies s) := by
  unfold releaseReplies
  repeat'
    first
      | (with_reducible first
          | intro _ | assumption | apply State.modLane_kept | apply releasePort_kept | apply kept_ite)
      | (extract_lets +onlyGivenNames x; first | (refine kept_cut (q := q) (x := x) ?_ ?_ <;> [(unfold x; clear x); (intro hx; clear_value x)]) | clear_value x)
      | simp only [kept_update] | split
theorem plainReply_kept (p : Packet) (key : Option Nat) (status seq : Nat) (s : State) (hk : Kept q s) :
    Kept q (plainReply p key status seq s) := by
  unfold plainReply
  repeat'
    first
      | (with_reducible first
          | intro _ | assumption | apply addFrames_kept)
theorem linkEvent_kept (l : Lane) (up : Bool) (s : State) (hk : Kept q s) :
    Kept q (linkEvent l up s) := by
  unfold linkEvent
  repeat'
    first
      | (with_reducible first
          | intro _ | assumption | apply State.modLane_kept | apply laneRecord_kept | apply resendReplies_kept
          | apply kept_ite)
      | (extract_lets +onlyGivenNames x; first | (refine kept_cut (q := q) (x := x) ?_ ?_ <;> [(unfold x; clear x); (intro hx; clear_value x)]) | clear_value x)
      | simp only [kept_update] | split
theorem linkChange_kept (l : Lane) (up : Bool) (s : State) (hk : Kept q s) :
    Kept q (linkChange l up s) := by
  unfold linkChange
  repeat'
    first
      | (with_reducible first
          | intro _ | assumption | apply State.modLane_kept | apply present_kept | apply kept_ite)
      | (extract_lets +onlyGivenNames x; first | (refine kept_cut (q := q) (x := x) ?_ ?_ <;> [(unfold x; clear x); (intro hx; clear_value x)]) | clear_value x)
      | simp only [kept_update] | split
theorem presentPacket_kept (p : Packet) (s : State) (hk : Kept q s) :
    Kept q (presentPacket p s) := by
  unfold presentPacket
  repeat'
    first
      | (with_reducible first
          | intro _ | assumption | apply State.modLane_kept | apply present_kept | apply kept_ite)
      | (extract_lets +onlyGivenNames x; first | (refine kept_cut (q := q) (x := x) ?_ ?_ <;> [(unfold x; clear x); (intro hx; clear_value x)]) | clear_value x)
      | simp only [kept_update] | split
theorem offerPacket_kept (p : Packet) (s : State) (hk : Kept q s) :
    Kept q (offerPacket p s) := by
  unfold offerPacket
  repeat'
    first
      | (with_reducible first
          | intro _ | assumption | apply State.modLane_kept | apply presentPacket_kept | apply kept_ite)
      | (extract_lets +onlyGivenNames x; first | (refine kept_cut (q := q) (x := x) ?_ ?_ <;> [(unfold x; clear x); (intro hx; clear_value x)]) | clear_value x)
      | simp only [kept_update] | split
theorem enginesBegin_kept (s : State) (hk : Kept q s) :
    Kept q (enginesBegin s) := by
  unfold enginesBegin
  repeat'
    first
      | (with_reducible first
          | intro _ | assumption | apply State.modLane_kept | apply presentPacket_kept | apply kept_foldl)
      | (extract_lets +onlyGivenNames x; first | (refine kept_cut (q := q) (x := x) ?_ ?_ <;> [(unfold x; clear x); (intro hx; clear_value x)]) | clear_value x)
      | simp only [kept_update]
theorem sendNow_kept (fs : List Frame) (l : Lane) (s : State) (hk : Kept q s) :
    Kept q (sendNow fs l s) := by
  unfold sendNow
  repeat'
    first
      | (with_reducible first
          | intro _ | assumption | apply State.modLane_kept) | simp only [kept_update]
theorem updRequest_kept (r : Option Lane) (code : Nat) (ws : List Word) (s : State) (hk : Kept q s) :
    Kept q (updRequest r code ws s).2.2 := by
  unfold updRequest
  dsimp only
  repeat'
    first
      | (with_reducible first
          | intro _ | assumption | apply updBegin_kept | apply updData_kept | apply updVerify_kept
          | apply updActivate_kept | apply recoveryActivate_kept | apply updConfirm_kept | apply kept_ite
          | apply kept_ite2 | apply kept_ite3 | apply kept_ite4)
      | (extract_lets +onlyGivenNames x; first | (refine kept_cut (q := q) (x := x) ?_ ?_ <;> [(unfold x; clear x); (intro hx; clear_value x)]) | (refine kept_cut3 (q := q) (x := x) ?_ ?_ <;> [(unfold x; clear x); (intro hx; clear_value x)]) | (refine kept_cut2 (q := q) (x := x) ?_ ?_ <;> [(unfold x; clear x); (intro hx; clear_value x)]) | clear_value x)
      | refine kept_eq (by assumption) ?_ | refine kept_eq3 (by assumption) ?_ | refine kept_eq4 (by assumption) ?_
      | split | dsimp only
theorem recoverySession_kept (l : Lane) (p : Packet) (s : State) (hk : Kept q s) :
    Kept q (recoverySession l p s) := by
  unfold recoverySession
  repeat'
    first
      | (with_reducible first
          | intro _ | assumption | apply setSession_kept | apply sendNow_kept | apply updRequest_kept | apply kept_ite
          | apply kept_ite2 | apply kept_ite3 | apply kept_ite4)
      | (extract_lets +onlyGivenNames x; first | (refine kept_cut (q := q) (x := x) ?_ ?_ <;> [(unfold x; clear x); (intro hx; clear_value x)]) | (refine kept_cut3 (q := q) (x := x) ?_ ?_ <;> [(unfold x; clear x); (intro hx; clear_value x)]) | (refine kept_cut2 (q := q) (x := x) ?_ ?_ <;> [(unfold x; clear x); (intro hx; clear_value x)]) | clear_value x)
      | refine kept_eq (by assumption) ?_ | refine kept_eq3 (by assumption) ?_ | refine kept_eq4 (by assumption) ?_
      | split | dsimp only
theorem answerAlone_kept (l : Lane) (p : Packet) (s : State) (hk : Kept q s) :
    Kept q (answerAlone l p s) := by
  unfold answerAlone
  repeat'
    first
      | (with_reducible first
          | intro _ | assumption | apply hello_kept | apply sendNow_kept | apply recoverySession_kept | apply kept_ite
          | apply kept_ite2 | apply kept_ite3 | apply kept_ite4)
      | (extract_lets +onlyGivenNames x; first | (refine kept_cut (q := q) (x := x) ?_ ?_ <;> [(unfold x; clear x); (intro hx; clear_value x)]) | (refine kept_cut3 (q := q) (x := x) ?_ ?_ <;> [(unfold x; clear x); (intro hx; clear_value x)]) | (refine kept_cut2 (q := q) (x := x) ?_ ?_ <;> [(unfold x; clear x); (intro hx; clear_value x)]) | clear_value x)
      | split | dsimp only
theorem receivePacket_kept (l : Lane) (h : HostFrame) (os : List (BitVec 8)) (s : State) (hk : Kept q s) :
    Kept q (receivePacket l h os s) := by
  unfold receivePacket
  repeat'
    first
      | (with_reducible first
          | intro _ | assumption | apply State.modLane_kept | apply hello_kept | apply offerPacket_kept
          | apply answerAlone_kept | apply kept_ite | apply kept_ite2 | apply kept_ite3 | apply kept_ite4)
      | (extract_lets +onlyGivenNames x; first | (refine kept_cut (q := q) (x := x) ?_ ?_ <;> [(unfold x; clear x); (intro hx; clear_value x)]) | (refine kept_cut3 (q := q) (x := x) ?_ ?_ <;> [(unfold x; clear x); (intro hx; clear_value x)]) | (refine kept_cut2 (q := q) (x := x) ?_ ?_ <;> [(unfold x; clear x); (intro hx; clear_value x)]) | clear_value x)
      | simp only [kept_update] | split | dsimp only
theorem execHostPacket_kept (l : Lane) (head : HostFrame) (octets : List (BitVec 8)) (s : State) (hk : Kept q s) :
    KeptO q (execHostPacket l head octets s) := by
  unfold execHostPacket
  repeat'
    first
      | (with_reducible first
          | intro _ | assumption | apply receivePacket_kept | apply keptO_next)
theorem arpStep_kept (l : Lane) (target sender : Nat) (s : State) (hk : Kept q s) :
    Kept q (arpStep l target sender s) := by
  unfold arpStep
  repeat'
    first
      | (with_reducible first
          | intro _ | assumption | apply State.modLane_kept | apply kept_ite)
      | (extract_lets +onlyGivenNames x; first | (refine kept_cut (q := q) (x := x) ?_ ?_ <;> [(unfold x; clear x); (intro hx; clear_value x)]) | clear_value x)
      | simp only [kept_update] | split
theorem execArpRequest_kept (l : Lane) (target sender : BitVec 32) (s : State) (hk : Kept q s) :
    KeptO q (execArpRequest l target sender s) := by
  unfold execArpRequest
  repeat'
    first
      | (with_reducible first
          | intro _ | assumption | apply arpStep_kept | apply keptO_next)
theorem execHostLinkUp_kept (l : Lane) (s : State) (hk : Kept q s) :
    KeptO q (execHostLinkUp l s) := by
  unfold execHostLinkUp
  repeat'
    first
      | (with_reducible first
          | intro _ | assumption | apply linkChange_kept | apply keptO_next)
theorem execHostLinkLoss_kept (l : Lane) (s : State) (hk : Kept q s) :
    KeptO q (execHostLinkLoss l s) := by
  unfold execHostLinkLoss
  repeat'
    first
      | (with_reducible first
          | intro _ | assumption | apply linkChange_kept | apply keptO_next)
theorem execSessionIdleTimeout_kept (k : Fin 8) (s : State) (hk : Kept q s) :
    KeptO q (execSessionIdleTimeout k s) := by
  unfold execSessionIdleTimeout
  repeat'
    first
      | (with_reducible first
          | intro _ | assumption | apply closeSession_kept | apply kept_ite | apply keptO_ite | apply keptO_next)
      | split
theorem execPendingSessionExpiry_kept (k : Fin 8) (s : State) (hk : Kept q s) :
    KeptO q (execPendingSessionExpiry k s) := by
  unfold execPendingSessionExpiry
  repeat'
    first
      | (with_reducible first
          | intro _ | assumption | apply closeSession_kept | apply kept_ite | apply keptO_ite | apply keptO_next)
      | split
/-! ### Host -/
theorem answerOnly_kept (status : Nat) (s : State) (hk : Kept q s) :
    Kept q (answerOnly status s).2.2 := by
  unfold answerOnly
  repeat'
    first
      | (with_reducible first
          | intro _ | assumption) | dsimp only
theorem checkPoints_kept (m : Nat) (sec : Bool) (pts : List (Nat × Bool)) (s : State) (hk : Kept q s) :
    Kept q (checkPoints m sec pts s).2 := by
  unfold checkPoints
  repeat'
    first
      | (with_reducible first
          | intro _ | assumption | apply refuseAccess_kept | apply kept_ite | apply kept_ite2 | apply kept_ite3
          | apply kept_ite4) | refine kept_eq (by assumption) ?_ | refine kept_eq3 (by assumption) ?_
      | refine kept_eq4 (by assumption) ?_ | split | dsimp only
theorem blockOn_kept (m : Nat) (pts : List (Nat × Bool)) (s : State) (hk : Kept q s) :
    Kept q (blockOn m pts s) := by
  unfold blockOn
  repeat'
    first
      | (with_reducible first
          | intro _ | assumption | apply parkAccess_kept) | simp only [kept_update] | split
theorem unlessBlocked_kept (s : State) (run : State → Answered) (hr : ∀ s, Kept q s → Kept q (run s).2.2) (hk : Kept q s) : Kept q (unlessBlocked s run).2.2 :=
  kept_ite3 (answerOnly_kept _ _ hk) (hr _ hk)
theorem withPoints_kept (m : Nat) (sec : Bool) (pts : List (Nat × Bool)) (s : State) (run : State → Answered) (hr : ∀ s, Kept q s → Kept q (run s).2.2) (hk : Kept q s) : Kept q (withPoints m sec pts s run).2.2 := by
  have h := checkPoints_kept m sec pts s hk
  exact kept_ite3 (unlessBlocked_kept _ _ hr (blockOn_kept _ _ _ h)) (answerOnly_kept _ _ h)
theorem accesses_kept (m : Nat) (pts : List (Nat × Bool)) (s : State) (hk : Kept q s) :
    Kept q (accesses m pts s) := by
  unfold accesses
  repeat'
    first
      | (with_reducible first
          | intro _ | assumption | apply countAccess_kept | apply kept_foldl)
theorem withAccesses_kept (m : Nat) (sec : Bool) (pts : List (Nat × Bool)) (s : State) (run : State → Answered) (hr : ∀ s, Kept q s → Kept q (run s).2.2) (hk : Kept q s) : Kept q (withAccesses m sec pts s run).2.2 :=
  withPoints_kept _ _ _ _ _ (fun s h => hr _ (accesses_kept _ _ s h)) hk
theorem readWords_kept (v : Lane) (m : Nat) (as : List Nat) (s : State) (hk : Kept q s) : Kept q (readWords v m as s).2 := by
  induction as generalizing s with
  | nil => exact hk
  | cons a as ih => exact ih _ (readOn_kept _ _ _ _ (countAccess_kept _ _ _ _ _ hk))
theorem writeWords_kept (m : Nat) (ps : List (Nat × Word)) (s : State) (hk : Kept q s) :
    Kept q (writeWords m ps s) := by
  unfold writeWords
  repeat'
    first
      | (with_reducible first
          | intro _ | assumption | apply countAccess_kept | apply pointWrite_kept | apply kept_foldl)
theorem readOnly_kept (v : Lane) (m : Nat) (sec : Bool) (as : List Nat) (s : State) (hk : Kept q s) :
    Kept q (readOnly v m sec as s).2.2 := by
  unfold readOnly
  repeat'
    first
      | (with_reducible first
          | intro _ | assumption | apply withPoints_kept | apply readWords_kept)
      | (extract_lets +onlyGivenNames x; first | (refine kept_cut (q := q) (x := x) ?_ ?_ <;> [(unfold x; clear x); (intro hx; clear_value x)]) | (refine kept_cut3 (q := q) (x := x) ?_ ?_ <;> [(unfold x; clear x); (intro hx; clear_value x)]) | (refine kept_cut2 (q := q) (x := x) ?_ ?_ <;> [(unfold x; clear x); (intro hx; clear_value x)]) | clear_value x)
      | dsimp only
theorem writeOnly_kept (m : Nat) (sec : Bool) (ps : List (Nat × Word)) (s : State) (hk : Kept q s) :
    Kept q (writeOnly m sec ps s).2.2 := by
  unfold writeOnly
  repeat'
    first
      | (with_reducible first
          | intro _ | assumption | apply answerOnly_kept | apply withPoints_kept | apply writeWords_kept) | dsimp only
theorem opRead_kept (v : Lane) (m : Nat) (sec : Bool) (ws : List Word) (s : State) (hk : Kept q s) :
    Kept q (opRead v m sec ws s).2.2 := by
  unfold opRead
  repeat'
    first
      | (with_reducible first
          | intro _ | assumption | apply answerOnly_kept | apply readOnly_kept | apply kept_ite | apply kept_ite2
          | apply kept_ite3 | apply kept_ite4) | refine kept_eq (by assumption) ?_
      | refine kept_eq3 (by assumption) ?_ | refine kept_eq4 (by assumption) ?_ | split | dsimp only
theorem opWrite_kept (m : Nat) (sec : Bool) (ws : List Word) (s : State) (hk : Kept q s) :
    Kept q (opWrite m sec ws s).2.2 := by
  unfold opWrite
  repeat'
    first
      | (with_reducible first
          | intro _ | assumption | apply answerOnly_kept | apply writeOnly_kept | apply kept_ite | apply kept_ite2
          | apply kept_ite3 | apply kept_ite4) | refine kept_eq (by assumption) ?_
      | refine kept_eq3 (by assumption) ?_ | refine kept_eq4 (by assumption) ?_ | split | dsimp only
theorem opReadList_kept (v : Lane) (m : Nat) (sec : Bool) (ws : List Word) (s : State) (hk : Kept q s) :
    Kept q (opReadList v m sec ws s).2.2 := by
  unfold opReadList
  repeat'
    first
      | (with_reducible first
          | intro _ | assumption | apply answerOnly_kept | apply readOnly_kept | apply kept_ite | apply kept_ite2
          | apply kept_ite3 | apply kept_ite4) | split | dsimp only
theorem modifyEach_kept (m a : Nat) (mask x : Word) (s : State) (hk : Kept q s) :
    Kept q (modifyEach m a mask x s) := by
  unfold modifyEach
  repeat'
    first
      | (with_reducible first
          | intro _ | assumption | apply laneLocalWrite_kept | apply kept_foldl)
theorem modifyPort_kept (m a : Nat) (mask x : Word) (s : State) (hk : Kept q s) :
    Kept q (modifyPort m a mask x s) := by
  unfold modifyPort
  repeat'
    first
      | (with_reducible first
          | intro _ | assumption | apply writeRefused_kept | apply kept_ite)
      | (extract_lets +onlyGivenNames x; first | (refine kept_cut (q := q) (x := x) ?_ ?_ <;> [(unfold x; clear x); (intro hx; clear_value x)]) | clear_value x)
      | split
theorem opModify_kept (v : Lane) (m : Nat) (sec : Bool) (ws : List Word) (s : State) (hk : Kept q s) :
    Kept q (opModify v m sec ws s).2.2 := by
  unfold opModify
  repeat'
    first
      | (with_reducible first
          | intro _ | assumption | apply countAccess_kept | apply pointWrite_kept | apply answerOnly_kept
          | apply withPoints_kept | apply readWords_kept | apply modifyEach_kept | apply modifyPort_kept
          | apply kept_ite | apply kept_ite2 | apply kept_ite3 | apply kept_ite4)
      | (extract_lets +onlyGivenNames x; first | (refine kept_cut (q := q) (x := x) ?_ ?_ <;> [(unfold x; clear x); (intro hx; clear_value x)]) | (refine kept_cut3 (q := q) (x := x) ?_ ?_ <;> [(unfold x; clear x); (intro hx; clear_value x)]) | (refine kept_cut2 (q := q) (x := x) ?_ ?_ <;> [(unfold x; clear x); (intro hx; clear_value x)]) | clear_value x)
      | refine kept_eq (by assumption) ?_ | refine kept_eq3 (by assumption) ?_ | refine kept_eq4 (by assumption) ?_
      | split | dsimp only
theorem opChCommand_kept (m : Nat) (sec : Bool) (ws : List Word) (s : State) (hk : Kept q s) :
    Kept q (opChCommand m sec ws s).2.2 := by
  unfold opChCommand
  repeat'
    first
      | (with_reducible first
          | intro _ | assumption | apply answerOnly_kept | apply writeOnly_kept | apply kept_ite | apply kept_ite2
          | apply kept_ite3 | apply kept_ite4) | split | dsimp only
theorem opChRead_kept (v : Lane) (m : Nat) (sec : Bool) (offs : List Nat) (ws : List Word) (s : State) (hk : Kept q s) :
    Kept q (opChRead v m sec offs ws s).2.2 := by
  unfold opChRead
  repeat'
    first
      | (with_reducible first
          | intro _ | assumption | apply answerOnly_kept | apply readOnly_kept | apply kept_ite | apply kept_ite2
          | apply kept_ite3 | apply kept_ite4) | refine kept_eq (by assumption) ?_
      | refine kept_eq3 (by assumption) ?_ | refine kept_eq4 (by assumption) ?_ | split | dsimp only
theorem opEvtRead_kept (ws : List Word) (s : State) (hk : Kept q s) :
    Kept q (opEvtRead ws s).2.2 := by
  unfold opEvtRead
  repeat'
    first
      | (with_reducible first
          | intro _ | assumption | apply answerOnly_kept | apply kept_ite | apply kept_ite2 | apply kept_ite3
          | apply kept_ite4)
      | (extract_lets +onlyGivenNames x; first | (refine kept_cut (q := q) (x := x) ?_ ?_ <;> [(unfold x; clear x); (intro hx; clear_value x)]) | (refine kept_cut3 (q := q) (x := x) ?_ ?_ <;> [(unfold x; clear x); (intro hx; clear_value x)]) | (refine kept_cut2 (q := q) (x := x) ?_ ?_ <;> [(unfold x; clear x); (intro hx; clear_value x)]) | clear_value x)
      | split | dsimp only
theorem addStreamUsed_kept (l : Lane) (n : Nat) (s : State) (hk : Kept q s) :
    Kept q (addStreamUsed l n s) := by
  unfold addStreamUsed
  repeat'
    first
      | (with_reducible first
          | intro _ | assumption) | simp only [kept_update] | split
theorem recordReply_kept (v : Lane) (head : List Word) (srcs : List LateSrc) (s : State) (hk : Kept q s) :
    Kept q (recordReply v head srcs s).2.2 := by
  unfold recordReply
  repeat'
    first
      | (with_reducible first
          | intro _ | assumption) | simp only [kept_update] | dsimp only
theorem opStrRead_kept (l v : Lane) (m : Nat) (sec : Bool) (ws : List Word) (s : State) (hk : Kept q s) :
    Kept q (opStrRead l v m sec ws s).2.2 := by
  unfold opStrRead
  repeat'
    first
      | (with_reducible first
          | intro _ | assumption | apply measWrite_kept | apply answerOnly_kept | apply withAccesses_kept
          | apply addStreamUsed_kept | apply recordReply_kept | apply kept_ite | apply kept_ite2 | apply kept_ite3
          | apply kept_ite4)
      | (extract_lets +onlyGivenNames x; first | (refine kept_cut (q := q) (x := x) ?_ ?_ <;> [(unfold x; clear x); (intro hx; clear_value x)]) | (refine kept_cut3 (q := q) (x := x) ?_ ?_ <;> [(unfold x; clear x); (intro hx; clear_value x)]) | (refine kept_cut2 (q := q) (x := x) ?_ ?_ <;> [(unfold x; clear x); (intro hx; clear_value x)]) | clear_value x)
      | refine kept_eq (by assumption) ?_ | refine kept_eq3 (by assumption) ?_ | refine kept_eq4 (by assumption) ?_
      | split | dsimp only
theorem opBusRead_kept (v : Lane) (m : Nat) (sec : Bool) (ws : List Word) (s : State) (hk : Kept q s) :
    Kept q (opBusRead v m sec ws s).2.2 := by
  unfold opBusRead
  repeat'
    first
      | (with_reducible first
          | intro _ | assumption | apply answerOnly_kept | apply withAccesses_kept | apply recordReply_kept
          | apply kept_ite | apply kept_ite2 | apply kept_ite3 | apply kept_ite4)
      | (extract_lets +onlyGivenNames x; first | (refine kept_cut (q := q) (x := x) ?_ ?_ <;> [(unfold x; clear x); (intro hx; clear_value x)]) | (refine kept_cut3 (q := q) (x := x) ?_ ?_ <;> [(unfold x; clear x); (intro hx; clear_value x)]) | (refine kept_cut2 (q := q) (x := x) ?_ ?_ <;> [(unfold x; clear x); (intro hx; clear_value x)]) | clear_value x)
      | split | dsimp only
theorem withMbxPoints_kept (m : Nat) (sec : Bool) (pts : List (Nat × Bool)) (s : State) (run : State → Answered) (hr : ∀ s, Kept q s → Kept q (run s).2.2) (hk : Kept q s) : Kept q (withMbxPoints m sec pts s run).2.2 := by
  unfold withMbxPoints
  split
  · exact answerOnly_kept _ _ (refuseAccess_kept _ _ _ _ _ hk)
  · exact unlessBlocked_kept _ _ (fun s h => hr _ (accesses_kept _ _ s h)) (blockOn_kept _ _ _ hk)
theorem opMbxPost_kept (m : Nat) (sec : Bool) (ws : List Word) (s : State) (hk : Kept q s) :
    Kept q (opMbxPost m sec ws s).2.2 := by
  unfold opMbxPost
  repeat'
    first
      | (with_reducible first
          | intro _ | assumption | apply State.modBox_kept | apply postMessage_kept | apply answerOnly_kept
          | apply withMbxPoints_kept | apply kept_ite | apply kept_ite2 | apply kept_ite3 | apply kept_ite4)
      | (extract_lets +onlyGivenNames x; first | (refine kept_cut (q := q) (x := x) ?_ ?_ <;> [(unfold x; clear x); (intro hx; clear_value x)]) | (refine kept_cut3 (q := q) (x := x) ?_ ?_ <;> [(unfold x; clear x); (intro hx; clear_value x)]) | (refine kept_cut2 (q := q) (x := x) ?_ ?_ <;> [(unfold x; clear x); (intro hx; clear_value x)]) | clear_value x)
      | refine kept_eq (by assumption) ?_ | refine kept_eq3 (by assumption) ?_ | refine kept_eq4 (by assumption) ?_
      | simp only [kept_update] | split | dsimp only
theorem opMbxFetch_kept (m : Nat) (sec : Bool) (ws : List Word) (s : State) (hk : Kept q s) :
    Kept q (opMbxFetch m sec ws s).2.2 := by
  unfold opMbxFetch
  repeat'
    first
      | (with_reducible first
          | intro _ | assumption | apply State.modBox_kept | apply ackMessages_kept | apply answerOnly_kept
          | apply withMbxPoints_kept | apply kept_ite | apply kept_ite2 | apply kept_ite3 | apply kept_ite4)
      | (extract_lets +onlyGivenNames x; first | (refine kept_cut (q := q) (x := x) ?_ ?_ <;> [(unfold x; clear x); (intro hx; clear_value x)]) | (refine kept_cut3 (q := q) (x := x) ?_ ?_ <;> [(unfold x; clear x); (intro hx; clear_value x)]) | (refine kept_cut2 (q := q) (x := x) ?_ ?_ <;> [(unfold x; clear x); (intro hx; clear_value x)]) | clear_value x)
      | refine kept_eq (by assumption) ?_ | refine kept_eq3 (by assumption) ?_ | refine kept_eq4 (by assumption) ?_
      | simp only [kept_update] | split | dsimp only
theorem opLgtString_kept (m : Nat) (sec : Bool) (ws : List Word) (s : State) (hk : Kept q s) :
    Kept q (opLgtString m sec ws s).2.2 := by
  unfold opLgtString
  repeat'
    first
      | (with_reducible first
          | intro _ | assumption | apply answerOnly_kept | apply writeOnly_kept | apply kept_ite | apply kept_ite2
          | apply kept_ite3 | apply kept_ite4)
      | (extract_lets +onlyGivenNames x; first | (refine kept_cut (q := q) (x := x) ?_ ?_ <;> [(unfold x; clear x); (intro hx; clear_value x)]) | (refine kept_cut3 (q := q) (x := x) ?_ ?_ <;> [(unfold x; clear x); (intro hx; clear_value x)]) | (refine kept_cut2 (q := q) (x := x) ?_ ?_ <;> [(unfold x; clear x); (intro hx; clear_value x)]) | clear_value x)
      | split | dsimp only
theorem opLgtPixels_kept (m : Nat) (sec : Bool) (ws : List Word) (s : State) (hk : Kept q s) :
    Kept q (opLgtPixels m sec ws s).2.2 := by
  unfold opLgtPixels
  repeat'
    first
      | (with_reducible first
          | intro _ | assumption | apply answerOnly_kept | apply writeOnly_kept | apply kept_ite | apply kept_ite2
          | apply kept_ite3 | apply kept_ite4)
      | (extract_lets +onlyGivenNames x; first | (refine kept_cut (q := q) (x := x) ?_ ?_ <;> [(unfold x; clear x); (intro hx; clear_value x)]) | (refine kept_cut3 (q := q) (x := x) ?_ ?_ <;> [(unfold x; clear x); (intro hx; clear_value x)]) | (refine kept_cut2 (q := q) (x := x) ?_ ?_ <;> [(unfold x; clear x); (intro hx; clear_value x)]) | clear_value x)
      | split | dsimp only
theorem opAccEnrol_kept (m : Nat) (sec : Bool) (ws : List Word) (s : State) (hk : Kept q s) :
    Kept q (opAccEnrol m sec ws s).2.2 := by
  unfold opAccEnrol
  repeat'
    first
      | (with_reducible first
          | intro _ | assumption | apply State.setLive_kept | apply State.setCopy_kept | apply loadLatch_kept
          | apply emit_kept | apply answerOnly_kept | apply withAccesses_kept | apply kept_ite | apply kept_ite2
          | apply kept_ite3 | apply kept_ite4)
      | (extract_lets +onlyGivenNames x; first | (refine kept_cut (q := q) (x := x) ?_ ?_ <;> [(unfold x; clear x); (intro hx; clear_value x)]) | (refine kept_cut3 (q := q) (x := x) ?_ ?_ <;> [(unfold x; clear x); (intro hx; clear_value x)]) | (refine kept_cut2 (q := q) (x := x) ?_ ?_ <;> [(unfold x; clear x); (intro hx; clear_value x)]) | clear_value x)
      | refine kept_eq (by assumption) ?_ | refine kept_eq3 (by assumption) ?_ | refine kept_eq4 (by assumption) ?_
      | simp only [kept_update] | split | dsimp only
theorem opAccDelete_kept (m : Nat) (sec : Bool) (ws : List Word) (s : State) (hk : Kept q s) :
    Kept q (opAccDelete m sec ws s).2.2 := by
  unfold opAccDelete
  repeat'
    first
      | (with_reducible first
          | intro _ | assumption | apply State.setLive_kept | apply State.setCopy_kept | apply laneRecord_kept
          | apply endSession_kept | apply loadLatch_kept | apply answerOnly_kept | apply withAccesses_kept
          | apply kept_ite | apply kept_ite2 | apply kept_ite3 | apply kept_ite4)
      | (extract_lets +onlyGivenNames x; first | (refine kept_cut (q := q) (x := x) ?_ ?_ <;> [(unfold x; clear x); (intro hx; clear_value x)]) | (refine kept_cut3 (q := q) (x := x) ?_ ?_ <;> [(unfold x; clear x); (intro hx; clear_value x)]) | (refine kept_cut2 (q := q) (x := x) ?_ ?_ <;> [(unfold x; clear x); (intro hx; clear_value x)]) | clear_value x)
      | refine kept_eq (by assumption) ?_ | refine kept_eq3 (by assumption) ?_ | refine kept_eq4 (by assumption) ?_
      | simp only [kept_update] | split | dsimp only
theorem placeBuffer_kept (ws : List Word) (s : State) (hk : Kept q s) :
    Kept q (placeBuffer ws s) := by
  unfold placeBuffer
  repeat'
    first
      | (with_reducible first
          | intro _ | assumption | apply State.setSrams_kept) | simp only [kept_update]
theorem opBusSend_kept (m : Nat) (sec : Bool) (ws : List Word) (s : State) (hk : Kept q s) :
    Kept q (opBusSend m sec ws s).2.2 := by
  unfold opBusSend
  repeat'
    first
      | (with_reducible first
          | intro _ | assumption | apply State.modBus_kept | apply refuseBus_kept | apply emit_kept
          | apply busqWrite_kept | apply answerOnly_kept | apply withAccesses_kept | apply placeBuffer_kept
          | apply kept_ite | apply kept_ite2 | apply kept_ite3 | apply kept_ite4)
      | (extract_lets +onlyGivenNames x; first | (refine kept_cut (q := q) (x := x) ?_ ?_ <;> [(unfold x; clear x); (intro hx; clear_value x)]) | (refine kept_cut3 (q := q) (x := x) ?_ ?_ <;> [(unfold x; clear x); (intro hx; clear_value x)]) | (refine kept_cut2 (q := q) (x := x) ?_ ?_ <;> [(unfold x; clear x); (intro hx; clear_value x)]) | clear_value x)
      | refine kept_eq (by assumption) ?_ | refine kept_eq3 (by assumption) ?_ | refine kept_eq4 (by assumption) ?_
      | simp only [kept_update] | split | dsimp only
theorem opBusTap_kept (ws : List Word) (s : State) (hk : Kept q s) :
    Kept q (opBusTap ws s).2.2 := by
  unfold opBusTap
  repeat'
    first
      | (with_reducible first
          | intro _ | assumption | apply State.modBus_kept | apply answerOnly_kept | apply kept_ite | apply kept_ite2
          | apply kept_ite3 | apply kept_ite4)
      | (extract_lets +onlyGivenNames x; first | (refine kept_cut (q := q) (x := x) ?_ ?_ <;> [(unfold x; clear x); (intro hx; clear_value x)]) | (refine kept_cut3 (q := q) (x := x) ?_ ?_ <;> [(unfold x; clear x); (intro hx; clear_value x)]) | (refine kept_cut2 (q := q) (x := x) ?_ ?_ <;> [(unfold x; clear x); (intro hx; clear_value x)]) | clear_value x)
      | simp only [kept_update] | split | dsimp only
theorem opBusStatus_kept (v : Lane) (m : Nat) (sec : Bool) (ws : List Word) (s : State) (hk : Kept q s) :
    Kept q (opBusStatus v m sec ws s).2.2 := by
  unfold opBusStatus
  repeat'
    first
      | (with_reducible first
          | intro _ | assumption | apply answerOnly_kept | apply readOnly_kept | apply kept_ite | apply kept_ite2
          | apply kept_ite3 | apply kept_ite4)
      | (extract_lets +onlyGivenNames x; first | (refine kept_cut (q := q) (x := x) ?_ ?_ <;> [(unfold x; clear x); (intro hx; clear_value x)]) | (refine kept_cut3 (q := q) (x := x) ?_ ?_ <;> [(unfold x; clear x); (intro hx; clear_value x)]) | (refine kept_cut2 (q := q) (x := x) ?_ ?_ <;> [(unfold x; clear x); (intro hx; clear_value x)]) | clear_value x)
      | refine kept_eq (by assumption) ?_ | refine kept_eq3 (by assumption) ?_ | refine kept_eq4 (by assumption) ?_
      | simp only [kept_update] | split | dsimp only
theorem bare_kept (ws : List Word) (a : Answered) (s : State) (ha : Kept q a.2.2) (hk : Kept q s) : Kept q (bare ws a s).2.2 := by
  unfold bare; split
  · exact ha
  · exact hk
theorem opLaneReset_kept (ws : List Word) (s : State) (hk : Kept q s) :
    Kept q (opLaneReset ws s).2.2 := by
  unfold opLaneReset
  repeat'
    first
      | (with_reducible first
          | intro _ | assumption | apply answerOnly_kept | apply kept_ite | apply kept_ite2 | apply kept_ite3
          | apply kept_ite4)
      | (extract_lets +onlyGivenNames x; first | (refine kept_cut (q := q) (x := x) ?_ ?_ <;> [(unfold x; clear x); (intro hx; clear_value x)]) | (refine kept_cut3 (q := q) (x := x) ?_ ?_ <;> [(unfold x; clear x); (intro hx; clear_value x)]) | (refine kept_cut2 (q := q) (x := x) ?_ ?_ <;> [(unfold x; clear x); (intro hx; clear_value x)]) | clear_value x)
      | refine kept_eq (by assumption) ?_ | refine kept_eq3 (by assumption) ?_ | refine kept_eq4 (by assumption) ?_
      | simp only [kept_update] | split | dsimp only
theorem opKeyLoad_kept (ws : List Word) (s : State) (hk : Kept q s) :
    Kept q (opKeyLoad ws s).2.2 := by
  unfold opKeyLoad
  repeat'
    first
      | (with_reducible first
          | intro _ | assumption | apply keyLoad_kept | apply answerOnly_kept)
      | (extract_lets +onlyGivenNames x; first | (refine kept_cut (q := q) (x := x) ?_ ?_ <;> [(unfold x; clear x); (intro hx; clear_value x)]) | (refine kept_cut3 (q := q) (x := x) ?_ ?_ <;> [(unfold x; clear x); (intro hx; clear_value x)]) | (refine kept_cut2 (q := q) (x := x) ?_ ?_ <;> [(unfold x; clear x); (intro hx; clear_value x)]) | clear_value x)
      | refine kept_eq (by assumption) ?_ | refine kept_eq3 (by assumption) ?_ | refine kept_eq4 (by assumption) ?_
      | split | dsimp only
theorem opModuleReset_kept (l : Lane) (ws : List Word) (s : State) (hk : Kept q s) :
    Kept q (opModuleReset l ws s).2.2 := by
  unfold opModuleReset
  repeat'
    first
      | (with_reducible first
          | intro _ | assumption | apply answerOnly_kept | apply kept_ite | apply kept_ite2 | apply kept_ite3
          | apply kept_ite4) | refine kept_eq (by assumption) ?_ | refine kept_eq3 (by assumption) ?_
      | refine kept_eq4 (by assumption) ?_ | simp only [kept_update] | split | dsimp only
theorem opPwrRequest_kept (ws : List Word) (s : State) (hk : Kept q s) :
    Kept q (opPwrRequest ws s).2.2 := by
  unfold opPwrRequest
  repeat'
    first
      | (with_reducible first
          | intro _ | assumption | apply requestPower_kept | apply answerOnly_kept)
      | (extract_lets +onlyGivenNames x; first | (refine kept_cut (q := q) (x := x) ?_ ?_ <;> [(unfold x; clear x); (intro hx; clear_value x)]) | (refine kept_cut3 (q := q) (x := x) ?_ ?_ <;> [(unfold x; clear x); (intro hx; clear_value x)]) | (refine kept_cut2 (q := q) (x := x) ?_ ?_ <;> [(unfold x; clear x); (intro hx; clear_value x)]) | clear_value x)
      | refine kept_eq (by assumption) ?_ | refine kept_eq3 (by assumption) ?_ | refine kept_eq4 (by assumption) ?_
      | split | dsimp only
theorem oneWrite_kept (m : Nat) (sec : Bool) (ws : List Word) (a : Nat) (f : Word → Word) (s : State) (hk : Kept q s) :
    Kept q (oneWrite m sec ws a f s).2.2 := by
  unfold oneWrite
  repeat'
    first
      | (with_reducible first
          | intro _ | assumption | apply answerOnly_kept | apply writeOnly_kept) | refine kept_eq (by assumption) ?_
      | refine kept_eq3 (by assumption) ?_ | refine kept_eq4 (by assumption) ?_ | split | dsimp only
theorem runOpcode_kept (cov : Bool) (l v : Lane) (code m : Nat) (sec : Bool) (ws : List Word) (s : State) (hk : Kept q s) :
    Kept q (runOpcode cov l v code m sec ws s).2.2 := by
  unfold runOpcode
  repeat'
    first
      | (with_reducible first
          | intro _ | assumption | apply updRequest_kept | apply answerOnly_kept | apply readOnly_kept
          | apply opRead_kept | apply opWrite_kept | apply opReadList_kept | apply opModify_kept
          | apply opChCommand_kept | apply opChRead_kept | apply opEvtRead_kept | apply opStrRead_kept
          | apply opBusRead_kept | apply opMbxPost_kept | apply opMbxFetch_kept | apply opLgtString_kept
          | apply opLgtPixels_kept | apply opAccEnrol_kept | apply opAccDelete_kept | apply opBusSend_kept
          | apply opBusTap_kept | apply opBusStatus_kept | apply bare_kept | apply opLaneReset_kept
          | apply opKeyLoad_kept | apply opModuleReset_kept | apply opPwrRequest_kept | apply oneWrite_kept
          | apply kept_ite | apply kept_ite2 | apply kept_ite3 | apply kept_ite4) | refine kept_eq (by assumption) ?_
      | refine kept_eq3 (by assumption) ?_ | refine kept_eq4 (by assumption) ?_ | split | dsimp only
theorem giveReply_kept (p : Packet) (fs : List Frame) (s : State) (hk : Kept q s) :
    Kept q (giveReply p fs s) := by
  unfold giveReply
  repeat'
    first
      | (with_reducible first
          | intro _ | assumption | apply setSession_kept | apply addFrames_kept)
      | (extract_lets +onlyGivenNames x; first | (refine kept_cut (q := q) (x := x) ?_ ?_ <;> [(unfold x; clear x); (intro hx; clear_value x)]) | clear_value x)
      | split
theorem noteLate_kept (l : Lane) (seq : Nat) (ws : List Word) (s : State) (hk : Kept q s) :
    Kept q (noteLate l seq ws s) := by
  unfold noteLate
  repeat'
    first
      | (with_reducible first
          | intro _ | assumption | apply kept_ite)
      | (extract_lets +onlyGivenNames x; first | (refine kept_cut (q := q) (x := x) ?_ ?_ <;> [(unfold x; clear x); (intro hx; clear_value x)]) | clear_value x)
      | simp only [kept_update] | split
theorem copyRecords_kept (s : State) (hk : Kept q s) :
    Kept q (copyRecords s) := by
  unfold copyRecords
  repeat'
    first
      | (with_reducible first
          | intro _ | assumption | apply kept_foldl | apply kept_ite)
      | (extract_lets +onlyGivenNames x; first | (refine kept_cut (q := q) (x := x) ?_ ?_ <;> [(unfold x; clear x); (intro hx; clear_value x)]) | clear_value x)
      | simp only [kept_update] | split
theorem executeRequest_kept (p : Packet) (seq : Nat) (x : Session) (s : State) (hk : Kept q s) :
    Kept q (executeRequest p seq x s) := by
  unfold executeRequest
  repeat'
    first
      | (with_reducible first
          | intro _ | assumption | apply castleRequest_kept | apply runOpcode_kept | apply giveReply_kept
          | apply noteLate_kept | apply kept_ite | apply kept_ite2 | apply kept_ite3 | apply kept_ite4)
      | (extract_lets +onlyGivenNames x; first | (refine kept_cut (q := q) (x := x) ?_ ?_ <;> [(unfold x; clear x); (intro hx; clear_value x)]) | (refine kept_cut3 (q := q) (x := x) ?_ ?_ <;> [(unfold x; clear x); (intro hx; clear_value x)]) | (refine kept_cut2 (q := q) (x := x) ?_ ?_ <;> [(unfold x; clear x); (intro hx; clear_value x)]) | clear_value x)
      | simp only [kept_update] | split | dsimp only
theorem executeHello_kept (p : Packet) (seq : Nat) (s : State) (hk : Kept q s) :
    Kept q (executeHello p seq s) := by
  unfold executeHello
  repeat'
    first
      | (with_reducible first
          | intro _ | assumption | apply hello_kept | apply addFrames_kept | apply plainReply_kept | apply kept_ite
          | apply kept_ite2 | apply kept_ite3 | apply kept_ite4)
      | (extract_lets +onlyGivenNames x; first | (refine kept_cut (q := q) (x := x) ?_ ?_ <;> [(unfold x; clear x); (intro hx; clear_value x)]) | (refine kept_cut3 (q := q) (x := x) ?_ ?_ <;> [(unfold x; clear x); (intro hx; clear_value x)]) | (refine kept_cut2 (q := q) (x := x) ?_ ?_ <;> [(unfold x; clear x); (intro hx; clear_value x)]) | clear_value x)
      | split | dsimp only
theorem executeClose_kept (p : Packet) (seq k : Nat) (x : Session) (s : State) (hk : Kept q s) :
    Kept q (executeClose p seq k x s) := by
  unfold executeClose
  repeat'
    first
      | (with_reducible first
          | intro _ | assumption | apply closeSession_kept | apply plainReply_kept | apply giveReply_kept
          | apply kept_ite)
      | (extract_lets +onlyGivenNames x; first | (refine kept_cut (q := q) (x := x) ?_ ?_ <;> [(unfold x; clear x); (intro hx; clear_value x)]) | clear_value x)
      | split
theorem answerFailed_kept (p : Packet) (seq : Nat) (s : State) (hk : Kept q s) :
    Kept q (answerFailed p seq s) := by
  unfold answerFailed
  repeat'
    first
      | (with_reducible first
          | intro _ | assumption | apply State.modLane_kept | apply laneRecord_kept | apply plainReply_kept
          | apply kept_ite)
      | (extract_lets +onlyGivenNames x; first | (refine kept_cut (q := q) (x := x) ?_ ?_ <;> [(unfold x; clear x); (intro hx; clear_value x)]) | clear_value x)
      | simp only [kept_update] | split
theorem startRequest_kept (p : Packet) (seq : Nat) (s : State) (hk : Kept q s) :
    Kept q (startRequest p seq s) := by
  unfold startRequest
  repeat'
    first
      | (with_reducible first
          | intro _ | assumption | apply setSession_kept | apply addFrames_kept | apply plainReply_kept
          | apply executeRequest_kept | apply executeHello_kept | apply executeClose_kept | apply answerFailed_kept
          | apply kept_ite)
      | (extract_lets +onlyGivenNames x; first | (refine kept_cut (q := q) (x := x) ?_ ?_ <;> [(unfold x; clear x); (intro hx; clear_value x)]) | clear_value x)
      | simp only [kept_update] | split
theorem hostRequest_kept (p : Packet) (seq at_ : Nat) (s : State) (hk : Kept q s) :
    Kept q (hostRequest p seq at_ s) := by
  unfold hostRequest
  repeat'
    first
      | (with_reducible first
          | intro _ | assumption | apply State.modLane_kept | apply startRequest_kept | apply kept_ite)
      | (extract_lets +onlyGivenNames x; first | (refine kept_cut (q := q) (x := x) ?_ ?_ <;> [(unfold x; clear x); (intro hx; clear_value x)]) | clear_value x)
      | simp only [kept_update] | split
theorem hostRequests_kept (all : List (Packet × Nat × Nat)) (s : State) (hk : Kept q s) :
    Kept q (hostRequests all s) := by
  unfold hostRequests
  repeat'
    first
      | (with_reducible first
          | intro _ | assumption | apply dropHostLocks_kept | apply hostRequest_kept | apply kept_foldl)
theorem hostStep_kept (due : List (Packet × Nat × Nat)) (s : State) (hk : Kept q s) :
    Kept q (hostStep due s) := by
  unfold hostStep
  repeat'
    first
      | (with_reducible first
          | intro _ | assumption | apply hostRequests_kept) | simp only [kept_update]
theorem hostResume_kept (s : State) (hk : Kept q s) :
    Kept q (hostResume s) := by
  unfold hostResume
  repeat'
    first
      | (with_reducible first
          | intro _ | assumption | apply hostRequests_kept | apply kept_ite) | simp only [kept_update] | split
theorem giveOwed_kept (s : State) (hk : Kept q s) :
    Kept q (giveOwed s) := by
  unfold giveOwed
  repeat'
    first
      | (with_reducible first
          | intro _ | assumption | apply giveReply_kept | apply kept_foldl) | simp only [kept_update]
theorem hostRow_kept (code : Nat) (h : ReqHead) (ws : List Word) (s : State) (hk : Kept q s) :
    Kept q (hostRow code h ws s) := by
  unfold hostRow
  repeat'
    first
      | (with_reducible first
          | intro _ | assumption | apply dropHostLocks_kept | apply hostRequest_kept) | simp only [kept_update]
theorem execModuleResetAssert_kept (s : State) (hk : Kept q s) :
    KeptO q (execModuleResetAssert s) := by
  unfold execModuleResetAssert
  repeat'
    first
      | (with_reducible first
          | intro _ | assumption | apply moduleReset_kept | apply kept_ite | apply keptO_ite | apply keptO_next)
      | split
theorem execHello_kept (h : ReqHead) (ws : List Word) (s : State) (hk : Kept q s) :
    KeptO q (execHello h ws s) := by
  unfold execHello
  repeat'
    first
      | (with_reducible first
          | intro _ | assumption | apply hostRow_kept | apply keptO_next)
theorem execClose_kept (h : ReqHead) (ws : List Word) (s : State) (hk : Kept q s) :
    KeptO q (execClose h ws s) := by
  unfold execClose
  repeat'
    first
      | (with_reducible first
          | intro _ | assumption | apply hostRow_kept | apply keptO_next)
theorem execPing_kept (h : ReqHead) (ws : List Word) (s : State) (hk : Kept q s) :
    KeptO q (execPing h ws s) := by
  unfold execPing
  repeat'
    first
      | (with_reducible first
          | intro _ | assumption | apply hostRow_kept | apply keptO_next)
theorem execModuleReset_kept (h : ReqHead) (ws : List Word) (s : State) (hk : Kept q s) :
    KeptO q (execModuleReset h ws s) := by
  unfold execModuleReset
  repeat'
    first
      | (with_reducible first
          | intro _ | assumption | apply hostRow_kept | apply keptO_next)
theorem execRead_kept (h : ReqHead) (ws : List Word) (s : State) (hk : Kept q s) :
    KeptO q (execRead h ws s) := by
  unfold execRead
  repeat'
    first
      | (with_reducible first
          | intro _ | assumption | apply hostRow_kept | apply keptO_next)
theorem execWrite_kept (h : ReqHead) (ws : List Word) (s : State) (hk : Kept q s) :
    KeptO q (execWrite h ws s) := by
  unfold execWrite
  repeat'
    first
      | (with_reducible first
          | intro _ | assumption | apply hostRow_kept | apply keptO_next)
theorem execReadList_kept (h : ReqHead) (ws : List Word) (s : State) (hk : Kept q s) :
    KeptO q (execReadList h ws s) := by
  unfold execReadList
  repeat'
    first
      | (with_reducible first
          | intro _ | assumption | apply hostRow_kept | apply keptO_next)
theorem execModify_kept (h : ReqHead) (ws : List Word) (s : State) (hk : Kept q s) :
    KeptO q (execModify h ws s) := by
  unfold execModify
  repeat'
    first
      | (with_reducible first
          | intro _ | assumption | apply hostRow_kept | apply keptO_next)
theorem execChCommand_kept (h : ReqHead) (ws : List Word) (s : State) (hk : Kept q s) :
    KeptO q (execChCommand h ws s) := by
  unfold execChCommand
  repeat'
    first
      | (with_reducible first
          | intro _ | assumption | apply hostRow_kept | apply keptO_next)
theorem execChRead_kept (h : ReqHead) (ws : List Word) (s : State) (hk : Kept q s) :
    KeptO q (execChRead h ws s) := by
  unfold execChRead
  repeat'
    first
      | (with_reducible first
          | intro _ | assumption | apply hostRow_kept | apply keptO_next)
theorem execChLife_kept (h : ReqHead) (ws : List Word) (s : State) (hk : Kept q s) :
    KeptO q (execChLife h ws s) := by
  unfold execChLife
  repeat'
    first
      | (with_reducible first
          | intro _ | assumption | apply hostRow_kept | apply keptO_next)
theorem execEvtRead_kept (h : ReqHead) (ws : List Word) (s : State) (hk : Kept q s) :
    KeptO q (execEvtRead h ws s) := by
  unfold execEvtRead
  repeat'
    first
      | (with_reducible first
          | intro _ | assumption | apply hostRow_kept | apply keptO_next)
theorem execStrRead_kept (h : ReqHead) (ws : List Word) (s : State) (hk : Kept q s) :
    KeptO q (execStrRead h ws s) := by
  unfold execStrRead
  repeat'
    first
      | (with_reducible first
          | intro _ | assumption | apply hostRow_kept | apply keptO_next)
theorem execMbxPost_kept (h : ReqHead) (ws : List Word) (s : State) (hk : Kept q s) :
    KeptO q (execMbxPost h ws s) := by
  unfold execMbxPost
  repeat'
    first
      | (with_reducible first
          | intro _ | assumption | apply hostRow_kept | apply keptO_next)
theorem execMbxFetch_kept (h : ReqHead) (ws : List Word) (s : State) (hk : Kept q s) :
    KeptO q (execMbxFetch h ws s) := by
  unfold execMbxFetch
  repeat'
    first
      | (with_reducible first
          | intro _ | assumption | apply hostRow_kept | apply keptO_next)
theorem execMbxStatus_kept (h : ReqHead) (ws : List Word) (s : State) (hk : Kept q s) :
    KeptO q (execMbxStatus h ws s) := by
  unfold execMbxStatus
  repeat'
    first
      | (with_reducible first
          | intro _ | assumption | apply hostRow_kept | apply keptO_next)
theorem execUpdBegin_kept (h : ReqHead) (ws : List Word) (s : State) (hk : Kept q s) :
    KeptO q (execUpdBegin h ws s) := by
  unfold execUpdBegin
  repeat'
    first
      | (with_reducible first
          | intro _ | assumption | apply hostRow_kept | apply keptO_next)
theorem execUpdData_kept (h : ReqHead) (ws : List Word) (s : State) (hk : Kept q s) :
    KeptO q (execUpdData h ws s) := by
  unfold execUpdData
  repeat'
    first
      | (with_reducible first
          | intro _ | assumption | apply hostRow_kept | apply keptO_next)
theorem execUpdVerify_kept (h : ReqHead) (ws : List Word) (s : State) (hk : Kept q s) :
    KeptO q (execUpdVerify h ws s) := by
  unfold execUpdVerify
  repeat'
    first
      | (with_reducible first
          | intro _ | assumption | apply hostRow_kept | apply keptO_next)
theorem execUpdActivate_kept (h : ReqHead) (ws : List Word) (s : State) (hk : Kept q s) :
    KeptO q (execUpdActivate h ws s) := by
  unfold execUpdActivate
  repeat'
    first
      | (with_reducible first
          | intro _ | assumption | apply hostRow_kept | apply keptO_next)
theorem execUpdConfirm_kept (h : ReqHead) (ws : List Word) (s : State) (hk : Kept q s) :
    KeptO q (execUpdConfirm h ws s) := by
  unfold execUpdConfirm
  repeat'
    first
      | (with_reducible first
          | intro _ | assumption | apply hostRow_kept | apply keptO_next)
theorem execUpdStatus_kept (h : ReqHead) (ws : List Word) (s : State) (hk : Kept q s) :
    KeptO q (execUpdStatus h ws s) := by
  unfold execUpdStatus
  repeat'
    first
      | (with_reducible first
          | intro _ | assumption | apply hostRow_kept | apply keptO_next)
theorem execKeyLoad_kept (h : ReqHead) (ws : List Word) (s : State) (hk : Kept q s) :
    KeptO q (execKeyLoad h ws s) := by
  unfold execKeyLoad
  repeat'
    first
      | (with_reducible first
          | intro _ | assumption | apply hostRow_kept | apply keptO_next)
theorem execPwrRequest_kept (h : ReqHead) (ws : List Word) (s : State) (hk : Kept q s) :
    KeptO q (execPwrRequest h ws s) := by
  unfold execPwrRequest
  repeat'
    first
      | (with_reducible first
          | intro _ | assumption | apply hostRow_kept | apply keptO_next)
theorem execPwrStatus_kept (h : ReqHead) (ws : List Word) (s : State) (hk : Kept q s) :
    KeptO q (execPwrStatus h ws s) := by
  unfold execPwrStatus
  repeat'
    first
      | (with_reducible first
          | intro _ | assumption | apply hostRow_kept | apply keptO_next)
theorem execCastle_kept (h : ReqHead) (ws : List Word) (s : State) (hk : Kept q s) :
    KeptO q (execCastle h ws s) := by
  unfold execCastle
  repeat'
    first
      | (with_reducible first
          | intro _ | assumption | apply hostRow_kept | apply keptO_next)
theorem execLaneReset_kept (h : ReqHead) (ws : List Word) (s : State) (hk : Kept q s) :
    KeptO q (execLaneReset h ws s) := by
  unfold execLaneReset
  repeat'
    first
      | (with_reducible first
          | intro _ | assumption | apply hostRow_kept | apply keptO_next)
theorem execLaneStatus_kept (h : ReqHead) (ws : List Word) (s : State) (hk : Kept q s) :
    KeptO q (execLaneStatus h ws s) := by
  unfold execLaneStatus
  repeat'
    first
      | (with_reducible first
          | intro _ | assumption | apply hostRow_kept | apply keptO_next)
theorem execLgtString_kept (h : ReqHead) (ws : List Word) (s : State) (hk : Kept q s) :
    KeptO q (execLgtString h ws s) := by
  unfold execLgtString
  repeat'
    first
      | (with_reducible first
          | intro _ | assumption | apply hostRow_kept | apply keptO_next)
theorem execLgtPixels_kept (h : ReqHead) (ws : List Word) (s : State) (hk : Kept q s) :
    KeptO q (execLgtPixels h ws s) := by
  unfold execLgtPixels
  repeat'
    first
      | (with_reducible first
          | intro _ | assumption | apply hostRow_kept | apply keptO_next)
theorem execLgtRead_kept (h : ReqHead) (ws : List Word) (s : State) (hk : Kept q s) :
    KeptO q (execLgtRead h ws s) := by
  unfold execLgtRead
  repeat'
    first
      | (with_reducible first
          | intro _ | assumption | apply hostRow_kept | apply keptO_next)
theorem execAccEnrol_kept (h : ReqHead) (ws : List Word) (s : State) (hk : Kept q s) :
    KeptO q (execAccEnrol h ws s) := by
  unfold execAccEnrol
  repeat'
    first
      | (with_reducible first
          | intro _ | assumption | apply hostRow_kept | apply keptO_next)
theorem execAccDelete_kept (h : ReqHead) (ws : List Word) (s : State) (hk : Kept q s) :
    KeptO q (execAccDelete h ws s) := by
  unfold execAccDelete
  repeat'
    first
      | (with_reducible first
          | intro _ | assumption | apply hostRow_kept | apply keptO_next)
theorem execAccRound_kept (h : ReqHead) (ws : List Word) (s : State) (hk : Kept q s) :
    KeptO q (execAccRound h ws s) := by
  unfold execAccRound
  repeat'
    first
      | (with_reducible first
          | intro _ | assumption | apply hostRow_kept | apply keptO_next)
theorem execAccDen_kept (h : ReqHead) (ws : List Word) (s : State) (hk : Kept q s) :
    KeptO q (execAccDen h ws s) := by
  unfold execAccDen
  repeat'
    first
      | (with_reducible first
          | intro _ | assumption | apply hostRow_kept | apply keptO_next)
theorem execAccRead_kept (h : ReqHead) (ws : List Word) (s : State) (hk : Kept q s) :
    KeptO q (execAccRead h ws s) := by
  unfold execAccRead
  repeat'
    first
      | (with_reducible first
          | intro _ | assumption | apply hostRow_kept | apply keptO_next)
theorem execBusSend_kept (h : ReqHead) (ws : List Word) (s : State) (hk : Kept q s) :
    KeptO q (execBusSend h ws s) := by
  unfold execBusSend
  repeat'
    first
      | (with_reducible first
          | intro _ | assumption | apply hostRow_kept | apply keptO_next)
theorem execBusTap_kept (h : ReqHead) (ws : List Word) (s : State) (hk : Kept q s) :
    KeptO q (execBusTap h ws s) := by
  unfold execBusTap
  repeat'
    first
      | (with_reducible first
          | intro _ | assumption | apply hostRow_kept | apply keptO_next)
theorem execBusRead_kept (h : ReqHead) (ws : List Word) (s : State) (hk : Kept q s) :
    KeptO q (execBusRead h ws s) := by
  unfold execBusRead
  repeat'
    first
      | (with_reducible first
          | intro _ | assumption | apply hostRow_kept | apply keptO_next)
theorem execBusStatus_kept (h : ReqHead) (ws : List Word) (s : State) (hk : Kept q s) :
    KeptO q (execBusStatus h ws s) := by
  unfold execBusStatus
  repeat'
    first
      | (with_reducible first
          | intro _ | assumption | apply hostRow_kept | apply keptO_next)
/-! ### Plies -/
theorem numberMarker_kept (b : Nat) (s : State) (hk : Kept q s) :
    Kept q (numberMarker b s) := by
  unfold numberMarker
  repeat'
    first
      | (with_reducible first
          | intro _ | assumption | apply afterNumber_kept | apply epochCarry_kept | apply countSource_kept)
      | (extract_lets +onlyGivenNames x; first | (refine kept_cut (q := q) (x := x) ?_ ?_ <;> [(unfold x; clear x); (intro hx; clear_value x)]) | clear_value x)
      | simp only [kept_update]
theorem numberHeldOne_kept (keep : Bool) (s : State) (i : Input) (hk : Kept q s) :
    Kept q (numberHeldOne keep s i) := by
  unfold numberHeldOne
  repeat'
    first
      | (with_reducible first
          | intro _ | assumption | apply numberInput_kept | apply kept_ite) | simp only [kept_update] | split
theorem numberHeld_kept (keep : Bool) (s : State) (hk : Kept q s) :
    Kept q (numberHeld keep s) := by
  unfold numberHeld
  repeat'
    first
      | (with_reducible first
          | intro _ | assumption | apply numberHeldOne_kept | apply kept_foldl) | simp only [kept_update]
theorem spillRecord_kept (s : State) (hk : Kept q s) :
    Kept q (spillRecord s) := by
  unfold spillRecord
  repeat'
    first
      | (with_reducible first
          | intro _ | assumption | apply kept_ite)
      | (extract_lets +onlyGivenNames x; first | (refine kept_cut (q := q) (x := x) ?_ ?_ <;> [(unfold x; clear x); (intro hx; clear_value x)]) | clear_value x)
      | simp only [kept_update] | split
theorem commitOne_kept (s : State) (r : RecDraft × Nat) (hk : Kept q s) :
    Kept q (commitOne s r) := by
  unfold commitOne
  dsimp only
  repeat'
    first
      | (with_reducible first
          | intro _ | assumption | apply afterNumber_kept | apply epochCarry_kept | apply kept_ite)
      | (extract_lets +onlyGivenNames x; first | (refine kept_cut (q := q) (x := x) ?_ ?_ <;> [(unfold x; clear x); (intro hx; clear_value x)]) | clear_value x)
      | simp only [kept_update] | split | with_reducible exact ring_drop _ | with_reducible exact log_drop _ _
      | with_reducible refine kept_ring (q := q) ?_ | with_reducible refine kept_log (q := q) ?_
      | with_reducible refine kept_ring_filter (q := q) _ ?_ | with_reducible refine kept_log_map (q := q) _ ?_
      | with_reducible exact nil_le _ | with_reducible apply kept_put
theorem commitRecords_kept (rs : List (RecDraft × Nat)) (s : State) (hk : Kept q s) :
    Kept q (commitRecords rs s) := by
  unfold commitRecords
  repeat'
    first
      | (with_reducible first
          | intro _ | assumption | apply commitOne_kept | apply kept_foldl) | simp only [kept_update]
theorem closeWindow_kept (b : Nat) (s : State) (hk : Kept q s) :
    Kept q (closeWindow b s) := by
  unfold closeWindow
  repeat'
    first
      | (with_reducible first
          | intro _ | assumption | apply numberMarker_kept | apply numberHeld_kept | apply spillRecord_kept
          | apply commitRecords_kept | apply kept_ite)
      | (extract_lets +onlyGivenNames x; first | (refine kept_cut (q := q) (x := x) ?_ ?_ <;> [(unfold x; clear x); (intro hx; clear_value x)]) | clear_value x)
      | split
theorem lifeBlock_kept (blk : List Word) (s : State) (hk : Kept q s) :
    Kept q (lifeBlock blk s) := by
  unfold lifeBlock
  repeat'
    first
      | (with_reducible first
          | intro _ | assumption | apply State.modLife_kept | apply kept_foldl | apply kept_ite)
      | (extract_lets +onlyGivenNames x; first | (refine kept_cut (q := q) (x := x) ?_ ?_ <;> [(unfold x; clear x); (intro hx; clear_value x)]) | clear_value x)
      | simp only [kept_update] | split
theorem doorCheck_kept (was : Bool) (s : State) (hk : Kept q s) :
    Kept q (doorCheck was s) := by
  unfold doorCheck
  repeat'
    first
      | (with_reducible first
          | intro _ | assumption | apply emit_kept | apply kept_ite) | split
theorem runBlock_kept (i : Input) (recs : List RecDraft) (s : State) (hk : Kept q s) :
    Kept q (runBlock i recs s).2 := by
  unfold runBlock
  repeat'
    first
      | (with_reducible first
          | intro _ | assumption | apply laneRecords_kept | apply measBlock_kept | apply fioBlock_kept
          | apply lifeBlock_kept | apply doorCheck_kept)
      | (extract_lets +onlyGivenNames x; first | (refine kept_cut (q := q) (x := x) ?_ ?_ <;> [(unfold x; clear x); (intro hx; clear_value x)]) | (refine kept_cut3 (q := q) (x := x) ?_ ?_ <;> [(unfold x; clear x); (intro hx; clear_value x)]) | (refine kept_cut2 (q := q) (x := x) ?_ ?_ <;> [(unfold x; clear x); (intro hx; clear_value x)]) | clear_value x)
      | simp only [kept_update] | dsimp only
theorem phaseBlocks_kept (s : State) (hk : Kept q s) :
    Kept q (phaseBlocks s) := by
  unfold phaseBlocks
  repeat'
    first
      | (with_reducible first
          | intro _ | assumption | apply sigFlushAll_kept | apply runBlock_kept | apply kept_foldl
          | apply kept_foldl2)
      | (extract_lets +onlyGivenNames x; first | (refine kept_cut (q := q) (x := x) ?_ ?_ <;> [(unfold x; clear x); (intro hx; clear_value x)]) | (refine kept_cut3 (q := q) (x := x) ?_ ?_ <;> [(unfold x; clear x); (intro hx; clear_value x)]) | (refine kept_cut2 (q := q) (x := x) ?_ ?_ <;> [(unfold x; clear x); (intro hx; clear_value x)]) | clear_value x)
      | refine kept_eq (by assumption) ?_ | refine kept_eq3 (by assumption) ?_ | refine kept_eq4 (by assumption) ?_
      | simp only [kept_update] | split | dsimp only
theorem phaseA_kept (s : State) (hk : Kept q s) :
    Kept q (phaseA s) := by
  unfold phaseA
  repeat'
    first
      | (with_reducible first
          | intro _ | assumption | apply measApplyAll_kept | apply moveBack_kept | apply takeCommit_kept
          | apply mbxPhaseA_kept | apply castleSwap_kept | apply pwrBoundary_kept | apply updBoundary_kept
          | apply dmaBoundary_kept | apply kwBoundary_kept | apply enginesBegin_kept | apply phaseBlocks_kept
          | apply kept_foldl | apply kept_ite | apply kept_foldl2 | apply kept_ite2 | apply kept_ite3
          | apply kept_ite4)
      | (extract_lets +onlyGivenNames x; first | (refine kept_cut (q := q) (x := x) ?_ ?_ <;> [(unfold x; clear x); (intro hx; clear_value x)]) | (refine kept_cut3 (q := q) (x := x) ?_ ?_ <;> [(unfold x; clear x); (intro hx; clear_value x)]) | (refine kept_cut2 (q := q) (x := x) ?_ ?_ <;> [(unfold x; clear x); (intro hx; clear_value x)]) | clear_value x)
      | split | dsimp only
theorem recordPromo_kept (n : Nat) (s : State) (hk : Kept q s) :
    Kept q (recordPromo n s) := by
  unfold recordPromo
  repeat'
    first
      | (with_reducible first
          | intro _ | assumption | apply laneRecord_kept) | simp only [kept_update] | split
theorem placeRecord_kept (i : Input) (s : State) (hk : Kept q s) :
    Kept q (placeRecord i s) := by
  unfold placeRecord
  repeat'
    first
      | (with_reducible first
          | intro _ | assumption | apply State.setSrams_kept)
      | (extract_lets +onlyGivenNames x; first | (refine kept_cut (q := q) (x := x) ?_ ?_ <;> [(unfold x; clear x); (intro hx; clear_value x)]) | clear_value x)
      | simp only [kept_update]
theorem startPly_kept (s : State) (hk : Kept q s) :
    Kept q (startPly s) := by
  unfold startPly
  repeat'
    first
      | (with_reducible first
          | intro _ | assumption | apply phaseBlocks_kept | apply phaseA_kept | apply recordPromo_kept
          | apply placeRecord_kept | apply kept_ite)
      | (extract_lets +onlyGivenNames x; first | (refine kept_cut (q := q) (x := x) ?_ ?_ <;> [(unfold x; clear x); (intro hx; clear_value x)]) | clear_value x)
      | simp only [kept_update] | split
theorem boundaryStep_kept (s : State) (hk : Kept q s) :
    Kept q (boundaryStep s) := by
  unfold boundaryStep
  repeat'
    first
      | (with_reducible first
          | intro _ | assumption | apply closeWindow_kept | apply startPly_kept | apply kept_ite)
      | (extract_lets +onlyGivenNames x; first | (refine kept_cut (q := q) (x := x) ?_ ?_ <;> [(unfold x; clear x); (intro hx; clear_value x)]) | clear_value x)
      | simp only [kept_update] | split
theorem pairDegraded_kept (n : Nat) (gone : Bool) (old new : Word) (s : State) (hk : Kept q s) :
    Kept q (pairDegraded n gone old new s) := by
  unfold pairDegraded
  repeat'
    first
      | (with_reducible first
          | intro _ | assumption | apply laneRecord_kept | apply kept_ite)
      | (extract_lets +onlyGivenNames x; first | (refine kept_cut (q := q) (x := x) ?_ ?_ <;> [(unfold x; clear x); (intro hx; clear_value x)]) | clear_value x)
      | split
theorem pairAlarm_kept (n : Nat) (s : State) (hk : Kept q s) :
    Kept q (pairAlarm n s) := by
  unfold pairAlarm
  repeat'
    first
      | (with_reducible first
          | intro _ | assumption | apply kept_ite)
      | (extract_lets +onlyGivenNames x; first | (refine kept_cut (q := q) (x := x) ?_ ?_ <;> [(unfold x; clear x); (intro hx; clear_value x)]) | clear_value x)
      | simp only [kept_update] | split
theorem pairAlarmsOf_kept (n : Nat) (s : State) (hk : Kept q s) :
    Kept q (pairAlarmsOf n s) := by
  unfold pairAlarmsOf
  repeat'
    first
      | (with_reducible first
          | intro _ | assumption | apply pairAlarm_kept) | split
theorem takeEntry_kept (t : Nat) (s : State) (e : Entry) (hk : Kept q s) :
    Kept q (takeEntry t s e) := by
  unfold takeEntry
  repeat'
    first
      | (with_reducible first
          | intro _ | assumption | apply State.modLife_kept | apply State.setCopies_kept
          | apply State.setReported_kept | apply laneRecords_kept | apply sigBegin_kept | apply sigLeft_kept
          | apply pairDegraded_kept | apply pairAlarmsOf_kept | apply kept_ite)
      | (extract_lets +onlyGivenNames x; first | (refine kept_cut (q := q) (x := x) ?_ ?_ <;> [(unfold x; clear x); (intro hx; clear_value x)]) | clear_value x)
      | split
theorem takeRestoreRequest_kept (t : Nat) (s : State) (hk : Kept q s) :
    Kept q (takeRestoreRequest t s) := by
  unfold takeRestoreRequest
  repeat'
    first
      | (with_reducible first
          | intro _ | assumption | apply sigLeft_kept | apply emit_kept | apply pairDegraded_kept | apply kept_foldl)
      | (extract_lets +onlyGivenNames x; first | (refine kept_cut (q := q) (x := x) ?_ ?_ <;> [(unfold x; clear x); (intro hx; clear_value x)]) | clear_value x)
theorem takeInput_kept (s : State) (i : Input) (hk : Kept q s) :
    Kept q (takeInput s i) := by
  unfold takeInput
  repeat'
    first
      | (with_reducible first
          | intro _ | assumption | apply State.setCopies_kept | apply State.setReported_kept | apply laneRecord_kept
          | apply laneRecords_kept | apply takeFrame_kept | apply castleRequest_kept | apply diverge_kept
          | apply wakeInput_kept | apply updErased_kept | apply updVerified_kept | apply updReady_kept
          | apply linkEvent_kept | apply runBlock_kept | apply placeRecord_kept | apply takeEntry_kept
          | apply takeRestoreRequest_kept | apply powerFail_kept | apply kept_foldl | apply kept_ite
          | apply kept_foldl2 | apply kept_ite2 | apply kept_ite3 | apply kept_ite4)
      | (extract_lets +onlyGivenNames x; first | (refine kept_cut (q := q) (x := x) ?_ ?_ <;> [(unfold x; clear x); (intro hx; clear_value x)]) | (refine kept_cut3 (q := q) (x := x) ?_ ?_ <;> [(unfold x; clear x); (intro hx; clear_value x)]) | (refine kept_cut2 (q := q) (x := x) ?_ ?_ <;> [(unfold x; clear x); (intro hx; clear_value x)]) | clear_value x)
      | refine kept_eq (by assumption) ?_ | refine kept_eq3 (by assumption) ?_ | refine kept_eq4 (by assumption) ?_
      | simp only [kept_update] | split | dsimp only
theorem settleAgreed_kept (s : State) (hk : Kept q s) :
    Kept q (settleAgreed s) := by
  unfold settleAgreed
  repeat'
    first
      | (with_reducible first
          | intro _ | assumption | apply kept_ite) | simp only [kept_update] | split
theorem startCores_kept (s : State) (hk : Kept q s) :
    Kept q (startCores s) := by
  unfold startCores
  repeat'
    first
      | (with_reducible first
          | intro _ | assumption | apply coresBegin_kept | apply kept_ite) | split
theorem phaseBStep_kept (s : State) (hk : Kept q s) :
    Kept q (phaseBStep s) := by
  unfold phaseBStep
  repeat'
    first
      | (with_reducible first
          | intro _ | assumption | apply updPhaseB_kept | apply hostStep_kept | apply takeInput_kept
          | apply settleAgreed_kept | apply startCores_kept | apply kept_foldl | apply kept_ite)
      | (extract_lets +onlyGivenNames x; first | (refine kept_cut (q := q) (x := x) ?_ ?_ <;> [(unfold x; clear x); (intro hx; clear_value x)]) | clear_value x)
      | simp only [kept_update] | split
theorem sendAll_kept (l : Option Lane) (failed : Option Nat) (es : List Emitted) (s : State) (hk : Kept q s) :
    Kept q (sendAll l failed es s) := by
  unfold sendAll
  repeat'
    first
      | (with_reducible first
          | intro _ | assumption | apply commandStep_kept | apply kept_foldl | apply kept_ite) | split
theorem emitPly_kept (failed : Option Nat) (s : State) (hk : Kept q s) : Kept q (emitPly failed s) := by
  unfold emitPly
  extract_lets cmds parks room cut s1 L s2 P s3 r e
  have h1 : Kept q s1 := kept_ite hk (laneRecord_kept _ _ hk)
  have h2 : Kept q s2 := by
    unfold s2
    clear_value s1
    exact kept_ite (by unfold L; simp only [kept_update]; exact h1) h1
  clear_value s2
  have h3 : Kept q s3 := by unfold s3 P; simp only [kept_update]; exact h2
  have hr : Kept q r.2 := by
    unfold r; clear_value s3
    exact kept_foldl2 (fun r a h => State.modTgt_kept _ _ _ h) h3
  clear_value r
  exact sendAll_kept _ _ _ _ (kept_put hr hr.2.2.1 (log_drop _ _))
theorem linkOutcome_kept (failed : Option Nat) (s : State) (hk : Kept q s) :
    Kept q (linkOutcome failed s) := by
  unfold linkOutcome
  repeat'
    first
      | (with_reducible first
          | intro _ | assumption) | simp only [kept_update] | split
theorem linkWithdraw_kept (s : State) (hk : Kept q s) :
    Kept q (linkWithdraw s) := by
  unfold linkWithdraw
  repeat'
    first
      | (with_reducible first
          | intro _ | assumption | apply withdrawLane_kept | apply kept_ite)
      | (extract_lets +onlyGivenNames x; first | (refine kept_cut (q := q) (x := x) ?_ ?_ <;> [(unfold x; clear x); (intro hx; clear_value x)]) | clear_value x)
      | simp only [kept_update] | split
theorem endPhaseB_kept (s : State) (hk : Kept q s) :
    Kept q (endPhaseB s).2 := by
  unfold endPhaseB
  repeat'
    first
      | (with_reducible first
          | intro _ | assumption | apply dropHostLocks_kept | apply dmaFinishAll_kept | apply copyRecords_kept
          | apply hostResume_kept | apply startCores_kept | apply kept_ite | apply kept_ite2 | apply kept_ite3
          | apply kept_ite4)
      | (extract_lets +onlyGivenNames x; first | (refine kept_cut (q := q) (x := x) ?_ ?_ <;> [(unfold x; clear x); (intro hx; clear_value x)]) | (refine kept_cut3 (q := q) (x := x) ?_ ?_ <;> [(unfold x; clear x); (intro hx; clear_value x)]) | (refine kept_cut2 (q := q) (x := x) ?_ ?_ <;> [(unfold x; clear x); (intro hx; clear_value x)]) | clear_value x)
      | split | dsimp only
theorem phaseCStep_kept (endWhite endBlack : Nat) (failed : Option Nat) (s : State) (hk : Kept q s) :
    Kept q (phaseCStep endWhite endBlack failed s) := by
  unfold phaseCStep
  repeat'
    first
      | (with_reducible first
          | intro _ | assumption | apply State.modLane_kept | apply pwrEndB_kept | apply coresFinish_kept
          | apply emitPly_kept | apply linkOutcome_kept | apply linkWithdraw_kept | apply endPhaseB_kept
          | apply kept_ite | apply kept_ite2 | apply kept_ite3 | apply kept_ite4)
      | (extract_lets +onlyGivenNames x; first | (refine kept_cut (q := q) (x := x) ?_ ?_ <;> [(unfold x; clear x); (intro hx; clear_value x)]) | (refine kept_cut3 (q := q) (x := x) ?_ ?_ <;> [(unfold x; clear x); (intro hx; clear_value x)]) | (refine kept_cut2 (q := q) (x := x) ?_ ?_ <;> [(unfold x; clear x); (intro hx; clear_value x)]) | clear_value x)
      | simp only [kept_update] | split | dsimp only
theorem probationStep_kept (l : Lane) (same : Bool) (s : State) (hk : Kept q s) :
    Kept q (probationStep l same s) := by
  unfold probationStep
  repeat'
    first
      | (with_reducible first
          | intro _ | assumption | apply State.modLane_kept | apply enterStage_kept | apply joined_kept
          | apply updJoined_kept | apply kept_ite)
      | (extract_lets +onlyGivenNames x; first | (refine kept_cut (q := q) (x := x) ?_ ?_ <;> [(unfold x; clear x); (intro hx; clear_value x)]) | clear_value x)
      | simp only [kept_update] | split
theorem crcErrors_kept (s : State) (hk : Kept q s) :
    Kept q (crcErrors s) := by
  unfold crcErrors
  repeat'
    first
      | (with_reducible first
          | intro _ | assumption | apply State.modLane_kept | apply kept_ite)
      | (extract_lets +onlyGivenNames x; first | (refine kept_cut (q := q) (x := x) ?_ ?_ <;> [(unfold x; clear x); (intro hx; clear_value x)]) | clear_value x)
      | simp only [kept_update] | split
theorem phaseDStep_kept (diff : Option Nat) (s : State) (hk : Kept q s) :
    Kept q (phaseDStep diff s) := by
  unfold phaseDStep
  repeat'
    first
      | (with_reducible first
          | intro _ | assumption | apply updateImages_kept | apply diverge_kept | apply linkWithdraw_kept
          | apply probationStep_kept | apply crcErrors_kept | apply kept_ite)
      | (extract_lets +onlyGivenNames x; first | (refine kept_cut (q := q) (x := x) ?_ ?_ <;> [(unfold x; clear x); (intro hx; clear_value x)]) | clear_value x)
      | simp only [kept_update] | split | with_reducible exact ring_drop _ | with_reducible exact log_drop _ _
      | with_reducible refine kept_ring (q := q) ?_ | with_reducible refine kept_log (q := q) ?_
      | with_reducible refine kept_ring_filter (q := q) _ ?_ | with_reducible refine kept_log_map (q := q) _ ?_
      | with_reducible exact nil_le _ | with_reducible apply kept_put
theorem cutOver_kept (s : State) (hk : Kept q s) :
    Kept q (cutOver s) := by
  unfold cutOver
  repeat'
    first
      | (with_reducible first
          | intro _ | assumption | apply State.modLane_kept | apply enterStage_kept | apply kept_ite)
      | (extract_lets +onlyGivenNames x; first | (refine kept_cut (q := q) (x := x) ?_ ?_ <;> [(unfold x; clear x); (intro hx; clear_value x)]) | clear_value x)
      | simp only [kept_update] | split
theorem commandedReset_kept (s : State) (hk : Kept q s) :
    Kept q (commandedReset s) := by
  unfold commandedReset
  repeat'
    first
      | (with_reducible first
          | intro _ | assumption | apply laneReset_kept | apply withdrawLane_kept | apply kept_foldl | apply kept_ite)
      | simp only [kept_update] | split
theorem closeLog_kept (n first : Nat) (made : List Frame) (live : Bool) (s : State) (hk : Kept q s) : Kept q (closeLog n first made live s) :=
  kept_put hk hk.2.2.1 (log_last _)
theorem phaseEStep_kept (fits : Bool) (s : State) (hk : Kept q s) :
    Kept q (phaseEStep fits s) := by
  unfold phaseEStep
  dsimp only
  repeat'
    first
      | (with_reducible first
          | intro _ | assumption | apply captureNumber_kept | apply showWrites_kept | apply releaseReplies_kept
          | apply giveOwed_kept | apply commitRecords_kept | apply startPly_kept | apply cutOver_kept
          | apply commandedReset_kept | apply closeLog_kept | apply kept_ite)
      | (extract_lets +onlyGivenNames x; first | (refine kept_cut (q := q) (x := x) ?_ ?_ <;> [(unfold x; clear x); (intro hx; clear_value x)]) | clear_value x)
      | simp only [kept_update] | split | with_reducible exact ring_drop _ | with_reducible exact log_drop _ _
      | with_reducible refine kept_ring (q := q) ?_ | with_reducible refine kept_log (q := q) ?_
      | with_reducible refine kept_ring_filter (q := q) _ ?_ | with_reducible refine kept_log_map (q := q) _ ?_
      | with_reducible exact nil_le _ | with_reducible apply kept_put
theorem renumberOne_kept (s : State) (i : Input) (hk : Kept q s) :
    Kept q (renumberOne s i) := by
  unfold renumberOne
  repeat'
    first
      | (with_reducible first
          | intro _ | assumption | apply numberMarker_kept | apply numberHeldOne_kept | apply numberHeld_kept
          | apply spillRecord_kept | apply kept_ite) | split
theorem renumber_kept (s : State) (hk : Kept q s) :
    Kept q (renumber s) := by
  unfold renumber
  repeat'
    first
      | (with_reducible first
          | intro _ | assumption | apply renumberOne_kept | apply kept_foldl | apply kept_ite)
      | (extract_lets +onlyGivenNames x; first | (refine kept_cut (q := q) (x := x) ?_ ?_ <;> [(unfold x; clear x); (intro hx; clear_value x)]) | clear_value x)
      | simp only [kept_update] | split
theorem renumberRecords_kept (was : List Rec) (s : State) (hk : Kept q s) :
    Kept q (renumberRecords was s) := by
  unfold renumberRecords
  repeat'
    first
      | (with_reducible first
          | intro _ | assumption | apply commitOne_kept | apply commitRecords_kept | apply kept_foldl
          | apply kept_ite)
      | (extract_lets +onlyGivenNames x; first | (refine kept_cut (q := q) (x := x) ?_ ?_ <;> [(unfold x; clear x); (intro hx; clear_value x)]) | clear_value x)
      | split
theorem emitAgain_kept (l : Lane) (plies : List PlyLog) (s : State) (hk : Kept q s) :
    Kept q (emitAgain l plies s) := by
  unfold emitAgain
  repeat'
    first
      | (with_reducible first
          | intro _ | assumption | apply acceptClaim_kept | apply commandStep_kept | apply kept_foldl)
      | (extract_lets +onlyGivenNames x; first | (refine kept_cut (q := q) (x := x) ?_ ?_ <;> [(unfold x; clear x); (intro hx; clear_value x)]) | clear_value x)
      | split
theorem replayFrames_kept (l : Lane) (plies : List PlyLog) (queue : List Frame) (s : State) (hk : Kept q s) :
    Kept q (replayFrames l plies queue s) := by
  unfold replayFrames
  repeat'
    first
      | (with_reducible first
          | intro _ | assumption | apply State.modLane_kept)
      | (extract_lets +onlyGivenNames x; first | (refine kept_cut (q := q) (x := x) ?_ ?_ <;> [(unfold x; clear x); (intro hx; clear_value x)]) | clear_value x)
      | simp only [kept_update]
theorem promoRecord_kept (f : Lane) (code : Nat) (ply : Option Nat) (s : State) (hk : Kept q s) :
    Kept q (promoRecord f code ply s) := by
  unfold promoRecord
  repeat'
    first
      | (with_reducible first
          | intro _ | assumption | apply recordPromo_kept | apply kept_ite) | simp only [kept_update] | split
theorem promote_kept (l f : Lane) (code : Nat) (s : State) (hk : Kept q s) : Kept q (promote l f code s) := by
  unfold promote
  extract_lets queue s1 L s2 s3 lost s4 s5 plies s6 s7
  have h1 : Kept q s1 := State.modLane_kept _ _ _ (State.modLane_kept _ _ _ hk)
  have h2 : Kept q s2 := h1
  have h3 : Kept q s3 := cancelCastle_kept _ h2
  clear_value s3
  have h4 : Kept q s4 := ⟨h3.1, h3.2.1, kept_ring_filter _ h3, h3.2.2.2⟩
  clear_value s4
  have h5 : Kept q s5 := renumberRecords_kept _ _ (renumber_kept _ h4)
  clear_value s5
  have h6 : Kept q s6 := replayFrames_kept _ _ _ _ (emitAgain_kept _ _ _ h5)
  clear_value s6
  have h7 : Kept q s7 := promoRecord_kept _ _ _ _ h6
  clear_value s7
  exact startPly_kept _ ⟨h7.1, h7.2.1, h7.2.2.1, kept_log_map _ h7⟩
theorem joinAlone_kept (l : Lane) (s : State) (hk : Kept q s) :
    Kept q (joinAlone l s) := by
  unfold joinAlone
  repeat'
    first
      | (with_reducible first
          | intro _ | assumption | apply State.modLane_kept | apply cutOver_kept | apply kept_ite)
      | (extract_lets +onlyGivenNames x; first | (refine kept_cut (q := q) (x := x) ?_ ?_ <;> [(unfold x; clear x); (intro hx; clear_value x)]) | clear_value x)
      | simp only [kept_update] | split
theorem onSilence_kept (code : Nat) (s : State) (hk : Kept q s) :
    Kept q (onSilence code s) := by
  unfold onSilence
  repeat'
    first
      | (with_reducible first
          | intro _ | assumption | apply promote_kept | apply joinAlone_kept) | split
theorem withdrawReceived_kept (cause : WithdrawCause) (s : State) (hk : Kept q s) :
    Kept q (withdrawReceived cause s) := by
  unfold withdrawReceived
  repeat'
    first
      | (with_reducible first
          | intro _ | assumption | apply withdrawLane_kept | apply onSilence_kept)
      | (extract_lets +onlyGivenNames x; first | (refine kept_cut (q := q) (x := x) ?_ ?_ <;> [(unfold x; clear x); (intro hx; clear_value x)]) | clear_value x)
      | split
theorem markerTimeout_kept (s : State) (hk : Kept q s) :
    Kept q (markerTimeout s) := by
  unfold markerTimeout
  repeat'
    first
      | (with_reducible first
          | intro _ | assumption | apply onSilence_kept | apply kept_ite)
      | (extract_lets +onlyGivenNames x; first | (refine kept_cut (q := q) (x := x) ?_ ?_ <;> [(unfold x; clear x); (intro hx; clear_value x)]) | clear_value x)
      | simp only [kept_update] | split
theorem execPlyBoundary_kept (s : State) (hk : Kept q s) :
    KeptO q (execPlyBoundary s) := by
  unfold execPlyBoundary
  repeat'
    first
      | (with_reducible first
          | intro _ | assumption | apply boundaryStep_kept | apply keptO_next)
theorem execInputPresented_kept (src : BitVec 8) (at_ : Nat) (payload : List Word) (s : State) (hk : Kept q s) :
    KeptO q (execInputPresented src at_ payload s) := by
  unfold execInputPresented
  repeat'
    first
      | (with_reducible first
          | intro _ | assumption | apply present_kept | apply kept_ite | apply keptO_ite | apply keptO_next)
      | simp only [kept_update] | split
theorem assignmentStep_kept (n : Nat) (s : State) (hk : Kept q s) :
    Kept q (assignmentStep n s) := by
  unfold assignmentStep
  repeat'
    first
      | (with_reducible first
          | intro _ | assumption | apply kept_ite)
      | (extract_lets +onlyGivenNames x; first | (refine kept_cut (q := q) (x := x) ?_ ?_ <;> [(unfold x; clear x); (intro hx; clear_value x)]) | clear_value x)
      | simp only [kept_update] | split
theorem execAssignmentReceived_kept (n : Nat) (s : State) (hk : Kept q s) :
    KeptO q (execAssignmentReceived n s) := by
  unfold execAssignmentReceived
  repeat'
    first
      | (with_reducible first
          | intro _ | assumption | apply assignmentStep_kept | apply keptO_next)
theorem execPhaseBStart_kept (s : State) (hk : Kept q s) :
    KeptO q (execPhaseBStart s) := by
  unfold execPhaseBStart
  repeat'
    first
      | (with_reducible first
          | intro _ | assumption | apply phaseBStep_kept | apply keptO_next)
theorem execPhaseCEmit_kept (endWhite endBlack : Nat) (failed : Option (Fin 45)) (s : State) (hk : Kept q s) :
    KeptO q (execPhaseCEmit endWhite endBlack failed s) := by
  unfold execPhaseCEmit
  repeat'
    first
      | (with_reducible first
          | intro _ | assumption | apply phaseCStep_kept | apply keptO_next)
theorem execPhaseDDigest_kept (diff : Option (Fin 4)) (s : State) (hk : Kept q s) :
    KeptO q (execPhaseDDigest diff s) := by
  unfold execPhaseDDigest
  repeat'
    first
      | (with_reducible first
          | intro _ | assumption | apply phaseDStep_kept | apply keptO_next)
theorem execPhaseECommit_kept (fits : Bool) (s : State) (hk : Kept q s) :
    KeptO q (execPhaseECommit fits s) := by
  unfold execPhaseECommit
  repeat'
    first
      | (with_reducible first
          | intro _ | assumption | apply phaseEStep_kept | apply keptO_next)
theorem execWithdrawReceived_kept (cause : WithdrawCause) (s : State) (hk : Kept q s) :
    KeptO q (execWithdrawReceived cause s) := by
  unfold execWithdrawReceived
  repeat'
    first
      | (with_reducible first
          | intro _ | assumption | apply withdrawReceived_kept | apply keptO_next)
theorem execMarkerTimeout_kept (s : State) (hk : Kept q s) :
    KeptO q (execMarkerTimeout s) := by
  unfold execMarkerTimeout
  repeat'
    first
      | (with_reducible first
          | intro _ | assumption | apply markerTimeout_kept | apply keptO_next)
/-! ### Supply -/
theorem presentSupply_kept (code : Nat) (a0 a1 : Word) (s : State) (hk : Kept q s) :
    Kept q (presentSupply code a0 a1 s) := by
  unfold presentSupply
  repeat'
    first
      | (with_reducible first
          | intro _ | assumption | apply present_kept)
theorem modVlog_kept (f : Feed) (g : VlogIn → VlogIn) (s : State) (hk : Kept q s) :
    Kept q (modVlog f g s) := by
  unfold modVlog
  repeat'
    first
      | (with_reducible first
          | intro _ | assumption) | simp only [kept_update] | split
theorem modVpwr_kept (f : Feed) (g : VpwrIn → VpwrIn) (s : State) (hk : Kept q s) :
    Kept q (modVpwr f g s) := by
  unfold modVpwr
  repeat'
    first
      | (with_reducible first
          | intro _ | assumption) | simp only [kept_update] | split
theorem vlogLost_kept (f : Feed) (sample : Word) (s : State) (hk : Kept q s) :
    Kept q (vlogLost f sample s) := by
  unfold vlogLost
  repeat'
    first
      | (with_reducible first
          | intro _ | assumption | apply presentSupply_kept | apply modVlog_kept)
theorem vlogBack_kept (f : Feed) (sample : Word) (red : Bool) (s : State) (hk : Kept q s) :
    Kept q (vlogBack f sample red s) := by
  unfold vlogBack
  repeat'
    first
      | (with_reducible first
          | intro _ | assumption | apply presentSupply_kept | apply modVlog_kept)
theorem reducedOn_kept (a b : Bool) (sample : Word) (s : State) (hk : Kept q s) :
    Kept q (reducedOn a b sample s) := by
  unfold reducedOn
  repeat'
    first
      | (with_reducible first
          | intro _ | assumption | apply presentSupply_kept | apply modVlog_kept | apply kept_ite)
      | (extract_lets +onlyGivenNames x; first | (refine kept_cut (q := q) (x := x) ?_ ?_ <;> [(unfold x; clear x); (intro hx; clear_value x)]) | clear_value x)
      | simp only [kept_update] | split
theorem reducedOff_kept (f : Feed) (sample : Word) (s : State) (hk : Kept q s) :
    Kept q (reducedOff f sample s) := by
  unfold reducedOff
  repeat'
    first
      | (with_reducible first
          | intro _ | assumption | apply presentSupply_kept | apply modVlog_kept | apply kept_ite)
      | (extract_lets +onlyGivenNames x; first | (refine kept_cut (q := q) (x := x) ?_ ?_ <;> [(unfold x; clear x); (intro hx; clear_value x)]) | clear_value x)
      | simp only [kept_update] | split
theorem vpwrLow_kept (f : Feed) (sample : Word) (s : State) (hk : Kept q s) :
    Kept q (vpwrLow f sample s) := by
  unfold vpwrLow
  repeat'
    first
      | (with_reducible first
          | intro _ | assumption | apply presentSupply_kept | apply modVpwr_kept) | simp only [kept_update]
theorem vpwrMissing_kept (f : Feed) (sample : Word) (s : State) (hk : Kept q s) :
    Kept q (vpwrMissing f sample s) := by
  unfold vpwrMissing
  repeat'
    first
      | (with_reducible first
          | intro _ | assumption | apply reportCh_kept | apply lgtFeedLost_kept | apply presentSupply_kept
          | apply modVpwr_kept | apply kept_foldl)
      | (extract_lets +onlyGivenNames x; first | (refine kept_cut (q := q) (x := x) ?_ ?_ <;> [(unfold x; clear x); (intro hx; clear_value x)]) | clear_value x)
theorem feedWindow_kept (n : Nat) (s : State) (hk : Kept q s) :
    Kept q (feedWindow n s) := by
  unfold feedWindow
  repeat'
    first
      | (with_reducible first
          | intro _ | assumption | apply State.modChan_kept | apply kept_ite)
      | (extract_lets +onlyGivenNames x; first | (refine kept_cut (q := q) (x := x) ?_ ?_ <;> [(unfold x; clear x); (intro hx; clear_value x)]) | clear_value x)
      | simp only [kept_update] | split
theorem feedReturns_kept (f : Feed) (was : Bool) (s : State) (hk : Kept q s) :
    Kept q (feedReturns f was s) := by
  unfold feedReturns
  repeat'
    first
      | (with_reducible first
          | intro _ | assumption | apply raiseWake_kept | apply reportCh_kept | apply lgtFeedBack_kept
          | apply feedWindow_kept | apply kept_foldl | apply kept_ite)
      | (extract_lets +onlyGivenNames x; first | (refine kept_cut (q := q) (x := x) ?_ ?_ <;> [(unfold x; clear x); (intro hx; clear_value x)]) | clear_value x)
      | split
theorem vpwrOk_kept (f : Feed) (sample : Word) (low : Bool) (s : State) (hk : Kept q s) :
    Kept q (vpwrOk f sample low s) := by
  unfold vpwrOk
  repeat'
    first
      | (with_reducible first
          | intro _ | assumption | apply presentSupply_kept | apply modVpwr_kept | apply feedReturns_kept
          | apply kept_ite)
      | (extract_lets +onlyGivenNames x; first | (refine kept_cut (q := q) (x := x) ?_ ?_ <;> [(unfold x; clear x); (intro hx; clear_value x)]) | clear_value x)
      | split
theorem failCause_kept (s : State) (hk : Kept q s) :
    Kept q (failCause s).2 := by
  unfold failCause
  repeat'
    first
      | (with_reducible first
          | intro _ | assumption) | simp only [kept_update] | dsimp only
theorem failChan_kept (s : State) (n : Nat) (hk : Kept q s) :
    Kept q (failChan s n) := by
  unfold failChan
  repeat'
    first
      | (with_reducible first
          | intro _ | assumption | apply State.modChan_kept | apply reportCh_kept | apply failCause_kept
          | apply kept_ite | apply kept_ite2 | apply kept_ite3 | apply kept_ite4)
      | (extract_lets +onlyGivenNames x; first | (refine kept_cut (q := q) (x := x) ?_ ?_ <;> [(unfold x; clear x); (intro hx; clear_value x)]) | (refine kept_cut3 (q := q) (x := x) ?_ ?_ <;> [(unfold x; clear x); (intro hx; clear_value x)]) | (refine kept_cut2 (q := q) (x := x) ?_ ?_ <;> [(unfold x; clear x); (intro hx; clear_value x)]) | clear_value x)
      | simp only [kept_update] | split | dsimp only
theorem failDo_kept (s : State) (o : Nat) (hk : Kept q s) :
    Kept q (failDo s o) := by
  unfold failDo
  repeat'
    first
      | (with_reducible first
          | intro _ | assumption | apply changeDo_kept | apply failCause_kept | apply kept_ite | apply kept_ite2
          | apply kept_ite3 | apply kept_ite4)
      | (extract_lets +onlyGivenNames x; first | (refine kept_cut (q := q) (x := x) ?_ ?_ <;> [(unfold x; clear x); (intro hx; clear_value x)]) | (refine kept_cut3 (q := q) (x := x) ?_ ?_ <;> [(unfold x; clear x); (intro hx; clear_value x)]) | (refine kept_cut2 (q := q) (x := x) ?_ ?_ <;> [(unfold x; clear x); (intro hx; clear_value x)]) | clear_value x)
      | simp only [kept_update] | split | dsimp only
theorem failStr_kept (s : State) (x : Nat) (hk : Kept q s) :
    Kept q (failStr s x) := by
  unfold failStr
  repeat'
    first
      | (with_reducible first
          | intro _ | assumption | apply State.modStr_kept | apply changeStr_kept | apply failCause_kept
          | apply kept_ite | apply kept_ite2 | apply kept_ite3 | apply kept_ite4)
      | (extract_lets +onlyGivenNames x; first | (refine kept_cut (q := q) (x := x) ?_ ?_ <;> [(unfold x; clear x); (intro hx; clear_value x)]) | (refine kept_cut3 (q := q) (x := x) ?_ ?_ <;> [(unfold x; clear x); (intro hx; clear_value x)]) | (refine kept_cut2 (q := q) (x := x) ?_ ?_ <;> [(unfold x; clear x); (intro hx; clear_value x)]) | clear_value x)
      | simp only [kept_update] | split | dsimp only
theorem failMx_kept (s : State) (m : Nat) (hk : Kept q s) :
    Kept q (failMx s m) := by
  unfold failMx
  repeat'
    first
      | (with_reducible first
          | intro _ | assumption | apply State.modMx_kept | apply changeMx_kept | apply failCause_kept
          | apply kept_ite | apply kept_ite2 | apply kept_ite3 | apply kept_ite4)
      | (extract_lets +onlyGivenNames x; first | (refine kept_cut (q := q) (x := x) ?_ ?_ <;> [(unfold x; clear x); (intro hx; clear_value x)]) | (refine kept_cut3 (q := q) (x := x) ?_ ?_ <;> [(unfold x; clear x); (intro hx; clear_value x)]) | (refine kept_cut2 (q := q) (x := x) ?_ ?_ <;> [(unfold x; clear x); (intro hx; clear_value x)]) | clear_value x)
      | simp only [kept_update] | split | dsimp only
theorem loadsFail_kept (s : State) (hk : Kept q s) :
    Kept q (loadsFail s) := by
  unfold loadsFail
  repeat'
    first
      | (with_reducible first
          | intro _ | assumption | apply denStopNow_kept | apply failChan_kept | apply failDo_kept
          | apply failStr_kept | apply failMx_kept | apply kept_foldl)
      | (extract_lets +onlyGivenNames x; first | (refine kept_cut (q := q) (x := x) ?_ ?_ <;> [(unfold x; clear x); (intro hx; clear_value x)]) | clear_value x)
theorem powerFail_kept (a b : Word) (s : State) (hk : Kept q s) :
    Kept q (powerFail a b s) := by
  unfold powerFail
  repeat'
    first
      | (with_reducible first
          | intro _ | assumption | apply State.mapLanes_kept | apply present_kept | apply loadsFail_kept
          | apply kept_ite)
      | (extract_lets +onlyGivenNames x; first | (refine kept_cut (q := q) (x := x) ?_ ?_ <;> [(unfold x; clear x); (intro hx; clear_value x)]) | clear_value x)
      | simp only [kept_update] | split
theorem railsDown_kept (s : State) (hk : Kept q s) :
    Kept q (railsDown s) := by
  unfold railsDown
  repeat'
    first
      | (with_reducible first
          | intro _ | assumption | apply State.mapLanes_kept) | simp only [kept_update]
theorem holdUpEnd_kept (s : State) (hk : Kept q s) :
    Kept q (holdUpEnd s) := by
  unfold holdUpEnd
  repeat'
    first
      | (with_reducible first
          | intro _ | assumption | apply moduleReset_kept | apply powerFail_kept | apply railsDown_kept
          | apply kept_ite)
      | (extract_lets +onlyGivenNames x; first | (refine kept_cut (q := q) (x := x) ?_ ?_ <;> [(unfold x; clear x); (intro hx; clear_value x)]) | clear_value x)
      | simp only [kept_update] | split
theorem laneRail_kept (l : Lane) (r : Rail) (s : State) (hk : Kept q s) :
    Kept q (laneRail l r s) := by
  unfold laneRail
  repeat'
    first
      | (with_reducible first
          | intro _ | assumption | apply State.modLane_kept | apply laneReset_kept)
theorem aoBrownout_kept (s : State) (hk : Kept q s) :
    Kept q (aoBrownout s) := by
  unfold aoBrownout
  repeat'
    first
      | (with_reducible first
          | intro _ | assumption | apply State.mapLanes_kept | apply moduleReset_kept | apply powerFail_kept
          | apply railsDown_kept | apply kept_ite)
      | (extract_lets +onlyGivenNames x; first | (refine kept_cut (q := q) (x := x) ?_ ?_ <;> [(unfold x; clear x); (intro hx; clear_value x)]) | clear_value x)
      | simp only [kept_update] | split
theorem lowPower_kept (s : State) (hk : Kept q s) :
    Kept q (lowPower s) := by
  unfold lowPower
  repeat'
    first
      | (with_reducible first
          | intro _ | assumption | apply raiseWake_kept | apply kept_ite) | simp only [kept_update] | split
theorem coldStart_kept (vlogA vlogB vpwrA vpwrB calOk : Bool) (s : State) (hk : Kept q s) :
    Kept q (coldStart vlogA vlogB vpwrA vpwrB calOk s) := by
  unfold coldStart
  repeat'
    first
      | (with_reducible first
          | intro _ | assumption | apply moduleReset_kept | apply powerFail_kept | apply kept_ite)
      | (extract_lets +onlyGivenNames x; first | (refine kept_cut (q := q) (x := x) ?_ ?_ <;> [(unfold x; clear x); (intro hx; clear_value x)]) | clear_value x)
      | simp only [kept_update] | split
theorem resetRelease_kept (l : Lane) (s : State) (hk : Kept q s) :
    Kept q (resetRelease l s) := by
  unfold resetRelease
  repeat'
    first
      | (with_reducible first
          | intro _ | assumption | apply State.modLane_kept | apply enterStage_kept | apply kept_ite)
      | (extract_lets +onlyGivenNames x; first | (refine kept_cut (q := q) (x := x) ?_ ?_ <;> [(unfold x; clear x); (intro hx; clear_value x)]) | clear_value x)
      | simp only [kept_update] | split
theorem pllLocked_kept (l : Lane) (s : State) (hk : Kept q s) :
    Kept q (pllLocked l s) := by
  unfold pllLocked
  repeat'
    first
      | (with_reducible first
          | intro _ | assumption | apply State.modLane_kept | apply present_kept | apply kept_ite)
      | (extract_lets +onlyGivenNames x; first | (refine kept_cut (q := q) (x := x) ?_ ?_ <;> [(unfold x; clear x); (intro hx; clear_value x)]) | clear_value x)
      | simp only [kept_update] | split
theorem heldOut_kept (l : Lane) (boot : Boot) (s : State) (hk : Kept q s) :
    Kept q (heldOut l boot s) := by
  unfold heldOut
  repeat'
    first
      | (with_reducible first
          | intro _ | assumption | apply State.modLane_kept | apply setStartStatus_kept) | simp only [kept_update]
theorem fallbackRecord_kept (l : Lane) (s : State) (hk : Kept q s) :
    Kept q (fallbackRecord l s) := by
  unfold fallbackRecord
  repeat'
    first
      | (with_reducible first
          | intro _ | assumption | apply present_kept)
theorem imageVerified_kept (l : Lane) (activeOk fallbackOk : Bool) (s : State) (hk : Kept q s) :
    Kept q (imageVerified l activeOk fallbackOk s) := by
  unfold imageVerified
  repeat'
    first
      | (with_reducible first
          | intro _ | assumption | apply State.modLane_kept | apply heldOut_kept | apply fallbackRecord_kept
          | apply kept_ite)
      | (extract_lets +onlyGivenNames x; first | (refine kept_cut (q := q) (x := x) ?_ ?_ <;> [(unfold x; clear x); (intro hx; clear_value x)]) | clear_value x)
      | simp only [kept_update] | split
theorem setCoreKinds_kept (i : ConfigImage) (s : State) (hk : Kept q s) :
    Kept q (setCoreKinds i s) := by
  unfold setCoreKinds
  repeat'
    first
      | (with_reducible first
          | intro _ | assumption | apply State.modCore_kept | apply loadPrograms_kept | apply kept_foldl
          | apply kept_ite)
      | (extract_lets +onlyGivenNames x; first | (refine kept_cut (q := q) (x := x) ?_ ?_ <;> [(unfold x; clear x); (intro hx; clear_value x)]) | clear_value x)
      | simp only [kept_update] | split
theorem tokenCopy_kept (s : State) (hk : Kept q s) :
    Kept q (tokenCopy s) := by
  unfold tokenCopy
  repeat'
    first
      | (with_reducible first
          | intro _ | assumption | apply State.setCopies_kept)
theorem loadConfig_kept (i : ConfigImage) (s : State) (hk : Kept q s) :
    Kept q (loadConfig i s) := by
  unfold loadConfig
  repeat'
    first
      | (with_reducible first
          | intro _ | assumption | apply configReg_kept | apply setCoreKinds_kept | apply tokenCopy_kept
          | apply kept_foldl | apply kept_ite)
      | (extract_lets +onlyGivenNames x; first | (refine kept_cut (q := q) (x := x) ?_ ?_ <;> [(unfold x; clear x); (intro hx; clear_value x)]) | clear_value x)
      | simp only [kept_update] | split
theorem applyConfig_kept (i : ConfigImage) (s : State) (hk : Kept q s) :
    Kept q (applyConfig i s) := by
  unfold applyConfig
  repeat'
    first
      | (with_reducible first
          | intro _ | assumption | apply restoreTarget_kept | apply restoreRetained_kept | apply loadConfig_kept
          | apply kept_foldl | apply kept_ite)
      | (extract_lets +onlyGivenNames x; first | (refine kept_cut (q := q) (x := x) ?_ ?_ <;> [(unfold x; clear x); (intro hx; clear_value x)]) | clear_value x)
      | split
theorem restartReady_kept (l : Lane) (s : State) (hk : Kept q s) :
    Kept q (restartReady l s) := by
  unfold restartReady
  repeat'
    first
      | (with_reducible first
          | intro _ | assumption | apply State.modLane_kept | apply laneOut_kept | apply beginJoin_kept
          | apply heldOut_kept | apply kept_ite)
      | (extract_lets +onlyGivenNames x; first | (refine kept_cut (q := q) (x := x) ?_ ?_ <;> [(unfold x; clear x); (intro hx; clear_value x)]) | clear_value x)
      | simp only [kept_update] | split
theorem configApplied_kept (l : Lane) (ok : Bool) (i : ConfigImage) (s : State) (hk : Kept q s) :
    Kept q (configApplied l ok i s) := by
  unfold configApplied
  repeat'
    first
      | (with_reducible first
          | intro _ | assumption | apply State.modLane_kept | apply heldOut_kept | apply applyConfig_kept
          | apply restartReady_kept | apply kept_ite)
      | (extract_lets +onlyGivenNames x; first | (refine kept_cut (q := q) (x := x) ?_ ?_ <;> [(unfold x; clear x); (intro hx; clear_value x)]) | clear_value x)
      | simp only [kept_update] | split
theorem reapply_kept (l : Lane) (s : State) (hk : Kept q s) :
    Kept q (reapply l s) := by
  unfold reapply
  repeat'
    first
      | (with_reducible first
          | intro _ | assumption | apply applyConfig_kept) | simp only [kept_update] | split
theorem advanceEpoch_kept (s : State) (hk : Kept q s) :
    Kept q (advanceEpoch s) := by
  unfold advanceEpoch
  repeat'
    first
      | (with_reducible first
          | intro _ | assumption | apply State.mapLanes_kept | apply kept_ite)
      | (extract_lets +onlyGivenNames x; first | (refine kept_cut (q := q) (x := x) ?_ ?_ <;> [(unfold x; clear x); (intro hx; clear_value x)]) | clear_value x)
      | simp only [kept_update] | split
theorem chooseStart_kept (l : Lane) (solo : Bool) (out : Option Lane) (s : State) (hk : Kept q s) :
    Kept q (chooseStart l solo out s) := by
  unfold chooseStart
  repeat'
    first
      | (with_reducible first
          | intro _ | assumption | apply heldOut_kept | apply advanceEpoch_kept)
      | (extract_lets +onlyGivenNames x; first | (refine kept_cut (q := q) (x := x) ?_ ?_ <;> [(unfold x; clear x); (intro hx; clear_value x)]) | clear_value x)
      | simp only [kept_update] | split
theorem lanesMeet_kept (s : State) (hk : Kept q s) :
    Kept q (lanesMeet s) := by
  unfold lanesMeet
  repeat'
    first
      | (with_reducible first
          | intro _ | assumption | apply State.mapLanes_kept | apply reapply_kept | apply chooseStart_kept
          | apply kept_ite)
      | (extract_lets +onlyGivenNames x; first | (refine kept_cut (q := q) (x := x) ?_ ?_ <;> [(unfold x; clear x); (intro hx; clear_value x)]) | clear_value x)
      | simp only [kept_update] | split
theorem soloTimeout_kept (l : Lane) (s : State) (hk : Kept q s) :
    Kept q (soloTimeout l s) := by
  unfold soloTimeout
  repeat'
    first
      | (with_reducible first
          | intro _ | assumption | apply heldOut_kept | apply chooseStart_kept | apply kept_ite)
      | (extract_lets +onlyGivenNames x; first | (refine kept_cut (q := q) (x := x) ?_ ?_ <;> [(unfold x; clear x); (intro hx; clear_value x)]) | clear_value x)
      | simp only [kept_update] | split
theorem startAnew_kept (l : Lane) (s : State) (hk : Kept q s) :
    Kept q (startAnew l s) := by
  unfold startAnew
  repeat'
    first
      | (with_reducible first
          | intro _ | assumption | apply State.modLane_kept | apply clearLaneWork_kept | apply tokenCopy_kept
          | apply loadConfig_kept | apply advanceEpoch_kept)
      | (extract_lets +onlyGivenNames x; first | (refine kept_cut (q := q) (x := x) ?_ ?_ <;> [(unfold x; clear x); (intro hx; clear_value x)]) | clear_value x)
      | simp only [kept_update] | split
theorem restoreLife_kept (l : Lane) (s : State) (hk : Kept q s) :
    Kept q (restoreLife l s) := by
  unfold restoreLife
  repeat'
    first
      | (with_reducible first
          | intro _ | assumption | apply State.mapLanes_kept | apply kept_ite)
      | (extract_lets +onlyGivenNames x; first | (refine kept_cut (q := q) (x := x) ?_ ?_ <;> [(unfold x; clear x); (intro hx; clear_value x)]) | clear_value x)
      | simp only [kept_update] | split
theorem startRecords_kept (l : Lane) (s : State) (hk : Kept q s) :
    Kept q (startRecords l s) := by
  unfold startRecords
  repeat'
    first
      | (with_reducible first
          | intro _ | assumption | apply kept_ite)
      | (extract_lets +onlyGivenNames x; first | (refine kept_cut (q := q) (x := x) ?_ ?_ <;> [(unfold x; clear x); (intro hx; clear_value x)]) | clear_value x)
      | simp only [kept_update] | split
theorem wakeInputs_kept (l : Lane) (s : State) (hk : Kept q s) :
    Kept q (wakeInputs l s) := by
  unfold wakeInputs
  repeat'
    first
      | (with_reducible first
          | intro _ | assumption | apply present_kept | apply kept_ite) | split
theorem wakeAccess_kept (s : State) (hk : Kept q s) :
    Kept q (wakeAccess s) := by
  unfold wakeAccess
  repeat'
    first
      | (with_reducible first
          | intro _ | assumption | apply pushEntry_kept | apply openSession_kept | apply presentParkRecords_kept
          | apply kept_foldl | apply kept_ite)
      | (extract_lets +onlyGivenNames x; first | (refine kept_cut (q := q) (x := x) ?_ ?_ <;> [(unfold x; clear x); (intro hx; clear_value x)]) | clear_value x)
      | simp only [kept_update] | split
theorem firstActivePly_kept (ms : Nat) (s : State) (hk : Kept q s) :
    Kept q (firstActivePly ms s) := by
  unfold firstActivePly
  repeat'
    first
      | (with_reducible first
          | intro _ | assumption | apply State.modLane_kept | apply State.setCopies_kept | apply emit_kept
          | apply setStartStatus_kept | apply closeWindow_kept | apply startPly_kept | apply restartReady_kept
          | apply startAnew_kept | apply restoreLife_kept | apply startRecords_kept | apply wakeInputs_kept
          | apply wakeAccess_kept | apply kept_ite)
      | (extract_lets +onlyGivenNames x; first | (refine kept_cut (q := q) (x := x) ?_ ?_ <;> [(unfold x; clear x); (intro hx; clear_value x)]) | clear_value x)
      | simp only [kept_update] | split | with_reducible exact ring_drop _ | with_reducible exact log_drop _ _
      | with_reducible refine kept_ring (q := q) ?_ | with_reducible refine kept_log (q := q) ?_
      | with_reducible refine kept_ring_filter (q := q) _ ?_ | with_reducible refine kept_log_map (q := q) _ ?_
      | with_reducible exact nil_le _ | with_reducible apply kept_put
theorem execVlogLost_kept (f : Feed) (sample : Word) (s : State) (hk : Kept q s) :
    KeptO q (execVlogLost f sample s) := by
  unfold execVlogLost
  repeat'
    first
      | (with_reducible first
          | intro _ | assumption | apply vlogLost_kept | apply keptO_next)
theorem execVlogBack_kept (f : Feed) (sample : Word) (red : Bool) (s : State) (hk : Kept q s) :
    KeptO q (execVlogBack f sample red s) := by
  unfold execVlogBack
  repeat'
    first
      | (with_reducible first
          | intro _ | assumption | apply vlogBack_kept | apply keptO_next)
theorem execReducedOn_kept (trip : ReducedTrip) (s : State) (hk : Kept q s) :
    KeptO q (execReducedOn trip s) := by
  unfold execReducedOn
  repeat'
    first
      | (with_reducible first
          | intro _ | assumption | apply reducedOn_kept | apply keptO_next)
theorem execReducedOff_kept (f : Feed) (sample : Word) (s : State) (hk : Kept q s) :
    KeptO q (execReducedOff f sample s) := by
  unfold execReducedOff
  repeat'
    first
      | (with_reducible first
          | intro _ | assumption | apply reducedOff_kept | apply keptO_next)
theorem execVpwrLow_kept (f : Feed) (sample : Word) (s : State) (hk : Kept q s) :
    KeptO q (execVpwrLow f sample s) := by
  unfold execVpwrLow
  repeat'
    first
      | (with_reducible first
          | intro _ | assumption | apply vpwrLow_kept | apply keptO_next)
theorem execVpwrMissing_kept (f : Feed) (sample : Word) (s : State) (hk : Kept q s) :
    KeptO q (execVpwrMissing f sample s) := by
  unfold execVpwrMissing
  repeat'
    first
      | (with_reducible first
          | intro _ | assumption | apply vpwrMissing_kept | apply keptO_next)
theorem execVpwrOk_kept (f : Feed) (back : FeedReturn) (s : State) (hk : Kept q s) :
    KeptO q (execVpwrOk f back s) := by
  unfold execVpwrOk
  repeat'
    first
      | (with_reducible first
          | intro _ | assumption | apply vpwrOk_kept | apply keptO_next)
theorem execPowerFail_kept (a b : Word) (s : State) (hk : Kept q s) :
    KeptO q (execPowerFail a b s) := by
  unfold execPowerFail
  repeat'
    first
      | (with_reducible first
          | intro _ | assumption | apply powerFail_kept | apply keptO_next)
theorem execHoldUpEnd_kept (s : State) (hk : Kept q s) :
    KeptO q (execHoldUpEnd s) := by
  unfold execHoldUpEnd
  repeat'
    first
      | (with_reducible first
          | intro _ | assumption | apply holdUpEnd_kept | apply keptO_next)
theorem execLaneRailBrownout_kept (l : Lane) (r : Rail) (s : State) (hk : Kept q s) :
    KeptO q (execLaneRailBrownout l r s) := by
  unfold execLaneRailBrownout
  repeat'
    first
      | (with_reducible first
          | intro _ | assumption | apply laneRail_kept | apply keptO_next)
theorem execFabAnaLost_kept (s : State) (hk : Kept q s) :
    KeptO q (execFabAnaLost s) := by
  unfold execFabAnaLost
  repeat'
    first
      | (with_reducible first
          | intro _ | assumption | apply keptO_next) | simp only [kept_update]
theorem execFabAnaSettled_kept (s : State) (hk : Kept q s) :
    KeptO q (execFabAnaSettled s) := by
  unfold execFabAnaSettled
  repeat'
    first
      | (with_reducible first
          | intro _ | assumption | apply keptO_next) | simp only [kept_update]
theorem tileReset_kept (t : Nat) (cause : TileCause) (s : State) (hk : Kept q s) :
    Kept q (tileReset t cause s) := by
  unfold tileReset
  repeat'
    first
      | (with_reducible first
          | intro _ | assumption | apply resetTile_kept | apply kept_ite)
      | (extract_lets +onlyGivenNames x; first | (refine kept_cut (q := q) (x := x) ?_ ?_ <;> [(unfold x; clear x); (intro hx; clear_value x)]) | clear_value x)
      | simp only [kept_update] | split
theorem execTileReset_kept (t : Fin 11) (cause : TileCause) (s : State) (hk : Kept q s) :
    KeptO q (execTileReset t cause s) := by
  unfold execTileReset
  repeat'
    first
      | (with_reducible first
          | intro _ | assumption | apply tileReset_kept | apply keptO_next)
theorem execAoRailBrownout_kept (s : State) (hk : Kept q s) :
    KeptO q (execAoRailBrownout s) := by
  unfold execAoRailBrownout
  repeat'
    first
      | (with_reducible first
          | intro _ | assumption | apply aoBrownout_kept | apply keptO_next)
theorem execLowPowerBrownout_kept (s : State) (hk : Kept q s) :
    KeptO q (execLowPowerBrownout s) := by
  unfold execLowPowerBrownout
  repeat'
    first
      | (with_reducible first
          | intro _ | assumption | apply lowPower_kept | apply keptO_next)
theorem execColdStart_kept (vlogA vlogB vpwrA vpwrB calOk : Bool) (s : State) (hk : Kept q s) :
    KeptO q (execColdStart vlogA vlogB vpwrA vpwrB calOk s) := by
  unfold execColdStart
  repeat'
    first
      | (with_reducible first
          | intro _ | assumption | apply coldStart_kept | apply keptO_next)
theorem execLaneResetRelease_kept (l : Lane) (s : State) (hk : Kept q s) :
    KeptO q (execLaneResetRelease l s) := by
  unfold execLaneResetRelease
  repeat'
    first
      | (with_reducible first
          | intro _ | assumption | apply resetRelease_kept | apply keptO_next)
theorem execPllLocked_kept (l : Lane) (s : State) (hk : Kept q s) :
    KeptO q (execPllLocked l s) := by
  unfold execPllLocked
  repeat'
    first
      | (with_reducible first
          | intro _ | assumption | apply pllLocked_kept | apply keptO_next)
theorem execImageVerified_kept (l : Lane) (activeOk fallbackOk : Bool) (s : State) (hk : Kept q s) :
    KeptO q (execImageVerified l activeOk fallbackOk s) := by
  unfold execImageVerified
  repeat'
    first
      | (with_reducible first
          | intro _ | assumption | apply imageVerified_kept | apply keptO_next)
theorem execConfigApplied_kept (l : Lane) (ok : Bool) (image : ConfigImage) (s : State) (hk : Kept q s) :
    KeptO q (execConfigApplied l ok image s) := by
  unfold execConfigApplied
  repeat'
    first
      | (with_reducible first
          | intro _ | assumption | apply configApplied_kept | apply keptO_next)
theorem execLanesMeet_kept (s : State) (hk : Kept q s) :
    KeptO q (execLanesMeet s) := by
  unfold execLanesMeet
  repeat'
    first
      | (with_reducible first
          | intro _ | assumption | apply lanesMeet_kept | apply keptO_next)
theorem execSoloTimeout_kept (l : Lane) (s : State) (hk : Kept q s) :
    KeptO q (execSoloTimeout l s) := by
  unfold execSoloTimeout
  repeat'
    first
      | (with_reducible first
          | intro _ | assumption | apply soloTimeout_kept | apply keptO_next)
theorem execFirstActivePly_kept (startMs : BitVec 8) (s : State) (hk : Kept q s) :
    KeptO q (execFirstActivePly startMs s) := by
  unfold execFirstActivePly
  repeat'
    first
      | (with_reducible first
          | intro _ | assumption | apply firstActivePly_kept | apply keptO_next)
theorem execEpochEndReset_kept (s : State) (hk : Kept q s) :
    KeptO q (execEpochEndReset s) := by
  unfold execEpochEndReset
  repeat'
    first
      | (with_reducible first
          | intro _ | assumption | apply moduleReset_kept | apply kept_ite | apply keptO_ite | apply keptO_next)
      | split
theorem execDbgEnDeactivation_kept (s : State) (hk : Kept q s) :
    KeptO q (execDbgEnDeactivation s) := by
  unfold execDbgEnDeactivation
  repeat'
    first
      | (with_reducible first
          | intro _ | assumption | apply abandonLocks_kept | apply keptO_next) | simp only [kept_update]

end Sys2Proof.Machine
end

