-- ==== Sys2Proof/Laws/Ops.lean ====
section
/-! SUPPORT. What the shared operations of the tiles and units can do: a report, a change of a parallel group, a refusal, a
record of the lanes. -/

namespace Sys2Proof.Machine

open Sys2Proof

/-! ### Records of the lanes -/

theorem laneRecord_eq (r : RecDraft) (s : State) :
    laneRecord r s = { s with ply := { s.ply with recs := s.ply.recs ++ [(r, s.ply.at_)] } } := rfl

/-! ### Inputs (R81 to R85) -/

/-- An input presented while the sequencer numbers is numbered at once, and nothing but the sequencer changes. -/
theorem present_numbered (src : Nat) (payload : List Word) (act : Act) (s : State) (h : Numbering s) :
    Presented src payload act s (present src payload act s) ∧
    present src payload act s = { s with seq := (present src payload act s).seq } := by
  obtain ⟨h1, h2, h3, h4, h5, h6⟩ := h
  have ha : (activeLane (countSource src s)).isNone = false := by
    have e : activeLane (countSource src s) = activeLane s := rfl
    rw [e]
    cases hx : activeLane s
    · rw [hx] at h3; cases h3
    · rfl
  have hn : epochCarry (countSource src s) = countSource src s := by
    unfold epochCarry
    exact if_neg fun k => h5 k.1
  have he : present src payload act s = numberInput s.now ⟨0, s.now, src, payload, nextCount s src, act⟩ (countSource src s) := by
    unfold present
    dsimp only
    rw [if_pos h1, ha, show (countSource src s).seq.ended = false from h2,
      show (countSource src s).seq.used = s.seq.used from rfl, if_pos h4]
    rfl
  have hl : decide (s.seq.next + 1 = 2 ^ 60) = false := decide_eq_false (by omega)
  rw [he]
  unfold numberInput afterNumber
  rw [hn]
  refine ⟨?_, rfl⟩
  unfold Presented
  simp only [countSource, h2, hl, Bool.or_self]
  rfl

/-- An input may be numbered, be held or find no sequencer; an epoch carry may come with it. -/
theorem present_posts (src : Nat) (payload : List Word) (act : Act) (s : State) : Posts s (present src payload act s) := by
  unfold present
  dsimp only
  split
  · split
    · exact ⟨rfl, rfl, rfl⟩
    · split
      · unfold numberInput epochCarry
        dsimp only
        split
        · split
          · refine ⟨rfl, ?_, ?_⟩
            · unfold afterNumber State.mapLanes; dsimp only; split <;> rfl
            · unfold afterNumber State.mapLanes; dsimp only; split <;> rfl
          · refine ⟨rfl, ?_, ?_⟩
            · unfold afterNumber State.mapLanes; dsimp only; split <;> rfl
            · unfold afterNumber State.mapLanes; dsimp only; split <;> rfl
        · exact ⟨rfl, rfl, rfl⟩
      · exact ⟨rfl, rfl, rfl⟩
  · exact ⟨rfl, rfl, rfl⟩

/-! ### Parallel groups (R176) -/

theorem alone_leader {s : State} {n : Nat} (h : Alone s n) : leaderOf s n = n := by
  unfold leaderOf leaderIn
  exact if_neg h

theorem alone_members {s : State} {n : Nat} (h : Alone s n) : members s n = [n] := by
  unfold members
  exact if_neg h

theorem members_nodup (s : State) (n : Nat) : (members s n).Nodup := by
  unfold members
  dsimp only
  split
  · exact List.Nodup.filter _ (List.nodup_range.map fun a b h => by simpa using h)
  · simp

/-! ### Reports of a channel (R183) -/

/-- A park fault can latch a wake event, and does nothing else. -/
theorem parkFault_frame (n c : Nat) (s : State) : ∃ h, parkFault n c s = { s with pwr := { s.pwr with held := h } } := by
  unfold parkFault raiseWake
  dsimp only
  split
  · split
    · exact ⟨_, rfl⟩
    · exact ⟨_, rfl⟩
  · exact ⟨_, rfl⟩

theorem parkFault_clock (n c : Nat) (s : State) : (parkFault n c s).clock = s.clock := by
  obtain ⟨h, e⟩ := parkFault_frame n c s
  rw [e]; rfl

/-- A report of channel `n` adds one entry to its tile, and may latch a wake event. -/
theorem reportChAs_frame (n c : Nat) (w a : Word) (own pulse : Bool) (s : State) :
    ∃ h e, reportChAs n c w a own pulse s =
      ({ s with pwr := { s.pwr with held := h } } : State).setTgt (n / 16)
        { s.tgt (n / 16) with entries := (s.tgt (n / 16)).entries ++ [e] } ∧
      e.kind = 0 ∧ e.obj = n ∧ e.cause = c ∧ e.state = chWord s n ∧ e.own = own ∧ e.pulse = pulse := by
  unfold reportChAs
  obtain ⟨h, e⟩ := parkFault_frame n c s
  simp only [e, pushEntry, State.modTgt_eq]
  exact ⟨h, _, rfl, rfl, rfl, rfl, rfl, rfl, rfl⟩

theorem reportCh_frame (n c : Nat) (a : Word) (s : State) :
    ∃ h e, reportCh n c a s =
      ({ s with pwr := { s.pwr with held := h } } : State).setTgt (n / 16)
        { s.tgt (n / 16) with entries := (s.tgt (n / 16)).entries ++ [e] } ∧
      e.kind = 0 ∧ e.obj = n ∧ e.cause = c ∧ e.state = chWord s n ∧ e.own = true ∧ e.pulse = false :=
  reportChAs_frame _ _ _ _ _ _ _

@[simp] theorem reportChAs_chan (n c : Nat) (w a : Word) (o p : Bool) (s : State) (m : Nat) :
    (reportChAs n c w a o p s).chan m = s.chan m := by
  obtain ⟨h, e, q, -⟩ := reportChAs_frame n c w a o p s
  rw [q]; rfl

@[simp] theorem reportCh_chan (n c : Nat) (a : Word) (s : State) (m : Nat) : (reportCh n c a s).chan m = s.chan m :=
  reportChAs_chan _ _ _ _ _ _ _ _

@[simp] theorem reportCh_chReg (n c : Nat) (a : Word) (s : State) (m off : Nat) :
    chReg (reportCh n c a s) m off = chReg s m off := by
  obtain ⟨h, e, q, -⟩ := reportCh_frame n c a s
  rw [q]; rfl

@[simp] theorem reportCh_group (n c : Nat) (a : Word) (s : State) (m : Nat) :
    leaderOf (reportCh n c a s) m = leaderOf s m ∧ members (reportCh n c a s) m = members s m := by
  obtain ⟨h, e, q, -⟩ := reportCh_frame n c a s
  rw [q]; exact ⟨rfl, rfl⟩

/-- A report is kept for the tile of its channel, and the channel does not change. -/
theorem reportChAs_only (n c : Nat) (w a : Word) (o p : Bool) (s : State) :
    ChannelOnly n s (reportChAs n c w a o p s) := by
  obtain ⟨h, e, q, -⟩ := reportChAs_frame n c w a o p s
  rw [q]
  refine ⟨rfl, fun m _ => rfl, fun k hk => ?_, ?_⟩
  · rw [State.setTgt_tgt, if_neg (Ne.symm hk)]; rfl
  · rw [State.setTgt_tgt, if_pos rfl]

/-- What a channel shows does not depend on reports. -/
theorem chWord_reportChAs (n c : Nat) (w a : Word) (o p : Bool) (s : State) (m : Nat) :
    chWord (reportChAs n c w a o p s) m = chWord s m := by
  obtain ⟨h, e, q, -⟩ := reportChAs_frame n c w a o p s
  rw [q]
  unfold chWord
  rfl

/-! ### A change of one channel that is reported -/

theorem ChannelOnly.trans {n : Nat} {s u v : State} (a : ChannelOnly n s u) (b : ChannelOnly n u v) :
    ChannelOnly n s v := by
  obtain ⟨a1, a2, a3, a4⟩ := a
  obtain ⟨b1, b2, b3, b4⟩ := b
  exact ⟨by rw [b1, a1], fun m h => (b2 m h).trans (a2 m h), fun k h => (b3 k h).trans (a3 k h), by rw [b4, a4]⟩

theorem setChan_only (n : Nat) (x : Chan) (s : State) : ChannelOnly n s (s.setChan n x) :=
  ⟨rfl, fun m h => by simp [show ¬n = m from fun e => h e.symm], fun _ _ => rfl, rfl⟩

theorem ChannelOnly.chReg {n : Nat} {s u : State} (h : ChannelOnly n s u) (m off : Nat) :
    chReg u m off = Sys2Proof.Machine.chReg s m off := by rw [h.1]; rfl

theorem ChannelOnly.clock {n : Nat} {s u : State} (h : ChannelOnly n s u) : u.clock = s.clock := by rw [h.1]; rfl

/-- The entries of the present cycle are settled in place, and nothing else changes (R200). -/
theorem settleEntries_frame (n : Nat) (s : State) :
    ∃ es : List Entry, settleEntries n s = s.setTgt (n / 16) { s.tgt (n / 16) with entries := es } ∧
      es.length = (s.tgt (n / 16)).entries.length := ⟨_, rfl, by simp⟩

theorem settleEntries_only (n : Nat) (s : State) : ChannelOnly n s (settleEntries n s) := by
  obtain ⟨es, q, -⟩ := settleEntries_frame n s
  rw [q]
  refine ⟨rfl, fun m _ => rfl, fun k hk => ?_, ?_⟩
  · rw [State.setTgt_tgt, if_neg (Ne.symm hk)]
  · rw [State.setTgt_tgt, if_pos rfl]

/-- One member of a group changes and its entry follows; no other channel does. -/
theorem changeOne_spec (x c : Nat) (w : Option Word) (a : Word) (p : Bool) (f : Chan → Chan) (s : State) (m : Nat) :
    (changeOne x c w a p f s m).chan m = Chan.changed s.clock c f (s.chan m) ∧
    Reported m c s (changeOne x c w a p f s m) ∧ ChannelOnly m s (changeOne x c w a p f s m) := by
  unfold changeOne
  extract_lets again s1 s2
  have o1 : ChannelOnly m s s1 := setChan_only _ _ _
  have e1 : (s1.tgt (m / 16)).entries = (s.tgt (m / 16)).entries := rfl
  have c1 : s1.chan m = Chan.changed s.clock c f (s.chan m) := by simp [s1]
  clear_value s1
  have h2 : ChannelOnly m s1 s2 ∧ s2.chan m = s1.chan m ∧
      (s2.tgt (m / 16)).entries.length = (s.tgt (m / 16)).entries.length ∧
      ((s.chan m).cutNow s.clock = false → (s2.tgt (m / 16)).entries = (s.tgt (m / 16)).entries) := by
    unfold s2
    split
    · rename_i hc
      obtain ⟨es, q, l⟩ := settleEntries_frame m s1
      refine ⟨settleEntries_only m s1, by rw [q]; rfl, ?_, fun z => ?_⟩
      · rw [q, State.setTgt_tgt, if_pos rfl, ← e1]; exact l
      · unfold again at hc
        rw [z] at hc
        simp at hc
    · exact ⟨⟨rfl, fun _ _ => rfl, fun _ _ => rfl, rfl⟩, rfl, by rw [e1], fun _ => e1⟩
  obtain ⟨o2, c2, l, z⟩ := h2
  clear_value s2
  have o3 := reportChAs_only m c (w.getD (timeWord s2 (m / 16))) a (decide (m = x)) p s2
  refine ⟨by rw [reportChAs_chan, c2, c1], ?_, o1.trans (o2.trans o3)⟩
  obtain ⟨h, e, q, k1, k2, k3, k4, -, -⟩ := reportChAs_frame m c (w.getD (timeWord s2 (m / 16))) a (decide (m = x)) p s2
  exact ⟨_, e, by rw [q, State.setTgt_tgt, if_pos rfl], k1, k2, k3, by rw [k4, chWord_reportChAs], l, z⟩

/-- A report by itself changes no channel. -/
theorem reportCh_spec (n c : Nat) (a : Word) (s : State) :
    Reported n c s (reportCh n c a s) ∧ ChannelOnly n s (reportCh n c a s) := by
  refine ⟨?_, reportChAs_only _ _ _ _ _ _ _⟩
  obtain ⟨h, e, q, k1, k2, k3, k4, -, -⟩ := reportCh_frame n c a s
  exact ⟨_, e, by rw [q, State.setTgt_tgt, if_pos rfl], k1, k2, k3, by
    rw [k4]; exact (chWord_reportChAs _ _ _ _ _ _ _ _).symm, rfl, fun _ => rfl⟩

/-! ### A change of a parallel group -/

theorem foldGroup_else (x c : Nat) (w : Option Word) (a : Word) (p : Bool) (f : Chan → Chan) (ms : List Nat) (s : State) :
    let t := ms.foldl (changeOne x c w a p f) s
    t = { s with chans := t.chans, targets := t.targets, pwr := { s.pwr with held := t.pwr.held } } := by
  induction ms generalizing s with
  | nil => rfl
  | cons k ms ih =>
    dsimp only at ih ⊢
    rw [List.foldl_cons, ih, (changeOne_spec x c w a p f s k).2.2.1]

theorem foldGroup_chan (x c : Nat) (w : Option Word) (a : Word) (p : Bool) (f : Chan → Chan) (ms : List Nat)
    (hn : ms.Nodup) (s : State) (m : Nat) :
    (ms.foldl (changeOne x c w a p f) s).chan m = if m ∈ ms then Chan.changed s.clock c f (s.chan m) else s.chan m := by
  induction ms generalizing s with
  | nil => simp
  | cons k ms ih =>
    have hk := List.nodup_cons.1 hn
    obtain ⟨h1, -, h3⟩ := changeOne_spec x c w a p f s k
    rw [List.foldl_cons, ih hk.2, h3.clock]
    by_cases h : k = m
    · subst h; simp [hk.1, h1]
    · have h' : m ≠ k := fun e => h e.symm
      simp [h', h3.2.1 m h']

/-- Every member of the group takes the change, and no other channel does. -/
theorem changeGroup_chan (n c : Nat) (a : Word) (f : Chan → Chan) (s : State) (m : Nat) :
    (changeGroup n c a f s).chan m = if m ∈ members s n then Chan.changed s.clock c f (s.chan m) else s.chan m :=
  foldGroup_chan n c none a (pulsed s n) f _ (members_nodup s n) s m

/-- A change of a group writes its channels and their tile's reports, and may latch a wake event. -/
theorem changeGroup_else (n c : Nat) (a : Word) (f : Chan → Chan) (s : State) :
    changeGroup n c a f s =
      { s with
        chans := (changeGroup n c a f s).chans, targets := (changeGroup n c a f s).targets,
        pwr := { s.pwr with held := (changeGroup n c a f s).pwr.held } } := foldGroup_else n c none a (pulsed s n) f _ s

/-- A change of a channel that stands alone. -/
theorem changeGroup_alone {n : Nat} {s : State} (h : Alone s n) (c : Nat) (a : Word) (f : Chan → Chan) :
    changeGroup n c a f s = changeOne n c none a (pulsed s n) f s n := by
  unfold changeGroup
  rw [alone_members h]
  rfl

/-- The same, as what it does. -/
theorem changeGroup_alone_spec {n : Nat} {s : State} (h : Alone s n) (c : Nat) (a : Word) (f : Chan → Chan) :
    (changeGroup n c a f s).chan n = Chan.changed s.clock c f (s.chan n) ∧ Reported n c s (changeGroup n c a f s) ∧
    ChannelOnly n s (changeGroup n c a f s) := by
  rw [changeGroup_alone h]
  exact changeOne_spec _ _ _ _ _ _ _ _

/-! ### A refusal of a tile (R183) -/

/-- A refusal is kept for the tile's next report, and nothing else changes. -/
theorem refuseTile_frame (t blk off reason : Nat) (v : Word) (s : State) :
    ∃ r, refuseTile t blk off reason v s = s.setTgt t { s.tgt t with refusals := (s.tgt t).refusals ++ [r] } := ⟨_, rfl⟩

end Sys2Proof.Machine
end

