-- ==== Sys2Proof/Tests/Slice0.lean ====
section
/-! SUPPORT. Tests of the model, each about one command on a small state. The smoke test of WellFormed gives for each of its
checks a command that the check refuses. A theorem witness_X shows, for each clause of the statement X, a state and operands
that meet the clause's hypotheses; where the clauses of X divide a range, at the values where they meet. The expected results
of the theorems test_… are those of the rules cited beside them. -/

namespace Sys2Proof.Tests

set_option Elab.async false

open Sys2Proof Sys2Proof.Machine

/-! ### Small states -/

/-- A module at work in phase B of a ply: White active, Black standby, every target claimed by White. -/
def up : State :=
  { State.reset with
    now := 20100, targets := (List.range 45).map fun t => (t, { Target.reset with claimed := some .white }),
    white := { State.reset.white with role := .active, boot := .started },
    black := { State.reset.black with role := .standby, boot := .started }, lanes := { Lanes.reset with xa := true, xb := true },
    seq := { Seq.reset with running := true, next := 2 ^ 40 + 5, agreed := 2 ^ 40 + 4 },
    ply := { Ply.reset with phase := .b, number := 2 ^ 40 + 4, boundary := 20000, at_ := 20000 },
    pwr := { Pwr.reset with state := .run } }

/-- Registers of the units set. -/
def live (ps : List (Nat × Word)) (s : State) : State := ps.foldl (fun s p => s.setLive p.1 p.2) s

/-- Registers of the lanes' copy set. -/
def copy (ps : List (Nat × Word)) (s : State) : State := ps.foldl (fun s p => s.setCopy p.1 p.2) s

/-- Channel 0 in some condition, with registers of its block set. -/
def ch0 (c : Chan) (ps : List (Nat × Word) := []) : State := (live (ps.map fun p => (chanAddr 0 p.1, p.2)) up).setChan 0 c

/-- A closed channel in its inrush window with four retries left. -/
def closed : Chan := { Chan.reset with state := .on, sw := true, inrush := true, winRetry := 0x40000 }

/-- Core 0 at work. -/
def core0 (k : Kwask) : State := copy [(0x9D103, 3500)] { up with cores := [(0, k)] }

/-- A running core that has not finished its ply. -/
def runs : Kwask := { Kwask.reset with state := .running, done := false }

/-- −n as a word. -/
def neg (n : Nat) : Word := BitVec.ofInt 20 (-(n : Int))

/-! ### The invariant and the queue -/

/-- The premises of EveryStepKeepsTheInvariant. -/
theorem witness_EveryStepKeepsTheInvariant : State.reset.Inv ∧ step State.reset = .next { State.reset with now := 1 } :=
  ⟨⟨rfl, by decide, by decide⟩, rfl⟩

/-! ### Protected channels -/

theorem witness_ChannelOn :
    (tileAccepts up 0 = true ∧ Alone up 0 ∧ (chReg up 0 3).bit 17 = false) ∧
    (∀ c ∈ [{ Chan.reset with state := .latched }, closed, Chan.reset, { Chan.reset with probed := true },
        { Chan.reset with dt := true }],
      let s := ch0 c [(3, 0x20000)]
      tileAccepts s 0 = true ∧ Alone s 0 ∧ (chReg s 0 3).bit 17 = true ∧ (chReg s 0 3).bit 16 = false ∧ s.chan 0 = c) ∧
    (let s := ch0 { Chan.reset with probed := true } [(3, 0x30000)]
     tileAccepts s 0 = true ∧ Alone s 0 ∧ (chReg s 0 3).bit 17 = true ∧ (chReg s 0 3).bit 16 = true) := by
  unfold Alone; decide +kernel

theorem witness_ChannelWrites :
    (tileAccepts (ch0 closed) 0 = true ∧ Alone (ch0 closed) 0 ∧ ((ch0 closed).chan 0).state ≠ .off ∧
      ((ch0 closed).chan 0).state ≠ .latched) ∧
    (tileAccepts up 0 = true ∧ Alone up 0 ∧ (up.chan 0).state = .off ∧ (0x10000 : Word).bit 14 = false ∧
      (chReg up 0 4).field 19 18 ≠ 2 ∧ (0x10000 : Word).bit 17 = false) ∧
    (let s := ch0 { Chan.reset with state := .latched } [(11, 1), (12, 1), (13, 1), (14, 1)]
     (s.chan 0).state = .latched ∧ (0x28000 : Word).bit 15 = true ∧ (0x28000 : Word).bit 17 = true ∧ wireUnset s 0 = false) ∧
    tileAccepts State.reset 0 = false ∧
    (let s := ch0 Chan.reset [(7, 0x40400)]
     tileAccepts s 0 = true ∧ leaderOf s 0 ≠ 0) := by
  unfold Alone; decide +kernel

theorem witness_ChannelAndGroupCommands :
    (∀ c ∈ [closed, { Chan.reset with state := .safe }, { Chan.reset with state := .retry }, { Chan.reset with state := .cooling },
        Chan.reset, { Chan.reset with state := .latched }, { Chan.reset with state := .latched, fault := 0x30000 }],
      tileAccepts (ch0 c) 0 = true ∧ Alone (ch0 c) 0 ∧ (ch0 c).chan 0 = c ∧ leaderOf (ch0 c) 0 = 0) ∧
    wireAbove (ch0 { Chan.reset with state := .latched, fault := 0x30000 } [(15, 0x00640)]) 0 100 = false ∧
    (let s := ch0 { Chan.reset with state := .latched, fault := 0x30000, theta1 := 100 * 2 ^ 20 } [(15, 0x00640)]
     (s.chan 0).fault.field 19 16 = 3 ∧ wireAbove s 0 ((chReg s 0 15).field 11 4) = true) ∧
    (let s := (live [(chanAddr 0 7, 0x40000), (chanAddr 1 7, 0x40000)] up).setChan 0 closed
     tileAccepts s 0 = true ∧ leaderOf s 0 = 0 ∧ members s 0 = [0, 1] ∧ (s.chan 0).state = .on) := by
  unfold Alone; decide +kernel

theorem witness_ChannelProbesAndTimers :
    (let s := ch0 { Chan.reset with probe := some (.firstTurnOn, .lane) } [(3, 0x30000)]
     Alone s 0 ∧ (s.chan 0).probe = some (.firstTurnOn, .lane) ∧ (chReg s 0 3).bit 16 = true ∧ (s.chan 0).backfed = false ∧
     (s.chan 0).openLoad = false ∧ (10000 : Word).s20 ≤ bfThreshold s 0 ∧ (40000 : Word).s20 ≤ 40000) ∧
    (let s := ch0 { Chan.reset with probe := some (.freewheel, .lane) }
     Alone s 0 ∧ (s.chan 0).probe = some (.freewheel, .lane) ∧ (s.chan 0).hot = false ∧ (neg 20001).s20 < -20000 ∧
     -20000 ≤ (neg 20000).s20) ∧
    (Alone (ch0 { Chan.reset with state := .retry }) 0) ∧
    (∀ mode ∈ [0, 1, 2, 3], let s := ch0 { Chan.reset with state := .hold } [(4, Word.ofN (mode * 2 ^ 18))]
     Alone s 0 ∧ (s.tgt 0).watched = true ∧ (s.chan 0).state = .hold ∧ (s.chan 0).sw = false ∧ (s.chan 0).hot = false ∧
     (chReg s 0 3).bit 16 = false ∧ (chReg s 0 4).field 19 18 = mode) := by
  unfold Alone; decide +kernel

theorem witness_SilentTile :
    ((up.tgt 0).watched = true ∧ (up.tgt 0).silent = false ∧ (up.tgt 0).restoreWait = false) ∧
    (let s := up.setTgt 0 { up.tgt 0 with silent := true, entries := [⟨0, 0, 1, 0, [], [], [], 20000, true, false⟩] }
     (s.tgt 0).silent = true ∧ (s.tgt 0).entries ≠ []) := by decide +kernel

/-! ### Protection -/

theorem witness_TripsOpenTheSwitch :
    (let s := ch0 closed [(10, 0x00800)]
     Alone s 0 ∧ (s.chan 0).sw = true ∧ (s.chan 0).inrush = true ∧ (s.chan 0).used < (s.chan 0).winRetry.field 19 16 ∧
     (chReg s 0 10).bit 11 = true ∧ (chReg s 0 10).field 19 12 ≤ (s.chan 0).ocCount) ∧
    (let s := ch0 { closed with used := 4 } [(10, 0)]
     Alone s 0 ∧ (s.chan 0).sw = true ∧ ¬(s.chan 0).used < (s.chan 0).winRetry.field 19 16 ∧
     (chReg s 0 10).bit 11 = false ∧ (chReg s 0 10).field 19 12 ≤ (s.chan 0).ocCount) := by
  unfold Alone; decide +kernel

theorem witness_CurrentSampleIsTaken : Alone up 0 := by unfold Alone; decide +kernel

theorem witness_ReverseAndWireModel :
    10 ≤ ((ch0 { closed with revRun := 10 }).chan 0).revRun ∧ ((ch0 { closed with revRun := 10 }).chan 0).reverse = false ∧
    10 ≤ ((ch0 { closed with revRun := 10, reverse := true }).chan 0).revRun ∧ Alone (ch0 closed) 0 := by
  unfold Alone; decide +kernel

theorem witness_ThermalLatches :
    (Alone (ch0 closed) 0 ∧ ((ch0 closed).chan 0).state = .on ∧ ((ch0 closed).chan 0).dt = false ∧
      ((ch0 closed).chan 0).junction = false) ∧
    (∀ c ∈ [{ closed with state := .cooling, sw := false, dt := true }, { closed with state := .cooling, sw := false, dt := true, used := 4 },
        { closed with state := .cooling, sw := false, junction := true },
        { closed with state := .cooling, sw := false, junction := true, used := 4 }],
      Alone (ch0 c) 0 ∧ ((ch0 c).chan 0).state = .cooling ∧ ((ch0 c).chan 0).sensorFail = false ∧
      ((ch0 c).chan 0).waitOff = false ∧ ((ch0 c).chan 0).dt = c.dt ∧ ((ch0 c).chan 0).junction = c.junction) ∧
    (closed.winRetry.field 19 16 = 4) := by
  unfold Alone; decide +kernel

theorem witness_ArcWindowsEnd :
    let m : ArcMeasure := ⟨0, 1000, 63⟩
    let s (coinc arc : Word) : State := live [(tileAddr 0 4, coinc)] (ch0 { closed with inrush := false } [(19, arc)])
    (∀ s' ∈ [s 0x02000 0x80100, s 0x02000 0x80300, s 0x01000 0x80100],
      Alone s' 0 ∧ arcExamined s' 0 m = true ∧ arcQualifies s' 0 m = true ∧ feedHalf 0 m.k = 0) ∧
    2 ≤ ((s 0x02000 0x80100).liveReg (tileAddr 0 4)).field 16 12 ∧
    (chReg (s 0x02000 0x80100) 0 19).field 11 8 = 1 ∧ (chReg (s 0x02000 0x80100) 0 19).field 19 18 = 2 ∧
    (chReg (s 0x02000 0x80300) 0 19).field 11 8 = 3 ∧ ((s 0x01000 0x80100).liveReg (tileAddr 0 4)).field 16 12 = 1 := by
  unfold Alone; decide +kernel

theorem witness_OutputAndPairEvaluations :
    (∀ c ∈ [{ Chan.reset with bfHigh := 1 }, { Chan.reset with backfed := true, bfLow := 1 }],
      ((ch0 c).chan 0).sw = false ∧ ((ch0 c).chan 0).state = .off ∧ (ch0 c).chan 0 = c) ∧
    bfThreshold up 0 < (85001 : Word).s20 ∧ (0 : Word).s20 < bfThreshold up 0 - 5000 ∧
    (chReg (ch0 Chan.reset [(8, 0x08000)]) 0 8).bit 15 = true ∧
    ((ch0 { Chan.reset with probeReq := true }).chan 0).probeReq = true ∧
    (let s := ch0 closed [(7, 0x40000)]
     (chReg s 0 7).field 19 18 = 1 ∧ (s.chan 0).imbalance ≠ true) ∧
    (let s := copy [(chanAddr 0 7, 0x88000), (chanAddr 0 1, 0x04000), (chanAddr 32 1, 0x04000)] up
     (s.copyReg (chanAddr 0 7)).field 19 18 = 2 ∧ (s.copyReg (chanAddr 0 1)).bit 14 = true ∧
     (s.copyReg (chanAddr ((s.copyReg (chanAddr 0 7)).field 17 10) 1)).bit 14 = true) ∧
    (up.lane .white).role ≠ .out ∧ ((State.reset).lane .black).role = .out := by decide +kernel

/-! ### Measurement -/

theorem witness_SampleBlocksAndDriftChecks :
    Numbering up ∧ up.sup.fabValid = false ∧
    (∀ m ∈ [(⟨false, 0⟩ : Mux), ⟨true, 0⟩, ⟨true, 1⟩, ⟨true, 2⟩],
      Sparse.get (fun _ => (⟨false, 0⟩ : Mux)) ({ up with fab := { up.fab with mux := [(3, m)] } }).fab.mux 3 = m) ∧
    (ch0 closed).chan 0 = closed ∧ closed.sw = true ∧ (up.chan 0).sw = false ∧ 0 ∉ up.fab.modFaults := by
  unfold Machine.Numbering; decide +kernel

theorem witness_MeasurementWrites :
    up.measPend = [] ∧
    (isFlag 0x10000 = false ∧ isFlag 0x7FF00 = true ∧ (up.copyReg 0x8B003).bit 19 = false) ∧
    (let s := copy [(0x8B000, 100), (0x8B001, 50), (0x8B003, 0xE0000)] up
     (s.copyReg 0x8B003).bit 19 = true ∧ (s.copyReg 0x8B003).bit 18 = true ∧ (s.copyReg 0x8B003).bit 17 = true ∧
     (s.copyReg 0x8B001).s20 < (51 : Word).s20 ∧ (50 : Word).s20 ≤ (s.copyReg 0x8B001).s20 ∧
     (99 : Word).s20 < (s.copyReg 0x8B000).s20 ∧ (s.copyReg 0x8B000).s20 ≤ (100 : Word).s20 ∧ s.measPend = []) ∧
    (let v : Word := 0xC4400
     v.bit 17 = false ∧ v.field 16 14 ≠ 0 ∧ v.field 13 10 ≠ 0 ∧
     ((copy [(0x8B000, 1)] up).copyReg 0x8B001).s20 < ((copy [(0x8B000, 1)] up).copyReg 0x8B000).s20) ∧
    ((0x2BE10 : Word).field 17 10 = 175 ∧ (0x2BE10 : Word).field 9 5 = 16 ∧ (0x2BE10 : Word).field 4 0 = 16 ∧
      (0x2C021 : Word).field 17 10 = 176 ∧ (up.copyReg (chanAddr 175 7)).field 19 18 ≠ 1) ∧
    (let s := copy [(0x8C801, 0x00001), (0x8C803, 0x00100)] up
     (s.copyReg 0x8C800).bit 19 = false ∧ ringFree s 0 = true ∧ streamsCost s 0 250 ≤ 4096 ∧ streamsCost s 0 1 ≤ 4096) ∧
    (let s := copy [(0x8C800, 0x80800)] up
     (s.copyReg 0x8C800).bit 19 = true ∧ (up.copyReg 0x8C804) = 0 ∧ (∀ r ∈ (up.stream 0).held, Word.ofN r.off ≠ 1)) ∧
    (let s := copy [(0x8A002, 5), (0x8A003, 3)] up
     let unread (t : Nat) := (t + 1024 - (s.copyReg 0x8A003).toNat) % 1024
     unread 5 ≤ unread (s.copyReg 0x8A002).toNat ∧ unread (s.copyReg 0x8A002).toNat < unread 6) := by decide +kernel

/-- Engine 0 with a descriptor that core 2 wrote: source, destination, count, stride. -/
def dma0 (src dst n : Word) (d : Dma) : State :=
  copy [(0x8C901, src), (0x8C902, dst), (0x8C903, n)]
    ({ up with tables := [(0x9B003, 0x801C0), (0x9B004, 0), (0x9B005, 0xFFFFF)] }.setDma 0 d)

theorem witness_DmaTransfers :
    (let s := dma0 0x20000 0x5FFFF 1 { Dma.reset with writers := [(1, 2), (2, 2), (3, 2), (4, 2)] }
     (s.dma 0).busy = false ∧ dmaOwns s 2 0 = true ∧ dmaOwns s 3 0 = false) ∧
    (let s := dma0 0x20000 0x5FFFF 1 { Dma.reset with busy := true }
     (s.dma 0).busy = true ∧ (s.dma 0).ended = none ∧ (s.dma 0).limit = none ∧ (s.copyReg 0x8C903).toNat = 1 ∧
     verdict s 0x18 (s.dma 0).secure 0x20000 false .none = .ok ∧ verdict s 0x18 (s.dma 0).secure 0x5FFFF true .none = .ok) ∧
    (let s := dma0 0x10000 0x20000 1 { Dma.reset with busy := true }
     verdict s 0x18 (s.dma 0).secure 0x10000 false .none ≠ .ok) := by decide +kernel

/-! ### More cases of the channels and their protection -/

theorem witness_ChannelOn_more :
    (∀ c ∈ [{ Chan.reset with state := .hold }, { Chan.reset with probe := some (.firstTurnOn, .lane) },
        { Chan.reset with state := .retry }, { Chan.reset with state := .cooling }, { closed with state := .safe },
        { Chan.reset with state := .safe, probe := some (.freewheel, .safe) }, { Chan.reset with state := .safe },
        { Chan.reset with state := .safe, probed := true }, { Chan.reset with state := .safe, dt := true }],
      tileAccepts (ch0 c [(3, 0x20000)]) 0 = true ∧ Alone (ch0 c [(3, 0x20000)]) 0 ∧ (ch0 c [(3, 0x20000)]).chan 0 = c) ∧
    closed.sw = true ∧ Chan.reset.sw = false ∧ Chan.reset.hot = false ∧ { Chan.reset with dt := true }.hot = true := by
  unfold Alone; decide +kernel

/-- Channels 0 to 4 of tile 0 as one parallel group, each in the same condition. -/
def group (c : Chan) (ps : List (Nat × Word) := []) : State :=
  (List.range 5).foldl (fun s k => s.setChan k c) (live ((List.range 5).map (fun k => (chanAddr k 7, (0x40000 : Word))) ++ ps) up)

theorem witness_ChannelAndGroupCommands_more :
    (let c : Chan := { Chan.reset with state := .latched, fault := 0x20000, cut := some ⟨20100, 0x011, 0⟩ }
     (ch0 c).chan 0 = c ∧ c.outranked (ch0 c).clock 0x002 = true ∧ { c with cut := none }.outranked (ch0 c).clock 0x002 = false) ∧
    (∀ c ∈ [closed, { Chan.reset with state := .latched, fault := 0x10000 }, { Chan.reset with probed := true }],
      let s := group c [(chanAddr 0 3, 0x20000)]
      tileAccepts s 0 = true ∧ leaderOf s 0 = 0 ∧ members s 0 = [0, 1, 2, 3, 4] ∧ s.chan 0 = c ∧ (chReg s 0 3).bit 17 = true ∧
      (chReg s 0 3).bit 16 = false) ∧
    groupCool (group { Chan.reset with probed := true }) 0 = true ∧ leaderOf (group closed) 1 = 0 := by
  decide +kernel

theorem witness_ChannelProbesAndTimers_more :
    ∀ p ∈ [({ Chan.reset with state := .safe }, (0 : Word)), ({ Chan.reset with state := .latched }, 0),
        ({ Chan.reset with state := .retry }, 0), ({ Chan.reset with state := .cooling }, 0x40000), (closed, 0x40000),
        ({ Chan.reset with dt := true }, 0x40000), ({ Chan.reset with state := .hold, dt := true }, 0x40000)],
      let s := ch0 p.1 [(4, p.2)]
      Alone s 0 ∧ (s.tgt 0).watched = true ∧ s.chan 0 = p.1 ∧ chReg s 0 4 = p.2 := by
  unfold Alone; decide +kernel

theorem witness_TripsOpenTheSwitch_more :
    (∀ c ∈ [{ closed with inrush := false }, { closed with used := 4 }],
      0 ∈ members (group c) 3 ∧ leaderOf (group c) 3 = 0 ∧ ((group c).chan 3).sw = true ∧ (3 : Nat) ∈ members (group c) 3 ∧
      ((group c).chan 0).winRetry.field 19 16 = 4) ∧
    (chReg (ch0 closed [(10, 0x14000)]) 0 10).field 19 12 = 20 ∧ ((ch0 { closed with ocCount := 20 }).chan 0).ocCount = 20 := by
  decide +kernel

theorem witness_ReverseAndWireModel_more :
    (ch0 closed).clock = 20100 ∧ (closed.cutNow 20100 = false ∧ Chan.reset.cutNow 20100 = false) := by decide +kernel

theorem witness_ThermalLatches_more :
    (∀ c ∈ [{ Chan.reset with state := .retry }, { closed with state := .cooling, sw := false, dt := true, waitOff := true },
        { closed with state := .cooling, sw := false, junction := true, waitOff := true }],
      Alone (ch0 c) 0 ∧ (ch0 c).chan 0 = c ∧ c.cutNow (ch0 c).clock = false ∧ c.sw = false ∧ c.sensorFail = false) := by
  unfold Alone; decide +kernel

theorem witness_ArcWindowsEnd_more :
    let s : State := live [(tileAddr 0 4, 0x02000)] (ch0 { closed with inrush := false } [(19, 0x80100)])
    tileAsleep s 0 = false ∧ tileAsleep { s with pwr := { s.pwr with sleeping := [0] } } 0 = true ∧
    arcExamined { s with pwr := { s.pwr with sleeping := [0] } } 0 ⟨0, 1000, 63⟩ = true ∧
    (chReg (live [(chanAddr 0 19, 0x40100)] s) 0 19).field 19 18 = 1 := by
  decide +kernel

theorem witness_OutputAndPairEvaluations_more :
    tileAsleep up 0 = false ∧ tileAsleep { up with pwr := { up.pwr with sleeping := [0] } } 0 = true ∧
    (∀ c ∈ [{ Chan.reset with imbalance := true }, Chan.reset],
      (chReg (ch0 c [(7, 0x40000)]) 0 7).field 19 18 = 1 ∧ ((ch0 c).chan 0).imbalance = c.imbalance) := by decide +kernel

/-! ### More cases of the measurement -/

theorem witness_SampleBlocksAndDriftChecks_more :
    (blockBoundary up false = 40000 ∧ up.fab.sentAt = 0 ∧
      blockBoundary { up with fab := { up.fab with sentAt := 40000 } } false ≤ 40000) ∧
    (let s := { up with pwr := { up.pwr with elapsed := 100000000 } }
     (s.chan 0).sw = false ∧ pulsed s 0 = false ∧ (s.chan 0).openedAt = none ∧
     (∀ t ∈ [99020100, 99020101],
       ((ch0 { Chan.reset with openedAt := some t }).chan 0).openedAt = some t ∧ (t + 1000000 ≤ s.clock ↔ t = 99020100)) ∧
     (s.fab.modLast.find? fun p => p.1 = 0) = none ∧
     ({ s with fab := { s.fab with modLast := [(0, 20100)] } }.fab.modLast.find? fun p => p.1 = 0) = some (0, 20100) ∧
     20100 + 100000000 ≤ s.clock ∧ ¬(20101 + 100000000 ≤ s.clock)) ∧
    (∀ p ∈ [((5242 : Int), 0), (5239, 3), (5239, 4), (-5240, -9)],
      Sparse.get (fun _ => (0 : Int)) ({ up with fab := { up.fab with modOffset := [(0, p.1)] } }).fab.modOffset 0 = p.1) ∧
    ((5239 : Int) + max (-4) (min 4 3)).natAbs ≤ 5242 ∧ 5242 < ((5239 : Int) + max (-4) (min 4 4)).natAbs ∧
    5242 < ((-5240 : Int) + max (-4) (min 4 (-9))).natAbs ∧ 0 ∈ { up.fab with modFaults := [0] }.modFaults := by decide +kernel

theorem witness_MeasurementWrites_more :
    (let s := copy [(0x8B003, 0x20000)] up
     (s.copyReg 0x8B003).bit 17 = true ∧ (s.copyReg (0x8B000 + 3)).bit 19 = false ∧ (up.copyReg 0x8B003).bit 17 = false) ∧
    (let v : Word := 0x44400
     v.bit 19 = false ∧ v.bit 17 = false ∧ v.field 16 14 ≠ 0 ∧ v.field 13 10 ≠ 0) ∧
    ((0x00021 : Word).field 19 18 = 0 ∧ (0x40021 : Word).field 19 18 = 1 ∧ (0x80210 : Word).field 19 18 = 2 ∧
      slotTaken up 0 0 = false ∧ (0x00021 : Word).field 9 5 = 1 ∧ (0x80210 : Word).field 9 5 = 16 ∧ (0x80210 : Word).field 4 0 = 16) ∧
    (∀ d ∈ [1, 250], streamsCost (copy [(0x8C801, 0x00001), (0x8C803, 0x00100)] up) 0 d ≤ 4096) := by decide +kernel

theorem witness_DmaTransfers_more :
    let s := dma0 0x20000 0x5FFFF 1 { Dma.reset with busy := true }
    waitsFor s 0x18 0x20000 = false ∧ waitsFor s 0x18 0x5FFFF = false ∧ (s.dma 0).at_ = 0 ∧
    (let s' := { s with
       white := { s.white with locks := [(0, { TargetLock.reset with owner := some 5 })] },
       black := { s.black with locks := [(0, { TargetLock.reset with owner := some 5 })] } }
     waitsFor s' 0x18 0x20000 = true ∧ (s'.dma 0).busy = true ∧ verdict s' 0x18 (s'.dma 0).secure 0x5FFFF true .none = .ok) ∧
    (s.dma 1).busy = false ∧ (dma0 0x20000 0x5FFFF 0 { Dma.reset with writers := [(1, 2), (2, 2), (3, 2), (4, 2)] }).copyReg 0x8C903 = 0 := by
  decide +kernel

/-! ### Field inputs and outputs -/

/-- Field output 0 in some condition, EN and other bits of its configuration, VFLD present. -/
def do0 (d : Dout) (cfg : Word) : State := live [(doAddr 0 2, cfg), (grpAddr 0, 0x80000)] { up with douts := [(0, d)] }

/-- A closed field output. -/
def driven : Dout := { Dout.reset with state := .on, want := true }

theorem witness_FieldOutputCommands :
    (fioAccepts up = true ∧ (up.liveReg (doAddr 0 2)).bit 19 = false) ∧
    (∀ d ∈ [{ Dout.reset with state := .latched }, Dout.reset, { Dout.reset with thermal := true }, driven,
        { Dout.reset with state := .safe }, { Dout.reset with state := .cooling }],
      fioAccepts (do0 d 0x80000) = true ∧ ((do0 d 0x80000).liveReg (doAddr 0 2)).bit 19 = true ∧
      (do0 d 0x80000).dout 0 = d) ∧
    (1 : BitVec 8).getLsbD 0 = true ∧ (∀ k : Fin 8, (1 : BitVec 8).getLsbD k = true → 8 ≠ 8 * 0 + (k : Nat)) := by
  decide +kernel

theorem witness_FieldOutputProtection :
    (((do0 driven 0x80000).dout 0).state = .on ∧ ((do0 driven 0x80000).dout 0).want = true ∧
      ((do0 driven 0x80000).liveReg (grpAddr 0)).bit 19 = true) ∧
    (let cooling (n : Nat) : Dout := { Dout.reset with state := .cooling, thermal := true, cools := List.replicate n 20000 }
     (∀ p ∈ [(cooling 1, (0x80000 : Word)), (cooling 8, 0x88000), (cooling 7, 0x88000)],
       ((do0 p.1 p.2).dout 0).state = .cooling ∧ ((do0 p.1 p.2).liveReg (doAddr 0 2)).bit 15 = p.2.bit 15 ∧
       recentCools (do0 p.1 p.2) ((do0 p.1 p.2).dout 0) = p.1.cools.length ∧ ((do0 p.1 p.2).tgt fioT).silent = false ∧
       ((do0 p.1 p.2).tgt fioT).timedOut = false)) ∧
    (up.dout 0).state ≠ .cooling := by decide +kernel

theorem witness_FieldSupply :
    ((do0 driven 0x80000).dout (8 * 0 + 0)).want = true ∧ ((do0 driven 0x80000).dout (8 * 0 + 1)).want = false ∧
    ((do0 driven 0x80000).liveReg (grpAddr 0)).bit 19 = true := by decide +kernel

theorem witness_FieldUnitSilence :
    ((up.tgt fioT).watched = true ∧ (up.tgt fioT).silent = false) ∧
    (∀ p ∈ [(Dout.reset, (0 : Word)), (driven, 0x10000), ({ Dout.reset with state := .hold }, 0x20000)],
      let s := (do0 p.1 p.2).setTgt fioT { up.tgt fioT with silent := true }
      (s.tgt fioT).watched = true ∧ (s.tgt fioT).silent = true ∧ (s.tgt fioT).timedOut = false ∧ s.dout 0 = p.1 ∧
      (s.liveReg (doAddr 0 2)).field 17 16 = p.2.field 17 16 ∧ (s.dout 0).thermal = false) := by decide +kernel

theorem witness_FieldInputAndBackfeed :
    (let v := Word.ofN (60 * 2 ^ 13 + 58 * 2 ^ 7 + 1)
     v.field 12 7 + 2 ≤ v.field 18 13 ∧ v.field 18 13 ≤ 60 ∧ 1 ≤ v.field 6 0) ∧
    (let v := Word.ofN (60 * 2 ^ 13 + 59 * 2 ^ 7 + 1)
     v.field 18 13 < v.field 12 7 + 2) ∧
    60 < (Word.ofN (61 * 2 ^ 13)).field 18 13 ∧
    (∀ d ∈ [driven, { Dout.reset with bfHigh := 1 }, { Dout.reset with backfed := true, bfLow := 1 }],
      (do0 d 0).dout 0 = d ∧ ((do0 d 0).liveReg (grpAddr 0)).bit 19 = true) := by decide +kernel

/-! ### Lighting -/

/-- String 0 in some condition under a configuration, both power feeds present. -/
def str0 (d : Str) (cfg : Word) : State :=
  live [(strAddr 0 2, cfg)] { up with
    strs := [(0, d)], sup := { up.sup with vpwrA := ⟨true, false⟩, vpwrB := ⟨true, false⟩ } }

/-- EN, COUNT = 4, DIM_RES for 8 bits, FREQ for 200 Hz, with bit 18 as a configuration needs it. -/
def strCfg : Word := Word.ofN (2 ^ 19 + 2 ^ 18 + 4 * 2 ^ 13)

/-- A lit string. -/
def lit : Str := { Str.reset with
  state := .on, run := true, lit := true, ton := 100000, cfg := strCfg, vals := 255 :: List.replicate 16 128 }

theorem witness_StringCommands :
    (lgtAccepts up = true ∧ (up.liveReg (strAddr 0 2)).bit 19 = false) ∧
    (∀ d ∈ [{ Str.reset with state := .latched }, Str.reset, { Str.reset with thermal := true }, lit,
        { Str.reset with state := .safe }, { Str.reset with state := .cooling }],
      lgtAccepts (str0 d strCfg) = true ∧ ((str0 d strCfg).liveReg (strAddr 0 2)).bit 19 = true ∧
      (str0 d strCfg).str 0 = d) ∧
    (strCfg.field 19 2 ≠ (0 : Word).field 19 2) ∧
    (1 ≤ strCfg.field 17 13 ∧ strCfg.field 17 13 ≤ 16 ∧ strCfg.field 12 9 ≤ 8 ∧ strCfg.field 8 6 ≤ 5 ∧
      2 ^ (strCfg.field 12 9 + 8) ≤ pwmPeriod strCfg ∧ strCfg.bit 18 = true) := by decide +kernel

theorem witness_StringPeriodsAndProtection :
    (∀ f ∈ [none, some (⟨List.replicate 17 0, List.replicate 17 9, 1, 0, false⟩ : Fade),
        some ⟨List.replicate 17 0, List.replicate 17 9, 3, 1, false⟩],
      ((str0 { lit with fade := f } strCfg).str 0).safePend = false ∧ ((str0 { lit with fade := f } strCfg).str 0).fade = f) ∧
    (let d := { lit with vals := [255, 10, 20, 30, 40], bypass := 0xFFF0 }
     ((str0 d strCfg).str 0).lit = true ∧ d.bypass.getLsbD 0 = false ∧ d.lastClose = none ∧ 10 * d.ton / 255 < d.ton ∧
     ∀ j : Fin 16, d.bypass.getLsbD j = false → j ≠ 0 → 10 * d.ton / 255 < d.vals.getD (j + 1) 0 * d.ton / 255) ∧
    (lit.cfg.bit 2 = false ∧ { lit with cfg := strCfg ||| 4 }.cfg.bit 2 = true ∧ 3 < lit.cfg.field 17 13 ∧
      ((str0 lit strCfg).str 0).state = .on ∧ ((str0 lit strCfg).str 0).run = true) ∧
    (∀ n ∈ [7, 8],
      let s := str0 { Str.reset with state := .cooling, thermal := true, cools := List.replicate n 20000 } strCfg
      (s.str 0).state = .cooling ∧ recentTimes s.now (s.str 0).cools = n ∧ (s.tgt lgtT).silent = false ∧
      (s.tgt lgtT).timedOut = false) ∧
    (∀ p ∈ [((0 : BitVec 16), 1), (0, 2), (1, 2)],
      let s := str0 { lit with shortedLeds := p.1, shortRuns := [(0, p.2)] } strCfg
      (s.str 0).shortedLeds.getLsbD 0 = p.1.getLsbD 0 ∧ Sparse.get (fun _ => 0) (s.str 0).shortRuns 0 = p.2) := by
  decide +kernel

/-- Mx 0 in some condition under a configuration. -/
def mx0 (d : Mx) (cfg : Word) : State :=
  live [(mxAddr 0 2, cfg)] { up with mxs := [(0, d)], sup := { up.sup with vpwrA := ⟨true, false⟩ } }

theorem witness_Matrices :
    (lgtAccepts up = true ∧ (up.liveReg (mxAddr 0 2)).bit 19 = false) ∧
    (∀ d ∈ [Mx.reset, { Mx.reset with state := .on, run := true }, { Mx.reset with state := .safe },
        { Mx.reset with state := .cooling, thermal := true, cools := List.replicate 8 20000 },
        { Mx.reset with state := .cooling, thermal := true, cools := [20000] }, { Mx.reset with state := .latched },
        { Mx.reset with swapPend := true }, { Mx.reset with shortRuns := [(47, 2)] }],
      lgtAccepts (mx0 d 0x80000) = true ∧ ((mx0 d 0x80000).liveReg (mxAddr 0 2)).bit 19 = true ∧ (mx0 d 0x80000).mx 0 = d ∧
      d.fade = none ∧ (mx0 d 0x80000).sup.vpwrA.ok = true) ∧
    (let s := mx0 { Mx.reset with state := .cooling, cools := List.replicate 8 20000 } 0x80000
     recentTimes s.now (s.mx 0).cools = 8 ∧ (s.tgt lgtT).silent = false ∧ (s.tgt lgtT).timedOut = false) := by decide +kernel

theorem witness_LightingSilence :
    ((up.tgt lgtT).watched = true ∧ (up.tgt lgtT).silent = false) ∧
    (∀ p ∈ [(Str.reset, (0 : Word)), (lit, 0x40000), ({ lit with state := .hold }, 0x80000)],
      let s := (live [(strAddr 0 6, p.2)] (str0 p.1 strCfg)).setTgt lgtT { up.tgt lgtT with silent := true }
      (s.tgt lgtT).watched = true ∧ (s.tgt lgtT).silent = true ∧ (s.tgt lgtT).timedOut = false ∧ s.str 0 = p.1 ∧
      (s.liveReg (strAddr 0 6)).field 19 18 = p.2.field 19 18 ∧ (s.str 0).thermal = false) ∧
    (∀ mode ∈ [0, 2],
      ((live [(mxAddr 0 5, Word.ofN (mode * 2 ^ 18))] (mx0 Mx.reset 0x80000)).liveReg (mxAddr 0 5)).field 19 18 = mode) := by
  decide +kernel

/-! ### More cases of the field unit -/

theorem witness_FieldOutputs_more :
    (let s := live [(grpAddr 0, 0)] (do0 Dout.reset 0x80000)
     fioAccepts s = true ∧ (s.liveReg (grpAddr 0)).bit 19 = false ∧ (s.dout 0).state = .off ∧ (s.dout 0).thermal = false) ∧
    (let s := do0 { Dout.reset with opened := some 20100 } 0x80000
     (s.dout 0).state = .off ∧ (s.dout 0).opened = some s.clock) ∧
    (∀ d ∈ [{ Dout.reset with state := .latched }, { Dout.reset with state := .safe }],
      let s := (do0 d 0).setTgt fioT { up.tgt fioT with silent := true }
      (s.tgt fioT).silent = true ∧ (s.tgt fioT).timedOut = false ∧ s.dout 0 = d) ∧
    ((do0 { driven with bfHigh := 1 } 0x80000).dout 0).want = true ∧ (live [(grpAddr 0, 0)] (do0 driven 0)).liveReg (grpAddr 0) = 0 := by
  decide +kernel

/-! ### More cases of the lighting -/

theorem witness_StringCommands_more :
    (let s := { str0 Str.reset strCfg with sup := up.sup }
     lgtAccepts s = true ∧ (s.liveReg (strAddr 0 2)).bit 19 = true ∧ (s.str 0).state = .off ∧ s.sup.vpwrA.ok = false) ∧
    ((str0 { Str.reset with thermal := true } strCfg).str 0).run = false ∧
    (∀ t ∈ [20100, 20099], ((str0 { Str.reset with state := .latched, stopped := some t } strCfg).str 0).stopped = some t) ∧
    (str0 lit strCfg).clock = 20100 := by decide +kernel

theorem witness_StringPeriodsAndProtection_more :
    (((str0 lit strCfg).tgt lgtT).claimed ≠ none ∧
      (((str0 lit strCfg).setTgt lgtT Target.reset).tgt lgtT).claimed = none) ∧
    (let d := { lit with vals := [255, 10, 20, 30, 40], bypass := 0xFFF0, lastClose := some (10 * 100000 / 255) }
     ((str0 d strCfg).str 0).lit = true ∧ d.bypass.getLsbD 1 = false ∧
      max (20 * d.ton / 255) (10 * 100000 / 255 + 80) < d.ton) ∧
    (let d : Str := { Str.reset with stopped := some 20100 }
     ((str0 d strCfg).str 0).state = .off ∧ ((str0 d strCfg).str 0).stopped = some (str0 d strCfg).clock) ∧
    (∀ st ∈ [ChState.hold, .safe], ((str0 { lit with state := st } strCfg).str 0).state = st) ∧
    (lit.bypass ||| BitVec.ofNat 16 1 ≠ 0xFFFF ∧ { lit with bypass := 0xFFFE }.bypass ||| BitVec.ofNat 16 1 = 0xFFFF) := by
  decide +kernel

theorem witness_Matrices_more :
    (∀ f ∈ [true, false],
      let s := { mx0 { Mx.reset with state := .on, run := true } 0x80000 with
        sup := { up.sup with vpwrA := ⟨f, false⟩, vpwrB := ⟨false, false⟩ } }
      (s.mx 0).run = true ∧ s.sup.vpwrA.ok = f ∧ s.sup.vpwrB.ok = false) ∧
    Mx.reset.run = false ∧ Mx.reset.swapPend = false ∧
    (∀ n ∈ [1, 2], Sparse.get (fun _ => 0) { Mx.reset with shortRuns := [(47, n)] }.shortRuns 47 = n) := by decide +kernel
/-! ### Access -/

/-- A parked module whose scheduler polls and searches handle 0, with token 3 in the AO latch. -/
def parked (a : Access) : State :=
  live [(0x88002, 0xC0300), (0x88003, 0x00080), (0x8800C, 0x80020)] { State.reset with
    pwr := { Pwr.reset with state := .parked }, acc := { a with latch := [(3, ⟨7, 9⟩, 1)] } }

theorem witness_ParkPollsAndHandles :
    (∀ p ∈ [[], [3]],
      polls (parked { Access.reset with present := p, heldOff := [(3, 2)] }) = true ∧
      (parked { Access.reset with present := p, heldOff := [(3, 2)] }).acc.heldOff = [(3, 2)]) ∧
    (parked Access.reset).acc.doublings < ((parked Access.reset).liveReg 0x88003).field 9 7 ∧
    (tokenAt (parked Access.reset) 3).isSome = true ∧ (parked Access.reset).acc.round = none ∧
    (∀ p ∈ (parked Access.reset).acc.heldOff, p.1 ≠ 3) ∧
    (∃ p ∈ (parked { Access.reset with heldOff := [(3, 2)] }).acc.heldOff, p.1 = 3) ∧
    (∀ d ∈ [Handle.reset, ⟨1, false⟩, ⟨2, true⟩],
      handleSearched (parked { Access.reset with handles := [(0, d)] }) 0 = true ∧
      Sparse.get (fun _ => Handle.reset) (parked { Access.reset with handles := [(0, d)] }).acc.handles 0 = d) ∧
    (parked { Access.reset with handles := [(0, ⟨1, false⟩)], round := some ⟨2, 1, 1, 5, [], none, none⟩ }).acc.round ≠ none := by
  decide +kernel

/-- A valid answer of token 3 in 0.8 m of port 1. -/
def answer : Answer := ⟨3, .valid, some 3, some (80, 1), some 80, false⟩

/-- A round on the command of the lanes with some answers. -/
def roundOf (as : List Answer) : State :=
  live [(0x88005, 0x64064)] { up with
    acc := { Access.reset with tokens := [(3, ⟨7, 9⟩)], round := some ⟨0, 0, 1, 5, as, none, none⟩ } }

theorem witness_AccessRounds :
    ((up.tgt accT).claimed.isSome = true ∧ (up.tgt accT).silent = false ∧ awake up = true ∧ up.acc.round = none) ∧
    (((roundOf []).tgt accT).claimed.isSome = true ∧ ((roundOf []).tgt accT).silent = false ∧ awake (roundOf []) = true ∧
      (roundOf []).acc.round = some ⟨0, 0, 1, 5, [], none, none⟩ ∧ (roundOf []).acc.kept = none ∧ (roundOf []).acc.round ≠ none) ∧
    (∃ a ∈ [{ answer with heard := .collided }], a.heard = .collided) ∧
    ((roundOf [answer]).acc.round = some ⟨0, 0, 1, 5, [answer], none, none⟩ ∧ answer.idx = 3 ∧ answer.heard = .valid ∧
      answer.range = some (80, 1) ∧ 80 ≤ ((roundOf [answer]).liveReg 0x88005).field 19 10 ∧
      ((roundOf [answer]).liveReg (tokAddr 3)).bit 16 = false ∧ (roundOf [answer]).acc.sessOpen = false ∧
      answer.interior = some 80 ∧ 80 ≤ ((roundOf [answer]).liveReg 0x88005).field 9 0) := by decide +kernel

/-- An open session of token 3. -/
def inSession : State := { up with acc := { Access.reset with tokens := [(3, ⟨7, 9⟩)], sessOpen := true, sessToken := 3 } }

theorem witness_SessionsAndTokens :
    (inSession.acc.sessOpen = true ∧ up.acc.sessOpen = false ∧ (inSession.tgt accT).claimed.isSome = true ∧
      (inSession.tgt accT).silent = false ∧ (State.reset.tgt accT).claimed = none) ∧
    (inSession.liveReg 0x88006).field 19 8 ≠ 0 ∧ ((live [(0x88006, 0)] up).liveReg 0x88006).field 19 8 = 0 ∧
    ((0x10000 : Word).bit 16 = true ∧ inSession.acc.sessToken = 3 ∧ (0x80000 : Word).bit 16 = false) ∧
    ((up.tgt accT).watched = true ∧ (up.tgt accT).silent = false) := by decide +kernel

/-- The generator in some condition, EN = 1, the session's token with DRIVE, ranged inside at tick 0. -/
def den0 (d : Den) (now : Nat) : State :=
  live [(0x88023, 0x80140), (tokAddr 3, 0xC0007)] { inSession with
    now := now, den := d, acc := { inSession.acc with insideAt := some 0 } }

theorem witness_DriveEnable :
    (let s := den0 Den.reset 200000000
     (s.tgt denT).claimed.isSome = true ∧ s.pwr.state ≠ .idle ∧ (s.liveReg 0x88023).bit 19 = true ∧ s.den.state = .stopped ∧
     s.acc.sessOpen = true ∧ (s.liveReg (tokAddr s.acc.sessToken)).bit 18 = true ∧ s.acc.insideAt = some 0 ∧ s.clock ≤ 0 + 200000000) ∧
    ¬(den0 Den.reset 200000001).clock ≤ 0 + 200000000 ∧
    (∀ d ∈ [{ Den.reset with state := .running }, { Den.reset with state := .running, driveP := true },
        { Den.reset with state := .running, bad := true },
        { Den.reset with state := .running, driveP := true, bad := true, badRun := 1 },
        { Den.reset with state := .running, stopPend := some 1 }, { Den.reset with state := .fault }],
      ((den0 d 5).tgt denT).claimed.isSome = true ∧ ((den0 d 5).tgt denT).parked = false ∧ (den0 d 5).den = d) ∧
    (5 ≤ (Word.ofN (5 * 64)).field 13 6 ∧ (Word.ofN (250 * 64)).field 13 6 ≤ 250 ∧ (Word.ofN (5 * 64)).bit 18 = false ∧
      (Word.ofN (5 * 64)).bit 19 = false ∧ (Word.ofN (4 * 64)).field 13 6 < 5 ∧ 250 < (Word.ofN (251 * 64)).field 13 6) := by
  decide +kernel

/-! ### Vehicle buses -/

/-- A classic frame of two octets with identifier 123h. -/
def frame : List Word := [0x00002, 0x00123, 0, 0, 0, 0x02211]

/-- CAN channel 0 in use, error-active, with filter 0 open to standard identifiers; its release channel is channel 0. -/
def can0 (x : Bus) : State :=
  live [(canAddr 0 0, 0x80000), (canAddr 0 0x101, 0x80000), (0x88023, 0x40000)] { up with buses := [(0, x)] }

theorem witness_BusTransmission :
    (∀ q ∈ [[], List.replicate 32 (⟨1, frame⟩ : Queued)],
      busAccepts (can0 { Bus.reset 0 with queue := q }) 0 = true ∧
      recOk (can0 { Bus.reset 0 with queue := q }) 0 ((frame.getD 1 0).field 5 0) frame = true ∧
      ((can0 { Bus.reset 0 with queue := q }).bus 0).queue.length = q.length) ∧
    recOk (can0 (Bus.reset 0)) 0 0 [] = false ∧
    (((can0 (Bus.reset 0)).liveReg 0x88023).bit 18 = true ∧ ((can0 (Bus.reset 0)).liveReg 0x88023).field 17 14 = 0 ∧
      recOk (can0 (Bus.reset 0)) 0 1 frame = true ∧ (up.liveReg 0x88023).bit 18 = false ∧ recOk up 0 0 frame = true) ∧
    (let s := can0 { Bus.reset 0 with queue := [⟨1, frame⟩] }
     (s.bus 0).sending ≠ some 1 ∧ (∃ e ∈ (s.bus 0).queue, e.tag = 1) ∧ (∀ e ∈ (s.bus 0).queue, e.tag ≠ 2) ∧
     (s.bus 0).queue = [⟨1, frame⟩] ∧ byIdentifier s 0 = false ∧ ttActive s 0 = false ∧ busDown s 0 = false) ∧
    (let s := can0 { Bus.reset 0 with window := .send 1 false }
     (s.bus 0).window = .send 1 false ∧ busDown s 0 = false ∧ (s.bus 0).waitRef = false) := by decide +kernel

theorem witness_BusReception :
    (∀ x ∈ [Bus.reset 0, { Bus.reset 0 with window := .expect 0 false },
        { Bus.reset 0 with slots := (List.range 64).map fun k => (k, 0) }],
      busEnabled (can0 x) 0 = true ∧ ((can0 x).bus 0).state < 2 ∧ (frame.getD 0 0).field 19 18 ≠ 2 ∧
      canFilter (can0 x) 0 frame = some 0 ∧ canFilter (can0 x) 0 [0x20002, 0x00123, 0, 0, 0, 0] = none) ∧
    (freeSlot (Bus.reset 0) = some 0 ∧ freeSlot { Bus.reset 0 with slots := (List.range 64).map fun k => (k, 0) } = none ∧
      freeSlot { Bus.reset 0 with slots := (List.range 63).map fun k => (k, 0) } = some 63) ∧
    Machine.Numbering (can0 (Bus.reset 0)) ∧
    busEnabled (live [(tsAddr 0 0, 0x80000)] up) 24 = true := by
  unfold Machine.Numbering; decide +kernel

theorem witness_BusErrorsAndMoves :
    (busEnabled (can0 (Bus.reset 0)) 0 = true ∧ ((can0 (Bus.reset 0)).bus 0).state < 2 ∧
      ((can0 (Bus.reset 0)).bus 0).sending = none ∧ ((can0 (Bus.reset 0)).bus 0).queue = [] ∧
      ((can0 (Bus.reset 0)).liveReg (canAddr 0 0)).bit 15 = false) ∧
    ((can0 { Bus.reset 0 with sending := some 1 }).bus 0).sending = some 1 ∧
    ((can0 { Bus.reset 0 with suspended := true }).bus 0).suspended = true ∧
    (((can0 (Bus.reset 2)).bus 0).state = 2 ∧ ((can0 { Bus.reset 2 with returning := true }).bus 0).returning = true) ∧
    (((can0 (Bus.reset 0)).bus 0).moved = false ∧
      ((can0 (Bus.reset 0)).lane (otherLane ((can0 (Bus.reset 0)).bus 0).tx)).inStep = true ∧
      ((can0 { Bus.reset 0 with moved := true }).bus 0).moved = true) ∧
    (let s := copy [(0x88023, 0x40000)] { up with keys := [(5, 12)] }
     s.keys.find? (fun p => decide (p.1 = 5)) = some (5, 12) ∧ (s.copyReg 0x88023).bit 18 = true ∧
     (s.copyReg (canAddr 0 8)).field 19 18 = 0) ∧
    (let s := copy [(0x88023, 0x40000), (canAddr 0 8, 0x40000), (canAddr 0 9, 0x00004)] { up with keys := [(5, 12)] }
     (s.copyReg (canAddr 0 8)).field 19 18 ≠ 0 ∧ (s.copyReg (canAddr 0 9)).field 7 1 ≠ 0) := by decide +kernel

/-- CAN channel 0 time-triggered in some role, two columns, with cell 1 of its matrix set. -/
def tt0 (role : Nat) (cell : Word) (x : Bus) : State :=
  live [(canAddr 0 0, 0x80000), (canAddr 0 8, Word.ofN (role * 2 ^ 18)), (canAddr 0 9, 0x00004), (0x94001, cell)]
    { up with buses := [(0, x)] }

theorem witness_TimeTriggeredCan :
    (∀ role ∈ [1, 2], ∀ x ∈ [Bus.reset 0, { Bus.reset 0 with master := true }, { Bus.reset 0 with sync := true }],
      ttActive (tt0 role 0 x) 0 = true ∧ x.state < 2 ∧ x.quiet = false ∧
      ((tt0 role 0 x).liveReg (canAddr 0 8)).field 19 18 = role ∧ (tt0 role 0 x).bus 0 = x) ∧
    (∀ k ∈ [1, 2, 3],
      let s := tt0 1 (Word.ofN (k * 2 ^ 17 + 2 * 2 ^ 11)) { Bus.reset 0 with sync := true, objects := [(2, frame)] }
      ttActive s 0 = true ∧ (s.bus 0).col + 1 < (s.liveReg (canAddr 0 9)).field 7 1 ∧ (s.bus 0).state < 2 ∧ (s.bus 0).waitRef = false ∧
      (s.liveReg (0x94000 + 0 + 0 + 1)).field 19 17 = k ∧ (s.liveReg (0x94000 + 0 + 0 + 1)).field 16 11 = 2 ∧
      (∃ p ∈ (s.bus 0).objects, p.1 = 2) ∧ (s.bus 0).sync = true ∧ (s.bus 0).master = false) ∧
    (∀ w ∈ [Window.send 2 false, Window.expect 0 false], ((tt0 1 0 { Bus.reset 0 with window := w }).bus 0).window = w) ∧
    Machine.Numbering (tt0 1 0 (Bus.reset 0)) := by
  unfold Machine.Numbering; decide +kernel

/-- LIN channel 0 in use in some condition, with an entry of table 0 that sends identifier 5 as event or response. -/
def lin0 (x : Bus) : State :=
  live [(linAddr 0 0, 0x80000), (linAddr 0 0x81, Word.ofN (1 * 2 ^ 17))] { up with buses := [(16, x)] }

theorem witness_LinAndSegments :
    (∀ x ∈ [{ Bus.reset 0 with sleepReq := true }, { Bus.reset 0 with window := .reference }, { Bus.reset 2 with returning := true },
        { Bus.reset 0 with window := .expect 5 false }, { Bus.reset 0 with window := .send 5 false }],
      busEnabled (lin0 x) 16 = true ∧ (lin0 x).bus 16 = x ∧ x.quiet = false ∧ x.resume = [] ∧
      ((lin0 x).liveReg (linAddr 0 2)).field 19 18 = x.table ∧ x.entry + 1 < 32 ∧ awake (lin0 x) = true ∧
      (linEntry (lin0 x) 0 x.table (x.entry + 1)).field 19 17 ≠ 0) ∧
    busDown (lin0 { Bus.reset 0 with window := .send 5 false }) 16 = false ∧
    (let s := copy [(0x9E006, 0x00080)] { State.reset with pwr := { Pwr.reset with state := .parked } }
     awake s = false ∧ (s.copyReg 0x9E006).bit (7 + 0) = true ∧ s.pwr.held = none) ∧
    (let s := live [(tsAddr 0 0, 0x80000), (tsAddr 0 8, 0x80000)] { up with buses := [(24, { Bus.reset 0 with present := 1 })] }
     busEnabled s 24 = true ∧ (s.bus 24).quiet = false ∧ (s.liveReg (tsAddr 0 8)).bit 19 = true ∧
     (s.bus 24).present.getLsbD 0 = true ∧ (s.bus 24).present.getLsbD 1 = false) := by decide +kernel

/-! ### More cases of access and of the buses -/

theorem witness_Access_more :
    ((roundOf [answer]).acc.round.map Round.retry = some none ∧ (∃ b ∈ [answer], b.idx = 3 ∧ b.retry = false) ∧ (∀ b ∈ [answer], b.idx ≠ 4) ∧
      ((roundOf [{ answer with heard := .collided }]).acc.round.map Round.answers) = some [{ answer with heard := .collided }]) ∧
    ((8 : Nat).testBit 3 = true ∧ (8 : Nat).testBit 4 = false ∧ ∀ b ∈ [answer], b.idx = 3 → b.retry = false) ∧
    (let s := roundOf [answer]
     tokenAt s 3 = some ⟨7, 9⟩ ∧ tokenAt s 4 = none) ∧
    (let s := den0 { Den.reset with state := .running } 5
     (s.tgt denT).claimed.isSome = true ∧ (s.tgt denT).watched = true ∧ s.den.stopPend = none ∧
     (s.liveReg 0x88023).bit 19 = true ∧ s.acc.sessOpen = true ∧ (s.liveReg (tokAddr 3)).bit 18 = true ∧ s.clock ≤ 0 + 200000000) := by
  decide +kernel

theorem witness_BusTransmission_more :
    let s := can0 { Bus.reset 0 with queue := [⟨1, frame⟩, ⟨2, frame⟩] }
    (s.bus 0).sending = none ∧ (nextQueued s 0).map Queued.tag = some 1 ∧ ((nextQueued s 0).map Queued.tag ≠ some 2) ∧
    (∃ e ∈ (s.bus 0).queue, e.tag = 2) ∧ busAccepts s 0 = true := by decide +kernel

theorem witness_BusReception_more :
    (∀ p ∈ [(16, { Bus.reset 0 with window := .expect 35 false }), (24, Bus.reset 0)],
      let s := live [(linAddr 0 0, 0x80000), (tsAddr 0 0, 0x80000)] { up with buses := [p] }
      busAccepts s p.1 = true ∧ busEnabled s p.1 = true ∧ (s.bus p.1).state < 2 ∧ freeSlot (s.bus p.1) = some 0) ∧
    (frame.getD 1 0).field 5 0 = 35 ∧ tsFilter (live [(tsAddr 0 0, 0x80000)] up) 0 [0, 0, 0, 0, 0, 0xFFFF, 0xFFFF, 0xFFFF] = some 1 ∧
    busAccepts (can0 (Bus.reset 0)) 0 = true ∧
    (∀ n ∈ [256, 257], let fr : List Word := [Word.ofN (2 * 2 ^ 18 + n)]
      let s := live [(canAddr 0 0, 0xA0000)] { up with buses := [(0, Bus.reset 0)] }
      (fr.getD 0 0).field 19 18 = 2 ∧ (recLen fr ≤ 256 ↔ n = 256) ∧ formatOn s 0 fr = true ∧
      formatOn (can0 (Bus.reset 0)) 0 fr = false ∧ busAccepts s 0 = true ∧ busEnabled s 0 = true) ∧
    formatOn (can0 (Bus.reset 0)) 0 frame = true ∧
    (let s := can0 { Bus.reset 0 with slots := [(63, 5)] }
     (s.lane (otherLane (s.bus 0).tx)).inStep = true ∧ (∃ p ∈ (s.bus 0).slots, p.1 = 63) ∧
     ∀ p ∈ (s.bus 0).slots, p.1 ≠ 62) := by decide +kernel

theorem witness_BusErrorsAndMoves_more :
    (∀ x ∈ [{ Bus.reset 0 with suspended := true }, { Bus.reset 1 with tec := 200 }],
      busEnabled (can0 x) 0 = true ∧ ((can0 x).bus 0).state < 2) ∧
    (((can0 (Bus.reset 0)).bus 0).state ≠ 2 ∧ busEnabled (can0 (Bus.reset 2)) 0 = true ∧
      busAccepts (can0 (Bus.reset 2)) 0 = true) ∧
    (∀ b ∈ [1000000, 999999],
      let s := copy [(0x88023, 0x40C80)] { up with
        keys := [(5, 12)], lanes := { up.lanes with released := some 0 }, ply := { up.ply with boundary := b } }
      (s.copyReg 0x88023).bit 18 = true ∧ s.upd.stage ≠ .paused ∧ (s.copyReg 0x88023).field 13 6 = 50 ∧
      (s.pwr.elapsed + s.ply.boundary < 0 + 20000 * (s.copyReg 0x88023).field 13 6 ↔ b = 999999)) := by decide +kernel

theorem witness_TimeTriggeredCan_more :
    (∀ x ∈ [Bus.reset 2, { Bus.reset 0 with refs := 1 }, { Bus.reset 0 with master := true }],
      ttActive (tt0 2 0 x) 0 = true ∧ (tt0 2 0 x).bus 0 = x) ∧
    (let s := tt0 1 (Word.ofN (4 * 2 ^ 17)) { Bus.reset 0 with window := .arbitrate }
     ttActive s 0 = true ∧ (s.bus 0).col + 1 < (s.liveReg (canAddr 0 9)).field 7 1 ∧ (s.bus 0).window = .arbitrate ∧
     (s.liveReg (0x94000 + 0 + 0 + 1)).field 19 17 = 4) ∧
    (∀ r ∈ [0, 1, 2], (Bus.reset 0).waitRef = false ∧ { Bus.reset 0 with refs := r }.refs = r) ∧
    ((tt0 1 0 { Bus.reset 0 with sync := true }).bus 0).sync = true ∧ { Bus.reset 0 with sync := true }.master = false ∧
    (∀ x ∈ [Bus.reset 0, { Bus.reset 0 with master := true, cycle := 63 }],
      let s := { tt0 2 0 x with live := ((tt0 2 0 x).setLive (canAddr 0 8) 0xA2800).live, now := 19999 }
      ttActive s 0 = true ∧ x.quiet = false ∧ (s.liveReg (canAddr 0 8)).field 19 18 = 2 ∧
      (x.master = true ∨ x.refs = 0) ∧ (s.liveReg (canAddr 0 8)).bit 17 = true ∧
      (if x.master = true then (x.cycle + 1) % 64 else x.cycle) = 0 ∧
      s.now % 20000 ≠ 100 * (s.liveReg (canAddr 0 12)).field 19 12) := by
  decide +kernel

theorem witness_LinAndSegments_more :
    (∀ x ∈ [{ Bus.reset 0 with sleepReq := true }, { Bus.reset 0 with window := .reference }, { Bus.reset 2 with returning := true }],
      busAccepts (lin0 x) 16 = true ∧ busEnabled (lin0 x) 16 = true ∧ (lin0 x).bus 16 = x) ∧
    (let s := copy [(0x9E006, 0x00080)] { State.reset with pwr := { Pwr.reset with state := .parked } }
     busAccepts s 16 = false ∧ asleep s = true) ∧
    (let s := live [(tsAddr 0 0, 0x98000), (tsAddr 0 8, 0x80000)] { up with buses := [(24, Bus.reset 0)] }
     busAccepts s 24 = true ∧ busEnabled s 24 = true ∧ (s.bus 24).quiet = false ∧ 0 + 1 < (s.liveReg (tsAddr 0 0)).field 18 15 ∧
     1 + 1 < (s.liveReg (tsAddr 0 0)).field 18 15 ∧ ¬(2 + 1 < (s.liveReg (tsAddr 0 0)).field 18 15)) := by decide +kernel
/-! ### The Board and its arbiters -/

theorem witness_BoardRequestsAndTables :
    verdict up 29 false 0x20000 false .none ≠ .ok ∧
    (targetOf 0x20000 = some 0 ∧ targetOf 0x5FFFF = some 0 ∧ fixedRefuses up 0 29 false 0x20000 true = false ∧
      ownSwin 29 0x20000 true = false ∧ (∀ e : Nat, e < 64 → entryMatches up 0 e 29 false 0x20000 = false)) ∧
    (entryMatches up 0 0 28 true 0x20000 = true ∧ fixedRefuses up 0 28 true 0x20000 true = false ∧
      ownSwin 28 0x20000 true = false ∧ (tableWord up.tables 0 0 0).bit 7 = true ∧ (tableWord up.tables 0 0 0).bit 8 = true ∧
      (tableWord up.tables 0 0 0).bit 6 = true) ∧
    (let s := { up with tables := [(0x9B003, 0x80000), (0x9B004, 0), (0x9B005, 0xFFFFF)] }
     entryMatches s 0 0 29 false 0x20000 = false ∧ entryMatches s 0 1 29 false 0x20000 = true ∧
     (tableWord s.tables 0 1 0).bit 7 = false ∧ (tableWord s.tables 0 1 0).bit 8 = false) := by decide +kernel

/-- White's arbiter of bank 0 of Board SRAM in some condition, under some lock. -/
def arb0 (x : Arb) (k : TargetLock) : State := { up with white := { up.white with arbs := [(0, x)], locks := [(0, k)] } }

theorem witness_ArbitersGrantByAge :
    (verdict up 28 true 0x20000 false .start = .ok ∧ targetOf 0x20000 = some 0 ∧ arbIndex 0 ((0x20000 - 0x20000) / 0x8000) = 0) ∧
    (∀ p ∈ [((⟨5, [], 9, none⟩ : Arb), TargetLock.reset), (⟨5, [⟨3, 8, .none, false, none⟩], 9, none⟩, { TargetLock.reset with owner := some 28 }),
        (⟨5, [⟨3, 8, .none, false, none⟩], 9, none⟩, TargetLock.reset), (⟨5, [], 10, none⟩, TargetLock.reset),
        (⟨5, [], 9, none⟩, { TargetLock.reset with owner := some 3 }), (⟨5, [], 9, none⟩, { TargetLock.reset with recovering := true })],
      verdict (arb0 p.1 p.2) 28 true 0x20000 false .start = .ok ∧ ((arb0 p.1 p.2).lane .white).arb 0 = p.1 ∧
      ((arb0 p.1 p.2).lane .white).lock 0 = p.2 ∧ ∀ q ∈ p.1.queue, q.master ≠ 28) ∧
    (∃ q ∈ (⟨5, [⟨28, 8, .none, false, none⟩], 9, none⟩ : Arb).queue, q.master = 28) ∧
    (let x : Arb := ⟨5, [⟨24, 8, .none, false, none⟩, ⟨4, 8, .none, false, none⟩, ⟨31, 7, .start, false, none⟩, ⟨25, 7, .none, false, none⟩], 9, none⟩
     let above (q : BoardReq) : Nat := (q.master + 32 - x.pointer) % 32
     (x.queue.Pairwise fun p q => p.master ≠ q.master) ∧ (⟨25, 7, .none, false, none⟩ ∈ x.queue) ∧
     (∀ q ∈ x.queue, q ≠ ⟨25, 7, .none, false, none⟩ → 7 < q.age ∨ (7 = q.age ∧ above ⟨25, 7, .none, false, none⟩ < above q)) ∧
     (∀ q ∈ x.queue, q.master ≠ 3) ∧ (⟨4, 8, .none, false, none⟩ ∈ x.queue)) ∧
    (let s := (arb0 ⟨0, [⟨2, 8, .none, false, none⟩], 9, none⟩ TargetLock.reset).setCore 2
        { runs with wait := some ⟨0x20000, false, .none, 0⟩ }
     viewLane s = .white ∧ (s.core 2).wait = some ⟨0x20000, false, .none, 0⟩ ∧ (s.core 2).state = .running) ∧
    (up.upd.stage = .idle ∧ up.lanes.castle = none) := by decide +kernel

theorem witness_NoLockOfMaster (m : Nat) : ∀ (l : Lane) (t : Nat), ((up.lane l).lock t).owner ≠ some m := by
  intro l t h; cases l <;> exact nomatch h

theorem witness_TablesTakeEffectAtTheBoundary :
    let s := { up with ply := Ply.reset, commitPend := true, shadow := [(0x9B003, 0x801C0)] }
    s.lanes.castle = none ∧ s.upd.stage = .idle ∧ s.seq.running = true ∧ s.seq.ended = false ∧ (activeLane s).isSome = true ∧
    s.seq.spilled = 0 ∧ s.seq.held = [] ∧ s.seq.window = [] ∧ s.seq.next % 2 ^ 40 ≠ 0 ∧ s.seq.next + 1 < 2 ^ 60 ∧
    s.ply.phase = .none ∧ s.lanes.promo = none := by decide +kernel

theorem witness_LocksAndCounters :
    (∀ t ∈ [0, 8, 11],
      let s := { up with black := { up.black with locks := [(t, { TargetLock.reset with owner := some 4 })] } }
      ((s.lane .black).lock t).owner = some 4 ∧ (s.lane .black).role ≠ .active) ∧
    ((up.lane .black).lock 3).owner = none ∧ (17 : BitVec 5).toNat ≤ 17 ∧ 17 < (18 : BitVec 5).toNat := by decide +kernel

theorem witness_MasterWrites :
    verdict up 28 (masterSecure up 28) 0x5FFFF true .none = .ok ∧ verdict up 29 (masterSecure up 29) 0x20000 true .none ≠ .ok ∧
    (verdict up 0 (masterSecure up 0) (0x9C040 + 3) true .none = .ok ∧ (up.core 0).localProg = false) ∧
    (let s := copy [(0x9C044, 0x10001)] { up with
       cores := [(1, { runs with localProg := true })],
       tables := [(0x9B000 + 0xC0 * 12 + 3, 0x801C0), (0x9B000 + 0xC0 * 12 + 4, 0x9C000), (0x9B000 + 0xC0 * 12 + 5, 0x9CFFF)] }
     (s.core 1).localProg = true ∧ (s.copyReg 0x9C044).field 19 12 = 0x10 ∧
     verdict s 1 (masterSecure s 1) (0x9C044 + 3) true .none = .ok) := by decide +kernel

theorem witness_MailboxPostAndAck :
    (let s := { copy [(0x9AC00, 0x81100)] up with mbx := { Mailboxes.reset with chans := [(0, { Mbx.reset with queue := [[1], [2]] })] } }
     ¬((mbxCfg s 0).bit 18 = true ∧ masterSecure s 1 = false) ∧ 1 = mbxSender s 0 ∧ 2 = mbxReceiver s 0 ∧ mbxOn s 0 = true ∧
     (s.box 0).queue.length = 2 ∧ ((s.mbx.acks.filter fun p => p.1 = 0).map (·.2)).sum = 0 ∧ 29 ≠ mbxSender s 0 ∧
     29 ≠ mbxReceiver s 0) ∧
    ((0x80008 : Word).field 3 0 ≤ 8 ∧ (0x80008 : Word).bit 19 = true ∧ (0x00008 : Word).bit 19 = false ∧
      8 < (0x80009 : Word).field 3 0 ∧ (0x20000 : Word).field 19 16 = 2 ∧ (0x30000 : Word).field 19 16 = 3) ∧
    mbxOn up 0 = false := by decide +kernel

/-! ### Kwask cores -/

theorem witness_UnitResults :
    (∀ u ∈ [0, 1, 2, 3, 4], Issues (core0 runs) 0 u 0 ∧ Issues (core0 { runs with ready := [(u, 7)] }) 0 u 7) ∧
    (core0 runs).core 0 = runs ∧ runs.divO = 0 ∧ ((core0 { runs with divO := 0xFFFFF }).core 0).divO = 0xFFFFF := by
  unfold Issues; decide +kernel

theorem witness_LoadsAndStores :
    (Issues (core0 runs) 0 5 0 ∧ ((core0 runs).core 0).wait = none ∧ ((core0 runs).core 0).localProg = false) ∧
    (let s := { core0 runs with black := { up.black with role := .out } }
     Issues s 0 5 0 ∧ viewLane s = .white ∧ (s.lane .black).inStep = false ∧ ((s.lane .white).lock 0).recovering = false ∧
     ((s.lane .white).arb 0).busyUntil ≤ laneCycle s 0 ∧ ((s.lane .white).arb 0).queue = [] ∧
     ((s.lane .white).lock 0).owner = none ∧
     ∀ lk ∈ [LockFlag.none, .start, .release],
       verdict s 0 (masterSecure s 0) 0x20000 false lk = .ok ∧ verdict s 0 (masterSecure s 0) 0x20000 true lk = .ok) := by
  unfold Issues; decide +kernel

theorem witness_BranchesAndStacks :
    (∀ k ∈ [runs, { runs with bruO := 1 }, { runs with stack := [5], rstack := [16383] }, { runs with pc := 16382, localProg := true }],
      ((core0 k).core 0).state = .running ∧ ((core0 k).core 0).done = false ∧ ((core0 k).core 0).used < kwLimit (core0 k) 0 ∧
      (core0 k).core 0 = k ∧ k.pc < 16383 ∧ k.stack.length < 256 ∧ k.rstack.length < 64 ∧
      max (k.used + 1) (k.readyAt 5) < kwLimit (core0 k) 0) ∧ (16383 : Word).toNat ≤ 16383 := by decide +kernel

theorem witness_BundleReadsBeforeItWrites :
    (let k := { runs with
       localProg := true, program := [(0, Word.ofN (0 * 2 ^ 11 + 31 * 4)), (1, Word.ofN (31 * 2 ^ 11 + 0 * 4)),
         (2, Word.ofN (0 * 2 ^ 11 + 31 * 4 + 1))] }
     let word (n : Nat) : Word := Sparse.get (fun _ => 0) k.program (3 * k.pc + n)
     (core0 k).core 0 = k ∧ k.used < kwLimit (core0 k) 0 ∧ word 0 = Word.ofN (0 * 2 ^ 11 + 31 * 4) ∧
     word 1 = Word.ofN (31 * 2 ^ 11 + 0 * 4) ∧ word 2 = Word.ofN (0 * 2 ^ 11 + 31 * 4 + 1) ∧ k.g0 = false ∧ k.pc < 16383) ∧
    (let k := { runs with
       localProg := true, program := [(0, Word.ofN (0 * 2 ^ 11 + 0x7F * 4)), (1, Word.ofN (31 * 2 ^ 11))] }
     let word (n : Nat) : Word := Sparse.get (fun _ => 0) k.program (3 * k.pc + n)
     (core0 k).core 0 = k ∧ word 0 = Word.ofN (0 * 2 ^ 11 + 0x7F * 4) ∧ word 1 = Word.ofN (31 * 2 ^ 11)) := by decide +kernel

theorem witness_CoreControl :
    (∀ c ∈ [0, 1], verdict up 0 (masterSecure up 0) (0x9D100 + 8 * c) true .none = .ok) ∧
    (up.core 1).state = .unloaded ∧ ((core0 runs).core 0).state ≠ .unloaded ∧
    verdict (core0 runs) 0 (masterSecure (core0 runs) 0) 0x9D100 true .none = .ok := by decide +kernel

/-! ### More cases of the Board and the cores -/

/-- Both lanes hold target `t` under the lock of master `o`; Black is out. -/
def lockedBy (t o : Nat) (s : State) : State :=
  { s with
    white := { s.white with locks := [(t, { TargetLock.reset with owner := some o })] },
    black := { s.black with role := .out, locks := [(t, { TargetLock.reset with owner := some o })] } }

theorem witness_BoardRequestsAndTables_more :
    (∀ p ∈ [(5, 0x9AC01), (28, 0x00005), (29, 0x9FFFF), (31, 0x9FFFF)],
      verdict up p.1 (masterSecure up p.1) p.2 true .none ≠ .ok) ∧ (up.core 5).localProg = false ∧
    (0xC000 : Word).toNat = 0xC000 ∧ (0x1BFFF : Word).toNat < 0x1C000 ∧
    (let s := { up with tables := [(0x9B003, 0x80180), (0x9B004, 0), (0x9B005, 0xFFFFF)] }
     entryMatches s 0 1 29 false 0x20000 = true ∧ (∀ d : Nat, d < 1 → entryMatches s 0 d 29 false 0x20000 = false) ∧
     (tableWord s.tables 0 1 0).bit 7 = true ∧ (tableWord s.tables 0 1 0).bit 8 = true ∧ (tableWord s.tables 0 1 0).bit 6 = false) := by
  decide +kernel

theorem witness_ArbitersGrantByAge_more :
    (let b : AtOnce := ⟨⟨3, 20, .none, false, none⟩, 27, 9, TargetLock.reset, ⟨0, 0, 0⟩⟩
     let s := arb0 ⟨4, [], 21, some b⟩ TargetLock.reset
     ((s.lane .white).arb 0).atOnce = some b ∧ b.req.age = 20 ∧ b.lock.owner = none ∧ b.req.master ≠ 28 ∧
     (28 + 32 - b.pointer) % 32 < (b.req.master + 32 - b.pointer) % 32 ∧ b.req.age ≠ 21 ∧
     verdict s 28 (masterSecure s 28) 0x20000 false .none = .ok ∧
     ∀ k : Fin 8, ∀ q ∈ ((s.lane .white).arb (arbIndex 0 k)).queue, q.master ≠ 28) ∧
    (let r : BoardReq := ⟨28, 8, .none, true, some (0x20000, 5)⟩
     let s := arb0 ⟨0, [r], 9, none⟩ TargetLock.reset
     viewLane s = .white ∧ r ∈ ((s.lane .white).arb 0).queue ∧ r.put = some (0x20000, 5) ∧ Lane.black ≠ viewLane s ∧
     ((s.lane .white).lock 0).recovering = false ∧ ((s.lane .white).arb 0).busyUntil ≤ 9) := by decide +kernel

theorem witness_LocksAndCounters_more :
    (∀ t ∈ [3, 14, 16, 17],
      let s := { up with black := { up.black with locks := [(t, { TargetLock.reset with owner := some 4, wrote := true })] } }
      ((s.lane .black).lock t).owner = some 4 ∧ ((s.lane .black).lock t).wrote = true ∧ (s.lane .black).role ≠ .active) ∧
    (∀ p ∈ [none, some 4], (({ up with buses := [(0, { Bus.reset 0 with part := p })] }).bus 0).part = p) ∧
    lockedOut up (viewLane up) 11 28 = false := by decide +kernel

theorem witness_MasterWrites_more :
    (let s := lockedBy 0 4 up
     lockedOut s (viewLane s) 0 28 = true ∧ (s.lane (otherLane (viewLane s))).inStep = false ∧
     verdict s 28 (masterSecure s 28) 0x20000 true .none = .ok ∧
     ∀ b : Fin 8, ∀ q ∈ ((s.lane (viewLane s)).arb (arbIndex 0 b)).queue, q.master ≠ 28) ∧
    lockedOut up (viewLane up) 0 28 = false ∧ lockedOut up (viewLane up) 0 31 = false ∧
    targetOf (0x9C040 + 3) = some 12 ∧ lockedOut up (viewLane up) 12 0 = false ∧
    (up.lane .white).inStep = true ∧ (State.reset.lane .white).inStep = false := by decide +kernel

theorem witness_MasterWrites_debug :
    let s := { up with sup := { up.sup with dbgEn := true }, tables := [(0x9B003, 0x801C0), (0x9B004, 0), (0x9B005, 0xFFFFF)] }
    verdict s 31 (masterSecure s 31) 0x20000 true .none = .ok ∧ lockedOut s (viewLane s) 0 31 = false := by decide +kernel

theorem witness_Mailboxes_more :
    lockedOut up (viewLane up) 10 1 = false ∧
    (let s := copy [(0x9AC00, 0x81100)] { up with
       tables := [(0x9B000 + 0xC0 * 10 + 3, 0x801C0), (0x9B000 + 0xC0 * 10 + 4, 0), (0x9B000 + 0xC0 * 10 + 5, 0xFFFFF)] }
     verdict s 1 (masterSecure s 1) (0x9AC00 + 1) true .none = .ok ∧ verdict s 2 (masterSecure s 2) (0x9AC00 + 7) true .none = .ok) := by
  decide +kernel

theorem witness_LoadsAndStores_more :
    let s := lockedBy 0 0 (core0 runs)
    Issues s 0 5 0 ∧ ((s.lane .white).lock 0).owner = some 0 ∧ ((s.core 0).wait = none) ∧
    verdict s 0 (masterSecure s 0) 0x20000 true .none = .ok ∧ (0x1C201 : Word).toNat = 0x1C201 := by
  unfold Issues; decide +kernel

theorem witness_CoreControl_more :
    targetOf 0x9D100 = some 13 ∧ lockedOut up (viewLane up) 13 0 = false ∧ 0 ≠ 31 ∧
    ((core0 { runs with localProg := true }).core 0).localProg = true := by decide +kernel
/-! ### The lanes and their plies -/

theorem witness_LaneResets :
    (up.upd.stage = .idle ∧ up.lanes.castle = none) ∧ (up.lane .black).inStep = true ∧ activeLane up = some .white ∧
    ((core0 runs).core 0).state = .running ∧ ((core0 runs).core 0).done = false ∧ ((core0 runs).lane .white).inStep = true ∧
    (let s := { up with black := { up.black with role := .out } }
     (s.lane .black).inStep = false ∧ s.upd.stage = .idle ∧ s.lanes.castle = none) := by decide +kernel

/-- Target 3 claimed by White in some condition; Black OUT. -/
def tgt3 (g : Target) : State := { up with black := { up.black with role := .out } }.setTgt 3 g

theorem witness_TargetCommands :
    let g := { Target.reset with claimed := some .white, last := 0xFFFFF, stampPly := 7, stampIdx := 2 }
    let d (c : BitVec 20) : Nat := (c.toNat + 2 ^ 20 - g.last) % 2 ^ 20
    ((tgt3 g).tgt 3 = g ∧ g.handover = none ∧ g.claimed ≠ some .black ∧ standbyLane (tgt3 g) = none) ∧
    (d 0xFFFFF = 0 ∧ d 0 = 1 ∧ d 1 = 2 ∧ d 0x7FFFF = 524288 ∧ d 0x80000 = 524289) ∧
    (standbyLane up).isSome = true ∧ (up.tgt 3).claimed = some .white ∧ (up.tgt 3).handover = none ∧
    (State.reset.tgt 3).claimed = none ∧ (up.lane .white).stale = false ∧
    ({ up with white := { up.white with stale := true } }.lane .white).stale = true ∧
    (let h := { g with shadows := [⟨5, .park, 7, 2, false⟩] }
     (tgt3 h).tgt 3 = h ∧ h.claimed.isSome = true ∧ h.shadows = [⟨5, .park, 7, 2, false⟩] ∧
     (∀ k ∈ h.shadows, k.count ≠ 6) ∧ Content.park ≠ .close) ∧ Machine.Numbering (tgt3 g) := by
  unfold Machine.Numbering; decide +kernel

theorem witness_JoiningAndPromotion :
    (up.lanes.castle = none ∧ Machine.Numbering up) ∧
    (activeLane up = some .white ∧ up.upd.stage = .idle ∧ up.seq.running = true ∧ standbyLane up = some .black ∧
      up.ply.phase = .b ∧ (up.lane .black).role ≠ .joining ∧ up.lanes.divLock = false) ∧
    (∀ b ∈ [false, true],
      let s := { up with
        black := { up.black with role := .out, imageId := if b then 9 else up.white.imageId },
        lanes := { up.lanes with joinEn := b, divLock := b } }
      activeLane s = some .white ∧ (s.lane .black).role = .out ∧ (s.lane .black).boot = .started ∧ s.lanes.joinEn = b ∧
      s.lanes.divLock = b ∧ standbyLane s = none ∧ joiningLane s = none) ∧
    (∀ n ∈ [1, 2],
      let s := { up with black := { up.black with role := .joining, joinStage := n + 2, joinTries := n } }
      (s.lane .black).role = .joining ∧ ((s.lane .black).joinStage ≤ 3 ∨ 4 ≤ (s.lane .black).joinStage) ∧
      2 ≤ (s.lane .black).joinStage ∧ (s.lane .black).stale = false ∧
      ((s.lane .black).joinTries + 1 < 3 ∨ 3 ≤ (s.lane .black).joinTries + 1) ∧ joiningLane s = some .black ∧
      standbyLane s = none ∧ s.seq.running = true) := by
  unfold Machine.Numbering; decide +kernel

theorem witness_PlyPhases :
    (State.reset.seq.running = false ∧ { up.seq with ended := true }.ended = true) ∧
    (up.seq.running = true ∧ up.seq.ended = false ∧ (activeLane up).isSome = true ∧ up.seq.spilled = 0 ∧ up.seq.held = [] ∧
      up.seq.next % 2 ^ 40 ≠ 0 ∧ up.seq.next + 1 < 2 ^ 60 ∧ up.seq.window = [] ∧ up.lanes.promo = none ∧ up.ply.phase = .b ∧
      { up with ply := Ply.reset }.ply.phase = .none) ∧
    activeLane { up with white := { up.white with stale := true, role := .out } } = none ∧
    (Machine.Numbering up ∧ 1024 ≤ { up.seq with used := 1024 }.used) ∧
    ((standbyLane up).isSome = true ∧
      (let s := { up with seq := { up.seq with next := 2 ^ 40 + 6 } }
       s.seq.agreed < 2 ^ 40 + 5 ∧ 2 ^ 40 + 5 < s.seq.next)) ∧
    (let s := { up with ply := { up.ply with phase := .a } }
     s.ply.phase = .a ∧ s.ply.number ≤ s.seq.agreed ∧ s.upd.stage = .idle ∧ s.upd.cfg = none ∧ s.upd.diffs = []) ∧
    (coresBusy up = false ∧ up.pwr.entering = false ∧
      coresBusy (core0 { runs with localProg := true }) = true) ∧
    (let s := { up with ply := { up.ply with phase := .c } }
     s.ply.phase = .c ∧ joiningLane s = none ∧ standbyLane s = some .black ∧ activeLane s = some (otherLane .black) ∧
     s.lanes.castle = none ∧ s.upd.stage = .idle ∧ s.lanes.divLock = false) ∧
    (let s := { up with ply := { up.ply with phase := .d } }
     s.ply.phase = .d ∧ s.lanes.resetReq = [] ∧ s.host.owed = [] ∧ (∀ i ∈ s.seq.window, i.src ≠ 0) ∧
     s.seq.used + (plyRecords s).length ≤ 1024 ∧ (s.seq.next + (plyRecords s).length) / 2 ^ 40 = s.seq.next / 2 ^ 40 ∧
     s.seq.next + (plyRecords s).length < 2 ^ 60 ∧ s.ring.length ≤ 6400) := by
  unfold Machine.Numbering; decide +kernel

/-! ### Supplies, resets and starts -/

theorem witness_SupplyEvents :
    Machine.Numbering up ∧ up.sup.powerFail = false ∧ { up.sup with powerFail := true }.powerFail = true ∧
    (∃ n : Fin 176, feedOf n = .a) ∧ (∃ n : Fin 176, feedOf n = .b) ∧ up.sup.aoLp = false ∧
    { up.sup with aoLp := true }.aoLp = true ∧ (up.lane .white).role ≠ .out := by
  unfold Machine.Numbering; decide +kernel

theorem witness_ModuleAndTileResets :
    { up with sup := { up.sup with powerFail := true } }.sup.powerFail = true ∧ up.sup.powerFail = false ∧
    { up with seq := { up.seq with ended := true } }.seq.ended = true ∧ up.seq.ended = false ∧
    { up with host := { up.host with resetPort := some .white } }.host.resetPort.isSome = true ∧ up.host.resetPort = none ∧
    (let s := { State.reset with updWhite := { Upd.reset with recovery := true } }
     activeLane s = none ∧ s.updWhite.recovery = true) ∧ (activeLane up).isSome = true ∧ Machine.Numbering up := by
  unfold Machine.Numbering; decide +kernel

/-- A lane of a module that starts, in some stage, both VLOG inputs present. -/
def starting (g : LaneSt → LaneSt) : State :=
  { State.reset with
    white := g State.reset.white, black := g State.reset.black,
    sup := { State.reset.sup with vlogA := ⟨true, false⟩ }, pwr := { Pwr.reset with state := .idle } }

theorem witness_StartSequence :
    (State.reset.pwr.state ≠ .parked ∧ State.reset.pwr.state ≠ .deep ∧ State.reset.white.boot = .held ∧
      State.reset.black.boot = .held ∧ State.reset.sup.aoOk = false) ∧
    (let s := starting id
     (s.lane .white).boot = .held ∧ mayBoot s = true ∧ mayJoin s .white = false) ∧
    (let s := { up with
       sup := { up.sup with vlogA := ⟨true, false⟩ }, black := { up.black with role := .out, boot := .held } }
     (s.lane .black).boot = .held ∧ (s.lane .black).role = .out ∧ mayBoot s = true ∧ mayJoin s .black = true) ∧
    (let s := starting fun g => { g with boot := .code }
     (s.lane .white).boot ≠ .held ∧ (s.lane .white).boot = .code ∧ (s.lane .white).pll = false ∧ s.seq.running = false ∧
     s.pwr.waking = false ∧ (s.lane .white).nvm.fw.active = some ⟨1, 1, 1, true⟩) ∧
    (let s := starting fun g => { g with
       boot := .code, nvm := { g.nvm with fw := ⟨some ⟨3, 1, 1, false⟩, none, some ⟨2, 1, 1, true⟩⟩ } }
     (s.lane .white).boot = .code ∧ (s.lane .white).nvm.fw.active = some ⟨3, 1, 1, false⟩ ∧
     (s.lane .white).restarted = false ∧ s.pwr.waking = false ∧ (s.lane .white).nvm.fw.fallback = some ⟨2, 1, 1, true⟩) := by
  decide +kernel

/-- More clauses of StartSequence, from the lock of a wake to the first active ply. -/
theorem witness_StartSequence_configured :
    (let s := { up with pwr := { up.pwr with locked := false, clk := false } }
     (s.lane .white).boot ≠ .held ∧ (s.lane .white).pll = false ∧ s.seq.running = true ∧ s.pwr.clk = false ∧
     s.pwr.locked = false ∧ Machine.Numbering (s.setLane .white { s.white with pll := true, clk250 := false })) ∧
    (let s := starting fun g => { g with boot := .image }
     (s.lane .white).boot = .image ∧ activeLane s = none ∧ (s.lane .white).restarted = false) ∧
    (let s := starting fun g => { g with boot := .image, restarted := true }
     (s.lane .white).boot = .image ∧ (s.lane .white).restarted = true) ∧
    (let s := { (starting id) with white := { State.reset.white with boot := .waiting } }
     (s.lane .white).boot = .waiting ∧ (s.lane .black).boot ≠ .waiting ∧ activeLane s = none ∧ s.lanes.start = none ∧
     (s.lane .white).cfgDefault = false ∧ s.pwr.waking = false) ∧
    (let s := starting fun g => { g with boot := .waiting }
     s.white.boot = .waiting ∧ s.black.boot = .waiting ∧ activeLane s = none ∧ s.lanes.start = none ∧
     s.white.cfgDefault = false ∧ s.white.imageId = s.black.imageId ∧ s.white.cfgDigest = s.black.cfgDigest ∧
     s.pwr.waking = false) ∧
    (let s := { (starting fun g => { g with boot := .waiting }) with lanes := { Lanes.reset with start := some .white } }
     s.lanes.start = some .white ∧ activeLane s = none ∧ (s.lane .white).restarted = false ∧
     (s.lane (otherLane .white)).boot = .waiting ∧ s.lanes.solo = false ∧ s.pwr.waking = false ∧ s.upd.stage = .idle ∧
     s.lanes.castle = none ∧ s.lanes.promo = none ∧ s.seq.window = [] ∧ s.seq.held = [] ∧ s.seq.spilled = 0 ∧
     s.seq.ended = false) := by
  unfold Machine.Numbering; decide +kernel

/-! ### Power states and updates -/

theorem witness_PowerStatesAndWakes :
    (4 < (5 : BitVec 3).toNat ∧ up.pwr.entering = false ∧ up.pwr.state ≠ .idle ∧ denRunning up = false ∧
      { up.pwr with state := .idle }.state ≠ .run) ∧
    (let s := copy [(0x9E006, 0x80000)] { up with pwr := { up.pwr with clk := true } }
     2 ≤ (2 : BitVec 3).toNat ∧ (4 : BitVec 3).toNat ≤ 4 ∧ (2 : BitVec 3).toNat ≠ s.pwr.state.code ∧ s.pwr.entering = false ∧
     s.pwr.clk = true ∧ denRunning s = false ∧ s.upd.stage = .idle ∧ s.upd.phase ≠ .confirmWait ∧ anyWake s = true) ∧
    (let p := { up.pwr with entering := true, point := 2 }
     p.entering = true ∧ p.point < 3) ∧
    { up.pwr with locked := true }.locked = true ∧ { up.pwr with locked := true }.clk = false ∧ up.pwr.locked = false ∧
    (let s := { up with pwr := { up.pwr with entering := true } }
     s.pwr.entering = true ∧ s.pwr.point = 0 ∧ s.pwr.journalDone = false ∧ nvmRefused s = false) ∧
    (∀ t ∈ [0, 2],
      let s := { up with pwr := { up.pwr with entering := true, point := 2, target := t } }
      commitReady s = true ∧ (activeLane s).isSome = true ∧ s.pwr.target = t) ∧ commitReady up = false ∧
    { up.pwr with committed := true }.committed = true ∧ up.pwr.committed = false ∧
    (let s := copy [(0x9E008, 0x01000)] { State.reset with pwr := { Pwr.reset with state := .parked } }
     s.pwr.state = .parked ∧ s.pwr.waking = false ∧ (s.copyReg 0x9E008).field 19 12 ≠ 0) ∧
    (up.seq.running = true ∧ Machine.Numbering up) ∧
    (let s := copy [(0x9E006, 0xA0000)] { State.reset with pwr := { Pwr.reset with state := .parked } }
     s.seq.running = false ∧ s.pwr.state = .parked ∧ (s.copyReg 0x9E006).bit 17 = true ∧ s.pwr.held = none ∧
     s.pwr.waking = false ∧ wakeEnabled s 1 0 = true) ∧
    (let s := { State.reset with pwr := { Pwr.reset with state := .off } }
     s.seq.running = false ∧ s.pwr.state = .off ∧ s.pwr.held = none) := by
  unfold Machine.Numbering; decide +kernel

/-- White as it serves recovery with a firmware update in some phase. -/
def recovery (p : UpdPhase) : State :=
  { State.reset with
    white := { State.reset.white with boot := .stuck }, updWhite := { Upd.reset with phase := p, recovery := true } }

theorem witness_UpdateEvents :
    (serves up .white = false ∧ Machine.Numbering up) ∧
    (serves (recovery .erasing) .white = true ∧ ((recovery .erasing).updOf (some .white)).phase = .erasing) ∧
    (serves (recovery .verifying) .white = true ∧ ((recovery .verifying).updOf (some .white)).phase = .verifying ∧
      ((recovery .verifying).updOf (some .white)).verifiedW = none ∧
      ((recovery .verifying).updOf (some .white)).verifiedB = none) ∧
    (∀ n ∈ [130, 131],
      let v := { Upd.reset with
        length := n, octets := [(0, 0x4843), (1, 0x4958), (2, 0x0176), (8, 2)] }
      v.headerOk = true ∧ v.number 16 4 + 128 = 130 ∧ v.length = n) ∧
    Upd.reset.headerOk = false ∧
    (let v := { Upd.reset with
       kind := true, length := 130, octets := [(0, 0x4843), (1, 0x4958), (2, 0x0176), (3, 1), (8, 2)] }
     v.headerOk = true ∧ v.number 16 4 + 128 = v.length ∧ v.kind = true ∧ keyHeld { up with keys := [(6, 1)] } 6 = true) ∧
    up.upd.stage ≠ .paused ∧ up.upd.stage ≠ .health ∧
    (let s := { up with ply := { up.ply with phase := .a }, upd := { Upd.reset with stage := .paused } }
     s.upd.stage = .paused ∧ activeLane s = some .white ∧ s.ply.phase = .a) ∧
    (let s := { up with upd := { Upd.reset with stage := .health } }
     s.upd.stage = .health ∧ standbyLane s = some .black) := by
  unfold Machine.Numbering; decide +kernel

/-! ### More cases of the lanes, the supplies, the power states and the updates -/

theorem witness_LaneResets_more :
    (let f : Frame :=
       { port := .white, words := [1], other := [1], time := 20000, key := none, seq := 0, ply := 3, index := 0, replay := false, ahead := false, dest := ⟨1, 2, 3⟩, order := 0 }
     let s := { up with white := { up.white with role := .standby, sent := [f] }, black := { up.black with role := .active } }
     activeLane s = some (otherLane .white) ∧ f.time ≤ s.now ∧ s.now ≤ f.time + 160000) ∧
    ((core0 runs).core 0).wait = none ∧ (up.lane .black).role = .standby ∧ Machine.Numbering up := by
  unfold Machine.Numbering; decide +kernel

theorem witness_TargetCommands_more :
    let g := { Target.reset with claimed := some .white, last := 5, stampPly := 7, stampIdx := 2 }
    let e : Emitted := ⟨3, 6, 7, 2, .park⟩
    let s := { tgt3 g with log := [⟨7, [e], [], [], false, false⟩] }
    ((7 + 2 ^ 20 - g.last) % 2 ^ 20 = 2 ∧ Sparse.get (fun _ => 0) s.ply.resends 3 < 3 ∧ (tgt3 g).log = [] ∧
      standbyLane s = none ∧ e.count = (g.last + 1) % 2 ^ 20 ∧ ((s.log.flatMap PlyLog.cmds).filter fun x =>
        decide (x.target = 3 ∧ (x.count + 2 ^ 20 - g.last) % 2 ^ 20 < 2)) = [e]) ∧
    (∀ n ∈ [2, 3], Sparse.get (fun _ => 0) { s.ply with resends := [(3, n)] }.resends 3 = n) ∧
    ((7 < g.stampPly ∨ (7 = g.stampPly ∧ 1 < g.stampIdx)) ∧ (g.stampPly < 7 ∨ (7 = g.stampPly ∧ g.stampIdx ≤ 2))) ∧
    (∀ p ∈ [(2 ^ 40 + 5, 0), (2 ^ 40 + 4, 1), (2 ^ 40 + 4, 0), (2 ^ 40 + 3, 9)],
      ((tgt3 { g with handover := some p }).tgt 3).handover = some p ∧ (tgt3 g).ply.number = 2 ^ 40 + 4) ∧
    (∀ c ∈ [none, some Lane.black], ((tgt3 { g with claimed := c }).tgt 3).claimed ≠ some .white) ∧
    (∀ d ∈ [(true, 3, 4, 5), (false, 3, 4, 5)], ((tgt3 { g with shadowDue := some d }).tgt 3).shadowDue = some d) ∧
    (g.shadows.length < 64 ∧ ∀ h ∈ g.shadows, h.count ≠ 6) ∧
    (let t := up.setTgt 3 g
     (standbyLane t).isSome = true ∧ (t.tgt 3).shadows = [] ∧ (t.tgt 3).last = 5) := by decide +kernel

theorem witness_JoiningAndPromotion_more :
    (let s := { up with black := { up.black with role := .out }, lanes := { up.lanes with divLock := true } }
     (s.lane .black).barred = false ∧ (s.lane .black).role = .out ∧ s.lanes.divLock = true) ∧
    (∀ n ∈ [3, 4],
      let s := { up with black := { up.black with role := .joining, joinStage := n, joinTries := n - 2 } }
      (s.lane .black).joinStage = n ∧ (s.lane .black).joinTries + 1 = n - 1 ∧ (s.lane .black).stale = false) ∧
    (∀ n ∈ [2, 5],
      let s := { up with black := { up.black with role := .joining, joinStage := n } }
      (s.lane .black).role = .joining ∧ (s.lane (otherLane .black)).role ≠ .joining ∧ (s.lane .black).joinStage ≠ 3 ∧
      (s.lane .black).joinStage ≠ 4 ∧ joiningLane s = some .black ∧ standbyLane s = none) ∧
    (up.seq.running = true ∧ State.reset.seq.running = false ∧ (up.lane .white).role ≠ .standby) ∧
    (let s := { up with white := { up.white with role := .out }, black := { up.black with role := .joining, joinStage := 1 } }
     joiningLane s = some .black ∧ activeLane s = none) ∧
    (let s := { up with seq := { up.seq with running := false } }
     (activeLane s).isSome = true ∧ s.seq.running = false) := by decide +kernel

theorem witness_PlyPhases_more :
    (let s := { up with seq := { up.seq with next := 2 ^ 40 + 9, unheard := [2 ^ 40 + 3] }, ply := { up.ply with phase := .a } }
     (standbyLane s).isSome = true ∧ (∃ n ∈ s.seq.unheard, n ≤ s.ply.number) ∧ 2 ^ 40 + 8 < s.seq.next ∧ 2 ^ 40 + 3 ≤ s.seq.agreed) ∧
    (let s := { up with ply := { up.ply with phase := .a } }
     s.ply.phase = .a ∧ s.ply.number ≤ s.seq.agreed ∧ ∀ n ∈ s.seq.unheard, s.ply.number < n) ∧
    (let s := { up with ply := { up.ply with phase := .a }, seq := { up.seq with agreed := 2 ^ 40 + 3 } }
     s.seq.agreed < s.ply.number) ∧
    (up.ply.blocked = false ∧ coresBusy up = false ∧ ∀ e : Nat, e < 4 → (up.dma e).busy = false) ∧
    (let s := { up with
       black := { up.black with role := .out },
       targets := (List.range 45).map fun t => (t, { Target.reset with claimed := some .white, last := 4, sent := 4 }) }
     s.lanes.linkFailed = none ∧ s.lanes.castle = none ∧ s.ply.cmds = [] ∧ s.ply.slots = [] ∧ s.cores = [] ∧
     ∀ t : Fin 45, (s.tgt t).last = (s.tgt t).sent ∧ (s.tgt t).sent < 2 ^ 20) ∧
    (∀ n ∈ [1, 2],
      let s := { up with ply := { up.ply with phase := .c }, lanes := { up.lanes with divTimes := List.replicate n 100 } }
      s.ply.debugged = none ∧ (s.lanes.divTimes.filter fun x => decide (s.clock < x + 360000000000)).length = n) ∧
    (let s := { up with seq := { up.seq with used := 1024 } }
     s.seq.running = true ∧ s.seq.ended = false ∧ (activeLane s).isSome = true ∧ 1024 ≤ s.seq.used) ∧
    (standbyLane State.reset = none ∧ up.seq.next ≤ 2 ^ 40 + 5) := by decide +kernel

theorem witness_NoBusyEngine (e : Nat) : (up.dma e).busy = false := rfl

theorem witness_SupplyEvents_more :
    (∀ b ∈ [true, false],
      let s := { up with sup := { up.sup with reduced := b, vpwrA := ⟨b, false⟩, vlogA := ⟨true, true⟩, vlogB := ⟨true, b⟩ } }
      s.sup.reduced = b ∧ s.sup.vpwrA.ok = b ∧ (s.sup.vlogA.red || false) = true ∧ (s.sup.vlogB.red || !b) = true ∧
      (s.sup.vlogB.red || false) = b) ∧
    ((ch0 closed).chan 0).sw = true ∧ (up.chan 0).sw = false ∧ feedOf 0 = feedOf 16 := by decide +kernel

/-- A queued reply to MODULE_RESET. -/
def resetReply : Frame :=
  { port := .white, words := [0x18003], other := [], time := 0, key := none, seq := 1, ply := 1, index := 0, replay := false,
    ahead := false, dest := ⟨1, 2, 3⟩, order := 0 }

theorem witness_ModuleAndTileResets_more :
    ∀ fs ∈ [[], [resetReply]],
      let s := { up with host := { up.host with resetPort := some .white, made := fs } }
      s.host.resetPort.isSome = true ∧ (resetReplyWaits s = true ↔ fs ≠ []) := by decide +kernel
/-! ### The host protocol -/

/-- An open session of handle 7 with REQ_ID 3 behind it. -/
def sess (sec : Bool) : Session := ⟨false, sec, 7, 0, 0, 0, 0, 0, 3, [3], [], 0⟩

/-- A request of REQ_ID 9 in that session, over White's port. -/
def head (sec : Bool) : ReqHead := ⟨.white, ⟨1, 2, 3⟩, sec, 7, 9, 2 ^ 40 + 2⟩

/-- The session at entry 0, and access tables whose entry 1 grants every master every point. -/
def hosted (sec : Bool) : State :=
  copy [(0x99000, 0x80000)] { up with
    host := { HostSt.reset with sessions := [(0, sess sec)] },
    tables := (List.range 18).flatMap fun t => [(tableAddr t 1 0, 0x801C0), (tableAddr t 1 1, 0), (tableAddr t 1 2, 0xFFFFF)] }

/-- A request with this opcode and payload is executed now in that session. -/
def begins (sec : Bool) (code : Nat) (ws : List Word) (s : State) : Bool :=
  decide (s.host.resetPort = none ∧ s.ply.blocked = false ∧ s.host.carried = [] ∧ s.ply.hostWords + wordCost code ws ≤ 4096 ∧
    findSession s.host.sessions (head sec).session.toNat = some (0, sess sec) ∧ (sess sec).secure = (head sec).sec ∧
    (head sec).reqId ≠ 0 ∧ (sess sec).high < (head sec).reqId.toNat ∧ queuedFrames s (head sec).port + 32 ≤ 128 ∧
    hostLocked s = false ∧ s.host.lateNow = [])

/-- What begins decides is the premise Starts of the statements. -/
theorem begins_starts {sec : Bool} {code : Nat} {ws : List Word} {s : State} (h : begins sec code ws s = true) :
    Starts code (head sec) ws s 0 (sess sec) := by
  unfold begins at h; have := of_decide_eq_true h; exact this

/-- Octets of a PING in session 7. -/
def pingOctets : List (BitVec 8) := [2, 0x00, 1, 0, 0, 0, 7, 0, 0, 9, 0, 0, 0, 0, 0]

theorem witness_HostSessionsAndPackets :
    (∀ n ∈ [0, 7, 8],
      let s := { hosted false with host := { HostSt.reset with sessions := (List.range n).map fun k => (k, sess false) } }
      s.host.resetPort = none ∧ s.host.carried = [] ∧ s.ply.hostWords ≤ 4096 ∧ hostLocked s = false ∧ (head false).reqId ≠ 0 ∧
      (s.copyReg 0x99000).bit 19 = true ∧ queuedFrames s (head false).port < 128 ∧ s.host.sessions.length = n) ∧
    (begins false 1 [] (hosted false) = true ∧ begins false 2 [] (hosted false) = true ∧
      sessionAt (hosted false) 0 = some (sess false)) ∧
    (let s := { up with host := { HostSt.reset with sessions := [(0, { sess true with pending := true })] } }
     sessionAt s 0 = some { sess true with pending := true }) ∧
    (portAnswers up .white = true ∧ (up.lane .white).role = .active ∧ (up.lane .white).stale = false ∧
      pingOctets.length = 15 ∧ failedStep up .white pingOctets = 0 ∧ (packetOf .white ⟨1, 2, 3⟩ (packetWords pingOctets) 0 0).opcode ≠ 0 ∧
      (up.lane .white).rxPly < 32 ∧ (up.lane .white).rxBuf = []) ∧
    (let g := { up.white with rxPly := 32, rxBuf := List.replicate 127 (packetOf .white ⟨1, 2, 3⟩ (packetWords pingOctets) 0 0) }
     32 ≤ g.rxPly ∧ g.rxBuf.length < 128 ∧
     128 ≤ (g.rxBuf ++ [packetOf .white ⟨1, 2, 3⟩ (packetWords pingOctets) 0 0]).length) ∧
    ((up.lane .white).linkUp = false ∧ { up.white with linkUp := true }.linkUp = true ∧ Machine.Numbering up) := by
  unfold Machine.Numbering; decide +kernel

/-- READ, WRITE, READ_LIST and MODIFY. -/
theorem witness_HostBoardAccess :
    (∀ n ∈ [0, 1, 4096, 4097], begins false 0x10 [0x20000, Word.ofN n] (hosted false) = true) ∧
    (verdict (hosted false) 29 false 0x20000 false .none = .ok ∧ verdict (hosted false) 29 false 0x5FFFF false .none = .ok ∧
      verdict (hosted false) 29 false 0x20000 true .none = .ok ∧ verdict (hosted false) 29 false 0x5FFFF true .none = .ok ∧
      verdict (hosted false) 29 false 0x1FFFF false .none = .range) ∧
    (let s := { hosted false with tables := [] }
     begins false 0x10 [0x20000, 1] s = true ∧ verdict s 29 false 0x20000 false .none = .refused) ∧
    begins false 0x10 [] (hosted false) = true ∧
    begins false 0x11 [0x20000, 2, 5, 6] (hosted false) = true ∧
    begins false 0x11 [0x20000, 2, 5] (hosted false) = true ∧
    begins false 0x12 [0x20000, 0x5FFFF] (hosted false) = true ∧
    begins false 0x13 [0x20000, 0xFF, 5] (hosted false) = true := by
  decide +kernel

/-- The requests of HostBoardAccess to the units. -/
theorem witness_HostBoardAccess_units :
    (∀ op ∈ [0, 1, 2, 3, 4, 5, 6],
      begins false 0x20 [Word.ofN (175 * 4096 + op * 256)] (hosted false) = true) ∧
    175 < (Word.ofN (176 * 4096)).field 19 12 ∧ verdict (hosted false) 29 false (chanAddr 175 0) true .none = .ok ∧
    pairOf (hosted false) 175 = none ∧
    begins false 0x21 [175, 1] (hosted false) = true ∧
    begins false 0x22 [175, 1] (hosted false) = true ∧
    (∀ o ∈ [1, 2, 0x1D, 0x1E] ++ addrsFrom 0x14 8, verdict (hosted false) 29 false (chanAddr 175 o) false .none = .ok) ∧
    begins false 0x82 [] (hosted false) = true ∧ begins false 0x94 [] (hosted false) = true ∧
    (∀ a ∈ lgtReadAddrs ++ accReadAddrs, verdict (hosted false) 29 false a false .none = .ok) ∧
    begins false 0x92 [63] (hosted false) = true ∧ verdict (hosted false) 29 false 0x88001 true .none = .ok ∧
    begins true 0x93 [0x80000] (hosted true) = true ∧ verdict (hosted true) 28 true 0x88021 true .none = .ok ∧
    begins false 0xA3 [27] (hosted false) = true ∧ begins false 0xA3 [28] (hosted false) = true ∧
    (∀ a ∈ busStatusAddrs 27, verdict (hosted false) 29 false a false .none = .ok) := by
  decide +kernel

theorem witness_HostBoardAccess_lighting :
    begins false 0x80 (0x1000 :: 0xFFFF :: 5 :: List.replicate 16 0xFF) (hosted false) = true ∧
    (∀ a ∈ [strAddr 0 4, strAddr 0 5, strAddr 0 0] ++ (List.range 16).map fun i => strAddr 0 (16 + i),
      verdict (hosted false) 29 false a true .none = .ok) ∧
    (∀ w ∈ [0, 23 * 2 ^ 14 + 2 ^ 10, 23 * 2 ^ 14 + 2 * 2 ^ 10, 10 * 2 ^ 10],
      let px := List.replicate (48 * (Word.ofN w).field 13 10) (1 : Word)
      begins false 0x81 (Word.ofN w :: px) (hosted false) = true) ∧
    (∀ i ∈ List.range 48, verdict (hosted false) 29 false (pixAddr 0 (48 * 23 + i)) true .none = .ok) := by
  decide +kernel

theorem witness_HostQueuesAndTokens :
    (∀ n ∈ [1510, 1511], begins false 0x30 [0, 0, 0, Word.ofN n] (hosted false) = true) ∧
    (begins false 0xA2 [0, 0, 0, 255] (hosted false) = true ∧ (hosted false).host.captures = []) ∧
    (begins false 0x31 [0, 0, 2400] (hosted false) = true ∧
      (∀ o ∈ [4, 5, 6], verdict (hosted false) 29 false (strmAddr 0 o) false .none = .ok) ∧
      measView (hosted false) (strmAddr 0 5) = (hosted false).copyReg (strmAddr 0 4)) ∧
    (∀ p ∈ [(0, ([] : List Word)), (0x80000, []), (0x80000, List.replicate 8 5)],
      let s := copy [(mbxAddr 32 0, p.1)] (hosted false)
      begins false 0x40 (0 :: p.2) s = true ∧ (mbxOn s 32 = false ↔ p.1 = 0) ∧
      (p.1 ≠ 0 → mbxHostStatus s 32 false = 0) ∧
      mbxDenied s 29 false ((mbxAddr 32 1 :: (List.range p.2.length).map (composeAddr 32)).map fun a => (a, true)) = none) ∧
    (∀ q ∈ [7, 8],
      let s := { hosted false with mbx := { Mailboxes.reset with chans := [(32, { Mbx.reset with queue := List.replicate q [] })] } }
      (s.box 32).queue.length + (s.mbx.posts.filter fun p => decide (p.1 = 32)).length = q) ∧
    (let s := { copy [(mbxAddr 40 0, 0x80000)] (hosted false) with
       mbx := { Mailboxes.reset with chans := [(40, { Mbx.reset with queue := [[1], [2, 3]] })] } }
     begins false 0x41 [0x00020] s = true ∧ begins false 0x41 [0x00030] s = true ∧
     mbxHostStatus s 40 false = 0 ∧ mbxDenied s 29 false
       (((mbxAddr 40 5 :: mbxAddr 40 6 :: (List.range 64).map (0x9A000 + 64 * 40 + ·)).map (·, false)) ++
         [(mbxAddr 40 7, true)]) = none ∧ ackedNow s 40 = 0 ∧ (s.box 40).queue.length = 2) ∧
    begins false 0x42 [] (hosted false) = true := by
  decide +kernel

/-- Frames and tokens over the host port. -/
theorem witness_HostQueuesAndTokens_frames :
    (begins false 0xA0 (27 :: 0 :: frame) (hosted false) = true ∧ frame.length = recWords frame ∧
      begins false 0xA0 [27, 0] (hosted false) = true ∧ recWords [] ≠ ([] : List Word).length ∧
      objectZeroHeld (hosted false) 27 0 0 = false ∧
      verdict (hosted false) 29 false (busqAddr 27 0) true .none = .ok ∧
      verdict (hosted false) 29 false (busqAddr 27 1) true .none = .ok) ∧
    begins false 0xA1 [27, 1, 2, 3, 4] (hosted false) = true ∧
    (let ws : List Word := 3 :: List.replicate 15 7
     ws.length = 16 ∧ ws.getD 0 0 &&& 0xFFFF0 = 0 ∧ begins true 0x90 ws (hosted true) = true ∧
     verdict (hosted true) 28 true (tokAddr 3) true .none = .ok ∧ (∀ p ∈ (hosted true).acc.tokens, p.1 ≠ 3) ∧
     begins true 0x90 ws { hosted true with acc := inSession.acc } = true ∧
     ∃ p ∈ { hosted true with acc := inSession.acc }.acc.tokens, p.1 = 3) ∧
    begins true 0x91 [3] (hosted true) = true ∧
    begins true 0x91 [3] { hosted true with acc := inSession.acc } = true := by
  decide +kernel

theorem witness_HostControl :
    (∀ code ∈ [0x03, 0x50, 0x51, 0x52, 0x53, 0x54, 0x55, 0x56, 0x60, 0x61, 0x70, 0x71, 0x72],
      begins false code [0x5A5A5] (hosted false) = true ∧ begins true code [0x5A5A5] (hosted true) = true ∧
      begins true code [] (hosted true) = true) ∧
    (begins true 0x03 [0x5A5A4] (hosted true) = true ∧ activeLane (hosted true) = some .white ∧
      covered (hosted true) = true ∧ (hosted true).lanes.castle = none ∧
      (let s := { hosted true with lanes := { up.lanes with xa := false, xb := false } }
       covered s = false ∧ begins true 0x71 [0] s = true) ∧
      (let s := { hosted true with lanes := { up.lanes with castle := some (none, 0) } }
       covered s = true ∧ s.lanes.castle.isSome = true ∧ begins true 0x70 [] s = true)) ∧
    (∀ t ∈ [0, 1, 2, 4, 5], begins true 0x60 [Word.ofN t] (hosted true) = true) ∧
    ((hosted true).pwr.state.code = 0 ∧ (hosted true).pwr.entering = false ∧ (hosted true).pwr.state = .run ∧
      denRunning (hosted true) = false) ∧
    (let s := { hosted true with pwr := { up.pwr with entering := true } }
     begins true 0x60 [2] s = true ∧ s.pwr.entering = true) ∧
    (begins true 0x50 [0x30000, 130, 0] (hosted true) = true ∧
      begins true 0x50 [0x20000, 130, 0] (hosted true) = true ∧
      updLengthOk 0 130 = true ∧ updLengthOk 0 129 = false ∧ updLengthOk 0 128 = false ∧ updLengthOk 1 262144 = true ∧
      updLengthOk 1 262146 = false ∧ (hosted true).upd.stage = .idle ∧ nvmRefused (hosted true) = false) := by
  decide +kernel

/-- An update in some condition, with the secure session. -/
def updating (u : Upd) : State := { hosted true with upd := u }

theorem witness_HostControl_updates :
    (∀ p ∈ [UpdPhase.erasing, .verified, .receiving],
      begins true 0x51 [100, 0, 5, 6] (updating { Upd.reset with phase := p, length := 104, rcvd := 100 }) = true ∧
      (updating { Upd.reset with phase := p, length := 104, rcvd := 100 }).upd.phase = p) ∧
    (begins true 0x51 [102, 0, 5] (updating { Upd.reset with phase := .receiving, length := 104, rcvd := 100 }) = true ∧
      100 + 2 * 2 ≤ 104 ∧ updQueued (hosted true) Upd.reset + 2 * 2 ≤ 32768) ∧
    (∀ n ∈ [100, 102],
      begins true 0x52 [] (updating { Upd.reset with phase := .receiving, length := 102, rcvd := n }) = true) ∧
    (let s := { updating { Upd.reset with fwReady := true } with
       white := { up.white with nvm := { up.white.nvm with fw := ⟨some ⟨1, 1, 1, true⟩, some ⟨2, 1, 1, false⟩, none⟩ } } }
     begins true 0x53 [0x30000] s = true ∧ begins true 0x53 [0x10000] s = true ∧
     s.upd.stage = .idle ∧ s.upd.fwReady = true ∧ covered s = true ∧ standbyLane s = some .black ∧ denRunning s = false ∧
     s.pwr.entering = false ∧ formatAccepted s = true ∧ nvmRefused s = false) ∧
    (begins true 0x54 [] (updating { Upd.reset with stage := .health, fwReady := true }) = true ∧
      (hosted true).upd.stage ≠ .health) ∧
    (∀ p ∈ [(1, 20), (5, 12), (6, 36)],
      let w := Word.ofN (p.1 * 2 ^ 16)
      begins true 0x56 (w :: List.replicate p.2 1) (hosted true) = true ∧ keyWords (w.field 19 16) = some p.2) ∧
    (∀ p ∈ [(0, 20), (7, 20), (5, 11)],
      begins true 0x56 (Word.ofN (p.1 * 2 ^ 16) :: List.replicate p.2 1) (hosted true) = true) := by
  decide +kernel

/-! ### More cases of the host protocol -/

/-- No target is locked, so the host waits for none. -/
theorem witness_Unlocked (m : Nat) (b : Bool) : Unlocked (hosted b) m := by
  intro a
  cases b <;> (unfold waitsFor; cases targetOf a <;> rfl)

theorem witness_HostBoardAccess_more :
    (let s := lockedBy 0 5 (hosted false)
     begins false 0x10 [0x20000, 1] s = true ∧ verdict s 29 false 0x20000 false .none = .ok ∧ waitsFor s 29 0x20000 = true) ∧
    (∀ n ∈ [478, 479], begins false 0x11 (0x20000 :: Word.ofN n :: List.replicate n 1) (hosted false) = true) ∧
    begins false 0x12 (List.replicate 480 0x20000) (hosted false) = true := by decide +kernel

/-- White's port with an Ethernet address, its address 0.5.0.6, port 4660 and one permitted host. -/
def ported (s : State) : State :=
  { s with white := { s.white with portRegs := [(0x98002, 0x2), (0x98003, 0x3), (0x98004, 0x4), (0x98005, 0x5), (0x98006, 0x6), (0x98009, 0x1234), (0x98010, 0x1), (0x98011, 0x2)] } }

/-- A frame to that port and its Ethernet address. -/
def framed : HostFrame :=
  ⟨BitVec.ofNat 48 (portMac (ported up).white .white), true, BitVec.ofNat 32 (portIp (ported up).white), 0x1234, true,
    ⟨1, BitVec.ofNat 32 ((permittedHosts (ported up).white).headD 0), 3⟩⟩

theorem witness_HostSessionsAndPackets_frame :
    framed.plain = true ∧ framed.checksum = true ∧
    framed.destMac.toNat = portMac ((ported up).lane .white) .white ∧
    framed.destIp.toNat = portIp ((ported up).lane .white) ∧
    framed.source.ip.toNat ∈ permittedHosts ((ported up).lane .white) ∧
    framed.destUdp.toNat = (portReg ((ported up).lane .white) 0x98009).toNat :=
  ⟨rfl, rfl, by decide +kernel, by decide +kernel, by decide +kernel,
    by decide +kernel⟩

theorem witness_HostSessionsAndPackets_more :
    ((ported up).lane .white).role = .active ∧ portAnswers (ported up) .white = true ∧
    { framed with plain := false }.plain = false ∧ { framed with destIp := 0 }.destIp.toNat ≠ portIp ((ported up).lane .white) ∧
    0 ∉ permittedHosts ((ported up).lane .white) ∧ pingOctets.dropLast.length < 15 ∧
    (let s := { hosted false with host := { HostSt.reset with sessions := [(7, sess false)] } }
     sessionAt s 7 = some (sess false) ∧ (sess false).pending = false) ∧
    (∀ p ∈ [true, false], let x := { sess true with pending := p, lastExec := 0 }
     let s := { up with now := 1000000000, host := { HostSt.reset with sessions := [(7, x)] } }
     sessionAt s 7 = some x ∧ x.pending = p ∧ x.lastExec + 100000000 * (s.copyReg 0x99000).field 18 9 ≤ s.now ∧
     x.lastExec + 100000000 * 1 ≤ s.now) := by decide +kernel

/-- Reduced function with both VLOG inputs sampled at or below 12 V. -/
def refusing (s : State) : State := copy [(0x8A448, 0), (0x8A449, 0)] { s with sup := { s.sup with reduced := true } }

theorem witness_HostQueuesAndTokens_more :
    (let ws : List Word := 3 :: List.replicate 15 7
     let s := refusing (hosted true)
     nvmRefused s = true ∧ begins true 0x90 ws s = true ∧ begins true 0x91 [3] s = true) ∧
    (let s := { hosted true with acc := inSession.acc }
     nvmRefused s = false ∧ ∃ p ∈ s.acc.tokens, p.1 = 3) ∧ nvmRefused (hosted true) = false ∧
    (let s := { copy [(mbxAddr 40 0, 0x80000)] (hosted false) with
       mbx := { Mailboxes.reset with chans := [(40, { Mbx.reset with queue := [[1], [2, 3]] })] } }
     (s.box 40).queue.length < (0x00030 : Word).field 7 4 ∧ (0x00020 : Word).field 7 4 ≤ (s.box 40).queue.length) ∧
    (let s := { hosted false with
       ring := [⟨⟨1, 2, 3, 4, 5⟩, 2 ^ 40 + 3, 5⟩, ⟨⟨1, 2, 3, 4, 5⟩, 2 ^ 40 + 5, 5⟩], seq := { up.seq with unheard := [2 ^ 40 + 3] } }
     begins false 0x30 [0, 0, 0, 5] s = true) := by decide +kernel

theorem witness_HostControl_more :
    (let v := { Upd.reset with phase := .receiving, length := 104, rcvd := 100 }
     nvmRefused (refusing (updating v)) = true ∧ nvmRefused (updating v) = false ∧
     begins true 0x51 [100, 0, 5] (refusing (updating v)) = true ∧ begins true 0x51 [102, 0, 5] (updating v) = true ∧
     begins true 0x51 [100, 0, 5, 6, 7] (updating v) = true ∧ 104 < 100 + 2 * 3 ∧
     begins true 0x51 (100 :: 0 :: List.replicate 478 1) (updating { v with phase := .erasing }) = true) ∧
    begins true 0x50 [0x30000, 130, 0] (refusing (hosted true)) = true ∧
    (let s := refusing (updating { Upd.reset with stage := .health })
     begins true 0x54 [] s = true ∧ s.upd.stage = .health ∧ nvmRefused s = true) ∧
    begins true 0x56 (Word.ofN (5 * 2 ^ 16) :: List.replicate 12 1) (refusing (hosted true)) = true ∧
    begins true 0x50 [0x30000, 130, 0] (updating { Upd.reset with stage := .ordered }) = true := by decide +kernel
/-! ### Well-formed commands -/

/-- A well-formed command and, for each check of WellFormed, one that the check refuses. -/
theorem test_wf_refuses :
    (Instr.chOn 0).wf = true ∧
    (Instr.configApplied .white true ⟨0, false, [], [(0, [])]⟩).wf = false ∧
    (Instr.configApplied .white true ⟨0, false, [], [(24, [])]⟩).wf = false ∧
    (Instr.inputPresented 0 0 []).wf = false ∧ (Instr.inputPresented 1 (2 ^ 60) []).wf = false ∧
    (Instr.inputPresented 1 0 (List.replicate 4096 0)).wf = false ∧ (Instr.assignmentReceived (2 ^ 60)).wf = false ∧
    (Instr.commandReceived 0 .white 0 (2 ^ 60) 0 .park).wf = false ∧
    (Instr.commandReceived 0 .white 0 0 8192 .park).wf = false ∧
    (Instr.commandReceived 0 .white 0 0 0 (.claim (2 ^ 20) 0 0)).wf = false ∧
    (Instr.shadowReceived 0 0 (.restore 0 (2 ^ 60) 0)).wf = false ∧ (Instr.shadowReceived 0 0 (.handover 0 8192)).wf = false ∧
    (Instr.shadowReceived 15 0 (.bus 0 0 0 [])).wf = false ∧ (Instr.claimReceived 0 .white 0 8192).wf = false ∧
    (Instr.clear 18 0).wf = false := by decide +kernel

theorem test_wf_refuses_frames :
    (Instr.sampleBlock [] false).wf = false ∧ (Instr.busFrameReceived 0 [2, 0, 0, 0, 0] 0 0 0 true false).wf = false ∧
    (Instr.busFrameReceived 0 frame (2 ^ 60) 0 0 true false).wf = false ∧ (Instr.busFrameReceived 0 frame 0 0 0 true false).wf = true ∧
    (Instr.busFrameTransmitted 0 false 0 (2 ^ 60)).wf = false ∧ (Instr.busQueue 0 0 []).wf = false ∧
    (Instr.busUpdateObject 0 0 (frame ++ [0])).wf = false ∧ (Instr.linResponse 0 (.frame [] 0 true)).wf = false ∧
    (Instr.tokenReply 0 (.reply (2 ^ 32) 0 [])).wf = false ∧ (Instr.tokenReply 0 (.reply 0 (2 ^ 64) [])).wf = false ∧
    (Instr.hostPacket .white ⟨0, true, 0, 0, true, ⟨1, 2, 3⟩⟩ (List.replicate 1473 0)).wf = false ∧ (Instr.wakeEvent 0 0 0 false).wf = false ∧
    (Instr.wakeEvent 11 0 0 false).wf = false ∧ (Instr.read (head false) (List.replicate 486 0)).wf = false := by decide +kernel

/-! ### Values that the spec gives -/

/-- The example of R8. -/
theorem test_wide_values : wordsOf 0x000012A3F00C815 3 = [0x0C815, 0x2A3F0, 0x00001] := by decide +kernel

/-- The example of R10: the blocks of channels 100 and 175. -/
theorem test_channel_blocks : chanAddr 100 0 = 0x80C80 ∧ chanAddr 175 0 = 0x815E0 := by decide +kernel

/-- The examples of R313: 12 bits with STEP 1 gives 4,176 ticks, 8 bits with STEP 4 gives 1,104. -/
theorem test_line_slots :
    mxSlot (Word.ofN (2 * 2 ^ 16)) = 4176 ∧ mxSlot (Word.ofN (3 * 2 ^ 12)) = 1104 := by decide +kernel

/-- What a command leaves. -/
def after (c : Instr) (s : State) : State :=
  match exec c s with
  | .next t => t
  | _ => s

/-- R499: −524,288 × −524,288 gives HI 40000h and LO 00000h; A ÷ 0 gives +524,287 and A with DZ; −524,288 ÷ −1 sets V; SMUL of
−524,288 by itself gives +524,287 with SAT. -/
theorem test_unit_results :
    (let k := (after (.muls 0 0x80000) (core0 { runs with mulO := 0x80000 })).core 0
     k.hi = 0x40000 ∧ k.lo = 0) ∧
    (let k := (after (.divs 0 5) (core0 runs)).core 0
     k.quo = 0x7FFFF ∧ k.rem = 5 ∧ k.flags = 4) ∧
    (let k := (after (.divs 0 0x80000) (core0 { runs with divO := 0xFFFFF })).core 0
     k.quo = 0x80000 ∧ k.rem = 0 ∧ k.flags = 2) ∧
    (let k := (after (.smul 0 0x80000) (core0 { runs with satO := 0x80000 })).core 0
     k.sat = 0x7FFFF ∧ k.flags = 8) ∧
    (let k := (after (.sar 0 0x80000) (core0 { runs with shuO := 20 })).core 0
     k.shu = 0xFFFFF) := by decide +kernel

/-- R157, R188: ON is refused with reason 01h while EN is 0. -/
theorem test_on_refused : ((after (.chOn 0) up).tgt 0).refusals = [⟨0x00001, 0x80000, 0x80000⟩] := by decide +kernel

/-- R203, R159: an overcurrent that reaches FILT outside the inrush window latches with LATCH_CAUSE 2. -/
theorem test_overcurrent_latches :
    let c := (after (.overcurrent 0) (ch0 { closed with inrush := false } [(10, 0)])).chan 0
    c.state = .latched ∧ c.sw = false ∧ c.fault.field 19 16 = 2 := by decide +kernel

/-- R140: of two requests of one age the arbiter grants the first from the pointer upwards, wrapping. -/
theorem test_arbiter_wraps :
    (((after (.arbiterGrant .white 0 0 20) (arb0 ⟨30, [⟨26, 5, .none, false, none⟩, ⟨31, 5, .none, false, none⟩], 0, none⟩ TargetLock.reset)).lane .white).arb 0) =
      ⟨0, [⟨26, 5, .none, false, none⟩], 21, none⟩ := by decide +kernel

/-- R310: half-way in a fade over two periods each value is half-way. -/
theorem test_fade_half_way :
    ((after (.pwmPeriodStart 0) (str0 { lit with
      fade := some ⟨List.replicate 17 0, List.replicate 17 100, 2, 0, false⟩ } strCfg)).str 0).vals = List.replicate 17 50 := by
  decide +kernel

/-- R100, R103: a lane past stage 1 of its joining that hears the active lane withdraw gives up joining and will start alone. -/
theorem test_withdrawal_of_a_lone_lane :
    let u := after (.withdrawReceived .coreFault) { up with black := { up.black with role := .joining, joinStage := 2 } }
    activeLane u = none ∧ u.black.role = .out ∧ u.black.joinStage = 0 ∧ u.lanes.start = some .black := by decide +kernel


/-! ### Cases that a maintenance start, the checks of the Board and the other later clauses add -/

/-- A maintenance start of the module at work. -/
def maint (s : State) : State := { s with maintenance := true }

/-- The clauses in which ON has no effect and a safe mode of ON reads as OFF, and those in which neither holds. -/
theorem witness_Maintenance :
    (maint up).maintenance = true ∧ up.maintenance = false ∧ (ch0 closed).maintenance = false ∧ tileAccepts (maint up) 0 = true ∧
    Alone (maint up) 0 ∧ fioAccepts (maint up) = true ∧ lgtAccepts (maint up) = true ∧
    ((maint up).tgt denT).claimed.isSome = true ∧ (den0 Den.reset 5).maintenance = false ∧
    (∀ m ∈ [0, 1, 2], let s := maint (ch0 { Chan.reset with state := .hold } [(4, Word.ofN (m * 2 ^ 18))])
      Alone s 0 ∧ (s.tgt 0).watched = true ∧ (s.chan 0).state = .hold ∧ (chReg s 0 4).field 19 18 = m ∧
      ((s.maintenance = true ∧ (chReg s 0 4).field 19 18 = 1) ↔ m = 1)) ∧
    (let s := maint ((do0 Dout.reset 0x90000).setTgt fioT { up.tgt fioT with silent := true })
     (s.tgt fioT).watched = true ∧ (s.tgt fioT).silent = true ∧ (s.tgt fioT).timedOut = false ∧
     (s.liveReg (doAddr 0 2)).field 17 16 = 1 ∧ s.maintenance = true) ∧
    (let s := maint ((live [(strAddr 0 6, 0x40000)] (str0 Str.reset strCfg)).setTgt lgtT { up.tgt lgtT with silent := true })
     (s.tgt lgtT).watched = true ∧ (s.tgt lgtT).silent = true ∧ (s.liveReg (strAddr 0 6)).field 19 18 = 1 ∧ s.maintenance = true) ∧
    (∀ c ∈ [closed, { Chan.reset with state := .latched, fault := 0x10000 }, { Chan.reset with probed := true }],
      (group c [(chanAddr 0 3, 0x20000)]).maintenance = false) := by
  unfold Alone; decide +kernel

theorem witness_ChannelWrites_park :
    let s := ch0 Chan.reset [(7, 0x40400)]
    tileAccepts s 0 = true ∧ leaderOf s 0 ≠ 0 ∧ s.maintenance = false ∧ (0x04000 : Word).bit 14 = true ∧ (0 : Word).bit 14 = false := by
  decide +kernel

/-- A silent tile with a change and a refusal to report. -/
theorem witness_SilentTile_report :
    let e : Entry := ⟨0, 0, 1, 0, [], [], [], 20000, true, false⟩
    let s := up.setTgt 0 { up.tgt 0 with silent := true, entries := [e], refusals := [⟨0x00001, 0x80000, 0x80000⟩] }
    (s.tgt 0).silent = true ∧ (s.tgt 0).entries.any (reportedNow false) = true ∧ Machine.Numbering s ∧
    ∀ x ∈ (s.tgt 0).entries, x.kind ≠ 4 := by unfold Machine.Numbering; decide +kernel

theorem witness_ArcWindowsEnd_coinc :
    let s : State := live [(tileAddr 0 4, 0x01000)] (ch0 { closed with inrush := false } [(19, 0x80100)])
    arcQualifies s 0 ⟨0, 1000, 63⟩ = true ∧ (s.liveReg (tileAddr 0 4)).field 16 12 = 1 ∧ tileAsleep s 0 = false := by decide +kernel

/-- The Board's checks pass the secure host's writes and refuse the other host's. -/
theorem witness_MayWrite (a : Nat)
    (h : a ∈ [0x8B000, 0x8CC00, 0x8C800, 0x8C805, 0x8A003, 0x8C900, 0x9E005]) : MayWrite up 28 a ∧ MayNotWrite up 29 a := by
  have h1 : ∀ b ∈ [0x8B000, 0x8CC00, 0x8C800, 0x8C805, 0x8A003, 0x8C900, 0x9E005],
      verdict up 28 (masterSecure up 28) b true .none = .ok ∧ verdict up 29 (masterSecure up 29) b true .none ≠ .ok := by
    decide +kernel
  exact ⟨⟨(h1 a h).1, fun t _ => rfl⟩, (h1 a h).2⟩

theorem witness_FieldOutputProtection_states :
    (∀ st ∈ [ChState.hold, .safe], ((do0 { driven with state := st } 0x80000).dout 0).state = st) ∧
    (let s := do0 { Dout.reset with state := .cooling, thermal := true, cools := [20000] } 0
     (s.dout 0).state = .cooling ∧ (s.liveReg (doAddr 0 2)).bit 15 = false) := by decide +kernel

theorem witness_Strings_absent :
    absentLed (str0 lit strCfg) 0 3 = false ∧ absentLed (str0 lit strCfg) 0 4 = true ∧ (str0 lit strCfg).maintenance = false := by
  decide +kernel

theorem witness_ParkPolls_polled :
    ∀ b ∈ [true, false],
      let s := parked { Access.reset with heldOff := [(3, 1)], polled := b }
      polls s = true ∧ s.acc.heldOff = [(3, 1)] ∧ s.acc.polled = b ∧ 1 < (s.liveReg 0x88002).field 11 8 := by decide +kernel

theorem witness_AccessRounds_test : (roundOf [answer]).acc.test = none ∧ (roundOf []).acc.test = none := by decide +kernel

theorem witness_BusTransmission_next :
    (let s := can0 { Bus.reset 0 with queue := [⟨1, frame⟩, ⟨2, frame⟩] }
     nextQueued s 0 = some ⟨1, frame⟩ ∧ ttActive s 0 = false ∧ busDown s 0 = false ∧ (s.bus 0).quiet = false ∧
     (s.bus 0).sending ≠ some 2 ∧ (nextQueued s 0).map Queued.tag ≠ some 2) ∧
    (let s := live [(linAddr 0 (0x40 + 35), 0x44000)] (lin0 (Bus.reset 0))
     busAccepts s 16 = true ∧ recOk s 16 35 frame = true ∧ (s.liveReg (linAddr (16 - 16) (0x40 + 35))).field 19 18 = 1) := by
  decide +kernel

/-- A parked module whose CAN channel 0 wakes at the identifier of a wake-up frame. -/
def waker : State :=
  live [(canAddr 0 0, 0x80300), (canAddr 0 16, 0x00123), (canAddr 0 17, 0x80000)]
    (copy [(canAddr 0 0, 0x80300), (canAddr 0 16, 0x00123), (canAddr 0 17, 0x80000)] { State.reset with pwr := { Pwr.reset with state := .parked } })

theorem witness_BusReception_wake :
    asleep waker = true ∧ waker.pwr.waking = false ∧ waker.pwr.held = none ∧ (waker.copyReg (canAddr 0 0)).field 9 8 = 3 ∧
    asleep (can0 (Bus.reset 0)) = false := by decide +kernel

theorem witness_DominantTimeout :
    (let s := can0 (Bus.reset 0)
     (s.bus 0).moved = false ∧ (s.lane (otherLane (s.bus 0).tx)).inStep = true) ∧
    (let s := { (can0 (Bus.reset 0)) with black := { up.black with role := .out } }
     busEnabled s 0 = true ∧ (s.lane (otherLane (s.bus 0).tx)).inStep = false) := by decide +kernel

theorem witness_TimeTriggeredCan_quiet :
    (∀ x ∈ [{ Bus.reset 0 with quiet := true }, { Bus.reset 0 with quiet := true, quietEnd := true },
        { Bus.reset 0 with sync := true, objects := [(2, frame)], waitRef := true }],
      ttActive (tt0 2 (Word.ofN (2 ^ 17 + 2 * 2 ^ 11)) x) 0 = true ∧ (tt0 2 (Word.ofN (2 ^ 17 + 2 * 2 ^ 11)) x).bus 0 = x ∧ x.state < 2) ∧
    ({ Bus.reset 0 with refs := 1, cycle := 5 }.cycle + 1) % 64 = 6 ∧
    ((tt0 1 0 { Bus.reset 0 with sync := false }).bus 0).sync = false ∧ ((tt0 1 0 (Bus.reset 0)).bus 0).master = false := by
  decide +kernel

theorem witness_LinResponses :
    (let s := lin0 { Bus.reset 0 with window := .expect 5 false }
     (s.lane (otherLane (s.bus 16).tx)).inStep = true ∧ (freeSlot (s.bus 16)).isSome = true ∧ s.pwr.committed = false) ∧
    (let s := { lin0 { Bus.reset 0 with window := .expect 5 false } with black := { up.black with role := .out } }
     (s.lane (otherLane (s.bus 16).tx)).inStep = false) ∧
    (let s := copy [(0x9E006, 0x00080)] { State.reset with pwr := { Pwr.reset with state := .parked } }
     busAccepts s 16 = false ∧ asleep s = true ∧ s.pwr.committed = false) := by decide +kernel

theorem witness_ArbitersGrantByAge_engine :
    let s := arb0 ⟨0, [⟨24, 8, .none, false, none⟩], 9, none⟩ TargetLock.reset
    (s.dma 0).busy = false ∧ (⟨24, 8, .none, false, none⟩ : BoardReq).put = none ∧ viewLane s = .white := by decide +kernel

theorem witness_LoneLanes :
    (let s := { up with black := { up.black with role := .out }, lanes := { up.lanes with divLock := true } }
     (s.lane .black).linkBad = false ∧ (s.lane .black).boot = .started) ∧
    (up.white.role = .active ∧ up.black.role ≠ .active) ∧ ((core0 runs).lane .white).parked 0 = false ∧
    (∀ r ∈ [false, true],
      let s := starting fun g => { g with boot := .image, restarted := r }
      s.lanes.start = none ∧ (s.lane .white).restarted = r ∧ activeLane s = none) := by decide +kernel

/-- A wake whose bank 0 holds the record of the image that White's memory names. -/
theorem witness_StartSequence_record :
    let s := starting fun g => { g with boot := .code, pll := false }
    let g := s.lane .white
    (recordMatches s g = false) ∧
    (let w := { s with pwr := { s.pwr with waking := true, banksOk := 0xFF, lastActive := .white, programs := g.nvm.programs } }
     recordMatches w g = true ∧ g.nvm.fw.active = some ⟨1, 1, 1, true⟩ ∧ w.pwr.waking = true) := by decide +kernel

theorem witness_PowerStates_commit :
    (∀ t ∈ [0, 1, 2],
      let s := { up with pwr := { up.pwr with committed := true, target := t } }
      activeLane s = some .white ∧ s.pwr.committed = true ∧ s.pwr.target = t ∧ s.pwr.parkDone = false ∧
      { s.pwr with parkDone := true }.parkDone = true) ∧
    (let s := copy [(0x9E006, 0x20000)] { up with pwr := { up.pwr with committed := true } }
     s.seq.running = true ∧ s.pwr.committed = true ∧ (s.copyReg 0x9E006).bit 17 = true ∧ s.pwr.held = none) ∧
    (let s := copy [(0x9E006, 0xA0000)] { State.reset with pwr := { Pwr.reset with state := .deep } }
     s.pwr.state = .deep ∧ wakeEnabled s 1 0 = true ∧ wakeActive s 1 0 = true ∧ s.pwr.committed = false) ∧
    (let s := { State.reset with sup := { State.reset.sup with vlogB := ⟨true, true⟩ }, pwr := { Pwr.reset with state := .off } }
     s.seq.running = false ∧ s.pwr.state = .off ∧ s.sup.vlogB.ok = true ∧ s.pwr.held = none) := by decide +kernel

theorem witness_Ports :
    portReady State.reset .white = false ∧ portReady up .white = true ∧ (up.lane .white).linkUp = false ∧
    portIp ((ported up).lane .white) = (BitVec.ofNat 32 (portIp ((ported up).lane .white))).toNat ∧
    (∃ a ∈ permittedHosts ((ported up).lane .white), (BitVec.ofNat 32 a).toNat = a) := by decide +kernel

/-! ### Published vectors of the standards that the spec names -/

/-- FIPS 197, appendix C.1: the block 00112233445566778899AABBCCDDEEFFh under the key 000102030405060708090A0B0C0D0E0Fh. -/
theorem test_aes_128 :
    bigNumber (aesEncrypt (bigOctets 0x000102030405060708090A0B0C0D0E0F 16) (bigOctets 0x00112233445566778899AABBCCDDEEFF 16)) =
      0x69C4E0D86A7B0430D8CDB78070B4C55A ∧
    aesDecrypt (bigOctets 0x000102030405060708090A0B0C0D0E0F 16) (bigOctets 0x69C4E0D86A7B0430D8CDB78070B4C55A 16) =
      bigOctets 0x00112233445566778899AABBCCDDEEFF 16 := by decide +kernel

/-- FIPS 197, appendix C.3: the same block under the key of 256 bits. -/
theorem test_aes_256 :
    bigNumber (aesEncrypt (bigOctets 0x000102030405060708090A0B0C0D0E0F101112131415161718191A1B1C1D1E1F 32)
      (bigOctets 0x00112233445566778899AABBCCDDEEFF 16)) = 0x8EA2B7CA516745BFEAFC49904B496089 := by decide +kernel

/-- NIST SP 800-38B: the CMAC of no octets under the key 2B7E151628AED2A6ABF7158809CF4F3Ch. -/
theorem test_cmac :
    bigNumber (cmac (bigOctets 0x2B7E151628AED2A6ABF7158809CF4F3C 16) []) = 0xBB1D6929E95937287FA37D129B756746 := by
  decide +kernel

/-- RFC 3394, 4.3: 128 bits of key data wrapped with a 256-bit key. -/
theorem test_unwrap :
    keyUnwrap (bigOctets 0x000102030405060708090A0B0C0D0E0F101112131415161718191A1B1C1D1E1F 32)
      (bigOctets 0x64E8C3F9CE0F5BA263E9777905818A2A93C8191E7D6E8AE7 24) =
      some (bigOctets 0x00112233445566778899AABBCCDDEEFF 16) := by decide +kernel

end Sys2Proof.Tests
end

section
/-! SUPPORT. The arbiters (R140 to R145): what the arbiters, locks and counters of a lane read after a write, what a request and a
decision do, and what a lane reset leaves of them. -/

namespace Sys2Proof.Machine

open Sys2Proof

/-! ### The arbiters, locks and counters of a lane -/

@[simp] theorem LaneSt.arb_setArb (g : LaneSt) (i j : Nat) (x : Arb) : (g.setArb i x).arb j = if i = j then x else g.arb j :=
  Sparse.get_set _ _ _ _ _
@[simp] theorem LaneSt.lock_setArb (g : LaneSt) (i t : Nat) (x : Arb) : (g.setArb i x).lock t = g.lock t := rfl
@[simp] theorem LaneSt.counter_setArb (g : LaneSt) (i t m : Nat) (x : Arb) : (g.setArb i x).counter t m = g.counter t m := rfl

@[simp] theorem LaneSt.lock_setLock (g : LaneSt) (t u : Nat) (x : TargetLock) :
    (g.setLock t x).lock u = if t = u then x else g.lock u := Sparse.get_set _ _ _ _ _
@[simp] theorem LaneSt.arb_setLock (g : LaneSt) (t i : Nat) (x : TargetLock) : (g.setLock t x).arb i = g.arb i := rfl
@[simp] theorem LaneSt.counter_setLock (g : LaneSt) (t u m : Nat) (x : TargetLock) :
    (g.setLock t x).counter u m = g.counter u m := rfl

@[simp] theorem LaneSt.counter_setCounter (g : LaneSt) (t m n : Nat) (x : ArbCounters) :
    (g.setCounter t m x).counter t n = if m = n then x else g.counter t n := by
  simp [LaneSt.counter, LaneSt.setCounter, Sparse.get_set]
@[simp] theorem LaneSt.arb_setCounter (g : LaneSt) (t m i : Nat) (x : ArbCounters) : (g.setCounter t m x).arb i = g.arb i := rfl
@[simp] theorem LaneSt.lock_setCounter (g : LaneSt) (t m u : Nat) (x : ArbCounters) :
    (g.setCounter t m x).lock u = g.lock u := rfl

/-! ### The state around a lane -/

@[simp] theorem State.setLane_setLane (s : State) (l : Lane) (g h : LaneSt) : (s.setLane l g).setLane l h = s.setLane l h := by
  cases l <;> rfl
@[simp] theorem State.setLane_core (s : State) (l : Lane) (g : LaneSt) (c : Nat) : (s.setLane l g).core c = s.core c := by
  cases l <;> rfl
@[simp] theorem State.setLane_dma (s : State) (l : Lane) (g : LaneSt) (e : Nat) : (s.setLane l g).dma e = s.dma e := by
  cases l <;> rfl
@[simp] theorem State.setLane_sramWord (s : State) (l : Lane) (g : LaneSt) (a : Nat) :
    (s.setLane l g).sramWord a = s.sramWord a := by
  cases l <;> rfl

/-- The lane in a role follows from the roles of the lanes and their claims alone. -/
theorem laneIn_setLane (s : State) (l : Lane) (g : LaneSt) (r : Role) (hr : g.role = (s.lane l).role)
    (hs : g.stale = (s.lane l).stale) : laneIn (s.setLane l g) r = laneIn s r := by
  have hl : (g.role = r && !g.stale) = true ↔ ((s.lane l).role = r && !(s.lane l).stale) = true := by rw [hr, hs]
  cases l with
  | white => exact if_congr hl rfl rfl
  | black => exact if_congr Iff.rfl rfl (if_congr hl rfl rfl)

theorem viewLane_setLane (s : State) (l : Lane) (g : LaneSt) (hr : g.role = (s.lane l).role)
    (hs : g.stale = (s.lane l).stale) : viewLane (s.setLane l g) = viewLane s :=
  congrArg (·.getD .white) (laneIn_setLane s l g .active hr hs)

/-! ### A grant -/

/-- RELEASE by the owner frees the target; every other grant leaves it with its owner, or with the new one that START makes, and a
write of the owner is noted (R142, R144). -/
theorem TargetLock.grant_eq (m : Nat) (lk : LockFlag) (wr : Bool) (x : TargetLock) :
    x.grant m lk wr = if lk = .release ∧ x.owner = some m then { x with owner := none, wrote := false }
      else
        let o := if lk = .start ∧ x.owner = none then some m else x.owner
        { x with owner := o, wrote := x.wrote || (wr && decide (o = some m)) } := by
  obtain ⟨o, ab, id, rec, w⟩ := x
  by_cases hs : lk = .start ∧ o = none
  · obtain ⟨rfl, rfl⟩ := hs
    cases wr <;> simp [TargetLock.grant]
  · by_cases ho : o = some m <;> cases wr <;> simp [TargetLock.grant, hs, ho]

theorem LaneSt.grant_arb (t i : Nat) (r : BoardReq) (cycle : Nat) (g : LaneSt) :
    (g.grant t i r cycle).arb i = ⟨(r.master + 1) % 32, (g.arb i).queue.filter fun q => decide (q.master ≠ r.master),
      cycle + occupancy t, none⟩ := by
  simp [LaneSt.grant]

theorem LaneSt.grant_lock (t i : Nat) (r : BoardReq) (cycle : Nat) (g : LaneSt) :
    (g.grant t i r cycle).lock t = (g.lock t).grant r.master r.lock r.wr := by
  simp [LaneSt.grant]

theorem LaneSt.grant_counter (t i : Nat) (r : BoardReq) (cycle m : Nat) (g : LaneSt) :
    (g.grant t i r cycle).counter t m =
      if r.master = m then (g.counter t m).grant (cycle - r.age) else g.counter t m := by
  simp only [LaneSt.grant, LaneSt.counter_setCounter, LaneSt.counter_setLock, LaneSt.counter_setArb]
  split
  · next h => rw [h]
  · rfl

/-- A grant leaves the lane in its role and its claims as they are. -/
theorem viewLane_setLane_grant (s : State) (l : Lane) (t i : Nat) (r : BoardReq) (cycle : Nat) :
    viewLane (s.setLane l ((s.lane l).grant t i r cycle)) = viewLane s := by
  apply viewLane_setLane <;> simp only [LaneSt.grant, LaneSt.setCounter, LaneSt.setLock, LaneSt.setArb]

/-- A grant to a request that has not waited counts the grant alone (R145). -/
theorem ArbCounters.grant_zero (c : ArbCounters) :
    c.grant 0 = { c with grants := min (2 ^ 60 - 1) (c.grants + 1), waits := min (2 ^ 60 - 1) c.waits } := by
  simp [ArbCounters.grant]

/-! ### A request at its presentation -/

theorem LaneSt.waits_iff (t m : Nat) (g : LaneSt) :
    g.waits t m = true ↔ ∃ b : Fin 8, ∃ q ∈ (g.arb (arbIndex t b)).queue, q.master = m := by
  simp only [LaneSt.waits, List.any_eq_true, List.mem_range, decide_eq_true_eq]
  exact ⟨fun ⟨b, hb, hq⟩ => ⟨⟨b, hb⟩, hq⟩, fun ⟨b, hq⟩ => ⟨b, b.isLt, hq⟩⟩

/-- A master that has nothing outstanding at a target has nothing in the queue of any of its arbiters. -/
theorem LaneSt.master_ne_of_not_waits (t bank m : Nat) (g : LaneSt) (h : ¬g.waits t m = true) :
    ∀ q ∈ (g.arb (arbIndex t bank)).queue, q.master ≠ m := by
  rw [LaneSt.waits_iff] at h
  intro q hq hm
  have hi : arbIndex t (bank % 8) = arbIndex t bank := by simp [arbIndex]
  exact h ⟨⟨bank % 8, by omega⟩, q, hi ▸ hq, hm⟩

theorem LaneSt.grantsNow_iff (t i m cycle : Nat) (g : LaneSt) :
    g.grantsNow t i m cycle = true ↔ (g.lock t).recovering = false ∧ (g.arb i).busyUntil ≤ cycle ∧
      (((g.lock t).owner = none ∧ (g.arb i).queue = []) ∨ (g.lock t).owner = some m) := by
  simp only [LaneSt.grantsNow, LaneSt.freeFor, Bool.and_eq_true, Bool.or_eq_true, Bool.not_eq_true', decide_eq_true_eq,
    List.isEmpty_iff]
  tauto

/-- No request of the same cycle was granted at once: there is none to come before. -/
theorem LaneSt.before_eq_none (t i : Nat) (r : BoardReq) (g : LaneSt)
    (h : ∀ b, (g.arb i).atOnce = some b → b.req.age ≠ r.age) : g.before t i r = none := by
  cases hb : (g.arb i).atOnce with
  | none => simp [LaneSt.before, hb]
  | some b => simp [LaneSt.before, hb, h b hb]

/-- The scan reaches `r` before the request that was granted at once: the grant is undone. -/
theorem LaneSt.before_eq_some (t i : Nat) (r : BoardReq) (g : LaneSt) (b : AtOnce) (hb : (g.arb i).atOnce = some b)
    (ha : b.req.age = r.age) (ho : b.lock.owner = none)
    (hp : aheadOf b.pointer r.master < aheadOf b.pointer b.req.master) :
    g.before t i r = some (((g.setArb i ⟨b.pointer, b.req :: (g.arb i).queue, b.busyUntil, none⟩).setLock t b.lock).setCounter
      t b.req.master b.counter) := by
  simp [LaneSt.before, hb, ha, ho, hp]

section Present

variable (l : Lane) (t a : Nat) (r : BoardReq) (s : State)

theorem boardPresent_of_waits (hw : (s.lane l).waits t r.master = true) : boardPresent l t a r s = (false, s) := by
  simp [boardPresent, hw]

theorem boardPresent_of_before (b : LaneSt) (hw : ¬(s.lane l).waits t r.master = true)
    (hb : (s.lane l).before t (arbIndex t (sramBank a)) r = some b) :
    boardPresent l t a r s = (true, s.setLane l (b.grant t (arbIndex t (sramBank a)) r r.age)) := by
  simp [boardPresent, hw, hb]

theorem boardPresent_of_grantsNow (hw : ¬(s.lane l).waits t r.master = true)
    (hb : (s.lane l).before t (arbIndex t (sramBank a)) r = none)
    (hn : (s.lane l).grantsNow t (arbIndex t (sramBank a)) r.master r.age = true) :
    boardPresent l t a r s =
      let i := arbIndex t (sramBank a)
      let g := s.lane l
      let h := g.grant t i r r.age
      (true, s.setLane l (h.setArb i
        { h.arb i with atOnce := some ⟨r, (g.arb i).pointer, (g.arb i).busyUntil, g.lock t, g.counter t r.master⟩ })) := by
  simp [boardPresent, hw, hb, hn]

theorem boardPresent_of_not_grantsNow (hw : ¬(s.lane l).waits t r.master = true)
    (hb : (s.lane l).before t (arbIndex t (sramBank a)) r = none)
    (hn : ¬(s.lane l).grantsNow t (arbIndex t (sramBank a)) r.master r.age = true) :
    boardPresent l t a r s =
      let i := arbIndex t (sramBank a)
      let g := s.lane l
      (false, s.setLane l (g.setArb i { g.arb i with queue := (g.arb i).queue ++ [r] })) := by
  simp [boardPresent, hw, hb, hn]

end Present

/-- A permitted request of the Board is presented to the arbiter of its address with its cycle as its age. -/
theorem exec_boardRequest_ok (s : State) (l : Lane) (t₀ : Fin 18) (m : Fin 32) (a : Word) (wr : Bool) (lk : LockFlag)
    (cycle t : Nat) (hm : 24 ≤ (m : Nat) ∨ 0x20000 ≤ a.toNat)
    (hv : verdict s m (masterSecure s m) a.toNat wr lk = .ok) (ht : targetOf a.toNat = some t) :
    exec (.boardRequest l t₀ m (masterSecure s m) a wr lk cycle) s =
      .next (boardPresent l t a.toNat ⟨m, cycle, lk, wr, none⟩ s).2 := by
  have hown : ¬((m : Nat) < 24 ∧ a.toNat < 0x20000) := by omega
  simp only [exec, execBoardRequest, boardRequest, if_true, if_neg hown, hv, ht]

/-! ### The request that a decision grants -/

/-- `p` is granted before `q`: it is older, or of equal age and nearer above the pointer (R140). -/
def Arb.Precedes (x : Arb) (p q : BoardReq) : Prop :=
  p.age < q.age ∨ (p.age = q.age ∧ aheadOf x.pointer p.master < aheadOf x.pointer q.master)

/-- The fold step of `Arb.pick`: of the request held and the next one, the one that precedes. -/
def Arb.prefer (x : Arb) (b : Option BoardReq) (q : BoardReq) : Option BoardReq :=
  match b with
  | none => some q
  | some p =>
    if q.age < p.age ∨ (q.age = p.age ∧ aheadOf x.pointer q.master < aheadOf x.pointer p.master) then some q else some p

theorem Arb.pick_unlocked (x : Arb) : x.pick none = x.queue.foldl x.prefer none := rfl

theorem Arb.prefer_first (x : Arb) (r : BoardReq) (b : Option BoardReq)
    (hb : ∀ p, b = some p → p ≠ r → x.Precedes r p) : x.prefer b r = some r := by
  cases b with
  | none => rfl
  | some p =>
    by_cases hp : p = r
    · subst hp; simp [Arb.prefer]
    · exact if_pos (hb p rfl hp)

theorem Arb.prefer_keeps_first (x : Arb) (r q : BoardReq) (hq : q ≠ r → x.Precedes r q) : x.prefer (some r) q = some r := by
  by_cases h : q = r
  · subst h; simp [Arb.prefer]
  · refine if_neg ?_
    have := hq h
    unfold Arb.Precedes at this
    omega

/-- A request that precedes every other one outlasts the scan of the queue. -/
theorem Arb.foldl_prefer (x : Arb) (r : BoardReq) (l : List BoardReq) (b : Option BoardReq)
    (hl : ∀ q ∈ l, q ≠ r → x.Precedes r q) (hb : ∀ p, b = some p → p ≠ r → x.Precedes r p) (hr : b = some r ∨ r ∈ l) :
    l.foldl x.prefer b = some r := by
  induction l generalizing b with
  | nil => simpa using hr
  | cons q l ih =>
    have hl' : ∀ p ∈ l, p ≠ r → x.Precedes r p := fun p hp => hl p (List.mem_cons_of_mem _ hp)
    have hq : q ≠ r → x.Precedes r q := hl q List.mem_cons_self
    have held : ∀ p, some r = some p → p ≠ r → x.Precedes r p := fun p hp hne => absurd (Option.some.inj hp).symm hne
    rw [List.foldl_cons]
    by_cases hqr : q = r
    · subst hqr
      rw [Arb.prefer_first x q b hb]
      exact ih _ hl' held (.inl rfl)
    · rcases hr with rfl | hr
      · rw [Arb.prefer_keeps_first x r q hq]
        exact ih _ hl' held (.inl rfl)
      · refine ih _ hl' (fun p hp hne => ?_) (.inr ((List.mem_cons.1 hr).resolve_left fun e => hqr e.symm))
        cases b with
        | none => exact Option.some.inj hp ▸ hq hqr
        | some p' =>
          simp only [Arb.prefer] at hp
          split at hp
          · exact Option.some.inj hp ▸ hq hqr
          · exact hb p hp hne

theorem Arb.pick_oldest (x : Arb) (r : BoardReq) (hr : r ∈ x.queue) (h : ∀ q ∈ x.queue, q ≠ r → x.Precedes r q) :
    x.pick none = some r := by
  rw [Arb.pick_unlocked]
  exact Arb.foldl_prefer x r x.queue none h (fun _ hp => nomatch hp) (.inr hr)

/-- Under a lock the owner's request is granted; it is the only one, since a master has one outstanding. -/
theorem Arb.pick_owner (x : Arb) (r : BoardReq) (hr : r ∈ x.queue)
    (hp : x.queue.Pairwise fun p q => p.master ≠ q.master) : x.pick (some r.master) = some r := by
  have hinj : ∀ q ∈ x.queue, q.master = r.master → q = r := fun q hq hm =>
    List.inj_on_of_nodup_map (List.pairwise_map.2 hp) hq hr hm
  change x.queue.find? (fun q => decide (q.master = r.master)) = some r
  cases hf : x.queue.find? fun q => decide (q.master = r.master) with
  | none => exact absurd (decide_eq_true rfl) (List.find?_eq_none.1 hf r hr)
  | some q => rw [hinj q (List.mem_of_find?_eq_some hf) (by simpa using List.find?_some hf)]

theorem Arb.pick_nil (x : Arb) (o : Option Nat) (h : x.queue = []) : x.pick o = none := by
  cases o <;> simp [Arb.pick, h]

theorem Arb.pick_other_owner (x : Arb) (o : Nat) (h : ∀ q ∈ x.queue, q.master ≠ o) : x.pick (some o) = none := by
  simpa [Arb.pick] using h

/-! ### The access that a grant starts -/

theorem dmaFinish_idle (e : Nat) (s : State) (h : (s.dma e).busy = false) : dmaFinish e s = s := by
  simp [dmaFinish, h]

theorem pointWrite_sram (m a : Nat) (v : Word) (s : State) (ha : 0x20000 ≤ a) (hb : a < 0x60000) :
    pointWrite m a v s = s.setSram a v := by
  have hd : ¬(0x8C900 ≤ a ∧ a < 0x8C920 ∧ a % 8 = 0) := by omega
  have hl : ¬a < 0x20000 := by omega
  simp only [pointWrite, plainWrite, if_neg hd, if_neg hl, if_pos hb]

theorem touchLane_sram (m a : Nat) (s : State) (l : Lane) (hb : a < 0x60000) : touchLane m a s l = s := by
  simp (disch := omega) only [touchLane, if_neg]

theorem pointRead_sram (m a : Nat) (s : State) (ha : 0x20000 ≤ a) (hb : a < 0x60000) :
    pointRead m a s = (s.sramWord a, s) := by
  have ht : (computing s).foldl (touchLane m a) s = s :=
    List.foldl_fixed' (fun l => touchLane_sram m a s l hb) _
  simp (disch := omega) only [pointRead, readOn, readValue, pointValue, pointTouch, ht, if_neg, if_pos]

/-- A core's parked load of Board SRAM has its word (R137, R505). -/
theorem grantCore_sram_load (c : Nat) (a d : Word) (lk : LockFlag) (s : State)
    (hw : (s.core c).wait = some ⟨a, false, lk, d⟩) (hr : (s.core c).state = .running) (ha : 0x20000 ≤ a.toNat)
    (hb : a.toNat < 0x60000) :
    grantCore 0 c s = (s.setCore c { s.core c with wait := none }).setCore c
      { s.core c with wait := none, data := s.sramWord a.toNat } := by
  have ht : targetOf a.toNat = some 0 := by simp (disch := omega) only [targetOf, if_neg, if_pos]
  simp [grantCore, hw, ht, completeAccess, pointRead_sram _ _ _ ha hb, hr]

theorem grantAccess_core (l : Lane) (t m : Nat) (s : State) (hm : m < 24) :
    grantAccess l t m s = if l = viewLane s then grantCore t m s else s := by
  simp only [grantAccess, if_pos hm]

/-- The grant to a DMA engine that is not busy, to the host, the joining transfer or debug starts no access here. -/
theorem grantAccess_other (l : Lane) (t m : Nat) (s : State) (hm : 24 ≤ m)
    (hd : l = viewLane s → m < 28 → (s.dma (m - 24)).busy = false) :
    grantAccess l t m s = if m < 30 then uncountGrant l t m s else s := by
  have hview : viewLane (uncountGrant l t m s) = viewLane s := viewLane_setLane s l _ rfl rfl
  have hdma : (uncountGrant l t m s).dma (m - 24) = s.dma (m - 24) := State.setLane_dma s l _ _
  simp only [grantAccess, if_neg (Nat.not_lt.2 hm), hview]
  refine if_congr Iff.rfl ?_ rfl
  split
  · next h => exact dmaFinish_idle _ _ (hdma ▸ hd h.1 h.2)
  · rfl

/-! ### A decision -/

/-- What a decision that grants `r` makes of its lane: the grant, counted by the access itself for the masters whose access follows
it (R145). -/
def LaneSt.decided (t i : Nat) (r : BoardReq) (cycle : Nat) (g : LaneSt) : LaneSt :=
  let h := g.grant t i r cycle
  if 24 ≤ r.master ∧ r.master < 30 ∧ r.put = none then
    h.setCounter t r.master { h.counter t r.master with grants := (h.counter t r.master).grants - 1 }
  else h

theorem LaneSt.decided_arb (t i : Nat) (r : BoardReq) (cycle : Nat) (g : LaneSt) :
    (g.decided t i r cycle).arb i = ⟨(r.master + 1) % 32, (g.arb i).queue.filter fun q => decide (q.master ≠ r.master),
      cycle + occupancy t, none⟩ := by
  rw [← LaneSt.grant_arb]
  unfold LaneSt.decided
  split <;> rfl

theorem LaneSt.decided_lock (t i : Nat) (r : BoardReq) (cycle : Nat) (g : LaneSt) :
    (g.decided t i r cycle).lock t = (g.lock t).grant r.master r.lock r.wr := by
  rw [← LaneSt.grant_lock t i r cycle]
  unfold LaneSt.decided
  split <;> rfl

theorem LaneSt.decided_counter (t i : Nat) (r : BoardReq) (cycle : Nat) (g : LaneSt) :
    let c := g.counter t r.master
    (g.decided t i r cycle).counter t r.master =
      ⟨min (2 ^ 60 - 1) (c.grants + 1) - (if 24 ≤ r.master ∧ r.master < 30 ∧ r.put = none then 1 else 0),
        min (2 ^ 60 - 1) (c.waits + if cycle - r.age = 0 then 0 else 1), max c.longest (min 0xFFFFF (cycle - r.age))⟩ := by
  unfold LaneSt.decided
  split <;> simp [LaneSt.grant_counter, ArbCounters.grant]

/-- A grant that is made for no access of this lane, or for a master whose access follows it, changes the lane alone. -/
theorem grantAccess_decided (s : State) (l : Lane) (t i cycle : Nat) (r : BoardReq) (hput : r.put = none)
    (h : (24 ≤ r.master ∧ (r.master < 28 → (s.dma (r.master - 24)).busy = false)) ∨ l ≠ viewLane s) :
    grantAccess l t r.master (s.setLane l ((s.lane l).grant t i r cycle)) =
      s.setLane l ((s.lane l).decided t i r cycle) := by
  have hview := viewLane_setLane_grant s l t i r cycle
  by_cases hm : 24 ≤ r.master
  · rw [grantAccess_other l t _ _ hm]
    · by_cases h30 : r.master < 30 <;> simp [LaneSt.decided, uncountGrant, hm, h30, hput]
    · rw [hview, State.setLane_dma]
      exact fun hl => (h.resolve_right fun hne => hne hl).2
  · have hne : l ≠ viewLane s := h.resolve_left fun hc => hm hc.1
    rw [grantAccess_core l t _ _ (by omega), hview, if_neg hne]
    simp [LaneSt.decided, hm]

theorem exec_arbiterGrant {s u : State} {l : Lane} {t : Fin 18} {bank : Fin 8} {cycle : Nat}
    (h : arbiterGrant l t bank cycle s = u) : exec (.arbiterGrant l t bank cycle) s = .next u := congrArg _ h

section Decision

variable (s : State) (l : Lane) (t bank cycle : Nat) (r : BoardReq)

theorem arbiterGrant_of_held (h : ((s.lane l).lock t).recovering = true ∨ cycle < ((s.lane l).arb (arbIndex t bank)).busyUntil) :
    arbiterGrant l t bank cycle s = s := by
  simp [arbiterGrant, arbDecide, h]

theorem arbiterGrant_of_pick_none (h : ((s.lane l).arb (arbIndex t bank)).pick ((s.lane l).lock t).owner = none) :
    arbiterGrant l t bank cycle s = s := by
  simp [arbiterGrant, arbDecide, h]

/-- `r` is the request that the decision grants. -/
def Decides : Prop :=
  ((s.lane l).lock t).recovering = false ∧ ((s.lane l).arb (arbIndex t bank)).busyUntil ≤ cycle ∧
    ((s.lane l).arb (arbIndex t bank)).pick ((s.lane l).lock t).owner = some r

theorem decides_of_owner (hrec : ((s.lane l).lock t).recovering = false)
    (hbusy : ((s.lane l).arb (arbIndex t bank)).busyUntil ≤ cycle) (hr : r ∈ ((s.lane l).arb (arbIndex t bank)).queue)
    (hp : ((s.lane l).arb (arbIndex t bank)).queue.Pairwise fun p q => p.master ≠ q.master)
    (ho : ((s.lane l).lock t).owner = some r.master) : Decides s l t bank cycle r :=
  ⟨hrec, hbusy, by rw [ho]; exact Arb.pick_owner _ r hr hp⟩

theorem decides_of_oldest (hrec : ((s.lane l).lock t).recovering = false)
    (hbusy : ((s.lane l).arb (arbIndex t bank)).busyUntil ≤ cycle) (hr : r ∈ ((s.lane l).arb (arbIndex t bank)).queue)
    (ho : ((s.lane l).lock t).owner = none)
    (h : ∀ q ∈ ((s.lane l).arb (arbIndex t bank)).queue, q ≠ r → ((s.lane l).arb (arbIndex t bank)).Precedes r q) :
    Decides s l t bank cycle r :=
  ⟨hrec, hbusy, by rw [ho]; exact Arb.pick_oldest _ r hr h⟩

variable {s l t bank cycle r}

theorem arbiterGrant_of_decides (h : Decides s l t bank cycle r) :
    arbiterGrant l t bank cycle s =
      let u := s.setLane l ((s.lane l).grant t (arbIndex t bank) r cycle)
      if r.put.isSome then (if l = viewLane s then grantPut r.master r.put u else u) else grantAccess l t r.master u := by
  obtain ⟨hrec, hbusy, hpick⟩ := h
  simp [arbiterGrant, arbDecide, hrec, Nat.not_lt.2 hbusy, hpick]

/-- The decision changes its lane alone where no access of a core, write or transfer is made with the grant. -/
theorem arbiterGrant_lane_only (h : Decides s l t bank cycle r)
    (hc : (24 ≤ r.master ∧ r.put = none ∧ (r.master < 28 → (s.dma (r.master - 24)).busy = false)) ∨ l ≠ viewLane s) :
    arbiterGrant l t bank cycle s = s.setLane l ((s.lane l).decided t (arbIndex t bank) r cycle) := by
  rw [arbiterGrant_of_decides h]
  cases hput : r.put with
  | none => exact grantAccess_decided s l t _ cycle r hput (hc.imp_left fun ⟨hm, _, hd⟩ => ⟨hm, hd⟩)
  | some p =>
    have hne : l ≠ viewLane s := hc.resolve_left fun hc => by simp [hput] at hc
    simp [hne, LaneSt.decided, hput]

/-- A parked write of Board SRAM is made with its grant (R142). -/
theorem arbiterGrant_sram_put (h : Decides s l t bank cycle r) (hl : l = viewLane s) (a : Nat) (v : Word)
    (hput : r.put = some (a, v)) (ha : 0x20000 ≤ a) (hb : a < 0x60000) :
    arbiterGrant l t bank cycle s = (s.setLane l ((s.lane l).decided t (arbIndex t bank) r cycle)).setSram a v := by
  rw [arbiterGrant_of_decides h]
  simp [hput, ← hl, grantPut, pointWrite_sram _ _ _ _ ha hb, LaneSt.decided]

/-- A core's parked load of Board SRAM has its word with its grant (R140). -/
theorem arbiterGrant_sram_load (h : Decides s l 0 bank cycle r) (hl : l = viewLane s) (hm : r.master < 24)
    (hput : r.put = none) (a d : Word) (hw : (s.core r.master).wait = some ⟨a, false, .none, d⟩)
    (hr : (s.core r.master).state = .running) (ha : 0x20000 ≤ a.toNat) (hb : a.toNat < 0x60000) :
    let u := s.setLane l ((s.lane l).decided 0 (arbIndex 0 bank) r cycle)
    let k := { s.core r.master with wait := none }
    arbiterGrant l 0 bank cycle s =
      (u.setCore r.master k).setCore r.master { k with data := s.sramWord a.toNat } := by
  have hview : viewLane (s.setLane l ((s.lane l).grant 0 (arbIndex 0 bank) r cycle)) = l :=
    (viewLane_setLane_grant s l 0 _ r cycle).trans hl.symm
  have hdec : (s.lane l).decided 0 (arbIndex 0 bank) r cycle = (s.lane l).grant 0 (arbIndex 0 bank) r cycle := by
    simp [LaneSt.decided, Nat.not_le.2 hm]
  rw [arbiterGrant_of_decides h, hdec]
  simp only [hput, Option.isSome_none, Bool.false_eq_true, if_false]
  rw [grantAccess_core _ _ _ _ hm, hview, if_pos rfl,
    grantCore_sram_load _ a d .none _ (by simpa using hw) (by simpa using hr) ha hb]
  simp

end Decision

/-! ### A lane reset (R60, R144) -/

/-- Nothing is abandoned in a lane where the master holds no lock. -/
theorem abandonLocksIn_of_unlocked (l : Lane) (m : Nat) (s : State) (h : ∀ t : Nat, ((s.lane l).lock t).owner ≠ some m) :
    abandonLocksIn [l] m s = s :=
  List.foldl_fixed' (fun t => by simp [abandonIn, h t]) _

theorem updLaneReset_idle (l : Lane) (cause : LaneCause) (s : State) (h : s.upd.stage = .idle) :
    updLaneReset l cause s = s := by
  simp [updLaneReset, h]

theorem portFails_castle (l : Lane) (s : State) : (portFails l s).lanes.castle = s.lanes.castle := by
  unfold portFails resendReplies
  split
  · split <;> rfl
  · split <;> simp

theorem portFails_lane (l : Lane) (s : State) : (portFails l s).lane l = s.lane l := by
  unfold portFails resendReplies
  split
  · split <;> cases l <;> rfl
  · split <;> cases l <;> rfl

/-- The replies that the other port sends again leave the locks of its lane as they are. -/
theorem portFails_lock (l : Lane) (s : State) (t : Nat) :
    ((portFails l s).lane (otherLane l)).lock t = (s.lane (otherLane l)).lock t := by
  unfold portFails resendReplies
  split
  · split <;> cases l <;> rfl
  · split <;> cases l <;> rfl

theorem checkCastle_of_none (s : State) (h : s.lanes.castle = none) : checkCastle s = s := by
  simp [checkCastle, cancelCastle, h]

theorem clearLaneWork_lane (l : Lane) (s : State) : (clearLaneWork s).lane l = s.lane l := by cases l <;> rfl

/-- Without an update in progress, a lane reset abandons the joining transfer's locks in the other lane from a state that holds
the lane as it is after its reset, the other lane's locks, and the castling, and clears what no lane holds any more. -/
theorem laneReset_eq (l : Lane) (cause : LaneCause) (s : State) (hu : s.upd.stage = .idle) :
    ∃ u : State, u.lane l = (s.lane l).afterReset (laneCauseBits cause).1 (laneCauseBits cause).2 ∧
      (∀ t : Nat, (u.lane (otherLane l)).lock t = (s.lane (otherLane l)).lock t) ∧ u.lanes.castle = s.lanes.castle ∧
      laneReset l cause s =
        let v := abandonLocksIn [otherLane l] 30 u
        checkCastle (if (v.lane (otherLane l)).inStep then v else clearLaneWork v) := by
  unfold laneReset
  rw [updLaneReset_idle l cause s hu, ← portFails_lane l s, ← portFails_castle l s]
  simp only [← portFails_lock l s]
  generalize portFails l s = p
  refine ⟨_, ?_, fun t => ?_, ?_, rfl⟩ <;> cases l <;> rfl

/-- A lane reset leaves every arbiter of its lane as it is at reset, the pointer 0, where neither an update nor a castling runs and
the joining transfer holds no lock in the other lane. -/
theorem laneReset_arb (l : Lane) (cause : LaneCause) (s : State) (hu : s.upd.stage = .idle) (hc : s.lanes.castle = none)
    (hk : ∀ t : Nat, ((s.lane (otherLane l)).lock t).owner ≠ some 30) (i : Nat) :
    ((laneReset l cause s).lane l).arb i = Arb.reset := by
  obtain ⟨u, hlane, hlock, hcastle, hreset⟩ := laneReset_eq l cause s hu
  have hab : abandonLocksIn [otherLane l] 30 u = u :=
    abandonLocksIn_of_unlocked _ _ _ fun t => by rw [hlock]; exact hk t
  have harb : (u.lane l).arb i = Arb.reset := by rw [hlane]; rfl
  rw [hreset, hab, checkCastle_of_none]
  · split
    · exact harb
    · rw [clearLaneWork_lane]; exact harb
  · split <;> exact hcastle.trans hc

/-! ### The statement -/

section Request

variable (s : State) (l : Lane) (t₀ : Fin 18) (m : Fin 32) (a : Word) (wr : Bool) (lk : LockFlag) (cycle t : Nat)
  (hm : 24 ≤ (m : Nat) ∨ 0x20000 ≤ a.toNat) (hv : verdict s m (masterSecure s m) a.toNat wr lk = .ok)
  (ht : targetOf a.toNat = some t)

include hm hv ht

/-- A request that is granted at once. -/
theorem boardRequest_grantedAtOnce (hw : ¬(s.lane l).waits t m = true)
    (hb : ∀ b, ((s.lane l).arb (arbIndex t (sramBank a.toNat))).atOnce = some b → b.req.age ≠ cycle)
    (hn : (s.lane l).grantsNow t (arbIndex t (sramBank a.toNat)) m cycle = true) :
    Completes (.boardRequest l t₀ m (masterSecure s m) a wr lk cycle) s fun u =>
      let i := arbIndex t (sramBank a.toNat)
      let g := s.lane l
      let x := g.arb i
      (u.lane l).arb i = ⟨((m : Nat) + 1) % 32, x.queue, cycle + occupancy t,
        some ⟨⟨m, cycle, lk, wr, none⟩, x.pointer, x.busyUntil, g.lock t, g.counter t m⟩⟩ ∧
      (u.lane l).lock t = (g.lock t).grant m lk wr ∧
      (u.lane l).counter t m = { g.counter t m with
        grants := min (2 ^ 60 - 1) ((g.counter t m).grants + 1), waits := min (2 ^ 60 - 1) (g.counter t m).waits } ∧
      u = s.setLane l (u.lane l) := by
  refine ⟨_, exec_boardRequest_ok s l t₀ m a wr lk cycle t hm hv ht, ?_⟩
  have hq := LaneSt.master_ne_of_not_waits t (sramBank a.toNat) m _ hw
  rw [boardPresent_of_grantsNow l t a.toNat _ s hw (LaneSt.before_eq_none _ _ _ _ hb) hn]
  simpa [LaneSt.grant_arb, LaneSt.grant_lock, LaneSt.grant_counter, ArbCounters.grant_zero] using hq

/-- A request that is parked with its age. -/
theorem boardRequest_parked (hw : ¬(s.lane l).waits t m = true)
    (hb : ∀ b, ((s.lane l).arb (arbIndex t (sramBank a.toNat))).atOnce = some b → b.req.age ≠ cycle)
    (hn : ¬(s.lane l).grantsNow t (arbIndex t (sramBank a.toNat)) m cycle = true) :
    Completes (.boardRequest l t₀ m (masterSecure s m) a wr lk cycle) s fun u =>
      let i := arbIndex t (sramBank a.toNat)
      let x := (s.lane l).arb i
      (u.lane l).arb i = { x with queue := x.queue ++ [⟨m, cycle, lk, wr, none⟩] } ∧ u = s.setLane l (u.lane l) := by
  refine ⟨_, exec_boardRequest_ok s l t₀ m a wr lk cycle t hm hv ht, ?_⟩
  rw [boardPresent_of_not_grantsNow l t a.toNat _ s hw (LaneSt.before_eq_none _ _ _ _ hb) hn]
  simp

/-- A request that takes the grant of an earlier one of its cycle, which is parked. -/
theorem boardRequest_overtakes (hw : ¬(s.lane l).waits t m = true) (b : AtOnce)
    (hb : ((s.lane l).arb (arbIndex t (sramBank a.toNat))).atOnce = some b) (hage : b.req.age = cycle)
    (ho : b.lock.owner = none) (hne : b.req.master ≠ m) (hp : aheadOf b.pointer m < aheadOf b.pointer b.req.master) :
    Completes (.boardRequest l t₀ m (masterSecure s m) a wr lk cycle) s fun u =>
      let i := arbIndex t (sramBank a.toNat)
      let g := s.lane l
      (u.lane l).arb i = ⟨((m : Nat) + 1) % 32, b.req :: (g.arb i).queue, cycle + occupancy t, none⟩ ∧
      (u.lane l).lock t = b.lock.grant m lk wr ∧ (u.lane l).counter t b.req.master = b.counter ∧
      ((u.lane l).counter t m).grants = min (2 ^ 60 - 1) ((g.counter t m).grants + 1) ∧
      u = s.setLane l (u.lane l) := by
  refine ⟨_, exec_boardRequest_ok s l t₀ m a wr lk cycle t hm hv ht, ?_⟩
  have hq := LaneSt.master_ne_of_not_waits t (sramBank a.toNat) m _ hw
  rw [boardPresent_of_before l t a.toNat _ s _ hw (LaneSt.before_eq_some _ _ _ _ b hb hage ho hp)]
  simpa [LaneSt.grant_arb, LaneSt.grant_lock, LaneSt.grant_counter, ArbCounters.grant_zero, hne, hne.symm] using hq

end Request

/-- Settles O38: a request by what `boardPresent` does with it, a decision by the request that it grants, and the lane reset. That a
grant of the same cycle is undone, and that the access of a DMA engine or of the host counts its grant, are the readings of
assumption log 30. -/
theorem arbitersGrantByAge : Obligations.ArbitersGrantByAge := by
  unfold Obligations.ArbitersGrantByAge
  intro locked
  have hlocked : ∀ m lk wr (x : TargetLock), x.grant m lk wr = locked m lk wr x := TargetLock.grant_eq
  refine ⟨?request, ?decision, ?reset⟩
  case request =>
    intro s l t₀ m a wr lk cycle t hm hv ht i g x waits free
    have hwaits : g.waits t m = true ↔ waits := LaneSt.waits_iff t m g
    have hfree : g.grantsNow t i m cycle = true ↔ free := LaneSt.grantsNow_iff t i m cycle g
    refine ⟨fun hw => ?_, fun hw hb => ⟨fun hn => ?_, fun hn => ?_⟩, fun b hw hb hage ho hne hp => ?_⟩
    · rw [exec_boardRequest_ok s l t₀ m a wr lk cycle t hm hv ht, boardPresent_of_waits l t a.toNat _ s (hwaits.2 hw)]
    · simp only [← hlocked]
      exact boardRequest_grantedAtOnce s l t₀ m a wr lk cycle t hm hv ht (mt hwaits.1 hw) hb (hfree.2 hn)
    · exact boardRequest_parked s l t₀ m a wr lk cycle t hm hv ht (mt hwaits.1 hw) hb (mt hfree.1 hn)
    · simp only [← hlocked]
      exact boardRequest_overtakes s l t₀ m a wr lk cycle t hm hv ht (mt hwaits.1 hw) b hb hage ho hne hp
  case decision =>
    intro s l t bank cycle i g x above
    refine ⟨fun h => ?_, fun h => ?_, fun o ho h => ?_, fun r hr hrec hbusy hp hfirst => ?_⟩
    · exact exec_arbiterGrant (arbiterGrant_of_held s l t bank cycle h)
    · exact exec_arbiterGrant (arbiterGrant_of_pick_none s l t bank cycle (Arb.pick_nil _ _ h))
    · exact exec_arbiterGrant (arbiterGrant_of_pick_none s l t bank cycle (by rw [ho]; exact Arb.pick_other_owner _ _ h))
    · have hdec : Decides s l t bank cycle r := hfirst.elim (decides_of_owner s l t bank cycle r hrec hbusy hr hp)
        fun h => decides_of_oldest s l t bank cycle r hrec hbusy hr h.1 h.2
      intro c granted
      have hgranted : ∀ u : State, u.lane l = g.decided t i r cycle → granted u := fun u hu =>
        ⟨by rw [hu, LaneSt.decided_arb]; rfl, by rw [hu, LaneSt.decided_lock, hlocked], by rw [hu, LaneSt.decided_counter]⟩
      refine ⟨fun hc => ?_, fun a v hl hput ha hb => ?_, fun a d ht hm hput hl hw hrun ha hb => ?_⟩
      · refine ⟨_, exec_arbiterGrant (arbiterGrant_lane_only hdec hc), hgranted _ ?_, ?_⟩ <;> simp [g, i]
      · refine ⟨_, exec_arbiterGrant (arbiterGrant_sram_put hdec hl a v hput ha hb), hgranted _ ?_, ?_⟩ <;> simp [g, i]
      · obtain rfl : t = 0 := Fin.ext ht
        refine ⟨_, exec_arbiterGrant (arbiterGrant_sram_load hdec hl hm hput a d hw hrun ha hb),
          hgranted _ ?_, ?_, fun b => ?_⟩ <;> simp [g, i]
  case reset =>
    intro s l hu hc hk
    exact ⟨_, rfl, laneReset_arb l .watchdog s hu hc hk⟩

end Sys2Proof.Machine
end

section
/-! SUPPORT. The arithmetic units of the Kwask cores (R494 to R499): bits of FLAGS, what a trigger leaves of its core, and the
results of each unit. -/

namespace Sys2Proof.Machine

open Sys2Proof

/-! ### Bits of FLAGS (R495) -/

/-- A number is what stands above bit `i`, the bit, and what stands below it. -/
theorem eq_above_bit_below (x i : Nat) : x = 2 ^ i * (2 * (x / 2 ^ (i + 1)) + x / 2 ^ i % 2) + x % 2 ^ i := by
  rw [Nat.pow_succ, ← Nat.div_div_eq_div_mul, Nat.div_add_mod, Nat.div_add_mod]

theorem toNat_setBit (w : Word) (i : Nat) (b : Bool) : (w.setBit i b).toNat =
    (2 ^ i * (2 * (w.toNat / 2 ^ (i + 1)) + b.toNat) + w.toNat % 2 ^ i) % 2 ^ 20 := by
  have hx := eq_above_bit_below w.toNat i
  have hb : b.toNat % 2 = b.toNat := Nat.mod_eq_of_lt b.toNat_lt
  simp only [Word.setBit, Word.put, Word.field, Nat.shiftRight_eq_div_pow, BitVec.toNat_ofNat, Nat.add_sub_cancel_left,
    Nat.pow_one, hb]
  congr 1
  rw [Nat.mul_add, Nat.mul_comm b.toNat]
  rw [Nat.mul_add, Nat.mul_comm (2 ^ i) (_ % 2)] at hx
  omega

/-- Of a number with `h` above bit `i` and `l` below it, only bit `i` depends on that bit. -/
theorem testBit_above_bit_below (h l i j : Nat) (b : Bool) (hl : l < 2 ^ i) :
    (2 ^ i * (2 * h + b.toNat) + l).testBit j =
      if j = i then b else if j < i then l.testBit j else h.testBit (j - (i + 1)) := by
  rw [Nat.testBit_two_pow_mul_add _ hl]
  obtain hj | rfl | hj := Nat.lt_trichotomy j i
  · simp [hj, hj.ne]
  · cases b <;> simp
  · obtain ⟨n, rfl⟩ := Nat.exists_eq_add_of_lt hj
    have hh : (2 * h + b.toNat) / 2 = h := by have := b.toNat_lt; omega
    simp [show i + n + 1 - i = n + 1 by omega, show i + n + 1 - (i + 1) = n by omega, Nat.testBit_succ, hh, hj.ne',
      hj.not_gt]

@[simp] theorem bit_setBit (w : Word) (i j : Nat) (b : Bool) (hi : i < 20) :
    (w.setBit i b).bit j = if i = j then b else w.bit j := by
  by_cases hj : j < 20
  · have hlow : w.toNat % 2 ^ i < 2 ^ i := Nat.mod_lt _ (Nat.two_pow_pos i)
    have hw : w.bit j = (2 ^ i * (2 * (w.toNat / 2 ^ (i + 1)) + (w.toNat.testBit i).toNat) + w.toNat % 2 ^ i).testBit j := by
      rw [Nat.toNat_testBit, ← eq_above_bit_below]; rfl
    rw [hw, Word.bit, BitVec.getLsbD, toNat_setBit, Nat.testBit_mod_two_pow, testBit_above_bit_below _ _ _ _ _ hlow,
      testBit_above_bit_below _ _ _ _ _ hlow]
    by_cases h : i = j <;> simp [h, hj, eq_comm (a := j)]
  · have hij : i ≠ j := by omega
    simp [Word.bit, hij, BitVec.getLsbD_of_ge _ _ (Nat.le_of_not_lt hj)]

/-- FLAGS after an operation, bit by bit. -/
theorem flagsAfter_flagsAre (f : Word) (r : UnitResult) :
    FlagsAre (r.c.getD (f.bit 0)) (f.bit 1 || r.v) (f.bit 2 || r.dz) (f.bit 3 || r.sat) f (flagsAfter f r) := by
  obtain ⟨lo, hi, c, v, dz, sat⟩ := r
  refine ⟨?_, ?_, ?_, ?_, fun i h _ => ?_⟩
  case refine_5 =>
    have h0 : 0 ≠ i := by omega
    have h1 : 1 ≠ i := by omega
    have h2 : 2 ≠ i := by omega
    have h3 : 3 ≠ i := by omega
    cases c <;> simp [flagsAfter, h0, h1, h2, h3]
  all_goals cases c <;> simp [flagsAfter]

/-! ### A trigger of an arithmetic unit (R494 to R496) -/

/-- The result ports of unit `u` take `r`. -/
def Kwask.withResult (u : Nat) (r : UnitResult) (k : Kwask) : Kwask :=
  match u with
  | 0 => { k with alu := r.lo }
  | 1 => { k with shu := r.lo }
  | 2 => { k with lo := r.lo, hi := r.hi }
  | 3 => { k with quo := r.lo, rem := r.hi }
  | _ => { k with sat := r.lo }

@[simp] theorem Kwask.withResult_pc (u : Nat) (r : UnitResult) (k : Kwask) : (k.withResult u r).pc = k.pc := by
  unfold Kwask.withResult; split <;> rfl

@[simp] theorem Kwask.withResult_flags (u : Nat) (r : UnitResult) (k : Kwask) : (k.withResult u r).flags = k.flags := by
  unfold Kwask.withResult; split <;> rfl

/-- What a bundle changes after its triggers leaves the result ports alone. -/
theorem Kwask.withResult_goOn (u : Nat) (r : UnitResult) (k : Kwask) (used pc : Nat) :
    { k.withResult u r with used := used, pc := pc } = { k with used := used, pc := pc }.withResult u r := by
  unfold Kwask.withResult; split <;> rfl

/-- A core whose trigger of unit `u` at work cycle `t` gives `r` and leaves the flags `g`. -/
def Kwask.triggered (u t : Nat) (r : UnitResult) (g : Word) (k : Kwask) : Kwask :=
  { k.after u t (t + unitLatency u) with flags := g }.withResult u r

@[simp] theorem Kwask.triggered_flags (u t : Nat) (r : UnitResult) (g : Word) (k : Kwask) : (k.triggered u t r g).flags = g :=
  Kwask.withResult_flags ..

/-- A replacement of the core before a change of the core alone does not show. -/
theorem CoreIs.of_setCore {c : Nat} {k k' : Kwask} {s u : State} (h : CoreIs c k (s.setCore c k') u) : CoreIs c k s u := by
  obtain ⟨hcore, hother, hrest⟩ := h
  exact ⟨hcore, fun d hd => by rw [hother d hd, State.setCore_core, if_neg hd.symm], hrest⟩

theorem CoreIs.setCore (c : Nat) (k : Kwask) (s : State) : CoreIs c k s (s.setCore c k) :=
  ⟨by simp, fun d hd => by rw [State.setCore_core, if_neg hd.symm], rfl⟩

theorem goOn_coreIs (c b used : Nat) (s : State) (hb : b ≤ 16383) :
    CoreIs c { s.core c with used := used, pc := b } s (goOn c b used s) := by
  simp only [goOn, if_neg (Nat.not_lt.2 hb), State.modCore_eq, State.setCore_core, if_pos]
  exact (CoreIs.setCore ..).of_setCore

section Trigger

variable {dst u : Nat} (hd : triggerUnit dst = some u)

include hd

/-- A trigger port is none of the ports that a move writes before the triggers. -/
theorem writePort_of_trigger (k : Kwask) (v : Word) : writePort k dst v = k := by
  unfold writePort
  split
  · next h => simp only [triggerUnit] at hd; split_ifs at hd <;> omega
  · split
    case h_11 => rfl
    all_goals cases hd

/-- A trigger port is no port of the branch unit. -/
theorem flowOf_of_trigger (k : Kwask) (v : Word) : flowOf k [(dst, v)] = .next := by
  unfold flowOf
  split
  case h_8 => rfl
  all_goals cases hd

theorem ne_push_of_trigger : dst ≠ 0x68 := by rintro rfl; cases hd

/-- A bundle whose one move is a trigger goes on with the next. -/
theorem endBundle_of_trigger (c t : Nat) (a : Word) (s : State) (hpc : (s.core c).pc < 16383) :
    CoreIs c { s.core c with used := t + 1, pc := (s.core c).pc + 1 } s (endBundle c t [(dst, a)] false s) := by
  simp only [endBundle, List.filter, decide_eq_false (ne_push_of_trigger hd), List.map_nil, pushAll, Bool.false_and,
    Bool.false_eq_true, if_false, follow, flowOf_of_trigger hd, State.modCore_eq, State.setCore_core, if_pos]
  refine CoreIs.of_setCore (k' := { s.core c with used := t + 1 }) ?_
  simpa using goOn_coreIs c ((s.core c).pc + 1) (t + 1) (s.setCore c { s.core c with used := t + 1 }) hpc

/-- The one move of an arithmetic trigger reads its word and changes its core. -/
theorem bundleCore_of_trigger (t : Nat) (a : Word) (k : Kwask) :
    bundleCore t [(dst, a)] k.stack k = trigger t dst a k := by
  simp only [bundleCore, List.foldl, writePort_of_trigger hd]

variable (hu : u ≠ 5)

include hu

theorem trigger_eq_withResult (t : Nat) (a : Word) (k : Kwask) :
    trigger t dst a k = { k.busy u (t + unitLatency u) with flags := flagsAfter k.flags (unitResult k dst a) }.withResult u
      (unitResult k dst a) := by
  unfold trigger
  rw [hd]
  split
  case h_1 h => cases h
  case h_2 h => cases h; exact absurd rfl hu
  case h_3 h => cases h; rfl

/-- A core issues the one move of an arithmetic trigger at the first cycle at which the unit is free. -/
theorem issueOne_eq_endBundle (s : State) (c : Nat) (a : Word) (t : Nat) (h : Issues s c u t) :
    issueOne c dst a s = endBundle c t [(dst, a)] false (s.setCore c (trigger t dst a (s.core c))) := by
  obtain ⟨hrun, hdone, ht, hlim, -⟩ := h
  have hlsu : needsLsu [⟨0xFF, dst, 0⟩] = false := by simp [needsLsu, hd, hu]
  have hcyc : issueCycle (s.core c) [⟨0xFF, dst, 0⟩] = t := by simp [issueCycle, resultUnit, hd, ht]
  have hread : readSources c t a (s.core c) [⟨0xFF, dst, 0⟩] (s.core c).stack = some ([a], (s.core c).stack) := rfl
  have hmove : lsuMove [(dst, a)] = none := by simp [lsuMove, hd, hu]
  simp [issueOne, issueMoves, guardHolds, hrun, hdone, hlsu, hcyc, Nat.not_le.2 hlim, runMoves, hread, hmove,
    bundleCore_of_trigger hd]

/-- An arithmetic trigger that issues: the flags and the result ports of its unit take the result, and nothing but the core is
touched. -/
theorem issueOne_of_trigger (s : State) (c : Nat) (a : Word) (t : Nat) (h : Issues s c u t) :
    let k := s.core c
    let r := unitResult k dst a
    CoreIs c (k.triggered u t r (flagsAfter k.flags r)) s (issueOne c dst a s) := by
  intro k r
  have ⟨_, _, _, _, hpc⟩ := h
  have htrig := trigger_eq_withResult hd hu t a k
  have hkeep : (trigger t dst a k).pc = k.pc := by rw [htrig, Kwask.withResult_pc]; rfl
  have hcore : { trigger t dst a k with used := t + 1, pc := k.pc + 1 } =
      k.triggered u t r (flagsAfter k.flags r) := by
    rw [htrig, Kwask.withResult_goOn]; rfl
  have hend := endBundle_of_trigger hd c t a (s.setCore c (trigger t dst a k))
  simp only [State.setCore_core, if_pos, hkeep, hcore] at hend
  rw [issueOne_eq_endBundle hd hu s c a t h]
  exact (hend hpc).of_setCore

end Trigger

/-! ### The results of the units (R499) -/

theorem not_fitsS20 (n : Int) : (!fitsS20 n) = decide (n < -524288 ∨ 524287 < n) := by
  rw [Bool.eq_iff_iff]
  simp only [fitsS20, Bool.not_and, Bool.or_eq_true, Bool.not_eq_true', decide_eq_false_iff_not, decide_eq_true_eq]
  omega

/-- The negation of a word is out of range for the most negative number alone. -/
theorem not_fitsS20_neg (a : Word) : (!fitsS20 (-a.s20)) = decide (a = 0x80000) := by
  have hmin : a = 0x80000 ↔ a.s20 = -524288 := BitVec.toInt_inj.symm
  have hlo : -524288 ≤ a.s20 := BitVec.le_toInt a
  have hhi : a.s20 < 524288 := BitVec.toInt_lt
  rw [not_fitsS20, decide_eq_decide, hmin]
  omega

theorem addResult_eq (a b : Word) :
    addResult a b = ⟨a + b, 0, some (decide (2 ^ 20 ≤ a.toNat + b.toNat)),
      decide (a.s20 + b.s20 < -524288 ∨ 524287 < a.s20 + b.s20), false, false⟩ := by rw [addResult, not_fitsS20]

theorem subResult_eq (a b : Word) :
    subResult a b = ⟨a - b, 0, some (decide (a.toNat < b.toNat)),
      decide (a.s20 - b.s20 < -524288 ∨ 524287 < a.s20 - b.s20), false, false⟩ := by rw [subResult, not_fitsS20]

theorem negResult_eq (a : Word) : negResult a = ⟨-a, 0, none, decide (a = 0x80000), false, false⟩ := by
  rw [negResult, not_fitsS20_neg]

theorem s20_wrapS20 (n : Int) (hlo : -524288 ≤ n) (hhi : n ≤ 524287) : (wrapS20 n).s20 = n :=
  BitVec.toInt_ofInt_eq_self (by decide) hlo (Int.lt_add_one_iff.2 hhi)

theorem s20_clampS20 (n : Int) : (clampS20 n).s20 = max (-524288) (min 524287 n) :=
  s20_wrapS20 _ (by omega) (by omega)

/-- HI and LO spell the product. -/
theorem product_append (n : Int) : (product n).hi ++ (product n).lo = BitVec.ofInt 40 n := by
  refine (BitVec.extractLsb'_append_extractLsb'_eq_extractLsb' (start₁ := 0) (len₁ := 20) rfl).trans ?_
  exact BitVec.extractLsb'_eq_self

theorem mulsResult_toInt (a b : Word) : ((mulsResult a b).hi ++ (mulsResult a b).lo).toInt = a.s20 * b.s20 := by
  have hlo : -2 ^ 38 ≤ a.s20 * b.s20 := BitVec.le_toInt_mul_toInt
  have hhi : a.s20 * b.s20 ≤ 2 ^ 38 := BitVec.toInt_mul_toInt_le
  rw [mulsResult, product_append]
  exact BitVec.toInt_ofInt_eq_self (by decide) (by omega) (by omega)

theorem muluResult_toNat (a b : Word) : ((muluResult a b).hi ++ (muluResult a b).lo).toNat = a.toNat * b.toNat := by
  have h : a.toNat * b.toNat < 2 ^ 20 * 2 ^ 20 := Nat.mul_lt_mul'' a.isLt b.isLt
  rw [muluResult, product_append, BitVec.ofInt_natCast, BitVec.toNat_ofNat]
  exact Nat.mod_eq_of_lt h

/-- Where it divides and does not overflow, DIVS is the signed division of words. -/
theorem divsResult_of_ne (a b : Word) (hb : b ≠ 0) (h : a ≠ 0x80000 ∨ b ≠ 0xFFFFF) :
    divsResult a b = ⟨a.sdiv b, a.srem b, none, false, false, false⟩ := by
  have hq : (a.sdiv b).toInt = a.toInt.tdiv b.toInt := BitVec.toInt_sdiv_of_ne_or_ne a b h
  have hover : ¬(a.s20 = -524288 ∧ b.s20 = -1) := fun ⟨ha, hb⟩ =>
    h.elim (· (BitVec.toInt_inj.1 ha)) (· (BitVec.toInt_inj.1 hb))
  rw [divsResult, if_neg hb, if_neg hover]
  simp only [wrapS20, Word.s20, ← hq, ← BitVec.toInt_srem, BitVec.ofInt_toInt]

theorem divuResult_of_ne (a b : Word) (hb : b ≠ 0) : divuResult a b = ⟨a / b, a % b, none, false, false, false⟩ := by
  simp only [divuResult, if_neg hb, Word.ofN, ← BitVec.toNat_udiv, ← BitVec.toNat_umod, BitVec.ofNat_toNat,
    BitVec.setWidth_eq]

/-- The rounding of SMUL in terms of the product itself. -/
theorem roundQ_eq (p : Int) : roundQ p = if 0 ≤ p then (p + 2 ^ 18) / 2 ^ 19 else -((-p + 2 ^ 18) / 2 ^ 19) := by
  unfold roundQ
  split <;> omega

/-! ### The commands of the units -/

section Command

variable {s : State} {c dst u t : Nat} {a : Word} (hd : triggerUnit dst = some u) (hu : u ≠ 5) (h : Issues s c u t) {i : Instr}
  (hx : exec i s = .next (issueOne c dst a s))

include hd hu h hx

/-- The command of an arithmetic trigger that issues: what its core then holds, with the flags that its result sets. -/
theorem completes_of_trigger {r : UnitResult} (hr : unitResult (s.core c) dst a = r) :
    Completes i s fun v =>
      let k := s.core c
      let f := k.flags
      CoreIs c (k.triggered u t r (v.core c).flags) s v ∧
      FlagsAre (r.c.getD (f.bit 0)) (f.bit 1 || r.v) (f.bit 2 || r.dz) (f.bit 3 || r.sat) f (v.core c).flags := by
  refine ⟨_, hx, ?_⟩
  have hcore := issueOne_of_trigger hd hu s c a t h
  have hflags : ((issueOne c dst a s).core c).flags = flagsAfter (s.core c).flags r := by
    rw [hcore.1, Kwask.triggered_flags, hr]
  simp only [hr] at hcore
  simp only [hflags]
  exact ⟨hcore, flagsAfter_flagsAre _ _⟩

/-- The flags of ADD, SUB and NEG. -/
theorem completes_overflow {w : Word} {cy : Option Bool} {ov : Bool}
    (hr : unitResult (s.core c) dst a = ⟨w, 0, cy, ov, false, false⟩) :
    Completes i s fun v =>
      let k := s.core c
      let f := k.flags
      CoreIs c (k.triggered u t ⟨w, 0, cy, ov, false, false⟩ (v.core c).flags) s v ∧
      FlagsAre (cy.getD (f.bit 0)) (f.bit 1 || ov) (f.bit 2) (f.bit 3) f (v.core c).flags := by
  simpa only [Bool.or_false] using completes_of_trigger hd hu h hx hr

/-- The flags of a division. -/
theorem completes_division {q r : Word} {ov dz : Bool} (hr : unitResult (s.core c) dst a = ⟨q, r, none, ov, dz, false⟩) :
    Completes i s fun v =>
      let k := s.core c
      let f := k.flags
      CoreIs c (k.triggered u t ⟨q, r, none, ov, dz, false⟩ (v.core c).flags) s v ∧
      FlagsAre (f.bit 0) (f.bit 1 || ov) (f.bit 2 || dz) (f.bit 3) f (v.core c).flags := by
  simpa only [Bool.or_false, Option.getD_none] using completes_of_trigger hd hu h hx hr

/-- An operation that changes no flag. -/
theorem completes_plain {lo hi : Word} (hr : unitResult (s.core c) dst a = ⟨lo, hi, none, false, false, false⟩) :
    Completes i s fun v =>
      let k := s.core c
      let f := k.flags
      CoreIs c (k.triggered u t ⟨lo, hi, none, false, false, false⟩ (v.core c).flags) s v ∧
      FlagsAre (f.bit 0) (f.bit 1) (f.bit 2) (f.bit 3) f (v.core c).flags := by
  simpa only [Bool.or_false] using completes_division hd hu h hx hr

end Command

section Ports

variable {s : State} {c dst t : Nat} {a : Word} {i : Instr} (hx : exec i s = .next (issueOne c dst a s)) {n : Int}

include hx

/-- What holds of the two words of a product holds of HI and LO. -/
theorem completes_product (hd : triggerUnit dst = some 2) (h : Issues s c 2 t) (hr : unitResult (s.core c) dst a = product n)
    {p : Word → Word → Prop} (hp : p (product n).hi (product n).lo) :
    Completes i s fun v =>
      let k := s.core c
      let f := k.flags
      CoreIs c { k.after 2 t (t + 3) with hi := (v.core c).hi, lo := (v.core c).lo, flags := (v.core c).flags } s v ∧
      p (v.core c).hi (v.core c).lo ∧ FlagsAre (f.bit 0) (f.bit 1) (f.bit 2) (f.bit 3) f (v.core c).flags := by
  obtain ⟨v, hv, hcore, hflags⟩ := completes_plain hd (by decide) h hx hr
  have hhi : (v.core c).hi = (product n).hi := by rw [hcore.1]; rfl
  have hlo : (v.core c).lo = (product n).lo := by rw [hcore.1]; rfl
  refine ⟨v, hv, ?_, by rwa [hhi, hlo], hflags⟩
  rw [hhi, hlo]
  exact hcore

/-- A saturating operation clamps the exact result and sets SAT where it does. -/
theorem completes_saturated (hd : triggerUnit dst = some 4) (h : Issues s c 4 t)
    (hr : unitResult (s.core c) dst a = saturated n) :
    Completes i s fun v =>
      let k := s.core c
      let f := k.flags
      CoreIs c { k.after 4 t (t + 1) with sat := (v.core c).sat, flags := (v.core c).flags } s v ∧
      (v.core c).sat.s20 = max (-524288) (min 524287 n) ∧
      FlagsAre (f.bit 0) (f.bit 1) (f.bit 2) (f.bit 3 || decide (n < -524288 ∨ 524287 < n)) f (v.core c).flags := by
  obtain ⟨v, hv, hcore, hflags⟩ := completes_of_trigger hd (by decide) h hx hr
  have hsat : (v.core c).sat = clampS20 n := by rw [hcore.1]; rfl
  refine ⟨v, hv, ?_, by rw [hsat, s20_clampS20], ?_⟩
  · rw [hsat]
    exact hcore
  · simpa only [saturated, not_fitsS20, Bool.or_false, Option.getD_none] using hflags

end Ports

/-! ### The statement -/

/-- Settles O43: each command is the trigger of its unit that `completes_of_trigger` speaks of, with the result of the unit. -/
theorem unitResults : Obligations.UnitResults := by
  unfold Obligations.UnitResults
  refine ⟨?alu, fun s c a t => ⟨fun h => ?shift, fun h => ?product, fun h => ?division⟩, ?saturating⟩
  case alu =>
    intro s c a t h k o f gives out bool
    have overflow {i : Instr} {dst : Nat} {w : Word} {cy : Option Bool} {ov : Bool} (hd : triggerUnit dst = some 0)
        (hx : exec i s = .next (issueOne c dst a s)) (hr : unitResult k dst a = ⟨w, 0, cy, ov, false, false⟩) :
        gives i w (cy.getD (f.bit 0)) (f.bit 1 || ov) := completes_overflow hd (by decide) h hx hr
    have plain {i : Instr} {dst : Nat} {w : Word} (hd : triggerUnit dst = some 0)
        (hx : exec i s = .next (issueOne c dst a s)) (hr : unitResult k dst a = .plain w) :
        gives i w (f.bit 0) (f.bit 1) := completes_plain hd (by decide) h hx hr
    exact ⟨overflow (dst := 0x21) rfl rfl (addResult_eq a o), overflow (dst := 0x22) rfl rfl (subResult_eq a o),
      plain (dst := 0x23) rfl rfl rfl, plain (dst := 0x24) rfl rfl rfl, plain (dst := 0x25) rfl rfl rfl,
      overflow (dst := 0x26) rfl rfl (negResult_eq a), plain (dst := 0x27) rfl rfl rfl, plain (dst := 0x28) rfl rfl rfl,
      plain (dst := 0x29) rfl rfl rfl⟩
  case shift =>
    exact ⟨completes_plain (dst := 0x31) rfl (by decide) h rfl rfl, completes_plain (dst := 0x32) rfl (by decide) h rfl rfl,
      completes_plain (dst := 0x33) rfl (by decide) h rfl rfl⟩
  case product =>
    intro o gives
    exact ⟨completes_product (dst := 0x39) (p := fun hi lo => (hi ++ lo).toInt = a.s20 * o.s20) rfl rfl h rfl
        (mulsResult_toInt a o),
      completes_product (dst := 0x3A) (p := fun hi lo => (hi ++ lo).toNat = a.toNat * o.toNat) rfl rfl h rfl
        (muluResult_toNat a o)⟩
  case division =>
    intro o gives
    have divs {q r : Word} {ov dz : Bool} (hr : divsResult a o = ⟨q, r, none, ov, dz, false⟩) :
        gives (.divs c a) q r ov dz := completes_division (dst := 0x41) rfl (by decide) h rfl hr
    have divu {q r : Word} {ov dz : Bool} (hr : divuResult a o = ⟨q, r, none, ov, dz, false⟩) :
        gives (.divu c a) q r ov dz := completes_division (dst := 0x42) rfl (by decide) h rfl hr
    refine ⟨fun ho => ⟨divs ?_, divu ?_⟩, fun ha ho => divs ?_, fun ho hne => ?_, fun ho => ?_⟩
    · rw [ho]; rfl
    · rw [ho]; rfl
    · rw [ha, ho]; rfl
    · exact ⟨a.sdiv o, a.srem o, divs (divsResult_of_ne a o ho hne), BitVec.toInt_sdiv_of_ne_or_ne a o hne,
        BitVec.toInt_srem a o⟩
    · exact ⟨a / o, a % o, divu (divuResult_of_ne a o ho), BitVec.toNat_udiv, BitVec.toNat_umod⟩
  case saturating =>
    intro s c a t h k f o gives p
    exact ⟨completes_saturated (dst := 0x49) rfl rfl h rfl, completes_saturated (dst := 0x4A) rfl rfl h rfl,
      completes_saturated (dst := 0x4B) rfl rfl h rfl, completes_saturated (dst := 0x4D) rfl rfl h rfl,
      completes_saturated (dst := 0x4C) rfl rfl h (congrArg saturated (roundQ_eq p))⟩

end Sys2Proof.Machine
end

section
/-! SUPPORT. Fields of words (R7). -/

namespace Sys2Proof

/-- The part of a word that a `put` writes reads as what was written. -/
theorem Word.field_put (w : Word) {hi lo : Nat} (v : Nat) (hl : lo ≤ hi) (hh : hi < 20) :
    (w.put hi lo v).field hi lo = v % 2 ^ (hi + 1 - lo) := by
  obtain ⟨k, rfl⟩ := Nat.exists_eq_add_of_le hl
  have hk : lo + k + 1 - lo = k + 1 := by omega
  have hv : v % 2 ^ (k + 1) < 2 ^ (k + 1) := Nat.mod_lt _ (Nat.two_pow_pos _)
  have hb : w.toNat % 2 ^ lo < 2 ^ lo := Nat.mod_lt _ (Nat.two_pow_pos _)
  have hx : w.toNat = 2 ^ lo * (2 ^ (k + 1) * (w.toNat / 2 ^ lo / 2 ^ (k + 1)) + w.toNat / 2 ^ lo % 2 ^ (k + 1)) +
      w.toNat % 2 ^ lo := by rw [Nat.div_add_mod, Nat.div_add_mod]
  simp only [Word.put, Word.field, hk, Nat.shiftRight_eq_div_pow, BitVec.toNat_ofNat]
  generalize hA : w.toNat / 2 ^ lo / 2 ^ (k + 1) = A at hx
  generalize hf : w.toNat / 2 ^ lo % 2 ^ (k + 1) = f at hx ⊢
  generalize hB : w.toNat % 2 ^ lo = B at hx hb
  generalize hV : v % 2 ^ (k + 1) = V at hv ⊢
  have hy : w.toNat - f * 2 ^ lo + V * 2 ^ lo = B + 2 ^ lo * (V + 2 ^ (k + 1) * A) := by
    rw [hx, Nat.mul_add, Nat.mul_add, Nat.mul_comm f, Nat.mul_comm V]; omega
  have hlt : B + 2 ^ lo * (V + 2 ^ (k + 1) * A) < 2 ^ 20 := by
    have hpow : 2 ^ lo * (2 ^ (k + 1) * 2 ^ (19 - (lo + k))) = 2 ^ 20 := by
      rw [← pow_add, ← pow_add]; congr 1; omega
    have hA' : A < 2 ^ (19 - (lo + k)) := by
      rw [← hA, Nat.div_div_eq_div_mul, Nat.div_lt_iff_lt_mul (by positivity), Nat.mul_comm, Nat.mul_assoc, hpow]
      exact w.isLt
    calc B + 2 ^ lo * (V + 2 ^ (k + 1) * A) < 2 ^ lo * 1 + 2 ^ lo * (V + 2 ^ (k + 1) * A) := by omega
      _ = 2 ^ lo * (1 + V + 2 ^ (k + 1) * A) := by rw [← Nat.mul_add, Nat.add_assoc]
      _ ≤ 2 ^ lo * (2 ^ (k + 1) * (A + 1)) := Nat.mul_le_mul_left _ (by rw [Nat.mul_add, Nat.mul_one]; omega)
      _ ≤ 2 ^ 20 := hpow ▸ Nat.mul_le_mul_left _ (Nat.mul_le_mul_left _ hA')
  rw [hy, Nat.mod_eq_of_lt hlt, Nat.add_mul_div_left _ _ (Nat.two_pow_pos lo), Nat.div_eq_of_lt hb, Nat.zero_add,
    Nat.add_mul_mod_self_left, Nat.mod_eq_of_lt hv]

end Sys2Proof
end

section
/-! SUPPORT. The queue and the invariant: what every command and every step keeps, from the lemmas of the operations. -/

namespace Sys2Proof.Machine

open Sys2Proof

/-- No command is refused and none faults. -/
theorem exec_next (c : Instr) (s : State) : ∃ t, exec c s = .next t := by
  cases c <;> exact ⟨_, rfl⟩

/-- Every command keeps the queue and the invariant: the operation of its row does. -/
theorem exec_kept {q : List Instr} (c : Instr) (s : State) (hk : Kept q s) : KeptO q (exec c s) :=
  match c with
  | .vlogLost _ _ => execVlogLost_kept _ _ _ hk
  | .vlogBack _ _ _ => execVlogBack_kept _ _ _ _ hk
  | .reducedOn _ => execReducedOn_kept _ _ hk
  | .reducedOff _ _ => execReducedOff_kept _ _ _ hk
  | .vpwrLow _ _ => execVpwrLow_kept _ _ _ hk
  | .vpwrMissing _ _ => execVpwrMissing_kept _ _ _ hk
  | .vpwrOk _ _ => execVpwrOk_kept _ _ _ hk
  | .powerFail _ _ => execPowerFail_kept _ _ _ hk
  | .holdUpEnd => execHoldUpEnd_kept _ hk
  | .laneRailBrownout _ _ => execLaneRailBrownout_kept _ _ _ hk
  | .fabAnaLost => execFabAnaLost_kept _ hk
  | .fabAnaSettled => execFabAnaSettled_kept _ hk
  | .tileReset _ _ => execTileReset_kept _ _ _ hk
  | .aoRailBrownout => execAoRailBrownout_kept _ hk
  | .lowPowerBrownout => execLowPowerBrownout_kept _ hk
  | .wakeInputRise _ => execWakeInputRise_kept _ _ hk
  | .wakeInputFall _ => execWakeInputFall_kept _ _ hk
  | .coldStart _ _ _ _ _ => execColdStart_kept _ _ _ _ _ _ hk
  | .laneResetRelease _ => execLaneResetRelease_kept _ _ hk
  | .pllLocked _ => execPllLocked_kept _ _ hk
  | .imageVerified _ _ _ => execImageVerified_kept _ _ _ _ hk
  | .configApplied _ _ _ => execConfigApplied_kept _ _ _ _ hk
  | .lanesMeet => execLanesMeet_kept _ hk
  | .soloTimeout _ => execSoloTimeout_kept _ _ hk
  | .firstActivePly _ => execFirstActivePly_kept _ _ hk
  | .hostLinkUp _ => execHostLinkUp_kept _ _ hk
  | .hostLinkLoss _ => execHostLinkLoss_kept _ _ hk
  | .laneResetEvent _ _ => execLaneResetEvent_kept _ _ _ hk
  | .laneWatchdog _ => execLaneWatchdog_kept _ _ hk
  | .coreFault _ d k => execCoreFault_kept _ d k _ hk
  | .uncorrectableError _ => execUncorrectableError_kept _ _ hk
  | .epochEndReset => execEpochEndReset_kept _ hk
  | .plyBoundary => execPlyBoundary_kept _ hk
  | .inputPresented _ _ _ => execInputPresented_kept _ _ _ _ hk
  | .assignmentReceived _ => execAssignmentReceived_kept _ _ hk
  | .phaseBStart => execPhaseBStart_kept _ hk
  | .phaseCEmit _ _ _ => execPhaseCEmit_kept _ _ _ _ hk
  | .phaseDDigest _ => execPhaseDDigest_kept _ _ hk
  | .phaseECommit _ => execPhaseECommit_kept _ _ hk
  | .commandReceived _ _ _ _ _ _ => execCommandReceived_kept _ _ _ _ _ _ _ hk
  | .keepAlive _ _ => execKeepAlive_kept _ _ _ hk
  | .shadowReceived _ _ _ => execShadowReceived_kept _ _ _ _ hk
  | .shadowMissing _ _ => execShadowMissing_kept _ _ _ hk
  | .pathDown _ => execPathDown_kept _ _ hk
  | .pathUp _ => execPathUp_kept _ _ hk
  | .withdraw _ _ => execWithdraw_kept _ _ _ hk
  | .withdrawReceived _ => execWithdrawReceived_kept _ _ hk
  | .markerTimeout => execMarkerTimeout_kept _ hk
  | .claimReceived _ _ _ _ => execClaimReceived_kept _ _ _ _ _ hk
  | .superseded _ => execSuperseded_kept _ _ hk
  | .joinAbandoned => execJoinAbandoned_kept _ hk
  | .joinRetry => execJoinRetry_kept _ hk
  | .laneCtlCastle => execLaneCtlCastle_kept _ hk
  | .joinEn _ => execJoinEn_kept _ _ hk
  | .divUnlock => execDivUnlock_kept _ hk
  | .scoTimeRead _ _ => execScoTimeRead_kept _ _ _ hk
  | .boardRequest _ t _ _ _ _ _ _ => execBoardRequest_kept _ t _ _ _ _ _ _ _ hk
  | .arbiterGrant _ _ _ _ => execArbiterGrant_kept _ _ _ _ _ hk
  | .lockAbandoned _ _ => execLockAbandoned_kept _ _ _ hk
  | .lockRecoveryEnd _ _ => execLockRecoveryEnd_kept _ _ _ hk
  | .accessTableWrite _ _ _ _ => execAccessTableWrite_kept _ _ _ _ _ hk
  | .commit => execCommit_kept _ hk
  | .clear _ _ => execClear_kept _ _ _ hk
  | .clearAll _ _ => execClearAll_kept _ _ _ hk
  | .arbGrantsRead _ _ => execArbGrantsRead_kept _ _ _ hk
  | .arbSwinWrite _ _ _ => execArbSwinWrite_kept _ _ _ _ hk
  | .chOn _ => execChOn_kept _ _ hk
  | .chOff _ => execChOff_kept _ _ hk
  | .chClear _ => execChClear_kept _ _ hk
  | .chProbe _ => execChProbe_kept _ _ hk
  | .chCfgWrite _ _ => execChCfgWrite_kept _ _ _ hk
  | .firstTurnOnProbeEnd _ _ _ => execFirstTurnOnProbeEnd_kept _ _ _ _ hk
  | .freewheelProbeEnd _ _ => execFreewheelProbeEnd_kept _ _ _ hk
  | .retryOffTimeEnd _ => execRetryOffTimeEnd_kept _ _ hk
  | .inrushWindowEnd _ => execInrushWindowEnd_kept _ _ hk
  | .tileSilent _ => execTileSilent_kept _ _ hk
  | .holdTimeExpiry _ => execHoldTimeExpiry_kept _ _ hk
  | .tileSilentReport _ => execTileSilentReport_kept _ _ hk
  | .shortCircuit _ => execShortCircuit_kept _ _ hk
  | .currentSample _ _ _ _ => execCurrentSample_kept _ _ _ _ _ hk
  | .overcurrent _ => execOvercurrent_kept _ _ hk
  | .reverse _ => execReverse_kept _ _ hk
  | .wireModelUpdate _ => execWireModelUpdate_kept _ _ hk
  | .dt _ _ => execDt_kept _ _ _ hk
  | .dtRelease _ _ => execDtRelease_kept _ _ _ hk
  | .junction _ _ => execJunction_kept _ _ _ hk
  | .junctionRelease _ _ => execJunctionRelease_kept _ _ _ hk
  | .caseDiff _ _ => execCaseDiff_kept _ _ _ hk
  | .sensorFail _ => execSensorFail_kept _ _ hk
  | .arcWindowEnd _ _ => execArcWindowEnd_kept _ _ _ hk
  | .backfedEval _ _ _ => execBackfedEval_kept _ _ _ _ hk
  | .openLoadProbe _ _ => execOpenLoadProbe_kept _ _ _ hk
  | .imbalance _ _ => execImbalance_kept _ _ _ hk
  | .pairImbalance _ => execPairImbalance_kept _ _ hk
  | .lifetimeJournal => execLifetimeJournal_kept _ hk
  | .sampleBlock _ _ => execSampleBlock_kept _ _ _ hk
  | .muxReferenceCheck _ _ => execMuxReferenceCheck_kept _ _ _ hk
  | .modOffsetTrack _ _ _ => execModOffsetTrack_kept _ _ _ _ hk
  | .comparatorConfigWrite _ _ _ _ => execComparatorConfigWrite_kept _ _ _ _ _ hk
  | .signatureConfigWrite _ _ _ => execSignatureConfigWrite_kept _ _ _ _ hk
  | .streamEnable _ _ _ => execStreamEnable_kept _ _ _ _ hk
  | .streamRdWrite _ _ _ => execStreamRdWrite_kept _ _ _ _ hk
  | .evqTailWrite _ _ => execEvqTailWrite_kept _ _ _ hk
  | .dmaStart _ _ => execDmaStart_kept _ _ _ hk
  | .dmaAbort _ _ _ => execDmaAbort_kept _ _ _ _ hk
  | .dmaComplete _ => execDmaComplete_kept _ _ hk
  | .diCfgWrite _ _ => execDiCfgWrite_kept _ _ _ hk
  | .doOn _ => execDoOn_kept _ _ hk
  | .doOff _ => execDoOff_kept _ _ hk
  | .doClear _ => execDoClear_kept _ _ hk
  | .grpOn _ _ => execGrpOn_kept _ _ _ hk
  | .grpOff _ _ => execGrpOff_kept _ _ _ hk
  | .limit _ => execLimit_kept _ _ hk
  | .thermal _ => execThermal_kept _ _ hk
  | .doThermalRelease _ => execDoThermalRelease_kept _ _ hk
  | .vfldMissing _ => execVfldMissing_kept _ _ hk
  | .vfldLow _ => execVfldLow_kept _ _ hk
  | .vfldOk _ _ => execVfldOk_kept _ _ _ hk
  | .fioUnitSilent => execFioUnitSilent_kept _ hk
  | .fioTimedOut => execFioTimedOut_kept _ hk
  | .fioBackfedEval _ _ _ _ => execFioBackfedEval_kept _ _ _ _ _ hk
  | .strOn _ => execStrOn_kept _ _ hk
  | .strOff _ => execStrOff_kept _ _ hk
  | .strClear _ => execStrClear_kept _ _ hk
  | .go _ => execGo_kept _ _ hk
  | .strCfgWrite _ _ => execStrCfgWrite_kept _ _ _ hk
  | .pwmPeriodStart _ => execPwmPeriodStart_kept _ _ hk
  | .bypassClose _ _ => execBypassClose_kept _ _ _ hk
  | .onTimeEnd _ _ _ => execOnTimeEnd_kept _ _ _ _ hk
  | .short _ => execShort_kept _ _ hk
  | .openString _ => execOpenString_kept _ _ hk
  | .openLed _ _ => execOpenLed_kept _ _ _ hk
  | .shortLed _ _ _ => execShortLed_kept _ _ _ _ hk
  | .strThermalSet _ => execStrThermalSet_kept _ _ hk
  | .strThermalRelease _ => execStrThermalRelease_kept _ _ hk
  | .mxOn _ => execMxOn_kept _ _ hk
  | .mxOff _ => execMxOff_kept _ _ hk
  | .mxClear _ => execMxClear_kept _ _ hk
  | .swap _ => execSwap_kept _ _ hk
  | .mxGo _ => execMxGo_kept _ _ hk
  | .frameStart _ _ => execFrameStart_kept _ _ _ hk
  | .lineSlot _ => execLineSlot_kept _ _ hk
  | .lineShort _ _ => execLineShort_kept _ _ _ hk
  | .colShort _ _ _ => execColShort_kept _ _ _ _ hk
  | .mxThermal _ _ => execMxThermal_kept _ _ _ hk
  | .lgtUnitSilent => execLgtUnitSilent_kept _ hk
  | .lgtTimedOut => execLgtTimedOut_kept _ hk
  | .parkPoll => execParkPoll_kept _ hk
  | .pollPeriodDouble => execPollPeriodDouble_kept _ hk
  | .presenceFrame _ => execPresenceFrame_kept _ _ hk
  | .handleScan _ _ => execHandleScan_kept _ _ _ hk
  | .handleStuck _ => execHandleStuck_kept _ _ hk
  | .tokenReply _ _ => execTokenReply_kept _ _ _ hk
  | .retryTelegram => execRetryTelegram_kept _ hk
  | .roundEnd _ _ => execRoundEnd_kept _ _ _ hk
  | .round _ => execRound_kept _ _ hk
  | .sessEnd => execSessEnd_kept _ hk
  | .tokenWrite _ _ => execTokenWrite_kept _ _ _ hk
  | .sessionTimeout => execSessionTimeout_kept _ hk
  | .run => execRun_kept _ hk
  | .stop => execStop_kept _ hk
  | .denClear => execDenClear_kept _ hk
  | .denCfgWrite _ => execDenCfgWrite_kept _ _ hk
  | .denHalfPeriod _ _ => execDenHalfPeriod_kept _ _ _ hk
  | .denSilence => execDenSilence_kept _ hk
  | .releaseMessage => execReleaseMessage_kept _ hk
  | .accUnitSilent => execAccUnitSilent_kept _ hk
  | .busFrameReceived _ _ _ _ _ _ _ => execBusFrameReceived_kept _ _ _ _ _ _ _ _ hk
  | .busFrameTransmitted _ _ _ _ => execBusFrameTransmitted_kept _ _ _ _ _ hk
  | .busQueue _ _ _ => execBusQueue_kept _ _ _ _ hk
  | .busUpdateObject _ _ _ => execBusUpdateObject_kept _ _ _ _ hk
  | .busAbort _ _ => execBusAbort_kept _ _ _ hk
  | .rxAck _ _ => execRxAck_kept _ _ _ hk
  | .rxAckAll _ => execRxAckAll_kept _ _ hk
  | .moved _ => execMoved_kept _ _ hk
  | .canError _ _ _ _ => execCanError_kept _ _ _ _ _ hk
  | .busOffReturn _ => execBusOffReturn_kept _ _ hk
  | .recover _ => execRecover_kept _ _ hk
  | .domTimeout _ => execDomTimeout_kept _ _ hk
  | .ttCycleStart _ => execTtCycleStart_kept _ _ hk
  | .ttWindowStart _ _ => execTtWindowStart_kept _ _ _ hk
  | .ttWindowEnd _ => execTtWindowEnd_kept _ _ hk
  | .referenceReceived _ _ _ _ => execReferenceReceived_kept _ _ _ _ _ hk
  | .syncLost _ => execSyncLost_kept _ _ hk
  | .linSlot _ => execLinSlot_kept _ _ hk
  | .linResponse _ _ => execLinResponse_kept _ _ _ hk
  | .linSleep _ => execLinSleep_kept _ _ hk
  | .linWake _ => execLinWake_kept _ _ hk
  | .wakeReceived _ => execWakeReceived_kept _ _ hk
  | .linWakeRestart _ => execLinWakeRestart_kept _ _ hk
  | .plcaBeacon _ _ => execPlcaBeacon_kept _ _ _ hk
  | .satLost _ _ => execSatLost_kept _ _ _ hk
  | .satCollision _ _ => execSatCollision_kept _ _ _ hk
  | .hostPacket _ _ _ => execHostPacket_kept _ _ _ _ hk
  | .arpRequest _ _ _ => execArpRequest_kept _ _ _ _ hk
  | .hello _ _ => execHello_kept _ _ _ hk
  | .close _ _ => execClose_kept _ _ _ hk
  | .ping _ _ => execPing_kept _ _ _ hk
  | .moduleReset _ _ => execModuleReset_kept _ _ _ hk
  | .moduleResetAssert => execModuleResetAssert_kept _ hk
  | .read _ _ => execRead_kept _ _ _ hk
  | .write _ _ => execWrite_kept _ _ _ hk
  | .readList _ _ => execReadList_kept _ _ _ hk
  | .modify _ _ => execModify_kept _ _ _ hk
  | .chCommand _ _ => execChCommand_kept _ _ _ hk
  | .chRead _ _ => execChRead_kept _ _ _ hk
  | .chLife _ _ => execChLife_kept _ _ _ hk
  | .evtRead _ _ => execEvtRead_kept _ _ _ hk
  | .strRead _ _ => execStrRead_kept _ _ _ hk
  | .mbxPost _ _ => execMbxPost_kept _ _ _ hk
  | .mbxFetch _ _ => execMbxFetch_kept _ _ _ hk
  | .mbxStatus _ _ => execMbxStatus_kept _ _ _ hk
  | .updBegin _ _ => execUpdBegin_kept _ _ _ hk
  | .updData _ _ => execUpdData_kept _ _ _ hk
  | .updVerify _ _ => execUpdVerify_kept _ _ _ hk
  | .updActivate _ _ => execUpdActivate_kept _ _ _ hk
  | .updConfirm _ _ => execUpdConfirm_kept _ _ _ hk
  | .updStatus _ _ => execUpdStatus_kept _ _ _ hk
  | .keyLoad _ _ => execKeyLoad_kept _ _ _ hk
  | .pwrRequest _ _ => execPwrRequest_kept _ _ _ hk
  | .pwrStatus _ _ => execPwrStatus_kept _ _ _ hk
  | .castle _ _ => execCastle_kept _ _ _ hk
  | .laneReset _ _ => execLaneReset_kept _ _ _ hk
  | .laneStatus _ _ => execLaneStatus_kept _ _ _ hk
  | .lgtString _ _ => execLgtString_kept _ _ _ hk
  | .lgtPixels _ _ => execLgtPixels_kept _ _ _ hk
  | .lgtRead _ _ => execLgtRead_kept _ _ _ hk
  | .accEnrol _ _ => execAccEnrol_kept _ _ _ hk
  | .accDelete _ _ => execAccDelete_kept _ _ _ hk
  | .accRound _ _ => execAccRound_kept _ _ _ hk
  | .accDen _ _ => execAccDen_kept _ _ _ hk
  | .accRead _ _ => execAccRead_kept _ _ _ hk
  | .busSend _ _ => execBusSend_kept _ _ _ hk
  | .busTap _ _ => execBusTap_kept _ _ _ hk
  | .busRead _ _ => execBusRead_kept _ _ _ hk
  | .busStatus _ _ => execBusStatus_kept _ _ _ hk
  | .sessionIdleTimeout _ => execSessionIdleTimeout_kept _ _ hk
  | .pendingSessionExpiry _ => execPendingSessionExpiry_kept _ _ hk
  | .post _ _ _ => execPost_kept _ _ _ _ hk
  | .mbxAck _ _ _ => execMbxAck_kept _ _ _ _ hk
  | .pwrCtlReq _ _ => execPwrCtlReq_kept _ _ _ hk
  | .clk250 _ => execClk250_kept _ _ hk
  | .journalWriteComplete _ => execJournalWriteComplete_kept _ _ hk
  | .entryCommit => execEntryCommit_kept _ hk
  | .powerDownComplete => execPowerDownComplete_kept _ hk
  | .deepAfterExpiry => execDeepAfterExpiry_kept _ hk
  | .alarm => execAlarm_kept _ hk
  | .rtcReport => execRtcReport_kept _ hk
  | .wakeEvent _ _ _ _ => execWakeEvent_kept _ _ _ _ _ hk
  | .add _ _ => execAdd_kept _ _ _ hk
  | .sub _ _ => execSub_kept _ _ _ hk
  | .and _ _ => execAnd_kept _ _ _ hk
  | .or _ _ => execOr_kept _ _ _ hk
  | .xor _ _ => execXor_kept _ _ _ hk
  | .neg _ _ => execNeg_kept _ _ _ hk
  | .eq _ _ => execEq_kept _ _ _ hk
  | .lt _ _ => execLt_kept _ _ _ hk
  | .ltu _ _ => execLtu_kept _ _ _ hk
  | .shl _ _ => execShl_kept _ _ _ hk
  | .shr _ _ => execShr_kept _ _ _ hk
  | .sar _ _ => execSar_kept _ _ _ hk
  | .muls _ _ => execMuls_kept _ _ _ hk
  | .mulu _ _ => execMulu_kept _ _ _ hk
  | .divs _ _ => execDivs_kept _ _ _ hk
  | .divu _ _ => execDivu_kept _ _ _ hk
  | .sadd _ _ => execSadd_kept _ _ _ hk
  | .ssub _ _ => execSsub_kept _ _ _ hk
  | .sneg _ _ => execSneg_kept _ _ _ hk
  | .smul _ _ => execSmul_kept _ _ _ hk
  | .sabs _ _ => execSabs_kept _ _ _ hk
  | .ld _ _ => execLd_kept _ _ _ hk
  | .st _ _ => execSt_kept _ _ _ hk
  | .ldL _ _ => execLdL_kept _ _ _ hk
  | .stL _ _ => execStL_kept _ _ _ hk
  | .ldU _ _ => execLdU_kept _ _ _ hk
  | .stU _ _ => execStU_kept _ _ _ hk
  | .jmp _ _ => execJmp_kept _ _ _ hk
  | .jz _ _ => execJz_kept _ _ _ hk
  | .jnz _ _ => execJnz_kept _ _ _ hk
  | .halt _ => execHalt_kept _ _ hk
  | .sleep _ => execSleep_kept _ _ hk
  | .call _ _ => execCall_kept _ _ _ hk
  | .ret _ => execRet_kept _ _ hk
  | .push _ _ => execPush_kept _ _ _ hk
  | .pop _ => execPop_kept _ _ hk
  | .flagsClr _ _ => execFlagsClr_kept _ _ _ hk
  | .bundleIssue _ => execBundleIssue_kept _ _ hk
  | .budget _ => execBudget_kept _ _ hk
  | .coreWatchdog _ _ => execCoreWatchdog_kept _ _ _ hk
  | .coreRun _ _ => execCoreRun_kept _ _ _ hk
  | .coreStop _ _ => execCoreStop_kept _ _ _ hk
  | .coreSleep _ _ => execCoreSleep_kept _ _ _ hk
  | .coreReset _ _ => execCoreReset_kept _ _ _ hk
  | .eraseComplete _ => execEraseComplete_kept _ _ hk
  | .verifyResult _ _ _ _ _ => execVerifyResult_kept _ _ _ _ _ _ hk
  | .laneReady _ => execLaneReady_kept _ _ hk
  | .conversionComplete _ => execConversionComplete_kept _ _ hk
  | .healthWindowExpiry => execHealthWindowExpiry_kept _ hk
  | .recoveryReset => execRecoveryReset_kept _ hk
  | .scoLogWrite _ _ _ => execScoLogWrite_kept _ _ _ _ hk
  | .registerWrite _ _ _ => execRegisterWrite_kept _ _ _ _ hk
  | .dbgEnDeactivation => execDbgEnDeactivation_kept _ hk

/-- A command that answers `t` keeps the queue and the invariant. -/
theorem exec_next_kept {q : List Instr} {c : Instr} {s t : State} (h : exec c s = .next t) (hk : Kept q s) : Kept q t := by
  simpa only [h, KeptO] using exec_kept c s hk

/-- A command completes with what holds of the state it answers. -/
theorem Completes.of_next {c : Instr} {s u : State} {P : State → Prop} (h : exec c s = .next u) (hu : P u) : Completes c s P :=
  ⟨u, h, hu⟩

theorem State.reset_inv : State.reset.Inv := ⟨rfl, Nat.zero_le _, Nat.zero_le _⟩

theorem step_idle {s t : State} (hq : s.pending = []) (h : step s = .next t) : t = { s with now := s.now + 1 } := by
  simpa only [step, hq, Host.Outcome.next.injEq, eq_comm] using h

theorem step_front {s : State} {c : Instr} {rest : List Instr} (hq : s.pending = c :: rest) :
    step s = exec c { s with pending := rest } := by
  simp only [step, hq]

theorem step_keeps_inv {s t : State} (hi : s.Inv) (h : step s = .next t) : t.Inv := by
  cases hq : s.pending with
  | nil => exact step_idle hq h ▸ hi
  | cons c rest =>
    rw [step_front hq] at h
    have hk : Kept rest { s with pending := rest } := ⟨rfl, hi⟩
    exact (exec_next_kept h hk).2

/-- Settles O1. -/
theorem stepRunsTheFrontCommand : Obligations.StepRunsTheFrontCommand :=
  ⟨fun _ _ _ => step_front rfl, fun _ => rfl⟩

/-- Settles O3. -/
theorem resetHasTheInvariant : Obligations.ResetHasTheInvariant := State.reset_inv

/-- Settles O4: the commands keep the invariant, and the idle tick does not touch it. -/
theorem everyStepKeepsTheInvariant : Obligations.EveryStepKeepsTheInvariant := fun _ _ => step_keeps_inv

end Sys2Proof.Machine
end

section
/-! SUPPORT. Protected channels (R151 to R196): a change, a closing and an opening of a channel outside a parallel group, and what
the commands to a channel do. -/

namespace Sys2Proof.Machine

open Sys2Proof

/-! ### A change of a channel that stands alone -/

/-- A change notes beside the channel when its switch opened, and nothing else. -/
theorem Chan.changed_eq (now cause : Nat) (f : Chan → Chan) (c : Chan) :
    Chan.changed now cause f c =
      { f c with cut := (Chan.changed now cause f c).cut, openedAt := (Chan.changed now cause f c).openedAt } := by
  unfold Chan.changed
  dsimp only
  split
  · rfl
  · split <;> rfl

/-- A change of a channel outside a group, read up to when its switch opened. -/
theorem changeGroup_becomes {n : Nat} {s : State} (h : Alone s n) (cause : Nat) (a : Word) {f : Chan → Chan} {d : Chan}
    (hd : f (s.chan n) = { d with cut := (f (s.chan n)).cut, openedAt := (f (s.chan n)).openedAt }) :
    Becomes n cause d s (changeGroup n cause a f s) := by
  obtain ⟨hchan, hrep, honly⟩ := changeGroup_alone_spec h cause a f
  refine ⟨?_, hrep, honly⟩
  rw [hchan, Chan.changed_eq, hd]

theorem groupCool_alone {n : Nat} {s : State} (h : Alone s n) : groupCool s n = !(s.chan n).hot := by
  simp [groupCool, alone_members h]

section Alone

variable {s : State} {n : Nat} (h : Alone s n)

include h

theorem coolInstead_becomes (cause : Nat) (src : Src) :
    Becomes n cause ((s.chan n).coolsDown src (chReg s n 6)) s (coolInstead n cause src s) :=
  changeGroup_becomes h _ _ rfl

theorem closeOn_becomes :
    Becomes n 0x001 ((s.chan n).closed .on .lane (chReg s n 6)) s (closeOn n s) :=
  changeGroup_becomes h _ _ rfl

theorem closeSafe_becomes :
    Becomes n 0x006 ((s.chan n).closed .safe .safe (chReg s n 6)) s (closeSafe n s) :=
  changeGroup_becomes h _ _ rfl

/-- The freewheel probe begins, in the channel alone. -/
theorem freewheelOrClose_probe (src : Src) (hi : (chReg s n 3).bit 16 = true) :
    (freewheelOrClose n src s).chan n = { s.chan n with probe := some (.freewheel, src), switched := true } ∧
    ChannelOnly n s (freewheelOrClose n src s) := by
  have e : freewheelOrClose n src s = (s.setChan n { s.chan n with probe := some (.freewheel, src) }).setChan n
      { s.chan n with probe := some (.freewheel, src), switched := true } := by
    simp [freewheelOrClose, hi, alone_members h]
  rw [e]
  exact ⟨by simp, (setChan_only ..).trans (setChan_only ..)⟩

omit h in
theorem freewheelOrClose_close (hi : (chReg s n 3).bit 16 = false) (src : Src) :
    freewheelOrClose n src s = finishClosing n src s := by simp [freewheelOrClose, hi]

theorem finishClosing_cool (hc : (s.chan n).hot = false) (src : Src) :
    finishClosing n src s = if src = .safe then closeSafe n s else closeOn n s := by
  simp [finishClosing, groupCool_alone h, hc]

/-- ON that is neither refused nor forbidden acts by the state of the channel. -/
theorem chOn_acts (v : Word) (hm : s.maintenance = false) (hen : (chReg s n 3).bit 17 = true) :
    chOn n v s = match (s.chan n).state with
      | .latched => refuseCh n 0 0x02 v s
      | .off => if (s.chan n).probe.isSome then s else startTurnOn n s
      | .safe =>
        if (s.chan n).sw then changeGroup n 0x001 0 (fun c => { c with state := .on, src := .lane }) s
        else if (s.chan n).probe.isSome then
          s.setChan n { s.chan n with probe := (s.chan n).probe.map fun p => (p.1, .lane) }
        else startTurnOn n s
      | .retry | .cooling => s.setChan n { s.chan n with src := .lane }
      | .on | .hold => s := by
  cases hs : (s.chan n).state <;> simp [chOn, hm, alone_leader h, hen, alone_members h, hs]

end Alone

/-! ### ON -/

theorem exec_chOn {s : State} {n : Fin 176} (ha : tileAccepts s (n / 16) = true) :
    exec (.chOn n) s = .next (chOn n 0x80000 s) := by
  simp [exec, execChOn, ha]

/-- An ON that closes an open switch goes its way as `startTurnOn` says. -/
theorem chOn_starts {s : State} {n : Nat} (h : Alone s n) (v : Word) (hm : s.maintenance = false)
    (hen : (chReg s n 3).bit 17 = true) (hs : (s.chan n).state = .off ∨ ((s.chan n).state = .safe ∧ (s.chan n).sw = false))
    (hp : (s.chan n).probe = none) : chOn n v s = startTurnOn n s := by
  rw [chOn_acts h v hm hen]
  obtain hs | ⟨hs, hw⟩ := hs
  · simp [hs, hp]
  · simp [hs, hw, hp]

theorem startTurnOn_cool {s : State} {n : Nat} (h : Alone s n) (hc : (s.chan n).hot = false) :
    startTurnOn n s = if (s.chan n).probed then freewheelOrClose n .lane s
      else s.setChan n { s.chan n with probe := some (.firstTurnOn, .lane) } := by
  simp [startTurnOn, groupCool_alone h, hc]

theorem startTurnOn_hot {s : State} {n : Nat} (h : Alone s n) (hc : (s.chan n).hot = true) :
    startTurnOn n s = coolInstead n 0x001 .lane s := by
  simp [startTurnOn, groupCool_alone h, hc]

/-- Settles O5: ON is refused or forbidden, or acts by the state of the channel; a switch that is open takes the way of a
turn-on. -/
theorem channelOn : Obligations.ChannelOn := by
  unfold Obligations.ChannelOn
  intro s n ha h
  simp only [Completes, exec_chOn ha]
  refine ⟨fun hm => ?maint, fun hm hen => ?disabled, fun hm hen => ⟨?latched, ?on, ?busy, ?waiting, ?safeClosed, ?safeProbe,
    fun hs hp hc => ⟨fun hd => ?first, fun hd hi => ?freewheel, fun hd hi => ?closing⟩, fun hs hp hc => ?cooling⟩⟩
  case maint => simp [chOn, hm]
  case disabled => simp [chOn, hm, hen, alone_leader h]
  case latched => exact fun hs => by simp [chOn_acts h _ hm hen, hs]
  case on => rintro (hs | hs) <;> simp [chOn_acts h _ hm hen, hs]
  case busy => exact fun hs hp => by simp [chOn_acts h _ hm hen, hs, hp]
  case waiting => rintro (hs | hs) <;> simp [chOn_acts h _ hm hen, hs]
  case safeClosed =>
    intro hs hw
    have e : chOn n 0x80000 s = changeGroup n 0x001 0 (fun c => { c with state := .on, src := .lane }) s := by
      simp [chOn_acts h _ hm hen, hs, hw]
    rw [e]
    exact ⟨_, rfl, changeGroup_becomes h _ _ rfl⟩
  case safeProbe => exact fun hs hw p src hp => by simp [chOn_acts h _ hm hen, hs, hw, hp]
  case first => simp [chOn_starts h _ hm hen hs hp, startTurnOn_cool h hc, hd]
  case freewheel =>
    rw [chOn_starts h _ hm hen hs hp, startTurnOn_cool h hc, if_pos hd]
    exact ⟨_, rfl, freewheelOrClose_probe h .lane hi⟩
  case closing =>
    rw [chOn_starts h _ hm hen hs hp, startTurnOn_cool h hc, if_pos hd, freewheelOrClose_close hi, finishClosing_cool h hc]
    exact ⟨_, rfl, closeOn_becomes h⟩
  case cooling =>
    rw [chOn_starts h _ hm hen hs hp, startTurnOn_hot h hc]
    exact ⟨_, rfl, coolInstead_becomes h _ _⟩

/-! ### Writes of CH_CFG, and commands without an effect -/

/-- A write at register `off` of a channel reaches that register, unless a member of a group ignores it (R176, R473). -/
theorem tileApply_chan {n off : Nat} (hn : n < 176) (ho : off < 32) (v : Word) (s : State) :
    tileApply (chanAddr n off) v s =
      if chWriteIgnored s n off then (if off = 3 ∧ v.bit 14 = true then refuseCh n 3 0x05 v s else s) else chWrite n off v s := by
  have hlow : chanAddr n off < 0x82000 := by unfold chanAddr; omega
  have hdiv : (chanAddr n off - 0x80000) / 32 = n := by unfold chanAddr; omega
  have hmod : chanAddr n off % 32 = off := by unfold chanAddr; omega
  simp only [tileApply, if_pos hlow, hdiv, hmod, if_neg (Nat.not_le.2 hn)]

theorem exec_chCfgWrite {s : State} {n : Fin 176} (ha : tileAccepts s (n / 16) = true) (v : Word) :
    exec (.chCfgWrite n v) s = .next (if chWriteIgnored s n 3 then (if v.bit 14 then refuseCh n 3 0x05 v s else s)
      else chCfgWrite n v s) := by
  simp [exec, execChCfgWrite, ha, tileApply_chan n.isLt, chWrite]

theorem chWriteIgnored_cfg (s : State) (n : Nat) : chWriteIgnored s n 3 = decide (leaderOf s n ≠ n) := by
  simp [chWriteIgnored]

/-- Settles O6: a CH_CFG write by the reason of its refusal, then the commands that a tile or a member of a group does not
take. -/
theorem channelWrites : Obligations.ChannelWrites := by
  unfold Obligations.ChannelWrites
  refine ⟨fun s n v ha h => ⟨fun hoff hlat => ?refused, fun hs hpark hslew hwire => ?taken⟩,
    fun s n v ha => ?unclaimed, fun s n v ha hl => ?follower⟩
  case refused =>
    have hr : chCfgReason n v s = 0x05 := by simp [chCfgReason, hoff, hlat]
    simp [exec_chCfgWrite ha, chWriteIgnored_cfg, alone_leader h, chCfgWrite, hr]
  case taken =>
    have hr : chCfgReason n v s = 0 := by
      have hstate : ¬((s.chan n).state ≠ .off ∧ (s.chan n).state ≠ .latched) := by tauto
      have hlock : (!v.bit 15 && decide ((chReg s n 4).field 19 18 = 2)) = false := by
        rcases hslew with hslew | hslew <;> simp [hslew]
      have hw : (v.bit 17 && wireUnset s n) = false := by rcases hwire with hwire | hwire <;> simp [hwire]
      simp [chCfgReason, hstate, hpark, hlock, hw]
    simp [exec_chCfgWrite ha, chWriteIgnored_cfg, alone_leader h, chCfgWrite, hr]
  case unclaimed =>
    simp [exec, execChOn, execChOff, execChClear, execChProbe, execChCfgWrite, ha]
  case follower =>
    refine ⟨fun hm => ?_, ?_, ?_, ?_, fun hv => ?_, fun hv => ?_⟩
    · simp [exec_chOn ha, chOn, hm, hl]
    · simp [exec, execChOff, ha, chOff, hl]
    · simp [exec, execChClear, ha, chClear, hl]
    · simp [exec, execChProbe, ha, chProbe, hl]
    · simp [exec_chCfgWrite ha, chWriteIgnored_cfg, hl, hv]
    · simp [exec_chCfgWrite ha, chWriteIgnored_cfg, hl, hv]

/-! ### OFF, CLEAR and PROBE -/

theorem exec_chOff {s : State} {n : Fin 176} (ha : tileAccepts s (n / 16) = true) : exec (.chOff n) s = .next (chOff n s) := by
  simp [exec, execChOff, ha]

theorem exec_chClear {s : State} {n : Fin 176} (ha : tileAccepts s (n / 16) = true) :
    exec (.chClear n) s = .next (chClear n 0x20000 s) := by
  simp [exec, execChClear, ha]

theorem exec_chProbe {s : State} {n : Fin 176} (ha : tileAccepts s (n / 16) = true) :
    exec (.chProbe n) s = .next (chProbe n s) := by
  simp [exec, execChProbe, ha]

/-- Time at which OFF ends a freewheel probe in progress (R200). -/
def Chan.probeEnd (now : Nat) (c : Chan) : Option Nat :=
  match c.probe with
  | some (.freewheel, _) => some now
  | _ => none

/-- OFF at a leader whose switch may be closed, or that waits to close it. -/
theorem chOff_on {s : State} {n : Nat} (hl : leaderOf s n = n) (hs : (s.chan n).state = .on ∨ (s.chan n).state = .safe ∨
    (s.chan n).state = .retry ∨ (s.chan n).state = .cooling) :
    chOff n s = changeGroup n 0x002 0 (fun c => { c.openTo .off with
      src := .lane, fault := c.fault.put 19 16 0, probeOff := (s.chan n).probeEnd s.clock }) s := by
  rcases hs with hs | hs | hs | hs <;> simp only [chOff, hl, hs, ne_eq, not_true, if_false] <;> rfl

theorem chClear_latched {s : State} {n : Nat} (hl : leaderOf s n = n) (hs : (s.chan n).state = .latched)
    (hw : ¬((s.chan n).fault.field 19 16 = 3 ∧ wireAbove s n ((chReg s n 15).field 11 4) = true)) (v : Word) :
    chClear n v s = changeGroup n 0x003 0 (fun c =>
      { c with state := .off, src := .lane, sw := false, probed := false, fw := 0, fault := c.fault.put 19 16 0 }) s := by
  simp only [chClear, hl, hs, ne_eq, not_true, or_self, if_false, if_neg hw]

/-- A change of a group, as what holds of each member for every time that its switch opened. -/
theorem changeGroup_members (n cause : Nat) (a : Word) (f : Chan → Chan) (s : State) {P : Chan → Chan → Prop}
    (hP : ∀ c k o, P c { f c with cut := k, openedAt := o }) :
    let t := changeGroup n cause a f s
    (∀ m ∈ members s n, P (s.chan m) (t.chan m)) ∧ (∀ m, m ∉ members s n → t.chan m = s.chan m) ∧
      t = { s with chans := t.chans, targets := t.targets, pwr := { s.pwr with held := t.pwr.held } } := by
  refine ⟨fun m hm => ?_, fun m hm => ?_, changeGroup_else ..⟩
  · rw [changeGroup_chan, if_pos hm, Chan.changed_eq]
    exact hP ..
  · rw [changeGroup_chan, if_neg hm]

/-- Settles O7: at a channel alone the commands act by its state; at a leader each is one change of the group. -/
theorem channelAndGroupCommands : Obligations.ChannelAndGroupCommands := by
  unfold Obligations.ChannelAndGroupCommands
  refine ⟨fun s n ha h => ?alone, fun s n ha hl => ?group⟩
  case alone =>
    have hl := alone_leader h
    simp only [Completes, exec_chOff ha, exec_chClear ha, exec_chProbe ha]
    refine ⟨fun hs => ?off, ?noOff, fun hs => ⟨fun ho => ?_, fun ho => ?_, fun hw => ?_, fun hw => ?_⟩, fun hs => ?noClear,
      fun hs => ?probe, fun hs => ?noProbe⟩
    case off =>
      rw [chOff_on hl hs]
      exact ⟨_, rfl, changeGroup_becomes h _ _ rfl⟩
    case noOff => rintro (hs | hs) <;> simp [chOff, hl, hs]
    · simp [chOff, hl, hs, ho]
    · have e : chOff n s = changeGroup n 0x002 0 (fun c => { c.openTo .off with src := .lane, fault := c.fault.put 19 16 0 }) s := by
        simp [chOff, hl, hs, ho]
      rw [e]
      exact ⟨_, rfl, changeGroup_becomes h _ _ rfl⟩
    · rw [chClear_latched hl hs hw]
      exact ⟨_, rfl, changeGroup_becomes h _ _ rfl⟩
    · simp [chClear, hl, hs, hw]
    case noClear => simp [chClear, hs]
    case probe => simp [chProbe, hl, hs]
    case noProbe => simp [chProbe, hs]
  case group =>
    simp only [Completes, exec_chOff ha, exec_chClear ha, exec_chOn ha]
    refine ⟨fun hs => ?off, fun hs hf => ?clear, fun hm hen hs hp hc hd hi => ?on⟩
    case off =>
      rw [chOff_on hl hs]
      exact ⟨_, rfl, changeGroup_members (P := fun _ b => b.state = .off ∧ b.sw = false ∧ b.src = .lane ∧ b.probe = none)
        _ _ _ _ _ fun _ _ _ => ⟨rfl, rfl, rfl, rfl⟩⟩
    case clear =>
      rw [chClear_latched hl hs fun hw => hf hw.1]
      exact ⟨_, rfl, changeGroup_members (P := fun a b => b.state = .off ∧ b.sw = false ∧ b.src = .lane ∧
        b.fw = 0 ∧ b.fault = a.fault.put 19 16 0)
        _ _ _ _ _ fun _ _ _ => ⟨rfl, rfl, rfl, rfl, rfl⟩⟩
    case on =>
      have e : chOn n 0x80000 s = changeGroup n 0x001 0 (Chan.close .on .lane true (chReg s n 6)) s := by
        simp [chOn, hm, hl, hen, hs, hp, startTurnOn, hc, hd, freewheelOrClose, hi, finishClosing, closeOn]
      rw [e]
      exact ⟨_, rfl, changeGroup_members (P := fun _ b => b.state = .on ∧ b.sw = true ∧ b.src = .lane ∧
        b.inrush = true ∧ b.used = 0)
        _ _ _ _ _ fun _ _ _ => ⟨rfl, rfl, rfl, rfl, rfl⟩⟩

/-! ### The ends of the probes -/

theorem ChannelOnly.refl (n : Nat) (s : State) : ChannelOnly n s s := ⟨rfl, fun _ _ => rfl, fun _ _ => rfl, rfl⟩

theorem ChannelOnly.alone {n : Nat} {s u : State} (o : ChannelOnly n s u) (h : Alone s n) : Alone u n := by
  unfold Alone at h ⊢
  rwa [o.chReg]

/-- A report that is made under a condition leaves all but its tile's entries. -/
theorem reportCh_if_only (p : Prop) [Decidable p] (n c : Nat) (a : Word) (s : State) :
    ChannelOnly n s (if p then reportCh n c a s else s) := by
  split
  · exact reportChAs_only ..
  · exact ChannelOnly.refl n s

theorem reportCh_if_chan (p : Prop) [Decidable p] (n c : Nat) (a : Word) (s : State) (m : Nat) :
    (if p then reportCh n c a s else s).chan m = s.chan m := by
  split
  · exact reportCh_chan ..
  · rfl

/-- BACKFED on one measurement (R173). -/
def backfedOnce (thr v : Int) (was : Bool) : Bool := if v > thr then true else if v < thr - 5000 then false else was

/-- The first-turn-on probe leaves its results in the channel and goes on with the freewheel probe or the closing. -/
theorem firstProbeEnd_eq {n : Nat} {s : State} {src : Src} (hp : (s.chan n).probe = some (.firstTurnOn, src)) (vOff vProbe : Word) :
    let bf := backfedOnce (bfThreshold s n) vOff.s20 (s.chan n).backfed
    let ol := decide (vProbe.s20 > 40000)
    ∃ u, firstProbeEnd n vOff vProbe s = freewheelOrClose n src u ∧ ChannelOnly n s u ∧
      u.chan n = { s.chan n with
        backfed := bf, openLoad := ol, probed := true, probe := none, bfHigh := 0, bfLow := 0,
        fault := ((s.chan n).fault.setBit 7 ((s.chan n).fault.bit 7 || bf)).setBit 6 ((s.chan n).fault.bit 6 || ol) } := by
  unfold firstProbeEnd
  rw [hp]
  refine ⟨_, rfl, ?_, ?_⟩
  · exact ((setChan_only ..).trans (reportCh_if_only ..)).trans ((reportCh_if_only ..).trans (reportChAs_only ..))
  · simp only [reportCh_chan, reportCh_if_chan, State.modChan_eq, State.setChan_chan, if_pos]
    rfl

theorem exec_firstTurnOnProbeEnd (n : Fin 176) (vOff vProbe : Word) (s : State) :
    exec (.firstTurnOnProbeEnd n vOff vProbe) s = .next (firstProbeEnd n vOff vProbe s) := rfl

/-- A report of a change that follows a note in the channel is one of the change from before the note. -/
theorem Reported.of_setChan {n cause : Nat} {s u : State} {c : Chan} (hc : c.cut = (s.chan n).cut)
    (h : Reported n cause (s.setChan n c) u) : Reported n cause s u := by
  obtain ⟨es, e, hes, hk, ho, hca, hst, hlen, hcut⟩ := h
  refine ⟨es, e, hes, hk, ho, hca, hst, hlen, fun hn => hcut ?_⟩
  rw [State.setChan_chan, if_pos rfl, Chan.cutNow, hc]
  exact hn

theorem Becomes.of_setChan {n cause : Nat} {s u : State} {c d : Chan} (hc : c.cut = (s.chan n).cut)
    (h : Becomes n cause d (s.setChan n c) u) : Becomes n cause d s u :=
  ⟨h.1, h.2.1.of_setChan hc, (setChan_only ..).trans h.2.2⟩

theorem exec_freewheelProbeEnd (n : Fin 176) (vNeg : Word) (s : State) :
    exec (.freewheelProbeEnd n vNeg) s = .next (freewheelEnd n vNeg s) := rfl

/-- The pulse of a freewheel probe opens the switch as it ends (R242). -/
def pulseEnded (n : Nat) (s : State) : State := s.setChan n { s.chan n with openedAt := some s.clock }

theorem pulseEnded_only (n : Nat) (s : State) : ChannelOnly n s (pulseEnded n s) := setChan_only ..

theorem pulseEnded_chan (n : Nat) (s : State) : (pulseEnded n s).chan n = { s.chan n with openedAt := some s.clock } := by
  simp [pulseEnded]

/-- A channel that a missing freewheel path latches (R169). -/
def Chan.noFreewheel (c : Chan) : Chan := { c.latch 5 with fw := 2, fault := (c.latch 5).fault.setBit 9 true }

section Freewheel

variable {n : Nat} {s : State} (h : Alone s n) {src : Src} (hp : (s.chan n).probe = some (.freewheel, src))
  (hc : (s.chan n).hot = false) (vNeg : Word)

include h hp

include hc in
theorem freewheelEnd_missing (hv : vNeg.s20 < -20000) :
    ∃ w a, freewheelEnd n vNeg s = changeOne n 0x018 w a true Chan.noFreewheel (pulseEnded n s) n := by
  have halone : Alone (pulseEnded n s) n := (pulseEnded_only n s).alone h
  have hcool : groupCool (pulseEnded n s) n = true := by
    rw [groupCool_alone halone, pulseEnded_chan]
    exact congrArg (!·) hc
  have hfold : (members s n).foldl (fun s m => s.modChan m fun c => { c with openedAt := some s.clock }) s = pulseEnded n s := by
    rw [alone_members h]; rfl
  unfold freewheelEnd
  rw [hp]
  dsimp only
  rw [hfold, if_pos hv, hcool, alone_members halone]
  exact ⟨_, _, rfl⟩

include hc in
/-- A missing freewheel path latches a channel alone that no thermal latch holds (R169). -/
theorem freewheelEnd_latch (hv : vNeg.s20 < -20000) :
    (∃ k o, (freewheelEnd n vNeg s).chan n = { (s.chan n).noFreewheel with cut := k, openedAt := o }) ∧
    Reported n 0x018 s (freewheelEnd n vNeg s) ∧ ChannelOnly n s (freewheelEnd n vNeg s) := by
  obtain ⟨w, a, e⟩ := freewheelEnd_missing h hp hc vNeg hv
  obtain ⟨hchan, hrep, honly⟩ := changeOne_spec n 0x018 w a true Chan.noFreewheel (pulseEnded n s) n
  rw [e]
  refine ⟨?_, hrep.of_setChan (c := { s.chan n with openedAt := some s.clock }) rfl, (pulseEnded_only n s).trans honly⟩
  rw [hchan, Chan.changed_eq, pulseEnded_chan]
  exact ⟨_, _, rfl⟩

/-- A freewheel path that is there goes on with the closing of a channel alone, with FW as measured (R169). -/
theorem freewheelEnd_there (hv : -20000 ≤ vNeg.s20) :
    ∃ u, freewheelEnd n vNeg s = finishClosing n src u ∧ ChannelOnly n s u ∧
      u.chan n = { s.chan n with openedAt := some s.clock, fw := if vNeg.s20 ≤ -2000 then 1 else 3 } := by
  have hfold : (members s n).foldl (fun s m => s.modChan m fun c => { c with openedAt := some s.clock }) s = pulseEnded n s := by
    rw [alone_members h]; rfl
  unfold freewheelEnd
  rw [hp]
  dsimp only
  rw [hfold, if_neg (Int.not_lt.2 hv), alone_members ((pulseEnded_only n s).alone h)]
  refine ⟨_, rfl, (pulseEnded_only n s).trans (setChan_only ..), ?_⟩
  simp only [List.foldl_cons, List.foldl_nil, State.modChan_eq, State.setChan_chan, if_pos, pulseEnded_chan]

end Freewheel

/-! ### The timers -/

theorem exec_retryOffTimeEnd (n : Fin 176) (s : State) : exec (.retryOffTimeEnd n) s = .next (retryOffEnd n s) := rfl
theorem exec_inrushWindowEnd (n : Fin 176) (s : State) : exec (.inrushWindowEnd n) s = .next (inrushEnd n s) := rfl
theorem exec_holdTimeExpiry (n : Fin 176) (s : State) : exec (.holdTimeExpiry n) s = .next (holdExpiry n s) := rfl

theorem safeMode_eq (s : State) (m : Nat) : safeMode s m = if s.maintenance = true ∧ m = 1 then 0 else m := by
  simp [safeMode]

theorem retryOffEnd_retry {n : Nat} {s : State} (h : Alone s n) (hs : (s.chan n).state = .retry) :
    retryOffEnd n s = changeGroup n 0x004 0
      (fun c => { c.close c.src.closedState c.src false c.winRetry with used := c.used + 1 }) s := by
  simp [retryOffEnd, alone_leader h, hs]

section Hold

variable {n : Nat} {s : State} (h : Alone s n) (hw : (s.tgt (n / 16)).watched = true)

include h hw

theorem holdExpiry_stays (hs : (s.chan n).state = .latched ∨ (s.chan n).state = .safe) : holdExpiry n s = s := by
  rcases hs with hs | hs <;> simp [holdExpiry, hw, alone_leader h, hs]

/-- RETRY and COOLING open into SAFE, or go on with SRC = SAFE. -/
theorem holdExpiry_waiting (hs : (s.chan n).state = .retry ∨ (s.chan n).state = .cooling) :
    holdExpiry n s = if safeMode s ((chReg s n 4).field 19 18) = 0 then safeOpen n s
      else s.setChan n { s.chan n with src := .safe } := by
  rcases hs with hs | hs <;> simp [holdExpiry, hw, alone_leader h, hs, alone_members h]

/-- OFF, ON and HOLD take the safe state of CH_SAFE.MODE. -/
theorem holdExpiry_takes (hs : (s.chan n).state = .off ∨ (s.chan n).state = .on ∨ (s.chan n).state = .hold) :
    holdExpiry n s =
      let mode := safeMode s ((chReg s n 4).field 19 18)
      if mode = 0 then safeOpen n s
      else if mode = 1 ∧ (s.chan n).sw = false then
        if (s.chan n).hot then coolInstead n 0x006 .safe s
        else if (chReg s n 3).bit 16 then freewheelOrClose n .safe (safeKeep n mode s) else closeSafe n s
      else safeKeep n mode s := by
  rcases hs with hs | hs | hs <;> simp [holdExpiry, hw, alone_leader h, hs, groupCool_alone h]

omit hw in
theorem safeOpen_becomes : Becomes n 0x006 ((s.chan n).opened .safe .safe) s (safeOpen n s) := changeGroup_becomes h _ _ rfl

omit hw in
theorem safeKeep_becomes (mode : Nat) :
    Becomes n 0x006 { s.chan n with state := .safe, src := .safe, probe := none } s (safeKeep n mode s) :=
  changeGroup_becomes h _ _ rfl

end Hold

/-- Settles O8: a probe that ends goes on with the next or with the closing; each timer is one change of the channel alone. -/
theorem channelProbesAndTimers : Obligations.ChannelProbesAndTimers := by
  unfold Obligations.ChannelProbesAndTimers
  refine ⟨fun s n h => ⟨fun vOff vProbe hp hi => ?first, fun vNeg hp hc => ⟨fun hv => ?missing, fun hv => ?there⟩⟩,
    fun s n h => ?timers⟩
  case first =>
    obtain ⟨u, e, honly, hchan⟩ := firstProbeEnd_eq hp vOff vProbe
    obtain ⟨hfree, ho⟩ := freewheelOrClose_probe (honly.alone h) .lane (by rwa [honly.chReg])
    refine .of_next (exec_firstTurnOnProbeEnd ..) ?_
    rw [e, hfree, hchan]
    refine ⟨rfl, rfl, rfl, fun hv => ?_, fun hv => ?_, rfl, honly.trans ho⟩
    · simp [backfedOnce, hv]
    · have hlow : ¬ bfThreshold s n < vOff.s20 := by omega
      simp [backfedOnce, hlow, hv]
  case missing =>
    obtain ⟨⟨k, o, hchan⟩, hrep, honly⟩ := freewheelEnd_latch h hp hc vNeg hv
    refine .of_next (exec_freewheelProbeEnd ..) ?_
    rw [hchan]
    exact ⟨rfl, rfl, rfl, rfl, rfl, hrep, honly⟩
  case there =>
    obtain ⟨u, e, honly, hchan⟩ := freewheelEnd_there h hp vNeg hv
    have hcu : (u.chan n).hot = false := by rw [hchan]; exact hc
    obtain ⟨hclosed, -, ho⟩ := closeOn_becomes (honly.alone h)
    refine .of_next (exec_freewheelProbeEnd ..) ?_
    rw [e, finishClosing_cool (honly.alone h) hcu, if_neg (nofun : Src.lane ≠ .safe), hclosed, hchan]
    exact ⟨rfl, rfl, rfl, rfl, honly.trans ho⟩
  case timers =>
    simp only [← safeMode_eq, Completes, exec_retryOffTimeEnd, exec_inrushWindowEnd, exec_holdTimeExpiry]
    refine ⟨fun hs => ?retry, ?inrush, fun hw => ⟨fun hs => ?stays, fun hs => ?waiting, fun hs => ?takes⟩⟩
    case retry =>
      rw [retryOffEnd_retry h hs]
      exact ⟨_, rfl, changeGroup_becomes h _ _ rfl⟩
    case inrush => simp [inrushEnd, alone_leader h, alone_members h]
    case stays => rw [holdExpiry_stays h hw hs]
    case waiting =>
      rw [holdExpiry_waiting h hw hs]
      exact ⟨fun hm => ⟨_, rfl, by rw [if_pos hm]; exact safeOpen_becomes h⟩, fun hm => by rw [if_neg hm]⟩
    case takes =>
      have htake := holdExpiry_takes h hw hs
      refine ⟨fun hm => ⟨_, rfl, ?_⟩, fun hm => ⟨_, rfl, ?_⟩, fun hm hsw => ⟨fun hc hi => ⟨_, rfl, ?_⟩, fun hc => ⟨_, rfl, ?_⟩⟩⟩
      · simpa only [htake, hm, if_true] using safeOpen_becomes h
      · have hkeep : holdExpiry n s = safeKeep n (safeMode s ((chReg s n 4).field 19 18)) s := by
          rw [htake]
          rcases hm with hm | ⟨hm, hsw⟩
          · simp [show ¬safeMode s ((chReg s n 4).field 19 18) = 0 by omega,
              show ¬safeMode s ((chReg s n 4).field 19 18) = 1 by omega]
          · simp [hm, hsw]
        obtain ⟨hchan, hrep, honly⟩ := safeKeep_becomes h (safeMode s ((chReg s n 4).field 19 18))
        rw [hkeep, hchan]
        exact ⟨rfl, rfl, rfl, rfl, hrep, honly⟩
      · simpa [htake, hm, hsw, hc, hi] using closeSafe_becomes h
      · simpa [htake, hm, hsw, hc] using coolInstead_becomes h 0x006 .safe

end Sys2Proof.Machine
end

section
/-! SUPPORT. Silent tiles (R161, R183, R184): what a change of several channels and a report of a tile leave unchanged. -/

namespace Sys2Proof.Machine

open Sys2Proof

/-! ### The same change of several channels -/

/-- A step that changes a channel by `g` and else no more than its tile's entries does so to each channel of a list. -/
theorem foldl_channels {F : State → Nat → State} {g : Chan → Chan} (hF : ∀ s n, ChannelOnly n s (F s n))
    (hg : ∀ s n, (F s n).chan n = g (s.chan n)) (ns : List Nat) (hn : ns.Nodup) (s : State) (m : Nat) :
    (ns.foldl F s).chan m = if m ∈ ns then g (s.chan m) else s.chan m := by
  induction ns generalizing s with
  | nil => simp
  | cons n ns ih =>
    obtain ⟨hnot, hrest⟩ := List.nodup_cons.1 hn
    rw [List.foldl_cons, ih hrest]
    by_cases hm : m = n
    · subst hm; simp [hnot, hg]
    · simp [hm, (hF s n).2.1 m hm]

theorem foldl_channels_tgt {F : State → Nat → State} {t : Nat} (hF : ∀ s n, ChannelOnly n s (F s n)) (ns : List Nat)
    (ht : ∀ n ∈ ns, n / 16 = t) (s : State) :
    (ns.foldl F s).tgt t = { s.tgt t with entries := ((ns.foldl F s).tgt t).entries } := by
  induction ns generalizing s with
  | nil => rfl
  | cons n ns ih =>
    have hone := (hF s n).2.2.2
    rw [ht n List.mem_cons_self] at hone
    rw [List.foldl_cons, ih (fun k hk => ht k (List.mem_cons_of_mem _ hk)), hone]

/-- The channels of a tile. -/
theorem mem_tileChannels {t m : Nat} : m ∈ (List.range 16).map (16 * t + ·) ↔ m / 16 = t := by
  simp only [List.mem_map, List.mem_range]
  exact ⟨fun ⟨k, hk, e⟩ => by omega, fun h => ⟨m % 16, by omega, by omega⟩⟩

theorem tileChannels_nodup (t : Nat) : ((List.range 16).map (16 * t + ·)).Nodup :=
  List.nodup_range.map fun a b h => by simpa using h

/-! ### A tile falls silent (R161) -/

/-- A channel of a tile that falls silent. -/
def Chan.silenced (c : Chan) : Chan :=
  match c.state with
  | .off | .on => { c with state := .hold, src := .hold, probe := none }
  | .retry | .cooling => { c with src := .hold }
  | _ => c

theorem silenceChan_only (s : State) (n : Nat) : ChannelOnly n s (silenceChan n s) := by
  unfold silenceChan
  split
  · exact (setChan_only ..).trans (reportChAs_only ..)
  · exact (setChan_only ..).trans (reportChAs_only ..)
  · exact setChan_only ..
  · exact setChan_only ..
  · exact ChannelOnly.refl n s

theorem silenceChan_chan (s : State) (n : Nat) : (silenceChan n s).chan n = (s.chan n).silenced := by
  unfold silenceChan Chan.silenced
  cases hs : (s.chan n).state <;> simp [hs]

theorem tileSilence_eq (t : Nat) (s : State) (hw : (s.tgt t).watched = true) (hs : (s.tgt t).silent = false)
    (hr : (s.tgt t).restoreWait = false) :
    tileSilence t s = ((List.range 16).map (16 * t + ·)).foldl (fun s n => silenceChan n s) (s.setTgt t { s.tgt t with
      silent := true, recs := (s.tgt t).recs ++ [⟨0x04, 0x002, Word.ofN (tileAddr t 0), Word.ofN t, 0⟩] }) := by
  simp [tileSilence, hw, hs, hr, List.foldl_map]

theorem tileSilence_chan (t : Nat) (s : State) (hw : (s.tgt t).watched = true) (hs : (s.tgt t).silent = false)
    (hr : (s.tgt t).restoreWait = false) (m : Nat) :
    (tileSilence t s).chan m = if m / 16 = t then (s.chan m).silenced else s.chan m := by
  rw [tileSilence_eq t s hw hs hr, foldl_channels silenceChan_only silenceChan_chan _ (tileChannels_nodup t)]
  simp only [mem_tileChannels, State.setTgt_reads]

/-! ### Reports (R184) -/

theorem sourceOf_tile {t : Nat} (h : t < 11) : sourceOf t = 1 + t := if_pos h

/-- An input touches no target, channel, register or copy. -/
theorem present_reads (src : Nat) (payload : List Word) (act : Act) (s : State) :
    (present src payload act s).targets = s.targets ∧ (present src payload act s).chans = s.chans := by
  rw [(present_posts src payload act s).1]
  exact ⟨rfl, rfl⟩

/-- A report of one kind leaves the channels, the other targets, and the entries and refusals of its own. -/
theorem presentKind_frame (t : Nat) (now : List (Nat × Word)) (es : List Entry) (k : Nat) (s : State) :
    let u := presentKind t now es k s
    u.chans = s.chans ∧ (∀ j, j ≠ t → u.tgt j = s.tgt j) ∧ (u.tgt t).entries = (s.tgt t).entries ∧
      (u.tgt t).refusals = (s.tgt t).refusals := by
  unfold presentKind
  dsimp only
  split
  · exact ⟨rfl, fun _ _ => rfl, rfl, rfl⟩
  · simp only [State.tgt, present_reads]
    exact ⟨rfl, fun j hj => by simp [State.setTgt, Sparse.get_set, hj.symm], by simp [State.setTgt, Sparse.get_set, State.tgt],
      by simp [State.setTgt, Sparse.get_set, State.tgt]⟩

/-- The entries of a report are of the kinds of those that are packed: an omitted one stands for a state entry. -/
theorem packEntries_kind {now : List (Nat × Word)} {es : List Entry} (h : ∀ e ∈ es, e.kind = 0) :
    ∀ e ∈ packEntries now es, e.kind = 0 := by
  intro e he
  simp only [packEntries, List.mem_filterMap] at he
  obtain ⟨p, hp, hpe⟩ := he
  split at hpe
  · cases hpe; exact h _ (List.fst_mem_of_mem_zipIdx hp)
  · split at hpe
    · split at hpe
      · cases hpe; exact h _ (List.fst_mem_of_mem_zipIdx hp)
      · next l hl =>
        cases hpe
        exact h l (List.mem_of_mem_drop (List.mem_of_mem_filter (List.mem_of_getLast? hl)))
    · cases hpe

/-- The first change of a report is in it. -/
theorem packEntries_ne_nil (now : List (Nat × Word)) {es : List Entry} (h : es ≠ []) : packEntries now es ≠ [] := by
  cases es with
  | nil => exact absurd rfl h
  | cons e es => simp [packEntries, List.zipIdx_cons]

/-- A report of one kind that has content is the next input (R184). -/
theorem presentKind_presented {t : Nat} {now : List (Nat × Word)} {es : List Entry} {k : Nat} {s : State} (h : Numbering s)
    (hk : ∀ e ∈ es, e.kind = k) (hne : es ≠ []) :
    Presented (sourceOf t) (Word.ofN (k * 2 ^ 16 + es.length) :: es.flatMap Entry.words) (.report t es (s.tgt t).recs now) s
      (presentKind t now es k s) := by
  have hall : (es.filter fun e => decide (e.kind = k)) = es := List.filter_eq_self.2 fun e he => by simpa using hk e he
  unfold presentKind
  dsimp only
  rw [hall, if_neg (by simpa using hne)]
  exact (present_numbered _ _ _ (s.modTgt t fun g => { g with recs := [], lastReport := s.clock }) h).1

theorem presentKind_none {t : Nat} {now : List (Nat × Word)} {es : List Entry} {k : Nat} {s : State}
    (hk : ∀ e ∈ es, e.kind ≠ k) : presentKind t now es k s = s := by
  unfold presentKind
  dsimp only
  rw [if_pos (by simpa using hk)]

/-! ### The report of a silent tile -/

theorem exec_tileSilentReport (t : Fin 14) (s : State) : exec (.tileSilentReport t) s = .next (tileSilentPresent t s) := rfl

/-- The reports that a silent tile presents: its state entries, then those of the supplies, after which it keeps neither. -/
theorem tileSilentPresent_eq {t : Nat} (ht : t < 11) {s : State} (hs : (s.tgt t).silent = true)
    (hc : (s.tgt t).entries.any (reportedNow false) = true) :
    let es := packEntries (unitWords t s) ((s.tgt t).entries.filter (reportedNow false))
    tileSilentPresent t s = presentKind t (unitWords t s) es 4 (presentKind t (unitWords t s) es 0
      (s.setTgt t { s.tgt t with entries := (s.tgt t).entries.filter fun e => !reportedNow false e })) ∧ es ≠ [] := by
  intro es
  have hne : es ≠ [] := packEntries_ne_nil _ (by simpa [List.filter_eq_nil_iff] using hc)
  have hd : t ≠ denT := by unfold denT; omega
  refine ⟨?_, hne⟩
  simp only [tileSilentPresent, hs, hc, Bool.and_self, if_true, presentUnit, Bool.false_and, Bool.false_eq_true, if_false,
    if_neg hd, presentReport, List.append_nil, List.foldl_cons, List.foldl_nil, State.modTgt_eq]
  rw [if_neg (by simpa using hne)]

/-- Settles O9: each channel of the tile is silenced by itself; a report leaves what it does not carry. -/
theorem silentTile : Obligations.SilentTile := by
  unfold Obligations.SilentTile
  refine fun s t => ⟨fun hw hs hr => ?silence, fun hs hc => ?report⟩
  case silence =>
    have hchan := tileSilence_chan t s hw hs hr
    have htgt : ((tileSilence t s).tgt t) = { s.tgt t with
        silent := true, recs := (s.tgt t).recs ++ [⟨0x04, 0x002, Word.ofN (tileAddr t 0), Word.ofN t, 0⟩],
        entries := ((tileSilence t s).tgt t).entries } := by
      rw [tileSilence_eq t s hw hs hr]
      rw [foldl_channels_tgt silenceChan_only _ (fun n hn => mem_tileChannels.1 hn)]
      simp
    have hmine : ∀ k : Fin 16, (16 * (t : Nat) + k) / 16 = t := fun k => by omega
    refine .of_next (u := tileSilence t s) rfl ⟨?_, ?_, fun k hk => ?_, fun k hk => ?_, fun m hm => ?_⟩
    · rw [htgt]
    · rw [htgt]
    · rw [hchan, if_pos (hmine k)]
      rcases hk with hk | hk <;> simp [Chan.silenced, hk]
    · rw [hchan, if_pos (hmine k)]
      rcases hk with hk | hk <;> simp [Chan.silenced, hk]
    · rw [hchan, if_neg hm]
  case report =>
    obtain ⟨e, hne⟩ := tileSilentPresent_eq t.isLt hs hc
    set now := unitWords t s
    set es := packEntries now ((s.tgt t).entries.filter (reportedNow false))
    set s1 := s.setTgt t { s.tgt t with entries := (s.tgt t).entries.filter fun e => !reportedNow false e } with hs1
    obtain ⟨hch, hoth, hent, href⟩ := presentKind_frame t now es 0 s1
    obtain ⟨hch', hoth', hent', href'⟩ := presentKind_frame t now es 4 (presentKind t now es 0 s1)
    refine .of_next (exec_tileSilentReport ..) ?_
    rw [show tileSilentPresent ((⟨t, by omega⟩ : Fin 14) : Nat) s = _ from e]
    refine ⟨?_, ?_, ?_, fun k hk => ?_, fun hnum hkind => ?_⟩
    · rw [hent', hent, hs1, State.setTgt_tgt, if_pos rfl]
    · rw [href', href, hs1, State.setTgt_tgt, if_pos rfl]
    · rw [hch', hch]; rfl
    · rw [hoth' k hk, hoth k hk, hs1, State.setTgt_tgt, if_neg hk.symm]
    · have hkinds : ∀ e ∈ es, e.kind = 0 := packEntries_kind fun e he => by
        obtain ⟨hmem, hrep⟩ := List.mem_filter.1 he
        have := hkind e hmem
        simpa [reportedNow, this] using hrep
      rw [presentKind_none fun e he => by rw [hkinds e he]; decide]
      have hp := presentKind_presented (t := t) (now := now) (s := s1) hnum hkinds hne
      have hrecs : (s1.tgt t).recs = (s.tgt t).recs := by rw [hs1, State.setTgt_tgt, if_pos rfl]
      rw [sourceOf_tile t.isLt, hrecs, Nat.zero_mul, Nat.zero_add] at hp
      exact hp

end Sys2Proof.Machine
end

section
/-! SUPPORT. The protection engine of a tile (R197 to R233): trips, current samples, the wire model, the thermal latches, arcs and
the evaluations of an output. -/

namespace Sys2Proof.Machine

open Sys2Proof

/-! ### Trips (R159, R167, R201, R203) -/

theorem exec_shortCircuit (n : Fin 176) (s : State) : exec (.shortCircuit n) s = .next (shortTrip n s) := rfl
theorem exec_overcurrent (n : Fin 176) (s : State) : exec (.overcurrent n) s = .next (overTrip n s) := rfl

/-- What a trip makes of a channel whose switch it opens. -/
def Chan.tripped (retry : Bool) (latch : Nat) (c : Chan) : Chan :=
  if retry then { c.openTo .retry with fault := c.fault.put 19 16 0 } else c.latch latch

/-- A trip while the leader's switch is closed changes the group. -/
theorem tripOrRetry_closed {n : Nat} {s : State} (hsw : (s.chan (leaderOf s n)).sw = true) (code bit latch : Nat) (mayRetry : Bool)
    (arg1 : Word) :
    let l := s.chan (leaderOf s n)
    tripOrRetry n code bit latch mayRetry arg1 s =
      changeGroup n code arg1 (Chan.tripped (mayRetry && l.inrush && decide (l.used < l.winRetry.field 19 16)) latch)
        (s.setChan n { s.chan n with fault := (s.chan n).fault.setBit bit true }) := by
  simp only [tripOrRetry, hsw, Bool.true_or, if_true, State.modChan_eq]
  rfl

/-- A trip of a channel alone with a closed switch. -/
theorem tripOrRetry_becomes {n : Nat} {s : State} (h : Alone s n) (hsw : (s.chan n).sw = true) (code bit latch : Nat)
    {mayRetry : Bool} {arg1 : Word} {retry : Bool}
    (hr : (mayRetry && (s.chan n).inrush && decide ((s.chan n).used < (s.chan n).winRetry.field 19 16)) = retry) :
    Becomes n code { (s.chan n).opened (if retry then .retry else .latched) (s.chan n).src with
      fault := ((s.chan n).fault.setBit bit true).put 19 16 (if retry then 0 else latch) } s
      (tripOrRetry n code bit latch mayRetry arg1 s) := by
  rw [tripOrRetry_closed (by rwa [alone_leader h]), alone_leader h, hr]
  refine Becomes.of_setChan (c := { s.chan n with fault := (s.chan n).fault.setBit bit true }) rfl ?_
  refine changeGroup_becomes ((setChan_only ..).alone h) code arg1 ?_
  rw [State.setChan_chan, if_pos rfl]
  cases retry <;> rfl

/-- Settles O10: a trip goes into RETRY or LATCHED as the leader's window and retries say. -/
theorem tripsOpenTheSwitch : Obligations.TripsOpenTheSwitch := by
  unfold Obligations.TripsOpenTheSwitch
  refine ⟨fun s n h hsw => ?alone, fun s n hn hsw hl hno => ?group⟩
  case alone =>
    have hshort : shortTrip n s = tripOrRetry n 0x010 15 1 ((chReg s n 10).bit 11) (s.chan n).sample s := by
      simp [shortTrip, hsw, alone_leader h]
    have hover (hf : (chReg s n 10).field 19 12 ≤ (s.chan n).ocCount) :
        overTrip n s = tripOrRetry n 0x011 14 2 true (s.chan n).sample s := by
      have hcount : filterCount s.clock (s.chan n) = (s.chan n).ocCount := by
        unfold filterCount; split <;> simp [hsw]
      simp [overTrip, alone_leader h, hsw, hcount, hf]
    have trip := tripOrRetry_becomes h hsw
    simp only [Completes, exec_shortCircuit, exec_overcurrent]
    refine ⟨fun ⟨hi, hu⟩ hb => ⟨_, rfl, ?_⟩, fun hno => ⟨_, rfl, ?_⟩, fun hf => ⟨fun ⟨hi, hu⟩ => ⟨_, rfl, ?_⟩, fun hno => ⟨_, rfl, ?_⟩⟩⟩
    · rw [hshort]; exact trip 0x010 15 1 (retry := true) (by simp [hi, hu, hb])
    · rw [hshort]; exact trip 0x010 15 1 (retry := false) (by grind)
    · rw [hover hf]; exact trip 0x011 14 2 (retry := true) (by simp [hi, hu])
    · rw [hover hf]; exact trip 0x011 14 2 (retry := false) (by grind)
  case group =>
    have hret (b : Bool) : (b && (s.chan (leaderOf s n)).inrush && decide ((s.chan (leaderOf s n)).used <
        (s.chan (leaderOf s n)).winRetry.field 19 16)) = false := by
      rcases hno with hno | hno <;> simp [hno]
    have e : shortTrip n s = changeGroup n 0x010 (s.chan n).sample (Chan.tripped false 1)
        (s.setChan n { s.chan n with fault := (s.chan n).fault.setBit 15 true }) := by
      rw [shortTrip, if_pos (by simp [hsw]), tripOrRetry_closed hl, hret]
    obtain ⟨hin, hout, -⟩ := changeGroup_members (P := fun _ b => b.state = .latched ∧ b.sw = false ∧ b.fault.field 19 16 = 1)
      n 0x010 (s.chan n).sample (Chan.tripped false 1) (s.setChan n { s.chan n with fault := (s.chan n).fault.setBit 15 true })
      fun c k o => ⟨rfl, rfl, Word.field_put _ _ (by decide) (by decide)⟩
    refine .of_next (exec_shortCircuit ..) ?_
    rw [e]
    refine ⟨hin, fun m hm => (hout m hm).trans ?_⟩
    rw [State.setChan_chan, if_neg (by rintro rfl; exact hm hn)]

/-! ### Current samples (R198, R203 to R205) -/

theorem exec_currentSample (n : Fin 176) (fine coarse : Word) (limited : Bool) (s : State) :
    exec (.currentSample n fine coarse limited) s = .next (takeSample n fine coarse limited s) := rfl

/-- The sums of the filter and of the wire model take the present current of a channel alone. -/
theorem groupSample_alone {n : Nat} {s : State} (h : Alone s n) :
    let i := (s.chan n).current.s20
    ChannelOnly n s (groupSample n s) ∧ (groupSample n s).chan n = { s.chan n with
      limited := false,
      ocCount := if (s.chan n).sw && (decide (16 * (((chReg s n 9).field 15 0 : Nat) : Int) ≤ i) || (s.chan n).limited)
        then (s.chan n).ocCount + 1 else 0,
      sqSum := (s.chan n).sqSum + (if (s.chan n).sw then i.natAbs * i.natAbs else 0), sqCount := (s.chan n).sqCount + 1 } := by
  have e : groupSample n s = (s.setChan n { s.chan n with limited := false }).setChan n { s.chan n with
      limited := false,
      ocCount := if (s.chan n).sw && (decide (16 * (((chReg s n 9).field 15 0 : Nat) : Int) ≤ (s.chan n).current.s20) ||
        (s.chan n).limited) then (s.chan n).ocCount + 1 else 0,
      sqSum := (s.chan n).sqSum + (if (s.chan n).sw then (s.chan n).current.s20.natAbs * (s.chan n).current.s20.natAbs else 0),
      sqCount := (s.chan n).sqCount + 1 } := by
    simp [groupSample, alone_leader h, alone_members h, groupCurrent]
  rw [e]
  exact ⟨(setChan_only ..).trans (setChan_only ..), by simp⟩

/-- What a current sample, and the current `v` taken for it, leave in their channel. -/
def Chan.noted (fine v : Word) (limited subst : Bool) (thr : Int) (c : Chan) : Chan :=
  { c with
    sample := fine, current := v, limited := c.limited || limited, arcSpoilt := subst || c.arcSpoilt,
    fault := if subst then c.fault.setBit 3 true else c.fault,
    revRun :=
      if c.reverse then (if thr < v.s20 then c.revRun + 1 else 0)
      else if c.sw && decide (v.s20 < thr) then c.revRun + 1 else 0 }

/-- A sample of a channel alone is noted, reported where SENSE is new, and summed. -/
theorem takeSample_alone {n : Nat} {s : State} (h : Alone s n) (fine coarse : Word) (limited : Bool) :
    let subst := isFlag fine || !s.sup.fabValid
    ∃ u, takeSample n fine coarse limited s = groupSample n u ∧ ChannelOnly n s u ∧
      u.chan n = (s.chan n).noted fine (if subst then coarse else fine) limited subst (reverseThreshold n) := by
  intro subst
  set c := (s.chan n).noted fine (if subst then coarse else fine) limited subst (reverseThreshold n)
  set u := if subst && !(s.chan n).fault.bit 3 then reportCh n 0x021 0 (s.setChan n c) else s.setChan n c
  have honly : ChannelOnly n s u := (setChan_only ..).trans (reportCh_if_only ..)
  have e : takeSample n fine coarse limited s = if (members u n).getLast? = some n then groupSample n u else u := rfl
  refine ⟨u, ?_, honly, ?_⟩
  · rw [e, alone_members (honly.alone h), List.getLast?_singleton, if_pos rfl]
  · simp [u, reportCh_if_chan]

/-- Settles O11: the sample is noted in the channel, reported where SENSE is new, and summed. -/
theorem currentSampleIsTaken : Obligations.CurrentSampleIsTaken := by
  unfold Obligations.CurrentSampleIsTaken
  intro s n fine coarse limited h
  obtain ⟨u, e, honly, hchan⟩ := takeSample_alone h fine coarse limited
  obtain ⟨ho, hsum⟩ := groupSample_alone (honly.alone h)
  refine .of_next (exec_currentSample ..) ?_
  rw [e, hsum, hchan, honly.chReg]
  exact ⟨rfl, rfl, rfl, by simp [Chan.noted], rfl, rfl, rfl, rfl, honly.trans ho⟩

/-! ### REVERSE and the wire model (R175, R205, R207) -/

theorem exec_reverse (n : Fin 176) (s : State) : exec (.reverse n) s = .next (reverseChange n s) := rfl
theorem exec_wireModelUpdate (n : Fin 176) (s : State) : exec (.wireModelUpdate n) s = .next (wireUpdate n s) := rfl

theorem wireWarn_only (n : Nat) (was : Bool) (s : State) : ChannelOnly n s (wireWarn n was s) := by
  unfold wireWarn
  dsimp only
  split
  · exact (setChan_only ..).trans (reportChAs_only ..)
  · exact setChan_only ..

/-- WIRE_WARN marks the channel and leaves the rest of it. -/
theorem wireWarn_chan (n : Nat) (was : Bool) (s : State) :
    ∃ w f, (wireWarn n was s).chan n = { s.chan n with warned := w, fault := f } := by
  unfold wireWarn
  dsimp only
  split
  · exact ⟨true, _, by rw [reportCh_chan, State.modChan_eq, State.setChan_chan, if_pos rfl]⟩
  · exact ⟨_, (s.chan n).fault, by rw [State.modChan_eq, State.setChan_chan, if_pos rfl]⟩

theorem ChannelOnly.wireMargin {n : Nat} {s u : State} (o : ChannelOnly n s u) (m : Nat) :
    wireMargin u m = Sys2Proof.Machine.wireMargin s m := by
  unfold Sys2Proof.Machine.wireMargin
  rw [o.chReg, o.1]
  rfl

theorem latchTrip_only {n : Nat} {s : State} (h : Alone s n) (code latch : Nat) (a : Word) :
    ChannelOnly n s (latchTrip n code latch a s) := by
  unfold latchTrip
  dsimp only
  split
  · exact (changeGroup_alone_spec h ..).2.2
  · exact reportChAs_only ..

theorem latchTrip_closed {n : Nat} {s : State} (h : Alone s n) (hsw : (s.chan n).sw = true) (code latch : Nat) (a : Word) :
    latchTrip n code latch a s = changeGroup n code a (Chan.latch latch) s := by
  simp [latchTrip, alone_leader h, hsw]

/-- A closed switch that the wire model trips latches with cause 3. -/
theorem wireTrip_closed {n : Nat} {s : State} (h : Alone s n) (hsw : (s.chan n).sw = true) :
    ∃ k o, (wireTrip n s).chan n = { Chan.latch 3 { s.chan n with fault := (s.chan n).fault.setBit 13 true } with
      cut := k, openedAt := o } := by
  have halone : Alone (s.setChan n { s.chan n with fault := (s.chan n).fault.setBit 13 true }) n := (setChan_only ..).alone h
  have e : wireTrip n s = changeGroup n 0x012 (Word.ofN ((s.chan n).theta1 / 4096)) (Chan.latch 3)
      (s.setChan n { s.chan n with fault := (s.chan n).fault.setBit 13 true }) := by
    simp [wireTrip, latchTrip_closed halone (by simpa using hsw)]
  rw [e, changeGroup_chan, if_pos (by simp [alone_members halone]), Chan.changed_eq, State.setChan_chan, if_pos rfl]
  exact ⟨_, _, rfl⟩

/-- A wire trip leaves the wire model as it is, whether the channel latches or another cause came first. -/
theorem wireTrip_sums {n : Nat} {s : State} (h : Alone s n) :
    ((wireTrip n s).chan n).theta1 = (s.chan n).theta1 ∧ ((wireTrip n s).chan n).theta2 = (s.chan n).theta2 ∧
    ((wireTrip n s).chan n).sqSum = (s.chan n).sqSum ∧ ((wireTrip n s).chan n).sqCount = (s.chan n).sqCount := by
  have halone : Alone (s.setChan n { s.chan n with fault := (s.chan n).fault.setBit 13 true }) n := (setChan_only ..).alone h
  unfold wireTrip latchTrip
  dsimp only
  split
  · rw [changeGroup_chan, if_pos (by simp [alone_members halone]), Chan.changed_eq, State.modChan_eq, State.setChan_chan, if_pos rfl]
    exact ⟨rfl, rfl, rfl, rfl⟩
  · rw [reportCh_chan, State.modChan_eq, State.setChan_chan, if_pos rfl]
    exact ⟨rfl, rfl, rfl, rfl⟩

theorem wireTrip_only {n : Nat} {s : State} (h : Alone s n) : ChannelOnly n s (wireTrip n s) :=
  (setChan_only ..).trans (latchTrip_only ((setChan_only ..).alone h) ..)

/-- One step of the wire model of a channel alone: the two rises, the warning, and the trip where the rise reaches the margin. -/
theorem wireUpdate_alone {n : Nat} {s : State} (h : Alone s n) :
    let t1 := theta1Next (Config.wireRound s.free) (chReg s n 11) (chReg s n 13) (s.chan n).sqSum (s.chan n).sqCount
      (unitsPerAmp n) (s.chan n).theta1 (s.chan n).theta2
    let t2 := theta2Next (Config.wireRound (s.free + 1)) (chReg s n 12) (chReg s n 13) (chReg s n 14)
      (Config.wireQuotient (s.free + 2)) t1 (s.chan n).theta2
    ∃ u, wireUpdate n s = (if ((u.chan n).sw || (u.chan n).cutNow s.clock) ∧ wireMargin s n ≤ (t1 : Int) then wireTrip n u else u) ∧
      ChannelOnly n { s with free := s.free + 3 } u ∧
      ∃ w f, u.chan n = { s.chan n with theta1 := t1, theta2 := t2, sqSum := 0, sqCount := 0, warned := w, fault := f } := by
  intro t1 t2
  set v := ({ s with free := s.free + 3 } : State).setChan n
    { s.chan n with theta1 := t1, theta2 := t2, sqSum := 0, sqCount := 0 } with hv
  have honly : ChannelOnly n { s with free := s.free + 3 } (wireWarn n (s.chan n).warned v) :=
    (setChan_only ..).trans (wireWarn_only ..)
  obtain ⟨w, f, hchan⟩ := wireWarn_chan n (s.chan n).warned v
  have e : wireUpdate n s = if (((wireWarn n (s.chan n).warned v).chan n).sw || ((wireWarn n (s.chan n).warned v).chan n).cutNow
      (wireWarn n (s.chan n).warned v).clock) ∧ wireMargin (wireWarn n (s.chan n).warned v) n ≤ (t1 : Int)
      then wireTrip n (wireWarn n (s.chan n).warned v) else wireWarn n (s.chan n).warned v := by
    unfold wireUpdate
    rw [if_neg (not_not.2 (alone_leader h))]
    rfl
  refine ⟨_, ?_, honly, w, f, ?_⟩
  · rw [e, honly.wireMargin, honly.clock]
    rfl
  · rw [hchan, hv, State.setChan_chan, if_pos rfl]

/-- Settles O12: REVERSE follows the run of samples; the wire model takes its step, and trips a closed switch at the margin. -/
theorem reverseAndWireModel : Obligations.ReverseAndWireModel := by
  unfold Obligations.ReverseAndWireModel
  refine ⟨fun s n hrun => ⟨fun hr => ?_, fun hr => ?_⟩, fun s n h => ?wire⟩
  · simp [exec_reverse, reverseChange, Nat.not_lt.2 hrun, hr]
  · simp [exec_reverse, reverseChange, Nat.not_lt.2 hrun, hr]
  case wire =>
    intro t1 t2
    obtain ⟨u, e, honly, w, f, hchan⟩ := wireUpdate_alone h
    refine .of_next (exec_wireModelUpdate ..) ?_
    rw [e]
    have hm : wireMargin ({ s with free := s.free + 3 } : State) n = wireMargin s n := rfl
    have halone : Alone u n := honly.alone h
    have hcut : (u.chan n).cutNow s.clock = (s.chan n).cutNow s.clock := by rw [hchan]; rfl
    have hsw : (u.chan n).sw = (s.chan n).sw := by rw [hchan]
    rw [hcut, hsw]
    split
    · next ht =>
      obtain ⟨hon, hmargin⟩ := ht
      obtain ⟨h1, h2, h3, h4⟩ := wireTrip_sums halone
      rw [h1, h2, h3, h4]
      refine ⟨by rw [hchan], by rw [hchan], by rw [hchan], by rw [hchan], fun hc _ => ?_, fun hno => ?_,
        fun m hm => ((wireTrip_only halone).2.1 m hm).trans (honly.2.1 m hm)⟩
      · obtain ⟨k, o, htrip⟩ := wireTrip_closed halone (hsw.trans hc)
        rw [htrip]
        exact ⟨rfl, rfl, Word.field_put _ _ (by decide) (by decide)⟩
      · rcases hno with ⟨hoff, hold⟩ | hlow
        · simp [hoff, hold] at hon
        · exact absurd hmargin (Int.not_le.2 hlow)
    · next ht =>
      rw [hchan]
      exact ⟨rfl, rfl, rfl, rfl, fun hc hmar => absurd ⟨by simp [hc], hmar⟩ ht, fun _ => ⟨rfl, rfl⟩, fun m hm => honly.2.1 m hm⟩

/-! ### Thermal latches (R159, R199, R210 to R213) -/

section Hot

variable {n : Nat} {s : State} (h : Alone s n) {f : Chan → Chan}

include h

/-- A thermal latch takes a closed switch, or a channel in RETRY whose opening is not of this cycle, to COOLING. -/
theorem hotSet_becomes (hf : (f (s.chan n)).cut = (s.chan n).cut ∧ (f (s.chan n)).sw = (s.chan n).sw ∧
    (f (s.chan n)).state = (s.chan n).state) (code : Nat) (a : Word) {w : Bool}
    (hw : (w = false ∧ (s.chan n).sw = true) ∨
      (w = true ∧ (s.chan n).sw = false ∧ (s.chan n).state = .retry ∧ (s.chan n).cutNow s.clock = false)) :
    Becomes n code { (f (s.chan n)).opened .cooling (f (s.chan n)).src with
      waitOff := w, fault := (f (s.chan n)).fault.put 19 16 0 } s (hotSet n code a f s) := by
  obtain ⟨hcut, hsw, hst⟩ := hf
  have halone : Alone (s.setChan n (f (s.chan n))) n := (setChan_only ..).alone h
  have e : hotSet n code a f s = changeGroup n code a
      (fun c => { c.openTo .cooling with waitOff := w, fault := c.fault.put 19 16 0 }) (s.setChan n (f (s.chan n))) := by
    have hl : (s.setChan n (f (s.chan n))).chan (leaderOf (s.setChan n (f (s.chan n))) n) = f (s.chan n) := by
      rw [alone_leader halone, State.setChan_chan, if_pos rfl]
    unfold hotSet
    dsimp only
    rw [State.modChan_eq, hl, hsw, hst]
    rcases hw with ⟨rfl, hon⟩ | ⟨rfl, hoff, hr, hold⟩
    · simp [hon]
    · have hnot : (f (s.chan n)).outranked (s.setChan n (f (s.chan n))).clock code = false := by
        unfold Chan.outranked
        rw [hcut]
        split
        · rw [show (f (s.chan n)).cutNow (s.setChan n (f (s.chan n))).clock = (s.chan n).cutNow s.clock by
            unfold Chan.cutNow; rw [hcut]; rfl, hold, Bool.false_and]
        · rfl
      simp [hoff, hnot, hr]
  rw [e]
  refine Becomes.of_setChan hcut (changeGroup_becomes halone code a ?_)
  rw [State.setChan_chan, if_pos rfl]
  rfl

end Hot

/-- The last thermal latch of a COOLING channel alone releases (R212). -/
theorem coolRelease_alone {n : Nat} {s : State} (h : Alone s n) (hs : (s.chan n).state = .cooling) (hc : (s.chan n).hot = false)
    (temp : Word) :
    coolRelease n temp s =
      if (s.chan n).inrush = true ∧ (s.chan n).used < (s.chan n).winRetry.field 19 16 then
        if (s.chan n).waitOff then s
        else changeGroup n 0x016 temp (fun c => { c.close c.src.closedState c.src false c.winRetry with used := c.used + 1 }) s
      else changeGroup n 0x017 (Word.ofN (s.chan n).used) (Chan.latch 6) s := by
  simp [coolRelease, alone_leader h, hs, groupCool_alone h, hc]

/-- A release that leaves `d`, with no thermal latch, in COOLING: it closes the channel, waits, or latches it. -/
theorem coolRelease_spec {n : Nat} {s : State} (h : Alone s n) {d : Chan} (hcut : d.cut = (s.chan n).cut)
    (hs : d.state = .cooling) (hc : d.hot = false) (temp : Word) :
    let closes := d.inrush = true ∧ d.used < d.winRetry.field 19 16
    (closes → d.waitOff = false → Becomes n 0x016 { d.closed d.src.closedState d.src d.winRetry with
      inrush := d.inrush, arcSpoilt := d.arcSpoilt, used := d.used + 1 } s (coolRelease n temp (s.setChan n d))) ∧
    (closes → d.waitOff = true → coolRelease n temp (s.setChan n d) = s.setChan n d) ∧
    (¬closes → Becomes n 0x017 { d.opened .latched d.src with fault := d.fault.put 19 16 6 } s
      (coolRelease n temp (s.setChan n d))) := by
  intro closes
  have halone : Alone (s.setChan n d) n := (setChan_only ..).alone h
  have hchan : (s.setChan n d).chan n = d := by simp
  have e := coolRelease_alone halone (by rwa [hchan]) (by rwa [hchan]) temp
  rw [hchan] at e
  refine ⟨fun hcl hw => ?_, fun hcl hw => ?_, fun hcl => ?_⟩
  · rw [e, if_pos hcl, if_neg (by simp [hw])]
    refine Becomes.of_setChan hcut (changeGroup_becomes halone _ _ ?_)
    rw [hchan]; rfl
  · rw [e, if_pos hcl, if_pos hw]
  · rw [e, if_neg hcl]
    refine Becomes.of_setChan hcut (changeGroup_becomes halone _ _ ?_)
    rw [hchan]; rfl

/-- Settles O13: a setting latch cools the channel, the release of the last one ends the cooling. -/
theorem thermalLatches : Obligations.ThermalLatches := by
  unfold Obligations.ThermalLatches
  refine ⟨fun s n temp h => ⟨fun w hw => ⟨fun hd => ?_, fun hj => ?_, ?_⟩, fun hs hsf => ⟨fun hd hj => ?_, fun hj hd => ?_⟩⟩,
    fun s t diff => rfl⟩
  · refine .of_next (u := dtSet n temp s) rfl ?_
    rw [dtSet, if_neg (by simp [hd])]
    exact hotSet_becomes h ⟨rfl, rfl, rfl⟩ _ _ hw
  · refine .of_next (u := junctionSet n temp s) rfl ?_
    rw [junctionSet, if_neg (by simp [hj])]
    exact hotSet_becomes h ⟨rfl, rfl, rfl⟩ _ _ hw
  · exact .of_next (u := sensorFailed n s) rfl (hotSet_becomes h ⟨rfl, rfl, rfl⟩ _ _ hw)
  · have e : exec (.dtRelease n temp) s = .next (coolRelease n temp (s.setChan n { s.chan n with dt := false })) := by
      simp [exec, execDtRelease, dtClear, hd, hsf]
    obtain ⟨hclose, hwait, hlatch⟩ := coolRelease_spec (d := { s.chan n with dt := false }) h rfl hs (by simp [Chan.hot, hj]) temp
    exact ⟨fun hc hw => .of_next e (hclose hc hw), fun hc hw => by rw [e, hwait hc hw], fun hc => .of_next e (hlatch hc)⟩
  · have e : exec (.junctionRelease n temp) s = .next (coolRelease n temp (s.setChan n { s.chan n with junction := false })) := by
      simp [exec, execJunctionRelease, junctionClear, hj]
    obtain ⟨hclose, hwait, hlatch⟩ :=
      coolRelease_spec (d := { s.chan n with junction := false }) h rfl hs (by simp [Chan.hot, hd]) temp
    exact ⟨fun hc hw => .of_next e (hclose hc hw), fun hc hw => by rw [e, hwait hc hw], fun hc => .of_next e (hlatch hc)⟩

/-! ### Arc windows (R214 to R216, R474) -/

theorem exec_arcWindowEnd (t : Fin 11) (ms : List ArcMeasure) (s : State) :
    exec (.arcWindowEnd t ms) s = .next (arcHalf t 1 (arcOf t 1 ms s) (arcHalf t 0 (arcOf t 0 ms s) (arcRestart t s))) := rfl

/-- A channel at the start of an arc window (R214). -/
def Chan.rearmed (c : Chan) : Chan := { c with arcSpoilt := c.inrush, switched := false }

theorem arcRestart_eq (t : Nat) (s : State) :
    arcRestart t s = ((List.range 16).map (16 * t + ·)).foldl
      (fun s n => s.setChan n (s.chan n).rearmed) s := by
  simp only [arcRestart, List.foldl_map]
  rfl

theorem arcRestart_chan (t : Nat) (s : State) (n : Nat) :
    (arcRestart t s).chan n = if n / 16 = t then (s.chan n).rearmed else s.chan n := by
  have hF (s : State) (n : Nat) : (s.setChan n (s.chan n).rearmed).chan n = (s.chan n).rearmed := by simp
  rw [arcRestart_eq, foldl_channels (fun s n => setChan_only n (s.chan n).rearmed s) hF _ (tileChannels_nodup t)]
  simp only [mem_tileChannels]

theorem foldl_setChan_else {α : Type} (ns : List α) (k : α → Nat) (f : State → α → Chan) (s : State) :
    ns.foldl (fun s n => s.setChan (k n) (f s n)) s =
      { s with chans := (ns.foldl (fun s n => s.setChan (k n) (f s n)) s).chans } := by
  induction ns generalizing s with
  | nil => rfl
  | cons n ns ih => rw [List.foldl_cons, ih]; rfl

theorem arcRestart_else (t : Nat) (s : State) : arcRestart t s = { s with chans := (arcRestart t s).chans } :=
  foldl_setChan_else (List.range 16) (16 * t + ·) _ s

/-- Without an examined window of the half there is nothing to see, unless COINC is 0. -/
theorem arcHalf_nil {t : Nat} (half : Nat) {s : State} (h : s.pwr.sleeping.contains t = true ∨ 1 ≤ (s.liveReg (tileAddr t 4)).field 16 12) :
    arcHalf t half [] s = s := by
  unfold arcHalf
  split
  · rfl
  · next hs =>
    have hcoinc : ¬(s.liveReg (tileAddr t 4)).field 16 12 ≤ 0 := by
      rcases h with h | h
      · exact absurd h hs
      · omega
    simp [hcoinc]

/-- One examined window of a tile is looked at in its own half alone. -/
theorem arcOf_one {t half : Nat} {m : ArcMeasure} {s : State} (hx : arcExamined s t m = true) :
    arcOf t half [m] s = if feedHalf t m.k = half then [(m, arcQualifies s t m)] else [] := by
  unfold arcOf
  by_cases h : feedHalf t m.k = half <;> simp [h, hx]

/-- An arc bit of TILE_ARC leaves COINC. -/
theorem field_coinc_setBit (w : Word) {i : Nat} (hi : i = 18 ∨ i = 19) (b : Bool) :
    (w.setBit i b).field 16 12 = w.field 16 12 := by
  have hb := b.toNat_lt
  simp only [Word.field, toNat_setBit, Nat.shiftRight_eq_div_pow]
  rcases hi with rfl | rfl <;> omega

theorem feedHalf_cases (t k : Nat) : feedHalf t k = 0 ∨ feedHalf t k = 1 := by
  unfold feedHalf; split <;> simp

section Window

variable {s v : State} {t : Fin 11} {m : ArcMeasure} (hv : v = arcRestart t s)

include hv

theorem arcRestart_liveReg (a : Nat) : v.liveReg a = s.liveReg a := by
  rw [hv, arcRestart_else]; simp only [State.liveReg]

theorem arcRestart_sleeping : v.pwr.sleeping = s.pwr.sleeping := by
  rw [hv, arcRestart_else]

/-- The end of a tile's windows with one examined one: its half of the feed decides, and the other leaves what it finds. -/
theorem arcWindowEnd_one {u : State} (hx : arcExamined s t m = true)
    (hhalf : arcHalf t (feedHalf t m.k) [(m, arcQualifies s t m)] v = u)
    (hs : s.pwr.sleeping.contains (t : Nat) = true ∨ 1 ≤ (s.liveReg (tileAddr t 4)).field 16 12)
    (hu : u.pwr.sleeping.contains (t : Nat) = true ∨ 1 ≤ (u.liveReg (tileAddr t 4)).field 16 12) :
    exec (.arcWindowEnd t [m]) s = .next u := by
  rw [exec_arcWindowEnd, arcOf_one hx, arcOf_one hx, ← hv]
  rcases feedHalf_cases t m.k with h | h
  · rw [h] at hhalf
    rw [if_neg (by omega), if_pos h, hhalf, arcHalf_nil 1 hu]
  · rw [h] at hhalf
    rw [if_pos h, if_neg (by omega), arcHalf_nil 0 (by rwa [arcRestart_sleeping hv, arcRestart_liveReg hv]), hhalf]

/-- With a COINC above 1 one window is no feed arc. -/
theorem arcWindowEnd_series {u : State} (hx : arcExamined s t m = true) (hawake : s.pwr.sleeping.contains (t : Nat) = false)
    (hcoinc : 2 ≤ (s.liveReg (tileAddr t 4)).field 16 12) (hu : arcWindow t (arcQualifies s t m) m v = u)
    {n : Nat} (ho : ChannelOnly n v u) : exec (.arcWindowEnd t [m]) s = .next u := by
  have hreg : u.liveReg (tileAddr t 4) = s.liveReg (tileAddr t 4) := by rw [ho.1]; exact arcRestart_liveReg hv _
  refine arcWindowEnd_one hv hx ?_ (.inr (by omega)) (.inr (by rw [hreg]; omega))
  have hle : ¬(v.liveReg (tileAddr t 4)).field 16 12 ≤ ([(m, arcQualifies s t m)].filter (·.2)).length := by
    rw [arcRestart_liveReg hv]
    have := List.length_filter_le (·.2) [(m, arcQualifies s t m)]
    simp only [List.length_singleton] at this
    omega
  have hvawake : ¬v.pwr.sleeping.contains (t : Nat) = true := by
        rw [arcRestart_sleeping hv, hawake]; exact Bool.false_ne_true
  simp only [arcHalf, if_neg hvawake, decide_eq_false hle]
  exact hu

end Window

/-- Settles O14: one examined window is the business of its half of the feed; it is an arc of the channel alone, or of the feed. -/
theorem arcWindowsEnd : Obligations.ArcWindowsEnd := by
  unfold Obligations.ArcWindowsEnd
  intro s t m
  dsimp only
  obtain ⟨v, hv⟩ : ∃ v, v = arcRestart t s := ⟨_, rfl⟩
  obtain ⟨n, hn⟩ : ∃ n, n = 16 * (t : Nat) + m.k := ⟨_, rfl⟩
  rw [← hv, ← hn]
  intro h hx
  have hchan (k : Nat) : v.chan k = if k / 16 = t then (s.chan k).rearmed else s.chan k := by rw [hv, arcRestart_chan]
  have hdiv : n / 16 = t := by omega
  have hasleep : tileAsleep s n = s.pwr.sleeping.contains (t : Nat) := by rw [tileAsleep, hdiv]
  have halone : Alone v n := by unfold Alone chReg; rw [arcRestart_liveReg hv]; exact h
  have hvn : v.chan n = (s.chan n).rearmed := by rw [hchan, if_pos hdiv]
  rw [hasleep]
  refine ⟨⟨fun k => ?_, fun k hk => ?_, ?_⟩, fun hcoinc hawake => ?series, fun hsl => ?asleep, fun hcoinc hawake hq => ?feed⟩
  · rw [hchan, if_pos (by omega)]; rfl
  · rw [hchan, if_neg hk]
  · rw [hv]; exact arcRestart_else t s
  case asleep =>
    have hst := arcRestart_sleeping hv ▸ hsl
    exact arcWindowEnd_one hv hx (by rw [arcHalf, if_pos hst]) (.inl hsl) (.inl hst)
  case series =>
    have hsw : (v.chan n).sw = true := by
      obtain ⟨⟨⟨⟨hon, -⟩, -⟩, -⟩, -⟩ := by simpa only [arcExamined, Bool.and_eq_true, ← hn] using hx
      rw [hvn]; exact hon
    have hwindows : (v.chan n).arcWindows = (s.chan n).arcWindows := by rw [hvn]; rfl
    have harc : arcReg v n = chReg s n 19 := by rw [arcReg, alone_leader halone]; exact arcRestart_liveReg hv _
    have hvasleep : tileAsleep v n = false := by rw [tileAsleep, hdiv, arcRestart_sleeping hv]; exact hawake
    obtain ⟨d, hd⟩ : ∃ d : Chan, d = { v.chan n with arcWindows := [], fault := (v.chan n).fault.setBit 8 true } := ⟨_, rfl⟩
    have hwin : arcWindow t (arcQualifies s t m) m v =
        if ((arcQualifies s t m :: (s.chan n).arcWindows).take 8 |>.filter id).length < (chReg s n 19).field 11 8
        then v.setChan n { v.chan n with arcWindows := (arcQualifies s t m :: (s.chan n).arcWindows).take 8 }
        else if (chReg s n 19).field 19 18 = 2 then latchTrip n 0x019 4 (Word.ofN m.ratio) (v.setChan n d)
        else reportCh n 0x019 (Word.ofN m.ratio) (v.setChan n d) := by
      simp only [arcWindow, ← hn, hvasleep, harc, hwindows, Bool.false_eq_true, if_false, State.modChan_eq, hd]
    have hdchan : (v.setChan n d).chan n = d := by simp
    have hdalone : Alone (v.setChan n d) n := (setChan_only ..).alone halone
    refine ⟨fun hN hact => ?_, fun hN hact => ?_, fun hN => ?_⟩
    · rw [if_neg (Nat.not_lt.2 hN), if_pos hact, latchTrip_closed hdalone (by rw [hdchan, hd]; exact hsw)] at hwin
      have hb : Becomes n 0x019 { (v.chan n).opened .latched (v.chan n).src with
          arcWindows := [], fault := ((v.chan n).fault.setBit 8 true).put 19 16 4 } v
          (changeGroup n 0x019 (Word.ofN m.ratio) (Chan.latch 4) (v.setChan n d)) := by
        refine Becomes.of_setChan (by rw [hd]) (changeGroup_becomes hdalone _ _ ?_)
        rw [hdchan, hd]; rfl
      exact .of_next (arcWindowEnd_series hv hx hawake hcoinc hwin hb.2.2) hb
    · rw [if_neg (Nat.not_lt.2 hN), if_neg hact] at hwin
      rw [arcWindowEnd_series hv hx hawake hcoinc hwin ((setChan_only ..).trans (reportChAs_only ..)), hd]
    · rw [if_pos hN] at hwin
      exact arcWindowEnd_series hv hx hawake hcoinc hwin (setChan_only ..)
  case feed =>
    have hhalf : arcHalf t (feedHalf t m.k) [(m, arcQualifies s t m)] v = feedArcMark t (feedHalf t m.k) 1 v := by
      have hvawake : ¬v.pwr.sleeping.contains (t : Nat) = true := by
        rw [arcRestart_sleeping hv, hawake]; exact Bool.false_ne_true
      simp only [arcHalf, if_neg hvawake, arcRestart_liveReg hv, hcoinc, hq]
      simp
    refine arcWindowEnd_one hv hx (hhalf.trans ?_) (.inr (by rw [hcoinc])) (.inr ?_)
    · rw [feedArcMark, arcRestart_liveReg hv]; rfl
    · obtain ⟨_, _, e, -⟩ := reportCh_frame (16 * (t : Nat) + 8 * feedHalf t m.k) 0x01A 1
        (v.setLive (tileAddr t 4) ((s.liveReg (tileAddr t 4)).setBit (19 - feedHalf t m.k) true))
      rw [e]
      change 1 ≤ ((v.setLive (tileAddr t 4) _).liveReg (tileAddr t 4)).field 16 12
      rw [State.setLive_liveReg, if_pos rfl, field_coinc_setBit _ (by have := feedHalf_cases t m.k; omega), hcoinc]

/-! ### Evaluations of an output, and what the lanes do for the protection (R171, R174, R177, R180, R222) -/

/-- Settles O15: each evaluation is one change of its channel, with its report where the bit changes. -/
theorem outputAndPairEvaluations : Obligations.OutputAndPairEvaluations := by
  unfold Obligations.OutputAndPairEvaluations
  refine ⟨⟨fun s n v settled => ⟨fun hoff => ?restart, fun hsw hset hawake hbf hv hrun => ?sets,
    fun hsw hset hawake hbf hv hrun => ?clears⟩, fun s n v hs hbf hawake hreq => ?openLoad, fun s n outside hg hi => ?imbalance⟩,
    fun s n => ?pair, fun s => ?journal⟩
  case restart =>
    have hguard : ((s.chan n).sw || !settled || tileAsleep s n) = true := by
      rcases hoff with hoff | hoff | hoff <;> simp [hoff]
    simp only [exec, execBackfedEval, backfedSample, hguard, if_true, State.modChan_eq]
  case sets => simp [exec, execBackfedEval, backfedSample, hsw, hset, hawake, hbf, hv, hrun]
  case clears =>
    have hlow : ¬bfThreshold s n < v.s20 := by omega
    simp [exec, execBackfedEval, backfedSample, hsw, hset, hawake, hbf, hv, hlow, show 2 ≤ (s.chan n).bfLow + 1 by omega]
  case openLoad =>
    obtain ⟨ol, hol⟩ : ∃ ol, ol = decide (40000 < v.s20) := ⟨_, rfl⟩
    obtain ⟨c, hc⟩ : ∃ c : Chan, c = { s.chan n with
      openLoad := ol, probeReq := false, fault := (s.chan n).fault.setBit 6 ((s.chan n).fault.bit 6 || ol) } := ⟨_, rfl⟩
    have e : exec (.openLoadProbe n v) s = .next (if ol ≠ (s.chan n).openLoad
        then reportCh n (if ol then 0x01E else 0x025) 0 (s.setChan n c) else s.setChan n c) := by
      simp only [exec, execOpenLoadProbe, openLoadResult, hol, hc, State.modChan_eq, gt_iff_lt]
      rw [if_pos ⟨hs, hbf, hawake, hreq⟩]
    refine .of_next e ?_
    simp only [reportCh_if_chan, State.setChan_chan, if_pos]
    refine ⟨by rw [hc, hol], by rw [hc], by rw [hc]; exact hs, (setChan_only ..).trans (reportCh_if_only ..), fun hne => ?_⟩
    have hnew : ol ≠ (s.chan n).openLoad := by rwa [hc] at hne
    have hrep := (reportCh_spec n (if ol then 0x01E else 0x025) 0 (s.setChan n c)).1.of_setChan (by rw [hc])
    rw [if_pos hnew]
    simpa only [hol, decide_eq_true_eq] using hrep
  case imbalance => simp [exec, execImbalance, imbalanceChange, hg, hi]
  case pair =>
    intro g hk h1 h2
    simp only [exec, execPairImbalance, pairImbalanceRecord]
    rw [if_pos ⟨hk, h1, h2⟩]
    rfl
  case journal =>
    refine .of_next (u := journalLife s) rfl ⟨fun l hl => ?_, fun l hl => ?_, rfl⟩
    · simp [journalLife, hl]
    · simp [journalLife, hl]

end Sys2Proof.Machine
end

section
/-! SUPPORT. Sample blocks and drift checks (R85, R242 to R244). -/

namespace Sys2Proof.Machine

open Sys2Proof

/-! ### The words of a block (R243) -/

theorem getD_map_range {α : Type} (f : Nat → α) (d : α) {n w : Nat} (h : w < n) : ((List.range n).map f).getD w d = f w := by
  simp [h]

theorem drop_take_map_range {α : Type} (f : Nat → α) (n : Nat) :
    (((List.range (n + 4)).map f).drop 1).take 3 = [f 1, f 2, f 3] := by
  simp [List.range_succ_eq_map]

theorem makeBlock_getD (s : State) (raw : List Word) (late : Bool) {w : Nat} (h : w < 1943) :
    (makeBlock s raw late).getD w 0 =
      blockWord s (blockBoundary s late / 20000 % 5) ((blockBoundary s late + 2 ^ 60 - 21200) % 2 ^ 60) raw w :=
  getD_map_range _ _ h

theorem makeBlock_length (s : State) (raw : List Word) (late : Bool) : (makeBlock s raw late).length = 1943 := by
  rw [makeBlock, List.length_map, List.length_range]

/-- Word 0 of a block: the mux phase, VALID and CAL_FAIL (R243). -/
theorem blockHeader_fields {p : Nat} (hp : p < 5) (v c : Bool) :
    let w := Word.ofN (p * 2 ^ 17 + flagAt v 16 + flagAt c 15)
    w.bit 16 = v ∧ w.bit 15 = c ∧ w.field 19 17 = p := by
  interval_cases p <;> cases v <;> cases c <;> decide

/-- Three words spell any time of the time base (R8). -/
theorem ofWords_time {t : Nat} (h : t < 2 ^ 60) : ofWords [wordOf t 0, wordOf t 1, wordOf t 2] = t := by
  simp only [ofWords, wordOf, BitVec.toNat_ofNat, Nat.shiftRight_eq_div_pow]
  omega

theorem makeBlock_time (s : State) (raw : List Word) (late : Bool) :
    let t := (blockBoundary s late + 2 ^ 60 - 21200) % 2 ^ 60
    ((makeBlock s raw late).drop 1).take 3 = [wordOf t 0, wordOf t 1, wordOf t 2] := by
  rw [makeBlock, show 1943 = 1939 + 4 from rfl, drop_take_map_range]
  simp [blockWord]

/-- Every word of a block from the first sample to those of the multiplexed signals belongs to a signal. -/
theorem wordSignal_isSome {w : Nat} (tph : Nat) (h4 : 4 ≤ w) (h : w < 1540) : (wordSignal tph w).isSome = true := by
  unfold wordSignal
  rw [if_neg (by omega)]
  repeat' split
  all_goals rfl

theorem blockWord_notValid {s : State} (hv : s.sup.fabValid = false) (tph t0 : Nat) (raw : List Word) {w : Nat} (h4 : 4 ≤ w)
    (h : w < 1540) : blockWord s tph t0 raw w = 0x7FF00 := by
  obtain ⟨i, hi⟩ := Option.isSome_iff_exists.1 (wordSignal_isSome tph h4 h)
  unfold blockWord
  rw [if_neg (by omega), if_neg (by omega), if_neg (by omega), hi]
  simp [senseFlag, hv]

/-! ### The block is presented once (R244) -/

theorem exec_sampleBlock_new (raw : List Word) (late : Bool) (s : State) (hr : s.seq.running = true)
    (h : s.fab.sentAt < blockBoundary s late) :
    exec (.sampleBlock raw late) s = .next (present 0x10 (makeBlock s raw late) (.block s.fab.recs)
      { s with
        fab := { s.fab with recs := [], sentAt := blockBoundary s late },
        seq := { s.seq with
          counts := Sparse.set (fun _ => 0) s.seq.counts 0x10 ((blockBoundary s late / 20000 - 1) % 2 ^ 20) } }) := by
  show execSampleBlock raw late s = _
  simp [execSampleBlock, sequencerRuns, hr, h]

theorem exec_sampleBlock_old (raw : List Word) (late : Bool) (s : State) (h : blockBoundary s late ≤ s.fab.sentAt) :
    exec (.sampleBlock raw late) s = .next s := by
  show execSampleBlock raw late s = _
  simp [execSampleBlock, Nat.not_lt.2 h]

/-! ### Drift checks (R242) -/

theorem exec_muxReferenceCheck (v : Fin 24) (good : Bool) (s : State) :
    exec (.muxReferenceCheck v good) s = execMuxReferenceCheck v good s := rfl

theorem exec_modOffsetTrack (n : Fin 176) (step : Int) (fail : Bool) (s : State) :
    exec (.modOffsetTrack n step fail) s = execModOffsetTrack n step fail s := rfl

theorem modFault_old {n : Nat} {s : State} (h : n ∈ s.fab.modFaults) : modFault n s = s := by
  simp [modFault, h]

theorem modFault_new {n : Nat} {s : State} (h : n ∉ s.fab.modFaults) :
    modFault n s = { s with fab := { s.fab with
      modFaults := s.fab.modFaults ++ [n], recs := s.fab.recs ++ [⟨0x05, 0x024, 0x8A000, Word.ofN n, 0⟩] } } := by
  simp [modFault, h]

theorem offsetDue_iff (s : State) (n : Nat) : offsetDue s n = true ↔
    ((s.chan n).sw = false ∧ pulsed s n = false ∧ ∀ t : Nat, (s.chan n).openedAt = some t → t + 1000000 ≤ s.clock) ∧
      ∀ t : Nat, (s.fab.modLast.find? fun p => p.1 = n) = some (n, t) → t + 100000000 ≤ s.clock := by
  have hlast (f : Nat × Nat → Bool) (hf : ∀ p, f p = true → p.1 = n) (d : Nat) :
      (((s.fab.modLast.find? f).map (·.2)).all fun t => decide (t + d ≤ s.clock)) = true ↔
        ∀ t : Nat, s.fab.modLast.find? f = some (n, t) → t + d ≤ s.clock := by
    cases hx : s.fab.modLast.find? f with
    | none => simp
    | some p =>
      obtain ⟨k, t⟩ := p
      have hk : k = n := hf _ (List.find?_some hx)
      simp [hk]
  have hopen (d : Nat) : ((s.chan n).openedAt.all fun t => decide (t + d ≤ s.clock)) = true ↔
      ∀ t : Nat, (s.chan n).openedAt = some t → t + d ≤ s.clock := by
    cases (s.chan n).openedAt <;> simp
  rw [offsetDue, Bool.and_eq_true, Bool.and_eq_true, Bool.and_eq_true, hopen, hlast _ (fun p hp => of_decide_eq_true hp),
    Bool.not_eq_true', Bool.not_eq_true']
  simp only [and_assoc]

/-- Settles O16: a block is a map over its words; the counts, checks and offsets are the branches of the three commands. -/
theorem sampleBlocksAndDriftChecks : Obligations.SampleBlocksAndDriftChecks := by
  unfold Obligations.SampleBlocksAndDriftChecks
  refine ⟨fun s raw late => ?block, fun s v => ?mux, fun s n step => ?offset⟩
  case block =>
    intro b blk
    have hhead : blk.getD 0 0 = Word.ofN (b / 20000 % 5 * 2 ^ 17 + flagAt s.sup.fabValid 16 + flagAt s.fab.calFail 15) :=
      makeBlock_getD s raw late (by omega)
    obtain ⟨hvalid, hcal, hphase⟩ := blockHeader_fields (Nat.mod_lt (b / 20000) (by decide)) s.sup.fabValid s.fab.calFail
    refine ⟨fun hnum hb => ?_, exec_sampleBlock_old raw late s, makeBlock_length s raw late, hhead ▸ hvalid, hhead ▸ hcal,
      hhead ▸ hphase, ?_, fun hv w h4 h => ?_⟩
    · refine .of_next (exec_sampleBlock_new raw late s hnum.1 hb) ?_
      obtain ⟨hp, hu⟩ := present_numbered 0x10 blk (.block s.fab.recs) { s with
          fab := { s.fab with recs := [], sentAt := b },
          seq := { s.seq with counts := Sparse.set (fun _ => 0) s.seq.counts 0x10 ((b / 20000 - 1) % 2 ^ 20) } } hnum
      refine ⟨hp, fun hbig => ?_, hu⟩
      have hc := congrArg Seq.counts hp
      rw [hc]
      simp only [Sparse.get_set, nextCount, if_true]
      omega
    · rw [makeBlock_time]
      exact ofWords_time (Nat.mod_lt _ (by decide))
    · exact (makeBlock_getD s raw late (by omega)).trans (blockWord_notValid hv _ _ raw h4 h)
  case mux =>
    intro m upd
    simp only [exec_muxReferenceCheck, execMuxReferenceCheck]
    have hm : Sparse.get (fun _ => ⟨false, 0⟩) s.fab.mux (v : Nat) = m := rfl
    refine ⟨fun hf => ⟨?_, ?_⟩, fun hf => ⟨?_, fun hg => ?_, fun hg => ?_⟩⟩
    · simp [hm, hf, upd]
    · simp [hm, hf, upd, Word.ofN]
    · simp [hm, hf, upd]
    · simp [hm, hf, hg, upd]
    · simp [hm, hf, Nat.not_lt.2 hg, upd, Word.ofN]
  case offset =>
    intro open10ms second o last faulty
    have hdue : offsetDue s n = true ↔ open10ms ∧ second := offsetDue_iff s n
    simp only [exec_modOffsetTrack, execModOffsetTrack]
    refine ⟨fun h => ?_, fun ho hs => ⟨fun hsmall => ?_, fun hbig hnew => ?_⟩, fun hnew => ?_, fun hold => ?_⟩
    · simp [mt hdue.1 h]
    · rw [if_neg Bool.false_ne_true, if_pos (hdue.2 ⟨ho, hs⟩), if_neg (Nat.not_lt.2 hsmall)]
    · rw [if_neg Bool.false_ne_true, if_pos (hdue.2 ⟨ho, hs⟩), if_pos hbig]
      exact congrArg _ (modFault_new hnew)
    · rw [if_pos trivial, modFault_new hnew]
    · rw [if_pos trivial, modFault_old hold]

end Sys2Proof.Machine
end

section
/-! SUPPORT. Writes of a master (R134 to R145): what the grant of an access changes, and the outcome that the Board's checks leave. -/

namespace Sys2Proof.Machine

open Sys2Proof

/-! ### A change of the lanes alone -/

/-- Between `s` and `u`, nothing but the states of the two lanes may differ. -/
def LanesOnly (s u : State) : Prop := u = { s with white := u.white, black := u.black }

theorem LanesOnly.refl (s : State) : LanesOnly s s := rfl

theorem LanesOnly.trans {s u v : State} (a : LanesOnly s u) (b : LanesOnly u v) : LanesOnly s v := by
  unfold LanesOnly at *
  rw [b, a]

theorem LanesOnly.setLane (s : State) (l : Lane) (g : LaneSt) : LanesOnly s (s.setLane l g) := by
  cases l <;> rfl

section
variable {s u : State} (h : LanesOnly s u)
include h

theorem LanesOnly.copyReg (a : Nat) : u.copyReg a = s.copyReg a := by rw [h]; rfl
theorem LanesOnly.core (c : Nat) : u.core c = s.core c := by rw [h]; rfl
theorem LanesOnly.dma (e : Nat) : u.dma e = s.dma e := by rw [h]; rfl
theorem LanesOnly.box (k : Nat) : u.box k = s.box k := by rw [h]; rfl
theorem LanesOnly.ply : u.ply = s.ply := by rw [h]
theorem LanesOnly.mbx : u.mbx = s.mbx := by rw [h]
theorem LanesOnly.sramWord (a : Nat) : u.sramWord a = s.sramWord a := by rw [h]; rfl
theorem LanesOnly.masterSecure (m : Nat) : Machine.masterSecure u m = Machine.masterSecure s m := by rw [h]; rfl
theorem LanesOnly.measCheck (a : Nat) (v : Word) : Machine.measCheck u a v = Machine.measCheck s a v := by rw [h]; rfl

/-- The checks of the Board do not look at the lanes. -/
theorem LanesOnly.verdict (m : Nat) (secure : Bool) (a : Nat) (wr : Bool) (lk : LockFlag) :
    Machine.verdict u m secure a wr lk = Machine.verdict s m secure a wr lk := by rw [h]; rfl

end

/-! ### The grant of an access (R140, R145) -/

/-- The counting of an access visits each lane at most once. -/
theorem foldl_modLane (f : LaneSt → LaneSt) (ls : List Lane) (hl : ls.Nodup) (s : State) (l : Lane) :
    (ls.foldl (fun s l => s.modLane l f) s).lane l = if l ∈ ls then f (s.lane l) else s.lane l := by
  induction ls generalizing s with
  | nil => simp
  | cons k ls ih =>
    obtain ⟨hnot, hrest⟩ := List.nodup_cons.1 hl
    rw [List.foldl_cons, ih hrest]
    by_cases hk : l = k
    · subst hk; simp [hnot]
    · simp [hk, Ne.symm hk]

theorem foldl_modLane_only (f : LaneSt → LaneSt) (ls : List Lane) (s : State) :
    LanesOnly s (ls.foldl (fun s l => s.modLane l f) s) := by
  induction ls generalizing s with
  | nil => exact .refl s
  | cons k ls ih => exact (LanesOnly.setLane s k _).trans (ih _)

theorem countAccess_only (ls : List Lane) (m a : Nat) (wr : Bool) (s : State) : LanesOnly s (countAccess ls m a wr s) := by
  unfold countAccess
  split
  · exact foldl_modLane_only ..
  · exact .refl s

theorem computing_nodup (s : State) : (computing s).Nodup := List.Nodup.filter _ (by decide)

theorem mem_computing {s : State} {l : Lane} : l ∈ computing s ↔ (s.lane l).inStep = true := by
  cases l <;> simp [computing]

/-- A grant is counted in each lane that computes the ply. -/
theorem countAccess_lane {a t : Nat} (ht : targetOf a = some t) (m : Nat) (wr : Bool) (s : State) (l : Lane) :
    (countAccess (computing s) m a wr s).lane l =
      if (s.lane l).inStep then (s.lane l).countGrant t (arbIndex t (sramBank a)) m wr else s.lane l := by
  rw [countAccess, ht]
  simp only [foldl_modLane _ _ (computing_nodup s), mem_computing]

theorem LaneSt.inStep_congr {g h : LaneSt} (hr : g.role = h.role) (hs : g.stale = h.stale) (hj : g.joinStage = h.joinStage) :
    g.inStep = h.inStep := by
  simp only [LaneSt.inStep, hr, hs, hj]

theorem LaneSt.countGrant_inStep (t i m : Nat) (wr : Bool) (g : LaneSt) : (g.countGrant t i m wr).inStep = g.inStep := by
  apply LaneSt.inStep_congr <;> simp only [LaneSt.countGrant, LaneSt.setCounter, LaneSt.setLock, LaneSt.setArb]

/-- A grant does not change which lanes compute the ply. -/
theorem computing_countAccess {a t : Nat} (ht : targetOf a = some t) (m : Nat) (wr : Bool) (s : State) :
    computing (countAccess (computing s) m a wr s) = computing s := by
  have hl : ∀ l, ((countAccess (computing s) m a wr s).lane l).inStep = (s.lane l).inStep := fun l => by
    rw [countAccess_lane ht]
    split
    · exact LaneSt.countGrant_inStep ..
    · rfl
  unfold computing at hl ⊢
  simp only [hl]

theorem Granted_only (s : State) (m a : Nat) : LanesOnly s (Granted s m a) := countAccess_only ..

/-! ### A write goes through the checks (R134, R137, R142) -/

/-- An access that the checks pass is one of a target. -/
theorem targetOf_of_verdict {s : State} {m a : Nat} {secure wr : Bool} {lk : LockFlag} (h : verdict s m secure a wr lk = .ok) :
    ∃ t, targetOf a = some t := by
  cases ht : targetOf a with
  | none => simp [verdict, ht] at h
  | some t => exact ⟨t, rfl⟩

theorem masterDo_ok {s : State} {m a : Nat} (v : Word) (act : State → State) (h : MayWrite s m a) :
    masterDo m a v act s = debugWrote m a (act (Granted s m a)) := by
  obtain ⟨t, ht⟩ := targetOf_of_verdict h.1
  simp [masterDo, h.1, ht, h.2 t ht, Granted]

theorem masterDo_refused {s : State} {m a : Nat} (v : Word) (act : State → State) (h : MayNotWrite s m a) :
    masterDo m a v act s = refuseMaster m true (refuseAccess m a true v s) := by
  unfold masterDo
  split
  · next hv _ => exact absurd hv h
  · rfl

theorem masterWrite_board {m a : Nat} (v : Word) (s : State) (ha : 0x20000 ≤ a) :
    masterWrite m a v s = masterDo m a v (pointWrite m a v) s :=
  if_neg fun h => absurd h.2 (Nat.not_lt.2 ha)

theorem masterWrite_refused {s : State} {m a : Nat} (v : Word) (ha : 0x20000 ≤ a) (h : MayNotWrite s m a) :
    masterWrite m a v s = refuseMaster m true (refuseAccess m a true v s) := by
  rw [masterWrite_board v s ha, masterDo_refused v _ h]

end Sys2Proof.Machine
end

section
/-! SUPPORT. Writes to the measurement registers (R235, R249 to R272). -/

namespace Sys2Proof.Machine

open Sys2Proof

/-! ### The rules of a register -/

theorem pointWrite_meas (m a : Nat) (v : Word) (s : State) (h : (0x8A000 ≤ a ∧ a < 0x8C900) ∨ (0x8C920 ≤ a ∧ a < 0x8E000)) :
    pointWrite m a v s = measWrite m a v s := by
  have hd : ¬(0x8C900 ≤ a ∧ a < 0x8C920 ∧ a % 8 = 0) := by omega
  rw [pointWrite, if_neg hd]
  rcases h with h | h <;> simp (disch := omega) only [plainWrite, if_neg, if_pos]

/-- A write of MODE = 01b to a signature slot (R253). -/
def learns (a : Nat) (v : Word) : Bool :=
  decide (0x8CC00 ≤ a ∧ a < 0x8CD00 ∧ a % 16 = 0) && decide (v.field 19 18 = 1)

theorem measWrite_waits {m a : Nat} {v w : Word} {s : State} (h : measCheck s a v = (some w, false)) :
    measWrite m a v s = { s with measPend := s.measPend ++ [⟨m, a, w, learns a v⟩] } := by
  simp [measWrite, h, learns]

theorem measWrite_refused {m a : Nat} {v : Word} {s : State} (h : measCheck s a v = (none, true)) :
    measWrite m a v s = writeRefused m a v s := by
  simp [measWrite, h]

/-- With no other write of the ply, the registers hold what they will hold. -/
theorem measView_copyReg {s : State} (h : s.measPend = []) (a : Nat) : measView s a = s.copyReg a := by
  simp [measView, h]

section
variable {s : State} {m a : Nat} {v : Word} (h : (0x8A000 ≤ a ∧ a < 0x8C900) ∨ (0x8C920 ≤ a ∧ a < 0x8E000))
include h

/-- An accepted write of the Board waits for phase A. -/
theorem masterWrite_meas_waits (hp : s.measPend = []) (hc : measCheck s a v = (some v, false)) (hm : MayWrite s m a) :
    masterWrite m a v s = debugWrote m a { Granted s m a with measPend := [⟨m, a, v, learns a v⟩] } := by
  have hg := Granted_only s m a
  have hpend : (Granted s m a).measPend = [] := by rw [hg]; exact hp
  rw [masterWrite_board v s (by omega), masterDo_ok v _ hm, pointWrite_meas m a v _ h,
    measWrite_waits ((hg.measCheck a v).trans hc), hpend, List.nil_append]

/-- One that breaks its rule leaves its record. -/
theorem masterWrite_meas_refused (hc : measCheck s a v = (none, true)) (hm : MayWrite s m a) :
    masterWrite m a v s = debugWrote m a (writeRefused m a v (Granted s m a)) := by
  rw [masterWrite_board v s (by omega), masterDo_ok v _ hm, pointWrite_meas m a v _ h,
    measWrite_refused (((Granted_only s m a).measCheck a v).trans hc)]

end

/-! ### The rules, register by register -/

theorem measCheck_comp (s : State) (i : Fin 856) (k : Fin 4) (v : Word) :
    measCheck s (0x8B000 + 4 * i + k) v = compCheck s i k v := by
  have hi := i.isLt
  have hk := k.isLt
  have hd : (0x8B000 + 4 * (i : Nat) + k - 0x8B000) / 4 = i := by omega
  have hr : (0x8B000 + 4 * (i : Nat) + k) % 4 = k := by omega
  simp (disch := omega) only [measCheck, if_neg, if_pos, hd, hr]

theorem measCheck_sig (s : State) (k : Fin 16) (v : Word) : measCheck s (0x8CC00 + 16 * k) v = sigCfgCheck s k v := by
  have hk := k.isLt
  have hd : (0x8CC00 + 16 * (k : Nat) - 0x8CC00) / 16 = k := by omega
  have hr : (0x8CC00 + 16 * (k : Nat)) % 16 = 0 := by omega
  simp (disch := omega) only [measCheck, if_neg, if_pos, hd, hr]

theorem measCheck_stream (s : State) (x : Fin 16) {o : Nat} (ho : o < 16) (v : Word) :
    measCheck s (0x8C800 + 16 * x + o) v = streamCheck s x o v := by
  have hx := x.isLt
  have hd : (0x8C800 + 16 * (x : Nat) + o - 0x8C800) / 16 = x := by omega
  have hr : (0x8C800 + 16 * (x : Nat) + o) % 16 = o := by omega
  simp (disch := omega) only [measCheck, if_neg, if_pos, hd, hr]

theorem measCheck_evqTail (s : State) (v : Word) :
    measCheck s 0x8A003 v =
      if (v.field 9 0 + 1024 - (s.copyReg 0x8A003).toNat) % 1024 ≤
          ((s.copyReg 0x8A002).toNat + 1024 - (s.copyReg 0x8A003).toNat) % 1024
      then (some v, false) else (none, true) := by
  simp [measCheck]

theorem learns_of_not_sig {a : Nat} (v : Word) (h : a < 0x8CC00) : learns a v = false := by
  simp [learns, Nat.not_le.2 h]

section
variable {s : State} (hp : s.measPend = [])
include hp

/-- The upper limit, against the lower one (R267). -/
theorem compCheck_hi (i : Nat) (v : Word) :
    let base := 0x8B000 + 4 * i
    let sup := s.copyReg (base + 3)
    compCheck s i 0 v = if isFlag v = true ∨ ((sup.bit 19 = true ∧ sup.bit 18 = true) ∧ v.s20 ≤ (s.copyReg (base + 1)).s20)
      then (none, true) else (some v, false) := by
  simp [compCheck, measView_copyReg hp]

theorem compCheck_lo (i : Nat) (v : Word) :
    let base := 0x8B000 + 4 * i
    let sup := s.copyReg (base + 3)
    compCheck s i 1 v = if isFlag v = true ∨ ((sup.bit 19 = true ∧ sup.bit 18 = true) ∧ (s.copyReg base).s20 ≤ v.s20)
      then (none, true) else (some v, false) := by
  simp [compCheck, measView_copyReg hp]

theorem compCheck_roc (i : Nat) (v : Word) :
    compCheck s i 2 v =
      if v = 0 ∧ (s.copyReg (0x8B000 + 4 * i + 3)).bit 17 = true then (none, true) else (some v, false) := by
  simp [compCheck, measView_copyReg hp]

/-- A supervision register with no rate limit and its other fields in range. -/
theorem compCheck_sup (i : Nat) (v : Word) (h17 : v.bit 17 = false) (hs : v.field 16 14 ≠ 0) (hf : v.field 13 10 ≠ 0)
    (hb : v.bit 19 = false ∨ v.bit 18 = false ∨
      (s.copyReg (0x8B000 + 4 * i + 1)).s20 < (s.copyReg (0x8B000 + 4 * i)).s20) : compCheck s i 3 v = (some v, false) := by
  have hlim : (v.bit 19 && v.bit 18 && !decide ((s.copyReg (0x8B000 + 4 * i + 1)).s20 < (s.copyReg (0x8B000 + 4 * i)).s20)) =
      false := by
    rcases hb with hb | hb | hb <;> simp [hb]
  simp [compCheck, measView_copyReg hp, hlim, h17, hs, hf]

end

/-- A signature slot with a channel of its own and its fields in range (R251). -/
theorem sigCfgCheck_ok {s : State} {k : Nat} {v : Word} (hn : v.field 17 10 < 176)
    (hg : (s.copyReg (chanAddr (v.field 17 10) 7)).field 19 18 ≠ 1)
    (hm : v.field 19 18 = 0 ∨ (v.field 19 18 ≠ 3 ∧ slotTaken s k (v.field 17 10) = false)) (hs1 : 1 ≤ v.field 9 5)
    (hs2 : v.field 9 5 ≤ 16) (hl1 : 1 ≤ v.field 4 0) (hl2 : v.field 4 0 ≤ 16) : sigCfgCheck s k v = (some v, false) := by
  have hlead : leaderCopy s (v.field 17 10) = v.field 17 10 := if_neg hg
  have h3 : v.field 19 18 ≠ 3 := by omega
  have hbad : ¬(175 < v.field 17 10 ∨ leaderCopy s (v.field 17 10) ≠ v.field 17 10 ∨
      (v.field 19 18 ≠ 0 ∧ slotTaken s k (v.field 17 10) = true)) := by
    rintro (h | h | ⟨h0, ht⟩)
    · omega
    · exact h hlead
    · rcases hm with hm | ⟨-, hm⟩
      · exact h0 hm
      · exact Bool.false_ne_true (hm.symm.trans ht)
  have hs : v.field 9 5 ≠ 0 := by omega
  have hl : v.field 4 0 ≠ 0 := by omega
  simp [sigCfgCheck, hbad, h3, hs, hl, Nat.not_lt.2 hs2, Nat.not_lt.2 hl2]

theorem sigCfgCheck_noChannel {s : State} {k : Nat} {v : Word} (hn : 175 < v.field 17 10) :
    sigCfgCheck s k v = (none, true) := if_pos (.inl hn)

/-- The write that enables a stream with a decimation (R258). -/
theorem enableWord_fields (d : BitVec 8) :
    (Word.ofN (2 ^ 19 + d.toNat * 2 ^ 11)).bit 19 = true ∧ (Word.ofN (2 ^ 19 + d.toNat * 2 ^ 11)).field 18 11 = d.toNat := by
  have hd := d.isLt
  constructor
  · simp only [Word.bit, Word.ofN, BitVec.getLsbD_ofNat, Nat.testBit_eq_decide_div_mod_eq]
    simp
    omega
  · simp only [Word.field, Word.ofN, BitVec.toNat_ofNat, Nat.shiftRight_eq_div_pow]
    omega

theorem streamCheck_enable {s : State} (hp : s.measPend = []) (x : Nat) (d : BitVec 8) :
    streamCheck s x 0 (Word.ofN (2 ^ 19 + d.toNat * 2 ^ 11)) =
      if (s.copyReg (0x8C800 + 16 * x)).bit 19 = true ∨ d.toNat = 0 ∨ 250 < d.toNat ∨ ringFree s x = false ∨
          4096 < streamsCost s x d.toNat
      then (none, true) else (some (Word.ofN (2 ^ 19 + d.toNat * 2 ^ 11)), false) := by
  obtain ⟨hen, hdec⟩ := enableWord_fields d
  simp only [streamCheck, hen, hdec, if_true, measView_copyReg hp, strmAddr, Nat.add_zero]
  simp [or_assoc]

theorem streamCheck_rd (s : State) (x : Nat) (v : Word) :
    streamCheck s x 5 v =
      if v = s.copyReg (0x8C800 + 16 * x + 4) ∨ ∃ r ∈ (s.stream x).held, Word.ofN r.off = v then (some v, false)
      else (none, true) := by
  have hb : recordBoundary s x v = true ↔
      v = s.copyReg (0x8C800 + 16 * x + 4) ∨ ∃ r ∈ (s.stream x).held, Word.ofN r.off = v := by
    rw [recordBoundary, Bool.or_eq_true, List.any_eq_true]
    exact or_congr decide_eq_true_iff (exists_congr fun r => and_congr_right fun _ => decide_eq_true_iff)
  exact if_congr hb rfl rfl

/-- Settles O17: each register by its rule, after the Board's checks. -/
theorem measurementWrites : Obligations.MeasurementWrites := by
  unfold Obligations.MeasurementWrites
  intro s m v hp passes waits refused denied
  have hwaits {i : Instr} {a : Nat} {w : Word} (hi : exec i s = .next (masterWrite m a w s))
      (ha : 0x8A000 ≤ a ∧ a < 0x8C900) (hc : measCheck s a w = (some w, false)) : waits i a w := fun hm => by
    rw [hi, masterWrite_meas_waits (.inl ha) hp hc hm, learns_of_not_sig w (by omega)]
  have hrefused {i : Instr} {a : Nat} {w : Word} (hi : exec i s = .next (masterWrite m a w s))
      (ha : (0x8A000 ≤ a ∧ a < 0x8C900) ∨ (0x8C920 ≤ a ∧ a < 0x8E000)) (hc : measCheck s a w = (none, true)) :
      refused i a w := fun hm => by
    rw [hi, masterWrite_meas_refused ha hc hm]
  have hdenied {i : Instr} {a : Nat} {w : Word} (hi : exec i s = .next (masterWrite m a w s)) (ha : 0x20000 ≤ a) :
      denied i a w := fun hm => by
    rw [hi, masterWrite_refused w ha hm]
  refine ⟨fun i => ?comparator, fun k => ?signature, fun x d => ?stream, ?evq⟩
  case comparator =>
    intro a both write
    have hi := i.isLt
    have hlow (k : Fin 4) : 0x8A000 ≤ a + k ∧ a + k < 0x8C900 := by omega
    have hexec (k : Fin 4) (w : Word) : exec (write k w) s = .next (masterWrite m (a + k) w s) := rfl
    have hck (k : Fin 4) (w : Word) : measCheck s (a + k) w = compCheck s i k w := measCheck_comp s i k w
    refine ⟨fun hf hb => hwaits (hexec 0 v) (hlow 0) ?_, fun hb => hrefused (hexec 0 v) (.inl (hlow 0)) ?_,
      fun hf hb => hwaits (hexec 1 v) (hlow 1) ?_, fun hb => hrefused (hexec 1 v) (.inl (hlow 1)) ?_,
      fun hb => hwaits (hexec 2 v) (hlow 2) ?_, fun hb => hrefused (hexec 2 0) (.inl (hlow 2)) ?_,
      fun h17 hs hf hb => hwaits (hexec 3 v) (hlow 3) ?_, fun k => hdenied (hexec k v) (by omega)⟩
    · refine (hck 0 v).trans ((compCheck_hi hp i v).trans (if_neg ?_))
      rintro (h | ⟨h, hle⟩)
      · exact Bool.false_ne_true (hf.symm.trans h)
      · exact hb.elim (fun hn => hn h) fun hlt => absurd hlt (not_lt.2 hle)
    · exact (hck 0 v).trans ((compCheck_hi hp i v).trans (if_pos hb))
    · refine (hck 1 v).trans ((compCheck_lo hp i v).trans (if_neg ?_))
      rintro (h | ⟨h, hle⟩)
      · exact Bool.false_ne_true (hf.symm.trans h)
      · exact hb.elim (fun hn => hn h) fun hlt => absurd hlt (not_lt.2 hle)
    · exact (hck 1 v).trans ((compCheck_lo hp i v).trans (if_pos hb))
    · refine (hck 2 v).trans ((compCheck_roc hp i v).trans (if_neg ?_))
      rintro ⟨hz, h⟩
      exact hb.elim (fun hb => Bool.false_ne_true (hb.symm.trans h)) fun hb => hb hz
    · exact (hck 2 0).trans ((compCheck_roc hp i 0).trans (if_pos ⟨rfl, hb⟩))
    · exact (hck 3 v).trans (compCheck_sup hp i v h17 hs hf hb)
  case signature =>
    intro n a
    have hk := k.isLt
    have hsig : (0x8A000 ≤ a ∧ a < 0x8C900) ∨ (0x8C920 ≤ a ∧ a < 0x8E000) := .inr (by omega)
    have hexec : exec (.signatureConfigWrite m k v) s = .next (masterWrite m a v s) := rfl
    have hlearn : learns a v = decide (v.field 19 18 = 1) := by
      have hr : 0x8CC00 ≤ a ∧ a < 0x8CD00 ∧ a % 16 = 0 := by omega
      simp [learns, hr]
    refine ⟨fun hn hg hm hs1 hs2 hl1 hl2 hw => ?_, fun hn => ?_, hdenied hexec (by omega)⟩
    · rw [hexec, masterWrite_meas_waits hsig hp ((measCheck_sig s k v).trans (sigCfgCheck_ok hn hg hm hs1 hs2 hl1 hl2)) hw, hlearn]
    · exact hrefused hexec hsig ((measCheck_sig s k v).trans (sigCfgCheck_noChannel hn))
  case stream =>
    intro a w
    have hx := x.isLt
    have hlow {o : Nat} (ho : o < 16) : 0x8A000 ≤ a + o ∧ a + o < 0x8C900 := by omega
    have hen : exec (.streamEnable m x d) s = .next (masterWrite m a w s) := rfl
    have hrd : exec (.streamRdWrite m x v) s = .next (masterWrite m (a + 5) v s) := rfl
    have hck := (measCheck_stream s x (o := 0) (by omega) w).trans (streamCheck_enable hp x d)
    have hck5 := (measCheck_stream s x (o := 5) (by omega) v).trans (streamCheck_rd s x v)
    refine ⟨fun hoff h1 h250 hr hc => hwaits hen (hlow (o := 0) (by omega)) (hck.trans (if_neg ?_)),
      fun hb => hrefused hen (.inl (hlow (o := 0) (by omega))) (hck.trans (if_pos ?_)), hdenied hen (by omega),
      fun hb => hwaits hrd (hlow (by omega)) (hck5.trans (if_pos hb)),
      fun hv hh => hrefused hrd (.inl (hlow (by omega))) (hck5.trans (if_neg ?_)), hdenied hrd (by omega)⟩
    · rintro (h | h | h | h | h)
      · exact Bool.false_ne_true (hoff.symm.trans h)
      · omega
      · omega
      · exact Bool.false_ne_true (h.symm.trans hr)
      · omega
    · exact hb.imp_right (Or.imp_left fun h => by rw [h]; rfl)
    · rintro (h | ⟨r, hr, h⟩)
      · exact hv h
      · exact hh r hr h
  case evq =>
    intro unread
    have hexec : exec (.evqTailWrite m v) s = .next (masterWrite m 0x8A003 v s) := rfl
    exact ⟨fun h => hwaits hexec (by decide) ((measCheck_evqTail s v).trans (if_pos h)),
      fun h => hrefused hexec (.inl (by decide)) ((measCheck_evqTail s v).trans (if_neg (Nat.not_le.2 h))),
      hdenied hexec (by decide)⟩

end Sys2Proof.Machine
end

section
/-! SUPPORT. The DMA engines (R137, R139, R261, R262). -/

namespace Sys2Proof.Machine

open Sys2Proof

/-! ### START and ABORT (R261) -/

theorem dmaStart_accepted {m e : Nat} {s : State} (hb : (s.dma e).busy = false) (ho : dmaOwns s m e = true) :
    dmaStart m e s = s.setDma e { s.dma e with
      busy := true, secure := masterSecure s m, limit := none, at_ := 0,
      ended := if (dmaReg s e 3).toNat = 0 then some (true, false, 0) else none } := by
  simp [dmaStart, hb, ho]

theorem dmaStart_refused {m e : Nat} {s : State} (h : (s.dma e).busy = true ∨ dmaOwns s m e = false) :
    dmaStart m e s = writeRefused m (0x8C900 + 8 * e) 0x80000 s := by
  rcases h with h | h <;> simp [dmaStart, h]

theorem dmaAbort_running {e : Nat} (n : Nat) {s : State} (hb : (s.dma e).busy = true) (hn : (s.dma e).ended = none) :
    dmaAbort e n s =
      abandonLocks (dmaMaster e) (s.setDma e { s.dma e with limit := some (min n (dmaReg s e 3).toNat) }) := by
  simp [dmaAbort, hb, hn]

theorem dmaAbort_idle {e : Nat} (n : Nat) {s : State} (hb : (s.dma e).busy = false) :
    dmaAbort e n s = abandonLocks (dmaMaster e) s := by
  simp [dmaAbort, hb]

/-- Who wrote the descriptor, and what it holds, does not depend on the lanes. -/
theorem LanesOnly.dmaOwns {s u : State} (h : LanesOnly s u) (m e : Nat) : Machine.dmaOwns u m e = Machine.dmaOwns s m e := by
  rw [h]; rfl

theorem LanesOnly.dmaReg {s u : State} (h : LanesOnly s u) (e off : Nat) : Machine.dmaReg u e off = Machine.dmaReg s e off :=
  h.copyReg _

/-! ### A transfer (R262) -/

/-- The first word of a transfer stands at its base. -/
theorem strideAddr_zero (base : Word) (stride : Nat) : strideAddr base stride 0 = base.toNat := by
  simp [strideAddr]

theorem targetOf_sram {a : Nat} (ha : 0x20000 ≤ a) (hb : a < 0x60000) : targetOf a = some 0 := by
  simp (disch := omega) only [targetOf, if_neg, if_pos]

section
variable {e : Nat} {s : State} (n : Nat)

/-- A word whose source the checks refuse ends the transfer. -/
theorem dmaMove_refused (h : verdict s (dmaMaster e) (s.dma e).secure (dmaReg s e 1).toNat false .none ≠ .ok) :
    dmaMove e 0 (n + 1) s = (0, .refused, refuseAccess (dmaMaster e) (dmaReg s e 1).toNat false 0 s) := by
  simp [dmaMove, strideAddr_zero, h]

theorem dmaMove_parked (hv : verdict s (dmaMaster e) (s.dma e).secure (dmaReg s e 1).toNat false .none = .ok)
    (h : waitsFor s (dmaMaster e) (dmaReg s e 1).toNat = true) :
    dmaMove e 0 (n + 1) s = (0, .parked, parkAccess (dmaMaster e) (dmaReg s e 1).toNat false 0 s) := by
  simp [dmaMove, strideAddr_zero, hv, h]

/-- A word within Board SRAM is read, with its grant, and then written, with another. -/
theorem dmaMove_sram (hs : 0x20000 ≤ (dmaReg s e 1).toNat ∧ (dmaReg s e 1).toNat < 0x60000)
    (hd : 0x20000 ≤ (dmaReg s e 2).toNat ∧ (dmaReg s e 2).toNat < 0x60000)
    (hvs : verdict s (dmaMaster e) (s.dma e).secure (dmaReg s e 1).toNat false .none = .ok)
    (hvd : verdict s (dmaMaster e) (s.dma e).secure (dmaReg s e 2).toNat true .none = .ok)
    (hw : waitsFor s (dmaMaster e) (dmaReg s e 1).toNat = false) :
    let r := countAccess (computing s) (dmaMaster e) (dmaReg s e 1).toNat false s
    let w := countAccess (computing s) (dmaMaster e) (dmaReg s e 2).toNat true r
    dmaMove e 0 1 s = (1, .done, w.setSram (dmaReg s e 2).toNat (s.sramWord (dmaReg s e 1).toNat)) := by
  intro r w
  have hts := targetOf_sram hs.1 hs.2
  have htd := targetOf_sram hd.1 hd.2
  have hw' : waitsFor s (dmaMaster e) (dmaReg s e 2).toNat = false := by
    rw [← hw]; simp only [waitsFor, hts, htd]
  have hr : LanesOnly s r := countAccess_only ..
  have hvr : verdict r (dmaMaster e) (s.dma e).secure (dmaReg s e 2).toNat true .none = .ok := (hr.verdict ..).trans hvd
  have hc : computing r = computing s := computing_countAccess hts _ _ _
  simp only [dmaMove, strideAddr_zero, hvs, hw, hw', ne_eq, not_true_eq_false, if_false, Bool.false_eq_true,
    pointRead_sram _ _ _ hs.1 hs.2]
  rw [if_neg (not_not.2 hvr), hr.sramWord, pointWrite_sram _ _ _ _ hd.1 hd.2, hc]

end

section
variable {e : Nat} {s : State} (hb : (s.dma e).busy = true) (hn : (s.dma e).ended = none) (hl : (s.dma e).limit = none)
  (h0 : (s.dma e).at_ = 0)
include hb hn hl h0

/-- The run of a whole transfer ends as its words do. -/
theorem dmaFinish_done {u : State} {k : Nat} (hk : dmaMove e 0 (dmaReg s e 3).toNat s = (k, .done, u)) :
    dmaFinish e s = u.setDma e { u.dma e with ended := some (true, false, k) } := by
  simp [dmaFinish, hb, hn, hl, h0, hk]

theorem dmaFinish_refused {u : State} {k : Nat} (hk : dmaMove e 0 (dmaReg s e 3).toNat s = (k, .refused, u)) :
    dmaFinish e s = u.setDma e { u.dma e with ended := some (false, true, k) } := by
  simp [dmaFinish, hb, hn, hl, h0, hk]

theorem dmaFinish_parked {u : State} {k : Nat} (hk : dmaMove e 0 (dmaReg s e 3).toNat s = (k, .parked, u)) :
    dmaFinish e s = u.setDma e { u.dma e with at_ := k } := by
  simp [dmaFinish, hb, hn, hl, h0, hk]

end

/-! ### What a refusal and a parked access leave -/

/-- A refusal is noted among the work of the ply alone. -/
theorem refuseAccess_ply (m a : Nat) (wr : Bool) (v : Word) (s : State) :
    refuseAccess m a wr v s = { s with ply := (refuseAccess m a wr v s).ply } := by
  unfold refuseAccess
  split
  · rfl
  · split
    · rfl
    · split <;> rfl

theorem boardPresent_only (l : Lane) (t a : Nat) (r : BoardReq) (s : State) : LanesOnly s (boardPresent l t a r s).2 := by
  unfold boardPresent
  dsimp only
  split
  · exact .refl s
  · split
    · exact .setLane s l _
    · split
      · exact .setLane s l _
      · exact .setLane s l _

theorem presentBoth_only (t a : Nat) (r : BoardReq) (s : State) : LanesOnly s (presentBoth t a r s).2 := by
  unfold presentBoth
  dsimp only
  split
  · exact (boardPresent_only ..).trans (boardPresent_only ..)
  · exact boardPresent_only ..

theorem parkAccess_only (m a : Nat) (wr : Bool) (t : Nat) (s : State) : LanesOnly s (parkAccess m a wr t s) := by
  unfold parkAccess
  split
  · exact presentBoth_only ..
  · exact .refl s

theorem exec_dmaComplete (e : Fin 4) (s : State) : exec (.dmaComplete e) s = .next (dmaFinish e s) := rfl

/-- Settles O18: START and ABORT go through the Board's checks; a transfer of one word by what happens to that word. -/
theorem dmaTransfers : Obligations.DmaTransfers := by
  unfold Obligations.DmaTransfers
  intro s m e n a g
  have hg : LanesOnly s g := Granted_only s m a
  have hstart : exec (.dmaStart m e) s = .next (masterDo m a 0x80000 (dmaStart m e) s) := rfl
  have habort (k : Nat) : exec (.dmaAbort m e k) s = .next (masterDo m a 0x40000 (dmaAbort e k) s) := rfl
  refine ⟨fun hm => ⟨fun hb ho => ?_, fun h => ?_, fun k => ⟨fun hb hn => ?_, fun hb => ?_⟩⟩, fun hm => ⟨?_, fun k => ?_⟩,
    fun hb hn hl h0 => ?transfer⟩
  · rw [hstart, masterDo_ok _ _ hm, dmaStart_accepted ((congrArg _ (hg.dma e)).trans hb) ((hg.dmaOwns m e).trans ho), hg.dma,
      hg.masterSecure, hg.dmaReg]
    rfl
  · rw [hstart, masterDo_ok _ _ hm, dmaStart_refused (by rw [hg.dma, hg.dmaOwns]; exact h)]
  · rw [habort, masterDo_ok _ _ hm, dmaAbort_running k ((congrArg _ (hg.dma e)).trans hb) ((congrArg _ (hg.dma e)).trans hn),
      hg.dma, hg.dmaReg]
    rfl
  · rw [habort, masterDo_ok _ _ hm, dmaAbort_idle k ((congrArg _ (hg.dma e)).trans hb)]
    rfl
  · rw [hstart, masterDo_refused _ _ hm]
  · rw [habort, masterDo_refused _ _ hm]
  case transfer =>
    intro src dst mayMove
    refine ⟨fun h1 hs hs' hd hd' hmv hvd => ⟨fun hw => ?_, fun hw => ?_⟩, fun h1 hmv => ?_⟩
    · set r := countAccess (computing s) (dmaMaster e) src false s with hr
      set w := countAccess (computing s) (dmaMaster e) dst true r with hww
      have hmove : dmaMove e 0 1 s = (1, .done, w.setSram dst (s.sramWord src)) := dmaMove_sram ⟨hs, hs'⟩ ⟨hd, hd'⟩ hmv hvd hw
      have hts := targetOf_sram hs hs'
      have htd := targetOf_sram hd hd'
      have hro : LanesOnly s r := countAccess_only ..
      have hwo : LanesOnly s w := hro.trans (countAccess_only ..)
      have hcr : computing r = computing s := computing_countAccess hts _ _ _
      have hlane (l : Lane) : w.lane l = if (s.lane l).inStep then LaneSt.countGrant 0 (arbIndex 0 (sramBank dst)) (0x18 + e) true
          (LaneSt.countGrant 0 (arbIndex 0 (sramBank src)) (0x18 + e) false (s.lane l)) else s.lane l := by
        have hin : (r.lane l).inStep = (s.lane l).inStep := by
          rw [Bool.eq_iff_iff, ← mem_computing, ← mem_computing, hcr]
        rw [hww, ← hcr, countAccess_lane htd, hin]
        rw [hr, countAccess_lane hts]
        split <;> rfl
      have hx : (w.setSram dst (s.sramWord src)).dma e = s.dma e := hwo.dma e
      refine .of_next (exec_dmaComplete e s) ?_
      rw [dmaFinish_done hb hn hl h0 (hmove ▸ congrArg (dmaMove e 0 · s) h1), hx]
      have hlane' (l : Lane) : ((w.setSram dst (s.sramWord src)).setDma e
          { s.dma e with ended := some (true, false, 1) }).lane l = w.lane l := by cases l <;> rfl
      refine ⟨?_, fun l hl => ?_, fun l hl => ?_⟩
      · rw [hwo]; rfl
      · rw [hlane', hlane, if_pos (mem_computing.1 hl)]
      · rw [hlane', hlane, if_neg (mt mem_computing.2 hl)]
    · have hmove := dmaMove_parked (e := e) 0 hmv hw
      rw [exec_dmaComplete, dmaFinish_parked hb hn hl h0 (hmove ▸ congrArg (dmaMove e 0 · s) h1),
        (parkAccess_only ..).dma, ← h0]
      rfl
    · obtain ⟨k, hk⟩ := Nat.exists_eq_add_of_le' h1
      have hmove : dmaMove e 0 (k + 1) s = (0, .refused, refuseAccess (dmaMaster e) src false 0 s) := dmaMove_refused k hmv
      rw [exec_dmaComplete, dmaFinish_refused hb hn hl h0 (hmove ▸ congrArg (dmaMove e 0 · s) hk)]
      rw [show (refuseAccess (dmaMaster e) src false 0 s).dma e = s.dma e by rw [refuseAccess_ply]; rfl]
      rfl

end Sys2Proof.Machine
end

section
/-! SUPPORT. Steps over several objects: what a fold over distinct objects does to each. -/

namespace Sys2Proof.Machine

open Sys2Proof

/-- Steps that each change one object of a kind, and otherwise only what `R` allows: each object meets its own step, in a state in
which it is as before, and no other object changes. -/
theorem foldl_objects {α ι : Type} {R : State → State → Prop} (hrefl : ∀ s, R s s) (htrans : ∀ {s u v}, R s u → R u v → R s v)
    (read : State → Nat → α) (f : ι → Nat) {F : State → ι → State} (hR : ∀ s k, R s (F s k))
    (ho : ∀ s k p, p ≠ f k → read (F s k) p = read s p) (ks : List ι) (hn : (ks.map f).Nodup) (s : State) :
    R s (ks.foldl F s) ∧ (∀ p, p ∉ ks.map f → read (ks.foldl F s) p = read s p) ∧
      ∀ k ∈ ks, ∃ v, R s v ∧ read v (f k) = read s (f k) ∧ read (ks.foldl F s) (f k) = read (F v k) (f k) := by
  induction ks generalizing s with
  | nil => exact ⟨hrefl s, fun _ _ => rfl, fun k hk => nomatch hk⟩
  | cons k ks ih =>
    obtain ⟨hnot, hrest⟩ := List.nodup_cons.1 hn
    obtain ⟨hr, hother, heach⟩ := ih hrest (F s k)
    refine ⟨htrans (hR s k) hr, fun p hp => ?_, fun j hj => ?_⟩
    · rw [List.map_cons, List.mem_cons, not_or] at hp
      exact (hother p hp.2).trans (ho s k p hp.1)
    · rcases List.mem_cons.1 hj with rfl | hj
      · exact ⟨s, hrefl s, rfl, hother _ hnot⟩
      · have hne : f j ≠ f k := fun e => hnot (e ▸ List.mem_map_of_mem hj)
        obtain ⟨v, hv, hread, hfin⟩ := heach j hj
        exact ⟨v, htrans (hR s k) hv, hread.trans (ho s k _ hne), hfin⟩

/-- Steps that leave a state as it is leave it so together. -/
theorem foldl_eq_self {α ι : Type} {f : α → ι → α} {a : α} {ks : List ι} (h : ∀ k ∈ ks, f a k = a) : ks.foldl f a = a := by
  induction ks with
  | nil => rfl
  | cons k ks ih =>
    rw [List.foldl_cons, h k List.mem_cons_self]
    exact ih fun j hj => h j (List.mem_cons_of_mem _ hj)

/-- The objects of a group of eight. -/
theorem mem_eight {g o : Nat} : o ∈ (List.range 8).map (8 * g + ·) ↔ o / 8 = g := by
  simp only [List.mem_map, List.mem_range]
  exact ⟨fun ⟨k, hk, e⟩ => by omega, fun h => ⟨o % 8, by omega, by omega⟩⟩

theorem eight_nodup (g : Nat) : ((List.range 8).map (8 * g + ·)).Nodup := List.nodup_range.map fun a b h => by simpa using h

end Sys2Proof.Machine
end

section
/-! SUPPORT. The field inputs and outputs (R276 to R298). -/

namespace Sys2Proof.Machine

open Sys2Proof

/-! ### What the unit's operations leave unchanged -/

/-- Between `s` and `u`, only field outputs, free values and what the unit keeps for its reports may differ. -/
def FioOnly (s u : State) : Prop :=
  u = { s with douts := u.douts, targets := u.targets, free := u.free } ∧ (∀ k : Nat, k ≠ fioT → u.tgt k = s.tgt k) ∧
  u.tgt fioT = { s.tgt fioT with entries := (u.tgt fioT).entries, refusals := (u.tgt fioT).refusals }

/-- The same, with the refusals as they were and no output changed but `o`. -/
def OutputOnly (o : Nat) (s u : State) : Prop :=
  FioOnly s u ∧ (u.tgt fioT).refusals = (s.tgt fioT).refusals ∧ ∀ p : Nat, p ≠ o → u.dout p = s.dout p

theorem FioOnly.refl (s : State) : FioOnly s s := ⟨rfl, fun _ _ => rfl, rfl⟩

theorem FioOnly.trans {s u v : State} (a : FioOnly s u) (b : FioOnly u v) : FioOnly s v := by
  obtain ⟨a1, a2, a3⟩ := a
  obtain ⟨b1, b2, b3⟩ := b
  exact ⟨by rw [b1, a1], fun k hk => (b2 k hk).trans (a2 k hk), by rw [b3, a3]⟩

theorem OutputOnly.refl (o : Nat) (s : State) : OutputOnly o s s := ⟨.refl s, rfl, fun _ _ => rfl⟩

theorem OutputOnly.trans {o : Nat} {s u v : State} (a : OutputOnly o s u) (b : OutputOnly o u v) : OutputOnly o s v :=
  ⟨a.1.trans b.1, b.2.1.trans a.2.1, fun p hp => (b.2.2 p hp).trans (a.2.2 p hp)⟩

section
variable {s u : State} (h : FioOnly s u)
include h

theorem FioOnly.liveReg (a : Nat) : u.liveReg a = s.liveReg a := by rw [h.1]; rfl
theorem FioOnly.clock : u.clock = s.clock := by rw [h.1]; rfl
theorem FioOnly.maintenance : u.maintenance = s.maintenance := by rw [h.1]
theorem FioOnly.safeMode (m : Nat) : Machine.safeMode u m = Machine.safeMode s m := by rw [h.1]; rfl
theorem FioOnly.supplyOk (o : Nat) : Machine.supplyOk u o = Machine.supplyOk s o := by rw [h.1]; rfl

end

/-! ### Changes that are reported -/

theorem modDout_only (o : Nat) (f : Dout → Dout) (s : State) : OutputOnly o s (s.modDout o f) :=
  ⟨⟨rfl, fun _ _ => rfl, rfl⟩, rfl, fun p hp => by simp [hp.symm]⟩

theorem reportDo_only (o cause : Nat) (s : State) : OutputOnly o s (reportDo o cause s) := by
  refine ⟨⟨rfl, fun k hk => ?_, ?_⟩, ?_, fun p hp => ?_⟩
  · simp only [reportDo, pushEntry, State.modTgt_eq, State.setTgt_tgt, if_neg hk.symm]; rfl
  · simp only [reportDo, pushEntry, State.modTgt_eq, State.setTgt_tgt, if_true]; rfl
  · simp only [reportDo, pushEntry, State.modTgt_eq, State.setTgt_tgt, if_true]; rfl
  · exact (modDout_only o (fun d => { d with lim := Config.inLimit s.free }) s).2.2 p hp

/-- A report draws whether the output is in current limit, and changes nothing else of it. -/
theorem reportDo_dout (o cause : Nat) (s : State) :
    (reportDo o cause s).dout o = { s.dout o with lim := ((reportDo o cause s).dout o).lim } := by
  have h : (reportDo o cause s).dout o = { s.dout o with lim := Config.inLimit s.free } :=
    (State.modDout_dout s o (fun d => { d with lim := Config.inLimit s.free }) o).trans (if_pos rfl)
  rw [h]

theorem changeDo_only (o cause : Nat) (f : Dout → Dout) (s : State) : OutputOnly o s (changeDo o cause f s) :=
  (modDout_only o f s).trans (reportDo_only o cause _)

theorem changeDo_dout (o cause : Nat) (f : Dout → Dout) (s : State) :
    (changeDo o cause f s).dout o = { f (s.dout o) with lim := ((changeDo o cause f s).dout o).lim } := by
  have h := reportDo_dout o cause (s.modDout o f)
  rw [State.modDout_dout, if_pos rfl] at h
  exact h

theorem refuseFio_only (obj off reason a : Nat) (v : Word) (s : State) : FioOnly s (refuseFio obj off reason a v s) := by
  refine ⟨rfl, fun k hk => ?_, ?_⟩
  · simp only [refuseFio, State.modTgt_eq, State.setTgt_tgt, if_neg hk.symm]
  · simp only [refuseFio, State.modTgt_eq, State.setTgt_tgt, if_true]

/-! ### Commands to one output (R279, R280) -/

theorem fioOn_other (o : Nat) (v : Word) (s : State) : FioOnly s (fioOn o v s) ∧ ∀ p, p ≠ o → (fioOn o v s).dout p = s.dout p := by
  have hch (c : Nat) (f : Dout → Dout) : FioOnly s (changeDo o c f s) ∧ ∀ p, p ≠ o → (changeDo o c f s).dout p = s.dout p :=
    ⟨(changeDo_only o c f s).1, (changeDo_only o c f s).2.2⟩
  have href (r : Nat) : FioOnly s (refuseFio o 0 r (doAddr o 0) v s) ∧
      ∀ p, p ≠ o → (refuseFio o 0 r (doAddr o 0) v s).dout p = s.dout p := ⟨refuseFio_only .., fun _ _ => rfl⟩
  unfold fioOn
  dsimp only
  split
  · exact ⟨.refl s, fun _ _ => rfl⟩
  · split
    · exact href _
    · split
      · exact href _
      · repeat' split
        all_goals exact hch _ _
      · repeat' split
        all_goals exact hch _ _
      · exact ⟨.refl s, fun _ _ => rfl⟩

theorem fioOff_only (o : Nat) (s : State) : OutputOnly o s (fioOff o s) := by
  unfold fioOff
  dsimp only
  split
  · exact changeDo_only ..
  · exact changeDo_only ..
  · exact changeDo_only ..
  · split
    · exact changeDo_only ..
    · exact .refl o s
  · exact .refl o s

section
variable {o : Nat} {s : State} (v : Word)

theorem fioOn_maintenance (h : s.maintenance = true) : fioOn o v s = s := by simp [fioOn, h]

variable (hm : s.maintenance = false)
include hm

theorem fioOn_disabled (hen : (s.liveReg (doAddr o 2)).bit 19 = false) : fioOn o v s = refuseFio o 0 0x01 (doAddr o 0) v s := by
  simp [fioOn, hm, hen]

variable (hen : (s.liveReg (doAddr o 2)).bit 19 = true)
include hen

theorem fioOn_latched (hs : (s.dout o).state = .latched) : fioOn o v s = refuseFio o 0 0x02 (doAddr o 0) v s := by
  simp [fioOn, hm, hen, hs]

theorem fioOn_closes (hs : (s.dout o).state = .off) (ht : (s.dout o).thermal = false) :
    fioOn o v s = changeDo o 0x001 (Dout.closeTo .on (supplyOk s o)) s := by
  simp [fioOn, hm, hen, hs, ht]

theorem fioOn_cools (hs : (s.dout o).state = .off) (ht : (s.dout o).thermal = true) :
    fioOn o v s = changeDo o 0x001 (Dout.cool s.clock) s := by
  simp [fioOn, hm, hen, hs, ht]

theorem fioOn_already (hs : (s.dout o).state = .on ∨ (s.dout o).state = .cooling) : fioOn o v s = s := by
  rcases hs with hs | hs <;> simp [fioOn, hm, hen, hs]

end

theorem fioOff_opens {o : Nat} {s : State}
    (h : (s.dout o).state = .on ∨ (s.dout o).state = .safe ∨ (s.dout o).state = .cooling) :
    fioOff o s = changeDo o 0x002 (Dout.openTo s.clock .off) s := by
  rcases h with h | h | h <;> simp [fioOff, h]

/-! ### Group commands (R293) -/

/-- The bits of a mask that a command carries at `j` and up. -/
theorem maskWord_bit (mask : BitVec 8) {j i : Nat} (hi : i < 20) :
    (Word.ofN (mask.toNat * 2 ^ j)).bit i = (decide (j ≤ i) && mask.getLsbD (i - j)) := by
  simp only [Word.bit, Word.ofN, BitVec.getLsbD_ofNat, hi, decide_true, Bool.true_and, Nat.testBit_mul_two_pow,
    BitVec.testBit_toNat]

/-- What a group command does to one of its outputs. -/
def grpStep (g : Nat) (v : Word) (s : State) (k : Nat) : State :=
  if v.bit (4 + k) then fioOff (8 * g + k) s else if v.bit (12 + k) then fioOn (8 * g + k) v s else s

theorem fioGrpCtl_eq (g : Nat) (v : Word) (s : State) : fioGrpCtl g v s = (List.range 8).foldl (grpStep g v) s := rfl

theorem grpStep_other (g : Nat) (v : Word) (s : State) (k : Nat) :
    FioOnly s (grpStep g v s k) ∧ ∀ p, p ≠ 8 * g + k → (grpStep g v s k).dout p = s.dout p := by
  unfold grpStep
  split
  · exact ⟨(fioOff_only ..).1, (fioOff_only ..).2.2⟩
  · split
    · exact fioOn_other ..
    · exact ⟨.refl s, fun _ _ => rfl⟩

/-- Each output of the group meets its own command, and no other output changes. -/
theorem fioGrpCtl_each (g : Nat) (v : Word) (s : State) :
    FioOnly s (fioGrpCtl g v s) ∧ (∀ o, o / 8 ≠ g → (fioGrpCtl g v s).dout o = s.dout o) ∧
      ∀ k < 8, ∃ w, FioOnly s w ∧ w.dout (8 * g + k) = s.dout (8 * g + k) ∧
        (fioGrpCtl g v s).dout (8 * g + k) = (grpStep g v w k).dout (8 * g + k) := by
  obtain ⟨hr, hother, heach⟩ := foldl_objects FioOnly.refl FioOnly.trans State.dout (8 * g + ·)
    (fun s k => (grpStep_other g v s k).1) (fun s k => (grpStep_other g v s k).2) (List.range 8) (eight_nodup g) s
  exact ⟨hr, fun o ho => hother o (mt mem_eight.1 ho), fun k hk => heach k (List.mem_range.2 hk)⟩

/-- An output outside the mask is as it was. -/
theorem fioGrpCtl_outside {g : Nat} {v : Word} {mask : BitVec 8} (s : State)
    (hskip : ∀ k < 8, mask.getLsbD k = false → v.bit (4 + k) = false ∧ v.bit (12 + k) = false) {o : Nat}
    (ho : ∀ k : Fin 8, mask.getLsbD k = true → o ≠ 8 * g + k) : (fioGrpCtl g v s).dout o = s.dout o := by
  obtain ⟨-, hother, heach⟩ := fioGrpCtl_each g v s
  by_cases hg : o / 8 = g
  · have hk : o % 8 < 8 := Nat.mod_lt _ (by decide)
    have he : 8 * g + o % 8 = o := by omega
    have hm : mask.getLsbD (o % 8) = false := by
      cases hb : mask.getLsbD (o % 8) with
      | false => rfl
      | true => exact absurd he.symm (ho ⟨o % 8, hk⟩ hb)
    obtain ⟨h4, h12⟩ := hskip _ hk hm
    obtain ⟨w, -, hw, hfin⟩ := heach _ hk
    rw [he] at hw hfin
    rw [hfin, ← hw, grpStep, h4, h12, if_neg Bool.false_ne_true, if_neg Bool.false_ne_true]
  · exact hother o hg

section
variable (s : State) (ha : fioAccepts s = true)
include ha

theorem exec_doOn (o : Fin 48) : exec (.doOn o) s = .next (fioOn o 0x80000 s) := congrArg _ (if_pos ha)
theorem exec_doOff (o : Fin 48) : exec (.doOff o) s = .next (fioOff o s) := congrArg _ (if_pos ha)
theorem exec_doClear (o : Fin 48) : exec (.doClear o) s = .next (fioClear o s) := congrArg _ (if_pos ha)
theorem exec_grpOn (g : Fin 6) (mask : BitVec 8) :
    exec (.grpOn g mask) s = .next (fioGrpCtl g (Word.ofN (mask.toNat * 2 ^ 12)) s) := congrArg _ (if_pos ha)
theorem exec_grpOff (g : Fin 6) (mask : BitVec 8) :
    exec (.grpOff g mask) s = .next (fioGrpCtl g (Word.ofN (mask.toNat * 2 ^ 4)) s) := congrArg _ (if_pos ha)

end

theorem fioGrpCtl_maintenance {g : Nat} {mask : BitVec 8} {s : State} (hm : s.maintenance = true) :
    fioGrpCtl g (Word.ofN (mask.toNat * 2 ^ 12)) s = s := by
  refine foldl_eq_self (f := grpStep g (Word.ofN (mask.toNat * 2 ^ 12))) fun k hk => ?_
  have hk := List.mem_range.1 hk
  have h4 : (Word.ofN (mask.toNat * 2 ^ 12)).bit (4 + k) = false := by
    rw [maskWord_bit mask (by omega), decide_eq_false (by omega), Bool.false_and]
  rw [grpStep, h4, if_neg Bool.false_ne_true, fioOn_maintenance _ hm, ite_self]

/-- Settles O19: each command by the state of its output; a group command meets each output with its own bit. -/
theorem fieldOutputCommands : Obligations.FieldOutputCommands := by
  unfold Obligations.FieldOutputCommands
  refine fun s ha => ⟨fun o => ?one, fun g mask => ⟨?on, ?off⟩⟩
  case one =>
    intro ok
    simp only [exec_doOn s ha, exec_doOff s ha, exec_doClear s ha]
    refine ⟨fun hm => ?_, fun hm hen => ?_, fun hm hen => ⟨fun hs => ?_, fun hs ht => ?_, fun hs ht => ?_, fun hs => ?_⟩,
      fun hs => ?_, fun hs => ?_, fun hs => ?_⟩
    · rw [fioOn_maintenance _ hm]
    · rw [fioOn_disabled _ hm hen]
    · rw [fioOn_latched _ hm hen hs]
    · rw [fioOn_closes _ hm hen hs ht]; rfl
    · rw [fioOn_cools _ hm hen hs ht]; rfl
    · rw [fioOn_already _ hm hen hs]
    · rw [fioOff_opens hs]; rfl
    · rw [fioClear, if_pos hs]; rfl
    · rw [fioClear, if_neg hs]
  case on =>
    have hbits : ∀ k < 8, (Word.ofN (mask.toNat * 2 ^ 12)).bit (4 + k) = false ∧
        (Word.ofN (mask.toNat * 2 ^ 12)).bit (12 + k) = mask.getLsbD k := fun k hk =>
      ⟨by rw [maskWord_bit mask (by omega), decide_eq_false (by omega), Bool.false_and],
        by rw [maskWord_bit mask (by omega), decide_eq_true (by omega), Bool.true_and, Nat.add_sub_cancel_left]⟩
    obtain ⟨hr, -, heach⟩ := fioGrpCtl_each g (Word.ofN (mask.toNat * 2 ^ 12)) s
    refine .of_next (exec_grpOn s ha g mask) ⟨fioGrpCtl_maintenance, fun hm k hk hen hs ht => ?_, fun o ho =>
      fioGrpCtl_outside s (fun k hk hb => ⟨(hbits k hk).1, (hbits k hk).2.trans hb⟩) ho, hr.1⟩
    obtain ⟨w, hw, hd, hfin⟩ := heach k k.isLt
    have hstep : grpStep g (Word.ofN (mask.toNat * 2 ^ 12)) w k =
        changeDo (8 * g + k) 0x001 (Dout.closeTo .on (supplyOk w (8 * g + k))) w := by
      rw [grpStep, (hbits k k.isLt).1, if_neg Bool.false_ne_true, (hbits k k.isLt).2, if_pos hk,
        fioOn_closes _ (hw.maintenance.trans hm) (by rw [hw.liveReg]; exact hen) (by rw [hd]; exact hs) (by rw [hd]; exact ht)]
    rw [hfin, hstep, changeDo_dout]
    exact ⟨rfl, rfl⟩
  case off =>
    have hbits : ∀ k < 8, (Word.ofN (mask.toNat * 2 ^ 4)).bit (4 + k) = mask.getLsbD k := fun k hk => by
      rw [maskWord_bit mask (by omega), decide_eq_true (by omega), Bool.true_and, Nat.add_sub_cancel_left]
    have hbits12 : ∀ k < 8, (Word.ofN (mask.toNat * 2 ^ 4)).bit (12 + k) = false := fun k hk => by
      rw [maskWord_bit mask (by omega), BitVec.getLsbD_of_ge _ _ (by omega), Bool.and_false]
    obtain ⟨hr, -, heach⟩ := fioGrpCtl_each g (Word.ofN (mask.toNat * 2 ^ 4)) s
    refine .of_next (exec_grpOff s ha g mask) ⟨fun k hk hs => ?_, fun o ho =>
      fioGrpCtl_outside s (fun k hk hb => ⟨(hbits k hk).trans hb, hbits12 k hk⟩) ho, hr.1⟩
    obtain ⟨w, hw, hd, hfin⟩ := heach k k.isLt
    have hstep : grpStep g (Word.ofN (mask.toNat * 2 ^ 4)) w k = changeDo (8 * g + k) 0x002 (Dout.openTo w.clock .off) w := by
      rw [grpStep, hbits k k.isLt, if_pos hk, fioOff_opens (by rw [hd]; exact hs)]
    rw [hfin, hstep, changeDo_dout]
    exact ⟨rfl, rfl⟩

end Sys2Proof.Machine
end

section
/-! SUPPORT. Protection, supply and silence of the field outputs (R279 to R284, R298). -/

namespace Sys2Proof.Machine

open Sys2Proof

/-- A change of one output that is reported, as statements about the output and what else may differ. -/
theorem changeDo_spec (o cause : Nat) (f : Dout → Dout) (s : State) :
    let u := changeDo o cause f s
    u.dout o = { f (s.dout o) with lim := (u.dout o).lim } ∧ (∀ p : Nat, p ≠ o → u.dout p = s.dout p) ∧
      u = { s with douts := u.douts, targets := u.targets, free := u.free } :=
  ⟨changeDo_dout o cause f s, (changeDo_only o cause f s).2.2, (changeDo_only o cause f s).1.1⟩

/-! ### LIMIT and thermal shutdown (R279, R280) -/

theorem exec_limit (o : Fin 48) (s : State) : exec (.limit o) s = .next (fioLimit o s) := rfl
theorem exec_thermal (o : Fin 48) (s : State) : exec (.thermal o) s = .next (fioThermal o s) := rfl
theorem exec_doThermalRelease (o : Fin 48) (s : State) :
    exec (.doThermalRelease o) s = .next (fioThermalRelease o s) := rfl

theorem fioLimit_latches {o : Nat} {s : State} (hs : (s.dout o).state = .on) (hw : (s.dout o).want = true)
    (hok : (s.liveReg (grpAddr (o / 8))).bit 19 = true) :
    fioLimit o s = changeDo o 0x010 (Dout.latch s.clock 1 15) s := by
  simp [fioLimit, hs, hw, supplyOk, hok]

theorem fioLimit_recorded {o : Nat} {s : State} (hs : (s.dout o).state = .off) (hc : (s.dout o).opened = some s.clock) :
    fioLimit o s = changeDo o 0x010 (fun d => { d with fault := d.fault.setBit 15 true }) s := by
  simp [fioLimit, hs, hc]

/-- The output as its thermal shutdown marks it. -/
def Dout.hot (d : Dout) : Dout := { d with thermal := true, fault := d.fault.setBit 14 true }

theorem fioThermal_cools {o : Nat} {s : State}
    (h : (s.dout o).state = .on ∨ (s.dout o).state = .hold ∨ (s.dout o).state = .safe) :
    fioThermal o s = changeDo o 0x011 (Dout.cool s.clock) (s.modDout o Dout.hot) := if_pos h

/-- The output as the release of its thermal shutdown leaves it at first. -/
def Dout.cooled (d : Dout) : Dout := { d with thermal := false }

section
variable {o : Nat} {s : State}

theorem fioThermalRelease_waits (h : (s.dout o).state ≠ .cooling) :
    fioThermalRelease o s = s.modDout o Dout.cooled := by
  have hd : (s.modDout o Dout.cooled).dout o = (s.dout o).cooled := by simp
  exact if_pos (by rw [show (s.modDout o fun d => { d with thermal := false }).dout o = (s.dout o).cooled from hd]; exact h)

variable (h : (s.dout o).state = .cooling)
include h

/-- What the release does with a COOLING output: it latches where TH_AUTO is clear or the entries are too many, and else closes. -/
theorem fioThermalRelease_acts :
    let u := s.modDout o Dout.cooled
    fioThermalRelease o s =
      if (s.liveReg (doAddr o 2)).bit 15 = false then
        changeDo o 0x011 (fun d => { (d.openTo s.clock .latched) with fault := d.fault.put 19 16 2 }) u
      else if 8 ≤ recentCools s (s.dout o) then
        changeDo o 0x012 (fun d => { (d.openTo s.clock .latched) with fault := d.fault.put 19 16 3 }) u
      else changeDo o 0x007 (Dout.closeTo (closeInto (s.tgt fioT)) (supplyOk s o)) u := by
  intro u
  have hd : u.dout o = (s.dout o).cooled := by simp [u]
  have hs : ¬(u.dout o).state ≠ .cooling := by rw [hd]; exact not_not.2 h
  have hr : recentCools u (u.dout o) = recentCools s (s.dout o) := by rw [hd]; rfl
  unfold fioThermalRelease
  refine (if_neg hs).trans (if_congr Iff.rfl rfl (if_congr ?_ rfl rfl))
  rw [← hr]; rfl

end

/-- Settles O20: LIMIT and thermal shutdown by the state of the output. -/
theorem fieldOutputProtection : Obligations.FieldOutputProtection := by
  unfold Obligations.FieldOutputProtection
  refine fun s o => ⟨fun hs hw hok => ?_, fun hs hc => ?_, fun h => ?heats, fun h => ?_, fun h => ?releases⟩
  · rw [exec_limit, fioLimit_latches hs hw hok]
    simp only [changeDo, State.modDout, Dout.latch, Dout.openTo, hw, if_true]
  · rw [exec_limit, fioLimit_recorded hs hc]; rfl
  case heats =>
    refine .of_next ((exec_thermal o s).trans (congrArg _ (fioThermal_cools h))) ?_
    obtain ⟨hd, hother, hframe⟩ := changeDo_spec o 0x011 (Dout.cool s.clock) (s.modDout o Dout.hot)
    refine ⟨hd.trans ?_, fun p hp => (hother p hp).trans ?_, hframe⟩
    · simp only [State.modDout_dout, if_true]; rfl
    · simp [Ne.symm hp]
  · rw [exec_doThermalRelease, fioThermalRelease_waits h]; rfl
  case releases =>
    refine .of_next (exec_doThermalRelease o s) ?_
    have hcool : (s.modDout o Dout.cooled).dout o = (s.dout o).cooled := by simp
    have hrest (u : State) (c : Nat) (f : Dout → Dout) (hu : u = changeDo o c f (s.modDout o Dout.cooled)) :
        u.dout o = { f (s.dout o).cooled with lim := (u.dout o).lim } ∧ (∀ p : Nat, p ≠ o → u.dout p = s.dout p) ∧
          u = { s with douts := u.douts, targets := u.targets, free := u.free } := by
      subst hu
      obtain ⟨hd, hother, hframe⟩ := changeDo_spec o c f (s.modDout o Dout.cooled)
      rw [hcool] at hd
      exact ⟨hd, fun p hp => (hother p hp).trans (by simp [Ne.symm hp]), hframe⟩
    have hacts := fioThermalRelease_acts h
    dsimp only at hacts
    by_cases hauto : (s.liveReg (doAddr o 2)).bit 15 = false
    · rw [if_pos hauto] at hacts
      obtain ⟨hd, hother, hframe⟩ := hrest _ _ _ hacts
      refine ⟨by rw [hd]; rfl, fun _ => by rw [hd]; exact ⟨rfl, rfl, rfl⟩, fun ht => ?_, fun ht => ?_, hother, hframe⟩ <;>
        rw [hauto] at ht <;> cases ht
    · rw [if_neg hauto] at hacts
      by_cases hmany : 8 ≤ recentCools s (s.dout o)
      · rw [if_pos hmany] at hacts
        obtain ⟨hd, hother, hframe⟩ := hrest _ _ _ hacts
        exact ⟨by rw [hd]; rfl, fun hf => absurd hf hauto, fun _ _ => by rw [hd]; exact ⟨rfl, rfl, rfl⟩,
          fun _ hfew => absurd hmany (Nat.not_le.2 hfew), hother, hframe⟩
      · rw [if_neg hmany] at hacts
        obtain ⟨hd, hother, hframe⟩ := hrest _ _ _ hacts
        refine ⟨by rw [hd]; rfl, fun hf => absurd hf hauto, fun _ hm => absurd hm hmany, fun _ _ hsil hto => ?_, hother, hframe⟩
        rw [hd]
        exact ⟨by simp [closeInto, hsil, hto, Dout.closeTo], rfl, rfl⟩

/-! ### The supply of a group (R281, R290) -/

/-- Several changes of outputs that are reported: the refusals stand. -/
def Told (s u : State) : Prop := FioOnly s u ∧ (u.tgt fioT).refusals = (s.tgt fioT).refusals

theorem Told.refl (s : State) : Told s s := ⟨.refl s, rfl⟩
theorem Told.trans {s u v : State} (a : Told s u) (b : Told u v) : Told s v := ⟨a.1.trans b.1, b.2.trans a.2⟩

theorem OutputOnly.told {o : Nat} {s u : State} (h : OutputOnly o s u) : Told s u := ⟨h.1, h.2.1⟩

theorem Told.tgt {s u : State} (h : Told s u) : u.tgt fioT = { s.tgt fioT with entries := (u.tgt fioT).entries } := by
  have h3 := h.1.2.2
  rw [h.2] at h3
  exact h3

/-- The supply entry of a group is the last one, and nothing else differs. -/
theorem reportGrp_spec (g : Nat) (recs : List RecDraft) (s : State) :
    let u := reportGrp g recs s
    let v := s.liveReg (grpAddr g)
    (∃ e : Entry, (u.tgt fioT).entries = (s.tgt fioT).entries ++ [e] ∧ e.kind = 4 ∧ e.obj = g ∧
      e.words = [Word.ofN (g * 2 ^ 17), v] ∧ e.copy = [(grpAddr g, v)] ∧ e.recs = recs) ∧
    Told s u ∧ u.douts = s.douts ∧ u.free = s.free ∧ u.live = s.live := by
  have ht (j : Nat) : (reportGrp g recs s).tgt j = if fioT = j then _ else s.tgt j := State.setTgt_tgt ..
  refine ⟨⟨_, by rw [ht, if_pos rfl], rfl, rfl, rfl, rfl, rfl⟩, ⟨⟨rfl, fun k hk => ?_, ?_⟩, ?_⟩, rfl, rfl, rfl⟩
  · rw [ht, if_neg hk.symm]
  · rw [ht, if_pos rfl]
  · rw [ht, if_pos rfl]

/-- A driver that its missing supply holds open. -/
def missStep (g : Nat) (s : State) (k : Nat) : State :=
  if (s.dout (8 * g + k)).want then changeDo (8 * g + k) 0x017 (fun d => { d with fault := d.fault.setBit 10 true }) s else s

/-- A held driver closes again. -/
def returnStep (g : Nat) (s : State) (k : Nat) : State :=
  if (s.dout (8 * g + k)).want then reportDo (8 * g + k) 0x018 s else s

theorem missStep_only (g : Nat) (s : State) (k : Nat) : OutputOnly (8 * g + k) s (missStep g s k) := by
  unfold missStep
  split
  · exact changeDo_only ..
  · exact .refl _ s

theorem returnStep_only (g : Nat) (s : State) (k : Nat) : OutputOnly (8 * g + k) s (returnStep g s k) := by
  unfold returnStep
  split
  · exact reportDo_only ..
  · exact .refl _ s

theorem missStep_dout (g : Nat) (s : State) (k : Nat) :
    ((s.dout (8 * g + k)).want = true → (missStep g s k).dout (8 * g + k) = { s.dout (8 * g + k) with
      fault := (s.dout (8 * g + k)).fault.setBit 10 true, lim := ((missStep g s k).dout (8 * g + k)).lim }) ∧
    ((s.dout (8 * g + k)).want = false → (missStep g s k).dout (8 * g + k) = s.dout (8 * g + k)) := by
  unfold missStep
  refine ⟨fun hw => ?_, fun hw => ?_⟩
  · rw [if_pos hw]; exact changeDo_dout ..
  · rw [if_neg (by rw [hw]; exact Bool.false_ne_true)]

theorem returnStep_dout (g : Nat) (s : State) (k : Nat) :
    (returnStep g s k).dout (8 * g + k) =
      { s.dout (8 * g + k) with lim := ((returnStep g s k).dout (8 * g + k)).lim } := by
  unfold returnStep
  split
  · exact reportDo_dout ..
  · rfl

/-- The eight outputs of a group, each by its own step. -/
theorem foldl_eight {F : State → Nat → State} {g : Nat} (hF : ∀ s k, OutputOnly (8 * g + k) s (F s k)) (s : State) :
    let u := (List.range 8).foldl F s
    Told s u ∧ (∀ o, o / 8 ≠ g → u.dout o = s.dout o) ∧
      ∀ k < 8, ∃ v, Told s v ∧ v.dout (8 * g + k) = s.dout (8 * g + k) ∧ u.dout (8 * g + k) = (F v k).dout (8 * g + k) := by
  obtain ⟨hr, hother, heach⟩ := foldl_objects Told.refl Told.trans State.dout (8 * g + ·)
    (fun s k => (hF s k).told) (fun s k => (hF s k).2.2) (List.range 8) (eight_nodup g) s
  exact ⟨hr, fun o ho => hother o (mt mem_eight.1 ho), fun k hk => heach k (List.mem_range.2 hk)⟩

theorem exec_vfldMissing (g : Fin 6) (s : State) : exec (.vfldMissing g) s = .next (fioMissing g s) := rfl
theorem exec_vfldLow (g : Fin 6) (s : State) : exec (.vfldLow g) s = .next (fioLow g s) := rfl
theorem exec_vfldOk (g : Fin 6) (low : Bool) (s : State) : exec (.vfldOk g low) s = .next (fioReturn g low s) := rfl

/-- `u` is `s` after a supply event of group `g` that sets its register to `v` and is reported with `code`, with the outputs as in
`t`. -/
def SupplyTold (g code : Nat) (v : Word) (s t u : State) : Prop :=
  u.liveReg (grpAddr g) = v ∧ u.douts = t.douts ∧ u.free = t.free ∧
  ((∃ es : List Entry, ∃ e : Entry, (u.tgt fioT).entries = es ++ [e] ∧ e.kind = 4 ∧ e.obj = g ∧
      e.words = [Word.ofN (g * 2 ^ 17), v] ∧ e.copy = [(grpAddr g, v)] ∧
      e.recs = [⟨0x06, code, Word.ofN (grpAddr g), Word.ofN g, v⟩]) ∧
    (u.tgt fioT) = { s.tgt fioT with entries := (u.tgt fioT).entries } ∧ ∀ k : Nat, k ≠ fioT → u.tgt k = s.tgt k) ∧
  u = { s with live := (s.setLive (grpAddr g) v).live, douts := u.douts, targets := u.targets, free := u.free }

/-- The supply entry of a group after the change of its register and reported changes of outputs. -/
theorem reportGrp_after {g code : Nat} {s t : State} {v : Word} (ht : Told (s.setLive (grpAddr g) v) t) :
    SupplyTold g code v s t (reportGrp g [⟨0x06, code, Word.ofN (grpAddr g), Word.ofN g, t.liveReg (grpAddr g)⟩] t) := by
  have hlive : t.liveReg (grpAddr g) = v := by rw [ht.1.liveReg]; simp
  obtain ⟨⟨e, he, hk, ho, hw, hc, hrec⟩, hu, hdo, hfree, -⟩ :=
    reportGrp_spec g [⟨0x06, code, Word.ofN (grpAddr g), Word.ofN g, t.liveReg (grpAddr g)⟩] t
  rw [hlive] at hrec
  have hall := ht.trans hu
  exact ⟨(hu.1.liveReg _).trans hlive, hdo, hfree, ⟨⟨_, e, he, hk, ho, hlive ▸ hw, hlive ▸ hc, hrec⟩, hall.tgt, hall.1.2.1⟩,
    hall.1.1⟩

theorem dout_congr {s u : State} (h : u.douts = s.douts) (o : Nat) : u.dout o = s.dout o := by
  simp only [State.dout, h]

/-- What the missing supply makes of the outputs of its group. -/
theorem missing_outputs (g : Nat) (s : State) :
    let u := (List.range 8).foldl (missStep g) s
    Told s u ∧ (∀ o, o / 8 ≠ g → u.dout o = s.dout o) ∧ ∀ k < 8,
      ((s.dout (8 * g + k)).want = true → u.dout (8 * g + k) = { s.dout (8 * g + k) with
        fault := (s.dout (8 * g + k)).fault.setBit 10 true, lim := (u.dout (8 * g + k)).lim }) ∧
      ((s.dout (8 * g + k)).want = false → u.dout (8 * g + k) = s.dout (8 * g + k)) := by
  intro u
  obtain ⟨hr, hother, heach⟩ := foldl_eight (missStep_only g) s
  refine ⟨hr, hother, fun k hk => ?_⟩
  obtain ⟨x, -, hx, hfin⟩ := heach k hk
  have hstep := missStep_dout g x k
  rw [← hfin, hx] at hstep
  exact hstep

/-- What the return of the supply makes of the outputs: nothing but a new reading of their current limit. -/
theorem return_outputs (g : Nat) (s : State) :
    let u := (List.range 8).foldl (returnStep g) s
    Told s u ∧ ∀ o, u.dout o = { s.dout o with lim := (u.dout o).lim } := by
  intro u
  obtain ⟨hr, hother, heach⟩ := foldl_eight (returnStep_only g) s
  refine ⟨hr, fun o => ?_⟩
  by_cases ho : o / 8 = g
  · obtain ⟨x, -, hx, hfin⟩ := heach (o % 8) (Nat.mod_lt _ (by decide))
    have hstep := returnStep_dout g x (o % 8)
    rw [← hfin, hx, show 8 * g + o % 8 = o by omega] at hstep
    exact hstep
  · rw [hother o ho]

/-- The register of a group whose supply is missing. -/
def missingWord (w : Word) : Word :=
  ((((w.setBit 19 false).setBit 18 true).setBit 17 true).setBit 16 true).put 15 8 (min (w.field 15 8 + 1) 0xFF)

theorem fioMissing_told (g : Nat) (s : State) :
    let v := missingWord (s.liveReg (grpAddr g))
    SupplyTold g 0x020 v s ((List.range 8).foldl (missStep g) (s.setLive (grpAddr g) v)) (fioMissing g s) :=
  reportGrp_after (missing_outputs g _).1

theorem fioLow_told (g : Nat) (s : State) :
    let v := ((s.liveReg (grpAddr g)).setBit 18 true).setBit 16 true
    SupplyTold g 0x021 v s (s.setLive (grpAddr g) v) (fioLow g s) :=
  reportGrp_after (.refl _)

theorem fioReturn_told (g : Nat) (low : Bool) (s : State) :
    let w := s.liveReg (grpAddr g)
    let v := ((w.setBit 19 true).setBit 18 low).setBit 16 (w.bit 16 || low)
    SupplyTold g 0x022 v s
      (if w.bit 19 = true then s.setLive (grpAddr g) v else (List.range 8).foldl (returnStep g) (s.setLive (grpAddr g) v))
      (fioReturn g low s) := by
  intro w v
  refine reportGrp_after ?_
  split
  · exact .refl _
  · exact (return_outputs g _).1

/-- Settles O21: the events differ in the register that they set and in what they report of the outputs. -/
theorem fieldSupply : Obligations.FieldSupply := by
  unfold Obligations.FieldSupply
  refine fun s g => ⟨.of_next (exec_vfldMissing g s) ?missing, .of_next (exec_vfldLow g s) ?low,
    fun low => .of_next (exec_vfldOk g low s) ?back⟩
  case missing =>
    obtain ⟨hlive, hdo, -, htold, hframe⟩ := fioMissing_told g s
    obtain ⟨-, hother, heach⟩ := missing_outputs g (s.setLive (grpAddr g) (missingWord (s.liveReg (grpAddr g))))
    simp only [State.setLive_reads] at hother heach
    refine ⟨hlive, fun k hk => ?_, fun k hk => ?_, fun o ho => ?_, htold, hframe⟩
    · rw [dout_congr hdo]; exact (heach k k.isLt).1 hk
    · rw [dout_congr hdo]; exact (heach k k.isLt).2 hk
    · rw [dout_congr hdo]; exact hother o ho
  case low =>
    obtain ⟨hlive, hdo, hfree, htold, hframe⟩ := fioLow_told g s
    simp only [State.setLive_fields] at hdo hfree
    rw [hdo, hfree] at hframe
    exact ⟨hlive, htold, hframe⟩
  case back =>
    obtain ⟨hlive, hdo, -, htold, hframe⟩ := fioReturn_told g low s
    refine ⟨hlive, fun o => ?_, htold, fun hw => ?_, hframe⟩
    · rw [dout_congr hdo]
      split
      · simp only [State.setLive_reads]
      · have hlim := (return_outputs g (s.setLive (grpAddr g) (((((s.liveReg (grpAddr g)).setBit 19 true).setBit 18 low).setBit 16
          ((s.liveReg (grpAddr g)).bit 16 || low))))).2 o
        simp only [State.setLive_reads] at hlim
        exact hlim
    · rw [hdo, if_pos hw]; simp only [State.setLive_fields]

end Sys2Proof.Machine
end

section
/-! SUPPORT. The silent field I/O unit, its inputs and its back-feed (R276 to R287). -/

namespace Sys2Proof.Machine

open Sys2Proof

/-! ### Steps over all outputs -/

/-- Every output by its own step, with the unit's flags as they are. -/
theorem foldl_outputs {F : State → Nat → State} (hF : ∀ s o, OutputOnly o s (F s o)) (s : State) :
    let u := (List.range 48).foldl F s
    Told s u ∧ ∀ o : Fin 48, ∃ v, Told s v ∧ v.dout o = s.dout o ∧ u.dout o = (F v o).dout o := by
  obtain ⟨hr, -, heach⟩ := foldl_objects Told.refl Told.trans State.dout id (fun s k => (hF s k).told) (fun s k => (hF s k).2.2)
    (List.range 48) (by simpa using List.nodup_range) s
  exact ⟨hr, fun o => heach o (List.mem_range.2 o.isLt)⟩

/-- An output of a unit that falls silent. -/
def silenceDo (s : State) (o : Nat) : State :=
  match (s.dout o).state with
  | .off | .on => changeDo o 0x004 (fun d => { d with state := .hold }) s
  | _ => s

theorem silenceDo_only (s : State) (o : Nat) : OutputOnly o s (silenceDo s o) := by
  unfold silenceDo
  split
  · exact changeDo_only ..
  · exact changeDo_only ..
  · exact .refl o s

theorem silenceDo_holds {s : State} {o : Nat} (h : (s.dout o).state = .off ∨ (s.dout o).state = .on) :
    silenceDo s o = changeDo o 0x004 (fun d => { d with state := .hold }) s := by
  rcases h with h | h <;> simp [silenceDo, h]

theorem silenceDo_leaves {s : State} {o : Nat} (h0 : (s.dout o).state ≠ .off) (h1 : (s.dout o).state ≠ .on) :
    silenceDo s o = s := by
  unfold silenceDo
  split
  · contradiction
  · contradiction
  · rfl

theorem fioSafe_only (o : Nat) (s : State) : OutputOnly o s (fioSafe o s) := by
  unfold fioSafe
  dsimp only
  split
  case h_4 =>
    split
    · exact changeDo_only ..
    · exact .refl o s
  case h_5 => exact .refl o s
  all_goals
    split
    · exact changeDo_only ..
    · split <;> exact changeDo_only ..

section
variable {o : Nat} {s : State} (h : (s.dout o).state = .off ∨ (s.dout o).state = .on ∨ (s.dout o).state = .hold)
include h

/-- An output that takes its safe state: open, closed or as it is (R284). -/
theorem fioSafe_takes : fioSafe o s =
    let m := safeMode s ((s.liveReg (doAddr o 2)).field 17 16)
    if m = 0 then changeDo o 0x005 (Dout.openTo s.clock .safe) s
    else if m = 1 then changeDo o 0x005 (Dout.closeTo .safe (supplyOk s o)) s
    else changeDo o 0x005 (fun d => { d with state := .safe }) s := by
  rcases h with h | h | h <;> simp [fioSafe, h]

end

theorem fioSafe_leaves {o : Nat} {s : State} (h : (s.dout o).state = .latched ∨ (s.dout o).state = .safe) : fioSafe o s = s := by
  rcases h with h | h <;> simp [fioSafe, h]

theorem fioSilence_eq {s : State} (hw : (s.tgt fioT).watched = true) (hs : (s.tgt fioT).silent = false) :
    fioSilence s = (List.range 48).foldl silenceDo (s.setTgt fioT { s.tgt fioT with
      silent := true, recs := (s.tgt fioT).recs ++ [⟨0x06, 0x030, 0x84000, 0, 0⟩] }) := if_pos (by rw [hw, hs]; rfl)

theorem fioTimeout_eq {s : State} (hw : (s.tgt fioT).watched = true) (hs : (s.tgt fioT).silent = true)
    (ht : (s.tgt fioT).timedOut = false) :
    fioTimeout s = (List.range 48).foldl (fun s o => fioSafe o s) (s.setTgt fioT { s.tgt fioT with
      timedOut := true, recs := (s.tgt fioT).recs ++ [⟨0x06, 0x031, 0x84000, 0, 0⟩] }) := if_pos (by rw [hw, hs, ht]; rfl)

theorem exec_fioUnitSilent (s : State) : exec .fioUnitSilent s = .next (fioSilence s) := rfl
theorem exec_fioTimedOut (s : State) : exec .fioTimedOut s = .next (fioTimeout s) := rfl

/-- Settles O22: each output by its own step. -/
theorem fieldUnitSilence : Obligations.FieldUnitSilence := by
  unfold Obligations.FieldUnitSilence
  refine fun s hw => ⟨fun hs => .of_next ((exec_fioUnitSilent s).trans (congrArg _ (fioSilence_eq hw hs))) ?silent,
    fun hs ht => .of_next ((exec_fioTimedOut s).trans (congrArg _ (fioTimeout_eq hw hs ht))) ?timeout⟩
  case silent =>
    obtain ⟨hr, heach⟩ := foldl_outputs silenceDo_only (s.setTgt fioT { s.tgt fioT with
      silent := true, recs := (s.tgt fioT).recs ++ [⟨0x06, 0x030, 0x84000, 0, 0⟩] })
    refine ⟨by rw [hr.tgt, State.setTgt_tgt, if_pos rfl], fun o ho => ?_, fun o h0 h1 => ?_, hr.1.1⟩
    · obtain ⟨v, -, hd, hfin⟩ := heach o
      simp only [State.setTgt_reads] at hd
      rw [silenceDo_holds (by rw [hd]; exact ho)] at hfin
      rw [hfin, changeDo_dout, hd]
    · obtain ⟨v, -, hd, hfin⟩ := heach o
      rw [hfin, silenceDo_leaves (by rw [hd]; exact h0) (by rw [hd]; exact h1), hd]
      simp only [State.setTgt_reads]
  case timeout =>
    obtain ⟨hr, heach⟩ := foldl_outputs (fun s o => fioSafe_only o s) (s.setTgt fioT { s.tgt fioT with
      timedOut := true, recs := (s.tgt fioT).recs ++ [⟨0x06, 0x031, 0x84000, 0, 0⟩] })
    refine ⟨by rw [hr.tgt, State.setTgt_tgt, if_pos rfl], fun o => ?_, hr.1.1⟩
    obtain ⟨v, hv, hd, hfin⟩ := heach o
    simp only [State.setTgt_reads] at hd
    have hsafe (m : Nat) : safeMode v m = if s.maintenance = true ∧ m = 1 then 0 else m :=
      (hv.1.safeMode m).trans (safeMode_eq s m)
    have hreg : v.liveReg (doAddr o 2) = s.liveReg (doAddr o 2) := hv.1.liveReg _
    refine ⟨fun ho => ?_, fun ho => ?_⟩
    · have htake := fioSafe_takes (s := v) (by rw [hd]; exact ho)
      dsimp only at htake
      rw [hreg, hsafe] at htake
      refine ⟨fun h0 => ?_, fun h1 => ?_, fun h2 => ?_⟩
      · rw [if_pos h0] at htake
        rw [hfin, htake, changeDo_dout]
        exact ⟨rfl, rfl⟩
      · rw [if_neg (by rw [h1]; decide), if_pos h1] at htake
        rw [hfin, htake, changeDo_dout]
        exact ⟨rfl, rfl⟩
      · rw [if_neg (by omega), if_neg (by omega)] at htake
        rw [htake] at hfin
        rw [hfin, changeDo_dout, hd]
    · rw [hfin, fioSafe_leaves (by rw [hd]; exact ho), hd]

/-! ### Inputs and back-feed (R276, R277, R287) -/

theorem diCfgOk_iff (v : Word) : diCfgOk v = true ↔ v.field 12 7 + 2 ≤ v.field 18 13 ∧ v.field 18 13 ≤ 60 ∧ 1 ≤ v.field 6 0 := by
  simp [diCfgOk, and_assoc]

/-- The level of an input that becomes unknown: its counts are gone and its bits are clear. -/
theorem diUnknown_spec (d : Fin 128) (s : State) :
    let u := diUnknown d s
    u.din d = Din.reset ∧ diBit u 0x84020 d = false ∧ diBit u 0x84040 d = false ∧
      (∀ a, 0x84100 ≤ a → u.copyReg a = s.copyReg a) ∧ (∀ a, u.liveReg a = s.liveReg a) ∧ u = { s with copy := u.copy, dins := u.dins } := by
  have hd := d.isLt
  have hbit (w : Word) : (w.setBit (d % 16) false).bit (d % 16) = false := by
    rw [bit_setBit w _ _ _ (by omega), if_pos rfl]
  intro u
  refine ⟨?_, ?_, ?_, fun a ha => ?_, fun _ => rfl, rfl⟩
  · simp [u, diUnknown, setDiBit]
  · simp [u, diUnknown, setDiBit, diBit, hbit]
  · have h1 : 0x84020 + (d : Nat) / 16 ≠ 0x84040 + d / 16 := by omega
    simp [u, diUnknown, setDiBit, diBit, hbit]
  · have h1 : 0x84020 + (d : Nat) / 16 ≠ a := by omega
    have h2 : 0x84040 + (d : Nat) / 16 ≠ a := by omega
    simp [u, diUnknown, setDiBit, h1, h2]

theorem exec_diCfgWrite (d : Fin 128) (v : Word) (s : State) : exec (.diCfgWrite d v) s =
    .next (if diCfgOk v then (fioDiCfg d v s).setCopy (0x84100 + d) v else fioDiCfg d v s) := rfl

theorem exec_fioBackfedEval (o : Fin 48) (above below settled : Bool) (s : State) :
    exec (.fioBackfedEval o above below settled) s = .next (fioBackfed o above below settled s) := rfl

/-- Settles O23: the write by its check, the back-feed by the state of the driver and the counts. -/
theorem fieldInputAndBackfeed : Obligations.FieldInputAndBackfeed := by
  unfold Obligations.FieldInputAndBackfeed
  refine ⟨fun s d v => ⟨fun h1 h2 h3 => ?accepted, fun h => ?refused⟩, fun s o above below settled =>
    ⟨fun h => ?_, fun hw hb hh => ?_, fun hw hb hl => ?_⟩⟩
  case accepted =>
    have hok : diCfgOk v = true := (diCfgOk_iff v).2 ⟨h1, h2, h3⟩
    have hexec : exec (.diCfgWrite d v) s = .next ((diUnknown d (s.setLive (0x84100 + d) v)).setCopy (0x84100 + d) v) := by
      rw [exec_diCfgWrite, if_pos hok, fioDiCfg, if_pos hok]
    obtain ⟨hdin, hb1, hb2, -, hlive, hframe⟩ := diUnknown_spec d (s.setLive (0x84100 + d) v)
    have hd := d.isLt
    refine .of_next hexec ⟨?_, ?_, ?_, ?_, ?_, ?_⟩
    · simp [hlive]
    · simp
    · simpa using hdin
    · have h : 0x84100 + (d : Nat) ≠ 0x84020 + d / 16 := by omega
      simpa [diBit, h] using hb1
    · have h : 0x84100 + (d : Nat) ≠ 0x84040 + d / 16 := by omega
      simpa [diBit, h] using hb2
    · rw [hframe]; rfl
  case refused =>
    have hok : ¬diCfgOk v = true := fun hok => by
      obtain ⟨h1, h2, h3⟩ := (diCfgOk_iff v).1 hok
      omega
    have hexec : exec (.diCfgWrite d v) s = .next (diUnknown d (refuseFio 0xFF d 0x04 (0x84100 + d) v s)) := by
      rw [exec_diCfgWrite, if_neg hok, fioDiCfg, if_neg hok]
    obtain ⟨hdin, -, -, hcopy, -, hframe⟩ := diUnknown_spec d (refuseFio 0xFF d 0x04 (0x84100 + d) v s)
    exact .of_next hexec ⟨hcopy _ (by omega), hdin, hframe⟩
  · rw [exec_fioBackfedEval, fioBackfed]
    refine congrArg _ (if_pos ?_)
    rcases h with ⟨hw, hok⟩ | hs
    · simp [supplyOk, hw, hok]
    · simp [hs]
  · have h2 : 2 ≤ (s.dout o).bfHigh + 1 := by omega
    simp [exec_fioBackfedEval, fioBackfed, hw, hb, hh, changeDo]
  · simp [exec_fioBackfedEval, fioBackfed, hw, hb, hl, changeDo]

end Sys2Proof.Machine
end

section
/-! SUPPORT. Words bit by bit (R7). -/

namespace Sys2Proof

/-- A word is its bits. -/
theorem Word.eq_of_bits {v w : Word} (h : ∀ i < 20, v.bit i = w.bit i) : v = w :=
  BitVec.eq_of_getLsbD_eq fun i hi => h i hi

/-- A field is its bits. -/
theorem Word.field_congr {v w : Word} {hi lo : Nat} (h : ∀ i, lo ≤ i → i ≤ hi → v.bit i = w.bit i) :
    v.field hi lo = w.field hi lo := by
  refine Nat.eq_of_testBit_eq fun i => ?_
  simp only [Word.field, Nat.testBit_mod_two_pow, Nat.testBit_shiftRight, BitVec.testBit_toNat]
  by_cases hi : i < hi + 1 - lo
  · rw [show v.getLsbD (lo + i) = w.getLsbD (lo + i) from h (lo + i) (by omega) (by omega)]
  · simp [hi]

/-- A bit that is set to what it is changes nothing. -/
theorem Word.setBit_self (w : Word) {i : Nat} (hi : i < 20) : w.setBit i (w.bit i) = w :=
  Word.eq_of_bits fun j _ => by
    rw [Machine.bit_setBit _ _ _ _ hi]
    split
    · next h => rw [h]
    · rfl

/-- Two different bits are set in either order. -/
theorem Word.setBit_comm (w : Word) {i j : Nat} (hi : i < 20) (hj : j < 20) (hne : i ≠ j) (b c : Bool) :
    (w.setBit i b).setBit j c = (w.setBit j c).setBit i b :=
  Word.eq_of_bits fun k _ => by
    rw [Machine.bit_setBit _ _ _ _ hj, Machine.bit_setBit _ _ _ _ hi, Machine.bit_setBit _ _ _ _ hi, Machine.bit_setBit _ _ _ _ hj]
    by_cases h : j = k
    · rw [if_pos h, if_pos h, if_neg (by omega)]
    · rw [if_neg h, if_neg h]

end Sys2Proof
end

section
/-! SUPPORT. Commands to the LED strings (R302 to R324). -/

namespace Sys2Proof.Machine

open Sys2Proof

/-! ### Changes that are reported -/

theorem modStr_congr {s : State} {x : Nat} {f g : Str → Str} (h : f (s.str x) = g (s.str x)) : s.modStr x f = s.modStr x g := by
  simp only [State.modStr, h]

/-- A string that is ON, HOLD or SAFE while its feed is missing records FEED (R302). -/
def Str.seesFeed (ok : Bool) (d : Str) : Str :=
  { d with fault := d.fault.setBit 10 (d.fault.bit 10 || (lgtActs d.state && !ok)) }

theorem changeStr_eq {x : Nat} (cause : Nat) {f g : Str → Str} {s : State}
    (h : g (s.str x) = (f (s.str x)).seesFeed (strFeedOk s x)) : changeStr x cause f s = reportStr x cause (s.modStr x g) := by
  exact congrArg (reportStr x cause) (modStr_congr (f := fun d => (f d).seesFeed (strFeedOk s x)) h.symm)

/-- A string in any other state records none. -/
theorem changeStr_quiet {x : Nat} (cause : Nat) {f g : Str → Str} {s : State} (hst : lgtActs (f (s.str x)).state = false)
    (h : g (s.str x) = f (s.str x)) : changeStr x cause f s = reportStr x cause (s.modStr x g) :=
  changeStr_eq cause (by rw [Str.seesFeed, hst, Bool.false_and, Bool.or_false, Word.setBit_self _ (by decide)]; exact h)

/-! ### The commands -/

section
variable (s : State) (ha : lgtAccepts s = true) (x : Fin 8)
include ha

theorem exec_strOn : exec (.strOn x) s = .next (lgtOn x false 0x80000 s) := congrArg _ (if_pos ha)
theorem exec_strOff : exec (.strOff x) s = .next (lgtOff x s) := congrArg _ (if_pos ha)
theorem exec_strClear : exec (.strClear x) s = .next (lgtClear x s) := congrArg _ (if_pos ha)
theorem exec_go : exec (.go x) s = .next (lgtGo x s) := congrArg _ (if_pos ha)
theorem exec_strCfgWrite (v : Word) : exec (.strCfgWrite x v) s = .next (strCfg x v s) := congrArg _ (if_pos ha)

end

section
variable {x : Nat} {s : State} (v : Word)

theorem lgtOn_maintenance (g : Bool) (h : s.maintenance = true) : lgtOn x g v s = s := by simp [lgtOn, h]

variable (hm : s.maintenance = false)
include hm

theorem lgtOn_disabled (hen : (s.liveReg (strAddr x 2)).bit 19 = false) :
    lgtOn x false v s = refuseLgt x 0 0x01 (strAddr x 0) v s := by
  simp [lgtOn, hm, hen]

variable (hen : (s.liveReg (strAddr x 2)).bit 19 = true)
include hen

theorem lgtOn_latched (hs : (s.str x).state = .latched) : lgtOn x false v s = refuseLgt x 0 0x02 (strAddr x 0) v s := by
  simp [lgtOn, hm, hen, hs]

/-- The string that ON takes out of OFF, before it lights or cools. -/
def Str.started (f : Fade) (d : Str) : Str := { d with fade := some f, vals := List.replicate 17 0, safePend := false }

variable (hs : (s.str x).state = .off)
include hs

theorem lgtOn_lights (ht : (s.str x).thermal = false) : lgtOn x false v s = changeStr x 0x001 (fun _ =>
    { (s.str x).started (strFade s x (List.replicate 17 0) false) with state := .on, run := true, stopped := none }) s := by
  simp [lgtOn, hm, hen, hs, ht, Str.started]

theorem lgtOn_cools (ht : (s.str x).thermal = true) : lgtOn x false v s = changeStr x 0x001 (fun _ =>
    ((s.str x).started (strFade s x (List.replicate 17 0) false)).cool s.clock) s := by
  simp [lgtOn, hm, hen, hs, ht, Str.started]

end

theorem lgtOff_darkens {x : Nat} {s : State}
    (h : (s.str x).state = .on ∨ (s.str x).state = .safe ∨ (s.str x).state = .cooling) :
    lgtOff x s = changeStr x 0x002 (Str.dark s.clock .off) s := by
  rcases h with h | h | h <;> simp [lgtOff, h]

theorem lgtGo_fades {x : Nat} {s : State}
    (h : (s.str x).state = .on ∨ (s.str x).state = .safe ∨ (s.str x).state = .cooling) :
    lgtGo x s = s.modStr x fun d => { d with fade := some (strFade s x d.vals true) } := by
  rcases h with h | h | h <;> simp [lgtGo, h]

/-- A PWM period lasts at least one tick. -/
theorem pwmPeriod_pos (cfg : Word) : 1 ≤ pwmPeriod cfg := by
  have hf : cfg.field 8 6 < 8 := Nat.mod_lt _ (by decide)
  have hq : pwmFreq (cfg.field 8 6) ≤ 2000 := by
    generalize cfg.field 8 6 = f at hf
    interval_cases f <;> decide
  unfold pwmPeriod
  exact (Nat.one_le_div_iff (by omega)).2 (by omega)

/-- The configuration register of a string takes every bit above the two lowest. -/
theorem strCfg_regInfo (x : Fin 8) : (regInfo (strAddr x 2)).rw = 0xFFFFC ∧ (regInfo (strAddr x 2)).w1c = 0 := by
  revert x; decide

theorem regWrite_strCfg_count (x : Fin 8) (old v : Word) : (regWrite (strAddr x 2) old v).field 17 13 = v.field 17 13 := by
  obtain ⟨hrw, hw1c⟩ := strCfg_regInfo x
  refine Word.field_congr fun i hlo hhi => ?_
  simp only [regWrite, hrw, hw1c, Word.bit, Word.ofN, BitVec.getLsbD_or, BitVec.getLsbD_and, BitVec.getLsbD_not]
  interval_cases i <;> simp

/-- A configuration that keeps within its ranges is accepted in OFF and LATCHED (R303, R304, R319). -/
theorem strCfgReason_accepts {x : Nat} {v : Word} {s : State} (hst : (s.str x).state = .off ∨ (s.str x).state = .latched)
    (h1 : 1 ≤ v.field 17 13) (h16 : v.field 17 13 ≤ 16) (hb : v.field 12 9 ≤ 8) (hf : v.field 8 6 ≤ 5)
    (hp : 2 ^ (v.field 12 9 + 8) ≤ pwmPeriod v) (h18 : v.bit 18 = true) : strCfgReason x v s = 0 := by
  have hlock : ¬(v.field 19 2 ≠ (s.liveReg (strAddr x 2)).field 19 2 ∧ (s.str x).state ≠ .off ∧ (s.str x).state ≠ .latched) :=
    fun ⟨_, h0, hl⟩ => hst.elim h0 hl
  have hrange : ¬(16 < v.field 17 13 ∨ 8 < v.field 12 9 ∨ 5 < v.field 8 6 ∨ pwmPeriod v < 2 ^ strBits v ∨
      (v.bit 19 = true ∧ v.field 17 13 = 0)) := by
    unfold strBits
    omega
  unfold strCfgReason
  dsimp only
  rw [if_neg hlock, if_neg hrange, if_neg (by rw [h18]; simp)]

/-- Settles O24: each command by the state of its string. The reports differ from the model's in what they say of FEED, which only a
lit string records. -/
theorem stringCommands : Obligations.StringCommands := by
  unfold Obligations.StringCommands
  intro s x ha cfg fed targets curve dark
  simp only [exec_strOn s ha, exec_strOff s ha, exec_strClear s ha, exec_go s ha, exec_strCfgWrite s ha]
  have hstep : strFade s x (List.replicate 17 0) false = ⟨List.replicate 17 0, targets, 0, 0, curve⟩ := rfl
  refine ⟨fun hm => ?_, fun hm hen => ?_, fun hm hen hs => ?_, fun hm hen hs => ⟨fun ht => ?_, fun ht hr => ?_⟩,
    fun hs => ⟨?_, ?_⟩, fun hs => ⟨?_, fun hst => ?_, fun hst => ?_, ?_⟩, fun v => ⟨fun hl h0 h1 => ?_, fun hst h1 h16 hb hf hp h18 => ?_⟩⟩
  · rw [lgtOn_maintenance _ _ hm]
  · rw [lgtOn_disabled _ hm hen]
  · rw [lgtOn_latched _ hm hen hs]
  · rw [lgtOn_lights _ hm hen hs ht]
    exact congrArg _ (changeStr_eq 0x001 rfl)
  · rw [lgtOn_cools _ hm hen hs ht]
    exact congrArg _ (changeStr_quiet 0x001 rfl rfl)
  · rw [lgtOff_darkens hs]
    exact congrArg _ (changeStr_quiet 0x002 rfl rfl)
  · rw [lgtGo_fades hs]
    simp only [strFade, fadeLength, if_true, max_eq_left (pwmPeriod_pos _)]
    rfl
  · rw [lgtClear, hs]
    exact congrArg _ (changeStr_quiet 0x003 rfl rfl)
  · simp only [lgtOff, hs, hst, if_false]
    refine congrArg _ (modStr_congr ?_)
    rw [Str.dark, ← hs]
    rfl
  · simp only [lgtOff, hs, hst, if_true]
    exact congrArg _ (changeStr_quiet 0x002 rfl rfl)
  · simp only [lgtGo, hs]
  · have hr : strCfgReason x v s = 5 := if_pos ⟨hl, h0, h1⟩
    simp only [strCfg, hr]
    rfl
  · have hr : strCfgReason x v s = 0 := strCfgReason_accepts hst h1 h16 hb hf hp h18
    simp only [strCfg, hr, ne_eq, not_true_eq_false, if_false, regWrite_strCfg_count]
    rfl

end Sys2Proof.Machine
end

section
/-! SUPPORT. The PWM periods and the protection of the LED strings (R299 to R311). -/

namespace Sys2Proof.Machine

open Sys2Proof

/-! ### Sets of positions as words -/

/-- The sum of the powers of a set of positions spells the set. -/
theorem testBit_sum_pow (p : Nat → Bool) (n k : Nat) :
    (((List.range n).map fun j => if p j then 2 ^ j else 0).sum).testBit k = (decide (k < n) && p k) ∧
      ((List.range n).map fun j => if p j then 2 ^ j else 0).sum < 2 ^ n := by
  induction n with
  | zero => simp
  | succ n ih =>
    obtain ⟨hbit, hlt⟩ := ih
    simp only [List.range_succ, List.map_append, List.sum_append, List.map_cons, List.map_nil, List.sum_cons, List.sum_nil,
      Nat.add_zero]
    generalize ((List.range n).map fun j => if p j then 2 ^ j else 0).sum = a at hbit hlt ⊢
    by_cases hp : p n = true
    · simp only [hp, if_true]
      refine ⟨?_, by rw [Nat.pow_succ]; omega⟩
      rw [Nat.add_comm]
      rcases Nat.lt_trichotomy k n with hk | rfl | hk
      · rw [Nat.testBit_two_pow_add_gt hk, hbit]; simp [hk, Nat.lt_succ_of_lt hk]
      · rw [Nat.testBit_two_pow_add_eq, hbit]; simp [hp]
      · rw [Nat.testBit_lt_two_pow (Nat.lt_of_lt_of_le (show 2 ^ n + a < 2 ^ (n + 1) by rw [Nat.pow_succ]; omega)
          (Nat.pow_le_pow_right (by decide) hk))]
        simp [show ¬k < n + 1 by omega]
    · simp only [hp, Bool.false_eq_true, if_false, Nat.add_zero]
      refine ⟨?_, by rw [Nat.pow_succ]; omega⟩
      rw [hbit]
      by_cases hk : k = n
      · subst hk; simp [hp]
      · simp [show k < n + 1 ↔ k < n by omega]

/-- The switches that close at the start of an on-time: absent, dark and open positions (R305). -/
theorem bypassPattern_bit (d : Str) {k : Nat} (hk : k < 16) : (bypassPattern d).getLsbD k = true ↔
    d.cfg.field 17 13 ≤ k ∨ d.vals.getD (k + 1) 0 = 0 ∨ d.openLeds.getLsbD k = true := by
  have h := (testBit_sum_pow (fun k => d.cfg.field 17 13 ≤ k || d.vals.getD (k + 1) 0 = 0 || d.openLeds.getLsbD k) 16 k).1
  rw [bypassPattern, BitVec.getLsbD_ofNat, h]
  simp [hk, or_assoc]

/-! ### Fades (R306) -/

theorem values_ended {f : Fade} (m0 m1 : Nat) (h : f.n ≤ f.p) (hl : f.endV.length ≤ f.startV.length) : f.values m0 m1 = f.endV := by
  have hv : (fun q : (Nat × Nat) × Nat => fadeValue f.curve q.1.1 q.1.2 f.p f.n (if q.2 = 0 then m0 else m1)) =
      Prod.snd ∘ Prod.fst := funext fun q => if_pos h
  rw [Fade.values, hv, ← List.map_map, List.zipIdx_map_fst, List.map_snd_zip hl]

theorem values_linear {f : Fade} (m0 m1 : Nat) (h : f.p < f.n) (hc : f.curve = false) {i : Nat} (hs : i < f.startV.length)
    (he : i < f.endV.length) : (f.values m0 m1).getD i 0 =
      ((f.startV.getD i 0 : Int) + Int.tdiv (((f.endV.getD i 0 : Int) - f.startV.getD i 0) * f.p) f.n).toNat := by
  simp [Fade.values, fadeValue, Nat.not_le.2 h, hc, hs, he, List.getD_eq_getElem?_getD]

/-! ### The start of a period (R304) -/

/-- A string whose fade advances by one period. -/
def Str.faded (full : Nat) (d : Str) : Str :=
  match d.fade with
  | some f => { d with
      vals := Fade.values { f with p := f.p + 1 } full 255, fade := if f.n ≤ f.p + 1 then none else some { f with p := f.p + 1 } }
  | none => d

/-- A string in which the on-time begins: `pat` is the pattern of its switches and `ton` its length. -/
def Str.begun (pat : BitVec 16) (ton : Nat) (d : Str) : Str :=
  { d with
    bypass := pat, lit := decide (0 < ton), ton := ton, lastClose := none,
    fault := if decide (0 < ton) then d.fault else d.fault.setBit 9 false }

/-- The string as its settings and its fade are at the start of a period. -/
def periodSettings (s : State) (x : Nat) : Str :=
  Str.faded (2 ^ strBits (s.liveReg (strAddr x 2)) - 1)
    { s.str x with cfg := s.liveReg (strAddr x 2), cur := s.liveReg (strAddr x 3) }

/-- The pattern of its bypass switches (R45, R305). -/
def periodPattern (s : State) (x : Nat) : BitVec 16 :=
  if (s.tgt lgtT).claimed.isSome then bypassPattern (periodSettings s x) else 0

/-- Its on-time (R304). -/
def periodTon (s : State) (x : Nat) : Nat :=
  if strLights s x (periodSettings s x) (periodPattern s x) then
    (periodSettings s x).vals.getD 0 0 * pwmPeriod (s.liveReg (strAddr x 2)) / (2 ^ strBits (s.liveReg (strAddr x 2)) - 1)
  else 0

theorem and_zero_lt_ite (b : Bool) (n : Nat) : (b && decide (0 < if b then n else 0)) = decide (0 < if b then n else 0) := by
  cases b <;> simp

theorem periodStart_eq {x : Nat} {s : State} (h : (s.str x).safePend = false) : ∃ e : Bool,
    periodStart x s =
      let t := s.modStr x fun _ => (periodSettings s x).begun (periodPattern s x) (periodTon s x)
      if e then reportStr x 0x007 t else t := by
  cases hf : (s.str x).fade with
  | none =>
    refine ⟨false, ?_⟩
    simp only [periodStart, periodTon, periodPattern, periodSettings, Str.faded, Str.begun, h, hf, Bool.false_eq_true, if_false,
      and_zero_lt_ite]
  | some f =>
    refine ⟨decide (f.n ≤ f.p + 1), ?_⟩
    simp only [periodStart, periodTon, periodPattern, periodSettings, Str.faded, Str.begun, h, hf, Bool.false_eq_true, if_false,
      and_zero_lt_ite]

theorem pushEntry_frame (t : Nat) (e : Entry) (s : State) : pushEntry t e s = { s with targets := (pushEntry t e s).targets } := rfl

theorem reportStr_frame (x cause : Nat) (s : State) :
    reportStr x cause s = { s with targets := (reportStr x cause s).targets } := rfl

/-- What a change of one string, reported or not, leaves. -/
theorem modStr_reported (x : Nat) (f : Str → Str) (e : Bool) (cause : Nat) (s : State) :
    let t := s.modStr x f
    let u := if e then reportStr x cause t else t
    u.str x = f (s.str x) ∧ (∀ y : Nat, y ≠ x → u.str y = s.str y) ∧ u = { s with strs := u.strs, targets := u.targets } := by
  have hx : (s.modStr x f).str x = f (s.str x) := by simp
  have hy (y : Nat) (h : y ≠ x) : (s.modStr x f).str y = s.str y := by simp [h.symm]
  cases e
  · exact ⟨hx, hy, rfl⟩
  · exact ⟨hx, hy, rfl⟩

section
variable {s : State} {x : Nat}

theorem periodSettings_regs : (periodSettings s x).cfg = s.liveReg (strAddr x 2) ∧
    (periodSettings s x).cur = s.liveReg (strAddr x 3) ∧ (periodSettings s x).openLeds = (s.str x).openLeds ∧
    (periodSettings s x).state = (s.str x).state ∧ (periodSettings s x).run = (s.str x).run := by
  unfold periodSettings Str.faded
  split <;> exact ⟨rfl, rfl, rfl, rfl, rfl⟩

theorem periodSettings_still (h : (s.str x).fade = none) :
    (periodSettings s x).vals = (s.str x).vals ∧ (periodSettings s x).fade = none := by
  simp [periodSettings, Str.faded, h]

theorem periodSettings_fades {f : Fade} (h : (s.str x).fade = some f) :
    (periodSettings s x).vals = Fade.values { f with p := f.p + 1 } (2 ^ strBits (s.liveReg (strAddr x 2)) - 1) 255 ∧
    (periodSettings s x).fade = if f.n ≤ f.p + 1 then none else some { f with p := f.p + 1 } := by
  simp [periodSettings, Str.faded, h]

end

/-! ### Within a period (R305) -/

theorem exec_pwmPeriodStart (x : Fin 8) (s : State) : exec (.pwmPeriodStart x) s = .next (periodStart x s) := rfl
theorem exec_bypassClose (x : Fin 8) (k : Fin 16) (s : State) : exec (.bypassClose x k) s = .next (bypassOne x k s) := rfl
theorem exec_onTimeEnd (x : Fin 8) (regulated under : Bool) (s : State) :
    exec (.onTimeEnd x regulated under) s = .next (onTimeEnd x regulated under s) := rfl

theorem nextDue_of_first {d : Str} {k : Fin 16} (h : ∀ j : Fin 16, d.bypass.getLsbD j = false → j ≠ k →
    bypassDue d k < bypassDue d j ∨ (bypassDue d k = bypassDue d j ∧ k < j)) : nextDue d k = true := by
  refine List.all_eq_true.2 fun j hj => ?_
  have hj := List.mem_range.1 hj
  by_cases hb : d.bypass.getLsbD j = true
  · simp only [hb, Bool.true_or]
  · by_cases hk : j = k
    · simp [hk]
    · have hor : bypassDue d k < bypassDue d j ∨ (bypassDue d k = bypassDue d j ∧ (k : Nat) < j) :=
        h ⟨j, hj⟩ (by simpa using hb) fun e => hk (congrArg Fin.val e)
      simpa [hb, hk] using hor

/-- The next LED that is due is bypassed; the last one ends the on-time. -/
theorem bypassOne_closes {x k : Nat} {s : State} (hl : (s.str x).lit = true) (hb : (s.str x).bypass.getLsbD k = false)
    (hd : nextDue (s.str x) k = true) (ht : bypassTick (s.str x) k < (s.str x).ton) :
    let d := s.str x
    let b := d.bypass ||| BitVec.ofNat 16 (2 ^ k)
    bypassOne x k s = s.modStr x fun _ =>
      { d with
        bypass := b, lastClose := some (bypassTick d k), lit := b ≠ 0xFFFF, ton := if b = 0xFFFF then bypassTick d k else d.ton } := by
  simp only [bypassOne, hl, hb, hd, ht, Bool.not_false, Bool.and_self, decide_true, if_true]
  exact modStr_congr rfl

/-- The first part of O25: a period of a string. -/
theorem stringPeriod (s : State) (x : Fin 8) (hsafe : (s.str x).safePend = false) :
    let cfg := s.liveReg (strAddr x 2)
    let full := 2 ^ (cfg.field 12 9 + 8) - 1
    let fed := if (x : Nat) < 4 then s.sup.vpwrA.ok else s.sup.vpwrB.ok
    let u := periodStart x s
    let d := u.str x
    (d.cfg = cfg ∧ d.cur = s.liveReg (strAddr x 3) ∧ d.lastClose = none) ∧
    ((s.str x).fade = none → d.vals = (s.str x).vals ∧ d.fade = none) ∧
    (∀ f, (s.str x).fade = some f → f.n ≤ f.p + 1 → f.startV.length = 17 → f.endV.length = 17 →
      d.vals = f.endV ∧ d.fade = none) ∧
    (∀ f, (s.str x).fade = some f → f.p + 1 < f.n → f.curve = false → f.startV.length = 17 → f.endV.length = 17 →
      d.fade = some { f with p := f.p + 1 } ∧
      ∀ i : Fin 17, d.vals.getD i 0 =
        ((f.startV.getD i 0 : Int) + Int.tdiv (((f.endV.getD i 0 : Int) - f.startV.getD i 0) * (f.p + 1 : Nat)) f.n).toNat) ∧
    ((s.tgt lgtT).claimed = none → d.bypass = 0) ∧
    ((s.tgt lgtT).claimed ≠ none → ∀ k : Fin 16, d.bypass.getLsbD k = true ↔
      (cfg.field 17 13 ≤ k ∨ d.vals.getD (k + 1) 0 = 0 ∨ (s.str x).openLeds.getLsbD k = true)) ∧
    (d.ton = if (s.str x).run = true ∧ fed = true ∧ d.bypass ≠ 0xFFFF then d.vals.getD 0 0 * pwmPeriod cfg / full else 0) ∧
    (d.lit = decide (0 < d.ton)) ∧ d.state = (s.str x).state ∧ d.run = (s.str x).run ∧
    (∀ y : Nat, y ≠ x → u.str y = s.str y) ∧ u = { s with strs := u.strs, targets := u.targets } := by
  intro cfg full fed u d
  obtain ⟨e, he⟩ := periodStart_eq hsafe
  obtain ⟨hx, hy, hframe⟩ := modStr_reported x (fun _ => (periodSettings s x).begun (periodPattern s x) (periodTon s x)) e 0x007 s
  rw [← he] at hx hy hframe
  obtain ⟨hcfg, hcur, hopen, hst, hrun⟩ := periodSettings_regs (s := s) (x := x)
  have hd : d = (periodSettings s x).begun (periodPattern s x) (periodTon s x) := hx
  have hvals : d.vals = (periodSettings s x).vals := by rw [hd]; rfl
  have hfade : d.fade = (periodSettings s x).fade := by rw [hd]; rfl
  have hby : d.bypass = periodPattern s x := by rw [hd]; rfl
  have hton : d.ton = periodTon s x := by rw [hd]; rfl
  refine ⟨⟨by rw [hd]; exact hcfg, by rw [hd]; exact hcur, by rw [hd]; rfl⟩, fun h => ?_, fun f hf hn hs hl => ?_,
    fun f hf hn hc hs hl => ?_, fun hcl => ?_, fun hcl k => ?_, ?_, by rw [hd]; rfl, by rw [hd]; exact hst,
    by rw [hd]; exact hrun, hy, hframe⟩
  · rw [hvals, hfade]; exact periodSettings_still h
  · obtain ⟨hv, hfd⟩ := periodSettings_fades hf
    rw [hvals, hfade, hv, hfd, if_pos hn, values_ended _ _ hn (by rw [hs, hl])]
    exact ⟨rfl, rfl⟩
  · obtain ⟨hv, hfd⟩ := periodSettings_fades hf
    rw [hvals, hfade, hv, hfd, if_neg (Nat.not_le.2 hn)]
    exact ⟨rfl, fun i => values_linear (f := { f with p := f.p + 1 }) _ _ hn hc (by rw [hs]; exact i.isLt) (by rw [hl]; exact i.isLt)⟩
  · rw [hby, periodPattern, hcl]; rfl
  · rw [hby, periodPattern, if_pos (Option.isSome_iff_ne_none.2 hcl), bypassPattern_bit _ k.isLt, hcfg, hopen, hvals]
  · rw [hton, hby, hvals, periodTon]
    refine if_congr ?_ rfl rfl
    simp only [strLights, hrun, Bool.and_eq_true, decide_eq_true_eq, and_assoc]
    rfl

/-! ### Protection (R309 to R311) -/

theorem exec_short (x : Fin 8) (s : State) : exec (.short x) s = .next (strTrip x 1 0x010 15 s) := rfl
theorem exec_openString (x : Fin 8) (s : State) : exec (.openString x) s = .next (strTrip x 2 0x011 14 s) := rfl
theorem exec_openLed (x : Fin 8) (led : LedMoment) (s : State) : exec (.openLed x led) s = .next (ledOpen x led.k led.tick s) := rfl
theorem exec_shortLed (x : Fin 8) (k : Fin 16) (below : Bool) (s : State) :
    exec (.shortLed x k below) s = .next (ledShort x k below s) := rfl
theorem exec_strThermalSet (x : Fin 8) (s : State) : exec (.strThermalSet x) s = .next (strHot x s) := rfl
theorem exec_strThermalRelease (x : Fin 8) (s : State) : exec (.strThermalRelease x) s = .next (strCooled x s) := rfl

theorem strTrip_latches {x : Nat} {s : State} (cause code bit : Nat) (hs : (s.str x).state = .on) (hr : (s.str x).run = true) :
    strTrip x cause code bit s = reportStr x code (s.modStr x (Str.latch s.clock cause bit)) := by
  rw [strTrip, if_pos (by rw [hs, hr]; rfl)]
  exact changeStr_quiet code rfl rfl

theorem strTrip_recorded {x : Nat} {s : State} (cause code bit : Nat) (hs : (s.str x).state = .off)
    (hc : (s.str x).stopped = some s.clock) :
    strTrip x cause code bit s = reportStr x code (s.modStr x fun d => { d with fault := d.fault.setBit bit true }) := by
  rw [strTrip, if_neg (by rw [hs]; simp [lgtActs]), if_pos ⟨hs, hc⟩]
  exact changeStr_quiet code (by simp only [hs]; rfl) rfl

/-- A change of a string that is reported, as statements about the string and what else may differ. -/
theorem changeStr_spec (x cause : Nat) (f : Str → Str) (s : State) :
    let u := changeStr x cause f s
    u.str x = (f (s.str x)).seesFeed (strFeedOk s x) ∧ (∀ y : Nat, y ≠ x → u.str y = s.str y) ∧
      u = { s with strs := u.strs, targets := u.targets } :=
  modStr_reported x (fun d => (f d).seesFeed (strFeedOk s x)) true cause s

theorem Str.seesFeed_quiet {ok : Bool} {d : Str} (h : lgtActs d.state = false) : d.seesFeed ok = d := by
  simp only [Str.seesFeed, h, Bool.false_and, Bool.or_false, Word.setBit_self _ (show 10 < 20 by decide)]

theorem strHot_cools {x : Nat} {s : State}
    (h : (s.str x).state = .on ∨ (s.str x).state = .hold ∨ (s.str x).state = .safe) :
    strHot x s = changeStr x 0x015 (Str.cool s.clock)
      (s.modStr x fun d => { d with thermal := true, fault := d.fault.setBit 11 true }) := by
  rcases h with h | h | h <;> simp only [strHot, h] <;> rfl

/-- The string as the release of its thermal shutdown leaves it at first. -/
def Str.cooled (d : Str) : Str := { d with thermal := false }

/-- A string in COOLING whose shutdown releases latches after eight entries within 10 s, and else lights again (R309). -/
theorem strCooled_acts {x : Nat} {s : State} (h : (s.str x).state = .cooling) :
    let t := s.modStr x Str.cooled
    strCooled x s =
      if 8 ≤ recentTimes s.clock (s.str x).cools then
        changeStr x 0x016 (fun d => { d with state := .latched, fault := d.fault.put 19 16 4 }) t
      else changeStr x 0x008 (fun d =>
        { d with state := closeInto (s.tgt lgtT), run := true, stopped := none, wasOn := true }) t := by
  intro t
  have hd : t.str x = (s.str x).cooled := by simp [t]
  have hs : ¬(t.str x).state ≠ .cooling := by rw [hd]; exact not_not.2 h
  have hr : recentTimes t.clock (t.str x).cools = recentTimes s.clock (s.str x).cools := by rw [hd]; rfl
  unfold strCooled
  refine (if_neg hs).trans (if_congr ?_ rfl rfl)
  rw [← hr]; rfl

theorem ledOpen_bypasses {x k : Nat} (tick : Nat) {s : State} (ha : absentLed s x k = false) (hc : (s.str x).cfg.bit 2 = true)
    (hs : (s.str x).state = .on) (hr : (s.str x).run = true) :
    let b := (s.str x).bypass ||| BitVec.ofNat 16 (2 ^ k)
    let t := min tick (s.str x).ton
    ledOpen x k tick s = reportLed x k 0x012 (s.modStr x fun d =>
      { d with
        openLeds := d.openLeds ||| BitVec.ofNat 16 (2 ^ k), bypass := b, fault := d.fault.setBit 13 true,
        lastClose := if d.lit then some t else d.lastClose, lit := d.lit && decide (b ≠ 0xFFFF),
        ton := if d.lit = true ∧ b = 0xFFFF then t else d.ton }) := by
  have hacts : (!(lgtActs .on && true)) = false := rfl
  simp only [ledOpen, ha, hc, hs, hr, hacts, Bool.false_eq_true, Bool.true_eq_false, if_false, Bool.and_eq_true, decide_eq_true_eq]

theorem ledOpen_latches {x k : Nat} (tick : Nat) {s : State} (ha : absentLed s x k = false) (hc : (s.str x).cfg.bit 2 = false) :
    ledOpen x k tick s = strTrip x 3 0x012 13 s := by
  simp [ledOpen, ha, hc]

/-- Settles O25: a period by what its start, a closing and its end make of the string; a fault by the state of the string. -/
theorem stringPeriodsAndProtection : Obligations.StringPeriodsAndProtection := by
  unfold Obligations.StringPeriodsAndProtection
  refine ⟨fun s x => ⟨fun hsafe => .of_next (exec_pwmPeriodStart x s) (stringPeriod s x hsafe), fun k => ?close,
    fun regulated under => ?ends⟩, fun s x => ?protection⟩
  case close =>
    intro d due t hl hb ht hfirst
    refine .of_next ((exec_bypassClose x k s).trans (congrArg _ (bypassOne_closes hl hb (nextDue_of_first hfirst) ht))) ?_
    have hx (f : Str → Str) : (s.modStr x f).str x = f (s.str x) := by simp
    refine ⟨by rw [hx], by rw [hx]; rfl, fun h => ?_, fun h => ?_, fun y hy => by simp [hy.symm], rfl⟩
    · rw [hx] at h ⊢
      exact ⟨decide_eq_true h, if_neg h⟩
    · rw [hx] at h ⊢
      exact ⟨decide_eq_false (not_not.2 h), if_pos h⟩
  case ends =>
    exact .of_next (exec_onTimeEnd x regulated under s) (modStr_reported x (fun d => { d with
      lit := false, reg := regulated, fault := d.fault.setBit 9 under }) (under && !(s.str x).fault.bit 9) 0x019 s)
  case protection =>
    intro fed stop latch
    refine ⟨fun hs hr => ⟨?_, ?_, fun k tick ha => ⟨fun hc => ?_, fun hc => ?_⟩⟩, fun hs hc => ⟨?_, ?_⟩, fun h => ?heats,
      fun h => ?cools, fun k ha => ?shorted⟩
    · rw [exec_short, strTrip_latches _ _ _ hs hr]; rfl
    · rw [exec_openString, strTrip_latches _ _ _ hs hr]; rfl
    · rw [exec_openLed, ledOpen_bypasses tick ha hc hs hr]
    · rw [exec_openLed, ledOpen_latches tick ha hc, strTrip_latches _ _ _ hs hr]; rfl
    · rw [exec_short, strTrip_recorded _ _ _ hs hc]
    · rw [exec_openString, strTrip_recorded _ _ _ hs hc]
    case heats =>
      refine .of_next ((exec_strThermalSet x s).trans (congrArg _ (strHot_cools h))) ?_
      obtain ⟨hx, hy, hframe⟩ := changeStr_spec x 0x015 (Str.cool s.clock)
        (s.modStr x fun d => { d with thermal := true, fault := d.fault.setBit 11 true })
      refine ⟨hx.trans ?_, fun y h => (hy y h).trans (by simp [h.symm]), hframe⟩
      rw [Str.seesFeed_quiet rfl, State.modStr_str, if_pos rfl]
      simp only [Str.cool, Str.stop, stop, Word.setBit_comm _ (show 11 < 20 by decide) (show 9 < 20 by decide) (by decide)]
    case cools =>
      refine .of_next (exec_strThermalRelease x s) ?_
      have hacts := strCooled_acts h
      dsimp only at hacts
      by_cases hmany : 8 ≤ recentTimes s.clock (s.str x).cools
      · rw [if_pos hmany] at hacts
        obtain ⟨hx, hy, hframe⟩ := changeStr_spec x 0x016
          (fun d => { d with state := .latched, fault := d.fault.put 19 16 4 }) (s.modStr x Str.cooled)
        rw [← hacts, State.modStr_str, if_pos rfl, Str.seesFeed_quiet rfl] at hx
        rw [← hacts] at hy hframe
        exact ⟨fun _ => hx, fun hfew => absurd hmany (Nat.not_le.2 hfew), fun y h => (hy y h).trans (by simp [h.symm]), hframe⟩
      · rw [if_neg hmany] at hacts
        obtain ⟨hx, hy, hframe⟩ := changeStr_spec x 0x008 (fun d =>
          { d with state := closeInto (s.tgt lgtT), run := true, stopped := none, wasOn := true }) (s.modStr x Str.cooled)
        rw [← hacts, State.modStr_str, if_pos rfl] at hx
        rw [← hacts] at hy hframe
        refine ⟨fun hm => absurd hm hmany, fun _ hsil hto => hx.trans ?_, fun y h => (hy y h).trans (by simp [h.symm]), hframe⟩
        simp only [closeInto, hsil, hto, Bool.false_eq_true, if_false]
        rfl
    case shorted =>
      intro run
      refine ⟨fun hb hr => ?_, fun hb hr => ?_, fun hb hr => ?_⟩
      · have hrun : ¬Sparse.get (fun _ => 0) (s.str x).shortRuns (k : Nat) + 1 < 3 := by simp only [run] at hr; omega
        simp only [exec_shortLed, ledShort, ha, hb, Bool.false_eq_true, Bool.true_eq_false, if_false, hrun, if_true]
      · have hrun : ¬Sparse.get (fun _ => 0) (s.str x).shortRuns (k : Nat) + 1 < 3 := by simp only [run] at hr; omega
        simp only [exec_shortLed, ledShort, ha, hb, Bool.false_eq_true, if_false, hrun]
      · have hrun : Sparse.get (fun _ => 0) (s.str x).shortRuns (k : Nat) + 1 < 3 := by simp only [run] at hr; omega
        simp only [exec_shortLed, ledShort, ha, hb, Bool.false_eq_true, Bool.true_eq_false, if_false, hrun, if_true, run]

end Sys2Proof.Machine
end

section
/-! SUPPORT. The signalling matrices and the silent lighting unit (R308 to R318). -/

namespace Sys2Proof.Machine

open Sys2Proof

/-! ### Changes of a matrix that are reported -/

theorem modMx_congr {s : State} {m : Nat} {f g : Mx → Mx} (h : f (s.mx m) = g (s.mx m)) : s.modMx m f = s.modMx m g := by
  simp only [State.modMx, h]

theorem changeMx_eq {m : Nat} (cause : Nat) {f g : Mx → Mx} {s : State} (h : f (s.mx m) = g (s.mx m)) :
    changeMx m cause f s = reportMx m cause 0 (s.modMx m g) := congrArg (reportMx m cause 0) (modMx_congr h)

/-- A change of a matrix that is reported, as statements about the matrix and what else may differ. -/
theorem changeMx_spec (m cause : Nat) (f : Mx → Mx) (s : State) :
    let u := changeMx m cause f s
    u.mx m = f (s.mx m) ∧ (∀ k : Nat, k ≠ m → u.mx k = s.mx k) ∧ u = { s with mxs := u.mxs, targets := u.targets } := by
  have hm : (s.modMx m f).mx m = f (s.mx m) := by simp
  have hk (k : Nat) (h : k ≠ m) : (s.modMx m f).mx k = s.mx k := by simp [h.symm]
  exact ⟨hm, hk, rfl⟩

/-! ### Commands (R308, R309, R315) -/

section
variable (s : State) (ha : lgtAccepts s = true) (m : Fin 2)
include ha

theorem exec_mxOn : exec (.mxOn m) s = .next (mxOnCmd m false 0x80000 s) := congrArg _ (if_pos ha)
theorem exec_mxOff : exec (.mxOff m) s = .next (mxOffCmd m s) := congrArg _ (if_pos ha)
theorem exec_mxClear : exec (.mxClear m) s = .next (mxClearCmd m s) := congrArg _ (if_pos ha)
theorem exec_mxGo : exec (.mxGo m) s = .next (mxGoCmd m s) := congrArg _ (if_pos ha)
theorem exec_swap : exec (.swap m) s = .next (mxSwapCmd m s) := congrArg _ (if_pos ha)

end

section
variable {m : Nat} {s : State} (v : Word)

theorem mxOnCmd_maintenance (h : s.maintenance = true) : mxOnCmd m false v s = s := by simp [mxOnCmd, h]

variable (hm : s.maintenance = false)
include hm

theorem mxOnCmd_disabled (hen : (s.liveReg (mxAddr m 2)).bit 19 = false) :
    mxOnCmd m false v s = refuseLgt (8 + m) 0 0x01 (mxAddr m 0) v s := by
  simp [mxOnCmd, hm, hen]

variable (hen : (s.liveReg (mxAddr m 2)).bit 19 = true)
include hen

theorem mxOnCmd_latched (hs : (s.mx m).state = .latched) :
    mxOnCmd m false v s = refuseLgt (8 + m) 0 0x02 (mxAddr m 0) v s := by
  simp [mxOnCmd, hm, hen, hs]

theorem mxOnCmd_lights (hs : (s.mx m).state = .off) (ht : (s.mx m).thermal = false) :
    mxOnCmd m false v s = reportMx m 0x001 0 (s.modMx m fun d =>
      { d with state := .on, run := true, stopped := none, master := 0, fade := some (mxFade s m 0 false) }) := by
  simp only [mxOnCmd, hm, hen, hs, ht, Bool.false_eq_true, Bool.true_eq_false, if_false, Bool.false_or, decide_true, if_true]
  exact changeMx_eq 0x001 (by rw [ht])

end

/-- A frame of a matrix lasts at least one tick. -/
theorem mxFrame_pos (cfg : Word) : 1 ≤ 24 * mxSlot cfg := by
  unfold mxSlot; omega

section
variable {m : Nat} {s : State} (h : (s.mx m).state = .on ∨ (s.mx m).state = .safe ∨ (s.mx m).state = .cooling)
include h

theorem mxOffCmd_darkens : mxOffCmd m s = reportMx m 0x002 0 (s.modMx m (Mx.dark s.clock .off)) := by
  rcases h with h | h | h <;> simp only [mxOffCmd, h, changeMx]

theorem mxGoCmd_fades : mxGoCmd m s = s.modMx m fun d => { d with fade := some (mxFade s m d.master true) } := by
  rcases h with h | h | h <;> simp only [mxGoCmd, h]

end

/-! ### Frames and lines (R313 to R315) -/

theorem exec_frameStart (m : Fin 2) (openCols : List (Fin 48)) (s : State) :
    exec (.frameStart m openCols) s = .next (mxFrame m openCols s) := rfl
theorem exec_lineSlot (m : Fin 2) (s : State) : exec (.lineSlot m) s = .next (mxLine m s) := rfl
theorem exec_lineShort (m : Fin 2) (l : Fin 24) (s : State) : exec (.lineShort m l) s = .next (mxLineShort m l s) := rfl
theorem exec_colShort (m : Fin 2) (c : Fin 48) (low : Bool) (s : State) :
    exec (.colShort m c low) s = .next (mxColShort m c low s) := rfl
theorem exec_mxThermal (m : Fin 2) (set : Bool) (s : State) : exec (.mxThermal m set) s = .next (mxHot m set s) := rfl

/-- The words of a table that are not 0, read by their keys. -/
theorem Sparse.get_nonzero (g : Nat → Word) (ks : List Nat) (k : Nat) :
    Sparse.get (fun _ => 0) (ks.filterMap fun p => if g p = 0 then none else some (p, g p)) k = if k ∈ ks then g k else 0 := by
  induction ks with
  | nil => rfl
  | cons j ks ih =>
    by_cases hj : g j = 0
    · rw [List.filterMap_cons_none (by simp only [hj, if_true]), ih]
      by_cases hk : k = j
      · subst hk; simp [hj]
      · simp [hk]
    · rw [List.filterMap_cons_some (b := (j, g j)) (by simp only [hj, if_false]), Sparse.get, ih]
      by_cases hk : k = j
      · subst hk; simp
      · simp [hk, Ne.symm hk]

/-- The back buffer read by pixel is the pixel registers. -/
theorem get_backBuffer (s : State) (m : Nat) {px : Nat} (hp : px < 1152) :
    Sparse.get (fun _ => 0) (backBuffer s m) px = s.liveReg (pixAddr m px) :=
  (Sparse.get_nonzero (fun px => s.liveReg (pixAddr m px)) (List.range 1152) px).trans (if_pos (List.mem_range.2 hp))

@[simp] theorem reportMx_mx (m cause hi : Nat) (s : State) (k : Nat) : (reportMx m cause hi s).mx k = s.mx k := rfl

/-- Between `s` and `u`, only matrix `m` and what the unit keeps for its reports may differ. -/
def MatrixOnly (m : Nat) (s u : State) : Prop :=
  (∀ k : Nat, k ≠ m → u.mx k = s.mx k) ∧ u = { s with mxs := u.mxs, targets := u.targets }

theorem MatrixOnly.trans {m : Nat} {s u v : State} (a : MatrixOnly m s u) (b : MatrixOnly m u v) : MatrixOnly m s v := by
  obtain ⟨a1, a2⟩ := a
  obtain ⟨b1, b2⟩ := b
  exact ⟨fun k hk => (b1 k hk).trans (a1 k hk), by rw [b2, a2]⟩

theorem modMx_only (m : Nat) (f : Mx → Mx) (s : State) : MatrixOnly m s (s.modMx m f) :=
  ⟨fun k hk => by simp [Ne.symm hk], rfl⟩

theorem reportMx_only (m cause hi : Nat) (s : State) : MatrixOnly m s (reportMx m cause hi s) := ⟨fun _ _ => rfl, rfl⟩

/-- A frame start without a fade takes the configuration and makes a pending exchange. -/
theorem mxFrame_still {m : Nat} {s : State} (hf : (s.mx m).fade = none) :
    let d := s.mx m
    let u := mxFrame m [] s
    u.mx m = { d with
      cfg := s.liveReg (mxAddr m 2), nextLine := 0, swapPend := false, front := if d.swapPend then backBuffer s m else d.front } ∧
    MatrixOnly m s u := by
  have hback : backBuffer (s.modMx m fun d => { d with cfg := s.liveReg (mxAddr m 2), nextLine := 0 }) m = backBuffer s m := rfl
  cases hp : (s.mx m).swapPend with
  | false =>
    refine ⟨by simp [mxFrame, hf, hp], ?_⟩
    simp only [mxFrame, hp, State.modMx_mx, if_true, hf, Bool.false_eq_true, if_false, List.foldl_nil]
    exact (modMx_only ..).trans (modMx_only ..)
  | true =>
    refine ⟨by simp [mxFrame, hf, hp, hback], ?_⟩
    simp only [mxFrame, hp, State.modMx_mx, reportMx_mx, if_true, hf, Bool.false_eq_true, if_false, List.foldl_nil]
    exact (((modMx_only ..).trans (modMx_only ..)).trans (reportMx_only ..)).trans (modMx_only ..)

/-! ### Protection (R309, R316) -/

theorem mxLineShort_latches {m : Nat} (l : Nat) {s : State} (hs : (s.mx m).state = .on) (hr : (s.mx m).run = true) :
    mxLineShort m l s = reportMx m 0x020 l (s.modMx m fun d =>
      { d.stop s.clock with state := .latched, fault := (d.fault.setBit 15 true).put 19 16 1 }) :=
  if_pos (by rw [hs, hr]; rfl)

theorem mxHot_cools {m : Nat} {s : State} (hs : (s.mx m).state = .on) :
    mxHot m true s = changeMx m 0x015 (Mx.cool s.clock)
      (s.modMx m fun d => { d with thermal := true, fault := d.fault.setBit 12 true }) := by
  simp only [mxHot, hs, if_true]
  rfl

/-- The matrix as the release of its thermal shutdown leaves it at first. -/
def Mx.cooled (d : Mx) : Mx := { d with thermal := false }

/-- A matrix in COOLING whose shutdown releases latches after eight entries within 10 s, and else lights again (R309). -/
theorem mxHot_releases {m : Nat} {s : State} (h : (s.mx m).state = .cooling) :
    let t := s.modMx m Mx.cooled
    mxHot m false s =
      if 8 ≤ recentTimes s.clock (s.mx m).cools then
        changeMx m 0x016 (fun d => { d with state := .latched, fault := d.fault.put 19 16 4 }) t
      else changeMx m 0x008 (fun d =>
        { d with state := closeInto (s.tgt lgtT), run := true, stopped := none, wasOn := true }) t := by
  simp only [mxHot, h, Bool.false_eq_true, if_false, ne_eq, not_true_eq_false]
  rfl

/-- A frame start, as a command. -/
theorem matrixFrame (s : State) (m : Fin 2) :
    ((s.mx m).fade = none → Completes (.frameStart m []) s fun u =>
       (u.mx m).cfg = s.liveReg (mxAddr m 2) ∧ (u.mx m).nextLine = 0 ∧ (u.mx m).swapPend = false ∧
       ((s.mx m).swapPend = false → (u.mx m).front = (s.mx m).front) ∧
       ((s.mx m).swapPend = true → ∀ px : Fin 1152,
         Sparse.get (fun _ => 0) (u.mx m).front px = s.liveReg (pixAddr m px)) ∧
       (u.mx m).state = (s.mx m).state ∧ (u.mx m).run = (s.mx m).run ∧ (u.mx m).master = (s.mx m).master ∧
       (∀ k : Nat, k ≠ m → u.mx k = s.mx k) ∧ u = { s with mxs := u.mxs, targets := u.targets }) := by
  intro hf
  obtain ⟨hm, hk, hframe⟩ := mxFrame_still hf
  refine .of_next (exec_frameStart m [] s) ⟨by rw [hm], by rw [hm], by rw [hm], fun hp => ?_, fun hp px => ?_, by rw [hm], by rw [hm],
    by rw [hm], hk, hframe⟩
  · simp only [hm, hp, Bool.false_eq_true, if_false]
  · simp only [hm, hp, if_true]; exact get_backBuffer s m px.isLt

theorem matrixLine (s : State) (m : Fin 2) :
    let d := s.mx m
    let u := mxLine m s
    (u.mx m).line = d.nextLine ∧ (u.mx m).nextLine = (d.nextLine + 1) % 24 ∧
    (d.run = true → (s.sup.vpwrA.ok = true ∨ s.sup.vpwrB.ok = true) → ∀ c : Fin 48,
      let pix := Sparse.get (fun _ => (0 : Word)) d.front (48 * d.nextLine + c)
      (u.mx m).sinks.getD c 0 = pixelSink d.cfg d.master pix) ∧
    (d.run = false ∨ (s.sup.vpwrA.ok = false ∧ s.sup.vpwrB.ok = false) → ∀ c : Fin 48, (u.mx m).sinks.getD c 0 = 0) ∧
    (∀ k : Nat, k ≠ m → u.mx k = s.mx k) ∧ u = { s with mxs := u.mxs } := by
  intro d u
  have hm (f : Mx → Mx) : (s.modMx m f).mx m = f (s.mx m) := by simp
  refine ⟨by simp only [u, mxLine, hm]; rfl, by simp only [u, mxLine, hm]; rfl, fun hr hfeed c => ?_, fun h c => ?_,
    fun k hk => by simp [u, mxLine, Ne.symm hk], rfl⟩
  · have hok : (d.run && mxFeedOk s) = true := by simp [hr, mxFeedOk, hfeed]
    simp only [u, mxLine, hm]
    rw [getD_map_range _ _ c.isLt, if_pos hok]
  · have hno : ¬(d.run && mxFeedOk s) = true := by rcases h with h | ⟨ha, hb⟩ <;> simp [mxFeedOk, *]
    simp only [u, mxLine, hm]
    rw [getD_map_range _ _ c.isLt, if_neg hno]

/-- Settles O26: each command by the state of its matrix, each event by what it makes of it. -/
theorem matrices : Obligations.Matrices := by
  unfold Obligations.Matrices
  refine ⟨fun s m ha => ?commands, fun s m => ⟨matrixFrame s m, .of_next (exec_lineSlot m s) (matrixLine s m),
    fun hs hr => ⟨fun l => ?_, ?heats⟩, fun h => ?releases, fun c => ?column⟩⟩
  case commands =>
    intro master curve cfg
    simp only [exec_mxOn s ha, exec_mxOff s ha, exec_mxClear s ha, exec_mxGo s ha, exec_swap s ha]
    refine ⟨fun hm => ?_, fun hm hen => ?_, fun hm hen hs ht => ?_, fun hs => ⟨?_, ?_⟩, fun hs => ⟨fun hm hen => ?_, ?_⟩, fun hs => ?_,
      rfl⟩
    · rw [mxOnCmd_maintenance _ hm]
    · rw [mxOnCmd_disabled _ hm hen]
    · rw [mxOnCmd_lights _ hm hen hs ht]; rfl
    · rw [mxOffCmd_darkens hs]; rfl
    · rw [mxGoCmd_fades hs]; rfl
    · rw [mxOnCmd_latched _ hm hen hs]
    · rw [mxClearCmd, if_pos hs]; rfl
    · rw [mxClearCmd, if_neg hs]
  · rw [exec_lineShort, mxLineShort_latches l hs hr]
    refine congrArg _ (congrArg _ (modMx_congr ?_))
    simp only [Mx.stop, hr, if_true]
  case heats =>
    refine .of_next ((exec_mxThermal m true s).trans (congrArg _ (mxHot_cools hs))) ?_
    obtain ⟨hx, hy, hframe⟩ := changeMx_spec m 0x015 (Mx.cool s.clock)
      (s.modMx m fun d => { d with thermal := true, fault := d.fault.setBit 12 true })
    refine ⟨hx.trans ?_, fun k h => (hy k h).trans (by simp [Ne.symm h]), hframe⟩
    rw [State.modMx_mx, if_pos rfl]
    simp only [Mx.cool, Mx.stop, hr, if_true]
  case releases =>
    refine .of_next (exec_mxThermal m false s) ?_
    have hacts := mxHot_releases h
    dsimp only at hacts
    by_cases hmany : 8 ≤ recentTimes s.clock (s.mx m).cools
    · rw [if_pos hmany] at hacts
      obtain ⟨hx, hy, hframe⟩ := changeMx_spec m 0x016
        (fun d => { d with state := .latched, fault := d.fault.put 19 16 4 }) (s.modMx m Mx.cooled)
      rw [← hacts, State.modMx_mx, if_pos rfl] at hx
      rw [← hacts] at hy hframe
      exact ⟨fun _ => hx, fun hfew => absurd hmany (Nat.not_le.2 hfew), fun k h => (hy k h).trans (by simp [Ne.symm h]), hframe⟩
    · rw [if_neg hmany] at hacts
      obtain ⟨hx, hy, hframe⟩ := changeMx_spec m 0x008 (fun d =>
        { d with state := closeInto (s.tgt lgtT), run := true, stopped := none, wasOn := true }) (s.modMx m Mx.cooled)
      rw [← hacts, State.modMx_mx, if_pos rfl] at hx
      rw [← hacts] at hy hframe
      refine ⟨fun hm => absurd hm hmany, fun _ hsil hto => hx.trans ?_, fun k h => (hy k h).trans (by simp [Ne.symm h]), hframe⟩
      simp only [closeInto, hsil, hto, Bool.false_eq_true, if_false]
      rfl
  case column =>
    intro run
    refine ⟨fun hr => ?_, fun hr => ?_, ?_⟩
    · have h3 : Sparse.get (fun _ => 0) (s.mx m).shortRuns (c : Nat) + 1 = 3 := by simp only [run] at hr; omega
      simp only [exec_colShort, mxColShort, if_true, h3]
    · have h3 : Sparse.get (fun _ => 0) (s.mx m).shortRuns (c : Nat) + 1 ≠ 3 := by simp only [run] at hr; omega
      simp only [exec_colShort, mxColShort, if_true, if_neg h3, run]
    · rfl

end Sys2Proof.Machine
end

section
/-! SUPPORT. The silent lighting unit (R302, R317, R318). -/

namespace Sys2Proof.Machine

open Sys2Proof

/-! ### What the unit's operations leave unchanged -/

/-- Between `s` and `u`, only strings, matrices and the reports of the lighting unit may differ. -/
def LgtOnly (s u : State) : Prop :=
  u = { s with strs := u.strs, mxs := u.mxs, targets := u.targets } ∧
  u.tgt lgtT = { s.tgt lgtT with entries := (u.tgt lgtT).entries }

theorem LgtOnly.refl (s : State) : LgtOnly s s := ⟨rfl, rfl⟩

theorem LgtOnly.trans {s u v : State} (a : LgtOnly s u) (b : LgtOnly u v) : LgtOnly s v := by
  obtain ⟨a1, a2⟩ := a
  obtain ⟨b1, b2⟩ := b
  exact ⟨by rw [b1, a1], by rw [b2, a2]⟩

section
variable {s u : State} (h : LgtOnly s u)
include h

theorem LgtOnly.liveReg (a : Nat) : u.liveReg a = s.liveReg a := by rw [h.1]; rfl
theorem LgtOnly.safeMode (m : Nat) : Machine.safeMode u m = Machine.safeMode s m := by rw [h.1]; rfl
theorem LgtOnly.strFeedOk (x : Nat) : Machine.strFeedOk u x = Machine.strFeedOk s x := by rw [h.1]; rfl

end

/-- Only strings and reports, and no matrix. -/
def StrsOnly (s u : State) : Prop := LgtOnly s u ∧ u.mxs = s.mxs

/-- Only matrices and reports, and no string. -/
def MxsOnly (s u : State) : Prop := LgtOnly s u ∧ u.strs = s.strs

theorem StrsOnly.refl (s : State) : StrsOnly s s := ⟨.refl s, rfl⟩
theorem StrsOnly.trans {s u v : State} (a : StrsOnly s u) (b : StrsOnly u v) : StrsOnly s v := ⟨a.1.trans b.1, b.2.trans a.2⟩
theorem MxsOnly.refl (s : State) : MxsOnly s s := ⟨.refl s, rfl⟩
theorem MxsOnly.trans {s u v : State} (a : MxsOnly s u) (b : MxsOnly u v) : MxsOnly s v := ⟨a.1.trans b.1, b.2.trans a.2⟩

theorem modStr_strsOnly (x : Nat) (f : Str → Str) (s : State) : StrsOnly s (s.modStr x f) := ⟨⟨rfl, rfl⟩, rfl⟩
theorem modMx_mxsOnly (m : Nat) (f : Mx → Mx) (s : State) : MxsOnly s (s.modMx m f) := ⟨⟨rfl, rfl⟩, rfl⟩

theorem reportStr_strsOnly (x cause : Nat) (s : State) : StrsOnly s (reportStr x cause s) := by
  refine ⟨⟨rfl, ?_⟩, rfl⟩
  simp only [reportStr, pushLgt, pushEntry, State.modTgt_eq, State.setTgt_tgt, if_true]

theorem reportMx_mxsOnly (m cause hi : Nat) (s : State) : MxsOnly s (reportMx m cause hi s) := by
  refine ⟨⟨rfl, ?_⟩, rfl⟩
  simp only [reportMx, pushLgt, pushEntry, State.modTgt_eq, State.setTgt_tgt, if_true]

theorem changeStr_strsOnly (x cause : Nat) (f : Str → Str) (s : State) : StrsOnly s (changeStr x cause f s) :=
  (modStr_strsOnly x _ s).trans (reportStr_strsOnly ..)

theorem changeMx_mxsOnly (m cause : Nat) (f : Mx → Mx) (s : State) : MxsOnly s (changeMx m cause f s) :=
  (modMx_mxsOnly m f s).trans (reportMx_mxsOnly ..)

/-! ### Steps over all strings and matrices -/

/-- Every string and every matrix by its own step. -/
theorem foldl_lights {F G : State → Nat → State} (hF : ∀ s x, StrsOnly s (F s x)) (hFx : ∀ s x p, p ≠ x → (F s x).str p = s.str p)
    (hG : ∀ s m, MxsOnly s (G s m)) (hGm : ∀ s m p, p ≠ m → (G s m).mx p = s.mx p) (s : State) :
    let u := (List.range 2).foldl G ((List.range 8).foldl F s)
    LgtOnly s u ∧ (∀ x : Fin 8, ∃ v, LgtOnly s v ∧ v.str x = s.str x ∧ u.str x = (F v x).str x) ∧
      ∀ m : Fin 2, ∃ v, LgtOnly s v ∧ v.mx m = s.mx m ∧ u.mx m = (G v m).mx m := by
  obtain ⟨hf, -, heachF⟩ := foldl_objects StrsOnly.refl StrsOnly.trans State.str id hF hFx (List.range 8)
    (by simpa using List.nodup_range) s
  obtain ⟨hg, -, heachG⟩ := foldl_objects MxsOnly.refl MxsOnly.trans State.mx id hG hGm (List.range 2)
    (by simpa using List.nodup_range) ((List.range 8).foldl F s)
  refine ⟨hf.1.trans hg.1, fun x => ?_, fun m => ?_⟩
  · obtain ⟨v, hv, hx, hfin⟩ := heachF x (List.mem_range.2 x.isLt)
    refine ⟨v, hv.1, hx, Eq.trans ?_ hfin⟩
    simp only [State.str, hg.2]
    rfl
  · obtain ⟨v, hv, hm, hfin⟩ := heachG m (List.mem_range.2 m.isLt)
    refine ⟨v, hf.1.trans hv.1, hm.trans ?_, hfin⟩
    simp only [State.mx, hf.2]
    rfl

/-! ### The unit falls silent (R317) -/

/-- A string of a unit that falls silent. -/
def silenceStr (s : State) (x : Nat) : State :=
  match (s.str x).state with
  | .off | .on => changeStr x 0x004 (fun d => { d with state := .hold, wasOn := d.run }) s
  | _ => s

/-- A matrix of a unit that falls silent. -/
def silenceMx (s : State) (m : Nat) : State :=
  match (s.mx m).state with
  | .off | .on => changeMx m 0x004 (fun d => { d with state := .hold, wasOn := d.run }) s
  | _ => s

theorem silenceStr_holds {s : State} {x : Nat} (h : (s.str x).state = .off ∨ (s.str x).state = .on) :
    silenceStr s x = changeStr x 0x004 (fun d => { d with state := .hold, wasOn := d.run }) s := by
  rcases h with h | h <;> simp only [silenceStr, h]

theorem silenceStr_leaves {s : State} {x : Nat} (h0 : (s.str x).state ≠ .off) (h1 : (s.str x).state ≠ .on) :
    silenceStr s x = s := by
  unfold silenceStr
  split
  · contradiction
  · contradiction
  · rfl

theorem silenceMx_holds {s : State} {m : Nat} (h : (s.mx m).state = .off ∨ (s.mx m).state = .on) :
    silenceMx s m = changeMx m 0x004 (fun d => { d with state := .hold, wasOn := d.run }) s := by
  rcases h with h | h <;> simp only [silenceMx, h]

theorem silenceMx_leaves {s : State} {m : Nat} (h0 : (s.mx m).state ≠ .off) (h1 : (s.mx m).state ≠ .on) : silenceMx s m = s := by
  unfold silenceMx
  split
  · contradiction
  · contradiction
  · rfl

theorem silenceStr_only (s : State) (x : Nat) : StrsOnly s (silenceStr s x) ∧ ∀ p, p ≠ x → (silenceStr s x).str p = s.str p := by
  by_cases h : (s.str x).state = .off ∨ (s.str x).state = .on
  · rw [silenceStr_holds h]
    exact ⟨changeStr_strsOnly .., (changeStr_spec ..).2.1⟩
  · rw [not_or] at h
    rw [silenceStr_leaves h.1 h.2]
    exact ⟨.refl s, fun _ _ => rfl⟩

theorem silenceMx_only (s : State) (m : Nat) : MxsOnly s (silenceMx s m) ∧ ∀ p, p ≠ m → (silenceMx s m).mx p = s.mx p := by
  by_cases h : (s.mx m).state = .off ∨ (s.mx m).state = .on
  · rw [silenceMx_holds h]
    exact ⟨changeMx_mxsOnly .., (changeMx_spec ..).2.1⟩
  · rw [not_or] at h
    rw [silenceMx_leaves h.1 h.2]
    exact ⟨.refl s, fun _ _ => rfl⟩

/-! ### The safe modes (R318) -/

section
variable {x : Nat} {s : State} (h : (s.str x).state = .off ∨ (s.str x).state = .on ∨ (s.str x).state = .hold)
include h

theorem strSafe_takes : strSafe x s =
    let m := safeMode s ((s.liveReg (strAddr x 6)).field 19 18)
    if m = 0 then changeStr x 0x005 (Str.dark s.clock .safe) s
    else if m = 1 then changeStr x 0x005 (fun d => { d with state := .safe, run := true, safePend := true, fade := none }) s
    else changeStr x 0x005 (fun d => { d with state := .safe }) s := by
  rcases h with h | h | h <;> simp only [strSafe, h]

end

theorem strSafe_leaves {x : Nat} {s : State} (h : (s.str x).state = .latched ∨ (s.str x).state = .safe) : strSafe x s = s := by
  rcases h with h | h <;> simp only [strSafe, h]

theorem strSafe_only (s : State) (x : Nat) : StrsOnly s (strSafe x s) ∧ ∀ p, p ≠ x → (strSafe x s).str p = s.str p := by
  have hch (c : Nat) (f : Str → Str) :
      StrsOnly s (changeStr x c f s) ∧ ∀ p, p ≠ x → (changeStr x c f s).str p = s.str p :=
    ⟨changeStr_strsOnly .., (changeStr_spec ..).2.1⟩
  unfold strSafe
  dsimp only
  split
  case h_4 =>
    split
    · exact hch _ _
    · split
      · exact ⟨modStr_strsOnly .., fun p hp => by simp [Ne.symm hp]⟩
      · exact ⟨.refl s, fun _ _ => rfl⟩
  case h_5 => exact ⟨.refl s, fun _ _ => rfl⟩
  all_goals
    split
    · exact hch _ _
    · split <;> exact hch _ _

theorem mxSafe_takes {m : Nat} {s : State} (h : (s.mx m).state = .off ∨ (s.mx m).state = .on ∨ (s.mx m).state = .hold) :
    mxSafe m s = if (s.liveReg (mxAddr m 5)).field 19 18 = 0 then changeMx m 0x005 (Mx.dark s.clock .safe) s
      else changeMx m 0x005 (fun d => { d with state := .safe }) s := by
  rcases h with h | h | h <;> simp only [mxSafe, h]

theorem mxSafe_only (s : State) (m : Nat) : MxsOnly s (mxSafe m s) ∧ ∀ p, p ≠ m → (mxSafe m s).mx p = s.mx p := by
  have hch (c : Nat) (f : Mx → Mx) : MxsOnly s (changeMx m c f s) ∧ ∀ p, p ≠ m → (changeMx m c f s).mx p = s.mx p :=
    ⟨changeMx_mxsOnly .., (changeMx_spec ..).2.1⟩
  unfold mxSafe
  dsimp only
  split
  case h_4 =>
    split
    · exact hch _ _
    · exact ⟨.refl s, fun _ _ => rfl⟩
  case h_5 => exact ⟨.refl s, fun _ _ => rfl⟩
  all_goals split <;> exact hch _ _

/-! ### The statement -/

theorem lgtSilence_eq {s : State} (hw : (s.tgt lgtT).watched = true) (hs : (s.tgt lgtT).silent = false) :
    lgtSilence s = (List.range 2).foldl silenceMx ((List.range 8).foldl silenceStr (s.setTgt lgtT { s.tgt lgtT with
      silent := true, recs := (s.tgt lgtT).recs ++ [⟨0x07, 0x030, 0x86000, 0, 0⟩] })) := if_pos (by rw [hw, hs]; rfl)

theorem lgtTimeout_eq {s : State} (hw : (s.tgt lgtT).watched = true) (hs : (s.tgt lgtT).silent = true)
    (ht : (s.tgt lgtT).timedOut = false) :
    lgtTimeout s = (List.range 2).foldl (fun s m => mxSafe m s) ((List.range 8).foldl (fun s x => strSafe x s)
      (s.setTgt lgtT { s.tgt lgtT with
        timedOut := true, recs := (s.tgt lgtT).recs ++ [⟨0x07, 0x031, 0x86000, 0, 0⟩] })) := if_pos (by rw [hw, hs, ht]; rfl)

theorem exec_lgtUnitSilent (s : State) : exec .lgtUnitSilent s = .next (lgtSilence s) := rfl
theorem exec_lgtTimedOut (s : State) : exec .lgtTimedOut s = .next (lgtTimeout s) := rfl

/-- Settles O27: each string and each matrix by its own step. -/
theorem lightingSilence : Obligations.LightingSilence := by
  unfold Obligations.LightingSilence
  intro s hw fed feedSeen
  have hfeed (x : Nat) : strFeedOk s x = fed x := rfl
  refine ⟨fun hs => .of_next ((exec_lgtUnitSilent s).trans (congrArg _ (lgtSilence_eq hw hs))) ?silent,
    fun hs ht => .of_next ((exec_lgtTimedOut s).trans (congrArg _ (lgtTimeout_eq hw hs ht))) ?timeout⟩
  case silent =>
    obtain ⟨hr, hstr, hmx⟩ := foldl_lights (fun s x => (silenceStr_only s x).1) (fun s x => (silenceStr_only s x).2)
      (fun s m => (silenceMx_only s m).1) (fun s m => (silenceMx_only s m).2) (s.setTgt lgtT { s.tgt lgtT with
        silent := true, recs := (s.tgt lgtT).recs ++ [⟨0x07, 0x030, 0x86000, 0, 0⟩] })
    simp only [State.setTgt_reads] at hstr hmx
    refine ⟨by rw [hr.2, State.setTgt_tgt, if_pos rfl], fun x hx => ?_, fun x h0 h1 => ?_, fun m hm => ?_, fun m h0 h1 => ?_, hr.1⟩
    · obtain ⟨v, hv, hd, hfin⟩ := hstr x
      rw [hfin, silenceStr_holds (by rw [hd]; exact hx), (changeStr_spec ..).1, hd, hv.strFeedOk]
      rfl
    · obtain ⟨v, -, hd, hfin⟩ := hstr x
      rw [hfin, silenceStr_leaves (by rw [hd]; exact h0) (by rw [hd]; exact h1), hd]
    · obtain ⟨v, -, hd, hfin⟩ := hmx m
      rw [hfin, silenceMx_holds (by rw [hd]; exact hm), (changeMx_spec ..).1, hd]
    · obtain ⟨v, -, hd, hfin⟩ := hmx m
      rw [hfin, silenceMx_leaves (by rw [hd]; exact h0) (by rw [hd]; exact h1), hd]
  case timeout =>
    obtain ⟨hr, hstr, hmx⟩ := foldl_lights (fun s x => (strSafe_only s x).1) (fun s x => (strSafe_only s x).2)
      (fun s m => (mxSafe_only s m).1) (fun s m => (mxSafe_only s m).2) (s.setTgt lgtT { s.tgt lgtT with
        timedOut := true, recs := (s.tgt lgtT).recs ++ [⟨0x07, 0x031, 0x86000, 0, 0⟩] })
    simp only [State.setTgt_reads] at hstr hmx
    refine ⟨by rw [hr.2, State.setTgt_tgt, if_pos rfl], fun x => ?_, fun m hm => ?_, hr.1⟩
    · obtain ⟨v, hv, hd, hfin⟩ := hstr x
      have hreg : v.liveReg (strAddr x 6) = s.liveReg (strAddr x 6) := hv.liveReg _
      have hsafe (m : Nat) : safeMode v m = if s.maintenance = true ∧ m = 1 then 0 else m :=
        (hv.safeMode m).trans (safeMode_eq s m)
      intro set mode
      refine ⟨fun ho => ?_, fun ho => ?_⟩
      · have htake := strSafe_takes (s := v) (by rw [hd]; exact ho)
        dsimp only at htake
        rw [hreg, hsafe] at htake
        refine ⟨fun h0 => ?_, fun h1 => ?_, fun h2 => ?_⟩
        · rw [if_pos h0] at htake
          rw [hfin, htake, (changeStr_spec ..).1]
          exact ⟨rfl, rfl, rfl⟩
        · rw [if_neg (show ¬mode = 0 by omega), if_pos h1] at htake
          rw [hfin, htake, (changeStr_spec ..).1, hd, hv.strFeedOk]
          rfl
        · rw [if_neg (show ¬mode = 0 by omega), if_neg (show ¬mode = 1 by omega)] at htake
          rw [hfin, htake, (changeStr_spec ..).1, hd, hv.strFeedOk]
          rfl
      · rw [hfin, strSafe_leaves (by rw [hd]; exact ho), hd]
    · obtain ⟨v, hv, hd, hfin⟩ := hmx m
      have hreg : v.liveReg (mxAddr m 5) = s.liveReg (mxAddr m 5) := hv.liveReg _
      have htake := mxSafe_takes (s := v) (by rw [hd]; exact hm)
      rw [hreg] at htake
      refine ⟨fun h0 => ?_, fun h0 => ?_⟩
      · rw [if_pos h0] at htake
        rw [hfin, htake, (changeMx_spec ..).1]
        exact ⟨rfl, rfl⟩
      · rw [if_neg h0] at htake
        rw [hfin, htake, (changeMx_spec ..).1, hd]

end Sys2Proof.Machine
end

section
/-! SUPPORT. Sessions, tokens and the drive-enable generator (R344, R345, R347, R349 to R352, R355, R359). -/

namespace Sys2Proof.Machine

open Sys2Proof

theorem State.setLive_frame (s : State) (a : Nat) (v : Word) : s.setLive a v = { s with live := (s.setLive a v).live } := rfl

/-! ### Sessions and tokens -/

theorem exec_sessEnd (s : State) : exec .sessEnd s = .next (if accAccepts s then endSession 3 s else s) := rfl
theorem exec_sessionTimeout (s : State) :
    exec .sessionTimeout s = .next (if (s.liveReg 0x88006).field 19 8 = 0 then s else endSession 1 s) := rfl
theorem exec_tokenWrite (i : Fin 16) (v : Word) (s : State) :
    exec (.tokenWrite i v) s = .next (if accAccepts s then tokWrite i v s else s) := rfl
theorem exec_accUnitSilent (s : State) : exec .accUnitSilent s = .next (accSilence s) := rfl

theorem accAccepts_iff (s : State) :
    accAccepts s = true ↔ (s.tgt accT).claimed.isSome = true ∧ (s.tgt accT).silent = false := by
  simp [accAccepts]

theorem endSession_open {s : State} (h : s.acc.sessOpen = true) (cause : Nat) : endSession cause s = reportSess 0x012
    { s with acc := { s.acc with sessOpen := false, sessCause := cause, insideAt := none } } := if_pos h

theorem endSession_closed {s : State} (h : s.acc.sessOpen = false) (cause : Nat) : endSession cause s = s :=
  if_neg (by simp [h])

theorem reportSess_frame (cause : Nat) (s : State) : reportSess cause s = { s with targets := (reportSess cause s).targets } := rfl

/-- What the end of a session leaves: the latch, the registers and all but the unit's own state and reports. -/
theorem endSession_frame (cause : Nat) (s : State) :
    endSession cause s = { s with acc := (endSession cause s).acc, targets := (endSession cause s).targets } ∧
    (endSession cause s).acc.latch = s.acc.latch ∧ (endSession cause s).acc.tokens = s.acc.tokens := by
  cases h : s.acc.sessOpen with
  | false => rw [endSession_closed h]; exact ⟨rfl, rfl, rfl⟩
  | true => rw [endSession_open h, reportSess_frame]; exact ⟨rfl, rfl, rfl⟩

theorem mem_loadLatch (s : State) (j : Nat) (t : Token) (r : Nat) : (j, t, r) ∈ (loadLatch s).acc.latch ↔
    (j, t) ∈ s.acc.tokens ∧ (s.liveReg (tokAddr j)).bit 19 = true ∧ (s.liveReg (tokAddr j)).bit 16 = false ∧
      r = (s.liveReg (tokAddr j)).field 18 17 := by
  simp only [loadLatch, List.mem_filterMap]
  constructor
  · rintro ⟨⟨j', t'⟩, hm, he⟩
    split at he
    · next hb =>
      simp only [Bool.and_eq_true, Bool.not_eq_true'] at hb
      obtain ⟨rfl, rfl, rfl⟩ : j' = j ∧ t' = t ∧ _ = r := by simpa using he
      exact ⟨hm, hb.1, hb.2, rfl⟩
    · cases he
  · rintro ⟨hm, h19, h16, rfl⟩
    exact ⟨(j, t), hm, by simp [h19, h16]⟩

theorem loadLatch_frame (s : State) : loadLatch s = { s with acc := { s.acc with latch := (loadLatch s).acc.latch } } := rfl

/-- A token write that does not revoke the session's token stores the register and loads the latch. -/
theorem tokWrite_quiet {i : Nat} {v : Word} {s : State} (h : v.bit 16 = false ∨ s.acc.sessOpen = false ∨ s.acc.sessToken ≠ i) :
    tokWrite i v s = loadLatch (s.setLive (tokAddr i) (regWrite (tokAddr i) (s.liveReg (tokAddr i)) v)) := by
  refine if_neg fun hc => ?_
  simp only [loadLatch, State.setLive_fields, Bool.and_eq_true, decide_eq_true_eq] at hc
  obtain ⟨⟨hv, ho⟩, ht⟩ := hc
  rcases h with h | h | h
  · rw [hv] at h; cases h
  · rw [ho] at h; cases h
  · exact h ht

/-- One that revokes it ends the session with cause 5 as well. -/
theorem tokWrite_revokes {i : Nat} {v : Word} {s : State} (h : v.bit 16 = true ∧ s.acc.sessOpen = true ∧ s.acc.sessToken = i) :
    tokWrite i v s = endSession 5 (loadLatch (s.setLive (tokAddr i) (regWrite (tokAddr i) (s.liveReg (tokAddr i)) v))) := by
  refine if_pos ?_
  simp only [loadLatch, State.setLive_fields, h, Bool.and_self, decide_true]

/-- Settles O30: each command is its model's step, and a token write stores its register, loads the latch and ends the session
of the token that it revokes. -/
theorem sessionsAndTokens : Obligations.SessionsAndTokens := by
  intro s heard
  have hheard : heard ↔ accAccepts s = true := (accAccepts_iff s).symm
  rw [hheard]
  refine ⟨fun ha ho => ?_, fun ho => ?_, fun ha => ⟨?_, fun i v => ?_⟩, fun ho ht => ?_, fun ht => ?_, fun ha i v => ?_,
    fun hw hs => ?_⟩
  · rw [exec_sessEnd, if_pos ha, endSession_open ho]
  · rw [exec_sessEnd, endSession_closed ho, ite_self]
  · rw [exec_sessEnd, if_neg ha]
  · rw [exec_tokenWrite, if_neg ha]
  · rw [exec_sessionTimeout, if_neg ht, endSession_open ho]
  · rw [exec_sessionTimeout, if_pos ht]
  · refine .of_next ((exec_tokenWrite i v s).trans (congrArg _ (if_pos ha))) ?_
    generalize hw : s.setLive (tokAddr i) (regWrite (tokAddr i) (s.liveReg (tokAddr i)) v) = w
    have hreg (b : Nat) : w.liveReg b =
        if tokAddr i = b then regWrite (tokAddr i) (s.liveReg (tokAddr i)) v else s.liveReg b := by
      rw [← hw, State.setLive_liveReg]
    have hfr : w = { s with live := w.live } := by rw [← hw]; rfl
    have hacc : w.acc = s.acc := by rw [hfr]
    have htg : w.targets = s.targets := by rw [hfr]
    have hfull : ∃ u, tokWrite i v s = u ∧ u.live = w.live ∧ u.acc.latch = (loadLatch w).acc.latch ∧
        u = { w with acc := u.acc, targets := u.targets } := by
      by_cases hq : v.bit 16 = true ∧ s.acc.sessOpen = true ∧ s.acc.sessToken = i
      · obtain ⟨hf, hl, -⟩ := endSession_frame 5 (loadLatch w)
        refine ⟨_, (tokWrite_revokes hq).trans (by rw [hw]), by rw [hf]; rfl, hl, ?_⟩
        rw [hf]; rfl
      · exact ⟨loadLatch w, (tokWrite_quiet (by grind)).trans (by rw [hw]), rfl, rfl, rfl⟩
    obtain ⟨u, hu, hlive, hlatch, hframe⟩ := hfull
    have hur (b : Nat) : u.liveReg b = w.liveReg b := by rw [State.liveReg, hlive]; rfl
    refine ⟨?_, fun b hb => ?_, fun j t r => ?_, fun hrev => ?_, fun hq => ?_, ?_⟩
    · rw [hu, hur, hreg, if_pos rfl]
    · rw [hu, hur, hreg, if_neg (Ne.symm hb)]
    · rw [hu, hlatch, mem_loadLatch, hacc, hur]
    · rw [tokWrite_revokes hrev, hw, endSession_open (by rw [loadLatch_frame]; exact hacc ▸ hrev.2.1), reportSess_frame]
      exact ⟨rfl, rfl, rfl⟩
    · rw [tokWrite_quiet hq, hw, loadLatch_frame]
      exact ⟨by rw [hacc], htg⟩
    · rw [hu, hframe, hfr]
  · rw [exec_accUnitSilent, accSilence, if_pos (by rw [hw, hs]; rfl)]

/-! ### The drive-enable generator -/

section
variable {s : State} (ha : (s.tgt denT).claimed.isSome = true)
include ha

theorem exec_run : exec .run s = .next (denRun 0x80000 s) := congrArg _ (if_pos ha)
theorem exec_stop : exec .stop s = .next (denStopSoon 1 s) := congrArg _ (if_pos ha)
theorem exec_denClear : exec .denClear s = .next (denClearCmd s) := congrArg _ (if_pos ha)
theorem exec_denCfgWrite (v : Word) : exec (.denCfgWrite v) s = .next (denCfg v s) := congrArg _ (if_pos ha)

end

theorem exec_denSilence (s : State) : exec .denSilence s = .next (if (s.tgt denT).watched then denStopSoon 2 s else s) := rfl
theorem exec_denHalfPeriod (p n : Bool) (s : State) : exec (.denHalfPeriod p n) s = .next (denHalf p n s) := rfl

theorem insideRecent_iff (s : State) : insideRecent s = true ↔ ∃ t, s.acc.insideAt = some t ∧ s.clock ≤ t + 200000000 := by
  unfold insideRecent
  split
  · next t h => simp [h]
  · next h => simp [h]

theorem denArmed_iff (s : State) : denArmed s = true ↔ (s.liveReg 0x88023).bit 19 = true ∧ s.den.state ≠ .fault ∧
    s.acc.sessOpen = true ∧ (s.liveReg (tokAddr s.acc.sessToken)).bit 18 = true ∧
    ∃ t, s.acc.insideAt = some t ∧ s.clock ≤ t + 200000000 := by
  simp only [denArmed, Bool.and_eq_true, decide_eq_true_eq, insideRecent_iff, and_assoc]

theorem denStopSoon_waits {s : State} (hr : s.den.state = .running) (hp : s.den.stopPend = none) (cause : Nat) :
    denStopSoon cause s = { s with den := { s.den with stopPend := some cause } } := if_pos ⟨hr, hp⟩

theorem denStopSoon_stopped {s : State} (hr : s.den.state ≠ .running) (cause : Nat) : denStopSoon cause s = s :=
  if_neg fun h => hr h.1

theorem reportDen_frame (cause : Nat) (s : State) : reportDen cause s = { s with targets := (reportDen cause s).targets } := rfl

theorem denStopNow_runs {s : State} (hr : s.den.state = .running) (cause : Nat) (st : DenState) :
    denStopNow cause st s = reportDen (if st = .fault then 0x003 else 0x002) { s with den := { s.den with
      state := st, lastStop := cause, stopPend := none, driveP := false, driveN := false, wave := [] } } := if_pos hr

/-- The generator after a half-period that drives the outputs `p` and `!p` and reads them back. -/
def Den.half (readP readN : Bool) (d : Den) : Den :=
  let p := !d.driveP
  let diff := readP != p || readN != !p
  { d with
    driveP := p, driveN := !p, wave := [(false, false), (p, !p)], fbP := readP, fbN := readN,
    bad := if p then diff else d.bad || diff, badRun := if p then d.bad.toNat else d.badRun }

theorem denHalf_drives {s : State} (hr : s.den.state = .running) (hp : s.den.stopPend = none) (readP readN : Bool) :
    denHalf readP readN s =
      let d := s.den.half readP readN
      let diff := readP != d.driveP || readN != d.driveN
      if (readP && readN) || (diff && decide (1 ≤ d.badRun)) then denStopNow 3 .fault { s with den := d }
      else { s with den := d } := by
  unfold denHalf
  rw [if_neg (not_not_intro hr), hp]
  rfl

theorem denHalf_waiting {s : State} (hr : s.den.state = .running) {c : Nat} (hp : s.den.stopPend = some c) (readP readN : Bool) :
    denHalf readP readN s = denStopNow c .stopped s := by
  unfold denHalf
  rw [if_neg (not_not_intro hr), hp]

/-- A stop at once into FAULT, whatever the outputs were. -/
theorem denStopNow_faults {s : State} {d : Den} (hr : d.state = .running) :
    let u := denStopNow 3 .fault { s with den := d }
    u.den.state = .fault ∧ u.den.lastStop = 3 ∧ u.den.driveP = false ∧ u.den.driveN = false ∧
      u = { s with den := u.den, targets := u.targets } := by
  rw [denStopNow_runs (s := { s with den := d }) hr, reportDen_frame]
  exact ⟨rfl, rfl, rfl, rfl, rfl⟩

theorem denCfgReason_zero {v : Word} {s : State} (h5 : 5 ≤ v.field 13 6) (h250 : v.field 13 6 ≤ 250) (h18 : v.bit 18 = false) :
    denCfgReason v s = 0 := by
  rw [denCfgReason, if_neg (by omega), h18, Bool.false_and, if_neg Bool.false_ne_true]

/-- Settles O31, by the states of the generator and the levels of its outputs. -/
theorem driveEnable : Obligations.DriveEnable := by
  intro s hc
  refine ⟨fun hm => ?maint, fun hm => ?run,
    fun hrun hp => ⟨?stop, fun hw => ?silence, fun v h5 h250 h18 h19 => ?disable⟩, fun v hv => ?badCfg,
    fun hst => ⟨?stopIdle, fun p n => ?halfIdle⟩, fun hrun c hp p n => ?halfStop,
    fun hrun hp => ⟨fun hlow => ?up, fun hhigh => ?down, fun hhigh hb => ?differs, fun hagain => ?fault, ?both⟩,
    fun hf => ?clear, fun hf => ?clearNot⟩
  case maint => rw [exec_run hc, denRun, if_pos hm]
  case run =>
    intro armed
    have hmf : ¬s.maintenance = true := by rw [hm]; exact Bool.false_ne_true
    have harmed : denArmed s = true ↔ armed := denArmed_iff s
    refine ⟨fun harm hidle hst => ?_, fun harm hidle hrun hp => ?_, fun hno => ?_⟩
    · have ha := harmed.mpr harm
      rw [exec_run hc, denRun, if_neg hmf, if_neg (by simp [ha, hidle]), if_neg (by simp [hst])]
    · have ha := harmed.mpr harm
      rw [exec_run hc, denRun, if_neg hmf, if_neg (by simp [ha, hidle]), if_pos ⟨hrun, hp⟩]
    · have ha : denArmed s = false ∨ s.pwr.state = .idle := hno.imp (fun h => Bool.eq_false_iff.mpr (mt harmed.mp h)) id
      rw [exec_run hc, denRun, if_neg hmf, if_pos ha]
  case stop => rw [exec_stop hc, denStopSoon_waits hrun hp]
  case silence => rw [exec_denSilence, if_pos hw, denStopSoon_waits hrun hp]
  case disable =>
    refine .of_next (exec_denCfgWrite hc v) ?_
    rw [denCfg, denCfgReason_zero h5 h250 h18, if_neg (not_not_intro rfl), if_neg (by rw [h19]; exact Bool.false_ne_true),
      denStopSoon_waits (by simpa using hrun) (by simpa using hp)]
    simp
  case badCfg =>
    have hr : denCfgReason v s = 0x04 := if_pos hv
    rw [exec_denCfgWrite hc, denCfg, hr, if_pos (by decide)]
  case stopIdle => rw [exec_stop hc, denStopSoon_stopped hst]
  case halfIdle => rw [exec_denHalfPeriod, denHalf, if_pos hst]
  case halfStop =>
    rw [exec_denHalfPeriod, denHalf_waiting hrun hp, denStopNow_runs hrun]
    rfl
  case up =>
    rw [exec_denHalfPeriod, denHalf_drives hrun hp]
    simp [Den.half, hlow]
  case down =>
    rw [exec_denHalfPeriod, denHalf_drives hrun hp]
    simp [Den.half, hhigh]
  case differs =>
    rw [exec_denHalfPeriod, denHalf_drives hrun hp]
    simp [Den.half, hhigh, hb]
  case fault =>
    refine .of_next (exec_denHalfPeriod false false s) ?_
    have hd : (((false != (s.den.half false false).driveP) || (false != (s.den.half false false).driveN)) &&
        decide (1 ≤ (s.den.half false false).badRun)) = true := by
      cases hdr : s.den.driveP <;> simp [hdr] at hagain <;> simp [Den.half, hdr, hagain]
    rw [denHalf_drives hrun hp]
    dsimp only
    rw [hd, Bool.or_true, if_pos rfl]
    exact denStopNow_faults hrun
  case both =>
    refine .of_next (exec_denHalfPeriod true true s) ?_
    rw [denHalf_drives hrun hp]
    exact denStopNow_faults hrun
  case clear => rw [exec_denClear hc, denClearCmd, if_pos hf]
  case clearNot => rw [exec_denClear hc, denClearCmd, if_neg hf]

end Sys2Proof.Machine
end

section
/-! SUPPORT. Access in park, the handles and the start of a round (R334 to R340). -/

namespace Sys2Proof

/-- A part of a word that is written with what it holds leaves the word. -/
theorem Word.put_field_self (w : Word) (hi lo : Nat) : w.put hi lo (w.field hi lo) = w := by
  refine BitVec.eq_of_toNat_eq ?_
  have hle : w.field hi lo * 2 ^ lo ≤ w.toNat := by
    rw [Word.field, Nat.shiftRight_eq_div_pow]
    exact (Nat.mul_le_mul_right _ (Nat.mod_le _ _)).trans (Nat.div_mul_le_self _ _)
  have hmod : w.field hi lo % 2 ^ (hi + 1 - lo) = w.field hi lo := Nat.mod_mod _ _
  rw [Word.put, hmod, BitVec.toNat_ofNat, Nat.sub_add_cancel hle, Nat.mod_eq_of_lt w.isLt]

/-- The port faults of ACC_STATUS stay when its antenna faults are written. -/
theorem Word.field_put_antennas (w : Word) (v : Nat) : (w.put 17 12 v).field 11 8 = w.field 11 8 := by
  have hw := w.isLt
  simp only [Word.put, Word.field, Nat.shiftRight_eq_div_pow, BitVec.toNat_ofNat]
  omega

end Sys2Proof

namespace Sys2Proof.Machine

open Sys2Proof

/-- Between `s` and `u`, only the reports of the targets may differ. -/
def ReportsOnly (s u : State) : Prop := u = { s with targets := u.targets }

theorem ReportsOnly.refl (s : State) : ReportsOnly s s := rfl

theorem ReportsOnly.trans {s u v : State} (a : ReportsOnly s u) (b : ReportsOnly u v) : ReportsOnly s v := by
  unfold ReportsOnly at *
  rw [b, a]

theorem ReportsOnly.liveReg {s u : State} (h : ReportsOnly s u) (a : Nat) : u.liveReg a = s.liveReg a := by rw [h]; rfl

theorem ReportsOnly.pushEntry (t : Nat) (e : Entry) (s : State) : ReportsOnly s (pushEntry t e s) := rfl

theorem ReportsOnly.foldl {α : Type} {f : State → α → State} (hf : ∀ s a, ReportsOnly s (f s a)) (l : List α) (s : State) :
    ReportsOnly s (l.foldl f s) := by
  induction l generalizing s with
  | nil => exact .refl s
  | cons a l ih => exact (hf s a).trans (ih _)

theorem reportHandle_only (h cause : Nat) (t : Bool) (s : State) : ReportsOnly s (reportHandle h cause t s) := rfl

/-! ### Faults of the antennas and ports -/

/-- ACC_STATUS with the faults `lf` and `uwb` added. -/
def faultStatus (lf uwb : Nat) (st : Word) : Word :=
  (st.put 17 12 (st.field 17 12 ||| lf)).put 11 8 (st.field 11 8 ||| uwb)

theorem faultStatus_antennas (lf : Nat) (st : Word) : faultStatus lf 0 st = st.put 17 12 (st.field 17 12 ||| lf) := by
  rw [faultStatus, Nat.or_zero, ← Word.field_put_antennas st (st.field 17 12 ||| lf), Word.put_field_self]

theorem faultStatus_none (st : Word) : faultStatus 0 0 st = st := by
  rw [faultStatus_antennas, Nat.or_zero, Word.put_field_self]

/-- The faults are marked, and each is reported. -/
theorem radioFaults_marks (lf uwb : Nat) (s : State) :
    ReportsOnly (s.setLive 0x88000 (faultStatus lf uwb (s.liveReg 0x88000))) (radioFaults lf uwb s) := by
  unfold radioFaults
  refine .trans (.foldl (fun u a => ?_) _ _) (.foldl (fun u p => ?_) _ _)
  · split
    · exact .pushEntry ..
    · exact .refl _
  · split
    · exact .pushEntry ..
    · exact .refl _

theorem radioFaults_none (s : State) :
    radioFaults 0 0 s = s.setLive 0x88000 (faultStatus 0 0 (s.liveReg 0x88000)) := by
  unfold radioFaults
  simp only [Nat.zero_testBit, Bool.false_eq_true, if_false, List.foldl_fixed]
  rfl

section
variable (lf uwb : Nat) (s : State)

theorem radioFaults_frame :
    radioFaults lf uwb s = { s with live := (radioFaults lf uwb s).live, targets := (radioFaults lf uwb s).targets } := by
  have h := radioFaults_marks lf uwb s
  unfold ReportsOnly at h
  rw [h]; rfl

theorem radioFaults_liveReg (b : Nat) :
    (radioFaults lf uwb s).liveReg b = if 0x88000 = b then faultStatus lf uwb (s.liveReg 0x88000) else s.liveReg b := by
  rw [(radioFaults_marks lf uwb s).liveReg, State.setLive_liveReg]

theorem radioFaults_quiet : (radioFaults 0 0 s).targets = s.targets ∧ ∀ b, (radioFaults 0 0 s).liveReg b = s.liveReg b := by
  refine ⟨by rw [radioFaults_none]; simp only [State.setLive_fields], fun b => ?_⟩
  rw [radioFaults_liveReg, faultStatus_none]
  split
  · next h => rw [h]
  · rfl

end

/-! ### Polls -/

theorem exec_parkPoll (s : State) : exec .parkPoll s = .next (parkPollStep s) := rfl
theorem exec_pollPeriodDouble (s : State) : exec .pollPeriodDouble s = .next
    (if polls s && decide (s.acc.doublings < (s.liveReg 0x88003).field 9 7) then
      { s with acc := { s.acc with doublings := s.acc.doublings + 1 } } else s) := rfl
theorem exec_presenceFrame (i : Fin 16) (s : State) : exec (.presenceFrame i) s = .next (presence i s) := rfl
theorem exec_handleScan (h : Fin 4) (above : Bool) (s : State) : exec (.handleScan h above) s = .next (scanHandle h above s) := rfl
theorem exec_handleStuck (h : Fin 4) (s : State) : exec (.handleStuck h) s = .next (stuckHandle h s) := rfl

/-- A token that is held off after one more poll; none where it is free again. -/
def polledToken (polled : Bool) (present : List Nat) (lim : Nat) (p : Nat × Nat) : Option (Nat × Nat) :=
  let n := if polled = false then p.2 else if present.contains p.1 then 0 else p.2 + 1
  if lim ≤ n then none else some (p.1, n)

theorem filterMap_polledToken {polled : Bool} {present : List Nat} (lim : Nat) {i n k : Nat}
    (hk : (if polled = false then n else if present.contains i then 0 else n + 1) = k) :
    [(i, n)].filterMap (polledToken polled present lim) = if lim ≤ k then [] else [(i, k)] := by
  by_cases h : lim ≤ k
  · rw [if_pos h, List.filterMap_cons_none (by rw [polledToken, hk]; exact if_pos h), List.filterMap_nil]
  · rw [if_neg h, List.filterMap_cons_some (by rw [polledToken, hk]; exact if_neg h), List.filterMap_nil]

/-- The faulty antennas among those that a poll drives. -/
def pollBad (s : State) : Nat := Config.pollFaults s.free % 64 &&& driveMask s ((s.liveReg 0x88002).field 17 12)

/-- A state with the antennas of its poll driven. -/
def pollDriven (s : State) : State :=
  { s with free := s.free + 1, acc := { s.acc with drive := driveCurrent s ((s.liveReg 0x88004).field 15 12) } }

/-- A state after the end of its poll. -/
def pollEnded (v : State) : State :=
  { v with acc := { v.acc with
    heldOff := v.acc.heldOff.filterMap (polledToken v.acc.polled v.acc.present ((v.liveReg 0x88002).field 11 8)),
    present := [], polled := true } }

theorem parkPollStep_polls {s : State} (h : polls s = true) :
    parkPollStep s = pollEnded (radioFaults (pollBad s) 0 (pollDriven s)) := if_pos h

/-- A round that is not a door check leaves the mark of the door check. -/
theorem startRound_plain {trigger : Nat} (h : trigger ≠ 3) (handle ant : Nat) (s : State) : startRound trigger handle ant s =
    { s with
      free := s.free + 1,
      acc := { s.acc with
        drive := driveCurrent s ((s.liveReg 0x88004).field 19 16),
        round := some ⟨trigger, handle, driveMask s ant, Config.challenge s.free % 2 ^ 64, [], none, none⟩ } } := by
  rw [startRound, decide_eq_false h, Bool.or_false]

theorem presence_starts {s : State} {i : Nat} (h : polls s = true) (ht : (tokenAt s i).isSome = true) (hr : s.acc.round = none)
    (hf : ∀ p ∈ s.acc.heldOff, p.1 ≠ i) :
    presence i s = startRound 1 7 ((s.liveReg 0x88002).field 17 12)
      { s with acc := { s.acc with present := s.acc.present ++ [i] } } := by
  have hno : (s.acc.heldOff.any fun p => decide (p.1 = i)) = false := by
    simpa using fun a b hm => hf (a, b) hm
  rw [presence, if_pos (by rw [h, ht]; rfl), if_neg (by simp only [hno, hr]; exact Bool.false_ne_true)]
  rfl

theorem presence_heldOff {s : State} {i : Nat} (h : polls s = true) (ht : (tokenAt s i).isSome = true)
    (hf : ∃ p ∈ s.acc.heldOff, p.1 = i) :
    presence i s = { s with acc := { s.acc with present := s.acc.present ++ [i] } } := by
  have hyes : (s.acc.heldOff.any fun p => decide (p.1 = i)) = true := by
    obtain ⟨p, hm, hp⟩ := hf
    exact List.any_eq_true.mpr ⟨p, hm, decide_eq_true hp⟩
  rw [presence, if_pos (by rw [h, ht]; rfl), if_pos (by simp only [hyes, Bool.true_or])]

/-! ### Handles -/

/-- A state after a scan of handle `h` with the result `d`. -/
def scanned (h : Nat) (d : Handle) (s : State) : State :=
  { s with acc := { s.acc with handles := Sparse.set (fun _ => Handle.reset) s.acc.handles h d } }

theorem scanned_handle (h : Nat) (d : Handle) (s : State) :
    Sparse.get (fun _ => Handle.reset) (scanned h d s).acc.handles h = d := by
  simp [scanned, Sparse.get_set]

section
variable {s : State} {h : Nat} (hs : handleSearched s h = true)
  (ht : (Sparse.get (fun _ => Handle.reset) s.acc.handles h).touched = false)
include hs ht

theorem scanHandle_first (hr : (Sparse.get (fun _ => Handle.reset) s.acc.handles h).run = 0) :
    scanHandle h true s = scanned h ⟨1, false⟩ s := by
  simp [scanHandle, hs, ht, hr, scanned]

theorem scanHandle_second (hr : (Sparse.get (fun _ => Handle.reset) s.acc.handles h).run = 1) :
    scanHandle h true s = touch h (scanned h ⟨2, true⟩ s) := by
  simp [scanHandle, hs, ht, hr, scanned]

end

/-- What a touch reports before it starts a round or is kept. -/
def touchTold (h : Nat) (s : State) : State := if awake s then reportHandle h 0x020 true s else s

theorem touchTold_only (h : Nat) (s : State) : ReportsOnly s (touchTold h s) := by
  unfold touchTold
  split
  · exact reportHandle_only ..
  · exact .refl s

theorem touch_starts {h : Nat} {s : State} (hr : s.acc.round = none) :
    touch h s = startRound 2 h ((s.liveReg (0x8800C + h)).field 10 5) (touchTold h s) := by
  have ht := touchTold_only h s
  have hr' : (touchTold h s).acc.round = none := by rw [ht]; exact hr
  rw [← ht.liveReg]
  exact if_neg (by rw [← touchTold, hr']; exact Bool.false_ne_true)

theorem touch_keeps {h : Nat} {s : State} (hr : s.acc.round ≠ none) :
    touch h s = { touchTold h s with acc := { s.acc with kept := some (s.acc.kept.getD h) } } := by
  have ht := touchTold_only h s
  have hacc : (touchTold h s).acc = s.acc := by rw [ht]
  rw [← hacc]
  exact if_pos (by rw [← touchTold, hacc]; exact Option.isSome_iff_ne_none.mpr hr)

/-- Settles O28: a poll, a presence frame and a scan are the model's steps, a poll over the state that the antenna faults leave. -/
theorem parkPollsAndHandles : Obligations.ParkPollsAndHandles := by
  intro s driven peak fresh
  refine ⟨fun hp => ⟨?poll, fun hd => ?double, fun i ht hr => ⟨fun hf => ?presence, fun hf => ?heldOff⟩⟩,
    fun h => ?handles⟩
  case poll =>
    refine .of_next (exec_parkPoll s) ?_
    rw [parkPollStep_polls hp]
    intro bad
    have hfr := radioFaults_frame (pollBad s) 0 (pollDriven s)
    have hreg (b : Nat) : (radioFaults (pollBad s) 0 (pollDriven s)).liveReg b =
        if 0x88000 = b then faultStatus bad 0 (s.liveReg 0x88000) else s.liveReg b := radioFaults_liveReg ..
    have hquiet (hb : bad = 0) : (radioFaults (pollBad s) 0 (pollDriven s)).targets = s.targets := by
      rw [show pollBad s = 0 from hb]
      exact (radioFaults_quiet _).1
    generalize radioFaults (pollBad s) 0 (pollDriven s) = v at hfr hreg hquiet
    have hacc : v.acc = { s.acc with drive := driveCurrent s ((s.liveReg 0x88004).field 15 12) } := by rw [hfr]; rfl
    have hlim : v.liveReg 0x88002 = s.liveReg 0x88002 := by rw [hreg, if_neg (by decide)]
    have hheld : (pollEnded v).acc.heldOff = s.acc.heldOff.filterMap
        (polledToken s.acc.polled s.acc.present ((s.liveReg 0x88002).field 11 8)) := by
      rw [pollEnded, hlim, hacc]
    refine ⟨rfl, congrArg Access.drive hacc, ?_, fun b hb => ?_, hquiet, fun i n hh hpo => ?_, fun i n hh hn hpo => ?_, ?_⟩
    · exact (hreg _).trans (by rw [if_pos rfl, faultStatus_antennas])
    · exact (hreg b).trans (if_neg (Ne.symm hb))
    · rw [hheld, hh, filterMap_polledToken _ rfl, hpo]
      by_cases hm : i ∈ s.acc.present
      · simp [hm]
      · simp [hm]
    · rw [hheld, hh, filterMap_polledToken _ rfl, hpo]
      simp [Nat.not_le.mpr hn]
    · rw [pollEnded, hacc, hfr]
      rfl
  case double => rw [exec_pollPeriodDouble, if_pos (by rw [hp, decide_eq_true hd]; rfl)]
  case presence =>
    rw [exec_presenceFrame, presence_starts hp ht hr hf, startRound_plain (by decide)]
    rfl
  case heldOff => rw [exec_presenceFrame, presence_heldOff hp ht hf]
  case handles =>
    intro d held
    refine ⟨fun hs ht => ⟨fun h0 => .of_next (exec_handleScan h true s) ?_, fun h1 hr => .of_next (exec_handleScan h true s) ?_,
      fun h1 hr => .of_next (exec_handleScan h true s) ?_⟩, fun ht => ?_⟩
    · rw [scanHandle_first hs ht h0]
      exact ⟨scanned_handle .., rfl⟩
    · have htold := touchTold_only h (scanned h ⟨2, true⟩ s)
      have hheld := scanned_handle h ⟨2, true⟩ s
      rw [scanHandle_second hs ht h1, touch_starts (s := scanned h ⟨2, true⟩ s) hr, startRound_plain (by decide), htold]
      exact ⟨hheld, rfl, rfl, rfl⟩
    · have htold := touchTold_only h (scanned h ⟨2, true⟩ s)
      have hheld := scanned_handle h ⟨2, true⟩ s
      rw [scanHandle_second hs ht h1, touch_keeps (s := scanned h ⟨2, true⟩ s) hr, htold]
      exact ⟨hheld, rfl, rfl⟩
    · rw [exec_handleStuck, stuckHandle, if_pos ht]

end Sys2Proof.Machine
end

section
/-! SUPPORT. Access rounds (R340 to R343, R346, R350, R355). -/

namespace Sys2Proof.Machine

open Sys2Proof

/-! ### The command of a round -/

/-- The word of a commanded round: ROUND with the antennas, and no end of a session. -/
theorem roundWord (ant : BitVec 6) :
    let v := Word.ofN (2 ^ 19 + ant.toNat * 2 ^ 12)
    v.bit 19 = true ∧ v.bit 18 = false ∧ v.field 17 12 = ant.toNat := by
  revert ant
  decide

theorem exec_round {s : State} (ha : accAccepts s = true) (hw : awake s = true) (ant : BitVec 6) :
    exec (.round ant) s = .next (accApply 0x88001 (Word.ofN (2 ^ 19 + ant.toNat * 2 ^ 12)) s) :=
  congrArg _ (if_pos (by rw [ha, hw]; rfl))

theorem accApply_round (ant : BitVec 6) (s : State) :
    let v := Word.ofN (2 ^ 19 + ant.toNat * 2 ^ 12)
    accApply 0x88001 v s = commandRound ant.toNat v (s.setLive 0x88001 (regWrite 0x88001 (s.liveReg 0x88001) v)) := by
  obtain ⟨h19, h18, hf⟩ := roundWord ant
  intro v
  have h18' : (Word.ofN (2 ^ 19 + ant.toNat * 2 ^ 12)).bit 18 ≠ true := by rw [h18]; exact Bool.false_ne_true
  rw [accApply, if_neg (by decide), if_pos rfl, if_neg h18', if_pos h19, hf]

/-! ### Replies -/

theorem exec_tokenReply (i : Fin 16) (r : Reply) (s : State) : exec (.tokenReply i r) s = .next (takeReply i r s) := rfl
theorem exec_retryTelegram (s : State) : exec .retryTelegram s = .next (sendRetry s) := rfl
theorem exec_roundEnd (s : State) : exec (.roundEnd 0 0) s = .next (finishRound 0 0 s) := rfl

/-- A second reply in slot `i` in the same part of the round. -/
def replyAgain (rd : Round) (i : Nat) : Bool := rd.answers.any fun b => decide (b.idx = i) && b.retry == rd.retry.isSome

theorem replyAgain_iff (rd : Round) (i : Nat) :
    replyAgain rd i = true ↔ ∃ b ∈ rd.answers, b.idx = i ∧ b.retry = rd.retry.isSome := by
  simp [replyAgain, List.any_eq_true]

/-- The state with the answer `a` of slot `i` in place of an earlier one. -/
def answered (rd : Round) (i : Nat) (a : Answer) (s : State) : State :=
  { s with
    free := s.free + 1,
    acc := { s.acc with round := some { rd with answers := rd.answers.filter (fun b => b.idx ≠ i) ++ [a] } } }

theorem takeReply_named {s : State} {rd : Round} {i : Nat} (hr : s.acc.round = some rd) (hn : ∀ m, rd.retry = some m → m.testBit i = true)
    (r : Reply) : takeReply i r s = answered rd i (judgeReply s rd i (if replyAgain rd i then .collided else r)) s := by
  rw [takeReply, hr]
  refine if_pos ?_
  split
  · next m hm => exact hn m hm
  · rfl

theorem judgeReply_collided (s : State) (rd : Round) (i : Nat) :
    judgeReply s rd i .collided = ⟨i, .collided, some i, none, none, rd.retry.isSome⟩ := rfl

/-- What a single reply is worth: it is valid exactly where it names the token of its slot and proves it. -/
theorem judgeReply_reply (s : State) (rd : Round) (i id resp : Nat) (legs : List Leg) :
    let a := judgeReply s rd i (.reply id resp legs)
    a.idx = i ∧ a.retry = rd.retry.isSome ∧ (a.heard ≠ .valid → a.heard = .invalid) ∧
    (a.heard = .valid ↔ ∃ t, tokenAt s i = some t ∧ t.id = id ∧ tokenResponse t rd.challenge = resp ∧
      foreignSts s (tokenSts t rd.challenge) legs = false) := by
  simp only [judgeReply]
  split
  · next t ht =>
    split
    · next h => simp [ht, h]
    · next h => simp [ht, h]
  · next ht => simp [ht]

theorem sendRetry_first {s : State} {rd : Round} (hr : s.acc.round = some rd) (he : rd.retry = none)
    (hc : (collided rd).isEmpty = false) : sendRetry s =
      { s with acc := { s.acc with round := some { rd with retry := some (((collided rd).map (2 ^ ·)).sum) } } } := by
  rw [sendRetry, hr]
  exact if_pos (by rw [he, hc]; rfl)

/-! ### The end of a round -/

/-- Between `s` and `u`, only registers may differ. -/
def LiveOnly (s u : State) : Prop := u = { s with live := u.live }

theorem LiveOnly.trans {s u v : State} (a : LiveOnly s u) (b : LiveOnly u v) : LiveOnly s v := by
  unfold LiveOnly at *
  rw [b, a]

theorem LiveOnly.awake {s u : State} (h : LiveOnly s u) : Machine.awake u = Machine.awake s := by rw [h]; rfl

theorem radioFaults_liveOnly (s : State) : LiveOnly s (radioFaults 0 0 s) := by
  rw [radioFaults_none]
  exact State.setLive_frame ..

/-- A state whose round is over. -/
def roundOver (s : State) : State := { s with acc := { s.acc with round := none } }

theorem reportRound_only (rd : Round) (g : Option Nat) (s : State) : ReportsOnly s (reportRound rd g s) :=
  .foldl (fun _ _ => .pushEntry ..) _ _

theorem takeRanges_liveOnly (rd : Round) (s : State) : LiveOnly s (takeRanges rd s) := by
  unfold takeRanges
  generalize rd.answers = l
  induction l generalizing s with
  | nil => exact (rfl : LiveOnly s s)
  | cons a l ih =>
    refine .trans ?_ (ih _)
    dsimp only
    split
    · exact State.setLive_frame ..
    · exact (rfl : LiveOnly s s)

theorem finishRound_decides {s : State} {rd : Round} (hr : s.acc.round = some rd) (hc : collided rd = []) (hw : awake s = true) :
    finishRound 0 0 s =
      let v := radioFaults 0 0 s
      let g := grantOf v rd
      nextRound (roundSession rd g (reportRound rd (g.map (·.idx)) (takeRanges rd (roundOver v)))) := by
  have hv := radioFaults_liveOnly s
  have hwake : awake (takeRanges rd (roundOver (radioFaults 0 0 s))) = true := by
    rw [(takeRanges_liveOnly ..).awake, ← hw, ← hv.awake]
    rfl
  simp only [finishRound, hr, hc, List.isEmpty_nil, Bool.not_true, Bool.false_and, Bool.false_eq_true, if_false, Nat.zero_and]
  rw [← roundOver, if_pos hwake]

theorem nextRound_none {s : State} (hk : s.acc.kept = none) (ht : s.acc.test = none) : nextRound s = s := by
  simp [nextRound, hk, ht]

/-- A list of numbers of which one gives a value. -/
theorem filterMap_range_single {α : Type} {f : Nat → Option α} {i : Nat} {a : α} (hi : f i = some a) (hf : ∀ j ≠ i, f j = none) :
    ∀ n, (List.range n).filterMap f = if i < n then [a] else []
  | 0 => rfl
  | n + 1 => by
    rw [List.range_succ, List.filterMap_append, filterMap_range_single hi hf n]
    by_cases h : n = i
    · subst h; simp [hi]
    · rw [List.filterMap_cons_none (hf n h), List.filterMap_nil, List.append_nil]
      simp only [show i < n + 1 ↔ i < n by omega]

section
variable {s : State} {rd : Round} {a : Answer} {i : Nat} (hi : i < 16) (hone : rd.answers = [a]) (hidx : a.idx = i)
include hi hone hidx

theorem grantOf_single (hout : outcomeOf s rd (some i) a = 0) : grantOf s rd = some a := by
  have hf : (List.range 16).filterMap (fun i => rd.answers.find? fun a => a.idx = i && outcomeOf s rd (some i) a = 0) = [a] := by
    rw [filterMap_range_single (i := i) (a := a) ?_ fun j hj => ?_, if_pos hi]
    · simp [hone, hidx, hout]
    · simp [hone, hidx, Ne.symm hj]
  rw [grantOf, hf]
  rfl

end

theorem grantOf_silent {s : State} {rd : Round} (h : rd.answers = []) : grantOf s rd = none := by
  have hf : (List.range 16).filterMap (fun i => rd.answers.find? fun a => a.idx = i && outcomeOf s rd (some i) a = 0) = [] := by
    rw [h]; simp
  rw [grantOf, hf]
  rfl

/-- A valid answer in range, of a token that is not revoked, to a command is granted. -/
theorem outcomeOf_granted {s : State} {rd : Round} {a : Answer} {cm port : Nat} (ht : rd.trigger = 0) (hv : a.heard = .valid)
    (hr : a.range = some (cm, port)) (hcm : cm ≤ (s.liveReg 0x88005).field 19 10) (hrev : (s.liveReg (tokAddr a.idx)).bit 16 = false) :
    outcomeOf s rd (some a.idx) a = 0 := by
  simp [outcomeOf, hv, hr, hrev, ht, Nat.not_lt.mpr hcm]

theorem openSession_frame (i : Nat) (s : State) : openSession i s =
    { s with
      acc := { s.acc with sessOpen := true, sessToken := i, sessTime := s.clock }, targets := (openSession i s).targets } := rfl

/-- A grant outside a door check opens a session where none is open. -/
theorem roundSession_opens {s : State} {rd : Round} {a : Answer} (ht : rd.trigger ≠ 3) (ho : s.acc.sessOpen = false) :
    roundSession rd (some a) s =
      let q := openSession a.idx s
      if rangedInside q rd a.idx then { q with acc := { q.acc with insideAt := some q.clock } } else q := by
  simp only [roundSession, ho, Bool.not_false, if_true, if_neg ht]
  rw [openSession_frame]
  simp only [Bool.true_and]

theorem rangedInside_single {s : State} {rd : Round} {a : Answer} {r : Nat} (hone : rd.answers = [a]) (hv : a.heard = .valid)
    (hi : a.interior = some r) (hr : r ≤ (s.liveReg 0x88005).field 9 0) : rangedInside s rd a.idx = true := by
  simp [rangedInside, hone, hv, hi, hr]

/-- A round on command without a grant or an answer changes nothing of the session. -/
theorem roundSession_silent {s : State} {rd : Round} (ht : rd.trigger ≠ 3) (h : rd.answers = []) : roundSession rd none s = s := by
  simp [roundSession, ht, rangedInside, h]

theorem collided_single {rd : Round} {a : Answer} (h : rd.answers = [a]) (hv : a.heard = .valid) : collided rd = [] := by
  simp [collided, h, hv]

theorem takeRanges_single {rd : Round} {a : Answer} {cm port : Nat} (h : rd.answers = [a]) (hv : a.heard = .valid)
    (hr : a.range = some (cm, port)) (s : State) : takeRanges rd s = s.setLive (0x88040 + a.idx) (Word.sat cm) := by
  rw [takeRanges, h, List.foldl_cons, List.foldl_nil, hv, hr]

/-- Settles O29: a command, a reply, the retry telegram and the end of a round, the last by the grant that the round gives. -/
theorem accessRounds : Obligations.AccessRounds := by
  refine ⟨fun s ant hcl hsi hw => ⟨fun hr => ?starts, fun hr => ?busy⟩,
    fun s rd i hrd hre => ⟨?collided, fun id resp legs hno => ?single, fun id resp legs hag => ?again, fun hex => ?retry⟩,
    fun s rd m i hrd hre => ⟨fun hm r => ?unnamed, fun hm hno id resp legs => ?afresh⟩,
    fun s rd a i cm port hrd ht hw hk hte => ⟨fun hone hidx hv hr hcm hrev ho => ?granted, fun hno => ?silent⟩⟩
  case starts =>
    refine .of_next (exec_round ((accAccepts_iff s).mpr ⟨hcl, hsi⟩) hw ant) ?_
    rw [accApply_round]
    generalize hv : s.setLive 0x88001 _ = v
    have hfr : LiveOnly s v := by rw [← hv]; exact State.setLive_frame ..
    have hreg (b : Nat) (hb : b ≠ 0x88001) : v.liveReg b = s.liveReg b := by rw [← hv, State.setLive_liveReg, if_neg (Ne.symm hb)]
    have hvr : v.acc = s.acc := by rw [hfr]
    have hvf : v.free = s.free := by rw [hfr]
    rw [commandRound, if_neg (by rw [hvr, hr]; exact Bool.false_ne_true), startRound_plain (by decide)]
    refine ⟨?_, ?_⟩
    · simp only [driveMask, hreg 0x88004 (by decide), hreg 0x88000 (by decide), hvf]
    · rw [hvf, hvr, hfr]
  case busy =>
    refine .of_next (exec_round ((accAccepts_iff s).mpr ⟨hcl, hsi⟩) hw ant) ?_
    rw [accApply_round]
    generalize hv : s.setLive 0x88001 _ = v
    have hfr : LiveOnly s v := by rw [← hv]; exact State.setLive_frame ..
    have hvt : v.tgt accT = s.tgt accT := by rw [hfr]; rfl
    rw [commandRound, if_pos (by rw [show v.acc = s.acc by rw [hfr]]; exact Option.isSome_iff_ne_none.mpr hr), refuseAcc]
    refine ⟨?_, ?_⟩
    · rw [State.modTgt_eq, State.setTgt_tgt, if_pos rfl, hvt]
      rfl
    · rw [State.modTgt_eq]
      exact hfr ▸ rfl
  case collided =>
    refine .of_next (exec_tokenReply i .collided s) ?_
    rw [takeReply_named hrd (by simp [hre]), ite_self, judgeReply_collided]
    exact ⟨⟨i, .collided, some i, none, none, rd.retry.isSome⟩, rfl, rfl, rfl, by rw [hre]; rfl, rfl⟩
  case single =>
    refine .of_next (exec_tokenReply i _ s) ?_
    have hag : ¬replyAgain rd i = true := fun h => by
      obtain ⟨b, hb, hx, -⟩ := (replyAgain_iff rd i).mp h
      exact hno b hb hx
    obtain ⟨hidx, -, hinv, hval⟩ := judgeReply_reply s rd i id resp legs
    rw [takeReply_named hrd (by simp [hre]), if_neg hag]
    exact ⟨_, rfl, hidx, hval, hinv, rfl⟩
  case again =>
    refine .of_next (exec_tokenReply i _ s) ?_
    rw [takeReply_named hrd (by simp [hre]), if_pos ((replyAgain_iff rd i).mpr (by rw [hre]; exact hag)), judgeReply_collided]
    exact ⟨_, rfl, rfl, rfl, rfl⟩
  case retry =>
    have hne : (collided rd).isEmpty = false := by
      obtain ⟨a, ha, hc⟩ := hex
      rw [List.isEmpty_eq_false_iff]
      exact List.ne_nil_of_mem (List.mem_map.mpr ⟨a, List.mem_filter.mpr ⟨ha, decide_eq_true hc⟩, rfl⟩)
    rw [exec_retryTelegram, sendRetry_first hrd hre hne, collided, List.map_map]
    rfl
  case unnamed => simp [exec_tokenReply, takeReply, hrd, hre, hm]
  case afresh =>
    refine .of_next (exec_tokenReply i _ s) ?_
    have hag : ¬replyAgain rd i = true := fun h => by
      obtain ⟨b, hb, hx, hy⟩ := (replyAgain_iff rd i).mp h
      rw [hno b hb hx, hre] at hy
      cases hy
    obtain ⟨hidx, hret, hinv, -⟩ := judgeReply_reply s rd i id resp legs
    rw [takeReply_named hrd (fun k hk => by rw [hre] at hk; cases hk; exact hm), if_neg hag]
    refine ⟨_, rfl, hidx, hret.trans (by rw [hre]; rfl), fun hc => ?_, rfl⟩
    rw [hinv (by rw [hc]; decide)] at hc
    cases hc
  case granted =>
    refine .of_next (exec_roundEnd s) ?_
    have hvl := radioFaults_liveOnly s
    have hvr := (radioFaults_quiet s).2
    rw [finishRound_decides hrd (collided_single hone hv) hw]
    dsimp only
    generalize radioFaults 0 0 s = v at hvl hvr
    have hout : outcomeOf v rd (some a.idx) a = 0 :=
      outcomeOf_granted ht hv hr (by rw [hvr]; exact hcm) (by rw [hvr, hidx]; exact hrev)
    rw [grantOf_single i.isLt hone hidx (hidx ▸ hout), takeRanges_single hone hv hr, hidx]
    have hw' : LiveOnly (roundOver s) ((roundOver v).setLive (0x88040 + i) (Word.sat cm)) := by rw [hvl]; rfl
    have hwr (b : Nat) : ((roundOver v).setLive (0x88040 + i) (Word.sat cm)).liveReg b =
        if 0x88040 + i = b then Word.sat cm else s.liveReg b := by
      rw [State.setLive_liveReg, ← hvr]
      rfl
    generalize (roundOver v).setLive (0x88040 + i) (Word.sat cm) = w at hw' hwr
    have hp := reportRound_only rd ((some a).map (·.idx)) w
    have hpr := hp.liveReg
    generalize reportRound rd ((some a).map (·.idx)) w = p at hp hpr
    have hacc : p.acc = (roundOver s).acc := by rw [hp, hw']
    rw [roundSession_opens (by rw [ht]; decide) (by rw [hacc]; exact ho)]
    have hq := openSession_frame a.idx p
    have hin {r : Nat} (hi : a.interior = some r) (hle : r ≤ (s.liveReg 0x88005).field 9 0) :
        rangedInside (openSession a.idx p) rd a.idx = true := by
      refine rangedInside_single hone hv hi ?_
      have hreg : (openSession a.idx p).liveReg 0x88005 = p.liveReg 0x88005 := by rw [hq]; rfl
      rw [hreg, hpr, hwr, if_neg (by omega)]
      exact hle
    generalize openSession a.idx p = q at hq hin
    have hclock : q.clock = s.clock := by rw [hq, hp, hw']; rfl
    have hqr (b : Nat) : q.liveReg b = if 0x88040 + i = b then Word.sat cm else s.liveReg b := by rw [hq, ← hwr, ← hpr]; rfl
    have hqa : q.acc = { s.acc with round := none, sessOpen := true, sessToken := i, sessTime := s.clock } := by
      rw [hq, hacc, hidx, hp, hw']; rfl
    have hqf : q = { s with acc := q.acc, live := q.live, targets := q.targets } := by rw [hq, hp, hw']; rfl
    dsimp only
    split
    · rw [nextRound_none (by rw [hqa]; exact hk) (by rw [hqa]; exact hte), hclock, hqa]
      refine ⟨rfl, rfl, rfl, rfl, rfl, (hqr _).trans (if_pos rfl), fun r _ _ => rfl, fun b hb => (hqr b).trans (if_neg (Ne.symm hb)), ?_⟩
      rw [hqf]
    · next hno =>
      rw [nextRound_none (by rw [hqa]; exact hk) (by rw [hqa]; exact hte), hqa]
      refine ⟨rfl, rfl, rfl, rfl, rfl, (hqr _).trans (if_pos rfl), fun r hi hle => absurd (hin hi hle) hno,
        fun b hb => (hqr b).trans (if_neg (Ne.symm hb)), ?_⟩
      rw [← hqa, ← hqf]
  case silent =>
    refine .of_next (exec_roundEnd s) ?_
    have hvl := radioFaults_liveOnly s
    have hvr := (radioFaults_quiet s).2
    rw [finishRound_decides hrd (by simp [collided, hno]) hw]
    dsimp only
    generalize radioFaults 0 0 s = v at hvl hvr
    have hrng : takeRanges rd (roundOver v) = roundOver v := by rw [takeRanges, hno]; rfl
    rw [grantOf_silent hno, hrng]
    have hp := reportRound_only rd ((none : Option Answer).map (·.idx)) (roundOver v)
    have hpr := hp.liveReg
    generalize reportRound rd ((none : Option Answer).map (·.idx)) (roundOver v) = p at hp hpr
    have hacc : p.acc = (roundOver s).acc := by rw [hp, hvl]; rfl
    rw [roundSession_silent (by rw [ht]; decide) hno, nextRound_none (by rw [hacc]; exact hk) (by rw [hacc]; exact hte)]
    refine ⟨hacc, fun b => (hpr b).trans (hvr b), ?_⟩
    rw [hp, hvl]
    rfl

end Sys2Proof.Machine
end

section
/-! SUPPORT. What a change of one bus leaves (R360), and requests to transmit (R364, R375 to R379, R387). -/

namespace Sys2Proof.Machine

open Sys2Proof

/-! ### One bus changes -/

theorem modBus_frame (s : State) (b : Nat) (f : Bus → Bus) : s.modBus b f = { s with buses := (s.modBus b f).buses } := rfl

theorem modBus_same (s : State) (b : Nat) (f : Bus → Bus) : (s.modBus b f).bus b = f (s.bus b) := by simp

theorem modBus_other (s : State) {b c : Nat} (h : c ≠ b) (f : Bus → Bus) : (s.modBus b f).bus c = s.bus c := by
  simp [Ne.symm h]

/-- What one change of a bus does, in the shape in which the statements name it. -/
theorem modBus_spec (s : State) (b : Nat) (f : Bus → Bus) :
    (s.modBus b f).bus b = f (s.bus b) ∧ (∀ c, c ≠ b → (s.modBus b f).bus c = s.bus c) ∧
      s.modBus b f = { s with buses := (s.modBus b f).buses } :=
  ⟨modBus_same s b f, fun _ h => modBus_other s h f, rfl⟩

theorem modBus_congr {s : State} {b : Nat} {f g : Bus → Bus} (h : f (s.bus b) = g (s.bus b)) : s.modBus b f = s.modBus b g := by
  rw [State.modBus_eq, State.modBus_eq, h]

/-! ### The queue -/

/-- The frame that is sent next stands in the queue. -/
theorem nextQueued_mem {s : State} {b : Nat} {q : Queued} (h : nextQueued s b = some q) : q ∈ (s.bus b).queue := by
  have key (l : List Queued) : ∀ best : Option Queued,
      l.foldl (fun best e => match best with
        | none => some e
        | some f => if recId e.frame < recId f.frame then some e else some f) best = some q → q ∈ l ∨ best = some q := by
    induction l with
    | nil => exact fun _ h => .inr h
    | cons e l ih =>
      intro best hf
      rcases ih _ hf with hm | hm
      · exact .inl (List.mem_cons_of_mem _ hm)
      · cases best with
        | none => exact .inl (Option.some.inj hm ▸ List.mem_cons_self)
        | some f =>
          dsimp only at hm
          split at hm
          · exact .inl (Option.some.inj hm ▸ List.mem_cons_self)
          · exact .inr hm
  unfold nextQueued at h
  dsimp only at h
  split at h
  · exact (key _ _ h).resolve_right (by simp)
  · exact List.mem_of_head? h

/-- Whether the next frame has started is settled at most once, and nothing else changes. -/
theorem markStarted_spec (b : Nat) (s : State) :
    (markStarted b s).bus b = { s.bus b with sending := ((markStarted b s).bus b).sending } ∧
    (∀ t, (s.bus b).sending = some t → ((markStarted b s).bus b).sending = some t) ∧
    (∀ c : Nat, c ≠ b → (markStarted b s).bus c = s.bus c) ∧
    markStarted b s = { s with buses := (markStarted b s).buses, free := (markStarted b s).free } := by
  have key : markStarted b s = s ∨ (s.bus b).sending = none ∧ ∃ o : Option Nat, markStarted b s =
      { s.modBus b (fun x => { x with sending := o }) with free := s.free + 1 } := by
    unfold markStarted
    split
    · next h1 h2 =>
      split
      · exact .inr ⟨h1, _, rfl⟩
      · exact .inl rfl
    · exact .inl rfl
  rcases key with h | ⟨hn, o, h⟩
  · rw [h]
    exact ⟨rfl, fun _ ht => ht, fun _ _ => rfl, rfl⟩
  · obtain ⟨hb, ho, -⟩ := modBus_spec s b fun x => { x with sending := o }
    have hbus : (markStarted b s).bus b = { s.bus b with sending := o } := by rw [h]; exact hb
    refine ⟨by rw [hbus], fun t ht => ?_, fun c hc => ?_, by rw [h]; rfl⟩
    · rw [hn] at ht
      cases ht
    · rw [h]
      exact ho c hc

/-- A queued frame goes ahead of the one that is sent next. -/
def goesAhead (s : State) (b : Nat) (fr : List Word) : Bool :=
  byIdentifier s b && (match nextQueued s b with | some q => decide (recId fr < recId q.frame) | none => false)

theorem goesAhead_false {s : State} {b : Nat} {fr : List Word}
    (h : byIdentifier s b = false ∨ ∀ q, nextQueued s b = some q → recId q.frame ≤ recId fr) : goesAhead s b fr = false := by
  unfold goesAhead
  rcases h with h | h
  · rw [h, Bool.false_and]
  · split
    · next q hq => rw [decide_eq_false (Nat.not_lt.mpr (h q hq)), Bool.and_false]
    · exact Bool.and_false _

section
variable {s : State} {b : Nat} (fr : List Word) (tag : BitVec 12)

theorem busQueueReq_joins (hok : recOk s b ((fr.getD 1 0).field 5 0) fr = true) (hl : (s.bus b).queue.length < 32) :
    busQueueReq b tag.toNat fr s = (if goesAhead s b fr then markStarted b s else s).modBus b fun x =>
      { x with queue := x.queue ++ [⟨tag.toNat, fr⟩] } := by
  rw [busQueueReq, hok, if_neg (by simp), if_neg (by omega), Nat.mod_eq_of_lt tag.isLt]
  rfl

theorem busQueueReq_full (hok : recOk s b ((fr.getD 1 0).field 5 0) fr = true) (hl : 32 ≤ (s.bus b).queue.length) :
    busQueueReq b tag.toNat fr s = busNotSent b tag.toNat 2 s := by
  rw [busQueueReq, hok, if_neg (by simp), if_pos hl]

theorem busQueueReq_bad (hok : recOk s b ((fr.getD 1 0).field 5 0) fr = false) :
    busQueueReq b tag.toNat fr s = busNotSent b tag.toNat 1 s := by
  rw [busQueueReq, hok]
  rfl

end

section
variable {s : State} {b : Fin 28} (ha : busAccepts s b = true)
include ha

theorem exec_busQueue (tag : BitVec 12) (fr : List Word) :
    exec (.busQueue b tag fr) s = .next (busQueueReq b tag.toNat fr s) := congrArg _ (if_pos ha)
theorem exec_busAbort (tag : BitVec 12) : exec (.busAbort b tag) s = .next (busAbortReq b tag.toNat s) := congrArg _ (if_pos ha)
theorem exec_busUpdateObject (obj : BitVec 6) (fr : List Word) : exec (.busUpdateObject b obj fr) s = .next
    (if objectZeroHeld s b 1 obj.toNat then refuseBus b 0x05 (busqAddr b 1) 0 s else busUpdateReq b obj.toNat 0 fr s) :=
  congrArg _ (if_neg (by rw [ha]; exact Bool.false_ne_true))

end

/-! ### Aborts -/

/-- Object 0 is held for the release messages alone. -/
theorem objectZeroHeld_iff (s : State) (b : Nat) (obj : BitVec 6) : objectZeroHeld s b 1 obj.toNat = true ↔
    obj = 0 ∧ (s.liveReg 0x88023).bit 18 = true ∧ (s.liveReg 0x88023).field 17 14 = b := by
  have h0 : obj.toNat = 0 ↔ obj = 0 := ⟨fun h => BitVec.eq_of_toNat_eq h, fun h => by rw [h]; rfl⟩
  simp only [objectZeroHeld, decide_true, Bool.true_and, Bool.and_eq_true, decide_eq_true_eq, h0, and_assoc]

section
variable {s : State} {b tag : Nat} (hs : (s.bus b).sending ≠ some tag)
include hs

theorem busAbortReq_waiting (hn : (nextQueued s b).map Queued.tag ≠ some tag) :
    busAbortReq b tag s = if (s.bus b).queue.any fun e => decide (e.tag = tag) then
      busNotSent b tag 3 (s.modBus b fun x => { x with queue := x.queue.eraseP fun e => decide (e.tag = tag) }) else s := by
  simp only [busAbortReq, decide_eq_false hs, decide_eq_false hn, Bool.and_false, Bool.false_and, Bool.or_self, Bool.false_eq_true,
    if_false]

end

theorem busAbortReq_next {s : State} {b tag : Nat} (hs : (s.bus b).sending = none)
    (hn : (nextQueued s b).map Queued.tag = some tag) :
    busAbortReq b tag s =
      if Config.txStarted s.free then { s with free := s.free + 1 }.modBus b fun x => { x with sending := some tag }
      else if (s.bus b).queue.any fun e => decide (e.tag = tag) then
        busNotSent b tag 3 ({ s with free := s.free + 1 }.modBus b fun x =>
          { x with queue := x.queue.eraseP fun e => decide (e.tag = tag) })
      else { s with free := s.free + 1 } := by
  simp only [busAbortReq, hs, decide_eq_true hn, Option.isNone_none, Bool.true_and, if_true,
    show decide ((none : Option Nat) = some tag) = false from rfl, Bool.false_or]

theorem any_tag {q : List Queued} {tag : Nat} (h : ∃ e ∈ q, e.tag = tag) : (q.any fun e => decide (e.tag = tag)) = true := by
  obtain ⟨e, hm, ht⟩ := h
  exact List.any_eq_true.mpr ⟨e, hm, decide_eq_true ht⟩

/-! ### Transmissions -/

theorem exec_busFrameTransmitted (b : Fin 28) (obj : Bool) (tag : BitVec 12) (sof : Nat) (s : State) :
    exec (.busFrameTransmitted b obj tag sof) s = .next (if obj then objectSent b tag.toNat sof s else queuedSent b tag.toNat sof s) :=
  rfl

theorem queueServed_event {s : State} {b : Nat} (ht : ttActive s b = false) (hd : busDown s b = false) : queueServed s b = true := by
  rw [queueServed, ht, hd]
  rfl

/-- The frame whose turn it is completes. -/
theorem queuedSent_turn {s : State} {b tag : Nat} {e : Queued} (hn : nextQueued s b = some e) (he : e.tag = tag)
    (hs : queueServed s b = true) (hq : (s.bus b).quiet = false) (sof : Nat) :
    queuedSent b tag sof s = busSent b false tag sof
      (s.modBus b fun x => { x with queue := (s.bus b).queue.erase e, sending := none }) := by
  have hw : queueWithout s b tag = (s.bus b).queue.erase e := by
    rw [queueWithout, hn]
    exact if_pos he
  rw [queuedSent, hs, hn, hq, hw, Option.map_some, he, decide_eq_true rfl]
  exact if_pos (by simp)

/-- Settles O32, by the branches of each request and by whether the frame that completes is the one whose turn it is. -/
theorem busTransmission : Obligations.BusTransmission := by
  intro s b tag fr
  refine ⟨fun ha => ⟨fun hok hl => ⟨fun hno => ?joins, ?joinsAny⟩, fun hok hl => ?full, fun hok => ?bad,
      fun obj => ⟨fun h0 hm hc => ?held, fun hfree hok hhas => ?update⟩, ?abort, fun hs hno => ?abortNone⟩,
    fun e q sof hq he hb ht hd hqu => ?head, fun e sof hn he ht hd hqu => ?turn, fun hs hn sof => ?notTurn,
    fun sof hw hd hr => ?object⟩
  case joins => rw [exec_busQueue ha, busQueueReq_joins fr tag hok hl, goesAhead_false hno, if_neg Bool.false_ne_true]
  case joinsAny =>
    refine .of_next (exec_busQueue ha tag fr) ?_
    rw [busQueueReq_joins fr tag hok hl]
    have hbase : ∃ v, (if goesAhead s b fr then markStarted b s else s) = v ∧
        v.bus b = { s.bus b with sending := (v.bus b).sending } ∧
        (∀ t, (s.bus b).sending = some t → (v.bus b).sending = some t) ∧
        (∀ c : Nat, c ≠ b → v.bus c = s.bus c) ∧ v = { s with buses := v.buses, free := v.free } := by
      split
      · exact ⟨_, rfl, markStarted_spec b s⟩
      · exact ⟨_, rfl, rfl, fun _ h => h, fun _ _ => rfl, rfl⟩
    obtain ⟨v, hv, hb, hs, ho, hf⟩ := hbase
    rw [hv]
    obtain ⟨hub, huo, huf⟩ := modBus_spec v b fun x => { x with queue := x.queue ++ [⟨tag.toNat, fr⟩] }
    generalize v.modBus b (fun x => { x with queue := x.queue ++ [⟨tag.toNat, fr⟩] }) = u at hub huo huf
    refine ⟨?_, fun t ht => ?_, fun c hc => (huo c hc).trans (ho c hc), ?_⟩
    · rw [hub, hb]
    · rw [hub]; exact hs t ht
    · rw [huf, hf]
  case full => rw [exec_busQueue ha, busQueueReq_full fr tag hok hl]
  case bad => rw [exec_busQueue ha, busQueueReq_bad fr tag hok]
  case held => rw [exec_busUpdateObject ha, if_pos ((objectZeroHeld_iff s b obj).mpr ⟨h0, hm, hc⟩)]
  case update =>
    refine .of_next (exec_busUpdateObject ha obj fr) ?_
    have hnot : ¬objectZeroHeld s b 1 obj.toNat = true := fun h => by
      obtain ⟨h0, hm, -⟩ := (objectZeroHeld_iff s b obj).mp h
      rcases hfree with hf | hf
      · exact hf h0
      · rw [hm] at hf; cases hf
    have hobj : hasObject s b obj.toNat = true := by simpa [hasObject] using hhas
    rw [if_neg hnot, busUpdateReq, hobj, hok, if_neg (by simp)]
    obtain ⟨hub, huo, huf⟩ := modBus_spec s b fun x => { x with
      objects := Sparse.put x.objects obj.toNat fr,
      fresh := if x.fresh.contains obj.toNat then x.fresh else x.fresh ++ [obj.toNat] }
    refine ⟨by rw [hub], ?_, by rw [hub], huo, huf⟩
    rw [hub]
    dsimp only
    split
    · next h => simpa using h
    · simp
  case abort =>
    intro next out
    refine ⟨fun hs hn hex => ?_, fun hs hn hex => ⟨fun hf => ?_, fun hf => ?_⟩⟩
    · rw [exec_busAbort ha, busAbortReq_waiting hs hn, if_pos (any_tag hex)]
    · rw [exec_busAbort ha, busAbortReq_next hs hn, if_neg (by rw [hf]; exact Bool.false_ne_true), if_pos (any_tag hex)]
    · rw [exec_busAbort ha, busAbortReq_next hs hn, if_pos hf]
  case abortNone =>
    have hn : (nextQueued s b).map Queued.tag ≠ some tag.toNat := fun h => by
      obtain ⟨q, hq, ht⟩ := Option.map_eq_some_iff.mp h
      exact hno q (nextQueued_mem hq) ht
    rw [exec_busAbort ha, busAbortReq_waiting hs hn, if_neg (by simpa using hno)]
  case head =>
    have hn : nextQueued s b = some e := by simp [nextQueued, hb, hq]
    rw [exec_busFrameTransmitted, if_neg Bool.false_ne_true, queuedSent_turn hn he (queueServed_event ht hd) hqu, hq,
      List.erase_cons_head]
  case turn => rw [exec_busFrameTransmitted, if_neg Bool.false_ne_true, queuedSent_turn hn he (queueServed_event ht hd) hqu]
  case notTurn =>
    rw [exec_busFrameTransmitted, if_neg Bool.false_ne_true, queuedSent, decide_eq_false hs, decide_eq_false hn]
    exact congrArg _ (if_neg (by simp))
  case object => rw [exec_busFrameTransmitted, if_pos rfl, objectSent, if_pos ⟨hw, hd, hr⟩]

end Sys2Proof.Machine
end

section
/-! SUPPORT. Frames that a bus receives, and their acknowledgement (R361, R363, R370, R380, R381, R394). -/

namespace Sys2Proof

/-- A field of two bits is full where both are set. -/
theorem Word.bits_of_field_full {w : Word} {lo : Nat} (h : w.field (lo + 1) lo = 3) : w.bit (lo + 1) = true ∧ w.bit lo = true := by
  have hm : lo + 1 + 1 - lo = 2 := by omega
  have key (i : Nat) (hi : i < 2) : w.bit (lo + i) = (3 : Nat).testBit i := by
    rw [← h, Word.field, hm, Nat.testBit_mod_two_pow, Nat.testBit_shiftRight, decide_eq_true hi, Bool.true_and,
      BitVec.testBit_toNat]
    rfl
  exact ⟨key 1 (by omega), key 0 (by omega)⟩

end Sys2Proof

namespace Sys2Proof.Machine

open Sys2Proof

/-! ### Inputs presented beside a change of a bus -/

/-- Between `s` and `u`, nothing but bus `b` may differ. -/
def BusOnly (b : Nat) (s u : State) : Prop := (∀ c : Nat, c ≠ b → u.bus c = s.bus c) ∧ u = { s with buses := u.buses }

theorem BusOnly.refl (b : Nat) (s : State) : BusOnly b s s := ⟨fun _ _ => rfl, rfl⟩

theorem BusOnly.trans {b : Nat} {s u v : State} (a : BusOnly b s u) (c : BusOnly b u v) : BusOnly b s v := by
  obtain ⟨a1, a2⟩ := a
  obtain ⟨c1, c2⟩ := c
  exact ⟨fun d hd => (c1 d hd).trans (a1 d hd), by rw [c2, a2]⟩

theorem BusOnly.modBus (b : Nat) (f : Bus → Bus) (s : State) : BusOnly b s (s.modBus b f) := (modBus_spec s b f).2

theorem BusOnly.ttActive {b : Nat} {s u : State} (h : BusOnly b s u) (n : Nat) : Machine.ttActive u n = Machine.ttActive s n := by
  rw [h.2]; rfl

/-- A change of the buses alone keeps whether inputs are numbered, and how. -/
theorem Numbering.buses {s u : State} (h : Numbering s) (hu : u = { s with buses := u.buses }) : Numbering u := by
  rw [hu]; exact h

theorem Presented.buses {src : Nat} {ws : List Word} {act : Act} {s v u : State} (h : Presented src ws act v u)
    (hv : v = { s with buses := v.buses }) : Presented src ws act s u := by
  rw [hv] at h; exact h

/-! ### Receiving -/

theorem exec_busFrameReceived (b : Fin 28) (fr : List Word) (sof : Nat) (cycle col : BitVec 6) (same badFcs : Bool) (s : State) :
    exec (.busFrameReceived b fr sof cycle col same badFcs) s =
      .next (frameReceived b fr sof cycle.toNat col.toNat same badFcs s) := rfl

theorem compareCopies_spec (b : Nat) (same : Bool) (s : State) :
    BusOnly b s (compareCopies b same s) ∧ (compareCopies b same s).bus b = { s.bus b with
      mismatch := if same = false ∧ (s.lane (otherLane (s.bus b).tx)).inStep = true then (s.bus b).mismatch + 1
        else (s.bus b).mismatch } := by
  unfold compareCopies
  split
  · next h => rw [if_neg (by cases same <;> simp_all)]; exact ⟨.refl b s, rfl⟩
  · next h => rw [modBus_same, if_pos (by simpa using h)]; exact ⟨.modBus .., rfl⟩

theorem gotExpected_spec (b f : Nat) (s : State) :
    BusOnly b s (gotExpected b f s) ∧ (gotExpected b f s).bus b = { s.bus b with
      window := if (s.bus b).window = .expect f false then .expect f true else (s.bus b).window } := by
  unfold gotExpected
  split
  · rw [modBus_same]; exact ⟨.modBus .., rfl⟩
  · exact ⟨.refl b s, rfl⟩

theorem storeFrame_full {b : Nat} {s : State} (h : freeSlot (s.bus b) = none) (f cycle col : Nat) (fr : List Word) (sof : Nat) :
    storeFrame b f cycle col fr sof s = s.modBus b fun x => { x with overrun := x.overrun + 1 } := by
  rw [storeFrame, h]

theorem storeFrame_stores {b k : Nat} {s : State} (h : freeSlot (s.bus b) = some k) (f cycle col : Nat) (fr : List Word) (sof : Nat) :
    storeFrame b f cycle col fr sof s = present (sourceOf (busT b))
      ([Word.ofN (k * 2 ^ 10 + f % 64 * 2 ^ 4), Word.ofN (cycle % 64 * 2 ^ 14 + col % 64 * 2 ^ 8)] ++ wordsOf sof 3 ++ fr)
      (.frame b k f) (s.modBus b fun x => { x with slots := Sparse.put x.slots k 0 }) := by
  rw [storeFrame, h]

/-- The word that shows where in the matrix a frame came: its cycle and column on a time-triggered channel. -/
theorem placeWord (tt : Bool) (cycle col : BitVec 6) :
    Word.ofN ((if tt then cycle.toNat else 63) % 64 * 2 ^ 14 + (if tt then col.toNat else 63) % 64 * 2 ^ 8) =
      if tt = true then Word.ofN (cycle.toNat * 2 ^ 14 + col.toNat * 2 ^ 8) else 0xFFF00 := by
  cases tt with
  | false => simp [Word.ofN]
  | true => rw [if_pos rfl, if_pos rfl, if_pos rfl, Nat.mod_eq_of_lt cycle.isLt, Nat.mod_eq_of_lt col.isLt]

/-- The filter of bus `b` that takes a frame. -/
def filterOf (s : State) (b : Nat) (fr : List Word) : Option Nat :=
  let id := (fr.getD 1 0).field 5 0
  if b < 16 then canFilter s b fr
  else if b < 24 then (if (s.bus b).window = .expect id false then some id else none)
  else tsFilter s (b - 24) fr

section
variable {s : State} {b : Nat} (ha : busAccepts s b = true) (he : busEnabled s b = true) (hst : b < 24 → (s.bus b).state < 2)
  (hw : asleep s = false)
include ha he hst hw

theorem frameReceived_awake (fr : List Word) (sof cycle col : Nat) (same badFcs : Bool) :
    frameReceived b fr sof cycle col same badFcs s =
      if decide (24 ≤ b) && badFcs then s.modBus b fun x => { x with fcsErr := x.fcsErr + 1 }
      else if decide (b < 16) && !formatOn s b fr then s
      else if decide (b < 16) && decide ((fr.getD 0 0).field 19 18 = 2) && decide (256 < recLen fr) then
        s.modBus b fun x => { x with rxDrop := x.rxDrop + 1 }
      else match filterOf s b fr with
        | none => s
        | some f =>
          gotExpected b f (storeFrame b f (if ttActive s b then cycle else 63) (if ttActive s b then col else 63) fr sof
            (if (freeSlot (s.bus b)).isSome then compareCopies b same s else s)) := by
  have hdown : ¬(!busAccepts s b || !busEnabled s b || (decide (b < 24) && decide (2 ≤ (s.bus b).state))) = true := by
    rw [ha, he]
    simpa using fun h => hst h
  rw [frameReceived, hw, if_neg Bool.false_ne_true, if_neg hdown]
  unfold filterOf
  dsimp only
  iterate 3 refine ite_congr rfl (fun _ => rfl) fun _ => ?_
  have htt : ttActive (if (freeSlot (s.bus b)).isSome then compareCopies b same s else s) b = ttActive s b := by
    split
    · exact (compareCopies_spec b same s).1.ttActive b
    · rfl
  rw [htt] <;> rfl

variable {fr : List Word} (hf : b < 16 → formatOn s b fr = true ∧ ((fr.getD 0 0).field 19 18 ≠ 2 ∨ recLen fr ≤ 256))
include hf

/-- A frame of a format that the controller takes part in goes to the filters. -/
theorem frameReceived_filtered (sof cycle col : Nat) (same : Bool) :
    frameReceived b fr sof cycle col same false s = match filterOf s b fr with
      | none => s
      | some f =>
        gotExpected b f (storeFrame b f (if ttActive s b then cycle else 63) (if ttActive s b then col else 63) fr sof
          (if (freeSlot (s.bus b)).isSome then compareCopies b same s else s)) := by
  have h1 : ¬(decide (b < 16) && !formatOn s b fr) = true := by
    simpa using fun h => (hf h).1
  have h2 : ¬(decide (b < 16) && decide ((fr.getD 0 0).field 19 18 = 2) && decide (256 < recLen fr)) = true := by
    simpa using fun h h2 => (hf h).2.resolve_left (not_not_intro h2)
  rw [frameReceived_awake ha he hst hw, Bool.and_false, if_neg Bool.false_ne_true, if_neg h1, if_neg h2]

theorem frameReceived_stored {f k : Nat} (hflt : filterOf s b fr = some f) (hk : freeSlot (s.bus b) = some k) (hn : Numbering s)
    (sof : Nat) (cycle col : BitVec 6) (same : Bool) :
    let u := frameReceived b fr sof cycle.toNat col.toNat same false s
    Presented (sourceOf (busT b))
      ([Word.ofN (k * 2 ^ 10 + f % 64 * 2 ^ 4),
        if ttActive s b = true then Word.ofN (cycle.toNat * 2 ^ 14 + col.toNat * 2 ^ 8) else 0xFFF00] ++ wordsOf sof 3 ++ fr)
      (.frame b k f) s u ∧
    u.bus b = { s.bus b with
      slots := Sparse.put (s.bus b).slots k 0,
      mismatch := if same = false ∧ (s.lane (otherLane (s.bus b).tx)).inStep = true then (s.bus b).mismatch + 1
        else (s.bus b).mismatch,
      window := if (s.bus b).window = .expect f false then .expect f true else (s.bus b).window } ∧
    (∀ c : Nat, c ≠ b → u.bus c = s.bus c) ∧ u = { s with buses := u.buses, seq := u.seq } := by
  intro u
  obtain ⟨hco, hcb⟩ := compareCopies_spec b same s
  have hu : u = gotExpected b f (storeFrame b f (if ttActive s b then cycle.toNat else 63)
      (if ttActive s b then col.toNat else 63) fr sof (compareCopies b same s)) := by
    rw [show u = _ from frameReceived_filtered ha he hst hw hf .., hflt, hk]
    rfl
  rw [storeFrame_stores (k := k) (by rw [hcb]; exact hk), placeWord] at hu
  generalize compareCopies b same s = v at hco hcb hu
  have hmo := hco.trans (.modBus b (fun x => { x with slots := Sparse.put x.slots k 0 }) v)
  have hmb := modBus_same v b fun x => { x with slots := Sparse.put x.slots k 0 }
  generalize v.modBus b (fun x => { x with slots := Sparse.put x.slots k 0 }) = m at hu hmo hmb
  obtain ⟨hp, hpf⟩ := present_numbered (sourceOf (busT b))
    ([Word.ofN (k * 2 ^ 10 + f % 64 * 2 ^ 4),
      if ttActive s b = true then Word.ofN (cycle.toNat * 2 ^ 14 + col.toNat * 2 ^ 8) else 0xFFF00] ++ wordsOf sof 3 ++ fr)
    (.frame b k f) m (hn.buses hmo.2)
  generalize present (sourceOf (busT b)) _ _ m = p at hu hp hpf
  obtain ⟨hgo, hgb⟩ := gotExpected_spec b f p
  rw [← hu] at hgo hgb
  have hpb (c : Nat) : p.bus c = m.bus c := by rw [hpf]; rfl
  refine ⟨?_, ?_, fun c hc => ?_, ?_⟩
  · have hs := hp.buses hmo.2
    unfold Presented at hs ⊢
    rw [hgo.2]
    exact hs
  · rw [hgb, hpb, hmb, hcb]
  · rw [hgo.1 c hc, hpb, hmo.1 c hc]
  · rw [hgo.2, hpf, hmo.2]

theorem frameReceived_overrun {f : Nat} (hflt : filterOf s b fr = some f) (hk : freeSlot (s.bus b) = none) (sof cycle col : Nat)
    (same : Bool) :
    let u := frameReceived b fr sof cycle col same false s
    u.bus b = { s.bus b with
      overrun := (s.bus b).overrun + 1,
      window := if (s.bus b).window = .expect f false then .expect f true else (s.bus b).window } ∧
    (∀ c : Nat, c ≠ b → u.bus c = s.bus c) ∧ u = { s with buses := u.buses } := by
  intro u
  have hu : u = gotExpected b f (s.modBus b fun x => { x with overrun := x.overrun + 1 }) := by
    rw [show u = _ from frameReceived_filtered ha he hst hw hf .., hflt, hk, ← storeFrame_full hk]
    rfl
  have hmo := BusOnly.modBus b (fun x => { x with overrun := x.overrun + 1 }) s
  have hmb := modBus_same s b fun x => { x with overrun := x.overrun + 1 }
  obtain ⟨hgo, hgb⟩ := gotExpected_spec b f (s.modBus b fun x => { x with overrun := x.overrun + 1 })
  rw [← hu] at hgo hgb
  exact ⟨by rw [hgb, hmb], hmo.trans hgo⟩

end

/-- A frame that the selective wake of a sleeping module takes is held as the wake. -/
theorem frameReceived_wakes {s : State} {b : Nat} {fr : List Word} (hb : b < 16) (hs : asleep s = true) (hw : s.pwr.waking = false)
    (hh : s.pwr.held = none) (hc : (s.copyReg (canAddr b 0)).field 9 8 = 3) (hf : wufAccepts s b fr = true) (sof cycle col : Nat)
    (same badFcs : Bool) :
    frameReceived b fr sof cycle col same badFcs s = { s with pwr := { s.pwr with held := some (3, b) } } := by
  obtain ⟨h9, h8⟩ := Word.bits_of_field_full hc
  rw [frameReceived, hs, if_pos rfl, if_pos hb, wufFrame, if_pos (by rw [hw, h9, h8, hf]; rfl), raiseWake, hh]

/-! ### Acknowledgements -/

section
variable {s : State} {b : Fin 28} (ha : busAccepts s b = true)
include ha

theorem exec_rxAck (k : BitVec 6) : exec (.rxAck b k) s = .next (ackSlot b k.toNat s) := congrArg _ (if_pos ha)
theorem exec_rxAckAll : exec (.rxAckAll b) s = .next (ackAll b s) := congrArg _ (if_pos ha)

end

theorem ackSlot_free {b k : Nat} {s : State} (h : ∀ p ∈ (s.bus b).slots, p.1 ≠ k) : ackSlot b k s = s :=
  if_neg (by simpa using fun x hm => h (k, x) hm rfl)

theorem busqAddr_ne (b j : Nat) : busqAddr b 4 ≠ busqAddr b (0x40 + j) := by unfold busqAddr; omega

/-- An owned slot is freed, its record's place is cleared and OWNED counts again. -/
theorem ackSlot_owned {b k : Nat} {s : State} (h : ∃ p ∈ (s.bus b).slots, p.1 = k) :
    let u := ackSlot b k s
    u.bus b = { s.bus b with slots := Sparse.erase (s.bus b).slots k } ∧
    (∀ j, u.copyReg (busqAddr b (0x40 + j)) = if k = j then 0 else s.copyReg (busqAddr b (0x40 + j))) ∧
    u.copyReg (busqAddr b 4) = (s.copyReg (busqAddr b 4)).put 19 13
      ((List.range 64).filter fun j => decide (u.copyReg (busqAddr b (0x40 + j)) ≠ 0)).length ∧
    (∀ c : Nat, c ≠ b → u.bus c = s.bus c) ∧ u = { s with buses := u.buses, copy := u.copy } := by
  intro u
  have hany : ((s.bus b).slots.any fun p => decide (p.1 = k)) = true := by
    obtain ⟨p, hm, hp⟩ := h
    exact List.any_eq_true.mpr ⟨p, hm, decide_eq_true hp⟩
  have hu : u = showOwned b ((s.modBus b fun x => { x with slots := Sparse.erase x.slots k }).setCopy (busqAddr b (0x40 + k)) 0) :=
    if_pos hany
  obtain ⟨hmb, hmo, hmf⟩ := modBus_spec s b fun x => { x with slots := Sparse.erase x.slots k }
  generalize s.modBus b (fun x => { x with slots := Sparse.erase x.slots k }) = m at hu hmb hmo hmf
  have hmc (a : Nat) : m.copyReg a = s.copyReg a := by rw [hmf]; rfl
  generalize hc : m.setCopy (busqAddr b (0x40 + k)) 0 = c at hu
  have hcr (a : Nat) : c.copyReg a = if busqAddr b (0x40 + k) = a then 0 else s.copyReg a := by
    rw [← hc, State.setCopy_copyReg, hmc]
  have hcb (j : Nat) : c.bus j = m.bus j := by rw [← hc]; simp
  have hinj (j : Nat) : busqAddr b (0x40 + k) = busqAddr b (0x40 + j) ↔ k = j := by unfold busqAddr; omega
  have huc (j : Nat) : u.copyReg (busqAddr b (0x40 + j)) = c.copyReg (busqAddr b (0x40 + j)) := by
    rw [hu, showOwned, State.setCopy_copyReg, if_neg (busqAddr_ne b j)]
  refine ⟨?_, fun j => ?_, ?_, fun d hd => ?_, ?_⟩
  · rw [hu, showOwned, ← hmb, ← hcb]; simp
  · rw [huc, hcr]; simp only [hinj]
  · simp only [huc]
    rw [hu, showOwned, State.setCopy_copyReg, if_pos rfl, hcr, if_neg (busqAddr_ne b k).symm]
  · rw [hu, showOwned, ← hmo d hd, ← hcb]; simp
  · rw [hu, showOwned, ← hc, hmf]; rfl

/-- An acknowledgement of any slot, owned or free. -/
theorem ackSlot_spec (b k : Nat) (s : State) :
    let u := ackSlot b k s
    u.bus b = { s.bus b with slots := Sparse.erase (s.bus b).slots k } ∧
    (∀ j, (k = j ∧ ∃ p ∈ (s.bus b).slots, p.1 = k) ∨ s.copyReg (busqAddr b (0x40 + j)) = 0 →
      u.copyReg (busqAddr b (0x40 + j)) = 0) ∧
    (∀ c : Nat, c ≠ b → u.bus c = s.bus c) ∧ u = { s with buses := u.buses, copy := u.copy } := by
  by_cases h : ∃ p ∈ (s.bus b).slots, p.1 = k
  · obtain ⟨h1, h2, -, h4, h5⟩ := ackSlot_owned h
    refine ⟨h1, fun j hj => ?_, h4, h5⟩
    rw [h2]
    split
    · rfl
    · next hne => exact hj.resolve_left fun hk => hne hk.1
  · have hno : ∀ p ∈ (s.bus b).slots, p.1 ≠ k := fun p hm hp => h ⟨p, hm, hp⟩
    rw [ackSlot_free hno]
    have herase : Sparse.erase (s.bus b).slots k = (s.bus b).slots :=
      List.filter_eq_self.mpr fun p hm => decide_eq_true (hno p hm)
    exact ⟨by rw [herase], fun j hj => hj.resolve_left fun hk => h hk.2, fun _ _ => rfl, rfl⟩

/-- Between `s` and `u`, only the buses and the lanes' copy may differ. -/
def SlotsOnly (s u : State) : Prop := u = { s with buses := u.buses, copy := u.copy }

theorem SlotsOnly.trans {s u v : State} (a : SlotsOnly s u) (b : SlotsOnly u v) : SlotsOnly s v := by
  unfold SlotsOnly at *
  rw [b, a]

theorem foldl_ackSlot (b : Nat) (ks : List Nat) (s : State) :
    let u := ks.foldl (fun s k => ackSlot b k s) s
    u.bus b = { s.bus b with slots := (s.bus b).slots.filter fun p => decide (p.1 ∉ ks) } ∧
    (∀ j, (j ∈ ks ∧ ∃ p ∈ (s.bus b).slots, p.1 = j) ∨ s.copyReg (busqAddr b (0x40 + j)) = 0 →
      u.copyReg (busqAddr b (0x40 + j)) = 0) ∧
    (∀ c : Nat, c ≠ b → u.bus c = s.bus c) ∧ u = { s with buses := u.buses, copy := u.copy } := by
  induction ks generalizing s with
  | nil => exact ⟨by simp, fun j h => h.resolve_left (by simp), fun _ _ => rfl, rfl⟩
  | cons k ks ih =>
    obtain ⟨a1, a2, a3, a4⟩ := ackSlot_spec b k s
    obtain ⟨b1, b2, b3, b4⟩ := ih (ackSlot b k s)
    intro u
    refine ⟨b1.trans ?_, fun j hj => b2 j ?_, fun c hc => (b3 c hc).trans (a3 c hc), SlotsOnly.trans a4 b4⟩
    · rw [a1, Sparse.erase, List.filter_filter]
      simp only [List.mem_cons, not_or, Bool.decide_and, Bool.and_comm]
    · by_cases hk : k = j
      · rcases hj with ⟨-, hs⟩ | h0
        · exact .inr (a2 j (.inl ⟨hk, hk ▸ hs⟩))
        · exact .inr (a2 j (.inr h0))
      · rcases hj with ⟨hm, p, hp, hpj⟩ | h0
        · refine .inl ⟨(List.mem_cons.mp hm).resolve_left (Ne.symm hk), p, ?_, hpj⟩
          rw [a1]
          exact List.mem_filter.mpr ⟨hp, decide_eq_true (by rw [hpj]; exact Ne.symm hk)⟩
        · exact .inr (a2 j (.inr h0))

/-- Settles O33: a frame by the checks it passes, an acknowledgement by whether its slot is owned. -/
theorem busReception : Obligations.BusReception := by
  refine ⟨fun s b fr sof cycle col same => ?receive, fun s b ha => ⟨fun k hk => ?free, fun k hk => ?owned, ?all⟩⟩
  case receive =>
    intro id flt
    have hflt : flt = filterOf s b fr := rfl
    rw [hflt]
    refine ⟨fun hb hs hw hh hc hf badFcs => ?_, fun ha he hst hw => ⟨fun hb hf => ?_, fun hb h2 hf hl => ?_, fun hb => ?_,
      fun hf => ⟨fun hno => ?_, fun f k hsome hk hn => ?_, fun f hsome hk => ?_⟩⟩⟩
    · rw [exec_busFrameReceived, frameReceived_wakes hb hs hw hh hc hf]
    · rw [exec_busFrameReceived, frameReceived_awake ha he hst hw, Bool.and_false, if_neg Bool.false_ne_true,
        if_pos (by rw [decide_eq_true hb, hf]; rfl)]
    · rw [exec_busFrameReceived, frameReceived_awake ha he hst hw, Bool.and_false, if_neg Bool.false_ne_true,
        if_neg (by rw [hf]; simp), if_pos (by rw [decide_eq_true hb, decide_eq_true h2, decide_eq_true hl]; rfl)]
    · rw [exec_busFrameReceived, frameReceived_awake ha he hst hw, if_pos (by rw [decide_eq_true hb]; rfl)]
    · rw [exec_busFrameReceived, frameReceived_filtered ha he hst hw hf, hno]
    · exact .of_next (exec_busFrameReceived ..) (frameReceived_stored ha he hst hw hf hsome hk hn sof cycle col same)
    · exact .of_next (exec_busFrameReceived ..) (frameReceived_overrun ha he hst hw hf hsome hk sof _ _ same)
  case free => rw [exec_rxAck ha, ackSlot_free hk]
  case owned =>
    obtain ⟨h1, h2, h3, h4⟩ := ackSlot_owned hk
    exact .of_next (exec_rxAck ha k) ⟨h1, (h2 _).trans (if_pos rfl), h3, h4⟩
  case all =>
    refine .of_next (exec_rxAckAll ha) ?_
    obtain ⟨h1, h2, h3, h4⟩ := foldl_ackSlot b ((s.bus b).slots.map (·.1)) s
    refine ⟨h1.trans ?_, fun p hp => h2 p.1 (.inl ⟨List.mem_map.mpr ⟨p, hp, rfl⟩, p, hp, rfl⟩), h3, h4⟩
    rw [List.filter_eq_nil_iff.mpr fun p hp => by simpa using ⟨_, hp⟩]

end Sys2Proof.Machine
end

section
/-! SUPPORT. Reports of a bus (R382), errors of a CAN channel and moves of a bus (R365, R367, R383), and the release message (R352,
R379). -/

namespace Sys2Proof.Machine

open Sys2Proof

/-! ### Reports of a bus -/

/-- Between `s` and `u`, nothing but the buses, the reports of the targets and what comes of presented inputs may differ. -/
def BusPosts (s u : State) : Prop := Posts { s with buses := u.buses, targets := u.targets } u

theorem BusPosts.trans {s u v : State} (a : BusPosts s u) (b : BusPosts u v) : BusPosts s v := by
  obtain ⟨a1, a2, a3⟩ := a
  obtain ⟨b1, b2, b3⟩ := b
  refine ⟨?_, ?_, ?_⟩
  · rw [b1, a1]
  · rw [b2]
    dsimp only
    rw [a2]
  · rw [b3]
    dsimp only
    rw [a3]

theorem BusPosts.modBus (b : Nat) (f : Bus → Bus) (s : State) : BusPosts s (s.modBus b f) := ⟨rfl, rfl, rfl⟩

theorem busStateLater_frame (b code : Nat) (node : Option Nat) (s : State) :
    busStateLater b code node s = { s with targets := (busStateLater b code node s).targets } := rfl

theorem BusPosts.busStateLater (b code : Nat) (node : Option Nat) (s : State) : BusPosts s (busStateLater b code node s) :=
  ⟨rfl, rfl, rfl⟩

theorem countsShown_spec (b : Nat) (s : State) : (countsShown b s).bus b = (s.bus b).shown ∧ BusOnly b s (countsShown b s) :=
  ⟨modBus_same .., .modBus ..⟩

theorem Posts.bus {s u : State} (h : Posts s u) (c : Nat) : u.bus c = s.bus c := by rw [h.1]; rfl

/-- A report shows the counts of its bus, and changes no other. -/
theorem presentBus_spec (b : Nat) (ws : List Word) (recs : List RecDraft) (s : State) :
    let u := presentBus b ws recs s
    u.bus b = (s.bus b).shown ∧ (∀ c : Nat, c ≠ b → u.bus c = s.bus c) ∧ Posts { s with buses := u.buses } u ∧
      (Numbering s → Presented (sourceOf (busT b)) ws (.report (busT b) [] recs (busCopy s b)) s u) := by
  obtain ⟨hb, ho, hf⟩ := countsShown_spec b s
  have hp := present_posts (sourceOf (busT b)) ws (.report (busT b) [] recs (busCopy s b)) (countsShown b s)
  have hn := present_numbered (sourceOf (busT b)) ws (.report (busT b) [] recs (busCopy s b)) (countsShown b s)
  rw [presentBus]
  generalize present (sourceOf (busT b)) ws (.report (busT b) [] recs (busCopy s b)) (countsShown b s) = u at hp hn
  refine ⟨(hp.bus b).trans hb, fun c hc => (hp.bus c).trans (ho c hc), ?_, fun h => (hn (h.buses hf)).1.buses hf⟩
  obtain ⟨h1, h2, h3⟩ := hp
  rw [hf] at h1 h2 h3
  exact ⟨by rw [h1], h2, h3⟩

theorem BusPosts.presentBus (b : Nat) (ws : List Word) (recs : List RecDraft) (s : State) :
    BusPosts s (presentBus b ws recs s) := by
  obtain ⟨-, -, ⟨h1, h2, h3⟩, -⟩ := presentBus_spec b ws recs s
  have ht : (Machine.presentBus b ws recs s).targets = s.targets := by rw [h1]
  refine ⟨?_, h2, h3⟩
  rw [ht, h1]

/-- A bus that has reported: its counts are shown, and no other bus differs. -/
def Shows (b : Nat) (s u : State) : Prop :=
  u.bus b = (s.bus b).shown ∧ (∀ c : Nat, c ≠ b → u.bus c = s.bus c) ∧ BusPosts s u

theorem Shows.presentBus (b : Nat) (ws : List Word) (recs : List RecDraft) (s : State) : Shows b s (presentBus b ws recs s) :=
  ⟨(presentBus_spec b ws recs s).1, (presentBus_spec b ws recs s).2.1, .presentBus b ws recs s⟩

theorem Shows.trans {b : Nat} {s u v : State} (a : Shows b s u) (c : Shows b u v) : Shows b s v := by
  obtain ⟨a1, a2, a3⟩ := a
  obtain ⟨c1, c2, c3⟩ := c
  exact ⟨by rw [c1, a1]; rfl, fun d hd => (c2 d hd).trans (a2 d hd), a3.trans c3⟩

theorem Shows.later {b : Nat} {s u : State} (a : Shows b s u) (c code : Nat) (node : Option Nat) :
    Shows b s (busStateLater c code node u) := by
  obtain ⟨a1, a2, a3⟩ := a
  exact ⟨a1, a2, a3.trans (.busStateLater c code node u)⟩

/-! ### Errors and bus-off -/

theorem exec_canError (n : Fin 16) (tec : Fin 257) (rx : BitVec 8) (lec : BitVec 3) (s : State) :
    exec (.canError n tec rx lec) s = .next (canErrorStep n tec rx.toNat lec.toNat s) := rfl
theorem exec_busOffReturn (n : Fin 16) (s : State) : exec (.busOffReturn n) s = .next (busOffEnd n s) := rfl
theorem exec_recover {s : State} {n : Fin 16} (ha : busAccepts s n = true) : exec (.recover n) s = .next (recoverStep n s) :=
  congrArg _ (if_pos ha)
theorem exec_domTimeout (b : Fin 24) (s : State) : exec (.domTimeout b) s = .next (domStep b s) := rfl
theorem exec_moved (b : Fin 28) (s : State) : exec (.moved b) s = .next (moveStep b s) := rfl
theorem exec_releaseMessage (s : State) : exec .releaseMessage s = .next (releaseStep s) := rfl

/-- A channel with new error counters. -/
def counted (n tec rx lec : Nat) (s : State) : State := s.modBus n fun x => { x with tec := tec, recCount := rx, lec := lec }

/-- The state that error counters up to 255 give: 1 for error-passive. -/
def errorState (tec rx : Nat) : Nat := if 127 < tec ∨ 127 < rx then 1 else 0

section
variable {s : State} {n : Nat} (he : busEnabled s n = true) (hst : (s.bus n).state < 2)
include he hst

theorem canErrorStep_counts (tec rx lec : Nat) :
    canErrorStep n tec rx lec s =
      if 255 < tec then busOff n (counted n tec rx lec s)
      else if errorState tec rx = ((counted n tec rx lec s).bus n).state then counted n tec rx lec s
      else busStateLater n (if errorState tec rx = 1 then 0x002 else 0x001) none
        ((counted n tec rx lec s).modBus n fun x => { x with state := errorState tec rx }) := by
  rw [show ((counted n tec rx lec s).bus n).state = (s.bus n).state by rw [counted, modBus_same]]
  refine if_neg ?_
  rw [he]
  simpa using hst

/-- Counters up to 255 decide the state alone. -/
theorem canErrorStep_state {tec : Nat} (ht : tec ≤ 255) (rx lec : Nat) :
    let u := canErrorStep n tec rx lec s
    u.bus n = { s.bus n with tec := tec, recCount := rx, lec := lec, state := errorState tec rx } ∧
    ((s.bus n).state = errorState tec rx → u.targets = s.targets) ∧
    (∀ c : Nat, c ≠ n → u.bus c = s.bus c) ∧ u = { s with buses := u.buses, targets := u.targets } := by
  intro u
  have hu : u = _ := canErrorStep_counts he hst tec rx lec
  rw [if_neg (by omega)] at hu
  obtain ⟨cb, co, cf⟩ := modBus_spec s n fun x => { x with tec := tec, recCount := rx, lec := lec }
  rw [← counted] at cb co cf
  generalize counted n tec rx lec s = v at hu cb co cf
  have hstate : (v.bus n).state = (s.bus n).state := by rw [cb]
  split at hu
  · next h =>
    rw [hu]
    refine ⟨?_, fun _ => by rw [cf], co, by rw [cf]⟩
    rw [h, hstate]
    exact cb
  · next h =>
    obtain ⟨db, do_, df⟩ := modBus_spec v n fun x => { x with state := errorState tec rx }
    generalize v.modBus n (fun x => { x with state := errorState tec rx }) = w at hu db do_ df
    have hub (c : Nat) : u.bus c = w.bus c := by rw [hu, busStateLater_frame]; rfl
    refine ⟨by rw [hub, db, cb], fun hs => absurd (hs.symm.trans hstate.symm) h, fun c hc => by rw [hub, do_ c hc, co c hc], ?_⟩
    rw [hu, busStateLater_frame, df, cf]

end

/-- A channel at its entry into bus-off, with the frame `tag` in progress dropped. -/
def Bus.off (now : Nat) (cfg : Word) (tag : Option Nat) (x : Bus) : Bus :=
  let times := now :: recentOffs now x.offTimes
  let susp := decide (cfg.field 14 11 ≤ times.length)
  { x with
    state := 2, busOffs := x.busOffs + 1, offTimes := times.take 15, suspended := x.suspended || susp, sending := none,
    returning := cfg.bit 15 && !(x.suspended || susp), sync := false, refs := 0, master := false, waitRef := true,
    queue := match tag with | some t => x.queue.eraseP fun e => decide (e.tag = t) | none => x.queue }

/-- The report of the frame that a bus-off drops. -/
def dropTold (n : Nat) (tag : Option Nat) (s : State) : State := match tag with | some t => busNotSent n t 4 s | none => s

/-- What a bus-off reports: the frame that it drops, the bus-off and a suspension. -/
def offReports (n : Nat) (tag : Option Nat) (susp : Bool) (s : State) : State :=
  let s := busStateNow n 0x003 (dropTold n tag s)
  if susp then busStateLater n 0x005 none s else s

theorem offReports_shows (n : Nat) (tag : Option Nat) (susp : Bool) (s : State) : Shows n s (offReports n tag susp s) := by
  have hnow : Shows n s (busStateNow n 0x003 (dropTold n tag s)) := by
    cases tag with
    | none => exact .presentBus ..
    | some t => exact .trans (.presentBus ..) (.presentBus ..)
  cases susp with
  | true => exact hnow.later n 0x005 none
  | false => exact hnow

theorem busOff_eq (n : Nat) (s : State) : ∃ susp, busOff n s = offReports n (inProgress s n) susp
    (s.modBus n (Bus.off s.clock (s.liveReg (canAddr n 0)) (inProgress s n))) := ⟨_, rfl⟩

theorem inProgress_sending {s : State} {n t : Nat} (h : (s.bus n).sending = some t) : inProgress s n = some t := by
  rw [inProgress, h]

/-- TEC at 256 is a bus-off. -/
theorem canErrorStep_off {s : State} {n : Nat} (he : busEnabled s n = true) (hst : (s.bus n).state < 2) {tec : Nat} (ht : 255 < tec)
    (rx lec : Nat) :
    let u := canErrorStep n tec rx lec s
    let v := counted n tec rx lec s
    u.bus n = (Bus.off v.clock (v.liveReg (canAddr n 0)) (inProgress v n) (v.bus n)).shown ∧
      (∀ c : Nat, c ≠ n → u.bus c = s.bus c) ∧ BusPosts s u := by
  intro u v
  obtain ⟨susp, hoff⟩ := busOff_eq n v
  have hu : u = offReports n (inProgress v n) susp
      (v.modBus n (Bus.off v.clock (v.liveReg (canAddr n 0)) (inProgress v n))) := by
    rw [← hoff]
    exact (canErrorStep_counts he hst tec rx lec).trans (if_pos ht)
  obtain ⟨h1, h2, h3⟩ := offReports_shows n (inProgress v n) susp
    (v.modBus n (Bus.off v.clock (v.liveReg (canAddr n 0)) (inProgress v n)))
  rw [← hu] at h1 h2 h3
  rw [modBus_same] at h1
  refine ⟨h1, fun c hc => ?_, ((BusPosts.modBus n _ s).trans (.modBus n _ v)).trans h3⟩
  rw [h2 c hc, modBus_other v hc]
  exact modBus_other s hc _

/-! ### Moves -/

/-- A bus after its move. -/
def Bus.movedAway (x : Bus) : Bus := { x with tx := otherLane x.tx, moved := true, faulty := true }

theorem moveStep_moves {s : State} {b : Nat} (he : busEnabled s b = true) (hm : (s.bus b).moved = false)
    (hi : (s.lane (otherLane (s.bus b).tx)).inStep = true) :
    moveStep b s = busStateNow b 0x006 (s.modBus b Bus.movedAway) := if_pos (by rw [he, hm, hi]; rfl)

theorem moveStep_stays {s : State} {b : Nat} (h : ¬((s.bus b).moved = false ∧ (s.lane (otherLane (s.bus b).tx)).inStep = true)) :
    moveStep b s = s := by
  refine if_neg fun hc => h ?_
  simp only [Bool.and_eq_true, Bool.not_eq_true'] at hc
  exact ⟨hc.1.2, hc.2⟩

/-- The state in which the bus of a dominant timeout moves. -/
def domMarked (b : Nat) (s : State) : State := busStateLater b 0x008 none (s.modBus b fun x => { x with domTo := true })

theorem domMarked_reads (b : Nat) (s : State) :
    busEnabled (domMarked b s) b = busEnabled s b ∧ ((domMarked b s).bus b).moved = (s.bus b).moved ∧
      ((domMarked b s).bus b).tx = (s.bus b).tx ∧ ∀ l, (domMarked b s).lane l = s.lane l := by
  have hb : (domMarked b s).bus b = { s.bus b with domTo := true } := modBus_same s b fun x => { x with domTo := true }
  exact ⟨rfl, by rw [hb], by rw [hb], fun l => by cases l <;> rfl⟩

/-! ### The release message -/

theorem releaseStep_due {s : State} {k : Nat × Nat} {tt : Bool} (hk : s.keys.find? (fun p => decide (p.1 = 5)) = some k)
    (hd : releaseDue s = true)
    (htt : (decide ((s.copyReg (canAddr ((s.copyReg 0x88023).field 17 14) 8)).field 19 18 ≠ 0) &&
      decide ((s.copyReg (canAddr ((s.copyReg 0x88023).field 17 14) 9)).field 7 1 ≠ 0)) = tt) :
    let n := (s.copyReg 0x88023).field 17 14
    let fr := releaseRecord s n k.2
    releaseStep s = emit ([(busT n, .bus 1 0 0 fr)] ++ (if tt then [] else [(busT n, .bus 0 0 0 fr)]))
      { s with lanes := { s.lanes with released := some (s.pwr.elapsed + s.ply.boundary) } } := by
  rw [releaseStep, hk, ← htt]
  exact if_pos hd

theorem releaseStep_early {s : State} (hd : releaseDue s = false) : releaseStep s = s := by
  unfold releaseStep
  dsimp only
  split
  · rw [hd, if_neg Bool.false_ne_true]
  · rfl

theorem releaseDue_iff {s : State} (hm : (s.copyReg 0x88023).bit 18 = true) (hp : s.upd.stage ≠ .paused) :
    releaseDue s = true ↔ ¬∃ t, s.lanes.released = some t ∧
      s.pwr.elapsed + s.ply.boundary < t + 20000 * (s.copyReg 0x88023).field 13 6 := by
  unfold releaseDue
  dsimp only
  rw [hm, decide_eq_true hp, Bool.true_and, Bool.and_true]
  split
  · next h => simp [h]
  · next t h => simp [h]

/-- Settles O34, by the counters, the state of the bus and the last release message. -/
theorem busErrorsAndMoves : Obligations.BusErrorsAndMoves := by
  refine ⟨fun s n => ⟨fun tec rx lec he hst => ?errors, fun h2 hr => ?returns, fun h2 => ?noReturn, fun ha h2 => ?recovers⟩,
    fun s b he => ?dominant, fun s b he => ⟨fun hm hi => ?moves, fun hm => ?movedOnce⟩, fun s k hk hm hp => ?release⟩
  case errors =>
    refine ⟨fun ht => .of_next (exec_canError ..) (canErrorStep_state he hst ht ..),
      fun ht => .of_next (exec_canError ..) ?_⟩
    obtain ⟨hb, ho, hp⟩ := canErrorStep_off he hst (tec := tec) (by omega) rx.toNat lec.toNat
    have hc : (counted n tec rx.toNat lec.toNat s).bus n =
        { s.bus n with tec := tec, recCount := rx.toNat, lec := lec.toNat } := modBus_same ..
    have hl : (counted n tec rx.toNat lec.toNat s).liveReg (canAddr n 0) = s.liveReg (canAddr n 0) := rfl
    rw [hl] at hb
    refine ⟨by rw [hb]; rfl, by rw [hb, hc]; rfl, by rw [hb]; rfl, by rw [hb]; rfl, by rw [hb]; rfl, fun t ht => ?_, fun hs hq => ?_,
      fun hsa => ?_, ho, hp⟩
    · have hi : inProgress (counted n tec rx.toNat lec.toNat s) n = some t := inProgress_sending (by rw [hc]; exact ht)
      rw [hb, hi, hc]
      rfl
    · rw [hb, hc]
      cases inProgress (counted n tec rx.toNat lec.toNat s) n with
      | none => exact hq
      | some t => exact (congrArg (List.eraseP _) hq).trans rfl
    · rw [hb, hc]
      rcases hsa with h | h
      · simp [Bus.off, Bus.shown, h]
      · simp [Bus.off, Bus.shown, h]
  case returns => rw [exec_busOffReturn, busOffEnd, if_pos ⟨h2, hr⟩]
  case noReturn => rw [exec_busOffReturn, busOffEnd, if_neg fun h => h2 h.1]
  case recovers =>
    rw [exec_recover ha, recoverStep]
    exact congrArg _ (modBus_congr (by rw [decide_eq_true h2, Bool.or_true]))
  case dominant =>
    intro v mayMove
    obtain ⟨hve, hvm, hvt, hvl⟩ := domMarked_reads b s
    have hdom : domStep b s = moveStep b (domMarked b s) := if_pos he
    refine ⟨fun hno => ?_, fun hyes => ?_⟩
    · rw [exec_domTimeout, hdom, moveStep_stays (by rw [hvm, hvt, hvl]; exact hno)]
      rfl
    · rw [exec_domTimeout, hdom, moveStep_moves (hve.trans he) (hvm.trans hyes.1) (by rw [hvt, hvl]; exact hyes.2)]
      rfl
  case moves =>
    rw [exec_moved, moveStep_moves he hm hi]
    rfl
  case movedOnce => rw [exec_moved, moveStep_stays (by simp [hm])]
  case release =>
    intro n fr begun sent late
    have hdue := releaseDue_iff hm hp
    refine ⟨fun hl => ?_, fun hl hr => ?_, fun hl hr hc => ?_⟩
    · rw [exec_releaseMessage, releaseStep_early (Bool.eq_false_iff.mpr fun h => hdue.mp h hl)]
    · rw [exec_releaseMessage, releaseStep_due (tt := false) hk (hdue.mpr hl)
        (by rw [decide_eq_false (not_not_intro hr), Bool.false_and])]
      rfl
    · rw [exec_releaseMessage, releaseStep_due (tt := true) hk (hdue.mpr hl)
        (by rw [decide_eq_true hr, decide_eq_true hc, Bool.and_self])]
      rfl

end Sys2Proof.Machine
end

section
/-! SUPPORT. Time-triggered CAN (R384 to R389, R467). -/

namespace Sys2Proof.Machine

open Sys2Proof

/-! ### Missed windows -/

theorem busCopy_congr {u v : State} {b : Nat} (hb : u.bus b = v.bus b) (hl : ∀ a, u.liveReg a = v.liveReg a) :
    busCopy u b = busCopy v b := by
  simp only [busCopy, satWord, hb, hl]

theorem Posts.buses {s v u : State} (h : Posts { v with buses := u.buses } u) (hv : v = { s with buses := v.buses }) :
    Posts { s with buses := u.buses } u := by
  rw [hv] at h
  exact h

/-- A bus that has become `z` reports a window. -/
theorem busWindow_misses {b : Nat} {s v : State} {z : Bus} (ho : BusOnly b s v) (hz : v.bus b = z) (code cycle col idx : Nat) :
    Misses b code cycle col idx z s (busWindow b code cycle col idx v) := by
  obtain ⟨hob, hof⟩ := ho
  obtain ⟨h1, h2, h3, h4⟩ := presentBus_spec b
    [Word.ofN (4 * 2 ^ 16 + code), Word.ofN (cycle % 64 * 2 ^ 14 + col % 64 * 2 ^ 8 + idx % 64)]
    [⟨9, code, Word.ofN (busStatusAddr b), Word.ofN b, Word.ofN (cycle % 64 * 2 ^ 14 + col % 64 * 2 ^ 8 + idx % 64)⟩] v
  have hcopy : busCopy v b = busCopy (s.modBus b fun _ => z) b :=
    busCopy_congr (by rw [hz, modBus_same]) fun a => by rw [hof]; rfl
  rw [hz] at h1
  rw [hcopy] at h4
  exact ⟨h1, fun c hc => (h2 c hc).trans (hob c hc), h3.buses hof, fun hn => (h4 (hn.buses hof)).buses hof⟩

theorem ttMiss_misses {n : Nat} {s v : State} (ho : BusOnly n s v) (code idx : Nat) :
    Misses n code (v.bus n).cycle (v.bus n).col idx { v.bus n with missed := (v.bus n).missed + 1, window := .idle } s
      (ttMiss n code idx v) :=
  busWindow_misses (ho.trans (.modBus ..)) (modBus_same ..) ..

theorem ttLose_misses (n code : Nat) (s : State) :
    Misses n code (s.bus n).cycle (s.bus n).col 0 { s.bus n with sync := false, refs := 0, window := .idle } s (ttLose n code s) :=
  busWindow_misses (.modBus ..) (modBus_same ..) ..

/-! ### Cells -/

/-- Words written to registers in turn, the first of them last. -/
theorem foldr_setLive (cells : List (Nat × Word)) (s : State) :
    LiveOnly s (cells.foldr (fun p s => s.setLive p.1 p.2) s) ∧
    ∀ a, (cells.foldr (fun p s => s.setLive p.1 p.2) s).liveReg a =
      match cells.find? (fun p => decide (p.1 = a)) with | some p => p.2 | none => s.liveReg a := by
  induction cells with
  | nil => exact ⟨rfl, fun _ => rfl⟩
  | cons p cells ih =>
    rw [List.foldr_cons]
    generalize cells.foldr (fun p s => s.setLive p.1 p.2) s = v at ih
    refine ⟨ih.1.trans (State.setLive_frame ..), fun a => ?_⟩
    rw [State.setLive_liveReg, ih.2, List.find?_cons]
    by_cases h : p.1 = a
    · rw [if_pos h, decide_eq_true h]
    · rw [if_neg h, decide_eq_false h]

/-- Between `s` and `u`, only bus `n` and registers may differ. -/
def ChannelCells (n : Nat) (s u : State) : Prop :=
  (∀ c : Nat, c ≠ n → u.bus c = s.bus c) ∧ u = { s with buses := u.buses, live := u.live }

theorem ChannelCells.trans {n : Nat} {s u v : State} (a : ChannelCells n s u) (b : ChannelCells n u v) : ChannelCells n s v := by
  obtain ⟨a1, a2⟩ := a
  obtain ⟨b1, b2⟩ := b
  exact ⟨fun c hc => (b1 c hc).trans (a1 c hc), by rw [b2, a2]⟩

theorem BusOnly.cells {n : Nat} {s u : State} (h : BusOnly n s u) : ChannelCells n s u := by
  obtain ⟨h1, h2⟩ := h
  refine ⟨h1, ?_⟩
  rw [h2]

/-- The written cells of the channel are in force. -/
theorem ttTakeCells_spec (s : State) (n : Nat) :
    (ttTakeCells s n).bus n = { s.bus n with cells := [] } ∧ ChannelCells n s (ttTakeCells s n) ∧
    ∀ a, (ttTakeCells s n).liveReg a =
      match (s.bus n).cells.find? (fun p => decide (p.1 = a)) with | some p => p.2 | none => s.liveReg a := by
  obtain ⟨hf, hr⟩ := foldr_setLive (s.bus n).cells s
  rw [ttTakeCells]
  generalize (s.bus n).cells.foldr (fun p s => s.setLive p.1 p.2) s = v at hf hr
  have hvb (c : Nat) : v.bus c = s.bus c := by rw [hf]; rfl
  obtain ⟨mb, mo, mf⟩ := modBus_spec v n fun x => { x with cells := [] }
  generalize v.modBus n (fun x => { x with cells := [] }) = w at mb mo mf
  refine ⟨by rw [mb, hvb], ⟨fun c hc => (mo c hc).trans (hvb c), by rw [mf, hf]⟩, fun a => ?_⟩
  rw [← hr a, mf]
  rfl

/-! ### Cycles -/

theorem exec_ttCycleStart (n : Fin 16) (s : State) : exec (.ttCycleStart n) s = .next (ttCycle n s) := rfl
theorem exec_ttWindowStart (n : Fin 16) (fits : Bool) (s : State) : exec (.ttWindowStart n fits) s = .next (ttOpen n fits s) := rfl
theorem exec_ttWindowEnd (n : Fin 16) (s : State) : exec (.ttWindowEnd n) s = .next (ttClose n s) := rfl
theorem exec_referenceReceived (n : Fin 16) (cycle : BitVec 6) (gap higher : Bool) (s : State) :
    exec (.referenceReceived n cycle gap higher) s = .next (ttReference n cycle.toNat gap higher s) := rfl
theorem exec_syncLost (n : Fin 16) (s : State) : exec (.syncLost n) s = .next (ttSyncLost n s) := rfl

/-- A bus whose quiet ends where its entry was abandoned. -/
def Bus.resumed (x : Bus) : Bus := if x.quietEnd = true then { x with quiet := false, quietEnd := false } else x

theorem resumeQueue_spec (n : Nat) (s : State) : (resumeQueue n s).bus n = (s.bus n).resumed ∧ BusOnly n s (resumeQueue n s) := by
  unfold resumeQueue Bus.resumed
  split
  · exact ⟨modBus_same .., .modBus ..⟩
  · exact ⟨rfl, .refl n s⟩

theorem Bus.resumed_fields (x : Bus) :
    x.resumed.state = x.state ∧ x.resumed.master = x.master ∧ x.resumed.refs = x.refs ∧ x.resumed.cycle = x.cycle ∧
      x.resumed.sync = x.sync ∧ x.resumed.cells = x.cells := by
  unfold Bus.resumed
  split
  · exact ⟨rfl, rfl, rfl, rfl, rfl, rfl⟩
  · exact ⟨rfl, rfl, rfl, rfl, rfl, rfl⟩

/-- What a cycle start leaves that ends the quiet, takes the cells and then changes the channel by `f`. -/
theorem cycleTaken_spec (n : Nat) (f : Bus → Bus) (s : State) :
    let u := (ttTakeCells (resumeQueue n s) n).modBus n f
    u.bus n = f { (s.bus n).resumed with cells := [] } ∧ (∀ c : Nat, c ≠ n → u.bus c = s.bus c) ∧
    u = { s with buses := u.buses, live := u.live } ∧
    ∀ a : Nat, u.liveReg a =
      match (s.bus n).cells.find? (fun p => decide (p.1 = a)) with | some p => p.2 | none => s.liveReg a := by
  obtain ⟨hrb, hro⟩ := resumeQueue_spec n s
  obtain ⟨hcb, hco, hcl⟩ := ttTakeCells_spec (resumeQueue n s) n
  have hrl (a : Nat) : (resumeQueue n s).liveReg a = s.liveReg a := by rw [hro.2]; rfl
  generalize ttTakeCells (resumeQueue n s) n = v at hcb hco hcl
  have hm := modBus_same v n f
  have hmo := BusOnly.modBus n f v
  generalize v.modBus n f = u at hm hmo
  obtain ⟨h1, h2⟩ := (hro.cells.trans hco).trans hmo.cells
  refine ⟨by rw [hm, hcb, hrb], h1, h2, fun a => ?_⟩
  have hul : u.liveReg a = v.liveReg a := by rw [hmo.2]; rfl
  rw [hul, hcl, hrb, (s.bus n).resumed_fields.2.2.2.2.2, hrl]

/-- A time-triggered channel is down in bus-off alone. -/
theorem busDown_of_ttActive {s : State} {n : Nat} (h : ttActive s n = true) : busDown s n = decide (2 ≤ (s.bus n).state) := by
  simp only [ttActive, Bool.and_eq_true, decide_eq_true_eq] at h
  obtain ⟨⟨⟨⟨hn, ha⟩, he⟩, -⟩, -⟩ := h
  rw [busDown, ha, he, if_pos (by omega)]
  rfl

/-- The count of the cycle that a channel starts as master. -/
def Bus.nextCount (x : Bus) : Nat := if x.master = true then (x.cycle + 1) % 64 else x.cycle

theorem ttActing_iff (s : State) (n : Nat) : ttActing s n = true ↔
    (s.liveReg (canAddr n 8)).field 19 18 = 2 ∧ ((s.bus n).master = true ∨ (s.bus n).refs = 0) := by
  simp [ttActing]

theorem ttAligned_iff (s : State) (n : Nat) : ttAligned s n = false ↔
    (s.liveReg (canAddr n 8)).bit 17 = true ∧ (s.bus n).nextCount = 0 ∧
      s.now % 20000 ≠ 100 * (s.liveReg (canAddr n 12)).field 19 12 := by
  simp [ttAligned, Bus.nextCount, and_assoc]

/-- An acting master at the start of its cycle. -/
def Bus.leads (time : Nat) (x : Bus) : Bus :=
  { x with
    cycle := x.nextCount, master := true, sync := true, refs := 0, waitRef := false, col := 0, window := .reference,
    refTime := time }

section
variable {s : State} {n : Nat} (ht : ttActive s n = true)
include ht

theorem ttCycle_off (h : (s.bus n).state = 2) :
    ttCycle n s = (ttTakeCells (resumeQueue n s) n).modBus n fun x =>
      { x with cycle := (x.cycle + 1) % 64, col := 0, window := .idle } := by
  obtain ⟨hb, ho⟩ := resumeQueue_spec n s
  have hst : ((resumeQueue n s).bus n).state = 2 := by rw [hb, (s.bus n).resumed_fields.1, h]
  exact if_pos (by rw [ho.ttActive, ht, hst]; rfl)

variable (hst : (s.bus n).state < 2)
include hst

/-- A cycle start of a channel that is not in bus-off. -/
theorem ttCycle_on :
    ttCycle n s =
      let r := resumeQueue n s
      if ttActing r n && ((r.bus n).quiet || !ttAligned r n) then r
      else if ttActing r n then (ttTakeCells r n).modBus n (Bus.leads (ttGlobal r n))
      else (ttTakeCells r n).modBus n fun x => { x with col := 0, window := .reference } := by
  obtain ⟨hb, ho⟩ := resumeQueue_spec n s
  have hta : ttActive (resumeQueue n s) n = true := (ho.ttActive n).trans ht
  have hs : ((resumeQueue n s).bus n).state < 2 := by rw [hb, (s.bus n).resumed_fields.1]; exact hst
  have hd : busDown (resumeQueue n s) n = false := by rw [busDown_of_ttActive hta]; exact decide_eq_false (by omega)
  rw [ttCycle]
  dsimp only
  rw [if_neg (by rw [decide_eq_false (by omega), Bool.and_false]; exact Bool.false_ne_true), hta, hd, Bool.not_true,
    Bool.false_or, Bool.false_or]
  rfl

end

/-- A channel after a reference message that counts as the `refs`th in a row. -/
def Bus.referred (refs cycle : Nat) (x : Bus) : Bus :=
  { x with
    refs := refs, waitRef := false, cycle := cycle, col := 0, window := .reference, master := false,
    sync := (x.sync && !x.master) || decide (refs = 2) }

/-- A reference message counts: the channel is not in bus-off, and a master hears one of higher priority alone. -/
theorem referenceTaken {s : State} {n : Nat} {higher : Bool} (ht : ttActive s n = true) (hst : (s.bus n).state < 2)
    (hr : (s.liveReg (canAddr n 8)).field 19 18 ≠ 2 ∨ higher = true) :
    ¬(!ttActive s n || decide (2 ≤ (s.bus n).state) || (decide ((s.liveReg (canAddr n 8)).field 19 18 = 2) && !higher)) = true := by
  rw [ht, decide_eq_false (Nat.not_le.mpr hst)]
  rcases hr with h | h
  · simp [h]
  · rw [h, Bool.not_true, Bool.and_false]
    decide

/-- The channel after a reference message, before what it reports. -/
def refChannel (s : State) (n cycle : Nat) : State :=
  (resumeQueue n s).modBus n (Bus.referred
    (if (s.bus n).refs ≠ 0 ∧ cycle ≠ ((s.bus n).cycle + 1) % 64 then 1 else min 2 ((s.bus n).refs + 1)) cycle)

theorem ttReference_counts {s : State} {n : Nat} {higher : Bool} (hgo : ¬(!ttActive s n || decide (2 ≤ (s.bus n).state) ||
    (decide ((s.liveReg (canAddr n 8)).field 19 18 = 2) && !higher)) = true) (cycle : Nat) :
    ttReference n cycle false higher s = refChannel s n cycle ∨
      ttReference n cycle false higher s = busStateLater n 0x014 none (refChannel s n cycle) := by
  rw [ttReference, if_neg hgo, if_neg Bool.false_ne_true]
  exact (ite_eq_or_eq _ _ _).symm

/-! ### Windows -/

/-- The channel with its next column, whose window opens. -/
def nextColumn (n : Nat) (s : State) : State := s.modBus n fun x => { x with col := (s.bus n).col + 1 }

/-- The cell of that window. -/
def nextCell (s : State) (n : Nat) : Word :=
  s.liveReg (0x94000 + (s.liveReg (canAddr n 9)).field 19 8 +
    (s.bus n).cycle % 2 ^ (s.liveReg (canAddr n 10)).field 19 17 * (s.liveReg (canAddr n 9)).field 7 1 + ((s.bus n).col + 1))

theorem nextColumn_spec (n : Nat) (s : State) :
    (nextColumn n s).bus n = { s.bus n with col := (s.bus n).col + 1 } ∧ BusOnly n s (nextColumn n s) :=
  ⟨modBus_same .., .modBus ..⟩

theorem nextColumn_cell (n : Nat) (s : State) : ttCell (nextColumn n s) n ((s.bus n).col + 1) = nextCell s n := by
  obtain ⟨hb, ho⟩ := nextColumn_spec n s
  have hl (a : Nat) : (nextColumn n s).liveReg a = s.liveReg a := rfl
  simp only [ttCell, ttBase, ttRows, ttCols, hl, hb, nextCell]

/-- Opening one window changes it alone. -/
def openWindow (n : Nat) (w : Window) (s : State) : State := s.modBus n fun x => { x with window := w }

theorem openWindow_next (n : Nat) (w : Window) (s : State) :
    (openWindow n w (nextColumn n s)).bus n = { s.bus n with col := (s.bus n).col + 1, window := w } ∧
      BusOnly n s (openWindow n w (nextColumn n s)) := by
  obtain ⟨hb, ho⟩ := nextColumn_spec n s
  refine ⟨?_, ho.trans (.modBus ..)⟩
  rw [openWindow, modBus_same, hb]

section
variable {s : State} {n : Nat} (ht : ttActive s n = true) (hcol : (s.bus n).col + 1 < (s.liveReg (canAddr n 9)).field 7 1)
include ht hcol

/-- A window start goes by the kind of its cell. -/
theorem ttOpen_next (fits : Bool) :
    ttOpen n fits s =
      let v := nextColumn n s
      let obj := (nextCell s n).field 16 11
      match (nextCell s n).field 19 17 with
      | 1 =>
        if ((s.bus n).objects.any fun p => decide (p.1 = obj)) = false then openWindow n .idle v
        else if busDown v n || !fits || !(s.bus n).sync || (s.bus n).waitRef then ttMiss n 0x011 obj v
        else v.modBus n fun x => { x with window := .send obj false, taken := Sparse.get (fun _ => []) x.objects obj }
      | 2 => openWindow n (.expect obj false) v
      | 3 => openWindow n (if (s.bus n).waitRef then .idle else .arbitrate) v
      | 4 => openWindow n (if (s.bus n).window = .arbitrate then .arbitrate else .idle) v
      | _ => openWindow n .idle v := by
  have hgo : ¬(!ttActive s n || decide (ttCols s n ≤ (s.bus n).col + 1)) = true := by
    rw [ht, ttCols, decide_eq_false (by omega)]
    exact Bool.false_ne_true
  rw [← nextColumn_cell]
  exact if_neg hgo

end

/-- Settles O35, by the cell that a window opens with, and by the reference and the state of the channel. -/
theorem timeTriggeredCan : Obligations.TimeTriggeredCan := by
  intro s n ht role rows cols base x y
  obtain ⟨hrb, hro⟩ := resumeQueue_spec n s
  obtain ⟨fst_, fma, fre, fcy, fsy, fce⟩ := (s.bus n).resumed_fields
  refine ⟨?cycle, fun h2 => ?off, fun hcol => ?opens, fun o => ⟨fun hw => ?sendEnd, fun hw => ?expectEnd⟩, fun cycle gap higher hno => ?ignored,
    fun cycle higher hst hrole => ?reference, fun hm => ⟨fun hs => ?lost, fun hs => ?lostAgain⟩, fun hm => ?master⟩
  case cycle =>
    intro acting count late hst
    have hrl (a : Nat) : (resumeQueue n s).liveReg a = s.liveReg a := by rw [hro.2]; rfl
    have hnow : (resumeQueue n s).now = s.now := by rw [hro.2]
    have hcount : y.nextCount = count := by
      change (if x.resumed.master = true then (x.resumed.cycle + 1) % 64 else x.resumed.cycle) = count
      rw [fma, fcy]
    have hact : ttActing (resumeQueue n s) n = true ↔ acting := by
      rw [ttActing_iff, hrl, hrb, fma, fre]
    have hlate : (ttActing (resumeQueue n s) n && (((resumeQueue n s).bus n).quiet || !ttAligned (resumeQueue n s) n)) = true ↔
        late := by
      rw [Bool.and_eq_true, Bool.or_eq_true, Bool.not_eq_true', hact, ttAligned_iff, hrb, hrl, hrl, hnow]
      rw [show (s.bus n).resumed.nextCount = count from hcount]
      rfl
    have hstep := ttCycle_on ht hst
    refine ⟨fun hl => ?_, fun hl => .of_next (exec_ttCycleStart n s) ?_⟩
    · rw [exec_ttCycleStart, hstep]
      exact congrArg _ (if_pos (hlate.mpr hl))
    · dsimp only at hstep
      rw [if_neg (mt hlate.mp hl)] at hstep
      by_cases ha : acting
      · rw [if_pos (hact.mpr ha)] at hstep
        obtain ⟨h1, h2, h3, h4⟩ := cycleTaken_spec n (Bus.leads (ttGlobal (resumeQueue n s) n)) s
        rw [hstep]
        refine ⟨fun _ => h1.trans ?_, fun hna => absurd ha hna, h4, h2, h3⟩
        rw [← hcount]
        have hg : ttGlobal (resumeQueue n s) n = s.now / (5 * (s.liveReg (canAddr n 8)).field 16 9) % 65536 := by
          rw [ttGlobal, hnow, hrl]
        rw [hg]
        rfl
      · rw [if_neg (mt hact.mp ha)] at hstep
        obtain ⟨h1, h2, h3, h4⟩ := cycleTaken_spec n (fun x => { x with col := 0, window := .reference }) s
        rw [hstep]
        exact ⟨fun hya => absurd hya ha, fun _ => h1, h4, h2, h3⟩
  case off =>
    obtain ⟨h1, h2', h3, -⟩ := cycleTaken_spec n (fun x => { x with cycle := (x.cycle + 1) % 64, col := 0, window := .idle }) s
    refine .of_next (exec_ttCycleStart n s) ?_
    rw [ttCycle_off ht h2]
    refine ⟨h1.trans ?_, h2', h3⟩
    dsimp only
    rw [fcy]
    rfl
  case opens =>
    intro cell obj
    obtain ⟨hnb, hno⟩ := nextColumn_spec n s
    have hopen (fits : Bool) := ttOpen_next ht hcol fits
    have hdown : busDown (nextColumn n s) n = decide (2 ≤ x.state) := by
      rw [busDown_of_ttActive ((hno.ttActive n).trans ht), hnb]
    have hhas (h : ∃ p ∈ x.objects, p.1 = obj) : ¬((s.bus n).objects.any fun p => decide (p.1 = (nextCell s n).field 16 11)) = false := by
      obtain ⟨p, hm, hp⟩ := h
      rw [List.any_eq_true.mpr ⟨p, hm, decide_eq_true hp⟩]
      decide
    have hset (w : Window) := openWindow_next n w s
    refine ⟨fun hc hobj hst hs hw => .of_next (exec_ttWindowStart ..) ?_,
      fun fits hc hobj hno => .of_next (exec_ttWindowStart ..) ?_, fun fits hc => .of_next (exec_ttWindowStart ..) ?_,
      fun fits hc hw => .of_next (exec_ttWindowStart ..) ?_, fun fits hc hw => .of_next (exec_ttWindowStart ..) ?_⟩
    all_goals
      rw [hopen]
      simp only [show (nextCell s n).field 19 17 = _ from hc]
    · have hsend : ¬(busDown (nextColumn n s) n || !true || !(s.bus n).sync || (s.bus n).waitRef) = true := by
        rw [hdown, decide_eq_false (by omega), show (s.bus n).sync = true from hs, show (s.bus n).waitRef = false from hw]
        decide
      rw [if_neg (hhas hobj), if_neg hsend]
      refine ⟨?_, hno.trans (.modBus ..)⟩
      rw [modBus_same, hnb]
      rfl
    · rw [if_neg (hhas hobj), hdown, if_pos (by simpa [or_assoc] using hno)]
      have h := ttMiss_misses (nextColumn_spec n s).2 0x011 ((nextCell s n).field 16 11)
      rw [hnb] at h
      exact h
    · exact ⟨(hset _).1, (hset _).2⟩
    · rw [if_pos hw]
      refine ⟨(hset _).1.trans ?_, (hset _).2⟩
      rw [← show (s.bus n).window = _ from hw]
    · rw [if_neg (by rw [show (s.bus n).waitRef = false from hw]; exact Bool.false_ne_true)]
      exact ⟨(hset _).1, (hset _).2⟩
  case sendEnd =>
    refine .of_next (exec_ttWindowEnd n s) ?_
    rw [ttClose, if_neg (by rw [ht]; decide), show (s.bus n).window = _ from hw]
    exact ttMiss_misses (.refl n s) 0x011 o
  case expectEnd =>
    refine .of_next (exec_ttWindowEnd n s) ?_
    rw [ttClose, if_neg (by rw [ht]; decide), show (s.bus n).window = _ from hw]
    exact ttMiss_misses (.refl n s) 0x010 o
  case ignored =>
    rw [exec_referenceReceived, ttReference]
    refine congrArg _ (if_pos ?_)
    simpa [ht] using hno
  case reference =>
    intro refs
    have hgo := referenceTaken ht hst hrole
    refine ⟨.of_next (exec_referenceReceived ..) ?_, .of_next (exec_referenceReceived ..) ?_⟩
    · rw [ttReference, if_neg hgo, if_pos rfl]
      exact ttLose_misses n 0x013 s
    · have hm : (refChannel s n cycle.toNat).bus n = Bus.referred refs cycle.toNat x.resumed := by
        rw [refChannel, modBus_same, hrb]
      obtain ⟨hoo, hof⟩ : BusOnly n s (refChannel s n cycle.toNat) := hro.trans (.modBus ..)
      have hdone := ttReference_counts (higher := higher) hgo cycle.toNat
      generalize refChannel s n cycle.toNat = v at hm hoo hof hdone
      have hbus : v.bus n = { y with
          refs := refs, waitRef := false, cycle := cycle.toNat, col := 0, window := .reference, master := false,
          sync := (x.sync && !x.master) || decide (refs = 2) } := by
        rw [hm, ← show x.resumed.sync = x.sync from fsy, ← show x.resumed.master = x.master from fma]
        rfl
      rcases hdone with h | h
      · rw [h]
        refine ⟨hbus, hoo, ?_⟩
        rw [hof]
      · rw [h]
        refine ⟨hbus, hoo, ?_⟩
        rw [busStateLater_frame, hof]
  case lost =>
    refine .of_next (exec_syncLost n s) ?_
    rw [ttSyncLost, if_neg (by rw [ht, show (s.bus n).master = false from hm]; decide), if_pos hs]
    exact ttLose_misses n 0x012 s
  case lostAgain =>
    rw [exec_syncLost, ttSyncLost, if_neg (by rw [ht, show (s.bus n).master = false from hm]; decide), if_neg (by simp [x] at hs; simp [hs])]
  case master =>
    rw [exec_syncLost, ttSyncLost]
    exact congrArg _ (if_pos (by rw [show (s.bus n).master = true from hm, Bool.or_true]))

end Sys2Proof.Machine
end

section
/-! SUPPORT. LIN and 10BASE-T1S (R390 to R396, R475). -/

namespace Sys2Proof.Machine

open Sys2Proof

/-! ### LIN -/

theorem exec_linSlot (n : Fin 8) (s : State) : exec (.linSlot n) s = .next (linSlotStep n s) := rfl
theorem exec_linResponse (n : Fin 8) (r : LinResult) (s : State) : exec (.linResponse n r) s = .next (linRespond n r s) := rfl
theorem exec_wakeReceived (n : Fin 8) (s : State) : exec (.wakeReceived n) s = .next (linWakeHeard n s) := rfl
theorem exec_linWakeRestart (n : Fin 8) (s : State) : exec (.linWakeRestart n) s = .next (linRestart n s) := rfl

section
variable {s : State} {n : Fin 8} (ha : busAccepts s (16 + n) = true)
include ha

theorem exec_linSleep : exec (.linSleep n) s = .next (linSleepStep n s) := congrArg _ (if_pos ha)
theorem exec_linWake : exec (.linWake n) s = .next (linWakeStep n s) := congrArg _ (if_pos ha)

variable (he : busEnabled s (16 + n) = true) (hq : (s.bus (16 + n)).quiet = false) (hst : (s.bus (16 + n)).state = 0)
include he hq hst

theorem linSlot_runs : ¬(!busAccepts s (16 + n) || !busEnabled s (16 + n) || (s.bus (16 + n)).quiet ||
    decide ((s.bus (16 + n)).state ≠ 0)) = true := by
  rw [ha, he, hq, decide_eq_false (not_not_intro hst)]
  decide

theorem linSlotStep_sleeps (hr : (s.bus (16 + n)).sleepReq = true) :
    linSlotStep n s = busStateLater (16 + n) 0x024 none
      (s.modBus (16 + n) fun x => { x with state := 1, sleepReq := false, window := .idle }) := by
  rw [linSlotStep, if_neg (linSlot_runs ha he hq hst), if_pos hr]

/-- A bus whose slot takes entry `e` of table `t` and does `w` in it. -/
def Bus.slotTaken (t e : Nat) (r : List (Nat × Nat)) (w : Window) (x : Bus) : Bus :=
  { x with
    table := t, entry := e, resume := r, window := w,
    taken := match w with | .send id _ => Sparse.get (fun _ => []) x.objects id | _ => x.taken,
    fresh := match w with | .send id _ => x.fresh.filter (· ≠ id) | _ => x.fresh }

theorem linSlotStep_takes (hr : (s.bus (16 + n)).sleepReq = false) {t e : Nat} {r : List (Nat × Nat)}
    (hn : linNext s n (s.bus (16 + n)) = (t, e, r)) :
    linSlotStep n s = s.modBus (16 + n) (Bus.slotTaken t e r (linHeader s n (s.bus (16 + n)) (linEntry s n t e))) := by
  rw [linSlotStep, if_neg (linSlot_runs ha he hq hst), if_neg (by rw [hr]; exact Bool.false_ne_true), hn]
  rfl

end

/-- A schedule that no other table has interrupted goes on with its next entry. -/
theorem linNext_entry {s : State} {n : Nat} {x : Bus} (hr : x.resume = []) (ht : (s.liveReg (linAddr n 2)).field 19 18 = x.table)
    (hw : x.window ≠ .idle) (he : x.entry + 1 < 32) (hk : (linEntry s n x.table (x.entry + 1)).field 19 17 ≠ 0) :
    linNext s n x = (x.table, x.entry + 1, []) := by
  simp only [linNext, hr, List.getLast?_nil, ht, ne_eq, not_true, if_false, if_neg hw, linPop, if_pos (And.intro he hk)]

theorem raiseWake_free {s : State} (h : s.pwr.held = none) (cause idx : Nat) :
    raiseWake cause idx s = { s with pwr := { s.pwr with held := some (cause, idx) } } := by
  rw [raiseWake, h]

/-- The bus of a slot whose response has ended. -/
def slotDone (n : Nat) (s : State) : State := s.modBus (16 + n) fun x => { x with window := linDone (s.bus (16 + n)).window }

theorem linRespond_stored {s : State} {n id : Nat} (hw : (s.bus (16 + n)).window = .expect id false) (fr : List Word) (sof : Nat)
    (same : Bool) :
    linRespond n (.frame fr sof same) s = storeFrame (16 + n) id 63 63 fr sof
      (if (freeSlot (s.bus (16 + n))).isSome then compareCopies (16 + n) same (s.modBus (16 + n) fun x => { x with window := .expect id true })
        else s.modBus (16 + n) fun x => { x with window := .expect id true }) := by
  have hd : (s.modBus (16 + n) fun x => { x with window := linDone x.window }) =
      s.modBus (16 + n) fun x => { x with window := .expect id true } := modBus_congr (by rw [hw]; rfl)
  rw [← hd]
  simp only [linRespond, hw]

theorem linRespond_readback {s : State} {n id : Nat} (hw : (s.bus (16 + n)).window = .send id false) :
    linRespond n .readback s = linFail n 0x023 false id
      ((s.modBus (16 + n) fun x => { x with window := linDone x.window }).modBus (16 + n)
        fun x => { x with fresh := x.fresh ++ [id] }) := by
  simp only [linRespond, hw]

/-- A response that is not stored is counted and reported for its slot, from a state in which only the bus has changed. -/
theorem linFail_misses {s v : State} {n : Nat} (ho : BusOnly (16 + n) s v) (code : Nat) (missing : Bool) (id : Nat) :
    Misses (16 + n) code 63 63 id { v.bus (16 + n) with
        noResp := if missing then (v.bus (16 + n)).noResp + 1 else (v.bus (16 + n)).noResp,
        bad := if missing then (v.bus (16 + n)).bad else (v.bus (16 + n)).bad + 1 }
      s (linFail n code missing id v) :=
  busWindow_misses (ho.trans (.modBus ..)) (modBus_same ..) ..

/-- One of the ways in which the response to an expected slot fails: its outcome, its event code, and whether it is missing. -/
def Fails (r : LinResult) (code : Nat) (missing : Bool) : Prop :=
  ∀ (s : State) (n id : Nat), (s.bus (16 + n)).window = .expect id false →
    linRespond n r s = linFail n code missing id (s.modBus (16 + n) fun x => { x with window := linDone x.window })

theorem fails_missing : Fails .missing 0x020 true := fun s n id hw => by simp only [linRespond, hw]
theorem fails_checksum : Fails .checksum 0x021 false := fun s n id hw => by simp only [linRespond, hw]
theorem fails_framing : Fails .framing 0x022 false := fun s n id hw => by simp only [linRespond, hw]
theorem fails_readback : Fails .readback 0x023 false := fun s n id hw => by simp only [linRespond, hw]

theorem Fails.misses {r : LinResult} {code : Nat} {missing : Bool} (h : Fails r code missing) {s : State} {n id : Nat}
    (hw : (s.bus (16 + n)).window = .expect id false) :
    Misses (16 + n) code 63 63 id { s.bus (16 + n) with
        noResp := if missing then (s.bus (16 + n)).noResp + 1 else (s.bus (16 + n)).noResp,
        bad := if missing then (s.bus (16 + n)).bad else (s.bus (16 + n)).bad + 1, window := .expect id true }
      s (linRespond n r s) := by
  have hd : (s.modBus (16 + n) fun x => { x with window := linDone x.window }).bus (16 + n) =
      { s.bus (16 + n) with window := .expect id true } := by rw [modBus_same, hw]; rfl
  have hm := linFail_misses (.modBus (16 + n) (fun x => { x with window := linDone x.window }) s) code missing id
  rw [hd] at hm
  rw [h s n id hw]
  exact hm

/-! ### 10BASE-T1S -/

theorem exec_plcaBeacon (x : Fin 4) (nodes : BitVec 8) (s : State) : exec (.plcaBeacon x nodes) s = .next (beacon x nodes s) := rfl
theorem exec_satLost (x : Fin 4) (k : Fin 8) (s : State) : exec (.satLost x k) s = .next (satLostStep x k s) := rfl
theorem exec_satCollision (x : Fin 4) (k : Fin 8) (s : State) : exec (.satCollision x k) s = .next (satCollide x k s) := rfl

/-- A satellite that is configured and has transmitted in the cycle before. -/
def satHeard (s : State) (x k : Nat) (nodes : BitVec 8) : Bool :=
  nodes.getLsbD k && decide (k + 1 < (s.liveReg (tsAddr x 0)).field 18 15) && (s.liveReg (tsAddr x (8 + k))).bit 19

/-- What a beacon does for one satellite. -/
def beaconSat (x : Nat) (nodes : BitVec 8) (s : State) (k : Nat) : State :=
  if satHeard s x k nodes && !(s.bus (24 + x)).present.getLsbD k then
    busStateLater (24 + x) 0x031 (some (k + 1)) (s.modBus (24 + x) fun y => { y with present := y.present ||| BitVec.ofNat 8 (2 ^ k) })
  else s

/-- Between `s` and `u`, only the satellites present on segment `x` and the reports may differ. -/
def SatsOnly (x : Nat) (s u : State) : Prop :=
  u.bus (24 + x) = { s.bus (24 + x) with present := (u.bus (24 + x)).present } ∧
  (∀ c : Nat, c ≠ 24 + x → u.bus c = s.bus c) ∧ u = { s with buses := u.buses, targets := u.targets }

theorem SatsOnly.refl (x : Nat) (s : State) : SatsOnly x s s := ⟨rfl, fun _ _ => rfl, rfl⟩

theorem SatsOnly.trans {x : Nat} {s u v : State} (a : SatsOnly x s u) (b : SatsOnly x u v) : SatsOnly x s v := by
  obtain ⟨a1, a2, a3⟩ := a
  obtain ⟨b1, b2, b3⟩ := b
  exact ⟨by rw [b1, a1], fun c hc => (b2 c hc).trans (a2 c hc), by rw [b3, a3]⟩

theorem SatsOnly.satHeard {x : Nat} {s u : State} (h : SatsOnly x s u) (k : Nat) (nodes : BitVec 8) :
    Machine.satHeard u x k nodes = Machine.satHeard s x k nodes := by
  rw [h.2.2]; rfl

theorem beaconSat_spec (x : Nat) (nodes : BitVec 8) (s : State) (k : Nat) :
    SatsOnly x s (beaconSat x nodes s k) ∧ ∀ j < 8, ((beaconSat x nodes s k).bus (24 + x)).present.getLsbD j =
      ((s.bus (24 + x)).present.getLsbD j || (decide (k = j) && satHeard s x k nodes)) := by
  unfold beaconSat
  split
  · next h =>
    obtain ⟨mb, mo, mf⟩ := modBus_spec s (24 + x) fun y => { y with present := y.present ||| BitVec.ofNat 8 (2 ^ k) }
    generalize s.modBus (24 + x) (fun y => { y with present := y.present ||| BitVec.ofNat 8 (2 ^ k) }) = v at mb mo mf
    have hb (c : Nat) : (busStateLater (24 + x) 0x031 (some (k + 1)) v).bus c = v.bus c := rfl
    refine ⟨⟨by rw [hb, mb], fun c hc => (hb c).trans (mo c hc), ?_⟩, fun j hj => ?_⟩
    · rw [busStateLater_frame, mf]
    · rw [hb, mb]
      rw [Bool.and_eq_true] at h
      simp only [BitVec.getLsbD_or, BitVec.getLsbD_ofNat, Nat.testBit_two_pow, hj, decide_true, Bool.true_and, h.1, Bool.and_true]
  · next h =>
    refine ⟨.refl x s, fun j hj => ?_⟩
    by_cases hk : k = j
    · subst hk
      rw [Bool.and_eq_true, not_and, Bool.not_eq_true', Bool.not_eq_false] at h
      cases hh : satHeard s x k nodes with
      | false => simp
      | true => rw [h hh]; rfl
    · rw [decide_eq_false hk, Bool.false_and, Bool.or_false]

theorem foldl_beaconSat (x : Nat) (nodes : BitVec 8) (ks : List Nat) (s : State) :
    SatsOnly x s (ks.foldl (beaconSat x nodes) s) ∧ ∀ j < 8, ((ks.foldl (beaconSat x nodes) s).bus (24 + x)).present.getLsbD j =
      ((s.bus (24 + x)).present.getLsbD j || (decide (j ∈ ks) && satHeard s x j nodes)) := by
  induction ks generalizing s with
  | nil => exact ⟨.refl x s, fun j _ => by simp⟩
  | cons k ks ih =>
    obtain ⟨h1, h2⟩ := beaconSat_spec x nodes s k
    obtain ⟨i1, i2⟩ := ih (beaconSat x nodes s k)
    refine ⟨h1.trans i1, fun j hj => (i2 j hj).trans ?_⟩
    rw [h2 j hj, h1.satHeard, Bool.or_assoc]
    by_cases hk : k = j
    · subst hk
      cases satHeard s x k nodes with
      | false => simp
      | true => simp
    · simp [hk, Ne.symm hk]

theorem beacon_marks {s : State} {x : Nat} (nodes : BitVec 8) (ha : busAccepts s (24 + x) = true) (he : busEnabled s (24 + x) = true)
    (hq : (s.bus (24 + x)).quiet = false) :
    beacon x nodes s = (List.range 8).foldl (beaconSat x nodes) (s.modBus (24 + x) fun y => { y with state := 1 }) := by
  rw [beacon, if_neg (by rw [ha, he, hq]; decide)]
  rfl

/-- Settles O36, by the slot, the window of its response and the satellites of a beacon. -/
theorem linAndSegments : Obligations.LinAndSegments := by
  refine ⟨fun s n => ?lin, fun s x => ?segment⟩
  case lin =>
    intro b x
    refine ⟨fun ha he => ⟨fun hq hst hr => ?sleeps, fun hq hst hr hres htab hw hlt => ?next, fun hst => ?sleep, ?pulse, fun hc => ?heard, fun hret => ?restart⟩,
      fun ha hs hc hb hh => ?wakes, fun id => ⟨fun hw => ⟨fun fr sof same => ?stored, .of_next (exec_linResponse ..) ?missing, fun p hp => ?fails⟩,
        fun hw hd hwr fr sof same => ?sent, fun hw => .of_next (exec_linResponse ..) ?readback⟩⟩
    case sleeps => rw [exec_linSlot, linSlotStep_sleeps ha he hq hst hr]
    case sleep => rw [exec_linSleep ha, linSleepStep, if_pos ⟨he, hst⟩]
    case pulse => rw [exec_linWake ha, linWakeStep, if_pos he]
    case heard => rw [exec_wakeReceived, linWakeHeard, hc, Bool.false_and, if_neg Bool.false_ne_true, if_pos ha, if_pos he]
    case restart => rw [exec_linWakeRestart, linRestart, if_pos ⟨he, hret⟩]
    case missing => exact fails_missing.misses hw
    case sent =>
      simp only [exec_linResponse, linRespond, show (s.bus (16 + n)).window = _ from hw]
      rw [objectSent, if_pos ⟨hw, hd, hwr⟩]
    case next =>
      intro w hk
      refine .of_next (exec_linSlot n s) ?_
      rw [linSlotStep_takes ha he hq hst hr (linNext_entry hres htab hw hlt hk)]
      obtain ⟨h1, h2, h3⟩ := modBus_spec s b (Bus.slotTaken x.table (x.entry + 1) [] (linHeader s n x w))
      refine ⟨h1.trans ?_, h2, h3⟩
      rw [← hres]
      rfl
    case wakes =>
      rw [exec_wakeReceived, linWakeHeard, hc, Bool.false_and, if_neg Bool.false_ne_true,
        if_neg (by rw [ha]; exact Bool.false_ne_true), if_pos (by rw [hs, hb]; rfl), raiseWake_free hh]
    case stored =>
      intro v differs
      have hst := linRespond_stored hw fr sof same
      have hvt : (v.bus b).tx = x.tx := by rw [show v.bus b = _ from modBus_same ..]
      have hvl (l : Lane) : v.lane l = s.lane l := by cases l <;> rfl
      refine ⟨fun hno => ?_, fun hyes => ?_⟩
      · rw [exec_linResponse, hst]
        by_cases hf : (freeSlot x).isSome = true
        · have hcmp : compareCopies b same v = v := by
            refine if_pos ?_
            rw [hvt, hvl]
            cases hs : same with
            | true => rfl
            | false =>
              cases hi : (s.lane (otherLane x.tx)).inStep with
              | true => exact absurd ⟨hs, hi, hf⟩ hno
              | false => rfl
          rw [if_pos hf, show compareCopies (16 + n) same _ = v from hcmp]
        · rw [if_neg hf]
      · obtain ⟨hs, hi, hf⟩ := hyes
        have hcmp : compareCopies b same v = v.modBus b fun x => { x with mismatch := x.mismatch + 1 } := by
          refine if_neg ?_
          rw [hvt, hvl, hs, hi]
          decide
        rw [exec_linResponse, hst, if_pos hf]
        exact congrArg _ (congrArg _ hcmp)
    case fails =>
      refine .of_next (exec_linResponse ..) ?_
      rcases List.mem_cons.mp hp with rfl | hp
      · exact fails_checksum.misses hw
      · rcases List.mem_cons.mp hp with rfl | hp
        · exact fails_framing.misses hw
        · rw [List.mem_singleton.mp hp]
          exact fails_readback.misses hw
    case readback =>
      have hb : ((s.modBus b fun x => { x with window := linDone x.window }).modBus b fun x => { x with fresh := x.fresh ++ [id] }).bus b =
          { x with window := .send id true, fresh := x.fresh ++ [id] } := by
        rw [modBus_same, modBus_same, show (s.bus b).window = _ from hw]
        rfl
      have hm := linFail_misses (n := n) ((BusOnly.modBus b (fun x => { x with window := linDone x.window }) s).trans
        (.modBus b (fun x => { x with fresh := x.fresh ++ [id] }) _)) 0x023 false id
      rw [hb] at hm
      rw [linRespond_readback hw]
      exact hm
  case segment =>
    intro b
    refine ⟨fun nodes ha he hq => .of_next (exec_plcaBeacon x nodes s) ?_, fun k => ⟨fun h19 hp => ?_, fun hp => ?_, fun he hk => ?_⟩⟩
    · obtain ⟨mb, mo, mf⟩ := modBus_spec s b fun y => { y with state := 1 }
      obtain ⟨⟨h1, h2, h3⟩, h4⟩ := foldl_beaconSat x nodes (List.range 8) (s.modBus b fun y => { y with state := 1 })
      have hheard (j : Nat) : satHeard (s.modBus b fun y => { y with state := 1 }) x j nodes = satHeard s x j nodes := rfl
      rw [beacon_marks nodes ha he hq]
      generalize s.modBus b (fun y => { y with state := 1 }) = v at mb mo mf h1 h2 h3 h4 hheard
      generalize (List.range 8).foldl (beaconSat x nodes) v = u at h1 h2 h3 h4
      refine ⟨fun k => (h4 k k.isLt).trans ?_, ?_, fun c hc => (h2 c hc).trans (mo c hc), ?_⟩
      · rw [mb, hheard, decide_eq_true (List.mem_range.mpr k.isLt), Bool.true_and]
        rfl
      · rw [h1, mb]
      · rw [h3, mf]
    · rw [exec_satLost, satLostStep, if_pos (by rw [h19, hp]; rfl)]
    · rw [exec_satLost, satLostStep, if_neg (by rw [hp, Bool.and_false]; exact Bool.false_ne_true)]
    · rw [exec_satCollision, satCollide, if_pos (by rw [he, satServed, decide_eq_true hk]; rfl)]

end Sys2Proof.Machine
end

section
/-! SUPPORT. What a Board request may reach (R122 to R139, R500). -/

namespace Sys2Proof.Machine

open Sys2Proof

/-! ### Verdicts -/

theorem verdict_noTarget {a : Nat} (h : a < 0x20000 ∨ 0xA0000 ≤ a) (s : State) (m : Nat) (secure wr : Bool) (lk : LockFlag) :
    verdict s m secure a wr lk = .range := by
  have ht : targetOf a = none := by
    rcases h with h | h
    · exact if_pos h
    · simp (disch := omega) only [targetOf, if_neg]
  rw [verdict, ht]

section
variable {s : State} {t m a : Nat} {secure wr : Bool} (ht : targetOf a = some t)
include ht

theorem verdict_fixed (hf : fixedRefuses s t m secure a wr = true) (lk : LockFlag) : verdict s m secure a wr lk = .refused := by
  rw [verdict, ht]
  exact if_pos hf

/-- Where no fixed check decides, the table does. -/
theorem verdict_table (hf : fixedRefuses s t m secure a wr = false) (ho : ownSwin m a wr = false) (lk : LockFlag) :
    verdict s m secure a wr lk = if tableGrants s t m secure a wr lk = true then .ok else .refused := by
  rw [verdict, ht]
  dsimp only
  rw [hf, ho, if_neg Bool.false_ne_true, Bool.false_or]

end

theorem tableGrants_noEntry {s : State} {t m a : Nat} {secure : Bool} (h : ∀ e < 64, entryMatches s t e m secure a = false)
    (wr : Bool) (lk : LockFlag) : tableGrants s t m secure a wr lk = false := by
  have hf : (List.range 64).find? (fun e => entryMatches s t e m secure a) = none :=
    List.find?_eq_none.mpr fun e he => by rw [h e (List.mem_range.mp he)]; exact Bool.false_ne_true
  rw [tableGrants, hf]

/-- The matching entry of lowest index decides. -/
theorem tableGrants_entry {s : State} {t m a e : Nat} {secure : Bool} (he : e < 64) (hm : entryMatches s t e m secure a = true)
    (h : ∀ d < e, entryMatches s t d m secure a = false) (wr : Bool) (lk : LockFlag) :
    tableGrants s t m secure a wr lk =
      ((if wr then (tableWord s.tables t e 0).bit 7 else (tableWord s.tables t e 0).bit 8) &&
        (lk ≠ .start || (tableWord s.tables t e 0).bit 6)) := by
  have hf : (List.range 64).find? (fun e => entryMatches s t e m secure a) = some e :=
    List.find?_range_eq_some.mpr ⟨hm, List.mem_range.mpr he, fun d hd => by rw [h d hd]; rfl⟩
  rw [tableGrants, hf]

/-! ### Refusals -/

theorem exec_boardRequest (l : Lane) (t : Fin 18) (m : Fin 32) (secure : Bool) (a : Word) (wr : Bool) (lk : LockFlag) (cycle : Nat)
    (s : State) : exec (.boardRequest l t m secure a wr lk cycle) s =
      .next (if secure = masterSecure s m then boardRequest l m a.toNat wr lk cycle s else s) := rfl

theorem boardRequest_refused {s : State} {m a : Nat} {wr : Bool} {lk : LockFlag} (ha : 24 ≤ m ∨ 0x20000 ≤ a)
    (hv : verdict s m (masterSecure s m) a wr lk ≠ .ok) (l : Lane) (cycle : Nat) :
    boardRequest l m a wr lk cycle s = refuseMaster m wr (refuseAccess m a wr 0 s) := by
  rw [boardRequest, if_neg (by omega)]
  split
  · next h _ => exact absurd h hv
  · rfl

theorem refuseAccess_core (m a : Nat) (wr : Bool) (v : Word) (s : State) (c : Nat) :
    (refuseAccess m a wr v s).core c = s.core c := by rw [refuseAccess_ply]; rfl

/-- A firmware core whose access is refused has only the results of the access. -/
theorem refuseMaster_firmware {m : Nat} {s : State} (hm : m < 24) (hl : (s.core m).localProg = false) (wr : Bool) :
    refuseMaster m wr s = refuseLoad m wr s := by
  rw [refuseMaster, if_pos hm, refuseCore]
  exact if_neg (by rw [hl, Bool.false_and]; exact Bool.false_ne_true)

theorem refuseMaster_host {m : Nat} (hm : m ∈ [28, 29, 31]) (wr : Bool) (s : State) : refuseMaster m wr s = s := by
  simp only [List.mem_cons, List.not_mem_nil, or_false] at hm
  rw [refuseMaster, if_neg (by omega), if_neg (by omega), if_neg (by omega)]

/-! ### A core's own view -/

theorem boardRequest_own {m a : Nat} (hm : m < 24) (ha : a < 0x20000) (l : Lane) (wr : Bool) (lk : LockFlag) (cycle : Nat) (s : State) :
    boardRequest l m a wr lk cycle s = ownAccess m a wr (s.core m).lsuO s := if_pos ⟨hm, ha⟩

theorem masterSecure_core {m : Nat} (hm : m < 24) (s : State) : masterSecure s m = !(s.core m).localProg := if_pos hm

section
variable {a : Nat} (hl : 0xC000 ≤ a) (hh : a < 0x1C000)
include hl hh

theorem ownAccess_load (c : Nat) (v : Word) (s : State) : ownAccess c a false v s =
    s.modCore c fun k => { k with data := Sparse.get (fun _ => 0) k.localData a } := by
  have hr : localRead c (s.core c) a = some (Sparse.get (fun _ => 0) (s.core c).localData a) := by
    rw [localRead, if_neg (by omega), if_pos hh]
  simp only [ownAccess, localAccess, hr, Bool.false_and, Bool.false_eq_true, if_false, State.modCore_eq]

theorem ownAccess_store (c : Nat) (v : Word) (s : State) : ownAccess c a true v s =
    s.modCore c fun k => { k with localData := Sparse.set (fun _ => 0) k.localData a v } := by
  have hw : localWrites a = true := by simp [localWrites, hl, hh]
  simp only [ownAccess, localAccess, hw, Bool.false_and, Bool.false_eq_true, if_false, if_true]

end

/-- Settles O37, by the verdict on the request and the entry of the table that decides. -/
theorem boardRequestsAndTables : Obligations.BoardRequestsAndTables := by
  refine ⟨fun s l t m a wr lk cycle ha hv => ?refused, fun s l t m secure a wr lk cycle hs => ?shown,
    fun s l t c a lk cycle hl hh => ?own, fun s m secure a wr lk => ⟨fun h => verdict_noTarget h .., fun t ht hf ho => ?table⟩⟩
  case refused =>
    intro v
    refine ⟨?_, fun hm hp => ?_, fun hm => refuseMaster_host hm wr v⟩
    · rw [exec_boardRequest, if_pos rfl, boardRequest_refused ha hv]
    · exact refuseMaster_firmware hm (by rw [refuseAccess_core]; exact hp) wr
  case shown => rw [exec_boardRequest, if_neg hs]
  case own =>
    have hs : (!(s.core c).localProg) = masterSecure s c := (masterSecure_core c.isLt s).symm
    refine ⟨?_, ?_⟩
    · rw [exec_boardRequest, if_pos hs, boardRequest_own c.isLt (by omega), ownAccess_load hl hh]
    · rw [exec_boardRequest, if_pos hs, boardRequest_own c.isLt (by omega), ownAccess_store hl hh]
  case table =>
    have hv := verdict_table ht hf ho lk
    refine ⟨fun hno => ?_, fun e he hm hmin => ?_⟩
    · rw [hv, tableGrants_noEntry hno, if_neg Bool.false_ne_true]
    · intro w
      rw [hv, tableGrants_entry he hm hmin]
      refine ⟨fun hok => if_pos ?_, fun hno => if_neg ?_⟩
      · obtain ⟨hw, hlk⟩ := hok
        rcases hw with ⟨rfl, hb⟩ | ⟨rfl, hb⟩
        · simpa [w, hb, imp_iff_not_or] using hlk
        · simpa [w, hb, imp_iff_not_or] using hlk
      · rcases hno with ⟨rfl, hb⟩ | ⟨rfl, hb⟩ | ⟨rfl, hb⟩
        · simp [w, hb] 
        · simp [w, hb]
        · simp [w, hb]

end Sys2Proof.Machine
end

section
/-! SUPPORT. Locks, counters and window banks (R144, R147, R148, R150). -/

namespace Sys2Proof.Machine

open Sys2Proof

/-! ### Abandoned locks -/

theorem exec_lockAbandoned (l : Lane) (t : Fin 18) (s : State) : exec (.lockAbandoned l t) s = .next (abandonLock l t s) := rfl
theorem exec_lockRecoveryEnd (l : Lane) (t : Fin 18) (s : State) : exec (.lockRecoveryEnd l t) s = .next (endRecovery l t s) := rfl
theorem exec_arbGrantsRead (l : Lane) (m : Fin 32) (s : State) : exec (.arbGrantsRead l m) s = .next (latchCounters l m s) := rfl

theorem modLane_same (s : State) (l : Lane) (f : LaneSt → LaneSt) : (s.modLane l f).lane l = f (s.lane l) := by
  cases l <;> rfl

theorem modLane_buses (s : State) (l : Lane) (f : LaneSt → LaneSt) : (s.modLane l f).buses = s.buses := by
  cases l <;> rfl

theorem bus_of_buses {s u : State} (h : u.buses = s.buses) (b : Nat) : u.bus b = s.bus b := by rw [State.bus, h, State.bus]

/-- Between `s` and `u`, neither lane differs. -/
def SameLanes (s u : State) : Prop := ∀ l : Lane, u.lane l = s.lane l

/-- Partly written frames are discarded: no bus keeps one of master `m`, and nothing but buses and their registers may differ. -/
theorem foldl_dropFrames (m : Nat) (bs : List Nat) (s : State) :
    let u := bs.foldl (fun s b =>
      if (s.bus b).part = some m then
        ((s.modBus b fun x => { x with part := none }).setCopy (busqAddr b 0) 0).setLive (busqAddr b 0) 0
      else s) s
    SameLanes s u ∧ (∀ b : Nat, b ∈ bs ∨ (s.bus b).part ≠ some m → (u.bus b).part ≠ some m) ∧
      ((∀ b ∈ bs, (s.bus b).part ≠ some m) → u = s) := by
  induction bs generalizing s with
  | nil => exact ⟨fun _ => rfl, fun b hb => hb.resolve_left List.not_mem_nil, fun _ => rfl⟩
  | cons b bs ih =>
    rw [List.foldl_cons]
    by_cases hp : (s.bus b).part = some m
    · rw [if_pos hp]
      obtain ⟨h1, h2, -⟩ := ih (((s.modBus b fun x => { x with part := none }).setCopy (busqAddr b 0) 0).setLive (busqAddr b 0) 0)
      have hb (c : Nat) : (((s.modBus b fun x => { x with part := none }).setCopy (busqAddr b 0) 0).setLive (busqAddr b 0) 0).bus c =
          if b = c then { s.bus b with part := none } else s.bus c := by simp
      refine ⟨fun l => (h1 l).trans (by simp), fun c hc => h2 c ?_, fun hno => absurd hp (hno b List.mem_cons_self)⟩
      rw [hb]
      by_cases hbc : b = c
      · rw [if_pos hbc]
        exact .inr (by simp)
      · rw [if_neg hbc]
        exact hc.imp (fun h => (List.mem_cons.mp h).resolve_left (Ne.symm hbc)) id
    · rw [if_neg hp]
      obtain ⟨h1, h2, h3⟩ := ih s
      refine ⟨h1, fun c hc => h2 c ?_, fun hno => h3 fun c hc => hno c (List.mem_cons_of_mem _ hc)⟩
      rcases hc with hc | hc
      · rcases List.mem_cons.mp hc with rfl | hc
        · exact .inr hp
        · exact .inl hc
      · exact .inr hc

theorem clearCompose_lanes (m : Nat) (s : State) : SameLanes s (clearCompose m s) := by
  unfold clearCompose
  generalize List.range 48 = ks
  induction ks generalizing s with
  | nil => exact fun _ => rfl
  | cons k ks ih =>
    rw [List.foldl_cons]
    refine fun l => (ih _ l).trans ?_
    split
    · cases l <;> rfl
    · rfl

theorem dropFrames_lanes (m : Nat) (s : State) : SameLanes s (dropFrames m s) := by
  unfold dropFrames
  exact (foldl_dropFrames m _ s).1

theorem dropFrames_none {m : Nat} {s : State} (b : Fin 28) : ((dropFrames m s).bus b).part ≠ some m := by
  unfold dropFrames
  exact (foldl_dropFrames m _ s).2.1 b (.inl (List.mem_range.2 b.isLt))

theorem dropFrames_nothing {m : Nat} {s : State} (h : ¬∃ b : Fin 28, (s.bus b).part = some m) : dropFrames m s = s := by
  unfold dropFrames
  exact (foldl_dropFrames m _ s).2.2 fun b hb hp => h ⟨⟨b, List.mem_range.1 hb⟩, hp⟩

theorem dropTileWrites_lanes (m : Nat) (s : State) : SameLanes s (dropTileWrites m s) := fun l => by cases l <;> rfl

/-- The targets whose recovery undoes nothing. -/
theorem recoverLock_nothing {t : Nat} (ht : t ∉ [2, 8, 10, 11, 14, 16, 17]) (m : Nat) (wrote : Bool) (s : State) :
    recoverLock t m wrote s = (false, s) := by
  unfold recoverLock
  split
  iterate 7 · exact absurd ht (by simp)
  rfl

theorem recoverLock_inside {t : Nat} (ht : t ∈ [14, 16, 17]) (m : Nat) (wrote : Bool) (s : State) :
    recoverLock t m wrote s = (wrote, s) := by
  simp only [List.mem_cons, List.not_mem_nil, or_false] at ht
  rcases ht with rfl | rfl | rfl <;> rfl

theorem any_range_iff (n : Nat) (p : Nat → Prop) [DecidablePred p] :
    (List.range n).any (fun b => decide (p b)) = decide (∃ b : Fin n, p b) := by
  rw [Bool.eq_iff_iff, List.any_eq_true]
  simp only [List.mem_range, decide_eq_true_eq]
  exact ⟨fun ⟨b, hb, hp⟩ => ⟨⟨b, hb⟩, hp⟩, fun ⟨b, hp⟩ => ⟨b, b.isLt, hp⟩⟩

theorem recoverLock_buses (m : Nat) (wrote : Bool) (s : State) :
    recoverLock 8 m wrote s = (decide (∃ b : Fin 28, (s.bus b).part = some m), dropFrames m s) :=
  congrArg (·, dropFrames m s) (any_range_iff 28 fun b => (s.bus b).part = some m)

theorem recoverLock_tables (m : Nat) (wrote : Bool) (s : State) :
    recoverLock 11 m wrote s = (decide (s.shadow ≠ s.tables), { s with shadow := s.tables }) := rfl

theorem recoverLock_tiles (m : Nat) (wrote : Bool) (s : State) : recoverLock 2 m wrote s =
    (s.ply.writes.any fun p => decide (p.1 = m) && decide (targetOf p.2.1 = some 2), dropTileWrites m s) := rfl

theorem recoverLock_mailboxes (m : Nat) (wrote : Bool) (s : State) :
    recoverLock 10 m wrote s = (decide ((clearCompose m s).copy ≠ s.copy), clearCompose m s) := rfl

/-- What a recovery undoes lies in no lane. -/
theorem recoverLock_lanes (t m : Nat) (wrote : Bool) (s : State) : SameLanes s (recoverLock t m wrote s).2 := by
  by_cases h2 : t = 2
  · rw [h2, recoverLock_tiles]; exact dropTileWrites_lanes m s
  by_cases h8 : t = 8
  · rw [h8, recoverLock_buses]
    dsimp only
    exact dropFrames_lanes m s
  by_cases h10 : t = 10
  · rw [h10, recoverLock_mailboxes]; exact clearCompose_lanes m s
  by_cases h11 : t = 11
  · rw [h11, recoverLock_tables]; exact fun l => by cases l <;> rfl
  by_cases hin : t ∈ [14, 16, 17]
  · rw [recoverLock_inside hin]; exact fun _ => rfl
  · rw [recoverLock_nothing (by simp only [List.mem_cons, List.not_mem_nil, or_false] at hin ⊢; omega)]
    exact fun _ => rfl

/-- The target of the other lane recovers from an abandoned lock of the same master. -/
def recoversToo (l : Lane) (t m : Nat) (s : State) : Bool :=
  ((s.lane (otherLane l)).lock t).recovering && decide (((s.lane (otherLane l)).lock t).abandonedId = m)

/-- The state in which the lock of master `m` has been abandoned, before its record. -/
def abandoned (l : Lane) (t m : Nat) (s : State) : State :=
  let r := recoverLock t m ((s.lane l).lock t).wrote s
  r.2.modLane l fun g => g.setLock t ⟨none, true, m, r.1 || recoversToo l t m s, false⟩

theorem abandoned_lock (l : Lane) (t m : Nat) (s : State) : ((abandoned l t m s).lane l).lock t =
    ⟨none, true, m, (recoverLock t m ((s.lane l).lock t).wrote s).1 || recoversToo l t m s, false⟩ := by
  rw [abandoned, modLane_same, LaneSt.lock_setLock, if_pos rfl]

section
variable {s : State} {l : Lane} {t m : Nat} (h : ((s.lane l).lock t).owner = some m)
include h

theorem abandonLock_held : abandonLock l t s =
    if (s.lane l).role = .active then laneRecord ⟨2, 2, Word.ofN (0x9BE10 + t), Word.ofN m, Word.ofN t⟩ (abandoned l t m s)
    else abandoned l t m s := by
  have hrole : ((abandoned l t m s).lane l).role = (s.lane l).role := by
    rw [abandoned, modLane_same, recoverLock_lanes t m _ s l]
    rfl
  rw [← hrole]
  simp only [abandonLock, h, abandonIn, List.filter_cons, decide_true, if_true, List.filter_nil, List.isEmpty_cons, Bool.false_eq_true,
    if_false, List.any_cons, List.any_nil, Bool.or_false, decide_eq_true_eq]
  rfl

theorem abandonLock_standby (hr : (s.lane l).role ≠ .active) : abandonLock l t s = abandoned l t m s := by
  rw [abandonLock_held h, if_neg hr]

end

/-! ### Counters -/

theorem LaneSt.counter_setCounter_self (g : LaneSt) (t m : Nat) (x : ArbCounters) : (g.setCounter t m x).counter t m = x := by
  simp [LaneSt.counter, LaneSt.setCounter, Sparse.get_set]

theorem setCopy_lane (s : State) (a : Nat) (v : Word) (l : Lane) : (s.setCopy a v).lane l = s.lane l := by cases l <;> rfl

theorem LaneSt.counter_setCounter_ne {g : LaneSt} {t m t' m' : Nat} (h : 32 * t' + m' ≠ 32 * t + m) (x : ArbCounters) :
    (g.setCounter t m x).counter t' m' = g.counter t' m' := by
  simp [LaneSt.counter, LaneSt.setCounter, Sparse.get_set, Ne.symm h]

/-- The fields of a write that clears the counters. -/
theorem clearWord_fields (t m : BitVec 5) (k : Nat) (hk : k = 8 ∨ k = 9) :
    let v := Word.ofN (t.toNat * 2 ^ 15 + m.toNat * 2 ^ 10 + 2 ^ k)
    v.field 19 15 = t.toNat ∧ v.field 14 10 = m.toNat ∧ v.bit 9 = decide (k = 9) ∧ v.bit 8 = decide (k = 8) := by
  have ht := t.isLt
  have hm := m.isLt
  rcases hk with rfl | rfl
  all_goals
    refine ⟨?_, ?_, ?_, ?_⟩
    · simp only [Word.field, Word.ofN, BitVec.toNat_ofNat, Nat.shiftRight_eq_div_pow]
      omega
    · simp only [Word.field, Word.ofN, BitVec.toNat_ofNat, Nat.shiftRight_eq_div_pow]
      omega
    · simp only [Word.bit, Word.ofN, BitVec.getLsbD_ofNat, Nat.testBit_eq_decide_div_mod_eq]
      simp
      omega
    · simp only [Word.bit, Word.ofN, BitVec.getLsbD_ofNat, Nat.testBit_eq_decide_div_mod_eq]
      simp
      omega

theorem exec_clear (t m : BitVec 5) (s : State) :
    exec (.clear t m) s = .next (cntSelWrite 0 (Word.ofN (t.toNat * 2 ^ 15 + m.toNat * 2 ^ 10 + 2 ^ 9)) s) := rfl
theorem exec_clearAll (t m : BitVec 5) (s : State) :
    exec (.clearAll t m) s = .next (cntSelWrite 0 (Word.ofN (t.toNat * 2 ^ 15 + m.toNat * 2 ^ 10 + 2 ^ 8)) s) := rfl

theorem execClear_fields (t m : BitVec 5) {k : Nat} (hk : k = 8 ∨ k = 9) (s : State) :
    cntSelWrite 0 (Word.ofN (t.toNat * 2 ^ 15 + m.toNat * 2 ^ 10 + 2 ^ k)) s =
      if 17 < t.toNat then writeRefused 0 0x9BE01 (Word.ofN (t.toNat * 2 ^ 15 + m.toNat * 2 ^ 10 + 2 ^ k)) s
      else
        let u := s.setCopy 0x9BE01 (regWrite 0x9BE01 (s.copyReg 0x9BE01) (Word.ofN (t.toNat * 2 ^ 15 + m.toNat * 2 ^ 10 + 2 ^ k)))
        if k = 9 then clearCounter t.toNat m.toNat u else u.mapLanes fun g => { g with counters := [] } := by
  obtain ⟨ht, hm, h9, h8⟩ := clearWord_fields t m k hk
  rw [cntSelWrite, ht, hm, h9, h8]
  refine ite_congr rfl (fun _ => rfl) fun _ => ?_
  rcases hk with rfl | rfl <;> rfl

/-! ### Window banks -/

section
variable {m : Nat} (hm : m < 32)
include hm

theorem targetOf_swin : targetOf (0x9BE40 + m) = some 11 := by
  simp (disch := omega) only [targetOf, if_neg, if_pos]

theorem ownSwin_own : ownSwin m (0x9BE40 + m) true = true := by simp [ownSwin, hm]

/-- No fixed check refuses a master its own window bank. -/
theorem fixedRefuses_swin (h31 : m ≠ 31) (s : State) (secure : Bool) : fixedRefuses s 11 m secure (0x9BE40 + m) true = false := by
  have hl : laneLocal (0x9BE40 + m) = false := by simp [laneLocal]; omega
  have hlog : logRefuses m (0x9BE40 + m) true = false := by simp [logRefuses]; omega
  have hsw : swinRefuses s m (0x9BE40 + m) true = false := by simp [swinRefuses]
  have hacc : accSecure (0x9BE40 + m) = false := by simp [accSecure]; omega
  simp [fixedRefuses, ownSwin_own hm, hl, hlog, hsw, hacc, h31]

theorem verdict_swin (h31 : m ≠ 31) (s : State) (secure : Bool) : verdict s m secure (0x9BE40 + m) true .none = .ok := by
  rw [verdict, targetOf_swin hm]
  dsimp only
  rw [fixedRefuses_swin hm h31, ownSwin_own hm]
  rfl

theorem pointWrite_swin (w : Nat) (v : Word) (s : State) : pointWrite w (0x9BE40 + m) v s = s.setCopy (0x9BE40 + m) (v &&& 3) := by
  have harb : pointWrite w (0x9BE40 + m) v s = arbWrite w (0x9BE40 + m) v s := by
    simp (disch := omega) only [pointWrite, plainWrite, if_neg, if_pos]
  rw [harb]
  simp (disch := omega) only [arbWrite, if_neg, if_pos]
  rw [Nat.add_sub_cancel_left]
  rfl

/-- Another master than a core is refused the window bank of another. -/
theorem verdict_swin_other {w : Nat} (hw : w ≠ m) (hc : 24 ≤ w) (s : State) (secure : Bool) :
    verdict s w secure (0x9BE40 + m) true .none = .refused := by
  refine verdict_fixed (targetOf_swin hm) ?_ .none
  have hsw : swinRefuses s w (0x9BE40 + m) true = true := by
    have h1 : 0x9BE40 ≤ 0x9BE40 + m := by omega
    have h2 : 0x9BE40 + m < 0x9BE60 := by omega
    have h3 : 0x9BE40 + m ≠ 0x9BE40 + w := by omega
    have h4 : ¬w < 24 := by omega
    simp only [swinRefuses, h1, h2, h3, h4, decide_true, decide_false, ne_eq, not_false_eq_true, Bool.and_true, Bool.false_and,
      Bool.not_false]
  simp [fixedRefuses, hsw]

end

theorem exec_arbSwinWrite (w m : Fin 32) (v : Word) (s : State) :
    exec (.arbSwinWrite w m v) s = .next (masterWrite w (0x9BE40 + m) v s) := rfl

/-! ### The statement -/

theorem abandonLock_free {s : State} {l : Lane} {t : Nat} (h : ((s.lane l).lock t).owner = none) : abandonLock l t s = s := by
  rw [abandonLock, h]

theorem abandonLock_lock {s : State} {l : Lane} {t m : Nat} (h : ((s.lane l).lock t).owner = some m) :
    ∃ r : Bool, ((abandonLock l t s).lane l).lock t = ⟨none, true, m, r, false⟩ := by
  refine ⟨(recoverLock t m ((s.lane l).lock t).wrote s).1 || recoversToo l t m s, ?_⟩
  rw [← abandoned_lock, abandonLock_held h]
  split
  · rw [laneRecord_eq]
    cases l <;> rfl
  · rfl

/-- Settles O40: an abandoned lock follows what its recovery undoes, the counters follow the fields of the write, and a window bank
is written past the tables by its own master alone. -/
theorem locksAndCounters : Obligations.LocksAndCounters := by
  refine ⟨fun s l t => ⟨fun h => congrArg _ (abandonLock_free h), fun m h => ?abandon, rfl, fun m => rfl⟩,
    fun s t m => ⟨fun ht => ?clear, fun ht => (exec_clear t m s).trans (congrArg _ ((execClear_fields t m (.inr rfl) s).trans (if_pos ht)))⟩,
    fun s w m v => ⟨fun hw h31 hl => ?own, fun hw hc => ?other⟩⟩
  case abandon =>
    intro wrote part other both
    refine ⟨.of_next (exec_lockAbandoned l t s) (abandonLock_lock h), fun hr => ?_⟩
    have hexec : exec (.lockAbandoned l t) s = .next (abandoned l t m s) :=
      (exec_lockAbandoned l t s).trans (congrArg _ (abandonLock_standby h hr))
    refine ⟨fun ht => ?_, fun ht => ?_, fun ht => ?_, fun ht => ?_⟩
    · rw [hexec, abandoned, recoverLock_nothing ht]
      rfl
    · rw [hexec, abandoned, recoverLock_inside ht]
      rfl
    · have hrec : recoverLock t m ((s.lane l).lock t).wrote s = (part, dropFrames m s) := by rw [ht, recoverLock_buses]
      have hbuses : (abandoned l t m s).buses = (dropFrames m s).buses := by rw [abandoned, hrec, modLane_buses]
      refine .of_next hexec ⟨?_, fun b => ?_, fun hno => ?_⟩
      · rw [abandoned_lock, hrec]
        rfl
      · rw [bus_of_buses hbuses]
        exact dropFrames_none b
      · rw [hbuses, dropFrames_nothing (of_decide_eq_false hno)]
    · have hrec : recoverLock t m ((s.lane l).lock t).wrote s = (decide (s.shadow ≠ s.tables), { s with shadow := s.tables }) := by
        rw [ht, recoverLock_tables]
      rw [hexec, abandoned, hrec]
      rfl
  case clear =>
    have ht' := Nat.not_lt.2 ht
    refine ⟨.of_next ((exec_clear t m s).trans (congrArg _ ((execClear_fields t m (.inr rfl) s).trans (if_neg ht'))))
      ⟨fun l => ⟨?_, fun t' m' hne => ?_⟩, rfl⟩,
      .of_next ((exec_clearAll t m s).trans (congrArg _ ((execClear_fields t m (.inl rfl) s).trans (if_neg ht')))) ⟨fun l t' m' => ?_, rfl⟩⟩
    · rw [if_pos rfl, clearCounter, State.mapLanes_lane, LaneSt.counter_setCounter_self]
      rfl
    · rw [if_pos rfl, clearCounter, State.mapLanes_lane, LaneSt.counter_setCounter_ne hne, setCopy_lane]
    · rw [if_neg (by decide), State.mapLanes_lane]
      rfl
  case own =>
    subst hw
    rw [exec_arbSwinWrite, masterWrite_board v s (by omega), masterDo_ok v _ ⟨verdict_swin w.isLt h31 s _, fun t ht => ?_⟩,
      pointWrite_swin w.isLt, debugWrote, if_neg fun h => h31 h.1]
    · rfl
    · rw [targetOf_swin w.isLt] at ht
      cases ht
      exact hl
  case other =>
    rw [exec_arbSwinWrite, masterWrite_refused v (by omega)]
    exact fun h => nomatch (verdict_swin_other m.isLt (fun h => hw (Fin.ext h)) hc s (masterSecure s w)).symm.trans h

end Sys2Proof.Machine
end

section
/-! SUPPORT. A write of a master at a target that another master has locked in the same cycle (R140, R142). -/

namespace Sys2Proof.Machine

open Sys2Proof

/-- The state after reset in which core 5 has presented an LD_L of the first word of Board SRAM at the first work cycle of the ply:
it was granted at once, and Board SRAM is locked to core 5. -/
def lockedByCore5 : State := boardRequest .white 5 0x20000 false .start (laneCycle State.reset 0) State.reset

theorem lockedByCore5_locked : lockedOut lockedByCore5 (viewLane lockedByCore5) 0 1 = true := by decide

/-- Core 1, which the scan from the pointer reaches before core 5, presents its write in the same cycle: the grant to core 5 is
undone and core 1's request is granted, so that the queue holds core 5's request alone. -/
theorem lockedByCore5_overtaken : ((masterWrite 1 0x20000 7 lockedByCore5).lane (viewLane lockedByCore5)).arb 0 =
    ⟨2, [⟨5, 1200, .start, false, none⟩], 1201, none⟩ := by decide

/-- Refutes O41: a write that meets a lock does not always wait. Where the lock was taken by a grant of the same cycle, and the scan
reaches the writer first, that grant is undone and the writer's request is granted in its place; nothing of the writer joins the
queue. -/
theorem not_masterWrites : ¬ Obligations.MasterWrites := by
  intro h
  obtain ⟨-, hwrite, -⟩ := h
  obtain ⟨u, hu, ⟨q, hq, hm, -⟩, -⟩ := ((hwrite lockedByCore5 1 0x20000 7).1 (by decide) (by decide) (by decide)).2
    lockedByCore5_locked (by decide) (by decide)
  obtain rfl : masterWrite 1 0x20000 7 lockedByCore5 = u := Host.Outcome.next.inj hu
  have hqueue := congrArg Arb.queue lockedByCore5_overtaken
  have hback : (5 : Nat) = 1 := by
    have hlast := congrArg (fun qs : List BoardReq => qs.map BoardReq.master) (hqueue.symm.trans hq)
    simpa [hm] using congrArg List.getLast? hlast
  exact absurd hback (by decide)

end Sys2Proof.Machine
end

section
/-! SUPPORT. Posts and acknowledgements of a mailbox (R444 to R447, R458, R461). -/

namespace Sys2Proof.Machine

open Sys2Proof

/-- A permitted write of another master than debug at a target that nobody has locked is made, after its grant. -/
theorem masterWrite_ok {s : State} {m a t : Nat} (v : Word) (ha : 0x20000 ≤ a) (h31 : m ≠ 31) (ht : targetOf a = some t)
    (hl : lockedOut s (viewLane s) t m = false) (hv : verdict s m (masterSecure s m) a true .none = .ok) :
    masterWrite m a v s = pointWrite m a v (Granted s m a) := by
  rw [masterWrite_board v s ha, masterDo_ok v _ ⟨hv, fun t' ht' => ?_⟩, debugWrote, if_neg fun h => h31 h.1]
  rw [ht] at ht'
  cases ht'
  exact hl

theorem mbxAddr_mod (k : Nat) {off : Nat} (ho : off < 8) : mbxAddr k off % 8 = off := by unfold mbxAddr; omega

section
variable {k : Nat} (hk : k < 48)
include hk

theorem targetOf_mbx {off : Nat} (ho : off < 8) : targetOf (mbxAddr k off) = some 10 := by
  simp (disch := (unfold mbxAddr; omega)) only [targetOf, if_neg, if_pos]

theorem mbxAddr_channel {off : Nat} (ho : off < 8) : (mbxAddr k off - 0x9AC00) / 8 = k := by unfold mbxAddr; omega

theorem pointWrite_mbx {off : Nat} (ho : off < 8) (m : Nat) (v : Word) (s : State) :
    pointWrite m (mbxAddr k off) v s = mbxWrite m (mbxAddr k off) v s := by
  simp (disch := (unfold mbxAddr; omega)) only [pointWrite, plainWrite, if_neg, if_pos]

theorem pointWrite_post (m : Nat) (v : Word) (s : State) : pointWrite m (mbxAddr k 1) v s = postWrite m k v s := by
  rw [pointWrite_mbx hk (by decide)]
  simp (disch := (unfold mbxAddr; omega)) only [mbxWrite, if_pos, mbxAddr_mod k (show 1 < 8 by decide), mbxAddr_channel hk (show 1 < 8 by decide)]

theorem pointWrite_ack (m : Nat) (v : Word) (s : State) : pointWrite m (mbxAddr k 7) v s = ackWrite m k v s := by
  rw [pointWrite_mbx hk (by decide)]
  simp (disch := (unfold mbxAddr; omega)) only [mbxWrite, if_pos, mbxAddr_mod k (show 7 < 8 by decide), mbxAddr_channel hk (show 7 < 8 by decide)]

/-- What the mailbox rules refuse a post: another master than the sender, and a disabled channel. -/
theorem mbxRefuses_post (s : State) (m : Nat) (secure : Bool) (h : m ≠ mbxSender s k ∨ mbxOn s k = false) :
    mbxRefuses s m secure (mbxAddr k 1) true = true := by
  simp (disch := (unfold mbxAddr; omega)) only [mbxRefuses, if_neg, if_pos, mbxAddr_mod k (show 1 < 8 by decide), mbxAddr_channel hk (show 1 < 8 by decide)]
  rcases h with h | h <;> simp [h]

theorem mbxRefuses_ack (s : State) (m : Nat) (secure : Bool) (h : m ≠ mbxReceiver s k ∨ mbxOn s k = false) :
    mbxRefuses s m secure (mbxAddr k 7) true = true := by
  simp (disch := (unfold mbxAddr; omega)) only [mbxRefuses, if_neg, if_pos, mbxAddr_mod k (show 7 < 8 by decide), mbxAddr_channel hk (show 7 < 8 by decide)]
  rcases h with h | h <;> simp [h]

theorem verdict_mbxRefuses {s : State} {m off : Nat} {secure : Bool} (ho : off < 8)
    (h : mbxRefuses s m secure (mbxAddr k off) true = true) : verdict s m secure (mbxAddr k off) true .none = .refused :=
  verdict_fixed (targetOf_mbx hk ho) (by simp [fixedRefuses, h]) .none

end

theorem exec_post (m : Fin 32) (k : Fin 48) (v : Word) (s : State) :
    exec (.post m k v) s = .next (masterWrite m (mbxAddr k 1) v s) := rfl
theorem exec_mbxAck (m : Fin 32) (k : Fin 48) (v : Word) (s : State) :
    exec (.mbxAck m k v) s = .next (masterWrite m (mbxAddr k 7) v s) := rfl

theorem mbxAddr_board (k off : Nat) : 0x20000 ≤ mbxAddr k off := by unfold mbxAddr; omega

section
variable {m k : Nat} {v : Word} {s : State}

theorem postWrite_tooLong (h : 8 < v.field 3 0) : postWrite m k v s = writeRefused m (mbxAddr k 1) v s := if_pos h

theorem postWrite_asks (h : v.field 3 0 ≤ 8) (hb : v.bit 19 = true) : postWrite m k v s = { s with mbx := { s.mbx with
    posts := s.mbx.posts ++ [(k, (List.range (v.field 3 0)).map fun i => s.copyReg (0x9AE00 + 8 * k + i))] } } := by
  rw [postWrite, if_neg (Nat.not_lt.2 h), if_pos hb]
  rfl

theorem postWrite_idle (h : v.field 3 0 ≤ 8) (hb : v.bit 19 = false) : postWrite m k v s = s := by
  rw [postWrite, if_neg (Nat.not_lt.2 h), hb, if_neg Bool.false_ne_true]

theorem ackWrite_taken (h1 : 1 ≤ v.field 19 16) (h8 : v.field 19 16 ≤ 8)
    (h : v.field 19 16 + ackedNow s k ≤ (s.box k).queue.length) :
    ackWrite m k v s = { s with mbx := { s.mbx with acks := s.mbx.acks ++ [(k, v.field 19 16)] } } := by
  rw [ackWrite, if_neg (by omega), ackMessages, if_neg (by omega)]

theorem ackWrite_tooMany (h : 8 < v.field 19 16 ∨ (s.box k).queue.length < v.field 19 16 + ackedNow s k) :
    ackWrite m k v s = writeRefused m (mbxAddr k 7) v s := if_pos h

end

theorem LanesOnly.ackedNow {s u : State} (h : LanesOnly s u) (k : Nat) : Machine.ackedNow u k = Machine.ackedNow s k := by
  rw [Machine.ackedNow, h.mbx, Machine.ackedNow]

/-- Settles O42: the channel's rules decide before the tables, and a permitted write reaches the post or the acknowledgement. -/
theorem mailboxPostAndAck : Obligations.MailboxPostAndAck := by
  intro s m k v h31 hl
  have hpost := exec_post m k v s
  have hack := exec_mbxAck m k v s
  have hok {off : Nat} (ho : off < 8) := masterWrite_ok v (mbxAddr_board k off) h31 (targetOf_mbx k.isLt ho) hl
  have hno {off : Nat} (ho : off < 8) (h : mbxRefuses s m (masterSecure s m) (mbxAddr k off) true = true) :=
    masterWrite_refused (s := s) (m := m) v (mbxAddr_board k off) fun hv => nomatch (verdict_mbxRefuses k.isLt ho h).symm.trans hv
  have hpass {off : Nat} (ho : off < 8) (hv : verdict s m (masterSecure s m) (mbxAddr k off) true .none = .ok) :
      ¬ mbxRefuses s m (masterSecure s m) (mbxAddr k off) true = true :=
    fun h => nomatch (verdict_mbxRefuses k.isLt ho h).symm.trans hv
  refine ⟨⟨fun hv => ?post, fun h => ?_⟩, ⟨fun hv => ?ack, fun h => ?_⟩⟩
  case post =>
    have hdo := hpost.trans (congrArg _ ((hok (by decide) hv).trans (pointWrite_post k.isLt m v _)))
    have hsend : (m : Nat) = mbxSender s k := by
      by_contra h
      exact hpass (by decide) hv (mbxRefuses_post k.isLt s m _ (.inl h))
    have hon : mbxOn s k = true := by
      by_contra h
      exact hpass (by decide) hv (mbxRefuses_post k.isLt s m _ (.inr (Bool.eq_false_iff.2 h)))
    refine ⟨hsend, hon, fun h8 hb => hdo.trans (congrArg _ ((postWrite_asks h8 hb).trans ?_)),
      fun h8 hb => hdo.trans (congrArg _ (postWrite_idle h8 hb)), fun h8 => hdo.trans (congrArg _ (postWrite_tooLong h8))⟩
    simp only [(Granted_only s m (mbxAddr k 1)).mbx, (Granted_only s m (mbxAddr k 1)).copyReg]
    rfl
  case ack =>
    have hdo := hack.trans (congrArg _ ((hok (by decide) hv).trans (pointWrite_ack k.isLt m v _)))
    have hrecv : (m : Nat) = mbxReceiver s k := by
      by_contra h
      exact hpass (by decide) hv (mbxRefuses_ack k.isLt s m _ (.inl h))
    have hon : mbxOn s k = true := by
      by_contra h
      exact hpass (by decide) hv (mbxRefuses_ack k.isLt s m _ (.inr (Bool.eq_false_iff.2 h)))
    have hg := Granted_only s m (mbxAddr k 7)
    refine ⟨hrecv, hon, fun h1 h8 hn => hdo.trans (congrArg _ ((ackWrite_taken h1 h8 ?_).trans ?_)),
      fun hn => hdo.trans (congrArg _ (ackWrite_tooMany ?_))⟩
    · rw [hg.ackedNow, hg.box]
      exact hn
    · rw [hg.mbx]
      rfl
    · rw [hg.ackedNow, hg.box]
      exact hn
  · exact hpost.trans (congrArg _ (hno (by decide) (mbxRefuses_post k.isLt s m _ h)))
  · exact hack.trans (congrArg _ (hno (by decide) (mbxRefuses_ack k.isLt s m _ h)))

end Sys2Proof.Machine
end

section
/-! SUPPORT. A load of Board SRAM where the arbiter remembers a grant of the same cycle (R140, R496). -/

namespace Sys2Proof.Machine

open Sys2Proof

/-- Core 1 runs and can issue a load at work cycle 0. The arbiter of SRAM bank 0 is free, and remembers a grant of this cycle to
core 5, made when the lock of Board SRAM showed an abandoned master. -/
def grantOfThisCycle : State :=
  { State.reset with
    cores := [(1, { Kwask.reset with state := .running, done := false })], copy := [(0x9D10B, 0xFFFF)]
    white := { State.reset.white with
      arbs := [(0, ⟨0, [], 0, some ⟨⟨5, 1200, .none, false, none⟩, 0, 0, ⟨none, true, 0, false, false⟩, ArbCounters.reset⟩⟩)] } }

theorem grantOfThisCycle_issues : Issues grantOfThisCycle 1 5 0 :=
  ⟨by decide, by decide, by decide, by decide, by decide⟩

/-- The scan reaches core 1 before core 5: the remembered grant is undone, and with it the lock is as it was before that grant. -/
theorem grantOfThisCycle_load :
    ((issueOne 1 0x51 0x20000 grantOfThisCycle).lane .white).lock 0 = ⟨none, true, 0, false, false⟩ := by decide

/-- Refutes O44: an arbiter that is free by its queue and its busy time may still hold the grant of an earlier request of the same
cycle, and a load whose core the scan reaches first undoes it. The lock is then the one from before that grant, and not the present
one after a grant to the load. -/
theorem not_loadsAndStores : ¬ Obligations.LoadsAndStores := by
  intro h
  obtain ⟨-, -, hsram⟩ := h grantOfThisCycle 1 0x20000 0 grantOfThisCycle_issues rfl
  obtain ⟨hload, -⟩ := hsram (by decide) (by decide) (by decide) (by decide) (by decide) (by decide) (.inl (by decide))
  obtain ⟨u, hu, -, hlock, -⟩ := hload (.ld 1 0x20000) .none List.mem_cons_self (by decide)
  obtain rfl : issueOne 1 0x51 0x20000 grantOfThisCycle = u := Host.Outcome.next.inj hu
  exact absurd (grantOfThisCycle_load.symm.trans hlock) (by decide)

end Sys2Proof.Machine
end

section
/-! SUPPORT. Branches, stacks and flags of a Kwask core (R494 to R498, R502, R503, R505). -/

namespace Sys2Proof.Machine

open Sys2Proof

theorem CoreIs.trans {c : Nat} {k k' : Kwask} {s t u : State} (h : CoreIs c k s t) (h' : CoreIs c k' t u) : CoreIs c k' s u := by
  obtain ⟨-, hother, hrest⟩ := h
  obtain ⟨hcore, hother', hrest'⟩ := h'
  refine ⟨hcore, fun d hd => (hother' d hd).trans (hother d hd), ?_⟩
  rw [hrest', hrest]

theorem CoreIs.limit {c : Nat} {k : Kwask} {s u : State} (h : CoreIs c k s u) (d : Nat) : kwLimit u d = kwLimit s d := by
  rw [h.2.2]
  rfl

/-! ### Moves that trigger no unit -/

/-- A move that reads no result and triggers no unit. -/
def Move.Quiet (m : Move) : Prop := m.src ≠ 0x50 ∧ resultUnit m.src = none ∧ triggerUnit m.dst = none

theorem issueCycle_quiet (k : Kwask) (ms : List Move) (h : ∀ m ∈ ms, m.Quiet) : issueCycle k ms = k.used := by
  unfold issueCycle
  generalize k.used = n
  induction ms with
  | nil => rfl
  | cons m ms ih =>
    obtain ⟨-, hres, htrig⟩ := h m List.mem_cons_self
    rw [List.foldl_cons, hres, htrig]
    exact ih fun m' hm => h m' (List.mem_cons_of_mem _ hm)

theorem needsLsu_quiet (ms : List Move) (h : ∀ m ∈ ms, m.Quiet) : needsLsu ms = false := by
  refine List.any_eq_false.2 fun m hm => ?_
  obtain ⟨hsrc, -, htrig⟩ := h m hm
  simp [hsrc, htrig]

theorem foldl_trigger_quiet (t : Nat) (ps : List (Nat × Word)) (h : ∀ p ∈ ps, triggerUnit p.1 = none) (k : Kwask) :
    ps.foldl (fun k p => trigger t p.1 p.2 k) k = k := by
  induction ps generalizing k with
  | nil => rfl
  | cons p ps ih =>
    rw [List.foldl_cons, show trigger t p.1 p.2 k = k by simp [trigger, h p List.mem_cons_self]]
    exact ih (fun q hq => h q (List.mem_cons_of_mem _ hq)) k

/-- The core takes the moves in this work cycle: those whose guards hold are `live`; they read no result and trigger no unit, move the
words `ws`, write `k`, and leave `st'` on the data stack. -/
structure Takes (s : State) (c : Nat) (ms live : List Move) (imm : Word) (ws : List Word) (k : Kwask) (st' : List Word) : Prop where
  running : (s.core c).state = .running
  working : (s.core c).done = false
  inLimit : (s.core c).used < kwLimit s c
  guards : ms.filter (fun m => guardHolds (s.core c) m.guard) = live
  quiet : ∀ m ∈ live, m.Quiet
  reads : ∃ st, readSources c (s.core c).used imm (s.core c) live (s.core c).stack = some (ws, st) ∧
    ((live.map Move.dst).zip ws).foldl (fun k p => writePort k p.1 p.2) { s.core c with stack := st } = k
  pushes : pushAll ((((live.map Move.dst).zip ws).filter fun p => p.1 = 0x68).map (·.2)) k.stack = some st'

/-- Such moves have their effect on the core, and what follows them is up to the branch unit. -/
theorem issueMoves_takes {s : State} {c : Nat} {ms live : List Move} {imm : Word} {ws : List Word} {k : Kwask} {st' : List Word}
    (h : Takes s c ms live imm ws k st') :
    let k' := { k with stack := st', used := (s.core c).used + 1 }
    ∃ u, CoreIs c k' s u ∧ issueMoves c ms imm s = follow c (s.core c).used (flowOf k' ((live.map Move.dst).zip ws)) u := by
  intro k'
  obtain ⟨st, hread, hwrite⟩ := h.reads
  have htrig : ∀ p ∈ (live.map Move.dst).zip ws, triggerUnit p.1 = none := fun p hp => by
    obtain ⟨m, hm, hd⟩ := List.mem_map.1 (List.of_mem_zip hp).1
    rw [← hd]
    exact (h.quiet m hm).2.2
  have hbundle : bundleCore (s.core c).used ((live.map Move.dst).zip ws) st (s.core c) = k := by
    rw [bundleCore, hwrite]
    exact foldl_trigger_quiet _ _ htrig k
  have hlsuMove : lsuMove ((live.map Move.dst).zip ws) = none := List.find?_eq_none.2 fun p hp => by simp [htrig p hp]
  refine ⟨(s.setCore c k).setCore c k', (CoreIs.setCore c k' _).of_setCore, ?_⟩
  have hrun : issueMoves c ms imm s = runMoves c (s.core c).used ((live.map Move.dst).zip ws) st s := by
    simp [issueMoves, h.running, h.working, h.guards, needsLsu_quiet live h.quiet, issueCycle_quiet _ live h.quiet,
      Nat.not_le.2 h.inLimit, hread]
  rw [hrun, runMoves, hbundle, hlsuMove]
  dsimp only
  rw [endBundle, State.setCore_core, if_pos rfl, h.pushes]
  simp only [State.modCore_eq, State.setCore_core, if_pos, Bool.false_and, Bool.false_eq_true, if_false]
  rfl

theorem forall_mem_single {P : Move → Prop} {m : Move} (h : P m) : ∀ x ∈ [m], P x := fun _ hx => List.mem_singleton.1 hx ▸ h

section
variable {s : State} {c : Nat} (hr : (s.core c).state = .running) (hd : (s.core c).done = false)
  (hl : (s.core c).used < kwLimit s c)
include hr hd hl

/-- A branch, or a write to FLAGS_CLR, of the word `a`. -/
theorem takes_word {dst : Nat} (a : Word) (hdst : triggerUnit dst = none) (h68 : dst ≠ 0x68) {k : Kwask}
    (hk : writePort (s.core c) dst a = k) : Takes s c [⟨0xFF, dst, 0⟩] [⟨0xFF, dst, 0⟩] a [a] k k.stack where
  running := hr
  working := hd
  inLimit := hl
  guards := rfl
  quiet := forall_mem_single ⟨(by decide : 0xFF ≠ 0x50), rfl, hdst⟩
  reads := ⟨_, rfl, hk⟩
  pushes := by simp [h68, pushAll]

/-- A branch of the word `a` is taken, or not, as the branch unit has it. -/
theorem issueOne_branch {dst : Nat} (a : Word) (hdst : triggerUnit dst = none) (h68 : dst ≠ 0x68)
    (hk : writePort (s.core c) dst a = s.core c) :
    ∃ u, CoreIs c { s.core c with used := (s.core c).used + 1 } s u ∧
      issueOne c dst a s = follow c (s.core c).used (flowOf { s.core c with used := (s.core c).used + 1 } [(dst, a)]) u :=
  issueMoves_takes (takes_word hr hd hl a hdst h68 hk)

end

/-! ### What follows a bundle -/

section
variable {s u : State} {c : Nat} {k : Kwask} (hu : CoreIs c k s u)
include hu

theorem follow_next (t : Nat) (hpc : k.pc < 16383) : CoreIs c { k with used := t + 1, pc := k.pc + 1 } s (follow c t .next u) := by
  have h := goOn_coreIs c ((u.core c).pc + 1) (t + 1) u (by rw [hu.1]; exact hpc)
  rw [hu.1] at h
  rw [follow, hu.1]
  exact hu.trans h

theorem follow_jump (t : Nat) {b : Nat} (hb : b ≤ 16383) : CoreIs c { k with used := t + 2, pc := b } s (follow c t (.jump b) u) := by
  have h := goOn_coreIs c b (t + 2) u hb
  rw [hu.1] at h
  exact hu.trans h

theorem follow_call (t : Nat) {b : Nat} (hb : b ≤ 16383) :
    CoreIs c { k with used := t + 2, pc := b, rstack := (k.pc + 1) :: k.rstack } s (follow c t (.call b) u) := by
  have h := goOn_coreIs c b (t + 2) (u.setCore c { k with rstack := (k.pc + 1) :: k.rstack }) hb
  rw [State.setCore_core, if_pos rfl] at h
  rw [follow, State.modCore_eq, hu.1]
  exact (hu.trans (CoreIs.setCore ..)).trans h

theorem follow_ret (t : Nat) {b : Nat} (hb : b ≤ 16383) :
    CoreIs c { k with used := t + 2, pc := b, rstack := k.rstack.drop 1 } s (follow c t (.ret b) u) := by
  have h := goOn_coreIs c b (t + 2) (u.setCore c { k with rstack := k.rstack.drop 1 }) hb
  rw [State.setCore_core, if_pos rfl] at h
  rw [follow, State.modCore_eq, hu.1]
  exact (hu.trans (CoreIs.setCore ..)).trans h

/-- HALT, or SLEEP, within the limit. -/
theorem haltCore_coreIs (t : Nat) (asleep : Bool) (hlim : max (t + 1) (k.readyAt 5) < kwLimit s c) :
    CoreIs c (if asleep && decide (c ≠ 0) then (k.finish (max (t + 1) (k.readyAt 5))).asleep
      else k.finish (max (t + 1) (k.readyAt 5))) s (haltCore c t asleep u) := by
  have hin : ¬kwLimit u c ≤ max (t + 1) (k.readyAt 5) := by rw [hu.limit]; omega
  simp only [haltCore, hu.1, if_neg hin]
  exact hu.trans (CoreIs.setCore ..)

end

/-! ### The limit -/

/-- A local program that reaches its limit stops with cause 3, with its record. -/
theorem overrun_localProg {s : State} {c : Nat} (hlocal : (s.core c).localProg = true) :
    let k := s.core c
    CoreIs c { k with
      state := .stopped, cause := 3, lastFlags := k.flags, done := true, used := kwLimit s c, lastUsed := kwLimit s c,
      usedMax := max k.usedMax (kwLimit s c), stops := min (k.stops + 1) 0x3FF } { s with ply := (overrun c s).ply } (overrun c s) ∧
    (overrun c s).ply = { s.ply with recs := s.ply.recs ++
      [(⟨0x0D, 1, Word.ofN (0x9D101 + 8 * c), Word.ofN (c * 2 ^ 15 + 3), Word.ofN k.pc⟩, s.ply.at_)] } := by
  intro k
  have hstop : overrun c s = stopProgram c 3 k.pc (s.setCore c { k with used := kwLimit s c }) := by
    simp only [overrun, State.modCore_eq]
    exact if_pos hlocal
  rw [hstop]
  simp only [stopProgram, laneRecord_eq, State.modCore_eq, State.setCore_core, if_pos]
  exact ⟨⟨by simp [State.core, State.setCore, Sparse.get_set, satTo], fun d hd => by
    simp [State.core, State.setCore, Sparse.get_set, Ne.symm hd], rfl⟩, rfl⟩

/-! ### The statement -/

/-- Settles O45: each command is one move; what it writes, and what the branch unit makes follow it. -/
theorem branchesAndStacks : Obligations.BranchesAndStacks := by
  intro s c a k
  refine ⟨fun hr hd hl => ⟨fun ha => ?jumps, fun hpc => ?next, fun b st hst hb => ?ret, ?halts⟩, fun hr hd hw hp hlocal => ?budget⟩
  case jumps =>
    refine ⟨?_, fun h0 => ?_, fun h0 => ?_, fun h64 => ?_⟩
    · obtain ⟨u, hu, hx⟩ := issueOne_branch hr hd hl (dst := 0x59) a rfl (by decide) rfl
      exact .of_next (congrArg Host.Outcome.next hx) (follow_jump hu _ ha)
    · obtain ⟨u, hu, hx⟩ := issueOne_branch hr hd hl (dst := 0x5A) a rfl (by decide) rfl
      exact .of_next (congrArg Host.Outcome.next (hx.trans (congrArg (follow c _ · u) (if_pos h0)))) (follow_jump hu _ ha)
    · obtain ⟨u, hu, hx⟩ := issueOne_branch hr hd hl (dst := 0x5B) a rfl (by decide) rfl
      exact .of_next (congrArg Host.Outcome.next (hx.trans (congrArg (follow c _ · u) (if_neg h0)))) (follow_jump hu _ ha)
    · obtain ⟨u, hu, hx⟩ := issueOne_branch hr hd hl (dst := 0x60) a rfl (by decide) rfl
      exact .of_next (congrArg Host.Outcome.next (hx.trans (congrArg (follow c _ · u) (if_neg (Nat.not_le.2 h64))))) (follow_call hu _ ha)
  case next =>
    refine ⟨fun h0 => ?_, fun h0 => ?_, fun h256 => ?_, fun w st hst => ?_, ?_⟩
    · obtain ⟨u, hu, hx⟩ := issueOne_branch hr hd hl (dst := 0x5A) a rfl (by decide) rfl
      exact .of_next (congrArg Host.Outcome.next (hx.trans (congrArg (follow c _ · u) (if_neg h0)))) (follow_next hu _ hpc)
    · obtain ⟨u, hu, hx⟩ := issueOne_branch hr hd hl (dst := 0x5B) a rfl (by decide) rfl
      exact .of_next (congrArg Host.Outcome.next (hx.trans (congrArg (follow c _ · u) (if_pos h0)))) (follow_next hu _ hpc)
    · obtain ⟨u, hu, hx⟩ := issueMoves_takes (s := s) (c := c) (ms := [⟨0xFF, 0x68, 0⟩]) (imm := a) (k := k) (st' := a :: k.stack)
        ⟨hr, hd, hl, rfl, forall_mem_single ⟨by decide, rfl, rfl⟩, ⟨_, rfl, rfl⟩, if_neg (Nat.not_le.2 h256)⟩
      exact .of_next (congrArg Host.Outcome.next hx) (follow_next hu _ hpc)
    · obtain ⟨u, hu, hx⟩ := issueMoves_takes (s := s) (c := c) (ms := [⟨0x68, 0x1FF, 0⟩]) (imm := 0) (ws := [w])
        (k := { k with stack := st }) (st' := st)
        ⟨hr, hd, hl, rfl, forall_mem_single ⟨by decide, rfl, rfl⟩, ⟨st, by rw [hst]; rfl, rfl⟩, rfl⟩
      exact .of_next (congrArg Host.Outcome.next hx) (follow_next hu _ hpc)
    · obtain ⟨u, hu, hx⟩ := issueMoves_takes (takes_word hr hd hl (dst := 0x78) a rfl (by decide) rfl)
      exact .of_next (congrArg Host.Outcome.next hx) (follow_next hu _ hpc)
  case ret =>
    obtain ⟨u, hu, hx⟩ := issueOne_branch hr hd hl (dst := 0x61) 0 rfl (by decide) rfl
    have hflow : flowOf { k with used := k.used + 1 } [(0x61, 0)] = .ret b := by
      change (match k.rstack with | [] => Flow.fault | b :: _ => Flow.ret b) = .ret b
      rw [hst]
    have h := follow_ret hu k.used hb
    rw [show ({ k with used := k.used + 1 } : Kwask).rstack = b :: st from hst] at h
    exact .of_next (congrArg Host.Outcome.next (hx.trans (congrArg (follow c _ · u) hflow))) h
  case halts =>
    intro e he
    obtain ⟨u, hu, hx⟩ := issueOne_branch hr hd hl (dst := 0x5C) 0 rfl (by decide) rfl
    obtain ⟨v, hv, hy⟩ := issueOne_branch hr hd hl (dst := 0x5D) 0 rfl (by decide) rfl
    have hhalt := haltCore_coreIs hu k.used false he
    have hsleep := haltCore_coreIs hv k.used true he
    refine ⟨⟨.of_next (congrArg Host.Outcome.next hx) hhalt, fun h0 => .of_next (congrArg Host.Outcome.next hy) ?_⟩, fun h0 => .of_next (congrArg Host.Outcome.next hy) ?_⟩
    · rw [if_neg (by simp [h0])] at hsleep
      exact hsleep
    · rw [if_pos (by simp [h0])] at hsleep
      have hcore := hsleep.1
      refine ⟨?_, ?_, ?_, ?_, ?_, ?_, ?_, ?_, ?_, rfl, hsleep.2⟩
      all_goals
        refine (congrArg _ hcore).trans ?_
        rfl
  case budget =>
    have hrun := overrun_localProg (s := s) (c := c) hlocal
    exact .of_next (congrArg Host.Outcome.next (if_pos ⟨hr, hd, hw, hp, hlocal⟩)) hrun

end Sys2Proof.Machine
end

section
/-! SUPPORT. Bundles and the control of the cores (R490 to R494, R503 to R510). -/

namespace Sys2Proof.Machine

open Sys2Proof

/-! ### Moves between registers (R491, R494) -/

theorem Move.ofWord_ofN {a b g : Nat} (ha : a < 2 ^ 9) (hb : b < 2 ^ 9) (hg : g < 4) :
    Move.ofWord (Word.ofN (a * 2 ^ 11 + b * 4 + g)) = ⟨a, b, g⟩ := by
  simp only [Move.ofWord, Move.mk.injEq, Word.field, Word.ofN, BitVec.toNat_ofNat, Nat.shiftRight_eq_div_pow]
  omega

theorem Move.ofWord_unguarded {a b : Nat} (ha : a < 2 ^ 9) (hb : b < 2 ^ 9) :
    Move.ofWord (Word.ofN (a * 2 ^ 11 + b * 4)) = ⟨a, b, 0⟩ := by
  simp only [Move.ofWord, Move.mk.injEq, Word.field, Word.ofN, BitVec.toNat_ofNat, Nat.shiftRight_eq_div_pow]
  omega

theorem Move.ofWord_toFirst {a : Nat} (ha : a < 2 ^ 9) : Move.ofWord (Word.ofN (a * 2 ^ 11)) = ⟨a, 0, 0⟩ := by
  simp only [Move.ofWord, Move.mk.injEq, Word.field, Word.ofN, BitVec.toNat_ofNat, Nat.shiftRight_eq_div_pow]
  omega

section
variable {d : Nat} (hd : d < 0x20)
include hd

theorem triggerUnit_reg : triggerUnit d = none := by simp (disch := omega) only [triggerUnit, if_neg]

theorem resultUnit_reg : resultUnit d = none := by
  unfold resultUnit
  split
  case h_9 => rfl
  all_goals omega

theorem branches_reg : branches d = false := by simp [branches]; omega

theorem flowOf_reg (k : Kwask) (v : Word) (ps : List (Nat × Word)) : flowOf k ((d, v) :: ps) = flowOf k ps := by
  rw [flowOf] <;> omega

theorem dstDefined_reg : dstDefined d = true := by simp [dstDefined, hd]

theorem srcDefined_reg : srcDefined d = true := by simp [srcDefined, hd]

theorem readSource_reg (c : Nat) (k : Kwask) (t : Nat) (imm : Word) : readSource c k t d imm = k.reg d := if_pos hd

theorem writePort_reg (k : Kwask) (v : Word) : writePort k d v = { k with g := Sparse.set (fun _ => 0) k.g d v } := if_pos hd

theorem quiet_reg {e : Nat} (he : e < 0x20) (g : Nat) : (⟨d, e, g⟩ : Move).Quiet :=
  ⟨(by omega : d ≠ 0x50), resultUnit_reg hd, triggerUnit_reg he⟩

end

theorem Kwask.reg_set (k : Kwask) (g : List (Nat × Word)) (i m : Nat) (v : Word) :
    ({ k with g := Sparse.set (fun _ => 0) g i v } : Kwask).reg m = if i = m then v else Sparse.get (fun _ => 0) g m :=
  Sparse.get_set ..

/-- Register `i` moves into `j`, and `j` into `i`: both are read before either is written. -/
def Kwask.exchanged (k : Kwask) (i j : Nat) : Kwask :=
  { k with g := Sparse.set (fun _ => 0) (Sparse.set (fun _ => 0) k.g j (k.reg i)) i (k.reg j) }

theorem Kwask.exchanged_reg (i j : Nat) (k : Kwask) (m : Nat) :
    (k.exchanged i j).reg m = if m = i then k.reg j else if m = j then k.reg i else k.reg m := by
  rw [Kwask.exchanged, Kwask.reg_set, Sparse.get_set]
  by_cases hi : m = i
  · rw [if_pos hi, if_pos hi.symm]
  · rw [if_neg hi, if_neg (Ne.symm hi)]
    by_cases hj : m = j
    · rw [if_pos hj, if_pos hj.symm]
    · rw [if_neg hj, if_neg (Ne.symm hj), Kwask.reg]

section
variable {s : State} {c i j : Nat} (hi : i < 0x20) (hj : j < 0x20)
include hi hj

/-- The bundle that exchanges two registers, with a third move whose guard is G0. -/
theorem exchange_legal : bundleLegal [⟨i, j, 0⟩, ⟨j, i, 0⟩, ⟨i, j, 1⟩] = true := by
  have hi' : i ≠ 0xFF := by omega
  simp [bundleLegal, srcDefined_reg hi, srcDefined_reg hj, dstDefined_reg hi, dstDefined_reg hj, triggerUnit_reg hi,
    triggerUnit_reg hj, branches_reg hi, branches_reg hj, allDifferent, hi']

theorem exchange_takes (hr : (s.core c).state = .running) (hd : (s.core c).done = false) (hl : (s.core c).used < kwLimit s c)
    (hg : (s.core c).g0 = false) (imm : Word) :
    Takes s c [⟨i, j, 0⟩, ⟨j, i, 0⟩, ⟨i, j, 1⟩] [⟨i, j, 0⟩, ⟨j, i, 0⟩] imm [(s.core c).reg i, (s.core c).reg j]
      ((s.core c).exchanged i j) (s.core c).stack where
  running := hr
  working := hd
  inLimit := hl
  guards := by simp [guardHolds, hg]
  quiet := fun m hm => by
    rcases List.mem_cons.1 hm with rfl | hm
    · exact quiet_reg hi hj 0
    · rw [List.mem_singleton.1 hm]
      exact quiet_reg hj hi 0
  reads := by
    have hi68 : i ≠ 0x68 := by omega
    have hj68 : j ≠ 0x68 := by omega
    refine ⟨(s.core c).stack, ?_, ?_⟩
    · simp [readSources, hi68, hj68, readSource_reg hi, readSource_reg hj]
    · simp [writePort_reg hi, writePort_reg hj, Kwask.exchanged]
  pushes := by
    have hi68 : i ≠ 0x68 := by omega
    have hj68 : j ≠ 0x68 := by omega
    simp [hi68, hj68, pushAll, Kwask.exchanged]

end

/-! ### The bundle at the program counter -/

theorem exec_bundleIssue (c : Fin 24) (s : State) : exec (.bundleIssue c) s = .next (issueBundle c s) := rfl

section
variable {s : State} {c : Nat} (hr : (s.core c).state = .running) (hd : (s.core c).done = false)
include hr hd

theorem issueBundle_legal {w0 w1 w2 : Word} (h0 : programWord c (s.core c) (3 * (s.core c).pc) = w0)
    (h1 : programWord c (s.core c) (3 * (s.core c).pc + 1) = w1) (h2 : programWord c (s.core c) (3 * (s.core c).pc + 2) = w2)
    (h : bundleLegal (bundleMoves w0 w1 w2) = true) : issueBundle c s = issueMoves c (bundleMoves w0 w1 w2) w2 s := by
  simp [issueBundle, hr, hd, h0, h1, h2, h]

theorem issueBundle_illegal {w0 w1 w2 : Word} (h0 : programWord c (s.core c) (3 * (s.core c).pc) = w0)
    (h1 : programWord c (s.core c) (3 * (s.core c).pc + 1) = w1) (h2 : programWord c (s.core c) (3 * (s.core c).pc + 2) = w2)
    (h : bundleLegal (bundleMoves w0 w1 w2) = false) (hl : (s.core c).used < kwLimit s c) :
    issueBundle c s = stopProgram c 5 (s.core c).pc (s.modCore c fun k => { k with used := k.used + 1 }) := by
  simp [issueBundle, hr, hd, h0, h1, h2, h, Nat.not_le.2 hl]

end

/-- A bundle that names an undefined destination in its first slot is illegal. -/
theorem bundleLegal_undefined {m : Move} (ms : List Move) (hm : dstDefined m.dst = false) : bundleLegal (m :: ms) = false := by
  simp [bundleLegal, hm]

theorem programWord_local {k : Kwask} (h : k.localProg = true) (c i : Nat) :
    programWord c k i = Sparse.get (fun _ => 0) k.program i := if_pos h

theorem bundleMoves_short {w0 w1 : Word} (w2 : Word) (h0 : (Move.ofWord w0).src ≠ 0xFF) (h1 : (Move.ofWord w1).src ≠ 0xFF) :
    bundleMoves w0 w1 w2 = [Move.ofWord w0, Move.ofWord w1, Move.ofWord w2] := if_neg (by simp [h0, h1])

theorem laneRecord_core (r : RecDraft) (s : State) (c : Nat) : (laneRecord r s).core c = s.core c := rfl

theorem stopProgram_core (c cause bundle : Nat) (s : State) : (stopProgram c cause bundle s).core c = { s.core c with
    state := .stopped, cause := cause, lastFlags := if cause = 1 ∨ cause = 2 then (s.core c).lastFlags else (s.core c).flags,
    done := true, lastUsed := (s.core c).used, usedMax := max (s.core c).usedMax (s.core c).used,
    stops := if cause = 1 ∨ cause = 2 then (s.core c).stops else satTo 0x3FF ((s.core c).stops + 1) } := by
  rw [stopProgram, State.modCore_eq, laneRecord_core, State.setCore_core, if_pos rfl]

/-- Settles O46: all sources are read before the first write, so two moves exchange registers; an undefined destination makes the
bundle illegal. -/
theorem bundleReadsBeforeItWrites : Obligations.BundleReadsBeforeItWrites := by
  intro s c i j k word hr hd hlocal hl hij
  have hijn : (i : Nat) ≠ j := fun h => hij (Fin.ext h)
  have hword (n : Nat) : programWord c k (3 * k.pc + n) = word n := programWord_local hlocal c _
  have hi : (i : Nat) < 2 ^ 9 := by omega
  have hj : (j : Nat) < 2 ^ 9 := by omega
  refine ⟨fun hpc w0 w1 w2 hg => ?_, fun w0 w1 => ?_⟩
  · have m0 : Move.ofWord (word 0) = ⟨i, j, 0⟩ := by rw [w0, Move.ofWord_unguarded hi hj]
    have m1 : Move.ofWord (word 1) = ⟨j, i, 0⟩ := by rw [w1, Move.ofWord_unguarded hj hi]
    have m2 : Move.ofWord (word 2) = ⟨i, j, 1⟩ := by rw [w2, Move.ofWord_ofN hi hj (by decide)]
    have hms : bundleMoves (word 0) (word 1) (word 2) = [⟨i, j, 0⟩, ⟨j, i, 0⟩, ⟨i, j, 1⟩] := by
      rw [bundleMoves_short _ (by rw [m0]; exact (by omega : (i : Nat) ≠ 0xFF)) (by rw [m1]; exact (by omega : (j : Nat) ≠ 0xFF)),
        m0, m1, m2]
    have hrun := issueBundle_legal hr hd (hword 0) (hword 1) (hword 2) (by rw [hms]; exact exchange_legal i.isLt j.isLt)
    obtain ⟨u, hu, hx⟩ := issueMoves_takes (exchange_takes i.isLt j.isLt hr hd hl hg (word 2))
    rw [hms, hx] at hrun
    have hflow (k' : Kwask) (v w : Word) : flowOf k' [((j : Nat), v), ((i : Nat), w)] = .next := by
      rw [flowOf_reg j.isLt, flowOf_reg i.isLt]
      rfl
    have hcore := follow_next hu (s.core c).used hpc
    have hexec := (exec_bundleIssue c s).trans (congrArg _ (hrun.trans (congrArg (follow c _ · u) (hflow ..))))
    refine .of_next hexec ?_
    have hreg (m : Nat) : ((follow c (s.core c).used .next u).core c).reg m = (k.exchanged i j).reg m := by
      rw [hcore.1]
      rfl
    simp only [hreg, Kwask.exchanged_reg]
    refine ⟨if_pos trivial, by rw [if_neg (Ne.symm hijn), if_pos trivial], fun m hi hj => by rw [if_neg hi, if_neg hj], ?_⟩
    have hg' : ((follow c (s.core c).used .next u).core c).g = (k.exchanged i j).g := by rw [hcore.1]
    rw [hg']
    exact hcore
  · have m0 : Move.ofWord (word 0) = ⟨i, 0x7F, 0⟩ := by rw [w0, Move.ofWord_unguarded hi (by decide)]
    have m1 : Move.ofWord (word 1) = ⟨j, 0, 0⟩ := by rw [w1, Move.ofWord_toFirst hj]
    have hms : bundleMoves (word 0) (word 1) (word 2) = [⟨i, 0x7F, 0⟩, ⟨j, 0, 0⟩, Move.ofWord (word 2)] := by
      rw [bundleMoves_short _ (by rw [m0]; exact (by omega : (i : Nat) ≠ 0xFF)) (by rw [m1]; exact (by omega : (j : Nat) ≠ 0xFF)),
        m0, m1]
    have hrun := issueBundle_illegal hr hd (hword 0) (hword 1) (hword 2) (by rw [hms]; exact bundleLegal_undefined _ rfl) hl
    refine .of_next ((exec_bundleIssue c s).trans (congrArg _ hrun)) ?_
    have hstop := stopProgram_core c 5 (s.core c).pc (s.modCore c fun k => { k with used := k.used + 1 })
    rw [State.modCore_eq, State.setCore_core, if_pos rfl] at hstop
    rw [State.modCore_eq]
    simp only [hstop]
    exact ⟨trivial, trivial, rfl, rfl⟩

end Sys2Proof.Machine
end

section
/-! SUPPORT. Control of the cores (R490, R505, R506, R510). -/

namespace Sys2Proof.Machine

open Sys2Proof

/-- Address of KW_CTL of core `c`. -/
def kwCtlAddr (c : Nat) : Nat := 0x9D100 + 8 * c

section
variable {c : Nat} (hc : c < 24)
include hc

theorem targetOf_kwCtl : targetOf (kwCtlAddr c) = some 13 := by
  simp (disch := (unfold kwCtlAddr; omega)) only [targetOf, if_neg, if_pos]

theorem pointWrite_kwCtl (m : Nat) (v : Word) (s : State) : pointWrite m (kwCtlAddr c) v s = kwCtlWrite m c v s := by
  have hmod : kwCtlAddr c % 8 = 0 := by unfold kwCtlAddr; omega
  have hdiv : (kwCtlAddr c - 0x9D100) / 8 = c := by unfold kwCtlAddr; omega
  have hkw : pointWrite m (kwCtlAddr c) v s = kwWrite m (kwCtlAddr c) v s := by
    simp (disch := (unfold kwCtlAddr; omega)) only [pointWrite, plainWrite, if_neg, if_pos]
  simp only [hkw, kwWrite, hmod, hdiv]

end

/-! ### A write of one bit -/

/-- RUN of a loaded core is kept. -/
theorem kwCtlWrite_run {s : State} {c : Nat} (h : (s.core c).state ≠ .unloaded) (m : Nat) :
    CoreIs c { s.core c with ctl := (s.core c).ctl ||| 0x80000 } s (kwCtlWrite m c 0x80000 s) := by
  have hw : (if c = 0 then (0x80000 : Word) &&& 0x80000 else 0x80000 &&& 0xF0000) = 0x80000 := by split <;> rfl
  have hbad : (decide (c = 0) && (Word.bit 0x80000 18 || Word.bit 0x80000 17 || Word.bit 0x80000 16) ||
      Word.bit 0x80000 19 && decide ((s.core c).state = .unloaded)) = false := by
    rw [show (Word.bit 0x80000 18 || Word.bit 0x80000 17 || Word.bit 0x80000 16) = false from rfl, decide_eq_false h]
    simp
  simp only [kwCtlWrite, hbad, hw, Bool.false_eq_true, if_false, if_neg h, State.modCore_eq]
  exact CoreIs.setCore ..

/-- RUN of an unloaded core is refused. -/
theorem kwCtlWrite_unloaded {s : State} {c : Nat} (h : (s.core c).state = .unloaded) (m : Nat) :
    kwCtlWrite m c 0x80000 s = writeRefused m (kwCtlAddr c) 0x80000 s := by
  have hw : (if c = 0 then (0x80000 : Word) &&& 0x80000 else 0x80000 &&& 0xF0000) = 0x80000 := by split <;> rfl
  have hbad : (decide (c = 0) && (Word.bit 0x80000 18 || Word.bit 0x80000 17 || Word.bit 0x80000 16) ||
      Word.bit 0x80000 19 && decide ((s.core c).state = .unloaded)) = true := by
    rw [decide_eq_true h, show Word.bit 0x80000 19 = true from rfl]
    simp
  have hcore : ((writeRefused m (0x9D100 + 8 * c) 0x80000 s).core c).state = .unloaded := h
  have hzero : Word.setBit 0x80000 19 false = 0 := rfl
  simp only [kwCtlWrite, hbad, hw, if_true, if_pos hcore, hzero]
  rfl

/-- STOP, SLEEP and RESET. -/
def haltingBits : List Word := [0x40000, 0x20000, 0x10000]

theorem haltingBits_spec {v : Word} (hv : v ∈ haltingBits) : (v.bit 18 || v.bit 17 || v.bit 16) = true ∧ v.bit 19 = false ∧
    v &&& 0x80000 = 0 ∧ v &&& 0xF0000 = v ∧ v.setBit 19 false = v ∧ v ≠ 0 := by
  simp only [haltingBits, List.mem_cons, List.not_mem_nil, or_false] at hv
  rcases hv with rfl | rfl | rfl <;> decide

/-- STOP, SLEEP and RESET of another core than 0 are kept. -/
theorem kwCtlWrite_halting {v : Word} (hv : v ∈ haltingBits) {c : Nat} (hc : c ≠ 0) (m : Nat) (s : State) :
    CoreIs c { s.core c with ctl := (s.core c).ctl ||| v } s (kwCtlWrite m c v s) := by
  obtain ⟨-, h19, -, hall, hset, hne⟩ := haltingBits_spec hv
  simp only [kwCtlWrite, decide_eq_false hc, h19, Bool.false_and, Bool.or_self, Bool.false_eq_true, if_false, if_neg hc, hall, hset,
    ite_self, if_neg hne, State.modCore_eq]
  exact CoreIs.setCore ..

/-- Those of core 0 are refused. -/
theorem kwCtlWrite_core0 {v : Word} (hv : v ∈ haltingBits) (m : Nat) (s : State) :
    kwCtlWrite m 0 v s = writeRefused m (kwCtlAddr 0) v s := by
  obtain ⟨hany, h19, hrun, -⟩ := haltingBits_spec hv
  have hzero : Word.setBit 0 19 false = 0 := rfl
  simp only [kwCtlWrite, decide_true, hany, h19, Bool.true_and, Bool.false_and, Bool.or_false, if_true, hrun, hzero, ite_self]
  rfl

/-- Settles O47: the write passes the Board's checks, and the bit is kept or refused by its core. -/
theorem coreControl : Obligations.CoreControl := by
  intro s m c a grant h31 hv hl
  have hwrite (v : Word) : masterWrite m (kwCtlAddr c) v s = kwCtlWrite m c v (Granted s m (kwCtlAddr c)) := by
    have hboard : 0x20000 ≤ kwCtlAddr c := by unfold kwCtlAddr; omega
    rw [masterWrite_ok v hboard h31 (targetOf_kwCtl c.isLt) (hl 13 (targetOf_kwCtl c.isLt)) hv, pointWrite_kwCtl c.isLt]
  have hcore : (Granted s m (kwCtlAddr c)).core c = s.core c := (Granted_only s m _).core c
  have halting {i : Instr} {v : Word} (hv : v ∈ haltingBits) (hx : exec i s = .next (masterWrite m (kwCtlAddr c) v s))
      (hc : (c : Nat) ≠ 0) :
      Completes i s fun u => CoreIs c { s.core c with ctl := (s.core c).ctl ||| v } grant u := by
    have h := kwCtlWrite_halting hv hc m (Granted s m (kwCtlAddr c))
    rw [hcore] at h
    exact .of_next (hx.trans (congrArg _ (hwrite v))) h
  have refused {i : Instr} {v : Word} (hv : v ∈ haltingBits) (hx : exec i s = .next (masterWrite m (kwCtlAddr c) v s))
      (hc : (c : Nat) = 0) : exec i s = .next (writeRefused m a v grant) := by
    have h := kwCtlWrite_core0 hv m (Granted s m (kwCtlAddr c))
    rw [← hc] at h
    exact hx.trans (congrArg _ ((hwrite v).trans h))
  have hstop : (0x40000 : Word) ∈ haltingBits := by decide
  have hsleep : (0x20000 : Word) ∈ haltingBits := by decide
  have hreset : (0x10000 : Word) ∈ haltingBits := by decide
  refine ⟨fun hs => ?_, fun hs => ?_, fun hc => ⟨halting hstop rfl hc, halting hsleep rfl hc, halting hreset rfl hc⟩,
    fun hc => ⟨refused hstop rfl hc, refused hsleep rfl hc, refused hreset rfl hc⟩⟩
  · have h := kwCtlWrite_run (s := Granted s m (kwCtlAddr c)) (c := c) (by rw [hcore]; exact hs) m
    rw [hcore] at h
    exact .of_next (congrArg Host.Outcome.next (hwrite 0x80000)) h
  · have h := kwCtlWrite_unloaded (s := Granted s m (kwCtlAddr c)) (c := c) (by rw [hcore]; exact hs) m
    exact congrArg Host.Outcome.next ((hwrite 0x80000).trans h)

end Sys2Proof.Machine
end

section
/-! SUPPORT. Lane resets and withdrawals (R60, R62, R72, R87, R99). -/

namespace Sys2Proof.Machine

open Sys2Proof

/-! ### The port of a lane that is reset -/

theorem otherLane_ne (l : Lane) : otherLane l ≠ l := by cases l <;> decide

theorem modLane_other (s : State) (l : Lane) (f : LaneSt → LaneSt) : (s.modLane l f).lane (otherLane l) = s.lane (otherLane l) := by
  cases l <;> rfl

theorem modLane_otherLane (s : State) (l : Lane) (f : LaneSt → LaneSt) : (s.modLane (otherLane l) f).lane l = s.lane l := by
  cases l <;> rfl

/-- The replies that the other port sends again after a loss of the link of lane `l`. -/
def lostAgain (l : Lane) (s : State) : List Frame :=
  (((s.lane l).sent ++ (s.lane l).txq).filter fun f => decide (f.time ≤ s.now ∧ s.now ≤ f.time + 160000)).map
    (Frame.again (otherLane l))

theorem lostReplies_eq (l : Lane) (s : State) : (lostReplies s l s.now).map (Frame.again (otherLane l)) = lostAgain l s := by
  have hlost : Frame.lostBy s.now = fun f => decide (f.time ≤ s.now ∧ s.now ≤ f.time + 160000) :=
    funext fun f => (Bool.decide_and ..).symm
  rw [lostReplies, hlost, lostAgain]

theorem portFails_frame (l : Lane) (s : State) : portFails l s = { s with
    white := (portFails l s).white, black := (portFails l s).black
    lanes := { s.lanes with orphans := (portFails l s).lanes.orphans } } := by
  unfold portFails resendReplies
  split
  · split <;> rfl
  · split
    · cases l <;> rfl
    · rfl

theorem portFails_other {l : Lane} {s : State} (h : activeLane s ≠ some (otherLane l)) :
    (portFails l s).lane (otherLane l) = s.lane (otherLane l) := by
  rw [portFails]
  split
  · split <;> cases l <;> rfl
  · rfl

theorem portFails_resends {l : Lane} {s : State} (h : activeLane s = some (otherLane l)) :
    (portFails l s).lane (otherLane l) = { s.lane (otherLane l) with txq := lostAgain l s ++ (s.lane (otherLane l)).txq } := by
  have hne : ¬activeLane s = some l := fun h' => otherLane_ne l (Option.some.inj (h.symm.trans h'))
  rw [portFails, if_neg hne, if_pos h, resendReplies, modLane_same, lostReplies_eq]

theorem portFails_orphans {l : Lane} {s : State} (h : activeLane s = some l) (hs : (s.lane (otherLane l)).role = .standby) :
    (portFails l s).lanes.orphans = (s.lane l).txq := by
  rw [portFails, if_pos h, if_pos hs]

theorem portFails_inStep (l : Lane) (s : State) : ((portFails l s).lane (otherLane l)).inStep = (s.lane (otherLane l)).inStep := by
  by_cases h : activeLane s = some (otherLane l)
  · rw [portFails_resends h]
    rfl
  · rw [portFails_other h]

/-! ### The lane reset -/

/-- A lane reset with no update, castling or transfer to end, but for the state that goes with the last lane. -/
def resetOne (l : Lane) (cause : LaneCause) (s : State) : State :=
  let p := (portFails l s).modLane l (LaneSt.afterReset (laneCauseBits cause).1 (laneCauseBits cause).2)
  { p with
    lanes := { p.lanes with linkFailed := if p.lanes.linkFailed = some l then none else p.lanes.linkFailed }
    free := p.free + 1
    buses := p.buses.map fun b =>
      if b.2.tx = l then b else (b.1, { b.2 with faulty := b.2.faulty && !Config.busCheck p.free b.1 }) }

/-- The state that a lane reset makes of itself, of the other lane and of what the lanes share, among others. -/
theorem resetOne_lane (l : Lane) (cause : LaneCause) (s : State) : (resetOne l cause s).lane l =
    (s.lane l).afterReset (laneCauseBits cause).1 (laneCauseBits cause).2 := by
  rw [← portFails_lane l s]
  unfold resetOne
  generalize portFails l s = p
  cases l <;> rfl

theorem resetOne_other (l : Lane) (cause : LaneCause) (s : State) :
    (resetOne l cause s).lane (otherLane l) = (portFails l s).lane (otherLane l) := by
  unfold resetOne
  generalize portFails l s = p
  cases l <;> rfl

/-- Nothing else than this differs after a lane reset beside a lane that computes the plies. -/
def ResetFrame (l : Lane) (s u : State) : Prop := u = { s with
  free := s.free + 1, white := u.white, black := u.black, buses := u.buses
  lanes := { s.lanes with
    orphans := u.lanes.orphans, linkFailed := if s.lanes.linkFailed = some l then none else s.lanes.linkFailed } }

theorem resetOne_frame (l : Lane) (cause : LaneCause) (s : State) : ResetFrame l s (resetOne l cause s) := by
  unfold ResetFrame resetOne
  rw [portFails_frame l s]
  cases l <;> rfl

theorem resetOne_orphans (l : Lane) (cause : LaneCause) (s : State) :
    (resetOne l cause s).lanes.orphans = (portFails l s).lanes.orphans := by cases l <;> rfl

section
variable {s : State} {l : Lane} (hu : s.upd.stage = .idle) (hc : s.lanes.castle = none)
  (hk : ∀ t : Nat, ((s.lane (otherLane l)).lock t).owner ≠ some 30)
include hu hc hk

theorem laneReset_eq_resetOne (cause : LaneCause) : laneReset l cause s =
    if (s.lane (otherLane l)).inStep then resetOne l cause s else clearLaneWork (resetOne l cause s) := by
  have hcastle : (resetOne l cause s).lanes.castle = none := by
    rw [resetOne_frame l cause s]
    exact hc
  have hkeep : abandonLocksIn [otherLane l] 30 (resetOne l cause s) = resetOne l cause s :=
    abandonLocksIn_of_unlocked _ _ _ fun t => by rw [resetOne_other, portFails_lock]; exact hk t
  have hstep : ((resetOne l cause s).lane (otherLane l)).inStep = (s.lane (otherLane l)).inStep := by
    rw [resetOne_other, portFails_inStep]
  have hreset : laneReset l cause s = checkCastle (if ((abandonLocksIn [otherLane l] 30 (resetOne l cause s)).lane (otherLane l)).inStep
      then abandonLocksIn [otherLane l] 30 (resetOne l cause s)
      else clearLaneWork (abandonLocksIn [otherLane l] 30 (resetOne l cause s))) := by
    rw [laneReset, updLaneReset_idle l cause s hu]
    rfl
  rw [hreset, hkeep, hstep, checkCastle_of_none]
  split
  · exact hcastle
  · exact hcastle

end

/-- What goes with the last lane that computes the plies leaves the loads, the units and the supplies alone. -/
theorem clearLaneWork_keeps (s : State) : let u := clearLaneWork s
    u.sup = s.sup ∧ u.chans = s.chans ∧ u.douts = s.douts ∧ u.strs = s.strs ∧ u.mxs = s.mxs ∧ u.acc = s.acc ∧ u.den = s.den ∧
      u.pwr = s.pwr ∧ u.keys = s.keys ∧ u.now = s.now ∧ u.upd = s.upd :=
  ⟨rfl, rfl, rfl, rfl, rfl, rfl, rfl, rfl, rfl, rfl, rfl⟩

theorem ResetFrame.keeps {l : Lane} {s u : State} (h : ResetFrame l s u) :
    u.sup = s.sup ∧ u.chans = s.chans ∧ u.douts = s.douts ∧ u.strs = s.strs ∧ u.mxs = s.mxs ∧ u.acc = s.acc ∧ u.den = s.den ∧
      u.pwr = s.pwr ∧ u.keys = s.keys ∧ u.now = s.now ∧ u.upd = s.upd := by
  rw [h]
  exact ⟨rfl, rfl, rfl, rfl, rfl, rfl, rfl, rfl, rfl, rfl, rfl⟩

theorem exec_superseded (l : Lane) (s : State) : exec (.superseded l) s = .next (supersede l s) := rfl

/-- Settles O48: every cause is the lane reset of `laneReset_eq_resetOne`, and a superseded lane adds its mark and its record. -/
theorem laneResets : Obligations.LaneResets := by
  intro s l hu hc hk o g resets
  have hreset (c : Instr) (cause : LaneCause) (hx : exec c s = .next (laneReset l cause s)) :
      resets c (laneCauseBits cause).1 (laneCauseBits cause).2 := by
    have heq := laneReset_eq_resetOne hu hc hk cause
    have hframe := resetOne_frame l cause s
    have hlane (k : Lane) : (laneReset l cause s).lane k = (resetOne l cause s).lane k := by
      rw [heq]
      split
      · rfl
      · exact clearLaneWork_lane k _
    have hkeeps : let u := laneReset l cause s
        u.sup = s.sup ∧ u.chans = s.chans ∧ u.douts = s.douts ∧ u.strs = s.strs ∧ u.mxs = s.mxs ∧ u.acc = s.acc ∧ u.den = s.den ∧
          u.pwr = s.pwr ∧ u.keys = s.keys ∧ u.now = s.now ∧ u.upd = s.upd := by
      rw [heq]
      split
      · exact hframe.keeps
      · exact hframe.keeps
    obtain ⟨hsup, hchans, hdouts, hstrs, hmxs, hacc, hden, hpwr, hkeys, hnow, hupd⟩ := hkeeps
    refine .of_next hx ⟨(hlane l).trans (resetOne_lane l cause s),
      fun h => (hlane o).trans ((resetOne_other l cause s).trans (portFails_other h)),
      fun h => (hlane o).trans ((resetOne_other l cause s).trans (portFails_resends h)),
      hsup, hchans, hdouts, hstrs, hmxs, hacc, hden, hpwr, hkeys, hnow, hupd, fun hin => ?_, fun hin => ?_⟩
    · rw [heq, if_pos hin]
      exact ⟨hframe, fun ha hs => (resetOne_orphans l cause s).trans (portFails_orphans ha hs)⟩
    · rw [heq, hin, if_neg Bool.false_ne_true]
      exact ⟨rfl, rfl, rfl, rfl, rfl, rfl, rfl, rfl, rfl, rfl, rfl⟩
  have hpost (w : State) := present_posts 0x3E [Word.ofN 0x00E, laneWord l, 0] (.upd [] [⟨1, 0x00E, 0x9D000, laneWord l, 0⟩]) w
  refine ⟨hreset _ .watchdog rfl, hreset _ .watchdog rfl, hreset _ .coreRail rfl, hreset _ .ioRail rfl, hreset _ .anaRail rfl,
    hreset _ .memory rfl, hreset _ .coreFault rfl, hreset _ .command rfl, hreset _ .wake rfl, hreset _ .update rfl,
    hreset _ .sequencer rfl, hreset _ .link rfl, hreset _ .memory rfl, fun c k => hreset _ .coreFault rfl,
    fun c hr hd hw hp hi => hreset _ .coreFault (congrArg _ (if_pos ⟨hr, hd, hw, hp, hi⟩)), hreset _ .coreFault rfl,
    hreset _ .memory rfl, hreset _ .sequencer rfl, hreset _ .link rfl, hreset _ .command rfl, ?_⟩
  exact .of_next (exec_superseded l s) ⟨laneReset l .link s, _, rfl, rfl, hpost _, fun hn => (present_numbered _ _ _ _ hn).1⟩

end Sys2Proof.Machine
end

section
/-! SUPPORT. A claim of a tile whose rail was low (R47, R64, R558). -/

namespace Sys2Proof.Machine

open Sys2Proof

/-- The state after reset in which the rail of tile 0 was low, so that the tile waits for its restore sequence. -/
def tile0Low : State := { State.reset with sup := { State.reset.sup with tileLow := [0] } }

theorem exec_claimReceived (t : Fin 45) (l : Lane) (ply idx : Nat) (s : State) :
    exec (.claimReceived t l ply idx) s = .next (acceptClaim t l true (s.tgt t).sent ply idx s) := rfl

set_option maxRecDepth 20000 in
/-- The claim ends that wait. -/
theorem tile0Low_claimed : (acceptClaim (0 : Fin 45) .white true (tile0Low.tgt (0 : Fin 45)).sent 0 0 tile0Low).sup.tileLow = [] := by
  decide

/-- Refutes O49: a claim does not leave the supplies as they are. A tile whose rail was low is taken off the list of such tiles when
the claim brings its restore sequence. -/
theorem not_targetCommands : ¬ Obligations.TargetCommands := by
  intro h
  obtain ⟨-, -, hclaim, -⟩ := h tile0Low 0 .white
  obtain ⟨u, hu, hfields⟩ := (hclaim 0 0).2 (by decide)
  obtain ⟨-, -, -, -, -, -, -, -, -, -, -, -, -, -, -, -, hsup⟩ := hfields
  obtain rfl := Host.Outcome.next.inj ((exec_claimReceived 0 .white 0 0 tile0Low).symm.trans hu)
  have hlow : ([] : List Nat) = [0] := tile0Low_claimed.symm.trans (congrArg Supply.tileLow hsup)
  exact absurd hlow (by decide)

end Sys2Proof.Machine
end

section
/-! SUPPORT. A promotion while targets wait for their restore sequences (R64, R100, R101, R558). -/

namespace Sys2Proof.Machine

open Sys2Proof

/-- White is active and Black is standby, in phase B of a ply, while every target waits for its restore sequence. -/
def allWaiting : State := { State.reset with
  white := { State.reset.white with role := .active }, black := { State.reset.black with role := .standby }
  seq := { State.reset.seq with running := true }, ply := { State.reset.ply with phase := .b }
  targets := (List.range 45).map fun t => (t, { Target.reset with restoreWait := true }) }

set_option maxRecDepth 20000 in
/-- The claims of the promoting lane bring no restore sequence, and a target that waits for one takes no other claim. -/
theorem allWaiting_unclaimed : ((markerTimeout allWaiting).tgt (0 : Fin 45)).claimed = none := by decide

theorem exec_markerTimeout (s : State) : exec .markerTimeout s = .next (markerTimeout s) := rfl

/-- Refutes O50: a standby that hears no marker is active at once, but it does not take every target over: one that waits for its
restore sequence stays without a claimant. -/
theorem not_joiningAndPromotion : ¬ Obligations.JoiningAndPromotion := by
  intro h
  obtain ⟨-, -, -, -, -, -, -, hpromo, -⟩ := h allWaiting
  obtain ⟨-, u, hu, hpromotes, -⟩ := hpromo .black (by decide) (by decide) (by decide) (by decide) (by decide) (.inl (by decide))
  obtain ⟨-, -, -, -, hclaimed, -⟩ := hpromotes
  obtain rfl := Host.Outcome.next.inj ((exec_markerTimeout allWaiting).symm.trans hu)
  exact nomatch allWaiting_unclaimed.symm.trans (hclaimed 0)

end Sys2Proof.Machine
end

section
/-! SUPPORT. A ply that begins again (R86, R101, R136). -/

namespace Sys2Proof.Machine

open Sys2Proof

/-- White is active and numbers, no ply is at work, and the next one begins again what a promotion interrupted; a COMMIT waits. -/
def beginsAgain : State := { State.reset with
  white := { State.reset.white with role := .active }, commitPend := true
  seq := { State.reset.seq with running := true, next := 1 }, ply := { State.reset.ply with again := true } }

theorem exec_plyBoundary (s : State) : exec .plyBoundary s = .next (boundaryStep s) := rfl

set_option maxRecDepth 20000 in
/-- A ply that begins again takes the sample blocks alone: the rest of phase A was done before, and the COMMIT waits on. -/
theorem beginsAgain_waits : (boundaryStep beginsAgain).commitPend = true := by decide

/-- Refutes O39: the boundary of a ply that begins again after a promotion does not take the COMMIT that waits. -/
theorem not_tablesTakeEffectAtTheBoundary : ¬ Obligations.TablesTakeEffectAtTheBoundary := by
  intro h
  obtain ⟨-, -, -, hboundary⟩ := h
  obtain ⟨u, hu, -, hcommit, -⟩ := hboundary beginsAgain rfl rfl (by decide) rfl rfl rfl (by decide) (by decide) rfl rfl rfl rfl
  obtain rfl := Host.Outcome.next.inj ((exec_plyBoundary beginsAgain).symm.trans hu)
  exact nomatch beginsAgain_waits.symm.trans hcommit

/-- The same while the plies are paused for an activation, with a request of the host step that waits. -/
def beginsAgainPaused : State := { beginsAgain with
  ply := { beginsAgain.ply with blocked := true }, upd := { beginsAgain.upd with stage := .paused } }

set_option maxRecDepth 20000 in
/-- A ply that begins again keeps what is at work in it. -/
theorem beginsAgainPaused_blocked : (boundaryStep beginsAgainPaused).ply.blocked = true := by decide

set_option maxRecDepth 20000 in
/-- Refutes O51: the boundary of a ply that begins again is not a phase A from a fresh ply, in which no request waits. -/
theorem not_plyPhases : ¬ Obligations.PlyPhases := by
  intro h
  obtain ⟨-, hboundary, -⟩ := h beginsAgainPaused
  obtain ⟨b, -, -, -, -, -, hactive⟩ := hboundary rfl rfl
  obtain ⟨-, hbegins⟩ := hactive (by decide) rfl rfl (by decide) (by decide)
  have hexec := Host.Outcome.next.inj ((exec_plyBoundary beginsAgainPaused).symm.trans (hbegins rfl rfl rfl))
  have hblocked := congrArg (fun u : State => u.ply.blocked) hexec
  exact nomatch beginsAgainPaused_blocked.symm.trans hblocked

end Sys2Proof.Machine
end

section
/-! SUPPORT. Module, lane and tile resets (R53, R60, R64, R72, R84, R430, R526). -/

namespace Sys2Proof.Machine

open Sys2Proof

/-! ### A module reset -/

/-- `u` is as after a module reset from `s` with cause bit `bit` and LAST code `last`, but for what the supplies and the AO domain
hold. -/
def ModuleFresh (s : State) (bit last : Nat) (u : State) : Prop :=
  (∀ l : Lane, (u.lane l).role = .out ∧ (u.lane l).boot = .held ∧
    (u.lane l).resetCause = ((s.lane l).resetCause.setBit bit true).put 19 16 last ∧
    (u.lane l).nvm.epoch = (s.lane l).nvm.epoch ∧ (u.lane l).nvm.fw = (s.lane l).nvm.fw ∧
    (u.lane l).nvm.cfg = (s.lane l).nvm.cfg ∧ (u.lane l).nvm.life = (s.lane l).lifeJournal) ∧
  u.chans = [] ∧ u.targets = [] ∧ u.douts = [] ∧ u.strs = [] ∧ u.mxs = [] ∧ u.buses = [] ∧
  u.den = { Den.reset with lastStop := if s.den.state = .running then 4 else 0 } ∧
  u.cores = [] ∧ u.copy = [] ∧ u.sram = [] ∧ u.tables = [] ∧ u.ring = [] ∧ u.log = [] ∧ u.seq = Seq.reset ∧
  u.ply = Ply.reset ∧ u.host = HostSt.reset ∧ u.mbx = Mailboxes.reset ∧ u.lanes = Lanes.reset ∧ u.upd = Upd.reset ∧
  u.keys = s.keys ∧ u.acc.tokens = s.acc.tokens ∧ u.maintenance = false ∧ u.fab.modOffset = s.fab.modOffset

theorem moduleReset_fresh (bit last : Nat) (s : State) : ModuleFresh s bit last (moduleReset bit last s) :=
  ⟨fun l => by cases l <;> exact ⟨rfl, rfl, rfl, rfl, rfl, rfl, rfl⟩, rfl, rfl, rfl, rfl, rfl, rfl, rfl, rfl, rfl, rfl, rfl, rfl,
    rfl, rfl, rfl, rfl, rfl, rfl, rfl, rfl, rfl, rfl, rfl⟩

/-- The rails, the supplies, the AO domain's own state and the lanes' rail bits may change after it. -/
theorem ModuleFresh.railsDown {s u : State} {bit last : Nat} (h : ModuleFresh s bit last u) :
    ModuleFresh s bit last (railsDown u) := by
  obtain ⟨hlanes, hrest⟩ := h
  exact ⟨fun | .white => hlanes .white | .black => hlanes .black, hrest⟩

theorem moduleReset_failImage (bit last : Nat) (s : State) (l : Lane) :
    ((moduleReset bit last s).lane l).nvm.failImage = (s.lane l).image := by cases l <;> rfl

theorem exec_holdUpEnd (s : State) : exec .holdUpEnd s = .next (holdUpEnd s) := rfl

theorem holdUpEnd_fails {s : State} (h : s.sup.powerFail = true) : holdUpEnd s =
    railsDown { moduleReset 14 1 s with sup := { (moduleReset 14 1 s).sup with powerFail := false } } := by
  rw [holdUpEnd, if_pos h]

/-! ### A brown-out of the AO rail -/

/-- The power-fail images that the AO domain held are gone. -/
def imagesGone (s : State) : State := s.mapLanes fun g => { g with image := [] }

/-- The module reset and what the AO domain loses. -/
def aoLost (s : State) : State :=
  let s := moduleReset 5 0xA (imagesGone s)
  { s with
    sup := { s.sup with aoOk := s.sup.vlogA.ok || s.sup.vlogB.ok, aoLp := false, lpbo := false, powerFail := false },
    acc := { s.acc with
      latch := [], records := [], lostRecs := 0, heldOff := [], doublings := 0, handles := [], wakeGrant := none, wakeInside := none,
      wakeResult := [] },
    pwr := { s.pwr with retention := [], banksOk := 0, rtc := 0, entryRtc := 0 } }

theorem aoBrownout_eq (s : State) :
    aoBrownout s = if (s.sup.vlogA.ok || s.sup.vlogB.ok) = true then aoLost s else railsDown (aoLost s) := rfl

theorem aoLost_fresh (s : State) : ModuleFresh s 5 0xA (aoLost s) := by
  obtain ⟨hlanes, hrest⟩ := moduleReset_fresh 5 0xA (imagesGone s)
  exact ⟨fun | .white => hlanes .white | .black => hlanes .black, hrest⟩

theorem aoLost_failImage (s : State) (l : Lane) : ((aoLost s).lane l).nvm.failImage = [] := by cases l <;> rfl

theorem railsDown_failImage (s : State) (l : Lane) : ((railsDown s).lane l).nvm.failImage = (s.lane l).nvm.failImage := by
  cases l <;> rfl

/-! ### A tile reset -/

theorem Sparse.get_filter {α : Type} (d : Nat → α) (keep : Nat → Bool) (m : List (Nat × α)) (k : Nat) :
    Sparse.get d (m.filter fun p => keep p.1) k = if keep k then Sparse.get d m k else d k := by
  induction m with
  | nil => exact (ite_self _).symm
  | cons p m ih =>
    obtain ⟨j, w⟩ := p
    by_cases hj : j = k
    · subst hj
      cases hk : keep j with
      | true => simp only [List.filter_cons, hk, if_true, Sparse.get]
      | false => simp only [List.filter_cons, hk, Bool.false_eq_true, if_false, ih]
    · rw [Sparse.get, if_neg hj, ← ih]
      cases hk : keep j with
      | true => simp only [List.filter_cons, hk, if_true, Sparse.get, if_neg hj]
      | false => simp only [List.filter_cons, hk, Bool.false_eq_true, if_false]

/-- The channels of a tile alone may differ. -/
def ChansOnly (s u : State) : Prop := u = { s with chans := u.chans }

theorem ChansOnly.trans {s u v : State} (a : ChansOnly s u) (b : ChansOnly u v) : ChansOnly s v := by
  unfold ChansOnly at *
  rw [b, a]

/-- A channel as a tile reset leaves it. -/
def Chan.cleared (clock : Nat) (c : Chan) : Chan := { Chan.reset with openedAt := if c.sw then some clock else c.openedAt }

/-- The channels of a tile are cleared. -/
def clearChans (t : Nat) (s : State) : State :=
  (List.range 16).foldl (fun s k => s.modChan (16 * t + k) fun c => c.cleared s.clock) s

theorem clearChans_spec (t : Nat) (s : State) : ChansOnly s (clearChans t s) ∧
    ∀ n : Nat, (clearChans t s).chan n = if n / 16 = t then (s.chan n).cleared s.clock else s.chan n := by
  have hnodup : ((List.range 16).map (16 * t + ·)).Nodup :=
    List.Nodup.map (fun a b h => Nat.add_left_cancel h) List.nodup_range
  obtain ⟨hr, hother, heach⟩ := foldl_objects (R := ChansOnly) (F := fun s k => s.modChan (16 * t + k) fun c => c.cleared s.clock)
    (fun _ => rfl) ChansOnly.trans State.chan (16 * t + ·) (fun s k => by rw [State.modChan_eq]; exact rfl)
    (fun s k p hp => by rw [State.modChan_eq, State.setChan_chan, if_neg (Ne.symm hp)]) (List.range 16) hnodup s
  refine ⟨hr, fun n => ?_⟩
  by_cases hn : n / 16 = t
  · obtain ⟨v, hv, hread, hset⟩ := heach (n % 16) (List.mem_range.2 (Nat.mod_lt n (by decide)))
    have hkey : 16 * t + n % 16 = n := by omega
    have hclock : v.clock = s.clock := by rw [hv]; rfl
    rw [hkey] at hread hset
    rw [if_pos hn]
    refine hset.trans ?_
    rw [State.modChan_eq, State.setChan_chan, if_pos rfl, hread, hclock]
  · rw [if_neg hn]
    refine hother n fun hmem => hn ?_
    obtain ⟨k, hk, rfl⟩ := List.mem_map.1 hmem
    have := List.mem_range.1 hk
    omega

theorem ChansOnly.tgt {s u : State} (h : ChansOnly s u) (k : Nat) : u.tgt k = s.tgt k := by
  rw [h]
  rfl

theorem ChansOnly.live {s u : State} (h : ChansOnly s u) : u.live = s.live := by rw [h]

/-- A target as a tile reset of cause `cause` leaves it. -/
def Target.cleared (cause : Nat) (g : Target) : Target :=
  { g with
    claimed := none, last := 0, stampPly := 0, stampIdx := 0, silent := false, restoreWait := true, shadows := [],
    shadowDue := none, entries := [], refusals := [], dups := 0, handover := none, lastReset := cause,
    resets := satTo 0xF (g.resets + 1) }

/-- The registers of a tile are cleared; its faults of the multiplexers go, and its tracking of commands begins anew. -/
def clearRegs (t cause : Nat) (s : State) : State :=
  let s := s.clearLive (tileRange t)
  let s := { s with fab := { s.fab with modFaults := s.fab.modFaults.filter fun n => n / 16 ≠ t } }
  s.modTgt t (Target.cleared cause)

theorem resetTile_eq (t cause : Nat) (s : State) : resetTile t cause s =
    present (1 + t) [0x30000] (.report t [] [] (tileWords t (clearRegs t cause (clearChans t s))))
      (clearRegs t cause (clearChans t s)) := rfl

theorem clearRegs_frame (t cause : Nat) (s : State) : clearRegs t cause s = { s with
    live := (clearRegs t cause s).live, targets := (clearRegs t cause s).targets, fab := (clearRegs t cause s).fab } := rfl

theorem clearRegs_chan (t cause : Nat) (s : State) (n : Nat) : (clearRegs t cause s).chan n = s.chan n := rfl

theorem clearRegs_tgt (t cause : Nat) (s : State) (k : Nat) :
    (clearRegs t cause s).tgt k = if t = k then (s.tgt t).cleared cause else s.tgt k := State.setTgt_tgt ..

/-- Of the registers of a channel, those of the tile are at reset. -/
theorem clearRegs_chReg {n off : Nat} (hn : n < 176) (ho : off < 32) (t cause : Nat) (s : State) :
    chReg (clearRegs t cause s) n off = if n / 16 = t then regReset (chanAddr n off) else chReg s n off := by
  have hlive : (clearRegs t cause s).live = s.live.filter fun p =>
      !(decide ((tileRange t).1.1 ≤ p.1) && decide (p.1 ≤ (tileRange t).1.2)) &&
        !(decide ((tileRange t).2.1 ≤ p.1) && decide (p.1 ≤ (tileRange t).2.2)) := rfl
  rw [chReg, State.liveReg, hlive, Sparse.get_filter regReset fun k =>
    !(decide ((tileRange t).1.1 ≤ k) && decide (k ≤ (tileRange t).1.2)) &&
      !(decide ((tileRange t).2.1 ≤ k) && decide (k ≤ (tileRange t).2.2))]
  by_cases h : n / 16 = t
  · rw [if_pos h, if_neg]
    simp [tileRange, chanAddr]
    omega
  · rw [if_neg h, if_pos]
    · rfl
    · simp [tileRange, chanAddr, tileAddr]
      omega

/-- A brown-out of a tile's rail leaves TILES_OK in doubt. -/
def lowRail (t : Nat) (cause : TileCause) (s : State) : State :=
  match cause with
  | .rail => { s with sup := { s.sup with tileLow := if s.sup.tileLow.contains t then s.sup.tileLow else s.sup.tileLow ++ [t] } }
  | .clock => s
  | .selfCheck => s

theorem lowRail_frame (t : Nat) (cause : TileCause) (s : State) : lowRail t cause s = { s with sup := (lowRail t cause s).sup } := by
  cases cause <;> rfl

theorem lowRail_sup (t : Nat) (cause : TileCause) (s : State) :
    (lowRail t cause s).sup = { s.sup with tileLow := (lowRail t cause s).sup.tileLow } := by
  cases cause <;> rfl

theorem lowRail_other {cause : TileCause} (h : cause ≠ .rail) (t : Nat) (s : State) : lowRail t cause s = s := by
  cases cause with
  | rail => exact absurd rfl h
  | clock => rfl
  | selfCheck => rfl

theorem mem_lowRail (t : Nat) (s : State) : t ∈ (lowRail t .rail s).sup.tileLow := by
  change t ∈ if s.sup.tileLow.contains t then s.sup.tileLow else s.sup.tileLow ++ [t]
  split
  · next h => exact List.contains_iff_mem.1 h
  · exact List.mem_append_right _ (List.mem_singleton.2 rfl)

/-- The state that a tile reset makes before it is presented. -/
def tileFresh (t : Nat) (cause : TileCause) (s : State) : State :=
  clearRegs t (tileCauseCode cause) (clearChans t (lowRail t cause s))

theorem exec_tileReset (t : Fin 11) (cause : TileCause) (s : State) : exec (.tileReset t cause) s =
    .next (present (1 + t) [0x30000] (.report t [] [] (tileWords t (tileFresh t cause s))) (tileFresh t cause s)) := rfl

/-- The parts of the state that a tile reset changes; nothing else differs. -/
def TileFrame (s u : State) : Prop :=
  u = { s with chans := u.chans, live := u.live, targets := u.targets, fab := u.fab, sup := u.sup }

theorem tileFresh_frame (t : Nat) (cause : TileCause) (s : State) : TileFrame s (tileFresh t cause s) := by
  have hchans := (clearChans_spec t (lowRail t cause s)).1
  have hlow := lowRail_frame t cause s
  unfold TileFrame tileFresh
  generalize clearChans t (lowRail t cause s) = v at hchans ⊢
  generalize lowRail t cause s = w at hchans hlow
  rw [clearRegs_frame, hchans, hlow]

theorem tileFresh_sup (t : Nat) (cause : TileCause) (s : State) : (tileFresh t cause s).sup = (lowRail t cause s).sup := by
  have hchans := (clearChans_spec t (lowRail t cause s)).1
  unfold tileFresh
  generalize clearChans t (lowRail t cause s) = v at hchans ⊢
  rw [clearRegs_frame, hchans]

theorem tileFresh_chan (t : Nat) (cause : TileCause) (s : State) (n : Nat) :
    (tileFresh t cause s).chan n = if n / 16 = t then (s.chan n).cleared s.clock else s.chan n := by
  rw [tileFresh, clearRegs_chan, (clearChans_spec t (lowRail t cause s)).2, lowRail_frame]
  rfl

theorem tileFresh_tgt (t : Nat) (cause : TileCause) (s : State) (k : Nat) :
    (tileFresh t cause s).tgt k = if t = k then (s.tgt t).cleared (tileCauseCode cause) else s.tgt k := by
  rw [tileFresh, clearRegs_tgt, (clearChans_spec t (lowRail t cause s)).1.tgt, (clearChans_spec t (lowRail t cause s)).1.tgt,
    lowRail_frame]
  rfl

theorem tileFresh_chReg {n off : Nat} (hn : n < 176) (ho : off < 32) (t : Nat) (cause : TileCause) (s : State) :
    chReg (tileFresh t cause s) n off = if n / 16 = t then regReset (chanAddr n off) else chReg s n off := by
  have hkeep : chReg (clearChans t (lowRail t cause s)) n off = chReg s n off := by
    rw [chReg, State.liveReg, (clearChans_spec t (lowRail t cause s)).1.live, lowRail_frame]
    rfl
  rw [tileFresh, clearRegs_chReg hn ho, hkeep]

/-- What a unit shows does not depend on the sequencer and the lanes. -/
theorem Posts.tileWords {s u : State} (h : Posts s u) (t : Nat) : tileWords t u = Machine.tileWords t s := by
  rw [h.1]
  rfl

theorem Posts.chan {s u : State} (h : Posts s u) (n : Nat) : u.chan n = s.chan n := by
  rw [h.1]
  rfl

theorem Posts.chReg {s u : State} (h : Posts s u) (n off : Nat) : chReg u n off = Machine.chReg s n off := by
  rw [h.1]
  rfl

theorem Posts.tgt {s u : State} (h : Posts s u) (k : Nat) : u.tgt k = s.tgt k := by
  rw [h.1]
  rfl

theorem Posts.sup {s u : State} (h : Posts s u) : u.sup = s.sup := by rw [h.1]

theorem TileFrame.of_posts {s v u : State} (hv : TileFrame s v) (hu : Posts v u) :
    { s with chans := u.chans, live := u.live, targets := u.targets, fab := u.fab, sup := u.sup } = v := by
  rw [hu.1]
  exact hv.symm

theorem TileFrame.numbering {s v : State} (hv : TileFrame s v) (h : Numbering s) : Numbering v := by
  rw [hv]
  exact h

theorem TileFrame.presented {s v u : State} (hv : TileFrame s v) {src : Nat} {ws : List Word} {act : Act}
    (h : Presented src ws act v u) : Presented src ws act s u := by
  rw [hv] at h
  exact h

/-! ### The statement -/

/-- Settles O53: the module resets are `moduleReset_fresh` with what each of them adds, the rails fall after a lane reset, and a tile
reset is `tileFresh` presented. -/
theorem moduleAndTileResets : Obligations.ModuleAndTileResets := by
  intro s fresh
  have hfresh := moduleReset_fresh
  refine ⟨fun h => ?holdUp, fun h => congrArg Host.Outcome.next (if_neg (by rw [h]; exact Bool.false_ne_true)), ?ao,
    fun h => .of_next (congrArg Host.Outcome.next (if_pos h)) ⟨⟨rfl, rfl⟩, hfresh 0 0xF s⟩,
    fun h => congrArg Host.Outcome.next (if_neg (by rw [h]; exact Bool.false_ne_true)),
    fun hp hw => congrArg Host.Outcome.next (if_neg (by rw [hp, hw]; exact Bool.false_ne_true)),
    fun hp hw => .of_next (congrArg Host.Outcome.next (if_pos (by rw [hp, hw]; rfl)))
      ⟨⟨rfl, rfl, moduleReset_failImage 13 2 s⟩, hfresh 13 2 s⟩,
    fun hp => congrArg Host.Outcome.next (if_neg (by rw [hp]; exact Bool.false_ne_true)),
    fun ha hr => .of_next (congrArg Host.Outcome.next (if_pos ?recovery)) ⟨⟨rfl, rfl⟩, hfresh 3 0xC s⟩,
    fun ha => congrArg Host.Outcome.next (if_neg ?active), fun l => ?rails, fun t c => ?tile⟩
  case holdUp =>
    refine .of_next ((exec_holdUpEnd s).trans (congrArg _ (holdUpEnd_fails h))) ⟨⟨rfl, rfl, rfl, rfl, fun l => ?_⟩, ?_⟩
    · cases l <;> exact ⟨rfl, rfl, rfl, rfl⟩
    · exact ModuleFresh.railsDown (u := { moduleReset 14 1 s with sup := { (moduleReset 14 1 s).sup with powerFail := false } })
        (hfresh 14 1 s)
  case ao =>
    refine .of_next (congrArg Host.Outcome.next (aoBrownout_eq s)) ?_
    split
    · next h =>
      exact ⟨⟨rfl, rfl, rfl, rfl, rfl, rfl, fun h' => (Bool.false_ne_true (h'.symm.trans h)).elim, aoLost_failImage s⟩, aoLost_fresh s⟩
    · next h =>
      exact ⟨⟨rfl, rfl, rfl, rfl, rfl, rfl, fun _ => rfl, fun l => (railsDown_failImage _ l).trans (aoLost_failImage s l)⟩,
        (aoLost_fresh s).railsDown⟩
  case recovery =>
    rw [ha]
    rcases hr with hr | hr <;> rw [hr]
    · rfl
    · exact Bool.or_true _
  case active =>
    rw [Option.isNone_eq_false_iff.2 ha]
    exact Bool.false_ne_true
  case rails =>
    intro falls
    exact ⟨.of_next rfl ⟨_, rfl, rfl⟩, .of_next rfl ⟨_, rfl, rfl⟩, .of_next rfl ⟨_, rfl, rfl⟩⟩
  case tile =>
    have hposts := present_posts (1 + t) [0x30000] (.report t [] [] (tileWords t (tileFresh t c s))) (tileFresh t c s)
    have hframe := tileFresh_frame t c s
    refine .of_next (exec_tileReset t c s) ?_
    generalize hu : present (1 + t) [0x30000] (.report t [] [] (tileWords t (tileFresh t c s))) (tileFresh t c s) = u at hposts ⊢
    have hsup : u.sup = (lowRail t c s).sup := hposts.sup.trans (tileFresh_sup t c s)
    refine ⟨fun n => (hposts.chan n).trans (tileFresh_chan t c s n),
      fun n off hn ho => (hposts.chReg n off).trans (tileFresh_chReg hn ho t c s),
      (hposts.tgt t).trans ((tileFresh_tgt t c s t).trans ((if_pos rfl).trans ?_)),
      fun k hk => (hposts.tgt k).trans ((tileFresh_tgt t c s k).trans (if_neg (Ne.symm hk))),
      ?_, fun hc => hsup.trans (by rw [lowRail_other hc]), fun hc => ?_, ?_, fun hn => ?_⟩
    · cases c <;> simp [Target.cleared, satTo, Nat.min_comm, tileCauseCode]
    · rw [hsup]
      exact lowRail_sup t c s
    · rw [hsup, hc]
      exact mem_lowRail t s
    · rw [hframe.of_posts hposts]
      exact hposts
    · rw [hposts.tileWords, ← hu]
      exact hframe.presented (present_numbered _ _ _ _ (hframe.numbering hn)).1

end Sys2Proof.Machine
end

section
/-! SUPPORT. Data of an update over the host port (R469, R478, R517). -/

namespace Sys2Proof.Machine

open Sys2Proof

/-- A secure session that has executed no request. -/
def uploadSession : Session :=
  { pending := false, secure := true, handle := 1, keyIdx := 0, nh := 0, nd := 0, keyReq := 0, keyRep := 0, high := 0,
    executed := [], cache := [], lastExec := 0 }

/-- Its first request. -/
def uploadHead : ReqHead :=
  { port := .white, source := ⟨0, 0, 0⟩, sec := true, session := 1, reqId := 1, seq := 0 }

/-- The lanes receive an image in that session. -/
def receivingImage : State := { State.reset with
  host := { State.reset.host with sessions := [(0, uploadSession)] }
  upd := { State.reset.upd with phase := .receiving, length := 130 } }

theorem exec_updData (h : ReqHead) (ws : List Word) (s : State) : exec (.updData h ws) s = .next (hostRow 0x51 h ws s) := rfl

theorem addFrames_white (fs : List Frame) (s : State) : (addFrames fs s).white = s.white := by
  cases fs with
  | nil => rfl
  | cons f fs => simp only [addFrames]; split <;> rfl

theorem giveReply_white (p : Packet) (fs : List Frame) (s : State) : (giveReply p fs s).white = s.white := by
  simp only [giveReply, addFrames_white]
  split <;> rfl

theorem receivingImage_starts : Starts 0x51 uploadHead [0, 0, 0] receivingImage 0 uploadSession := by
  unfold Starts
  decide

set_option maxRecDepth 20000 in
/-- Programming the first two octets moves the program count of a lane's NVM. -/
theorem receivingImage_programs : (hostRow 0x51 uploadHead [0, 0, 0] receivingImage).white.nvm.programs = 1 := by decide

set_option maxRecDepth 20000 in
/-- Refutes O60: UPD_DATA changes more than the update, since each word that it programs moves the program count of both lanes'
NVM. -/
theorem not_hostControl : ¬ Obligations.HostControl := by
  intro h
  obtain ⟨-, -, -, -, hsecure⟩ := h receivingImage uploadHead 0 uploadSession
  obtain ⟨-, -, -, -, -, hdata, -⟩ := hsecure rfl
  obtain ⟨-, -, -, htakes⟩ := hdata 0 0 [0] receivingImage_starts (by decide) (by decide)
  obtain ⟨v, hans, -, -, hv⟩ := htakes rfl (by decide) rfl (by decide) (by decide)
  have hexec := Host.Outcome.next.inj ((exec_updData ..).symm.trans hans)
  have hprograms := congrArg (fun u : State => u.white.nvm.programs) hexec
  have hkeeps : v.white.nvm.programs = 0 := by rw [hv]; rfl
  simp only [giveReply_white, hkeeps] at hprograms
  exact nomatch receivingImage_programs.symm.trans hprograms

end Sys2Proof.Machine
end

section
/-! SUPPORT. Update events (R516, R518, R521, R524, R526). -/

namespace Sys2Proof.Machine

open Sys2Proof

/-- What a command that only presents an input leaves (R81, R85). -/
theorem Completes.of_present {c : Instr} {s v : State} {src : Nat} {payload : List Word} {act : Act}
    (h : exec c s = .next (present src payload act v)) :
    Completes c s fun u => Posts v u ∧ (Numbering v → Presented src payload act v u) :=
  ⟨_, h, present_posts .., fun hn => (present_numbered _ _ _ _ hn).1⟩

theorem exec_eraseComplete (l : Lane) (s : State) : exec (.eraseComplete l) s = .next (
    if recoveryIn s l .erasing then updErased (some l) l s else present 0x3E [0x00020, laneWord l, 0] (.erased l) s) := rfl

theorem exec_laneReady (l : Lane) (s : State) :
    exec (.laneReady l) s = .next (present 0x3E [0x00022, laneWord l, 0] (.ready l) s) := rfl

theorem exec_conversionComplete (l : Lane) (s : State) : exec (.conversionComplete l) s = .next (updResume l s) := rfl

theorem exec_healthWindowExpiry (s : State) : exec .healthWindowExpiry s =
    .next (if s.upd.stage = .health then fallBack .ordered ((standbyLane s).getD .black) 8 s else s) := rfl

theorem exec_verifyResult (l : Lane) (dig sig : Bool) (i : ConfigImage) (at_ : Word) (s : State) :
    exec (.verifyResult l dig sig i at_) s = .next (
      if recoveryIn s l .verifying then updVerified (some l) l (updCheck s (s.updOf (some l)) l dig sig (configOk i)) at_ s
      else present 0x3E [0x00021, laneWord l, Word.ofN (updCheck s s.upd l dig sig (configOk i))]
        (.verified l (updCheck s s.upd l dig sig (configOk i)) at_) s) := rfl

theorem recoveryIn_true {s : State} {l : Lane} {p : UpdPhase} (hs : serves s l = true) (hp : (s.updOf (some l)).phase = p) :
    recoveryIn s l p = true := by
  simp [recoveryIn, hs, hp]

theorem recoveryIn_false {s : State} {l : Lane} {p : UpdPhase} (h : serves s l = false ∨ (s.updOf (some l)).phase ≠ p) :
    recoveryIn s l p = false := by
  rcases h with h | h <;> simp [recoveryIn, h]

theorem updOf_modUpd (s : State) (r : Option Lane) (f : Upd → Upd) : (s.modUpd r f).updOf r = f (s.updOf r) := by
  rcases r with _ | (_ | _) <;> rfl

/-- A lane's recovery service changes its own update alone. -/
theorem modUpd_recovery (s : State) (l : Lane) (f : Upd → Upd) :
    s.modUpd (some l) f = { s with updWhite := (s.modUpd (some l) f).updWhite, updBlack := (s.modUpd (some l) f).updBlack } := by
  cases l <;> rfl

theorem updErased_recovery {s : State} {l : Lane} (h : (s.updOf (some l)).phase = .erasing) :
    ((updErased (some l) l s).updOf (some l)).phase = .receiving := by
  rw [updErased, updOf_modUpd]
  cases l <;> simp [h]

/-- An update with the result of one lane's check noted (R518, R528). -/
def Upd.noted (l : Lane) (code : Nat) (at_ : Word) (u : Upd) : Upd :=
  let v := match l with
    | .white => { u with verifiedW := some code }
    | .black => { u with verifiedB := some code }
  if code = 6 then { v with check := at_ } else if v.check = 0 then { v with check := 0xFFFFF } else v

theorem Upd.noted_eq (l : Lane) (code : Nat) (at_ : Word) (u : Upd) : u.noted l code at_ = { u with
    verifiedW := if l = .white then some code else u.verifiedW, verifiedB := if l = .black then some code else u.verifiedB,
    check := (u.noted l code at_).check } := by
  cases l <;> simp only [Upd.noted] <;> split <;> [skip; split; skip; split] <;> rfl

/-- The results that have come decide the update, or it waits for the other lane's (R518, R556). -/
def decideUpd (r : Option Lane) (u : Upd) (s : State) : State :=
  match (match r, u.verifiedW, u.verifiedB with
    | some _, some w, none => some w
    | some _, none, some b => some b
    | _, some w, some b => some (updResult w b)
    | _, _, _ => none) with
  | none => s.modUpd r fun _ => u
  | some v =>
    let ok := decide (v = 1)
    let s := s.modUpd r fun _ =>
      { u with
        phase := if ok then .verified else .failed, result := v, fwReady := u.fwReady || (ok && !u.kind),
        cfgReady := u.cfgReady || (ok && u.kind) }
    let s := if ok then s.modNvm r (Nvm.modAreas u.kind fun a => { a with staging := some u.image }) else s
    if r.isNone then laneRecord ⟨0x0E, 2, 0x9F000, Word.ofN u.kind.toNat, Word.ofN v⟩ s else s

theorem updVerified_eq {r : Option Lane} {s : State} (h : (s.updOf r).phase = .verifying) (l : Lane) (code : Nat) (at_ : Word) :
    updVerified r l code at_ s = decideUpd r ((s.updOf r).noted l code at_) s := by
  unfold updVerified
  rw [if_neg (fun hn => hn h)]
  rfl

/-- The one result that a recovery service waits for. -/
theorem Upd.noted_alone {u : Upd} (hw : u.verifiedW = none) (hb : u.verifiedB = none) (l : Lane) (code : Nat) (at_ : Word) :
    ((u.noted l code at_).verifiedW = some code ∧ (u.noted l code at_).verifiedB = none) ∨
    ((u.noted l code at_).verifiedW = none ∧ (u.noted l code at_).verifiedB = some code) := by
  rw [Upd.noted_eq]
  cases l
  · exact .inl ⟨rfl, hb⟩
  · exact .inr ⟨hw, rfl⟩

theorem staging_modAreas (kind : Bool) (i : Option Image) (n : Nvm) :
    ((Nvm.modAreas kind (fun a => { a with staging := i }) n).areas kind).staging = i := by
  cases kind <;> rfl

theorem updOf_modNvm (s : State) (r q : Option Lane) (f : Nvm → Nvm) : (s.modNvm r f).updOf q = s.updOf q := by
  rcases r with _ | (_ | _) <;> rcases q with _ | (_ | _) <;> rfl

theorem nvm_modNvm (s : State) (l : Lane) (f : Nvm → Nvm) : ((s.modNvm (some l) f).lane l).nvm = f (s.lane l).nvm := by
  cases l <;> rfl

/-- The result of one lane alone decides a recovery service's update. -/
theorem decideUpd_recovery {u : Upd} {code : Nat} (l : Lane) (s : State)
    (h : (u.verifiedW = some code ∧ u.verifiedB = none) ∨ (u.verifiedW = none ∧ u.verifiedB = some code)) :
    ((decideUpd (some l) u s).updOf (some l)).result = code ∧
    ((decideUpd (some l) u s).updOf (some l)).phase = (if code = 1 then .verified else .failed) ∧
    (code = 1 → (((decideUpd (some l) u s).lane l).nvm.areas u.kind).staging = some u.image) := by
  have hdecided : decideUpd (some l) u s =
      (let v := s.modUpd (some l) fun _ => { u with
        phase := if decide (code = 1) = true then .verified else .failed, result := code,
        fwReady := u.fwReady || (decide (code = 1) && !u.kind), cfgReady := u.cfgReady || (decide (code = 1) && u.kind) }
      if decide (code = 1) = true then v.modNvm (some l) (Nvm.modAreas u.kind fun a => { a with staging := some u.image }) else v) := by
    unfold decideUpd
    rcases h with ⟨hw, hb⟩ | ⟨hw, hb⟩ <;> rw [hw, hb] <;> rfl
  rw [hdecided]
  by_cases h1 : code = 1
  · simp [h1, updOf_modNvm, updOf_modUpd, nvm_modNvm, staging_modAreas]
  · simp [h1, updOf_modUpd]

/-- The recovery service decides with the result of its one lane. -/
theorem updVerified_recovery {s : State} {l : Lane} (code : Nat) (at_ : Word)
    (hp : (s.updOf (some l)).phase = .verifying) (hw : (s.updOf (some l)).verifiedW = none)
    (hb : (s.updOf (some l)).verifiedB = none) :
    ((updVerified (some l) l code at_ s).updOf (some l)).result = code ∧
    ((updVerified (some l) l code at_ s).updOf (some l)).phase = (if code = 1 then .verified else .failed) ∧
    (code = 1 → (((updVerified (some l) l code at_ s).lane l).nvm.areas (s.updOf (some l)).kind).staging.map Image.ident =
      some (s.updOf (some l)).image.ident) := by
  rw [updVerified_eq hp]
  have hnoted := Upd.noted_eq l code at_ (s.updOf (some l))
  have hkind : ((s.updOf (some l)).noted l code at_).kind = (s.updOf (some l)).kind := by rw [hnoted]
  have himage : ((s.updOf (some l)).noted l code at_).image = (s.updOf (some l)).image := by rw [hnoted]; rfl
  obtain ⟨hresult, hphase, hstaged⟩ := decideUpd_recovery l s (Upd.noted_alone hw hb l code at_)
  rw [hkind, himage] at hstaged
  exact ⟨hresult, hphase, fun h1 => by rw [hstaged h1]; rfl⟩

/-! ### The check of an image (R515, R518) -/

theorem updCheck_cases (s : State) (v : Upd) (l : Lane) (dig sig chk : Bool) :
    (v.headerOk = false → updCheck s v l dig sig chk = 4) ∧
    (v.headerOk = true → v.number 16 4 + 128 ≠ v.length → updCheck s v l dig sig chk = 5) ∧
    (v.headerOk = true → v.number 16 4 + 128 = v.length →
      (dig = false → updCheck s v l dig sig chk = 2) ∧ (dig = true → sig = false → updCheck s v l dig sig chk = 3) ∧
      (dig = true → sig = true → v.kind = false → updCheck s v l dig sig chk =
        if v.number 14 2 ≤ runningFormat (s.lane l) ∧ runningFormat (s.lane l) ≤ v.number 12 2 then 1 else 0xA) ∧
      (dig = true → sig = true → v.kind = true → keyHeld s 6 = true → updCheck s v l dig sig chk = if chk then 1 else 6)) := by
  unfold updCheck
  refine ⟨fun hh => by rw [if_pos hh], fun hh hn => ?_, fun hh hn => ?_⟩
  · rw [if_neg (by simp [hh]), if_pos hn]
  · rw [if_neg (by simp [hh]), if_neg (fun h => h hn)]
    refine ⟨fun hd => by rw [if_pos hd], fun hd hs => ?_, fun hd hs hk => ?_, fun hd hs hk h6 => ?_⟩
    · rw [if_neg (by simp [hd]), if_pos (.inl hs)]
    · rw [if_neg (by simp [hd]), if_neg (by simp [hs, hk]), if_neg (by simp [hk])]
    · rw [if_neg (by simp [hd]), if_neg (by simp [hs, hk, h6]), if_pos hk]

/-- Settles O56: what waits for the lanes is presented, the recovery service decides at once, and the stages follow. -/
theorem updateEvents : Obligations.UpdateEvents := by
  intro s l
  refine ⟨?erase, ?eraseAlone, ?verify, ?ready, ?notPaused, ?here, ?later, ?noHealth, ?health⟩
  case erase =>
    intro h
    exact .of_present (by rw [exec_eraseComplete, recoveryIn_false h]; rfl)
  case eraseAlone =>
    intro hs hp
    refine ⟨_, by rw [exec_eraseComplete, recoveryIn_true hs hp, if_pos rfl], updErased_recovery hp, ?_⟩
    exact modUpd_recovery ..
  case verify =>
    intro dig sig i at_ chk
    refine ⟨fun h => ?_, ?_, fun v => updCheck_cases s v l dig sig chk⟩
    · exact .of_present (by rw [exec_verifyResult, recoveryIn_false h]; rfl)
    · intro v hs hp hw hb
      exact ⟨_, by rw [exec_verifyResult, recoveryIn_true hs hp, if_pos rfl], updVerified_recovery _ at_ hp hw hb⟩
  case ready => exact .of_present (exec_laneReady l s)
  case notPaused =>
    intro h
    rw [exec_conversionComplete, updResume, if_neg (fun hn => h hn.1)]
  case here =>
    intro hp ha hphase
    rw [exec_conversionComplete, updResume, if_pos ⟨hp, ha⟩]
    simp [hphase]
  case later =>
    intro hp ha hphase
    rw [exec_conversionComplete, updResume, if_pos ⟨hp, ha⟩]
    simp [hphase]
  case noHealth =>
    intro h
    rw [exec_healthWindowExpiry, if_neg h]
  case health =>
    intro h hl
    rw [exec_healthWindowExpiry, if_pos h, hl, fallBack]
    simp [Word.ofN]

end Sys2Proof.Machine
end

section
/-! SUPPORT. A request of the host step: what starts, what runs and what is answered (R415 to R422). -/

namespace Sys2Proof.Machine

open Sys2Proof

/-! ### Replies (R412, R419, R421) -/

/-- Frames that join those to release change the host part alone. -/
theorem addFrames_host (fs : List Frame) (s : State) : addFrames fs s = { s with host := (addFrames fs s).host } := by
  cases fs with
  | nil => rfl
  | cons f fs => simp only [addFrames]; split <;> rfl

theorem giveReply_host (p : Packet) (fs : List Frame) (s : State) : giveReply p fs s = { s with host := (giveReply p fs s).host } := by
  unfold giveReply
  split <;> exact addFrames_host ..

theorem giveReply_ply (p : Packet) (fs : List Frame) (s : State) : (giveReply p fs s).ply = s.ply := by
  rw [giveReply_host]

theorem giveReply_black (p : Packet) (fs : List Frame) (s : State) : (giveReply p fs s).black = s.black := by
  rw [giveReply_host]

/-- A reply takes and frees no lock. -/
theorem hostLocked_giveReply (p : Packet) (fs : List Frame) (s : State) (y : Ply) :
    hostLocked { giveReply p fs s with ply := y } = hostLocked s := by
  simp only [hostLocked, giveReply_white, giveReply_black]

theorem dropHostLocks_free {s : State} (h : hostLocked s = false) : dropHostLocks s = s := by
  rw [dropHostLocks, if_neg (by simp [h])]

theorem noteLate_none (l : Lane) (seq : Nat) (ws : List Word) {s : State} (h : s.host.lateNow = []) : noteLate l seq ws s = s := by
  rw [noteLate, if_pos h]

/-- The frame of a reply that is not cut (R412). -/
def replyFrame (p : Packet) (key : Option Nat) (status seq ply time : Nat) (ws other : List Word) : Frame :=
  { port := p.port, words := frameWords p key.isSome status seq ply 0 false ws,
    other := frameWords p key.isSome status seq ply 0 false (other.take 472), time := time, key := key, seq := seq, ply := ply,
    index := 0, replay := false, ahead := false, dest := p.source, order := seq }

/-- A reply of at most 472 words is one frame. -/
theorem replyFrames_single (p : Packet) (key : Option Nat) (status seq ply time : Nat) {ws : List Word} (other : List Word)
    (h : ws.length ≤ 472) :
    replyFrames p key status seq ply time ws other = [replyFrame p key status seq ply time ws other] := by
  have hn : frameCount ws.length = 1 := by rw [frameCount]; omega
  have hr : List.range 1 = [0] := rfl
  simp only [replyFrames, hn, hr, List.map_cons, List.map_nil, Nat.mul_zero, List.drop_zero, Nat.zero_add, Nat.lt_irrefl,
    decide_false, List.take_of_length_le h, replyFrame]

/-! ### Requests that start (R415, R419, R420) -/

/-- A request that is neither carried nor waits runs, and the records that it makes have taken its arrival time. -/
theorem hostRequest_runs {s : State} {p : Packet} {seq : Nat} (hreset : s.host.resetPort = none) (hblocked : s.ply.blocked = false)
    (hcarried : s.host.carried = []) (hcost : s.ply.hostWords + wordCost p.opcode p.payload ≤ 4096)
    (hruns : (startRequest p seq s).ply.blocked = false) :
    hostRequest p seq s.ply.at_ s =
      { startRequest p seq s with ply := { (startRequest p seq s).ply with at_ := s.ply.at_ } } := by
  unfold hostRequest
  rw [if_neg (by simp [hreset]), if_neg (by simp [hblocked]), if_pos (by simp [hcarried, hcost])]
  exact if_neg (by rw [show ({ s with ply := { s.ply with at_ := s.ply.at_ } } : State) = s from rfl, hruns]; decide)

/-- A REQ_ID above every one before is new (R419). -/
theorem reqFate_new {x : Session} {id : Nat} (hid : id ≠ 0) (h : x.high < id) : reqFate x id = .run := by
  rw [reqFate, if_neg (fun hn => hn.elim hid (by omega)), if_pos (.inl h)]

/-- A request of its session with a new REQ_ID is counted for the session and executed. -/
theorem startRequest_counted {s : State} {h : ReqHead} {code : Nat} {ws : List Word} {k : Nat} {x : Session} (cov : Bool)
    (nonce : Nat) (hcode : code ≠ 0) (hsession : findSession s.host.sessions h.session.toNat = some (k, x))
    (hsec : x.secure = h.sec) (hnew : h.reqId ≠ 0) (hhigh : x.high < h.reqId.toNat) :
    let p : Packet := ⟨h.port, h.source, code, h.sec, h.session, h.reqId, ws, 0, nonce, cov⟩
    let y := x.took h.reqId.toNat s.ply.boundary
    startRequest p h.seq s = if code = 1 then executeClose p h.seq k y (setSession none k y s)
      else executeRequest p h.seq y (setSession none k y s) := by
  have hid' : h.reqId.toNat ≠ 0 := fun h0 => hnew (BitVec.eq_of_toNat_eq (by simpa using h0))
  simp only [startRequest, hsession, hsec, reqFate_new hid' hhigh, hcode, ne_eq, not_true_eq_false, if_false]

theorem queueFull_room {s : State} {l : Lane} {n k : Nat} (h : queuedFrames s l + k ≤ 128) (hn : n ≤ k) :
    queueFull s l n = false := by
  simp only [queueFull, decide_eq_false_iff_not]
  omega

/-- An opcode that runs is answered with what it gives (R421, R422). -/
theorem executeRequest_answers {p : Packet} {seq : Nat} {x : Session} {s v : State} {status : Nat} {out other : List Word}
    {w : State} (hdef : opDefined p.opcode = true) (hsecure : secureOnly p.opcode = true → x.secure = true)
    (hrun : runOpcode p.covered p.port p.port p.opcode x.master x.secure p.payload s = (status, out, v))
    (hother : runOpcode p.covered p.port (otherLane p.port) p.opcode x.master x.secure p.payload s = (status, other, w))
    (hlen : out.length ≤ 15104) (hqueue : queuedFrames s p.port + 32 ≤ 128) (hlate : v.host.lateNow = [])
    (hcastle : p.opcode = 0x70 → status ≠ 0) (hnum : v.ply.number = s.ply.number) (hat : v.ply.at_ = s.ply.at_) :
    executeRequest p seq x s = giveReply p (replyFrames p (if x.secure then some x.keyRep else none) status seq s.ply.number
      s.ply.at_ out other) { v with ply := { v.ply with hostWords := v.ply.hostWords + wordCost p.opcode p.payload } } := by
  have hn : frameCount out.length ≤ 32 := by rw [frameCount]; omega
  have hsec : (secureOnly p.opcode && !x.secure) = false := by
    cases hs : secureOnly p.opcode
    · rfl
    · rw [hsecure hs]; rfl
  have hreply : ¬ (p.opcode = 0x70 ∧ status = stOk) := fun h => hcastle h.1 h.2
  unfold executeRequest
  dsimp only
  rw [if_neg (by simp [hdef]), if_neg (by simp [hsec]), show (if x.secure = true then 28 else 29) = x.master from rfl, hrun, hother,
    if_neg (Nat.not_lt.mpr hn), if_neg (by simp [queueFull_room hqueue hn]), if_neg hreply, noteLate_none _ _ _ (by exact hlate)]
  exact congrArg₂ (fun a b => giveReply p (replyFrames p _ status seq a b out other) _) hnum hat

/-- The state in which a request runs differs from the state before it in the host part and the free values alone. -/
theorem Counted_eq (h : ReqHead) (s : State) (k : Nat) (x : Session) :
    Counted h s k x = { s with free := s.free + 1, host := { s.host with
      sessions := Sparse.put s.host.sessions k (x.took h.reqId.toNat s.ply.boundary) } } := rfl

/-- A row of R428 that starts leaves what its request leaves. -/
theorem hostRow_runs {s t : State} {code : Nat} {h : ReqHead} {ws : List Word} (hreset : s.host.resetPort = none)
    (hblocked : s.ply.blocked = false) (hcarried : s.host.carried = []) (hcost : s.ply.hostWords + wordCost code ws ≤ 4096)
    (hruns : startRequest (rowPacket code h ws s) h.seq { s with free := s.free + 1 } = t) (hgoes : t.ply.blocked = false)
    (hlock : hostLocked t = false) : hostRow code h ws s = { t with ply := { t.ply with at_ := s.ply.at_ } } := by
  subst hruns
  unfold hostRow
  rw [hostRequest_runs (s := { s with free := s.free + 1 }) (p := rowPacket code h ws s) hreset hblocked hcarried hcost hgoes]
  exact dropHostLocks_free hlock

/-- Answering a request of a session: what its opcode gives in the state that counts it is what the session hears. -/
theorem Answers.of_run {c : Instr} {code : Nat} {h : ReqHead} {ws : List Word} {s v w : State} {k : Nat} {x : Session}
    {status : Nat} {out other : List Word} (hexec : exec c s = .next (hostRow code h ws s)) (hstart : Starts code h ws s k x)
    (hcode : code ≠ 0 ∧ code ≠ 1) (hdef : opDefined code = true) (hsecure : secureOnly code = true → x.secure = true)
    (hrun : runOpcode (covered s) h.port h.port code x.master x.secure ws (Counted h s k x) = (status, out, v))
    (hother : runOpcode (covered s) h.port (otherLane h.port) code x.master x.secure ws (Counted h s k x) = (status, other, w))
    (hlen : out.length ≤ 15104) (hcastle : code = 0x70 → status ≠ 0) (hlate : v.host.lateNow = [])
    (hblocked : v.ply.blocked = false) (hnum : v.ply.number = s.ply.number) (hat : v.ply.at_ = s.ply.at_)
    (hlock : hostLocked v = false) :
    Answers c code h ws s x status out other v := by
  obtain ⟨hreset, hblock, hcarried, hcost, hsession, hsec, hid, hhigh, hqueue, -, -⟩ := hstart
  obtain ⟨h0, h1⟩ := hcode
  unfold Answers
  rw [hexec]
  congr 1
  have hcounted := startRequest_counted (s := { s with free := s.free + 1 }) (ws := ws) (covered s) (Config.deviceNonce s.free) h0
    hsession hsec hid hhigh
  have hanswer := executeRequest_answers
    (p := ⟨h.port, h.source, code, h.sec, h.session, h.reqId, ws, 0, Config.deviceNonce s.free, covered s⟩) (seq := h.seq)
    (x := x.took h.reqId.toNat s.ply.boundary) hdef hsecure hrun hother hlen hqueue hlate hcastle hnum hat
  simp only [if_neg h1] at hcounted
  replace hcounted := hcounted.trans hanswer
  exact hostRow_runs hreset hblock hcarried hcost hcounted ((congrArg Ply.blocked (giveReply_ply ..)).trans hblocked)
    ((hostLocked_giveReply ..).trans hlock)

end Sys2Proof.Machine
end

section
/-! SUPPORT. Sessions and packets of the host ports (R106, R406, R408, R415 to R419, R428, R437). -/

namespace Sys2Proof.Machine

open Sys2Proof

/-! ### HELLO and CLOSE (R417, R418) -/

theorem exec_hello (h : ReqHead) (ws : List Word) (s : State) : exec (.hello h ws) s = .next (hostRow 0 h ws s) := rfl
theorem exec_close (h : ReqHead) (ws : List Word) (s : State) : exec (.close h ws) s = .next (hostRow 1 h ws s) := rfl
theorem exec_ping (h : ReqHead) (ws : List Word) (s : State) : exec (.ping h ws) s = .next (hostRow 2 h ws s) := rfl

/-- The session that a non-secure HELLO opens (R417). -/
def plainSession (p : Packet) (s : State) : Session :=
  { pending := false, secure := false, handle := freeHandle s.host.sessions 10 s.host.nextHandle, keyIdx := 0,
    nh := ((List.range 4).map fun i => (p.payload.getD (i + 1) 0).toNat % 2 ^ 16 * 2 ^ (16 * i)).sum, nd := 0, keyReq := 0,
    keyRep := 0, high := p.reqId.toNat, executed := [p.reqId.toNat], cache := [], lastExec := s.ply.boundary }

/-- The state that a non-secure HELLO leaves. -/
def helloOpens (p : Packet) (s : State) : State :=
  laneRecord ⟨0x0A, 1, Word.ofN (0x99010 + 4 * freeEntry s.host.sessions), Word.ofN (plainSession p s).handle, 0⟩
    { s with host := { s.host with
      sessions := Sparse.put s.host.sessions (freeEntry s.host.sessions) (plainSession p s)
      nextHandle := (plainSession p s).handle + 1 } }

/-- What it answers (R429). -/
def helloWords (p : Packet) (s : State) : List Word :=
  [Word.ofN (plainSession p s).handle, 0, 0, 0, 0, Word.ofN ((s.copyReg 0x99000).field 18 9), epochWord s]

section
variable {p : Packet} {s : State} (hplain : p.payload.getD 0 0 = 0) (hopen : (s.copyReg 0x99000).bit 19 = true)
include hplain hopen

theorem hello_busy (hfull : 8 ≤ s.host.sessions.length) : hello none p s = (stBusy, [], none, s) := by
  have hbit : (0 : Word).bit 19 = false := by decide
  unfold hello
  simp only [hplain, hbit, hopen, sessionTable, Option.isSome_none, Bool.false_eq_true, and_false, if_false, Bool.true_eq_false,
    hfull, if_true, false_and, or_false]
  rw [if_neg (by decide)]

theorem hello_opens (hroom : s.host.sessions.length < 8) :
    hello none p s = (stOk, helloWords p s, none, helloOpens p s) := by
  have hbit : (0 : Word).bit 19 = false := by decide
  have hepoch : Word.ofN (epochWord s).toNat = epochWord s := by simp [Word.ofN]
  have hzero : Word.ofN (flagAt false 19 + 0) = 0 := by decide
  unfold hello
  simp only [hplain, hbit, hopen, sessionTable, Option.isSome_none, Bool.false_eq_true, and_false, if_false,
    Bool.true_eq_false, Nat.not_le.mpr hroom, false_and, or_false, hepoch, hzero]
  rw [if_neg (by decide)]
  rfl

end

/-- A frame joins those to release on a port with room (R421). -/
theorem addFrames_room {f : Frame} {s : State} (h : queuedFrames s f.port < 160) :
    addFrames [f] s = { s with host := { s.host with made := s.host.made ++ [f] } } := by
  simp only [addFrames, List.length_singleton]
  exact if_pos h

/-- HELLO past its checks is answered with one frame. -/
theorem executeHello_gives {p : Packet} {s v : State} {status : Nat} {ws : List Word} (seq : Nat) (hid : p.reqId ≠ 0)
    (hlen : p.payload.length = 5) (hqueue : queuedFrames s p.port < 128) (hrun : hello none p s = (status, ws, none, v))
    (hws : ws.length ≤ 472) (hsame : queuedFrames v p.port = queuedFrames s p.port) :
    ∃ f : Frame, executeHello p seq s = { v with host := { v.host with made := v.host.made ++ [f] } } ∧ f.port = p.port ∧
      f.words = frameWords p false status seq s.ply.number 0 false ws := by
  have hfull : queueFull s p.port 1 = false := queueFull_room (k := 1) hqueue (Nat.le_refl 1)
  refine ⟨replyFrame p none status seq s.ply.number s.ply.at_ ws ws, ?_, rfl, rfl⟩
  unfold executeHello
  rw [if_neg hid, if_neg (by simp [hlen]), hrun, if_neg (by simp [hfull]), replyFrames_single _ _ _ _ _ _ _ hws, addFrames_room]
  exact hsame ▸ Nat.lt_trans hqueue (by decide)

theorem startRequest_hello {p : Packet} (hf : p.failed = 0) (ho : p.opcode = 0) (seq : Nat) (s : State) :
    startRequest p seq s = executeHello p seq s := by
  rw [startRequest, if_neg (by simp [hf]), if_pos ho]

theorem frameWords_status (p : Packet) (sec : Bool) (status seq ply index : Nat) (more : Bool) (ws : List Word) :
    (frameWords p sec status seq ply index more ws).getD 5 0 = Word.ofN (status * 2 ^ 12) := rfl

theorem frameWords_payload (p : Packet) (sec : Bool) (status seq ply index : Nat) (more : Bool) (ws : List Word) :
    (frameWords p sec status seq ply index more ws).drop 12 = ws := rfl

theorem frameWords_length (p : Packet) (sec : Bool) (status seq ply index : Nat) (more : Bool) (ws : List Word) :
    (frameWords p sec status seq ply index more ws).length = 12 + ws.length := by
  simp [frameWords, wordsOf]
  omega

/-- A HELLO of a non-secure session that the table has no room for is answered with BUSY and opens none. -/
theorem hello_full_completes {s : State} {h : ReqHead} (n0 n1 n2 n3 : Word) (hreset : s.host.resetPort = none)
    (hblocked : s.ply.blocked = false) (hcarried : s.host.carried = []) (hcost : s.ply.hostWords ≤ 4096)
    (hlock : hostLocked s = false) (hid : h.reqId ≠ 0) (hopen : (s.copyReg 0x99000).bit 19 = true)
    (hqueue : queuedFrames s h.port < 128) (hfull : 8 ≤ s.host.sessions.length) :
    Completes (.hello h [0, n0, n1, n2, n3]) s fun u =>
      u.host.sessions = s.host.sessions ∧ ∃ f, u.host.made = s.host.made ++ [f] ∧ f.port = h.port ∧
        f.words.getD 5 0 = 0x01000 ∧ f.words.length = 12 := by
  obtain ⟨f, hgives, hport, hwords⟩ := executeHello_gives (p := rowPacket 0 h [0, n0, n1, n2, n3] s)
    (s := { s with free := s.free + 1 }) h.seq hid rfl hqueue (hello_busy rfl hopen hfull) (by decide) rfl
  refine ⟨_, (exec_hello ..).trans (congrArg _ (hostRow_runs hreset hblocked hcarried hcost
    ((startRequest_hello rfl rfl _ _).trans hgives) hblocked hlock)), rfl, f, rfl, hport, ?_, ?_⟩
  · rw [hwords]; rfl
  · rw [hwords]; rfl

/-- With room it opens a session in the lowest free entry under the next handle. -/
theorem hello_room_completes {s : State} {h : ReqHead} (n0 n1 n2 n3 : Word) (hreset : s.host.resetPort = none)
    (hblocked : s.ply.blocked = false) (hcarried : s.host.carried = []) (hcost : s.ply.hostWords ≤ 4096)
    (hlock : hostLocked s = false) (hid : h.reqId ≠ 0) (hopen : (s.copyReg 0x99000).bit 19 = true)
    (hqueue : queuedFrames s h.port < 128) (hroom : s.host.sessions.length < 8) :
    Completes (.hello h [0, n0, n1, n2, n3]) s fun u =>
      (∃ x : Session, u.host.sessions = Sparse.put s.host.sessions (freeEntry s.host.sessions) x ∧
        x.handle = freeHandle s.host.sessions 10 s.host.nextHandle ∧ x.pending = false ∧ x.secure = false ∧
        x.high = h.reqId.toNat) ∧
      u.host.nextHandle = freeHandle s.host.sessions 10 s.host.nextHandle + 1 ∧
      u.ply.recs = s.ply.recs ++ [(⟨0x0A, 1, Word.ofN (0x99010 + 4 * freeEntry s.host.sessions),
        Word.ofN (freeHandle s.host.sessions 10 s.host.nextHandle), 0⟩, s.ply.at_)] ∧
      ∃ f, u.host.made = s.host.made ++ [f] ∧ f.port = h.port ∧ f.words.getD 5 0 = 0 ∧ f.words.drop 12 =
        [Word.ofN (freeHandle s.host.sessions 10 s.host.nextHandle), 0, 0, 0, 0, Word.ofN ((s.copyReg 0x99000).field 18 9),
          epochWord s] := by
  obtain ⟨f, hgives, hport, hwords⟩ := executeHello_gives (p := rowPacket 0 h [0, n0, n1, n2, n3] s)
    (s := { s with free := s.free + 1 }) h.seq hid rfl hqueue (hello_opens rfl hopen hroom) (by simp [helloWords]) rfl
  refine ⟨_, (exec_hello ..).trans (congrArg _ (hostRow_runs hreset hblocked hcarried hcost
    ((startRequest_hello rfl rfl _ _).trans hgives) hblocked hlock)), ⟨_, rfl, rfl, rfl, rfl, rfl⟩, rfl, rfl, f, rfl, hport, ?_, ?_⟩
  · rw [hwords]; rfl
  · rw [hwords]; rfl

theorem filter_put_ne {α : Type} (m : List (Nat × α)) (k : Nat) (v : α) :
    (Sparse.put m k v).filter (fun p => decide (p.1 ≠ k)) = m.filter fun p => decide (p.1 ≠ k) := by
  induction m with
  | nil => simp [Sparse.put]
  | cons p m ih =>
    obtain ⟨i, w⟩ := p
    simp only [Sparse.put]
    split
    · simp
    · split
      · subst_vars; simp
      · simp only [List.filter_cons, ih]

/-- The table entry that a session takes holds it (R417). -/
theorem sessionAt_setSession (k : Nat) (x : Session) (s : State) : sessionAt (setSession none k x s) k = some x := by
  have hfind (m : List (Nat × Session)) : (Sparse.put m k x).find? (fun p => decide (p.1 = k)) = some (k, x) := by
    induction m with
    | nil => simp [Sparse.put]
    | cons p m ih =>
      obtain ⟨i, w⟩ := p
      simp only [Sparse.put]
      split
      · simp
      · split
        · simp
        · rename_i h
          simp only [List.find?_cons, ih]
          rw [decide_eq_false (fun hn : i = k => h hn.symm)]
  simp only [sessionAt, setSession, hfind, Option.map_some]

theorem closeSession_closes {s : State} {k : Nat} {x : Session} (h : sessionAt s k = some x) (cause : Nat) :
    closeSession none k cause s = laneRecord ⟨0x0A, 2, Word.ofN (0x99010 + 4 * k), Word.ofN x.handle, Word.ofN cause⟩
      { s with host := { s.host with sessions := s.host.sessions.filter fun p => decide (p.1 ≠ k) } } := by
  simp only [closeSession, h]

/-- A reply without payload joins the frames to release on a port with room. -/
theorem plainReply_room {s : State} {p : Packet} (key : Option Nat) (status seq : Nat) (h : queuedFrames s p.port + 1 ≤ 128) :
    plainReply p key status seq s = { s with host := { s.host with
      made := s.host.made ++ [replyFrame p key status seq s.ply.number s.ply.at_ [] []] } } := by
  rw [plainReply, statusFrames, queueFull_room h (Nat.le_refl 1), if_neg (by decide),
    replyFrames_single _ _ _ _ _ _ _ (Nat.zero_le _), addFrames_room]
  exact Nat.lt_of_lt_of_le h (by decide)

theorem executeClose_closes {s : State} {p : Packet} {k : Nat} (seq : Nat) (y : Session) (hpayload : p.payload = [])
    (hqueue : queuedFrames s p.port + 32 ≤ 128) :
    executeClose p seq k y (setSession none k y s) =
      (let v := laneRecord ⟨0x0A, 2, Word.ofN (0x99010 + 4 * k), Word.ofN y.handle, 1⟩ { s with host := { s.host with
          sessions := (Sparse.put s.host.sessions k y).filter fun p => decide (p.1 ≠ k) } }
       { v with host := { v.host with made := v.host.made ++
          [replyFrame p (if y.secure then some y.keyRep else none) 0 seq s.ply.number s.ply.at_ [] []] } }) := by
  have hroom : queuedFrames s p.port + 1 ≤ 128 := by omega
  have hfull : queueFull (setSession none k y s) p.port 1 = false := queueFull_room (k := 1) hroom (Nat.le_refl 1)
  unfold executeClose
  rw [if_neg (by rw [hpayload, hfull]; decide), closeSession_closes (sessionAt_setSession k y s) 1]
  exact plainReply_room _ _ _ hroom

/-- CLOSE closes its session and is answered. -/
theorem close_completes {s : State} {h : ReqHead} {k : Nat} {x : Session} (hstart : Starts 1 h [] s k x) :
    Completes (.close h []) s fun u =>
      u.host.sessions = s.host.sessions.filter (fun p => decide (p.1 ≠ k)) ∧
      u.ply.recs = s.ply.recs ++ [(⟨0x0A, 2, Word.ofN (0x99010 + 4 * k), Word.ofN x.handle, 1⟩, s.ply.at_)] ∧
      ∃ f, u.host.made = s.host.made ++ [f] ∧ f.port = h.port ∧ f.words.getD 5 0 = 0 := by
  obtain ⟨hreset, hblock, hcarried, hcost, hsession, hsec, hid, hhigh, hqueue, hlock, -⟩ := hstart
  have hcounted := startRequest_counted (s := { s with free := s.free + 1 }) (code := 1) (ws := []) (covered s)
    (Config.deviceNonce s.free) (by decide) hsession hsec hid hhigh
  simp only [if_true] at hcounted
  have hcloses := executeClose_closes (s := { s with free := s.free + 1 }) (k := k)
    (p := ⟨h.port, h.source, 1, h.sec, h.session, h.reqId, [], 0, Config.deviceNonce s.free, covered s⟩) h.seq
    (x.took h.reqId.toNat s.ply.boundary) rfl hqueue
  exact ⟨_, (exec_close ..).trans (congrArg _ (hostRow_runs hreset hblock hcarried hcost (hcounted.trans hcloses) hblock hlock)),
    filter_put_ne .., rfl, _, rfl, rfl, rfl⟩

theorem ping_answers {s : State} {h : ReqHead} {k : Nat} {x : Session} (hstart : Starts 2 h [] s k x) :
    Answers (.ping h []) 2 h [] s x 0 (pingWords s h.port) (pingWords s (otherLane h.port)) (Counted h s k x) :=
  .of_run (exec_ping ..) hstart (by decide) rfl (fun hn => nomatch hn) rfl rfl (by simp [pingWords, wordsOf])
    (fun hn => nomatch hn) hstart.2.2.2.2.2.2.2.2.2.2 hstart.2.1 rfl rfl hstart.2.2.2.2.2.2.2.2.2.1

/-! ### Sessions that end by themselves (R417, R418) -/

theorem exec_sessionIdleTimeout (k : Fin 8) (s : State) : exec (.sessionIdleTimeout k) s = .next (match sessionAt s k with
    | some x => if x.pending || !idleFor x ((s.copyReg 0x99000).field 18 9) s then s else closeSession none k 2 s
    | none => s) := rfl

theorem exec_pendingSessionExpiry (k : Fin 8) (s : State) : exec (.pendingSessionExpiry k) s = .next (match sessionAt s k with
    | some x => if x.pending && idleFor x 1 s then closeSession none k 3 s else s
    | none => s) := rfl

/-! ### Packets (R408, R415, R416) -/

theorem exec_hostPacket (l : Lane) (head : HostFrame) (os : List (BitVec 8)) (s : State) :
    exec (.hostPacket l head os) s = .next (receivePacket l head os s) := rfl

theorem exec_arpRequest (l : Lane) (t f : BitVec 32) (s : State) :
    exec (.arpRequest l t f) s = .next (arpStep l t.toNat f.toNat s) := rfl

theorem exec_hostLinkUp (l : Lane) (s : State) : exec (.hostLinkUp l) s = .next (linkChange l true s) := rfl
theorem exec_hostLinkLoss (l : Lane) (s : State) : exec (.hostLinkLoss l) s = .next (linkChange l false s) := rfl

theorem acceptsFrame_iff (s : State) (l : Lane) (head : HostFrame) : acceptsFrame s l head = true ↔
    head.destMac.toNat = portMac (s.lane l) l ∧ head.plain = true ∧ head.destIp.toNat = portIp (s.lane l) ∧
    head.source.ip.toNat ∈ permittedHosts (s.lane l) ∧ head.destUdp.toNat = (portReg (s.lane l) 0x98009).toNat ∧
    head.checksum = true := by
  simp only [acceptsFrame, Bool.and_eq_true, decide_eq_true_eq, List.contains_eq_mem, and_assoc]

theorem modLane_eq (s : State) (l : Lane) (f : LaneSt → LaneSt) : s.modLane l f = s.setLane l (f (s.lane l)) := rfl

/-- A frame that the filter refuses, or that is too short, counts as dropped (R408). -/
theorem receivePacket_drops {s : State} {l : Lane} {head : HostFrame} {os : List (BitVec 8)} (ha : portAnswers s l = true)
    (h : acceptsFrame s l head = false ∨ os.length < 15) :
    receivePacket l head os s = s.setLane l ((s.lane l).countPort 1 1) := by
  rw [receivePacket, if_neg (by simp [ha]), if_pos (by rcases h with h | h <;> simp [h])]
  rfl

/-- A packet of a session at a lane that computes the plies is offered to the sequencer (R416). -/
theorem receivePacket_offers {s : State} {l : Lane} {head : HostFrame} {os : List (BitVec 8)} (ha : portAnswers s l = true)
    (hrole : (s.lane l).role = .active ∨ (s.lane l).role = .standby) (haccepts : acceptsFrame s l head = true)
    (hlen : 15 ≤ os.length) (hstep : failedStep s l os = 0) (hop : (packetOf l head.source (packetWords os) 0 0).opcode ≠ 0) :
    receivePacket l head os s = offerPacket (packetOf l head.source (packetWords os) 0 0) s := by
  have hhello : decide (((packetWords os).getD 0 0).field 7 0 = 0) = false := decide_eq_false hop
  unfold receivePacket
  rw [if_neg (by simp [ha]), if_neg (by simp [haccepts, hlen])]
  simp only [hstep, hhello, Bool.false_and, Bool.false_eq_true, if_false, if_true, hrole]

/-! ### Inputs that a change of one lane's own port makes (R81, R85) -/

theorem Numbering.setLane {s : State} {l : Lane} {g : LaneSt} (h : Numbering s) (hr : g.role = (s.lane l).role)
    (hs : g.stale = (s.lane l).stale) : Numbering (s.setLane l g) := by
  obtain ⟨hrun, hend, hactive, hroom, hcarry, hlast⟩ := h
  refine ⟨?_, ?_, ?_, ?_, ?_, ?_⟩
  case refine_3 => rw [activeLane, laneIn_setLane s l g .active hr hs]; exact hactive
  all_goals cases l <;> assumption

theorem Presented.setLane {s u : State} {l : Lane} {g : LaneSt} {src : Nat} {ws : List Word} {act : Act}
    (h : Presented src ws act (s.setLane l g) u) (hr : g.role = (s.lane l).role) (hs : g.stale = (s.lane l).stale) :
    Presented src ws act s u := by
  have hstandby : standbyLane (s.setLane l g) = standbyLane s := laneIn_setLane s l g .standby hr hs
  have hcovered : covered (s.setLane l g) = covered s := by
    simp only [covered, hstandby, activeLane, laneIn_setLane s l g .active hr hs]
    cases l <;> rfl
  rw [Presented, hstandby, hcovered] at h
  cases l <;> exact h

/-- Presenting changes of a lane only what an epoch carry changes (R84). -/
theorem Posts.lane {s u : State} (h : Posts s u) (l : Lane) :
    u.lane l = { s.lane l with nvm := (u.lane l).nvm, startStatus := (u.lane l).startStatus } := by
  obtain ⟨-, hw, hb⟩ := h
  have hkeeps (x y : LaneSt) (h : ∃ n st, x = { y with nvm := n, startStatus := st }) :
      x = { y with nvm := x.nvm, startStatus := x.startStatus } := by
    obtain ⟨n, st, rfl⟩ := h
    rfl
  cases l
  · exact hkeeps _ _ ⟨_, _, hw⟩
  · exact hkeeps _ _ ⟨_, _, hb⟩

/-- A port's lane with one more packet presented in the ply (R416, R439). -/
def LaneSt.offered (g : LaneSt) : LaneSt := { g.countPort 0 1 with rxPly := g.rxPly + 1 }

/-- What a packet that is presented leaves (R416). -/
theorem presentPacket_gives {l : Lane} {s : State} (p : Packet) (hl : p.port = l) (hop : p.opcode ≠ 0) (hf : p.failed = 0) :
    let u := presentPacket p s
    (u.lane l).rxPly = (s.lane l).rxPly + 1 ∧ (u.lane l).portCounts = ((s.lane l).countPort 0 1).portCounts ∧
    (Numbering s → Presented (if l = .white then 0x3C else 0x3D)
      ([Word.ofN (2 ^ 16 + flagAt p.sec 14 + p.opcode), Word.ofN p.payload.length, Word.ofN p.session.toNat] ++
        wordsOf p.reqId.toNat 2 ++ p.payload ++ [0]) (.packet p) s u) := by
  subst hl
  have hnonce : (if p.opcode = 0 ∧ p.failed = 0 then
      (List.range 4).map fun i => Word.ofN (p.nonce / 2 ^ (16 * i) % 2 ^ 16) else []) = [] := if_neg fun h => hop h.1
  have hlast : Word.ofN p.failed = 0 := by rw [hf]; rfl
  have hsrc : (match p.port with | .white => 0x3C | .black => 0x3D) = if p.port = .white then 0x3C else 0x3D := by
    cases p.port <;> rfl
  have hpresent : presentPacket p s = present (if p.port = .white then 0x3C else 0x3D)
      ([Word.ofN (2 ^ 16 + flagAt p.sec 14 + p.opcode), Word.ofN p.payload.length, Word.ofN p.session.toNat] ++
        wordsOf p.reqId.toNat 2 ++ p.payload ++ [0]) (.packet p)
      (s.setLane p.port (s.lane p.port).offered) := by
    unfold presentPacket
    dsimp only
    rw [hnonce, hlast, List.append_nil]
    cases p.port <;> rfl
  intro u
  have hu : u = _ := hpresent
  have hposts := present_posts (if p.port = .white then 0x3C else 0x3D)
      ([Word.ofN (2 ^ 16 + flagAt p.sec 14 + p.opcode), Word.ofN p.payload.length, Word.ofN p.session.toNat] ++
        wordsOf p.reqId.toNat 2 ++ p.payload ++ [0]) (.packet p)
      (s.setLane p.port (s.lane p.port).offered)
  rw [← hu] at hposts
  have hlane := hposts.lane p.port
  rw [State.setLane_lane, if_pos rfl] at hlane
  refine ⟨by rw [hlane]; rfl, by rw [hlane]; rfl, fun hn => ?_⟩
  have hrole : (s.lane p.port).offered.role = (s.lane p.port).role := rfl
  have hstale : (s.lane p.port).offered.stale = (s.lane p.port).stale := rfl
  rw [hu]
  exact (present_numbered _ _ _ _ (hn.setLane hrole hstale)).1.setLane hrole hstale

/-- The lane of a port whose link changes (R106, R437). -/
def LaneSt.linked (up : Bool) (g : LaneSt) : LaneSt :=
  { g with linkUp := up, linkLosses := if up then g.linkLosses else satTo 0xFF (g.linkLosses + 1) }

/-- A link that changes is presented (R106, R437). -/
theorem linkChange_gives {l : Lane} {s : State} {up : Bool} (hdiff : (s.lane l).linkUp ≠ up)
    (hready : up = true → portReady s l = true) :
    let u := linkChange l up s
    (u.lane l).linkUp = up ∧ (u.lane l).linkLosses = (if up then (s.lane l).linkLosses else min ((s.lane l).linkLosses + 1) 0xFF) ∧
    (u.lane l).txq = (s.lane l).txq ∧
    (Numbering s → Presented 0x1A [if up then 1 else 0, laneWord l, 0] (.link l up) s u) := by
  have hpresent : linkChange l up s = present 0x1A [if up then 1 else 0, laneWord l, 0] (.link l up)
      (s.setLane l ((s.lane l).linked up)) := by
    unfold linkChange
    rw [if_neg (by cases up <;> simp_all)]
    rfl
  intro u
  have hu : u = _ := hpresent
  have hposts := present_posts 0x1A [if up then 1 else 0, laneWord l, 0] (.link l up) (s.setLane l ((s.lane l).linked up))
  rw [← hu] at hposts
  have hlane := hposts.lane l
  rw [State.setLane_lane, if_pos rfl] at hlane
  refine ⟨by rw [hlane]; rfl, by rw [hlane]; rfl, by rw [hlane]; rfl, fun hn => ?_⟩
  have hrole : ((s.lane l).linked up).role = (s.lane l).role := rfl
  have hstale : ((s.lane l).linked up).stale = (s.lane l).stale := rfl
  rw [hu]
  exact (present_numbered _ _ _ _ (hn.setLane hrole hstale)).1.setLane hrole hstale


/-- An ARP request for the port's own address from a permitted host is answered (R406, R408). -/
theorem arpStep_answers {s : State} {l : Lane} {target sender : Nat} (ha : portAnswers s l = true) :
    arpStep l target sender s = s.setLane l (
      if target = portIp (s.lane l) ∧ sender ∈ permittedHosts (s.lane l) then
        { s.lane l with
          arps := ((s.lane l).arps ++ [(⟨portIp (s.lane l), portMac (s.lane l) l, sender, s.now⟩ : ArpReply)]).filter fun r =>
            decide (s.now < r.time + 240000) }
      else (s.lane l).countPort 1 1) := by
  rw [arpStep, if_neg (by simp [ha])]
  simp only [List.contains_eq_mem, decide_eq_true_eq, modLane_eq]

/-- Settles O57: HELLO, CLOSE and PING in the host step, and what the engine of a port does with frames and links. -/
theorem hostSessionsAndPackets : Obligations.HostSessionsAndPackets := by
  intro s
  refine ⟨?hello, ?sessions, ?idle, ?packets⟩
  case hello =>
    intro h n0 n1 n2 n3 hreset hblocked hcarried hcost hlock hid hopen hqueue
    exact ⟨hello_full_completes n0 n1 n2 n3 hreset hblocked hcarried hcost hlock hid hopen hqueue,
      hello_room_completes n0 n1 n2 n3 hreset hblocked hcarried hcost hlock hid hopen hqueue⟩
  case sessions =>
    intro h k x
    exact ⟨fun hstart _ => close_completes hstart, ping_answers⟩
  case idle =>
    intro k x hx closed idle
    refine ⟨fun hp hi => ?_, fun hp => ?_, fun hp hi => ?_, fun hp => ?_⟩
    · rw [exec_sessionIdleTimeout, hx]
      simp only [hp, idleFor, Bool.false_or, Bool.not_eq_true', decide_eq_false_iff_not]
      rw [if_neg (fun hn => hn hi), closeSession_closes hx]
      rfl
    · rw [exec_pendingSessionExpiry, hx]
      simp only [hp, Bool.false_and, Bool.false_eq_true, if_false]
    · rw [exec_pendingSessionExpiry, hx]
      simp only [hp, idleFor, Bool.true_and, decide_eq_true_eq]
      rw [if_pos hi, closeSession_closes hx]
      rfl
    · rw [exec_sessionIdleTimeout, hx]
      simp only [hp, Bool.true_or, if_true]
  case packets =>
    intro l head os g dropped
    refine ⟨?refused, ?offered, ?arp, ?up, ?down, ?notReady, ?comesUp, ?goesDown⟩
    case refused =>
      intro ha hbad
      refine (exec_hostPacket ..).trans (congrArg _ (receivePacket_drops ha ?_))
      by_cases hlen : os.length < 15
      · exact .inr hlen
      · refine .inl (Bool.eq_false_iff.mpr fun hacc => ?_)
        obtain ⟨-, hplain, hip, hhost, hudp, hsum⟩ := (acceptsFrame_iff s l head).mp hacc
        rcases hbad with h | h | h | h | h | h
        · exact nomatch hplain.symm.trans h
        · exact nomatch hsum.symm.trans h
        · exact h hip
        · exact h hhost
        · exact h hudp
        · exact hlen h
    case offered =>
      intro hrole hstale hplain hsum hmac hip hhost hudp hlen hstep p hop
      have hanswers : portAnswers s l = true := by
        rcases hrole with h | h <;> simp [portAnswers, LaneSt.inStep, g, h, hstale]
      have hoffers := receivePacket_offers hanswers hrole ((acceptsFrame_iff s l head).mpr ⟨hmac, hplain, hip, hhost, hudp, hsum⟩)
        hlen hstep hop
      have hwaits (hfull : 32 ≤ g.rxPly ∨ g.rxBuf ≠ []) : ¬ ((s.lane l).rxPly < 32 ∧ (s.lane l).rxBuf.isEmpty = true) :=
        fun hn => hfull.elim (Nat.not_le.mpr hn.1) (fun h => h (List.isEmpty_iff.mp hn.2))
      refine ⟨fun hply hbuf => ?_, fun hfull => ⟨fun hroom => ?_, fun hnone => ?_⟩⟩
      · refine ⟨_, (exec_hostPacket ..).trans (congrArg _ (hoffers.trans (if_pos ⟨hply, ?_⟩))), presentPacket_gives p rfl hop rfl⟩
        exact List.isEmpty_iff.mpr hbuf
      · exact (exec_hostPacket ..).trans (congrArg _ (hoffers.trans ((if_neg (hwaits hfull)).trans (if_pos hroom))))
      · exact (exec_hostPacket ..).trans (congrArg _ (hoffers.trans ((if_neg (hwaits hfull)).trans
          (if_neg (Nat.not_lt.mpr hnone)))))
    case arp =>
      intro target sender
      refine ⟨fun ha ht hs => ?_, fun ha hbad => ?_⟩
      · exact (exec_arpRequest ..).trans (congrArg _ ((arpStep_answers ha).trans (congrArg _ (if_pos ⟨ht, hs⟩))))
      · exact (exec_arpRequest ..).trans (congrArg _ ((arpStep_answers ha).trans (congrArg _
          (if_neg fun hn => hbad.elim (fun h => h hn.1) (fun h => h hn.2)))))
    case up =>
      intro h
      rw [exec_hostLinkUp, linkChange, if_pos (.inl h)]
    case down =>
      intro h
      rw [exec_hostLinkLoss, linkChange, if_pos (.inl h)]
    case notReady =>
      intro _ h
      rw [exec_hostLinkUp, linkChange, if_pos (.inr (by rw [h]; rfl))]
    case comesUp =>
      intro hdown hready
      exact ⟨_, exec_hostLinkUp l s, linkChange_gives (by rw [show (s.lane l).linkUp = false from hdown]; decide) fun _ => hready⟩
    case goesDown =>
      intro hup
      obtain ⟨h1, h2, h3, h4⟩ := linkChange_gives (l := l) (s := s) (up := false)
        (by rw [show (s.lane l).linkUp = true from hup]; decide) nofun
      exact ⟨_, exec_hostLinkLoss l s, h1, h2.trans (Nat.min_comm _ _), h3, h4⟩

end Sys2Proof.Machine
end

section
/-! SUPPORT. Requests for a power state (R464, R465, R467, R479, R482). -/

namespace Sys2Proof.Machine

open Sys2Proof

/-! ### The decision (R465) -/

theorem PwrState.code_inj (a b : PwrState) : a.code = b.code ↔ a = b := by
  cases a <;> cases b <;> decide

section
variable {s : State}

theorem requestPower_reserved {t : Nat} (h : 4 < t) : requestPower t s = (stRange, s) := by
  unfold requestPower
  exact if_pos h

theorem requestPower_idle (he : s.pwr.entering = false) (hs : s.pwr.state ≠ .idle) (hd : denRunning s = false) :
    requestPower 1 s = (stOk, { s with pwr := { s.pwr with next := some .idle } }) := by
  have hcode : 1 ≠ s.pwr.state.code := fun hn => hs ((PwrState.code_inj _ .idle).mp hn.symm)
  unfold requestPower
  rw [if_neg (by decide), if_neg (fun hn => hcode hn.1), if_pos (by decide), if_neg (by simp [he]), if_neg (by simp [hd])]
  rfl

theorem requestPower_run (he : s.pwr.entering = false) (hs : s.pwr.state ≠ .run) :
    requestPower 0 s = (stOk, { s with pwr := { s.pwr with next := some .run } }) := by
  have hcode : 0 ≠ s.pwr.state.code := fun hn => hs ((PwrState.code_inj _ .run).mp hn.symm)
  unfold requestPower
  rw [if_neg (by decide), if_neg (fun hn => hcode hn.1), if_pos (by decide), if_neg (by simp [he]),
    if_neg (fun hn => absurd hn.1 (by decide))]
  rfl

theorem requestPower_entry {t : Nat} (h2 : 2 ≤ t) (h4 : t ≤ 4) (hs : t ≠ s.pwr.state.code) (he : s.pwr.entering = false)
    (hc : s.pwr.clk = true) (hd : denRunning s = false) (hu : s.upd.stage = .idle) (hp : s.upd.phase ≠ .confirmWait)
    (hw : t = 4 ∨ anyWake s = true) : requestPower t s = (stOk, beginEntry t s) := by
  unfold requestPower
  rw [if_neg (by omega), if_neg (fun hn => hs hn.1), if_neg (by omega), if_neg (by simp [he, hc]), if_neg (by simp [hd, hu, hp]),
    if_neg (fun hn => hw.elim (fun h => absurd hn.1 (by omega)) (fun h => nomatch hn.2.symm.trans h))]

theorem requestPower_busy {t : Nat} (h2 : 2 ≤ t) (h4 : t ≤ 4) (he : s.pwr.entering = true) :
    requestPower t s = (stBusy, s) := by
  unfold requestPower
  rw [if_neg (by omega), if_neg (by simp [he]), if_neg (by omega), if_pos (.inl he)]

theorem requestPower_upward (he : s.pwr.entering = true) (hp : s.pwr.point < 3) :
    requestPower 0 s = (stOk, { s with pwr := { s.pwr with
      wakePend := true, wakeBy := if s.pwr.wakePend then s.pwr.wakeBy else 0xF, upward := some .run } }) := by
  unfold requestPower
  rw [if_neg (by decide), if_neg (by simp [he]), if_pos (by decide), if_pos he, if_pos hp, pendWake, if_pos ⟨he, hp⟩]
  rfl

end

/-! ### Writes of PWR_CTL (R134, R482) -/

theorem exec_pwrCtlReq (m : Fin 32) (t : BitVec 3) (s : State) :
    exec (.pwrCtlReq m t) s = .next (masterWrite m 0x9E005 (Word.ofN (2 ^ 19 + t.toNat * 2 ^ 16)) s) := rfl

theorem exec_clk250 (m : Fin 32) (s : State) : exec (.clk250 m) s = .next (masterWrite m 0x9E005 0x08000 s) := rfl

theorem pointWrite_pwrCtl (m : Nat) (v : Word) (s : State) : pointWrite m 0x9E005 v s = pwrCtlWrite m v s := rfl

/-- A request for target `t` as it is written (R482). -/
theorem pwrCtl_bits : ∀ t : BitVec 3, (Word.ofN (2 ^ 19 + t.toNat * 2 ^ 16)).bit 15 = false ∧
    (Word.ofN (2 ^ 19 + t.toNat * 2 ^ 16)).bit 19 = true ∧ (Word.ofN (2 ^ 19 + t.toNat * 2 ^ 16)).field 18 16 = t.toNat := by
  decide

theorem pwrCtlWrite_request (m : Nat) (t : BitVec 3) (s : State) :
    pwrCtlWrite m (Word.ofN (2 ^ 19 + t.toNat * 2 ^ 16)) s =
      if (requestPower t.toNat s).1 = stRange then writeRefused m 0x9E005 (Word.ofN (2 ^ 19 + t.toNat * 2 ^ 16)) s
      else (requestPower t.toNat s).2 := by
  obtain ⟨h15, h19, hfield⟩ := pwrCtl_bits t
  unfold pwrCtlWrite
  simp only [h15, h19, hfield, Bool.false_and, Bool.false_eq_true, if_false, if_true]

theorem pwrCtlWrite_clk (m : Nat) (s : State) : pwrCtlWrite m 0x08000 s =
    if s.pwr.locked && !s.pwr.clk then { s with pwr := { s.pwr with clkReq := true } } else s := by
  have h15 : (0x08000 : Word).bit 15 = true := by decide
  have h19 : (0x08000 : Word).bit 19 = false := by decide
  unfold pwrCtlWrite
  simp only [h15, h19, Bool.true_and, Bool.false_eq_true, if_false]

/-- The rules of R465 do not look at the lanes. -/
theorem LanesOnly.power {s u : State} (h : LanesOnly s u) :
    u.pwr = s.pwr ∧ denRunning u = denRunning s ∧ anyWake u = anyWake s ∧ u.upd = s.upd := by
  rw [h]
  exact ⟨rfl, rfl, rfl, rfl⟩

/-- The requests at a PWR_CTL that the checks pass. -/
theorem pwrCtl_requests {s : State} {m : Fin 32} (hm : MayWrite s m 0x9E005) :
    let g := Granted s m 0x9E005
    let gives (i : Instr) (v : State) : Prop := exec i s = .next (debugWrote m 0x9E005 v)
    (∀ t : BitVec 3,
      (4 < t.toNat → gives (.pwrCtlReq m t)
        (laneRecord ⟨2, 4, 0x9E005, Word.ofN (2 ^ 19 + t.toNat * 2 ^ 16), Word.ofN m⟩ g)) ∧
      (t = 1 → s.pwr.entering = false → s.pwr.state ≠ .idle → denRunning s = false →
        gives (.pwrCtlReq m t) { g with pwr := { s.pwr with next := some .idle } }) ∧
      (t = 0 → s.pwr.entering = false → s.pwr.state ≠ .run →
        gives (.pwrCtlReq m t) { g with pwr := { s.pwr with next := some .run } }) ∧
      (2 ≤ t.toNat → t.toNat ≤ 4 → t.toNat ≠ s.pwr.state.code → s.pwr.entering = false → s.pwr.clk = true →
        denRunning s = false → s.upd.stage = .idle → s.upd.phase ≠ .confirmWait → (t = 4 ∨ anyWake s = true) →
        gives (.pwrCtlReq m t) (laneRecord ⟨0x0C, 1, 0x9E004, Word.ofN t.toNat, 0⟩ { g with pwr := { s.pwr with
          entering := true, target := t.toNat - 2, point := 0, wakePend := false, wakeBy := 0, upward := none,
          journalDone := false, a1Due := true } })) ∧
      (2 ≤ t.toNat → t.toNat ≤ 4 → s.pwr.entering = true → gives (.pwrCtlReq m t) g) ∧
      (t = 0 → s.pwr.entering = true → s.pwr.point < 3 → gives (.pwrCtlReq m t) { g with pwr := { s.pwr with
        wakePend := true, wakeBy := if s.pwr.wakePend then s.pwr.wakeBy else 0xF, upward := some .run } })) ∧
    (s.pwr.locked = true → s.pwr.clk = false → gives (.clk250 m) { g with pwr := { s.pwr with clkReq := true } }) ∧
    (s.pwr.locked = false ∨ s.pwr.clk = true → gives (.clk250 m) g) := by
  intro g gives
  have hwrite (v : Word) : masterWrite m 0x9E005 v s = debugWrote m 0x9E005 (pwrCtlWrite m v g) := by
    rw [masterWrite_board v s (by decide), masterDo_ok v _ hm, pointWrite_pwrCtl]
  obtain ⟨hpwr, hden, hwake, hupd⟩ := (Granted_only s m 0x9E005).power
  have hreq (t : BitVec 3) {status : Nat} {v : State} (hr : requestPower t.toNat g = (status, v))
      (hok : status ≠ stRange) : gives (.pwrCtlReq m t) v := by
    refine (exec_pwrCtlReq m t s).trans ?_
    rw [hwrite, pwrCtlWrite_request, hr, if_neg hok]
  refine ⟨fun t => ⟨fun h4 => ?_, ?_, ?_, ?_, ?_, ?_⟩, fun hl hc => ?_, fun h => ?_⟩
  · refine (exec_pwrCtlReq m t s).trans ?_
    rw [hwrite, pwrCtlWrite_request, requestPower_reserved h4]
    rfl
  · rintro rfl he hs hd
    rw [← hpwr] at he hs ⊢
    exact hreq 1 (requestPower_idle he hs (hden.trans hd)) (by decide)
  · rintro rfl he hs
    rw [← hpwr] at he hs ⊢
    exact hreq 0 (requestPower_run he hs) (by decide)
  · intro h2 h4 hs he hc hd hu hp hw
    rw [← hpwr] at hs he hc ⊢
    exact hreq t (requestPower_entry h2 h4 hs he hc (hden.trans hd) (by rw [hupd]; exact hu) (by rw [hupd]; exact hp)
      (hw.imp (fun h => by rw [h]; rfl) (fun h => hwake.trans h))) (by decide)
  · intro h2 h4 he
    rw [← hpwr] at he
    exact hreq t (requestPower_busy h2 h4 he) (by decide)
  · rintro rfl he hp
    rw [← hpwr] at he hp ⊢
    exact hreq 0 (requestPower_upward he hp) (by decide)
  · refine (exec_clk250 m s).trans ?_
    rw [hwrite, pwrCtlWrite_clk, hpwr, if_pos (by simp [hl, hc])]
  · refine (exec_clk250 m s).trans ?_
    rw [hwrite, pwrCtlWrite_clk, hpwr, if_neg (by rcases h with h | h <;> simp [h])]

end Sys2Proof.Machine
end

section
/-! SUPPORT. Entries, the commit ply, power-down and wakes (R467 to R471, R474, R475, R478, R486). -/

namespace Sys2Proof.Machine

open Sys2Proof

theorem exec_journalWriteComplete (written : Bool) (s : State) : exec (.journalWriteComplete written) s = .next (
    if s.pwr.entering && decide (s.pwr.point = 0) && !s.pwr.journalDone then
      let s := if written && !nvmRefused s then journalLife s else laneRecord ⟨0x0C, 5, 0x9E004, 0, 0⟩ s
      { s with pwr := { s.pwr with journalDone := true } }
    else s) := rfl
theorem exec_entryCommit (s : State) : exec .entryCommit s = .next (commitEntry s) := rfl
theorem exec_powerDownComplete (s : State) : exec .powerDownComplete s = .next (powerDown s) := rfl
theorem exec_deepAfterExpiry (s : State) : exec .deepAfterExpiry s = .next (deepAfter s) := rfl
theorem exec_alarm (s : State) : exec .alarm s = .next (
    if s.seq.running then present 0x17 [7, 0] (.wake 7 []) (if s.pwr.committed && wakeEnabled s 7 0 then raiseWake 7 0 s else s)
    else if (s.pwr.state = .parked ∨ s.pwr.state = .deep) ∧ wakeEnabled s 7 0 = true then raiseWake 7 0 s
    else s) := rfl
theorem exec_rtcReport (s : State) : exec .rtcReport s = .next (
    present 0x17 (8 :: wordsOf ((s.pwr.rtc + 1024) % 2 ^ 40) 2)
      (.upd [(0x9E00A, wordOf ((s.pwr.rtc + 1024) % 2 ^ 40) 0), (0x9E00B, wordOf ((s.pwr.rtc + 1024) % 2 ^ 40) 1)] [])
      { s with pwr := { s.pwr with rtc := (s.pwr.rtc + 1024) % 2 ^ 40 } }) := rfl
theorem exec_wakeInputRise (i : Feed) (s : State) : exec (.wakeInputRise i) s = .next (wakeRise i s) := rfl
theorem exec_wakeInputFall (i : Feed) (s : State) : exec (.wakeInputFall i) s = .next (wakeFall i s) := rfl
theorem exec_wakeEvent (cause idx : BitVec 4) (bad : BitVec 8) (multi : Bool) (s : State) :
    exec (.wakeEvent cause idx bad multi) s = .next (wakeStep cause.toNat idx.toNat bad multi s) := rfl

/-! ### The commit ply (R468) -/

theorem foldl_ply {α : Type} {F : State → α → State} (hF : ∀ s x, F s x = { s with ply := (F s x).ply }) (xs : List α) (s : State) :
    xs.foldl F s = { s with ply := (xs.foldl F s).ply } := by
  induction xs generalizing s with
  | nil => rfl
  | cons x xs ih =>
    rw [List.foldl_cons, ih, hF]

theorem closeAllSessions_frame (cause : Nat) (s : State) : closeAllSessions cause s =
    { s with ply := (closeAllSessions cause s).ply, host := { s.host with sessions := [] } } := by
  have hfold := foldl_ply (F := fun (s : State) (p : Nat × Session) =>
    laneRecord ⟨0x0A, 2, Word.ofN (0x99010 + 4 * p.1), Word.ofN p.2.handle, Word.ofN cause⟩ s) (fun _ _ => rfl) s.host.sessions s
  unfold closeAllSessions
  dsimp only
  rw [hfold]

theorem endSession_ends (cause : Nat) (s : State) : (endSession cause s).acc.sessOpen = false := by
  cases h : s.acc.sessOpen with
  | false => rw [endSession_closed h]; exact h
  | true => rw [endSession_open h, reportSess_frame]

/-- The state that the commit ply begins with. -/
def committing (s : State) : State := { s with pwr := { s.pwr with
  point := 3, wakePend := false, committed := true, kept := [], parkDone := false, wakeStatus := 0, held := none } }

theorem commitEntry_ready {s : State} (hr : commitReady s = true) (ha : (activeLane s).isSome = true) :
    commitEntry s = laneRecord ⟨0x0C, 3, 0x9E004, Word.ofN (s.pwr.target + 2), 0⟩
      (endSession 4 (closeAllSessions 4 (committing s))) := by
  rw [commitEntry, if_neg (by simp [hr, Option.isSome_iff_ne_none.mp ha])]
  rfl

theorem laneRecord_mem (r : RecDraft) (s : State) : r ∈ (laneRecord r s).ply.recs.map (·.1) := by
  simp [laneRecord]

/-! ### The end of phases B and E (R469, R473, R477) -/

theorem captureRetention_frame (l : Lane) (s : State) :
    captureRetention l s = { s with pwr := (captureRetention l s).pwr } ∧ (captureRetention l s).pwr.target = s.pwr.target := by
  unfold captureRetention
  split <;> exact ⟨rfl, rfl⟩

theorem mem_kept (l : Lane) (s : State) (n : Fin 176) :
    (n : Nat) ∈ (List.range 176).filter (parkKept (captureRetention l s)) ↔
      s.pwr.target = 0 ∧ (chReg s n 3).bit 14 = true ∧ (s.chan n).state = .on := by
  obtain ⟨hframe, htarget⟩ := captureRetention_frame l s
  have hpark : parkKept (captureRetention l s) n = parkKept s n := by
    unfold parkKept
    rw [htarget, hframe]
    rfl
  rw [List.mem_filter, hpark]
  simp [parkKept, n.isLt, and_assoc]

theorem pwrEndB_committed {s : State} {l : Lane} (ha : activeLane s = some l) (hc : s.pwr.committed = true) :
    pwrEndB s = { captureRetention l s with
      pwr := { (captureRetention l s).pwr with kept := (List.range 176).filter (parkKept (captureRetention l s)) } } := by
  unfold pwrEndB
  rw [ha]
  dsimp only
  rw [if_pos hc]

/-- Bank 0 with the last number agreed (R477). -/
def numbered (s : State) : State := { s with pwr := { s.pwr with
  lastSeq := s.seq.agreed,
  retention := [(8, Word.ofN (s.seq.agreed / 2 ^ 40)), (9, wordOf s.seq.agreed 0), (10, wordOf s.seq.agreed 1),
    (11, wordOf s.seq.agreed 2)].foldl (fun m p => Sparse.set (fun _ => 0) m p.1 p.2) s.pwr.retention } }

theorem captureNumber_numbered {s : State} (hc : s.pwr.committed = true) (ht : s.pwr.target ≠ 2) : captureNumber s =
    (let w := loadLatch { numbered s with pwr := { (numbered s).pwr with crcs := (List.range 8).map (bankCrc (numbered s)) } }
     { w with pwr := { w.pwr with parkDone := true } }) := by
  unfold captureNumber
  rw [if_neg (by simp [hc])]
  dsimp only
  rw [if_neg ht, if_neg ht]
  rfl

theorem captureNumber_done {s : State} (hc : s.pwr.committed = true) : (captureNumber s).pwr.parkDone = true := by
  unfold captureNumber
  rw [if_neg (by simp [hc])]

/-! ### Tiles that lose power (R463, R474) -/

/-- Only channels and the registers of units differ. -/
def TileOnly (s u : State) : Prop := u = { s with chans := u.chans, live := u.live }

theorem TileOnly.trans {s u v : State} (a : TileOnly s u) (b : TileOnly u v) : TileOnly s v := by
  unfold TileOnly at *
  rw [b, a]

theorem foldl_tileOnly {α : Type} {F : State → α → State} (hF : ∀ s x, TileOnly s (F s x)) (xs : List α) (s : State) :
    TileOnly s (xs.foldl F s) := by
  induction xs generalizing s with
  | nil => rfl
  | cons x xs ih => exact (hF s x).trans (ih _)

/-- Steps that each change the sixteen channels of one tile. -/
theorem foldl_tile (t : Nat) {F : State → Nat → State} (hF : ∀ s k, TileOnly s (F s k))
    (hother : ∀ s k p, p ≠ 16 * t + k → (F s k).chan p = s.chan p) (s : State) :
    TileOnly s ((List.range 16).foldl F s) ∧ (∀ n : Nat, n / 16 ≠ t → ((List.range 16).foldl F s).chan n = s.chan n) ∧
    ∀ n : Nat, n / 16 = t → ∃ v, ((List.range 16).foldl F s).chan n = (F v (n % 16)).chan n := by
  have hnodup : ((List.range 16).map (16 * t + ·)).Nodup :=
    List.Nodup.map (fun a b h => Nat.add_left_cancel h) List.nodup_range
  obtain ⟨hr, hkeeps, heach⟩ := foldl_objects (R := TileOnly) (fun _ => rfl) TileOnly.trans State.chan (16 * t + ·) hF hother
    (List.range 16) hnodup s
  refine ⟨hr, fun n hn => hkeeps n fun hmem => hn ?_, fun n hn => ?_⟩
  · obtain ⟨k, hk, rfl⟩ := List.mem_map.1 hmem
    have := List.mem_range.1 hk
    omega
  · obtain ⟨v, -, -, hset⟩ := heach (n % 16) (List.mem_range.2 (Nat.mod_lt n (by decide)))
    have hkey : 16 * t + n % 16 = n := by omega
    rw [hkey] at hset
    exact ⟨v, hset⟩

theorem clearLive_frame (s : State) (r : (Nat × Nat) × (Nat × Nat)) : TileOnly s (s.clearLive r) ∧
    ∀ n, (s.clearLive r).chan n = s.chan n := ⟨rfl, fun _ => rfl⟩

theorem unpowerTile_spec (t : Nat) (s : State) : TileOnly s (unpowerTile t s) ∧
    (∀ n : Nat, n / 16 ≠ t → (unpowerTile t s).chan n = s.chan n) ∧
    ∀ n : Nat, n / 16 = t → (unpowerTile t s).chan n = Chan.reset := by
  obtain ⟨hr, hkeeps, heach⟩ := foldl_tile t (F := fun s k => s.setChan (16 * t + k) Chan.reset) (fun s k => rfl)
    (fun s k p hp => by rw [State.setChan_chan, if_neg (Ne.symm hp)]) s
  have hreset (v : State) (n : Nat) (hn : n / 16 = t) : (v.setChan (16 * t + n % 16) Chan.reset).chan n = Chan.reset := by
    rw [State.setChan_chan, if_pos (by omega)]
  unfold unpowerTile
  generalize (List.range 16).foldl (fun s k => s.setChan (16 * t + k) Chan.reset) s = v at *
  obtain ⟨hclear, hchan⟩ := clearLive_frame v (tileRange t)
  refine ⟨hr.trans hclear, fun n hn => (hchan n).trans (hkeeps n hn), fun n hn => (hchan n).trans ?_⟩
  obtain ⟨w, hw⟩ := heach n hn
  exact hw.trans (hreset w n hn)

theorem sleepTile_spec (t : Nat) (s : State) : TileOnly s (sleepTile t s) ∧
    ∀ n : Nat, n / 16 ≠ t → (sleepTile t s).chan n = s.chan n := by
  obtain ⟨hr, hkeeps, -⟩ := foldl_tile t (F := fun s k => s.modChan (16 * t + k) fun c =>
      { c with inrush := false, probe := none, probeReq := false, arcWindows := [], used := 0 })
    (fun s k => by rw [State.modChan_eq]; exact rfl)
    (fun s k p hp => by rw [State.modChan_eq, State.setChan_chan, if_neg (Ne.symm hp)]) s
  exact ⟨hr, hkeeps⟩

/-- Tiles that each keep other tiles' channels and reset their own reset every channel of the tiles named. -/
theorem foldl_resets {F : State → Nat → State} {n : Nat} (hother : ∀ s t, n / 16 ≠ t → (F s t).chan n = s.chan n)
    (hown : ∀ s, (F s (n / 16)).chan n = Chan.reset) (ts : List Nat) (s : State)
    (h : s.chan n = Chan.reset ∨ n / 16 ∈ ts) : (ts.foldl F s).chan n = Chan.reset := by
  induction ts generalizing s with
  | nil => exact h.resolve_right (List.not_mem_nil)
  | cons t ts ih =>
    refine ih _ ?_
    by_cases ht : n / 16 = t
    · exact .inl (ht ▸ hown s)
    · exact h.imp ((hother s t ht).trans ·) fun hmem => (List.mem_cons.1 hmem).resolve_left ht

/-- The tiles as the power-down leaves them: those of `sl` asleep, the others without power. -/
def tilesDown (sl : List Nat) (s : State) : State :=
  (List.range 11).foldl (fun s t => if sl.contains t then sleepTile t s else unpowerTile t s) s

theorem tilesDown_only (sl : List Nat) (s : State) : TileOnly s (tilesDown sl s) :=
  foldl_tileOnly (F := fun s t => if sl.contains t then sleepTile t s else unpowerTile t s)
    (fun s t => by split; exacts [(sleepTile_spec t s).1, (unpowerTile_spec t s).1]) (List.range 11) s

theorem tilesDown_chan {sl : List Nat} {n : Nat} (hsl : n / 16 ∉ sl) (hn : n / 16 < 11) (s : State) :
    (tilesDown sl s).chan n = Chan.reset := by
  refine foldl_resets (F := fun s t => if sl.contains t then sleepTile t s else unpowerTile t s) (fun s t ht => ?_) (fun s => ?_)
    (List.range 11) s (.inr (List.mem_range.2 hn))
  · split
    exacts [(sleepTile_spec t s).2 n ht, (unpowerTile_spec t s).2.1 n ht]
  · rw [if_neg (by simpa using hsl)]
    exact (unpowerTile_spec (n / 16) s).2.2 n rfl

theorem mem_sleepTiles {s : State} {t : Nat} (h : t ∈ sleepTiles s) : 5 ≤ t := by
  obtain ⟨k, -, rfl⟩ := List.mem_map.1 (List.mem_filter.1 h).1
  omega

/-! ### Power-down (R468) -/

theorem pastAlarm_frame (s : State) : pastAlarm s = { s with pwr := { s.pwr with held := (pastAlarm s).pwr.held } } := by
  unfold pastAlarm raiseWake
  split
  · split <;> rfl
  · rfl

/-- The state that a power-down targets. -/
def downState (s : State) : PwrState := if s.pwr.target = 0 then .parked else if s.pwr.target = 1 then .deep else .off

/-- The module without lane rails, with the tiles of `v` and the wake `held` (R468, R470). -/
def downed (s v : State) (held : Option (Nat × Nat)) : State :=
  { clearLaneWork v with
    copy := s.copy.filter fun p => (decide (0x9E004 ≤ p.1) && decide (p.1 < 0x9E010)) || (p.1 = 0x88002 : Bool) ||
      (decide (0x90000 ≤ p.1) && decide (p.1 < 0x94000) && decide (p.1 % 0x400 < 0x20))
    white := v.white.unpowered, black := v.black.unpowered, targets := [], douts := [], strs := [], mxs := [],
    den := Den.reset, lanes := Lanes.reset,
    live := dropRange 0x84016 0x88000 (dropRange 0x84000 0x8400F (clearLaneWork v).live), upd := Upd.reset, updWhite := Upd.reset,
    updBlack := Upd.reset,
    sup := { v.sup with
      fabAna := false, fabValid := false, tilesOk := false, aoLp := decide (downState s ≠ .off),
      aoOk := v.sup.aoOk && decide (downState s ≠ .off) },
    acc := { v.acc with
      round := none, kept := none, doorCheck := false, test := none, doublings := 0, present := [], polled := false,
      heldOff := v.acc.heldOff.map (fun p => (p.1, 0)) },
    pwr := { v.pwr with
      state := downState s, entering := false, committed := false, kept := [], parkDone := false, entryRtc := v.pwr.rtc,
      held := held, point := 0, clk := false, clkReq := false, locked := false, sleeping := sleepTiles s, autoDeep := false } }

theorem powerDown_gives {s : State} (hc : s.pwr.committed = true) (hp : s.pwr.parkDone = true) :
    ∃ held, powerDown s = downed s (tilesDown (sleepTiles s) s) held := by
  have heq : powerDown s = pastAlarm (downed s (tilesDown (sleepTiles s) s) (if downState s = .off
      then (tilesDown (sleepTiles s) s).pwr.held.filter fun h => decide (h.1 < 3) else (tilesDown (sleepTiles s) s).pwr.held)) := by
    unfold powerDown
    rw [if_neg (by simp [hc, hp])]
    rfl
  rw [heq, pastAlarm_frame]
  exact ⟨_, rfl⟩

theorem LaneSt.unpowered_fields (g : LaneSt) : g.unpowered.role = .out ∧ g.unpowered.boot = .held ∧ g.unpowered.coreOk = false ∧
    g.unpowered.ioOk = false ∧ g.unpowered.anaOk = false ∧ g.unpowered.resetCause = g.resetCause := ⟨rfl, rfl, rfl, rfl, rfl, rfl⟩

theorem downState_off (s : State) : (decide (downState s ≠ .off)) = decide (s.pwr.target < 2) := by
  unfold downState
  rcases h : s.pwr.target with _ | _ | n <;> simp

theorem powerDown_completes {s : State} (hc : s.pwr.committed = true) (hp : s.pwr.parkDone = true) :
    Completes .powerDownComplete s fun u =>
      u.pwr.state = (if s.pwr.target = 0 then .parked else if s.pwr.target = 1 then .deep else .off) ∧
      u.pwr.entering = false ∧ u.pwr.committed = false ∧ u.pwr.clk = false ∧ u.pwr.retention = s.pwr.retention ∧ u.pwr.entryRtc = s.pwr.rtc ∧
      (∀ l : Lane, (u.lane l).role = .out ∧ (u.lane l).boot = .held ∧ (u.lane l).coreOk = false ∧ (u.lane l).ioOk = false ∧
        (u.lane l).anaOk = false ∧ (u.lane l).resetCause = (s.lane l).resetCause) ∧
      u.sup = { s.sup with
        fabAna := false, fabValid := false, tilesOk := false, aoLp := decide (s.pwr.target < 2),
        aoOk := s.sup.aoOk && decide (s.pwr.target < 2) } ∧
      u.seq = Seq.reset ∧ u.ring = [] ∧ u.cores = [] ∧ u.targets = [] ∧ u.douts = [] ∧ u.strs = [] ∧ u.mxs = [] ∧
      u.den = Den.reset ∧ u.lanes = Lanes.reset ∧ (s.pwr.target ≠ 0 → u.pwr.sleeping = []) ∧
      ∀ n : Fin 176, (n : Nat) / 16 < 5 → u.chan n = Chan.reset := by
  obtain ⟨held, heq⟩ := powerDown_gives hc hp
  refine ⟨_, (exec_powerDownComplete s).trans (congrArg _ heq), ?_⟩
  have hreset (n : Fin 176) (hn : (n : Nat) / 16 < 5) : (tilesDown (sleepTiles s) s).chan n = Chan.reset :=
    tilesDown_chan (fun hmem => absurd (mem_sleepTiles hmem) (by omega)) (by omega) s
  have honly := tilesDown_only (sleepTiles s) s
  generalize tilesDown (sleepTiles s) s = v at *
  have hpwr : v.pwr = s.pwr := by rw [honly]
  have hretention : v.pwr.retention = s.pwr.retention := congrArg Pwr.retention hpwr
  have hrtc : v.pwr.rtc = s.pwr.rtc := congrArg Pwr.rtc hpwr
  have hsup : v.sup = s.sup := by rw [honly]
  have hlane : ∀ l : Lane, v.lane l = s.lane l := fun l => by rw [honly]; cases l <;> rfl
  refine ⟨rfl, rfl, rfl, rfl, hretention, hrtc, fun l => ?_, ?_, rfl, rfl, rfl, rfl, rfl, rfl, rfl,
    rfl, rfl, fun ht => ?_, hreset⟩
  · have hdown : (downed s v held).lane l = (v.lane l).unpowered := by cases l <;> rfl
    rw [hdown, hlane]
    exact (s.lane l).unpowered_fields
  · have hdown : (downed s v held).sup = { v.sup with
        fabAna := false, fabValid := false, tilesOk := false, aoLp := decide (downState s ≠ .off),
        aoOk := v.sup.aoOk && decide (downState s ≠ .off) } := rfl
    rw [hdown, downState_off, hsup]
  · refine List.filter_eq_nil_iff.2 fun t _ => ?_
    simp [parkKept, ht]

/-! ### Parking that becomes DEEP, alarms and wakes (R464, R475, R478) -/

theorem deepAfter_completes {s : State} (hs : s.pwr.state = .parked) (hw : s.pwr.waking = false)
    (hr : (s.copyReg 0x9E008).field 19 12 ≠ 0) : Completes .deepAfterExpiry s fun u =>
      u.pwr = { s.pwr with state := .deep, autoDeep := true, sleeping := [] } ∧
      (∀ t ∈ s.pwr.sleeping, ∀ k : Fin 16, u.chan (16 * t + k) = Chan.reset) ∧
      u = { s with
        pwr := u.pwr, chans := u.chans, live := u.live,
        acc := { s.acc with round := s.acc.round.filter fun r => decide (r.trigger ≠ 1) } } := by
  have hdeep : deepAfter s =
      (let v := s.pwr.sleeping.foldl (fun s t => unpowerTile t s) s
       { v with
         acc := { v.acc with round := v.acc.round.filter fun r => decide (r.trigger ≠ 1) },
         pwr := { v.pwr with state := .deep, autoDeep := true, sleeping := [] } }) := if_pos ⟨hs, hw, hr⟩
  refine ⟨_, (exec_deepAfterExpiry s).trans (congrArg _ hdeep), ?_⟩
  have hreset : ∀ t ∈ s.pwr.sleeping, ∀ k : Fin 16,
      (s.pwr.sleeping.foldl (fun s t => unpowerTile t s) s).chan (16 * t + k) = Chan.reset := fun t ht k => by
    have hk : (16 * t + (k : Nat)) / 16 = t := by omega
    exact foldl_resets (F := fun s t => unpowerTile t s) (fun s t => (unpowerTile_spec t s).2.1 _)
      (fun s => (unpowerTile_spec _ s).2.2 _ rfl) _ s (.inr (hk.symm ▸ ht))
  have honly := foldl_tileOnly (F := fun s t => unpowerTile t s) (fun s t => (unpowerTile_spec t s).1) s.pwr.sleeping s
  generalize s.pwr.sleeping.foldl (fun s t => unpowerTile t s) s = v at *
  refine ⟨?_, hreset, ?_⟩
  · dsimp only
    rw [honly]
  · dsimp only
    rw [honly]

theorem wakeEnabled_always (s : State) : wakeEnabled s 7 0 = (s.copyReg 0x9E006).bit 17 := rfl

theorem wakeStep_wakes {s : State} {cause idx : BitVec 4} (bad : BitVec 8) (multi : Bool)
    (hs : s.pwr.state = .parked ∨ s.pwr.state = .deep) (hw : s.pwr.waking = false) (hheld : s.pwr.held = none)
    (hc : s.pwr.committed = false) (hen : wakeEnabled s cause.toNat idx.toNat = true)
    (hact : wakeActive s cause.toNat idx.toNat = true) : Completes (.wakeEvent cause idx bad multi) s fun u =>
      let bad := bad ||| badBanks s
      (∀ l : Lane, (u.lane l).coreOk = true ∧ (u.lane l).ioOk = true ∧ (u.lane l).anaOk = true ∧
        (u.lane l).resetCause = ((s.lane l).resetCause.setBit 4 true).put 19 16 0xB) ∧
      u.sup = { s.sup with fabAna := true, tilesOk := true, tileLow := [], aoLp := false } ∧ u.pwr.waking = true ∧ u.pwr.held = none ∧
      u.pwr.parkMinutes = min 0xFFFFF ((s.pwr.rtc - s.pwr.entryRtc) / 61440) ∧
      u.pwr.banksOk = s.pwr.banksOk &&& ~~~bad ∧
      u.pwr.wakeStatus = Word.ofN (cause.toNat * 2 ^ 16 + bad.toNat * 2 ^ 8 + idx.toNat * 2 ^ 4 +
        flagAt (s.pwr.state = .deep) 3 + flagAt multi 2 + flagAt s.pwr.autoDeep 1) ∧
      u.chans = s.chans ∧ u.copy = [] := by
  have hparked : (decide (s.pwr.state = .parked) || decide (s.pwr.state = .deep)) = true := by
    rcases hs with h | h <;> simp [h]
  refine ⟨_, exec_wakeEvent .., ?_⟩
  unfold wakeStep
  rw [if_neg (by simp [hc]), if_pos (by rw [hparked, hw, hheld, hen, hact]; rfl)]
  have hcause : cause.toNat % 16 = cause.toNat := Nat.mod_eq_of_lt cause.isLt
  have hidx : idx.toNat % 16 = idx.toNat := Nat.mod_eq_of_lt idx.isLt
  refine ⟨fun | .white => ⟨rfl, rfl, rfl, rfl⟩ | .black => ⟨rfl, rfl, rfl, rfl⟩, rfl, rfl, rfl, rfl, rfl, ?_, rfl, rfl⟩
  simp only [hheld, Option.getD_none, hcause, hidx]

/-! ### The wake inputs (R36, R475) -/

/-- The level of a wake input as the AO has it. -/
def pinned (i : Feed) (v : Bool) (s : State) : State :=
  if i = .a then { s with pwr := { s.pwr with aLvl := v } } else { s with pwr := { s.pwr with bLvl := v } }

/-- The cause that a wake input gives (R484). -/
def pinCause (i : Feed) : Nat := if i = .a then 1 else 2

theorem wakeRise_eq (i : Feed) (s : State) : wakeRise i s =
    if s.seq.running then
      present 0x17 [Word.ofN (pinCause i), 1] (.wake (pinCause i) (levelCopy (pinned i true s)))
        (if s.pwr.committed && wakeEnabled s (pinCause i) 0 then raiseWake (pinCause i) 0 (pinned i true s) else pinned i true s)
    else if (s.pwr.state = .off ∧ (s.sup.vlogA.ok || s.sup.vlogB.ok) = true) ∨
        ((s.pwr.state = .parked ∨ s.pwr.state = .deep) ∧ wakeEnabled s (pinCause i) 0 = true) then
      raiseWake (pinCause i) 0 (pinned i true s)
    else pinned i true s := by
  cases i <;> rfl

theorem wakeFall_eq (i : Feed) (s : State) : wakeFall i s =
    present 0x17 [Word.ofN (pinCause i), 0] (.upd (levelCopy (pinned i false s)) []) (pinned i false s) := by
  cases i <;> rfl

theorem pinned_frame (i : Feed) (v : Bool) (s : State) : pinned i v s = { s with pwr := (pinned i v s).pwr } := by
  cases i <;> rfl

theorem pinned_held (i : Feed) (v : Bool) (s : State) : (pinned i v s).pwr.held = s.pwr.held := by
  cases i <;> rfl

theorem Numbering.pwr {s u : State} (h : Numbering s) (hu : u = { s with pwr := u.pwr }) : Numbering u := by
  rw [hu]
  exact h

theorem Presented.pwr {src : Nat} {ws : List Word} {act : Act} {s v u : State} (h : Presented src ws act v u)
    (hv : v = { s with pwr := v.pwr }) : Presented src ws act s u := by
  rw [hv] at h
  exact h

/-- Settles O55: the requests are decided as R465 has it, the commit ply, the power-down and the wake do what their rules name, and
the wakes wait or are presented. -/
theorem powerStatesAndWakes : Obligations.PowerStatesAndWakes := by
  intro s
  refine ⟨fun m => ⟨fun hm => ⟨fun t => ?_, ?_⟩, pwrCtl_requests⟩, ?journal, ?early, ?commit, ?endB, ?endE, ?notDone, powerDown_completes,
    deepAfter_completes, ?notParked, ?alarmHeld, ?alarmShown, ?alarmWakes, ?rtc, ?inputs, ?wake⟩
  · rw [exec_pwrCtlReq, masterWrite_refused _ (by decide) hm]
  · rw [exec_clk250, masterWrite_refused _ (by decide) hm]
  case journal =>
    intro he hp hj
    have hcond : (s.pwr.entering && decide (s.pwr.point = 0) && !s.pwr.journalDone) = true := by simp [he, hp, hj]
    refine ⟨?_, fun hn => ⟨_, (exec_journalWriteComplete ..).trans (congrArg _ (if_pos hcond)), ?_⟩⟩
    · rw [exec_journalWriteComplete, if_pos hcond]
      rfl
    · dsimp only
      rw [hn, if_pos (by decide)]
      exact ⟨fun | .white => rfl | .black => rfl, rfl⟩
  case early =>
    intro h
    rw [exec_entryCommit, commitEntry, if_pos (by simp [h])]
  case commit =>
    intro hr ha
    refine ⟨_, (exec_entryCommit s).trans (congrArg _ (commitEntry_ready hr ha)), ?_⟩
    have hclose := closeAllSessions_frame 4 (committing s)
    generalize closeAllSessions 4 (committing s) = v at *
    obtain ⟨hend, -, -⟩ := endSession_frame 4 v
    have hopen := endSession_ends 4 v
    generalize endSession 4 v = w at *
    refine ⟨?_, ?_, hopen, ?_, ?_, laneRecord_mem _ w⟩
    all_goals
      rw [laneRecord_eq]
      dsimp only
      rw [hend, hclose]
      rfl
  case endB =>
    intro l ha hc u
    have hu : u = _ := pwrEndB_committed ha hc
    obtain ⟨hframe, -⟩ := captureRetention_frame l s
    rw [hu]
    refine ⟨?_, mem_kept l s, fun ht => ?_, fun ht => ?_⟩
    · dsimp only
      rw [hframe]
    · have heq : captureRetention l s = _ := if_pos ht
      dsimp only
      rw [heq]
      exact ⟨rfl, rfl⟩
    · have heq : captureRetention l s = _ := if_neg ht
      dsimp only
      rw [heq]
      exact ⟨rfl, rfl, rfl, rfl⟩
  case endE =>
    intro hc
    refine ⟨captureNumber_done hc, fun ht => ?_⟩
    rw [captureNumber_numbered hc ht]
    exact ⟨rfl, rfl⟩
  case notDone =>
    intro h
    rw [exec_powerDownComplete, powerDown, if_pos h]
  case notParked =>
    intro h
    rw [exec_deepAfterExpiry, deepAfter, if_neg (fun hn => h hn.1)]
  case alarmHeld =>
    intro hrun hc hen hheld
    refine ⟨_, exec_alarm s, ?_⟩
    rw [if_pos hrun, if_pos (by rw [hc, wakeEnabled_always, hen]; rfl), (present_posts ..).1, raiseWake_free hheld]
  case alarmShown =>
    intro hrun hc
    exact .of_present ((exec_alarm s).trans (by rw [if_pos hrun, hc]; rfl))
  case alarmWakes =>
    intro hrun hs hen hheld
    rw [exec_alarm, if_neg (by simp [hrun]), if_pos ⟨hs, by rw [wakeEnabled_always, hen]⟩, raiseWake_free hheld]
  case rtc =>
    obtain ⟨u, hexec, hposts, hshown⟩ := Completes.of_present (exec_rtcReport s)
    exact ⟨u, hexec, hposts, fun hn => (hshown (hn.pwr rfl)).pwr rfl⟩
  case inputs =>
    intro i cause pin levels
    refine ⟨fun hrun hc => ?_, fun hrun hoff hv hheld => ?_, ?_⟩
    · obtain ⟨u, hexec, hposts, hshown⟩ := Completes.of_present (v := pinned i true s) (c := .wakeInputRise i) (s := s)
        ((exec_wakeInputRise i s).trans (by rw [wakeRise_eq, if_pos hrun, hc]; rfl))
      exact ⟨u, hexec, hposts, fun hn => (hshown (hn.pwr (pinned_frame i true s))).pwr (pinned_frame i true s)⟩
    · rw [exec_wakeInputRise, wakeRise_eq, if_neg (by simp [hrun]), if_pos (.inl ⟨hoff, by simpa using hv⟩),
        raiseWake_free ((pinned_held i true s).trans hheld)]
      rfl
    · obtain ⟨u, hexec, hposts, hshown⟩ := Completes.of_present (v := pinned i false s) (c := .wakeInputFall i) (s := s)
        ((exec_wakeInputFall i s).trans (by rw [wakeFall_eq]))
      exact ⟨u, hexec, hposts, fun hn => (hshown (hn.pwr (pinned_frame i false s))).pwr (pinned_frame i false s)⟩
  case wake =>
    intro cause idx bad multi
    refine ⟨fun hc hs => ?_, fun hs hw hheld hc hen hact => wakeStep_wakes bad multi hs hw hheld hc hen hact⟩
    have hstays : (!(decide (s.pwr.state = .parked) || decide (s.pwr.state = .deep))) = true ∨ s.pwr.waking = true := by
      rcases hs with h | h | h <;> simp [h]
    rw [exec_wakeEvent, wakeStep, if_neg (by simp [hc]), if_neg (by rcases hstays with h | h <;> simp_all)]

end Sys2Proof.Machine
end

section
/-! SUPPORT. The accesses of a request of the host: what the checks pass, and what the grants leave (R130, R137, R138, R145). -/

namespace Sys2Proof.Machine

open Sys2Proof

/-! ### Grants free and take no lock -/

/-- A lock that no host identity holds. -/
def TargetLock.notHost (x : TargetLock) : Bool := !(decide (x.owner = some 28) || decide (x.owner = some 29))

/-- No host identity holds a lock in a lane. -/
def LaneSt.hostFree (g : LaneSt) : Bool := g.locks.all fun p => p.2.notHost

theorem hostLocked_iff (s : State) : hostLocked s = false ↔ ∀ l : Lane, (s.lane l).hostFree = true := by
  have hany (g : LaneSt) : g.locks.any (fun p => decide (p.2.owner = some 28) || decide (p.2.owner = some 29)) = !g.hostFree := by
    simp [LaneSt.hostFree, TargetLock.notHost, List.all_eq_not_any_not]
  simp only [hostLocked, List.any_cons, List.any_nil, Bool.or_false, hany, Bool.or_eq_false_iff, Bool.not_eq_false']
  exact ⟨fun ⟨hw, hb⟩ => fun | .white => hw | .black => hb, fun h => ⟨h .white, h .black⟩⟩

theorem LaneSt.lock_notHost {g : LaneSt} (h : g.hostFree = true) (t : Nat) : (g.lock t).notHost = true := by
  unfold LaneSt.hostFree at h
  unfold LaneSt.lock
  generalize g.locks = m at h ⊢
  induction m with
  | nil => rfl
  | cons p m ih =>
    obtain ⟨hp, hm⟩ := Bool.and_eq_true_iff.1 ((List.all_cons).symm.trans h)
    unfold Sparse.get
    split
    · exact hp
    · exact ih hm

theorem LaneSt.hostFree_setLock {g : LaneSt} (h : g.hostFree = true) {x : TargetLock} (hx : x.notHost = true) (t : Nat) :
    (g.setLock t x).hostFree = true := by
  unfold LaneSt.hostFree LaneSt.setLock Sparse.set
  dsimp only
  split
  · exact List.all_eq_true.2 fun p hp => List.all_eq_true.1 h p (List.mem_of_mem_filter hp)
  · exact Sparse.all_put _ _ _ _ hx h

theorem TargetLock.grant_notHost {x : TargetLock} (h : x.notHost = true) (m : Nat) (wr : Bool) :
    (x.grant m .none wr).notHost = true := by
  have howner : (x.grant m .none wr).owner = x.owner := by
    simp only [TargetLock.grant, reduceCtorEq, false_and, if_false]
    split <;> rfl
  unfold TargetLock.notHost
  rw [howner]
  exact h

theorem LaneSt.countGrant_hostFree {g : LaneSt} (h : g.hostFree = true) (t i m : Nat) (wr : Bool) :
    (g.countGrant t i m wr).hostFree = true := by
  unfold LaneSt.countGrant
  exact LaneSt.hostFree_setLock (g := g.setArb i _) h (TargetLock.grant_notHost (LaneSt.lock_notHost (g := g.setArb i _) h t) m wr) t

theorem countAccess_hostFree {s : State} (h : hostLocked s = false) (m a : Nat) (wr : Bool) :
    hostLocked (countAccess (computing s) m a wr s) = false := by
  rw [hostLocked_iff] at h ⊢
  intro l
  cases ht : targetOf a with
  | none => rw [countAccess, ht]; exact h l
  | some t =>
    rw [countAccess_lane ht]
    split
    · exact LaneSt.countGrant_hostFree (h l) ..
    · exact h l

/-! ### The accesses of a command (R145) -/

theorem accesses_cons (m : Nat) (p : Nat × Bool) (pts : List (Nat × Bool)) (s : State) :
    accesses m (p :: pts) s = accesses m pts (countAccess (computing s) m p.1 p.2 s) := rfl

theorem accesses_only (m : Nat) (pts : List (Nat × Bool)) (s : State) : LanesOnly s (accesses m pts s) := by
  induction pts generalizing s with
  | nil => exact .refl s
  | cons p pts ih => exact (countAccess_only ..).trans (ih _)

theorem accesses_hostFree {s : State} (h : hostLocked s = false) (m : Nat) (pts : List (Nat × Bool)) :
    hostLocked (accesses m pts s) = false := by
  induction pts generalizing s with
  | nil => exact h
  | cons p pts ih => exact ih (countAccess_hostFree h m p.1 p.2)

/-! ### The points of a command (R137, R138, R142) -/

section
variable {m : Nat} {sec : Bool} {pts : List (Nat × Bool)} {s : State}

theorem checkPoints_ok (h : ∀ p ∈ pts, verdict s m sec p.1 p.2 .none = .ok) : checkPoints m sec pts s = (stOk, s) := by
  have hrange : (pts.any fun p => decide (verdict s m sec p.1 p.2 .none = .range)) = false :=
    List.any_eq_false.2 fun p hp => by rw [h p hp]; decide
  have hfind : (pts.find? fun p => decide (verdict s m sec p.1 p.2 .none ≠ .ok)) = none :=
    List.find?_eq_none.2 fun p hp => by simp [h p hp]
  unfold checkPoints
  rw [if_neg (by simp [hrange]), hfind]

theorem blockOn_free (h : ∀ p ∈ pts, waitsFor s m p.1 = false) : blockOn m pts s = s := by
  have hfind : (pts.find? fun p => waitsFor s m p.1) = none := List.find?_eq_none.2 fun p hp => by simp [h p hp]
  unfold blockOn
  rw [hfind]

/-- A command whose points pass, at targets that nobody has locked, runs. -/
theorem withPoints_ok (hok : ∀ p ∈ pts, verdict s m sec p.1 p.2 .none = .ok) (hfree : ∀ p ∈ pts, waitsFor s m p.1 = false)
    (hblocked : s.ply.blocked = false) (run : State → Answered) : withPoints m sec pts s run = run s := by
  unfold withPoints unlessBlocked
  rw [checkPoints_ok hok]
  dsimp only
  rw [if_pos rfl, blockOn_free hfree, if_neg (by simp [hblocked])]

end

/-! ### The state that counts a request (R419) -/

section
variable (h : ReqHead) (s : State) (k : Nat) (x : Session)

theorem Counted_verdict (m : Nat) (sec : Bool) (a : Nat) (wr : Bool) (lk : LockFlag) :
    verdict (Counted h s k x) m sec a wr lk = verdict s m sec a wr lk := by
  rw [Counted_eq]
  rfl

theorem Counted_waitsFor (m a : Nat) : waitsFor (Counted h s k x) m a = waitsFor s m a := by
  rw [Counted_eq]
  rfl

theorem Counted_hostLocked : hostLocked (Counted h s k x) = hostLocked s := rfl

end

end Sys2Proof.Machine
end

section
/-! SUPPORT. Records, streams, mailboxes, tokens and frames over the host port (R258, R260, R344, R345, R347, R432, R433, R436,
R454, R455). -/

namespace Sys2Proof.Machine

open Sys2Proof

/-! ### States that a request leaves ready for its reply -/

/-- Between `s` and `v` a request has run without a wait, a lock of its own or records to copy. -/
def RanFreely (s v : State) : Prop :=
  v.host.lateNow = [] ∧ v.ply.blocked = false ∧ v.ply.number = s.ply.number ∧ v.ply.at_ = s.ply.at_ ∧ hostLocked v = false

theorem Starts.ranFreely {code : Nat} {h : ReqHead} {ws : List Word} {s : State} {k : Nat} {x : Session}
    (hstart : Starts code h ws s k x) : RanFreely s (Counted h s k x) := by
  obtain ⟨-, hblocked, -, -, -, -, -, -, -, hlock, hlate⟩ := hstart
  exact ⟨hlate, hblocked, rfl, rfl, hlock⟩

theorem RanFreely.accesses {s v : State} (h : RanFreely s v) (m : Nat) (pts : List (Nat × Bool)) :
    RanFreely s (accesses m pts v) := by
  obtain ⟨hlate, hblocked, hnum, hat, hlock⟩ := h
  have honly := accesses_only m pts v
  have hfree := accesses_hostFree hlock m pts
  exact ⟨by rw [honly]; exact hlate, by rw [honly.ply]; exact hblocked, by rw [honly.ply]; exact hnum,
    by rw [honly.ply]; exact hat, hfree⟩

/-- A change elsewhere. -/
theorem RanFreely.congr {s v w : State} (h : RanFreely s v) (hlate : w.host.lateNow = v.host.lateNow)
    (hblocked : w.ply.blocked = v.ply.blocked) (hnum : w.ply.number = v.ply.number) (hat : w.ply.at_ = v.ply.at_)
    (hwhite : w.white = v.white) (hblack : w.black = v.black) : RanFreely s w := by
  obtain ⟨hlate', hblocked', hnum', hat', hlock⟩ := h
  refine ⟨hlate.trans hlate', hblocked.trans hblocked', hnum.trans hnum', hat.trans hat', ?_⟩
  simp only [hostLocked, hwhite, hblack]
  exact hlock

/-- A request of an opcode that shows every lane the same is answered with what it gives. -/
theorem Answers.of_opcode {c : Instr} {code : Nat} {h : ReqHead} {ws : List Word} {s v : State} {k : Nat} {x : Session}
    {status : Nat} {out : List Word} (hstart : Starts code h ws s k x) (hexec : exec c s = .next (hostRow code h ws s))
    (hcode : code ≠ 0 ∧ code ≠ 1 ∧ code ≠ 0x70) (hdef : opDefined code = true)
    (hsecure : secureOnly code = true → x.secure = true)
    (hrun : ∀ l : Lane, runOpcode (covered s) h.port l code x.master x.secure ws (Counted h s k x) = (status, out, v))
    (hlen : out.length ≤ 15104) (hfree : RanFreely s v) : Answers c code h ws s x status out out v := by
  obtain ⟨hlate, hblocked, hnum, hat, hlock⟩ := hfree
  exact .of_run hexec hstart ⟨hcode.1, hcode.2.1⟩ hdef hsecure (hrun _) (hrun _) hlen (fun h70 => absurd h70 hcode.2.2) hlate
    hblocked hnum hat hlock

/-! ### Records (R432, R433, R436) -/

/-- The records that an EVT_READ from `from_` finds (R82, R432). -/
def heldAfter (s : State) (from_ : Nat) : List Rec :=
  s.ring.filter fun r => decide (from_ < r.seq ∧ r.seq ≤ s.seq.agreed) && !s.seq.unheard.contains r.seq

theorem opEvtRead_gives (s : State) (a b c : Word) {n : Word} (hn : n.toNat ≤ 1510) :
    opEvtRead [a, b, c, n] s =
      let from_ := ofWords [a, b, c]
      let held := heldAfter s from_
      (stOk, [Word.ofN (held.take n.toNat).length, Word.ofN (flagAt (decide (from_ < s.ringLost)) 19 +
        min 0x1FFF (held.length - (held.take n.toNat).length))] ++ (held.take n.toNat).flatMap recordWords, s) := by
  have hheld (from_ : Nat) : (s.ring.filter fun r => decide (from_ < r.seq) && agreedNumber s r.seq) = heldAfter s from_ :=
    List.filter_congr fun r _ => by simp [agreedNumber, Bool.and_assoc]
  have hmin (i : Nat) : satTo 0x1FFF i = min 0x1FFF i := Nat.min_comm _ _
  unfold opEvtRead
  rw [if_neg (by simp)]
  dsimp only
  rw [show ([a, b, c, n].getD 3 0) = n from rfl, show [a, b, c, n].take 3 = [a, b, c] from rfl, if_neg (by omega), hheld, hmin]

theorem opEvtRead_range (s : State) (a b c : Word) {n : Word} (hn : 1510 < n.toNat) :
    opEvtRead [a, b, c, n] s = (stRange, [], s) := by
  unfold opEvtRead
  rw [if_neg (by simp)]
  exact if_pos hn

theorem recordWords_length (r : Rec) : (recordWords r).length = 10 := by
  simp [recordWords, wordsOf]

theorem evtWords_length (rs : List Rec) (a b : Word) {n : Nat} (hn : n ≤ 1510) :
    ([a, b] ++ (rs.take n).flatMap recordWords).length ≤ 15104 := by
  have hlen : ((rs.take n).flatMap recordWords).length = 10 * (rs.take n).length := by
    rw [List.length_flatMap]
    simp [recordWords_length, Nat.mul_comm]
  rw [List.length_append, hlen, List.length_take]
  simp only [List.length_cons, List.length_nil]
  omega

theorem lateNow_same {s : State} (h : s.host.lateNow = []) : ({ s with host := { s.host with lateNow := [] } } : State) = s :=
  congrArg (fun r => ({ s with host := { s.host with lateNow := r } } : State)) h.symm

/-- A reply that copies no record changes nothing. -/
theorem recordReply_nil (v : Lane) (head : List Word) {s : State} (h : s.host.lateNow = []) :
    recordReply v head [] s = (stOk, head, s) := by
  unfold recordReply
  rw [lateNow_same h, List.flatMap_nil, List.append_nil]

theorem withPoints_nil {m : Nat} {sec : Bool} {s : State} (hb : s.ply.blocked = false) (run : State → Answered) :
    withPoints m sec [] s run = run s :=
  withPoints_ok (by simp) (by simp) hb run

theorem opBusRead_none {s : State} (hc : s.host.captures = []) (hl : s.host.lateNow = []) (hb : s.ply.blocked = false) (v : Lane)
    (m : Nat) (sec : Bool) (a b c : Word) {n : Word} (hn : n.toNat ≤ 255) : opBusRead v m sec [a, b, c, n] s =
      (stOk, [0, Word.ofN (flagAt (decide (ofWords [a, b, c] < s.host.captureLost)) 19)], s) := by
  have hfit (k : Nat) : fitCaptures k (32 * 472 - 2) ([] : List (Nat × List Word)) = [] := by cases k <;> rfl
  have hpts : capturePoints s [] = [] := by simp [capturePoints, hc, capturePlaces]
  unfold opBusRead
  rw [if_neg (by simp)]
  dsimp only
  rw [show ([a, b, c, n].getD 3 0) = n from rfl, show [a, b, c, n].take 3 = [a, b, c] from rfl, if_neg (by omega), hc,
    List.filter_nil, hfit, hpts]
  unfold withAccesses
  rw [withPoints_nil hb]
  change recordReply v [0, _] ((capturePoints s []).map fun p => LateSrc.sram p.1) s = _
  rw [hpts]
  exact recordReply_nil v _ hl

end Sys2Proof.Machine
end

section
/-! SUPPORT. Streams and mailboxes over the host port (R433, R454). -/

namespace Sys2Proof.Machine

open Sys2Proof

/-- Accesses at points that pass, at targets that nobody has locked, are counted and the command runs. -/
theorem withAccesses_ok {m : Nat} {sec : Bool} {pts : List (Nat × Bool)} {s : State}
    (hok : ∀ p ∈ pts, verdict s m sec p.1 p.2 .none = .ok) (hfree : Unlocked s m) (hb : s.ply.blocked = false)
    (run : State → Answered) : withAccesses m sec pts s run = run (accesses m pts s) :=
  withPoints_ok hok (fun p _ => hfree p.1) hb _

/-! ### Streams (R433) -/

theorem addStreamUsed_zero (l : Lane) (s : State) : addStreamUsed l 0 s = s := by cases l <;> rfl

theorem LanesOnly.measView {s u : State} (h : LanesOnly s u) (a : Nat) : Machine.measView u a = Machine.measView s a := by
  rw [h]; rfl

/-- A read of an empty ring without an acknowledgement returns its registers alone. -/
theorem opStrRead_empty {s : State} {m : Nat} {sec : Bool} {w max_ : Word} (l v : Lane) (off : Word) (hmax : max_.toNat ≤ 2400)
    (hack : w.bit 15 = false) (hok : ∀ o ∈ [4, 5, 6], verdict s m sec (strmAddr (w.field 19 16) o) false .none = .ok)
    (hempty : measView s (strmAddr (w.field 19 16) 5) = s.copyReg (strmAddr (w.field 19 16) 4)) (hfree : Unlocked s m)
    (hb : s.ply.blocked = false) (hl : s.host.lateNow = []) :
    opStrRead l v m sec [w, off, max_] s =
      (stOk, [s.copyReg (strmAddr (w.field 19 16) 4), measView s (strmAddr (w.field 19 16) 5),
        s.copyReg (strmAddr (w.field 19 16) 6), 0],
        accesses m [(strmAddr (w.field 19 16) 4, false), (strmAddr (w.field 19 16) 5, false),
          (strmAddr (w.field 19 16) 6, false)] s) := by
  have hwhole (n : Nat) : wholeRecords n [] = [] := by cases n <;> rfl
  unfold opStrRead
  dsimp only
  rw [hack, if_neg (by simp; omega), withAccesses_ok (by simpa using hok) hfree hb]
  generalize strmAddr (w.field 19 16) 4 = a4 at *
  generalize strmAddr (w.field 19 16) 5 = a5 at *
  generalize strmAddr (w.field 19 16) 6 = a6 at *
  have honly := accesses_only m [(a4, false), (a5, false), (a6, false)] s
  generalize accesses m [(a4, false), (a5, false), (a6, false)] s = u at honly ⊢
  have hlate : u.host.lateNow = [] := by rw [honly]; exact hl
  simp only [Bool.false_eq_true, if_false, honly.measView, honly.copyReg, if_pos hempty, hwhole, List.map_nil, List.sum_nil,
    addStreamUsed_zero]
  exact recordReply_nil v _ hlate

/-! ### Mailboxes (R454) -/

/-- A mailbox opcode whose points the table grants, at a target that nobody has locked, is counted and runs. -/
theorem withMbxPoints_ok {m : Nat} {sec : Bool} {pts : List (Nat × Bool)} {s : State} (hok : mbxDenied s m sec pts = none)
    (hfree : Unlocked s m) (hb : s.ply.blocked = false) (run : State → Answered) :
    withMbxPoints m sec pts s run = run (accesses m pts s) := by
  unfold withMbxPoints unlessBlocked
  rw [hok, blockOn_free fun p _ => hfree p.1]
  dsimp only
  rw [if_neg (by simp [hb])]

theorem opMbxPost_disabled {s : State} {w : Word} {msg : List Word} (m : Nat) (sec : Bool) (hlen : msg.length ≤ 8)
    (hoff : mbxOn s (32 + w.field 2 0) = false) : opMbxPost m sec (w :: msg) s = (stRange, [], s) := by
  have hstatus : mbxHostStatus s (32 + w.field 2 0) sec = stRange := if_pos hoff
  unfold opMbxPost
  dsimp only
  rw [if_neg (by omega), hstatus, if_pos (by decide)]
  rfl

section
variable {s : State} {m : Nat} {sec : Bool} {w : Word} {msg : List Word} {pts : List (Nat × Bool)}

/-- A post that the checks pass: the channel is full, or the message is posted. -/
theorem opMbxPost_runs (hlen : msg.length ≤ 8) (hstatus : mbxHostStatus s (32 + w.field 2 0) sec = stOk)
    (hpts : pts = (mbxAddr (32 + w.field 2 0) 1 :: (List.range msg.length).map (composeAddr (32 + w.field 2 0))).map fun a => (a, true))
    (hok : mbxDenied s m sec pts = none) (hfree : Unlocked s m) (hb : s.ply.blocked = false) :
    opMbxPost m sec (w :: msg) s =
      if 8 ≤ (s.box (32 + w.field 2 0)).queue.length + (s.mbx.posts.filter fun p => decide (p.1 = 32 + w.field 2 0)).length then
        (stBusy, [], accesses m pts s)
      else (stOk, [], postMessage (32 + w.field 2 0) msg
        ((accesses m pts s).modBox (32 + w.field 2 0) fun b => { b with aborted := false })) := by
  have hbox := (accesses_only m pts s).box (32 + w.field 2 0)
  unfold opMbxPost
  dsimp only
  rw [if_neg (by omega), hstatus, if_neg (by simp)]
  unfold writePoints
  rw [← hpts, withMbxPoints_ok hok hfree hb, hbox]
  rfl

end

theorem opMbxFetch_range {s : State} {w : Word} (m : Nat) (sec : Bool) (hack : ackedNow s (40 + w.field 2 0) = 0)
    (h : (s.box (40 + w.field 2 0)).queue.length < w.field 7 4) : opMbxFetch m sec [w] s = (stRange, [], s) := by
  unfold opMbxFetch
  dsimp only
  rw [hack, Nat.add_zero, if_pos (.inr h)]
  rfl

theorem ackedNow_append (s : State) (c n : Nat) (u : State) (h : u.mbx.acks = s.mbx.acks ++ [(c, n)]) :
    ackedNow u c = ackedNow s c + n := by
  simp [ackedNow, h]

/-- A fetch that the checks pass acknowledges `n` messages and returns those behind them. -/
theorem opMbxFetch_runs {s : State} {m : Nat} {sec : Bool} {w : Word} {pts : List (Nat × Bool)}
    (hstatus : mbxHostStatus s (40 + w.field 2 0) sec = stOk) (hack : ackedNow s (40 + w.field 2 0) = 0)
    (hn : w.field 7 4 ≤ (s.box (40 + w.field 2 0)).queue.length) (hn0 : w.field 7 4 ≠ 0)
    (hpts : pts = ((mbxAddr (40 + w.field 2 0) 5 :: mbxAddr (40 + w.field 2 0) 6 ::
      (List.range 64).map (0x9A000 + 64 * (40 + w.field 2 0) + ·)).map fun a => (a, false)) ++ [(mbxAddr (40 + w.field 2 0) 7, true)])
    (hok : mbxDenied s m sec pts = none) (hfree : Unlocked s m) (hb : s.ply.blocked = false) :
    let rest := (s.box (40 + w.field 2 0)).queue.drop (w.field 7 4)
    let v := (accesses m pts s).modBox (40 + w.field 2 0) fun b => { b with db := false }
    opMbxFetch m sec [w] s = (stOk, Word.ofN rest.length :: rest.flatMap fun ws => Word.ofN ws.length :: ws,
      { v with mbx := { v.mbx with acks := s.mbx.acks ++ [(40 + w.field 2 0, w.field 7 4)] } }) := by
  have honly := accesses_only m pts s
  unfold opMbxFetch
  dsimp only
  rw [hstatus, hack, if_neg (by simp [stOk, stRange]; omega), if_neg (by simp)]
  unfold readPoints writePoints
  rw [List.map_singleton, ← hpts, withMbxPoints_ok hok hfree hb]
  generalize accesses m pts s = u at honly ⊢
  generalize 40 + w.field 2 0 = c at *
  have hacks : (u.modBox c fun b => { b with db := false }).mbx.acks = s.mbx.acks := by rw [honly]; rfl
  have hqueue : ((u.modBox c fun b => { b with db := false }).box c).queue = (s.box c).queue := by
    rw [← honly.box c]
    simp [State.setBox, State.box, Sparse.get_set]
  have hgives : ackMessages c (w.field 7 4) (u.modBox c fun b => { b with db := false }) =
      { u.modBox c fun b => { b with db := false } with
        mbx := { (u.modBox c fun b => { b with db := false }).mbx with acks := s.mbx.acks ++ [(c, w.field 7 4)] } } := by
    rw [ackMessages, if_neg hn0, hacks]
  rw [hgives]
  have hnow := ackedNow_append s c (w.field 7 4) { u.modBox c fun b => { b with db := false } with
        mbx := { (u.modBox c fun b => { b with db := false }).mbx with acks := s.mbx.acks ++ [(c, w.field 7 4)] } } rfl
  rw [hnow, hack, Nat.zero_add]
  have hbox : (({ u.modBox c fun b => { b with db := false } with
        mbx := { (u.modBox c fun b => { b with db := false }).mbx with acks := s.mbx.acks ++ [(c, w.field 7 4)] } } : State).box c).queue
      = (s.box c).queue := hqueue
  rw [hbox]

end Sys2Proof.Machine
end

section
/-! SUPPORT. Buses and tokens over the host port (R344, R345, R347, R435, R436). -/

namespace Sys2Proof.Machine

open Sys2Proof

/-! ### Buses (R436) -/

/-- Of two writes of a key the second counts, where the first is no default. -/
theorem Sparse.set_set {α : Type} [DecidableEq α] {d : Nat → α} {k : Nat} {v : α} (hv : v ≠ d k) (m : List (Nat × α)) (w : α) :
    Sparse.set d (Sparse.set d m k v) k w = Sparse.set d m k w := by
  unfold Sparse.set Sparse.erase
  rw [if_neg hv, Sparse.put_put, filter_put_ne]

/-- Nobody is left with a frame partly written where the parts were given up after a write of `m`. -/
theorem modBus_part (s : State) (b m : Nat) :
    (s.modBus b fun x => { x with part := some m }).modBus b (fun x => { x with part := none }) =
      s.modBus b fun x => { x with part := none } := by
  have hne : ({ s.bus b with part := some m } : Bus) ≠ Bus.initial b := fun h => by
    have hpart : some m = (Bus.initial b).part := congrArg Bus.part h
    have hnone : (Bus.initial b).part = none := by unfold Bus.initial; split <;> [rfl; (split <;> rfl)]
    cases hpart.trans hnone
  rw [State.modBus_eq _ b fun x => { x with part := none }, modBus_same]
  simp only [State.modBus_eq, State.setBus, Sparse.set_set hne]

theorem objectZeroHeld_setLive (s : State) (b a op obj : Nat) (v : Word) (h : a ≠ 0x88023) :
    objectZeroHeld (s.setLive a v) b op obj = objectZeroHeld s b op obj := by
  unfold objectZeroHeld
  rw [State.setLive_liveReg, if_neg h]

/-- A write of the header names no reserved operation, is kept and shown, and marks its writer. -/
theorem busqWrite_header {b : Nat} (hb : b ≤ 27) {v : Word} (hv : v.field 19 18 ≠ 3) (m : Nat) (s : State) :
    busqWrite m (busqAddr b 0) v s =
      ({ s.setLive (busqAddr b 0) v with ply := { s.ply with writes := s.ply.writes ++ [(m, busqAddr b 0, v)] } } : State).modBus b
        fun x => { x with part := some m } := by
  have hbus : (busqAddr b 0 - 0x97000) / 0x80 = b := by unfold busqAddr; omega
  have hoff : busqAddr b 0 % 0x80 = 0 := by unfold busqAddr; omega
  unfold busqWrite
  dsimp only
  rw [hbus, hoff, if_neg (by omega)]
  exact if_neg hv

section
variable {s : State} {m : Nat} {sec : Bool} {w tx : Word} {fr : List Word}

theorem opBusSend_length (hop : tx.field 19 18 ≠ 2) (hlen : fr.length ≠ recWords fr) :
    opBusSend m sec (w :: tx :: fr) s = (stLength, [], s) := by
  unfold opBusSend
  dsimp only
  rw [if_neg hop, if_pos (by simpa using hlen)]
  rfl

/-- What the header and the record of a transmission leave, before its command. -/
def sentOver (m b : Nat) (tx : Word) (fr : List Word) (s : State) : State :=
  let v := s.setLive (busqAddr b 0) tx
  let v := { v with ply := { v.ply with writes := v.ply.writes ++ [(m, busqAddr b 0, tx)] } }
  let v := v.modBus b fun y => { y with part := none }
  if fr = [] then v else { v.setSrams (freePlace v fr.length) fr with free := v.free + 1 }

theorem State.setSrams_frame (s : State) (a : Nat) (ws : List Word) :
    s.setSrams a ws = { s with sram := (s.setSrams a ws).sram } := by
  induction ws generalizing s a with
  | nil => rfl
  | cons w ws ih =>
    unfold State.setSrams
    rw [ih]
    rfl

/-- Beyond the buses, the live registers, Board SRAM and the free values, a transmission leaves its header's write alone. -/
theorem sentOver_frame (m b : Nat) (tx : Word) (fr : List Word) (s : State) : sentOver m b tx fr s =
    { s with live := (s.setLive (busqAddr b 0) tx).live, buses := (sentOver m b tx fr s).buses, sram := (sentOver m b tx fr s).sram,
             free := (sentOver m b tx fr s).free,
             ply := { s.ply with writes := s.ply.writes ++ [(m, busqAddr b 0, tx)] } } := by
  unfold sentOver
  dsimp only
  split
  · rfl
  · rw [State.setSrams_frame]; rfl

theorem opBusSend_sends (hb : w.field 4 0 ≤ 27) (hop : tx.field 19 18 = 0 ∨ tx.field 19 18 = 1) (hlen : fr.length = recWords fr)
    (hzero : objectZeroHeld s (w.field 4 0) (tx.field 19 18) (tx.field 17 12) = false)
    (h0 : verdict s m sec (busqAddr (w.field 4 0) 0) true .none = .ok)
    (h1 : verdict s m sec (busqAddr (w.field 4 0) 1) true .none = .ok) (hfree : Unlocked s m) (hblk : s.ply.blocked = false) :
    opBusSend m sec (w :: tx :: fr) s = (stOk, [], emit [(15 + w.field 4 0, .bus (BitVec.ofNat 2 (tx.field 19 18))
      (BitVec.ofNat 6 (tx.field 17 12)) (BitVec.ofNat 12 (tx.field 11 0)) fr)]
      (sentOver m (w.field 4 0) tx fr (accesses m [(busqAddr (w.field 4 0) 0, true), (busqAddr (w.field 4 0) 1, true)] s))) := by
  have hop2 : tx.field 19 18 ≠ 2 := by omega
  have hop3 : tx.field 19 18 ≠ 3 := by omega
  have honly := accesses_only m [(busqAddr (w.field 4 0) 0, true), (busqAddr (w.field 4 0) 1, true)] s
  unfold opBusSend
  dsimp only
  rw [if_neg hop2, if_neg (by simpa using hlen), if_neg (by omega), withAccesses_ok (by simp [h0, h1]) hfree hblk]
  generalize accesses m [(busqAddr (w.field 4 0) 0, true), (busqAddr (w.field 4 0) 1, true)] s = u at honly ⊢
  have hsent : (if fr = [] then (busqWrite m (busqAddr (w.field 4 0) 0) tx u).modBus (w.field 4 0) fun x => { x with part := none }
      else placeBuffer fr ((busqWrite m (busqAddr (w.field 4 0) 0) tx u).modBus (w.field 4 0) fun x => { x with part := none })) =
      sentOver m (w.field 4 0) tx fr u := by
    rw [busqWrite_header hb hop3, modBus_part]
    rfl
  have hheld : objectZeroHeld (sentOver m (w.field 4 0) tx fr u) (w.field 4 0) (tx.field 19 18) (tx.field 17 12) = false := by
    have hlive : objectZeroHeld (sentOver m (w.field 4 0) tx fr u) (w.field 4 0) (tx.field 19 18) (tx.field 17 12) =
        objectZeroHeld (u.setLive (busqAddr (w.field 4 0) 0) tx) (w.field 4 0) (tx.field 19 18) (tx.field 17 12) := by
      rw [sentOver_frame]; rfl
    rw [hlive, objectZeroHeld_setLive _ _ _ _ _ _ (by unfold busqAddr; omega), ← hzero, honly]
    rfl
  rw [hsent, if_neg (by simp [hheld])]
  rfl

end

theorem sum_map_range_four (f : Nat → Nat) : ((List.range 4).map f).sum = f 0 + f 1 + f 2 + f 3 := by
  simp [List.range_succ, Nat.add_assoc]

/-- The bus mask of a tap, 16 bits of each of its words. -/
theorem tapMask_eq (w a b c d : Word) :
    ((List.range 4).map fun i => ([w, a, b, c, d].getD (i + 1) 0).toNat % 2 ^ 16 * 2 ^ (16 * i)).sum =
      a.toNat % 2 ^ 16 + b.toNat % 2 ^ 16 * 2 ^ 16 + c.toNat % 2 ^ 16 * 2 ^ 32 + d.toNat % 2 ^ 16 * 2 ^ 48 := by
  rw [sum_map_range_four]
  change a.toNat % 2 ^ 16 * 2 ^ (16 * 0) + b.toNat % 2 ^ 16 * 2 ^ (16 * 1) + c.toNat % 2 ^ 16 * 2 ^ (16 * 2) +
    d.toNat % 2 ^ 16 * 2 ^ (16 * 3) = _
  rw [Nat.mul_zero, pow_zero, Nat.mul_one]

theorem opBusTap_sets {s : State} {w : Word} (a b c d : Word) (hb : w.field 4 0 ≤ 27) : opBusTap [w, a, b, c, d] s =
    (stOk, [], s.modBus (w.field 4 0) fun y => { y with
      tap := a.toNat % 2 ^ 16 + b.toNat % 2 ^ 16 * 2 ^ 16 + c.toNat % 2 ^ 16 * 2 ^ 32 + d.toNat % 2 ^ 16 * 2 ^ 48 }) := by
  have hlen : ¬ [w, a, b, c, d].length ≠ 5 := by simp
  unfold opBusTap
  rw [if_neg hlen, tapMask_eq]
  generalize a.toNat % 2 ^ 16 + b.toNat % 2 ^ 16 * 2 ^ 16 + c.toNat % 2 ^ 16 * 2 ^ 32 + d.toNat % 2 ^ 16 * 2 ^ 48 = n
  exact if_neg (Nat.not_lt.2 hb)

/-! ### Tokens (R344, R345, R347, R435) -/

theorem LanesOnly.nvmRefused {s u : State} (h : LanesOnly s u) : Machine.nvmRefused u = Machine.nvmRefused s := by rw [h]; rfl
theorem LanesOnly.acc {s u : State} (h : LanesOnly s u) : u.acc = s.acc := by rw [h]

theorem any_token (m : List (Nat × Token)) (i : Nat) : (m.any fun p => decide (p.1 = i)) = true ↔ ∃ p ∈ m, p.1 = i := by simp

/-- The tokens are those given, and the register of token `i` holds `reg`, in the unit, the lanes' copy and the latch. -/
def storeTokens (i : Nat) (reg : Word) (tokens : List (Nat × Token)) (s : State) : State :=
  loadLatch ((({ s with acc := { s.acc with tokens := tokens } } : State).setLive (tokAddr i) reg).setCopy (tokAddr i) reg)

theorem storeTokens_frame (i : Nat) (reg : Word) (tokens : List (Nat × Token)) (s : State) : storeTokens i reg tokens s =
    { s with acc := { s.acc with tokens := tokens, latch := (storeTokens i reg tokens s).acc.latch },
             live := (s.setLive (tokAddr i) reg).live, copy := (s.setCopy (tokAddr i) reg).copy } := rfl

theorem storeTokens_live (i : Nat) (reg : Word) (tokens : List (Nat × Token)) (s : State) :
    (storeTokens i reg tokens s).liveReg (tokAddr i) = reg := (State.setLive_liveReg s _ _ _).trans (if_pos rfl)

theorem storeTokens_copy (i : Nat) (reg : Word) (tokens : List (Nat × Token)) (s : State) :
    (storeTokens i reg tokens s).copyReg (tokAddr i) = reg := (State.setCopy_copyReg s _ _ _).trans (if_pos rfl)

section
variable {s : State} {m : Nat} {sec : Bool}

/-- An enrolment that the checks pass, with the payload of 16 words. -/
theorem opAccEnrol_checked {ws : List Word} {P : State} (hP : P = accesses m [(tokAddr ((ws.getD 0 0).field 3 0), true)] s)
    (hlen : ws.length = 16) (hzero : ws.getD 0 0 &&& 0xFFFF0 = 0)
    (hok : verdict s m sec (tokAddr ((ws.getD 0 0).field 3 0)) true .none = .ok) (hfree : Unlocked s m)
    (hblk : s.ply.blocked = false) : opAccEnrol m sec ws s =
      let i := (ws.getD 0 0).field 3 0
      if nvmRefused P || (P.acc.tokens.any fun p => decide (p.1 = i)) then (stState, [], P)
      else match unwrapKey Config.transportKey (wordOctets (ws.drop 4)) with
        | none => (stIntegrity, [], P)
        | some key =>
          let id := (ws.getD 1 0).toNat % 2 ^ 16 + 2 ^ 16 * ((ws.getD 2 0).toNat % 2 ^ 16)
          let reg := Word.ofN (2 ^ 19 + (ws.getD 3 0).field 1 0 * 2 ^ 17 + id % 2 ^ 16)
          (stOk, [(0xFFFFF : Word)], emit [(13, .round 0 63 (some (BitVec.ofNat 4 i)))]
            (storeTokens i reg (Sparse.put P.acc.tokens i ⟨id, key⟩) P)) := by
  subst hP
  unfold opAccEnrol
  dsimp only
  rw [if_neg (by simp [hlen]), if_neg (not_not_intro hzero),
    withAccesses_ok (fun p hp => by rw [List.mem_singleton.1 hp]; exact hok) hfree hblk]
  rfl

/-- A deletion that the checks pass. -/
theorem opAccDelete_checked {w : Word} {P : State} (hP : P = accesses m [(tokAddr (w.field 3 0), true)] s)
    (hok : verdict s m sec (tokAddr (w.field 3 0)) true .none = .ok) (hfree : Unlocked s m)
    (hblk : s.ply.blocked = false) : opAccDelete m sec [w] s =
      let i := w.field 3 0
      if nvmRefused P || !(P.acc.tokens.any fun p => decide (p.1 = i)) then (stState, [], P)
      else
        let v : State := laneRecord ⟨0x08, 0x051, 0x88020, Word.ofN i, 0⟩ (storeTokens i 0 (Sparse.erase P.acc.tokens i) P)
        (stOk, [], if v.acc.sessOpen && decide (v.acc.sessToken = i) then endSession 5 v else v) := by
  subst hP
  unfold opAccDelete
  dsimp only
  rw [withAccesses_ok (by simp [hok]) hfree hblk]
  rfl

end

end Sys2Proof.Machine
end

section
/-! EXEC. Records, streams, mailboxes, tokens and frames over the host port (R258, R260, R344, R345, R347, R432, R433, R436, R454,
R455). -/

namespace Sys2Proof.Machine

open Sys2Proof

theorem exec_evtRead (h : ReqHead) (ws : List Word) (s : State) : exec (.evtRead h ws) s = .next (hostRow 0x30 h ws s) := rfl
theorem exec_strRead (h : ReqHead) (ws : List Word) (s : State) : exec (.strRead h ws) s = .next (hostRow 0x31 h ws s) := rfl
theorem exec_mbxPost (h : ReqHead) (ws : List Word) (s : State) : exec (.mbxPost h ws) s = .next (hostRow 0x40 h ws s) := rfl
theorem exec_mbxFetch (h : ReqHead) (ws : List Word) (s : State) : exec (.mbxFetch h ws) s = .next (hostRow 0x41 h ws s) := rfl
theorem exec_mbxStatus (h : ReqHead) (ws : List Word) (s : State) : exec (.mbxStatus h ws) s = .next (hostRow 0x42 h ws s) := rfl
theorem exec_busSend (h : ReqHead) (ws : List Word) (s : State) : exec (.busSend h ws) s = .next (hostRow 0xA0 h ws s) := rfl
theorem exec_busTap (h : ReqHead) (ws : List Word) (s : State) : exec (.busTap h ws) s = .next (hostRow 0xA1 h ws s) := rfl
theorem exec_busRead (h : ReqHead) (ws : List Word) (s : State) : exec (.busRead h ws) s = .next (hostRow 0xA2 h ws s) := rfl
theorem exec_accEnrol (h : ReqHead) (ws : List Word) (s : State) : exec (.accEnrol h ws) s = .next (hostRow 0x90 h ws s) := rfl
theorem exec_accDelete (h : ReqHead) (ws : List Word) (s : State) : exec (.accDelete h ws) s = .next (hostRow 0x91 h ws s) := rfl

section
variable {h : ReqHead} {ws : List Word} {s : State} {k : Nat} {x : Session}

theorem Unlocked.counted {m : Nat} (hfree : Unlocked s m) : Unlocked (Counted h s k x) m :=
  fun a => (Counted_waitsFor h s k x m a).trans (hfree a)

/-- Nothing of a request waits in the state that counts it. -/
theorem Starts.counted_ready {code : Nat} (hstart : Starts code h ws s k x) :
    (Counted h s k x).ply.blocked = false ∧ (Counted h s k x).host.lateNow = [] :=
  ⟨hstart.ranFreely.2.1, hstart.ranFreely.1⟩

/-! ### Records (R432) -/

theorem evtRead_answers {a b c n : Word} (hws : ws = [a, b, c, n]) (hstart : Starts 0x30 h ws s k x) (hn : n.toNat ≤ 1510) :
    let from_ := ofWords [a, b, c]
    let held := heldAfter s from_
    let out := [Word.ofN (held.take n.toNat).length, Word.ofN (flagAt (decide (from_ < s.ringLost)) 19 +
      min 0x1FFF (held.length - (held.take n.toNat).length))] ++ (held.take n.toNat).flatMap recordWords
    Answers (.evtRead h ws) 0x30 h ws s x 0 out out (Counted h s k x) := by
  subst hws
  exact .of_opcode hstart (exec_evtRead ..) (by decide) (by decide) (fun hn => nomatch hn)
    (fun _ => opEvtRead_gives (Counted h s k x) a b c hn) (evtWords_length _ _ _ hn) hstart.ranFreely

theorem evtRead_tooMany {a b c n : Word} (hws : ws = [a, b, c, n]) (hstart : Starts 0x30 h ws s k x) (hn : 1510 < n.toNat) :
    Answers (.evtRead h ws) 0x30 h ws s x 4 [] [] (Counted h s k x) := by
  subst hws
  exact .of_opcode hstart (exec_evtRead ..) (by decide) (by decide) (fun hn => nomatch hn)
    (fun _ => opEvtRead_range (Counted h s k x) a b c hn) (Nat.zero_le _) hstart.ranFreely

theorem busRead_answers {a b c n : Word} (hws : ws = [a, b, c, n]) (hstart : Starts 0xA2 h ws s k x) (hn : n.toNat ≤ 255)
    (hnone : s.host.captures = []) :
    let out := [0, Word.ofN (flagAt (decide (ofWords [a, b, c] < s.host.captureLost)) 19)]
    Answers (.busRead h ws) 0xA2 h ws s x 0 out out (Counted h s k x) := by
  obtain ⟨hblocked, hlate⟩ := hstart.counted_ready
  subst hws
  exact .of_opcode hstart (exec_busRead ..) (by decide) (by decide) (fun hn => nomatch hn)
    (fun l => opBusRead_none (s := Counted h s k x) hnone hlate hblocked l x.master x.secure a b c hn) (by simp) hstart.ranFreely

/-! ### Streams (R433) -/

theorem strRead_answers {w off n : Word} (hfree : Unlocked s x.master) (hws : ws = [w, off, n]) (hn : n.toNat ≤ 2400)
    (hack : w.bit 15 = false) (hstart : Starts 0x31 h ws s k x)
    (hok : ∀ o ∈ [4, 5, 6], verdict s x.master x.secure (strmAddr (w.field 19 16) o) false .none = .ok)
    (hempty : measView s (strmAddr (w.field 19 16) 5) = s.copyReg (strmAddr (w.field 19 16) 4)) :
    let y := w.field 19 16
    let out := [s.copyReg (strmAddr y 4), measView s (strmAddr y 5), s.copyReg (strmAddr y 6), 0]
    Answers (.strRead h ws) 0x31 h ws s x 0 out out
      (accesses x.master [(strmAddr y 4, false), (strmAddr y 5, false), (strmAddr y 6, false)] (Counted h s k x)) := by
  obtain ⟨hblocked, hlate⟩ := hstart.counted_ready
  subst hws
  exact .of_opcode hstart (exec_strRead ..) (by decide) (by decide) (fun hn => nomatch hn)
    (fun l => opStrRead_empty (s := Counted h s k x) h.port l off hn hack
      (fun o ho => (Counted_verdict ..).trans (hok o ho)) hempty hfree.counted hblocked hlate)
    (by simp) (hstart.ranFreely.accesses ..)

/-! ### Mailboxes (R454, R455) -/

theorem mbxPost_disabled {w : Word} {msg : List Word} (hws : ws = w :: msg) (hlen : msg.length ≤ 8) (hstart : Starts 0x40 h ws s k x)
    (hoff : mbxOn s (32 + w.field 2 0) = false) : Answers (.mbxPost h ws) 0x40 h ws s x 4 [] [] (Counted h s k x) := by
  subst hws
  exact .of_opcode hstart (exec_mbxPost ..) (by decide) (by decide) (fun hn => nomatch hn)
    (fun _ => opMbxPost_disabled (s := Counted h s k x) x.master x.secure hlen hoff) (Nat.zero_le _) hstart.ranFreely

section
variable {w : Word} {msg : List Word} {pts : List (Nat × Bool)} (hfree : Unlocked s x.master) (hws : ws = w :: msg)
  (hlen : msg.length ≤ 8) (hstart : Starts 0x40 h ws s k x) (hstatus : mbxHostStatus s (32 + w.field 2 0) x.secure = 0)
  (hpts : pts = (mbxAddr (32 + w.field 2 0) 1 :: (List.range msg.length).map (composeAddr (32 + w.field 2 0))).map fun a => (a, true))
  (hok : mbxDenied s x.master x.secure pts = none)
include hfree hws hlen hstart hstatus hpts hok

theorem mbxPost_busy (hfull : 8 ≤ (s.box (32 + w.field 2 0)).queue.length +
    (s.mbx.posts.filter fun p => decide (p.1 = 32 + w.field 2 0)).length) :
    Answers (.mbxPost h ws) 0x40 h ws s x 1 [] [] (accesses x.master pts (Counted h s k x)) := by
  obtain ⟨hblocked, -⟩ := hstart.counted_ready
  subst hws
  exact .of_opcode hstart (exec_mbxPost ..) (by decide) (by decide) (fun hn => nomatch hn)
    (fun _ => (opMbxPost_runs (s := Counted h s k x) hlen hstatus hpts hok hfree.counted hblocked).trans (if_pos hfull))
    (Nat.zero_le _) (hstart.ranFreely.accesses ..)

theorem mbxPost_posts (hroom : (s.box (32 + w.field 2 0)).queue.length +
    (s.mbx.posts.filter fun p => decide (p.1 = 32 + w.field 2 0)).length < 8) :
    let v := (accesses x.master pts (Counted h s k x)).modBox (32 + w.field 2 0) fun b => { b with aborted := false }
    Answers (.mbxPost h ws) 0x40 h ws s x 0 [] []
      { v with mbx := { v.mbx with posts := s.mbx.posts ++ [(32 + w.field 2 0, msg)] } } := by
  obtain ⟨hblocked, -⟩ := hstart.counted_ready
  subst hws
  have hposts : (accesses x.master pts (Counted h s k x)).mbx.posts = s.mbx.posts := by rw [accesses_only x.master pts _]; rfl
  refine .of_opcode hstart (exec_mbxPost ..) (by decide) (by decide) (fun hn => nomatch hn)
    (fun _ => (opMbxPost_runs (s := Counted h s k x) hlen hstatus hpts hok hfree.counted hblocked).trans
      ((if_neg (Nat.not_le.2 hroom)).trans ?_))
    (Nat.zero_le _) ((hstart.ranFreely.accesses x.master pts).congr rfl rfl rfl rfl rfl rfl)
  unfold postMessage
  rw [← hposts]
  rfl

end

section
variable {w : Word} (hws : ws = [w]) (hstart : Starts 0x41 h ws s k x) (hack : ackedNow s (40 + w.field 2 0) = 0)
include hws hstart hack

theorem mbxFetch_tooMany (hn : (s.box (40 + w.field 2 0)).queue.length < w.field 7 4) :
    Answers (.mbxFetch h ws) 0x41 h ws s x 4 [] [] (Counted h s k x) := by
  subst hws
  exact .of_opcode hstart (exec_mbxFetch ..) (by decide) (by decide) (fun hn => nomatch hn)
    (fun _ => opMbxFetch_range (s := Counted h s k x) x.master x.secure hack hn) (Nat.zero_le _) hstart.ranFreely

theorem mbxFetch_answers {pts : List (Nat × Bool)} (hfree : Unlocked s x.master)
    (hstatus : mbxHostStatus s (40 + w.field 2 0) x.secure = 0)
    (hpts : pts = ((mbxAddr (40 + w.field 2 0) 5 :: mbxAddr (40 + w.field 2 0) 6 ::
      (List.range 64).map (0x9A000 + 64 * (40 + w.field 2 0) + ·)).map fun a => (a, false)) ++ [(mbxAddr (40 + w.field 2 0) 7, true)])
    (hok : mbxDenied s x.master x.secure pts = none) (hn : w.field 7 4 ≤ (s.box (40 + w.field 2 0)).queue.length)
    (hn0 : w.field 7 4 ≠ 0) :
    let rest := (s.box (40 + w.field 2 0)).queue.drop (w.field 7 4)
    let out := Word.ofN rest.length :: rest.flatMap fun ws => Word.ofN ws.length :: ws
    let v := (accesses x.master pts (Counted h s k x)).modBox (40 + w.field 2 0) fun b => { b with db := false }
    out.length ≤ 472 → Answers (.mbxFetch h ws) 0x41 h ws s x 0 out out
      { v with mbx := { v.mbx with acks := s.mbx.acks ++ [(40 + w.field 2 0, w.field 7 4)] } } := by
  intro rest out v hout
  obtain ⟨hblocked, -⟩ := hstart.counted_ready
  subst hws
  exact .of_opcode hstart (exec_mbxFetch ..) (by decide) (by decide) (fun hn => nomatch hn)
    (fun _ => opMbxFetch_runs (s := Counted h s k x) hstatus hack hn hn0 hpts hok hfree.counted hblocked)
    (Nat.le_trans hout (by decide)) ((hstart.ranFreely.accesses x.master pts).congr rfl rfl rfl rfl rfl rfl)

end

theorem mbxStatus_answers (hstart : Starts 0x42 h [] s k x) :
    let out := (List.range 8).map (mbxStatusWord s)
    Answers (.mbxStatus h []) 0x42 h [] s x 0 out out (Counted h s k x) :=
  .of_opcode hstart (exec_mbxStatus ..) (by decide) (by decide) (fun hn => nomatch hn) (fun _ => rfl) (by simp) hstart.ranFreely

/-! ### Buses (R436) -/

theorem busSend_length {w tx : Word} {fr : List Word} (hws : ws = w :: tx :: fr) (hstart : Starts 0xA0 h ws s k x)
    (hop : tx.field 19 18 ≠ 2) (hlen : fr.length ≠ recWords fr) :
    Answers (.busSend h ws) 0xA0 h ws s x 2 [] [] (Counted h s k x) := by
  subst hws
  exact .of_opcode hstart (exec_busSend ..) (by decide) (by decide) (fun hn => nomatch hn)
    (fun _ => opBusSend_length (s := Counted h s k x) (m := x.master) (sec := x.secure) (w := w) hop hlen) (Nat.zero_le _)
    hstart.ranFreely

theorem busSend_answers {w tx : Word} {fr : List Word} (hfree : Unlocked s x.master) (hws : ws = w :: tx :: fr)
    (hstart : Starts 0xA0 h ws s k x) (hb : w.field 4 0 ≤ 27) (hop : tx.field 19 18 = 0 ∨ tx.field 19 18 = 1)
    (hlen : fr.length = recWords fr) (hzero : objectZeroHeld s (w.field 4 0) (tx.field 19 18) (tx.field 17 12) = false)
    (h0 : verdict s x.master x.secure (busqAddr (w.field 4 0) 0) true .none = .ok)
    (h1 : verdict s x.master x.secure (busqAddr (w.field 4 0) 1) true .none = .ok) :
    Answers (.busSend h ws) 0xA0 h ws s x 0 [] [] (emit [(15 + w.field 4 0, .bus (BitVec.ofNat 2 (tx.field 19 18))
      (BitVec.ofNat 6 (tx.field 17 12)) (BitVec.ofNat 12 (tx.field 11 0)) fr)] (sentOver x.master (w.field 4 0) tx fr
        (accesses x.master [(busqAddr (w.field 4 0) 0, true), (busqAddr (w.field 4 0) 1, true)] (Counted h s k x)))) := by
  obtain ⟨hblocked, -⟩ := hstart.counted_ready
  subst hws
  have hran := hstart.ranFreely.accesses x.master [(busqAddr (w.field 4 0) 0, true), (busqAddr (w.field 4 0) 1, true)]
  refine .of_opcode hstart (exec_busSend ..) (by decide) (by decide) (fun hn => nomatch hn)
    (fun _ => opBusSend_sends (s := Counted h s k x) (w := w) hb hop hlen hzero ((Counted_verdict ..).trans h0)
      ((Counted_verdict ..).trans h1) hfree.counted hblocked) (Nat.zero_le _) ?_
  generalize accesses x.master [(busqAddr (w.field 4 0) 0, true), (busqAddr (w.field 4 0) 1, true)] (Counted h s k x) = u at hran ⊢
  rw [sentOver_frame]
  exact hran.congr rfl rfl rfl rfl rfl rfl

theorem busTap_answers {w a b c d : Word} (hws : ws = [w, a, b, c, d]) (hb : w.field 4 0 ≤ 27) (hstart : Starts 0xA1 h ws s k x) :
    Answers (.busTap h ws) 0xA1 h ws s x 0 [] [] ((Counted h s k x).modBus (w.field 4 0) fun y => { y with
      tap := a.toNat % 2 ^ 16 + b.toNat % 2 ^ 16 * 2 ^ 16 + c.toNat % 2 ^ 16 * 2 ^ 32 + d.toNat % 2 ^ 16 * 2 ^ 48 }) := by
  subst hws
  exact .of_opcode hstart (exec_busTap ..) (by decide) (by decide) (fun hn => nomatch hn)
    (fun _ => opBusTap_sets (s := Counted h s k x) a b c d hb) (Nat.zero_le _) (hstart.ranFreely.congr rfl rfl rfl rfl rfl rfl)

/-! ### Tokens (R344, R345, R347, R435) -/

theorem RanFreely.storeTokens {v : State} (hran : RanFreely s v) (i : Nat) (reg : Word) (tokens : List (Nat × Token)) :
    RanFreely s (storeTokens i reg tokens v) := by
  rw [storeTokens_frame]
  exact hran.congr rfl rfl rfl rfl rfl rfl

theorem tokenHeld_iff (s : State) (i : Nat) : (nvmRefused s || (s.acc.tokens.any fun p => decide (p.1 = i))) = true ↔
    nvmRefused s = true ∨ ∃ p ∈ s.acc.tokens, p.1 = i := by
  rw [Bool.or_eq_true, any_token]

theorem tokenMissing_iff (s : State) (i : Nat) : (nvmRefused s || !(s.acc.tokens.any fun p => decide (p.1 = i))) = true ↔
    nvmRefused s = true ∨ ∀ p ∈ s.acc.tokens, p.1 ≠ i := by
  simp

section
variable (hfree : Unlocked s x.master) (hsec : x.secure = true)
include hfree hsec

theorem accEnrol_answers (hlen : ws.length = 16) (hzero : ws.getD 0 0 &&& 0xFFFF0 = 0) (hstart : Starts 0x90 h ws s k x)
    (hok : verdict s x.master true (tokAddr ((ws.getD 0 0).field 3 0)) true .none = .ok) :
    let i := (ws.getD 0 0).field 3 0
    let P := accesses x.master [(tokAddr i, true)] (Counted h s k x)
    (nvmRefused s = true ∨ (∃ p ∈ s.acc.tokens, p.1 = i) → Answers (.accEnrol h ws) 0x90 h ws s x 5 [] [] P) ∧
    (nvmRefused s = false → (∀ p ∈ s.acc.tokens, p.1 ≠ i) →
      let id := (ws.getD 1 0).toNat % 2 ^ 16 + 2 ^ 16 * ((ws.getD 2 0).toNat % 2 ^ 16)
      let reg := Word.ofN (2 ^ 19 + (ws.getD 3 0).field 1 0 * 2 ^ 17 + id % 2 ^ 16)
      match unwrapKey Config.transportKey (wordOctets (ws.drop 4)) with
      | none => Answers (.accEnrol h ws) 0x90 h ws s x 9 [] [] P
      | some key => ∃ v, Answers (.accEnrol h ws) 0x90 h ws s x 0 [0xFFFFF] [0xFFFFF] v ∧
        v.acc.tokens = Sparse.put s.acc.tokens i ⟨id, key⟩ ∧ v.liveReg (tokAddr i) = reg ∧ v.copyReg (tokAddr i) = reg ∧
        v.ply.cmds = s.ply.cmds ++ [(13, .round 0 63 (some (BitVec.ofNat 4 i)))]) := by
  obtain ⟨hblocked, -⟩ := hstart.counted_ready
  intro i P
  have hP : P = accesses x.master [(tokAddr i, true)] (Counted h s k x) := rfl
  clear_value P
  have hrun := opAccEnrol_checked hP (s := Counted h s k x) (sec := x.secure) hlen hzero
    ((Counted_verdict ..).trans (by rw [hsec]; exact hok)) hfree.counted hblocked
  have hran : RanFreely s P := hP ▸ hstart.ranFreely.accesses ..
  have honly : LanesOnly (Counted h s k x) P := hP ▸ accesses_only ..
  have hnvm' : nvmRefused P = nvmRefused s := honly.nvmRefused
  have hacc : P.acc = s.acc := honly.acc
  have hstate (hheld : nvmRefused s = true ∨ ∃ p ∈ s.acc.tokens, p.1 = i) := hrun.trans (if_pos ((tokenHeld_iff P i).2 (by rwa [hnvm', hacc])))
  refine ⟨fun hheld => .of_opcode hstart (exec_accEnrol ..) (by decide) (by decide) (fun _ => hsec) (fun _ => hstate hheld)
    (Nat.zero_le _) hran, fun hnvm hnew => ?_⟩
  have hnot : ¬ (nvmRefused P = true ∨ ∃ p ∈ P.acc.tokens, p.1 = i) := by
    rw [hnvm', hacc]
    rintro (hn | ⟨p, hp, he⟩)
    · exact absurd (hnvm.symm.trans hn) (by decide)
    · exact hnew p hp he
  replace hrun := hrun.trans (if_neg (mt (tokenHeld_iff P i).1 hnot))
  intro id reg
  cases hkey : unwrapKey Config.transportKey (wordOctets (ws.drop 4)) with
  | none =>
    rw [hkey] at hrun
    exact .of_opcode hstart (exec_accEnrol ..) (by decide) (by decide) (fun _ => hsec) (fun _ => hrun) (Nat.zero_le _) hran
  | some key =>
    rw [hkey] at hrun
    have hstored := hran.storeTokens i reg (Sparse.put P.acc.tokens i ⟨id, key⟩)
    have hlive := storeTokens_live i reg (Sparse.put P.acc.tokens i ⟨id, key⟩) P
    have hcopy := storeTokens_copy i reg (Sparse.put P.acc.tokens i ⟨id, key⟩) P
    have htokens : (storeTokens i reg (Sparse.put P.acc.tokens i ⟨id, key⟩) P).acc.tokens = Sparse.put s.acc.tokens i ⟨id, key⟩ :=
      congrArg (fun y : Access => Sparse.put y.tokens i ⟨id, key⟩) hacc
    have hply : (storeTokens i reg (Sparse.put P.acc.tokens i ⟨id, key⟩) P).ply = s.ply := honly.ply
    change opAccEnrol x.master x.secure ws (Counted h s k x) = (stOk, [0xFFFFF], emit [_] (storeTokens i reg _ P)) at hrun
    generalize storeTokens i reg (Sparse.put P.acc.tokens i ⟨id, key⟩) P = v at *
    refine ⟨_, .of_opcode hstart (exec_accEnrol ..) (by decide) (by decide) (fun _ => hsec) (fun _ => hrun) (by simp)
      (hstored.congr rfl rfl rfl rfl rfl rfl), htokens, hlive, hcopy, ?_⟩
    exact congrArg (fun y : Ply => y.cmds ++ [(13, Content.round 0 63 (some (BitVec.ofNat 4 i)))]) hply

theorem accDelete_answers {w : Word} (hws : ws = [w]) (hstart : Starts 0x91 h ws s k x)
    (hok : verdict s x.master true (tokAddr (w.field 3 0)) true .none = .ok) :
    let i := w.field 3 0
    let P := accesses x.master [(tokAddr i, true)] (Counted h s k x)
    (nvmRefused s = true ∨ (∀ p ∈ s.acc.tokens, p.1 ≠ i) → Answers (.accDelete h ws) 0x91 h ws s x 5 [] [] P) ∧
    (nvmRefused s = false → (∃ p ∈ s.acc.tokens, p.1 = i) → ∃ v, Answers (.accDelete h ws) 0x91 h ws s x 0 [] [] v ∧
      v.acc.tokens = s.acc.tokens.filter (fun p => decide (p.1 ≠ i)) ∧ v.liveReg (tokAddr i) = 0 ∧ v.copyReg (tokAddr i) = 0 ∧
      (s.acc.sessToken = i → v.acc.sessOpen = false)) := by
  obtain ⟨hblocked, -⟩ := hstart.counted_ready
  subst hws
  intro i P
  have hP : P = accesses x.master [(tokAddr i, true)] (Counted h s k x) := rfl
  clear_value P
  have hrun := opAccDelete_checked hP (s := Counted h s k x) (sec := x.secure)
    ((Counted_verdict ..).trans (by rw [hsec]; exact hok)) hfree.counted hblocked
  have hran : RanFreely s P := hP ▸ hstart.ranFreely.accesses ..
  have honly : LanesOnly (Counted h s k x) P := hP ▸ accesses_only ..
  have hnvm' : nvmRefused P = nvmRefused s := honly.nvmRefused
  have hacc : P.acc = s.acc := honly.acc
  have hstate (hheld : nvmRefused s = true ∨ ∀ p ∈ s.acc.tokens, p.1 ≠ i) := hrun.trans (if_pos ((tokenMissing_iff P i).2 (by rwa [hnvm', hacc])))
  refine ⟨fun hheld => .of_opcode hstart (exec_accDelete ..) (by decide) (by decide) (fun _ => hsec) (fun _ => hstate hheld)
    (Nat.zero_le _) hran, fun hnvm ⟨p, hp, hi⟩ => ?_⟩
  have hnot : ¬ (nvmRefused P = true ∨ ∀ p ∈ P.acc.tokens, p.1 ≠ i) := by
    rw [hnvm', hacc]
    rintro (hn | hn)
    · exact absurd (hnvm.symm.trans hn) (by decide)
    · exact hn p hp hi
  replace hrun := hrun.trans (if_neg (mt (tokenMissing_iff P i).1 hnot))
  have hstored := hran.storeTokens i 0 (Sparse.erase P.acc.tokens i)
  have hlive := storeTokens_live i 0 (Sparse.erase P.acc.tokens i) P
  have hcopy := storeTokens_copy i 0 (Sparse.erase P.acc.tokens i) P
  have htokens : (storeTokens i 0 (Sparse.erase P.acc.tokens i) P).acc.tokens = s.acc.tokens.filter fun p => decide (p.1 ≠ i) :=
    congrArg (fun y : Access => y.tokens.filter fun p : Nat × Token => decide (p.1 ≠ i)) hacc
  have htoken : (storeTokens i 0 (Sparse.erase P.acc.tokens i) P).acc.sessToken = s.acc.sessToken :=
    show P.acc.sessToken = s.acc.sessToken from congrArg Access.sessToken hacc
  change opAccDelete x.master x.secure [w] (Counted h s k x) = (stOk, [], if (laneRecord _ (storeTokens i 0 _ P)).acc.sessOpen &&
    decide ((laneRecord _ (storeTokens i 0 _ P)).acc.sessToken = i) then endSession 5 (laneRecord _ (storeTokens i 0 _ P))
    else laneRecord _ (storeTokens i 0 _ P)) at hrun
  generalize storeTokens i 0 (Sparse.erase P.acc.tokens i) P = t at *
  obtain ⟨v, hv⟩ : ∃ v, v = laneRecord ⟨0x08, 0x051, 0x88020, Word.ofN i, 0⟩ t := ⟨_, rfl⟩
  have hfrom : RanFreely s v := by rw [hv]; exact hstored.congr rfl rfl rfl rfl rfl rfl
  replace hlive : v.liveReg (tokAddr i) = 0 := by rw [hv]; exact hlive
  replace hcopy : v.copyReg (tokAddr i) = 0 := by rw [hv]; exact hcopy
  replace htokens : v.acc.tokens = s.acc.tokens.filter fun p => decide (p.1 ≠ i) := by rw [hv]; exact htokens
  replace htoken : v.acc.sessToken = s.acc.sessToken := by rw [hv]; exact htoken
  rw [← hv] at hrun
  by_cases hends : (v.acc.sessOpen && decide (v.acc.sessToken = i)) = true
  · rw [if_pos hends] at hrun
    obtain ⟨hframe, -, hkept⟩ := endSession_frame 5 v
    have hclosed := endSession_ends 5 v
    generalize endSession 5 v = u at hframe hkept hclosed hrun
    refine ⟨u, .of_opcode hstart (exec_accDelete ..) (by decide) (by decide) (fun _ => hsec) (fun _ => hrun) (Nat.zero_le _) ?_,
      hkept.trans htokens, ?_, ?_, fun _ => hclosed⟩
    · rw [hframe]; exact hfrom.congr rfl rfl rfl rfl rfl rfl
    · rw [hframe]; exact hlive
    · rw [hframe]; exact hcopy
  · rw [if_neg hends] at hrun
    refine ⟨v, .of_opcode hstart (exec_accDelete ..) (by decide) (by decide) (fun _ => hsec) (fun _ => hrun) (Nat.zero_le _) hfrom,
      htokens, hlive, hcopy, fun hi => ?_⟩
    simpa [htoken, hi] using hends

end

end

/-- Settles O59: each request runs in the state that counts it; its checks pass, its accesses are counted in the lanes alone, and
what the opcode leaves from there is what the session hears. -/
theorem hostQueuesAndTokens : Obligations.HostQueuesAndTokens := by
  unfold Obligations.HostQueuesAndTokens
  intro s h k x m C hfree
  refine ⟨fun a b c n ws hws => ⟨evtRead_answers hws, evtRead_tooMany hws, busRead_answers hws⟩,
    fun w off n ws hws hn hack hstart => strRead_answers hfree hws hn hack hstart,
    fun w msg ws hws hlen hstart => ⟨mbxPost_disabled hws hlen hstart, fun hstatus hok =>
      ⟨mbxPost_busy hfree hws hlen hstart hstatus rfl hok, mbxPost_posts hfree hws hlen hstart hstatus rfl hok⟩⟩,
    fun w ws hws hstart hstatus hok hack => ⟨mbxFetch_tooMany hws hstart hack,
      mbxFetch_answers hws hstart hack hfree hstatus rfl hok⟩,
    mbxStatus_answers,
    fun w tx fr ws hws hstart => ⟨busSend_length hws hstart, fun hb hop hlen hzero h0 h1 =>
      busSend_answers hfree hws hstart hb hop hlen hzero h0 h1⟩,
    fun w a b c d ws hws hb hstart => busTap_answers hws hb hstart,
    fun ws hlen hzero hsec hstart hok => ?_, fun w ws hws hsec hstart hok => ?_⟩
  · exact accEnrol_answers hfree hsec hlen hzero hstart hok
  · exact accDelete_answers hfree hsec hws hstart hok

end Sys2Proof.Machine
end

section
/-! SUPPORT. Reads and writes of several points by a command of the host (R11, R127, R138, R145, R153, R154). -/

namespace Sys2Proof.Machine

open Sys2Proof

/-! ### Accesses and the rest of the state -/

/-- The state with another Board SRAM and another record of its ply. -/
def State.onPage (s : State) (q : List (Nat × Word) × Ply) : State := { s with sram := q.1, ply := q.2 }

theorem modLane_onPage (s : State) (q : List (Nat × Word) × Ply) (l : Lane) (f : LaneSt → LaneSt) :
    (s.onPage q).modLane l f = (s.modLane l f).onPage q := by cases l <;> rfl

theorem countAccess_onPage (ls : List Lane) (m a : Nat) (wr : Bool) (s : State) (q : List (Nat × Word) × Ply) :
    countAccess ls m a wr (s.onPage q) = (countAccess ls m a wr s).onPage q := by
  unfold countAccess
  cases targetOf a with
  | none => rfl
  | some t =>
    dsimp only
    induction ls generalizing s with
    | nil => rfl
    | cons l ls ih => rw [List.foldl_cons, List.foldl_cons, modLane_onPage, ih]

/-- The lanes that compute a ply do not depend on the page. -/
theorem computing_onPage (s : State) (q : List (Nat × Word) × Ply) : computing (s.onPage q) = computing s :=
  List.filter_congr fun l _ => by cases l <;> rfl

theorem accesses_onPage (m : Nat) (pts : List (Nat × Bool)) (s : State) (q : List (Nat × Word) × Ply) :
    accesses m pts (s.onPage q) = (accesses m pts s).onPage q := by
  induction pts generalizing s with
  | nil => rfl
  | cons p pts ih => rw [accesses_cons, accesses_cons, computing_onPage, countAccess_onPage, ih]

theorem LanesOnly.page {s u : State} (h : LanesOnly s u) : (u.sram, u.ply) = (s.sram, s.ply) := by rw [h]

/-! ### Writes -/

/-- Writes that change the page alone, each as `f` says, leave what they leave on the page, and their accesses counted. -/
theorem writeWords_onPage {m : Nat} {ps : List (Nat × Word)} {s : State}
    {f : List (Nat × Word) × Ply → Nat × Word → List (Nat × Word) × Ply}
    (hf : ∀ p ∈ ps, ∀ u : State, u.copy = s.copy → pointWrite m p.1 p.2 u = u.onPage (f (u.sram, u.ply) p)) :
    writeWords m ps s = (accesses m (writePoints (ps.map (·.1))) s).onPage (ps.foldl f (s.sram, s.ply)) := by
  induction ps generalizing s with
  | nil => rfl
  | cons p ps ih =>
    have honly : LanesOnly s (countAccess (computing s) m p.1 true s) := countAccess_only ..
    have hcopy : (countAccess (computing s) m p.1 true s).copy = s.copy := by rw [honly]
    have hfirst := hf p (List.mem_cons_self ..) _ hcopy
    rw [honly.page] at hfirst
    have hrest : writeWords m (p :: ps) s =
        writeWords m ps ((countAccess (computing s) m p.1 true s).onPage (f (s.sram, s.ply) p)) := by rw [← hfirst]; rfl
    have hcopy' : ((countAccess (computing s) m p.1 true s).onPage (f (s.sram, s.ply) p)).copy = s.copy := hcopy
    rw [hrest, ih fun q hq u hu => hf q (List.mem_cons_of_mem _ hq) u (hu.trans hcopy'), accesses_onPage]
    rfl

/-- Writes of Board SRAM. -/
theorem writeWords_sram (m : Nat) {a : Nat} (data : List Word) (s : State) (ha : 0x20000 ≤ a) (hb : a + data.length ≤ 0x60000) :
    writeWords m ((addrsFrom a data.length).zip data) s =
      accesses m (writePoints (addrsFrom a data.length)) (s.setSrams a data) := by
  have hmem : ∀ p ∈ (addrsFrom a data.length).zip data, 0x20000 ≤ p.1 ∧ p.1 < 0x60000 := fun p hp => by
    obtain ⟨i, hi, he⟩ := List.mem_map.1 (List.of_mem_zip hp).1
    rw [List.mem_range] at hi
    omega
  have hfst : ((addrsFrom a data.length).zip data).map (·.1) = addrsFrom a data.length :=
    List.map_fst_zip (by simp [addrsFrom])
  have hfold (q : List (Nat × Word) × Ply) : s.onPage (((addrsFrom a data.length).zip data).foldl
      (fun q p => (Sparse.set sramDefault q.1 p.1 p.2, q.2)) q) = (s.onPage q).setSrams a data := by
    clear hmem hfst hb ha
    induction data generalizing a q with
    | nil => rfl
    | cons w ws ih =>
      have hcons : addrsFrom a (ws.length + 1) = a :: addrsFrom (a + 1) ws.length := by
        unfold addrsFrom
        rw [List.range_succ_eq_map, List.map_cons, List.map_map]
        exact congrArg₂ List.cons rfl (List.map_congr_left fun i _ => by simp only [Function.comp_apply]; omega)
      rw [List.length_cons, hcons, List.zip_cons_cons, List.foldl_cons, ih]
      rfl
  rw [writeWords_onPage (f := fun q p => (Sparse.set sramDefault q.1 p.1 p.2, q.2))
    (fun p hp u _ => pointWrite_sram m p.1 p.2 u (hmem p hp).1 (hmem p hp).2), hfst, ← accesses_onPage, hfold]
  rfl

/-- A write at a unit that stands for itself alone is a command to it. -/
theorem unitWrite_single {a t : Nat} (m : Nat) (v : Word) {s : State} (hemit : emitAddrs s a = [a]) (ht : cmdTarget s a = some t) :
    unitWrite m a v s = s.onPage (s.sram, { s.ply with
      cmds := s.ply.cmds ++ [(t, Content.write (Word.ofN a) v)], writes := s.ply.writes ++ [(m, a, v)] }) := by
  unfold unitWrite
  rw [hemit, List.foldl_cons, List.foldl_nil, ht]
  rfl

theorem pointWrite_unit {a : Nat} (m : Nat) (v : Word) (s : State) (ha : 0x80000 ≤ a) (hb : a < 0x8A000) :
    pointWrite m a v s = unitWrite m a v s := by
  unfold pointWrite plainWrite
  rw [if_neg (by omega), if_neg (by omega), if_neg (by omega), if_neg (by omega), if_pos hb]

/-- Writes to one unit are its commands of the ply, in order. -/
theorem writeWords_unit {m t : Nat} {ps : List (Nat × Word)} {s : State}
    (ha : ∀ p ∈ ps, 0x80000 ≤ p.1 ∧ p.1 < 0x8A000)
    (hemit : ∀ p ∈ ps, ∀ u : State, u.copy = s.copy → emitAddrs u p.1 = [p.1] ∧ cmdTarget u p.1 = some t) :
    writeWords m ps s = accesses m (ps.map fun p => (p.1, true)) { s with ply := { s.ply with
      cmds := s.ply.cmds ++ ps.map (fun p => (t, Content.write (Word.ofN p.1) p.2)),
      writes := s.ply.writes ++ ps.map fun p => (m, p.1, p.2) } } := by
  have hfold (q : List (Nat × Word) × Ply) : ps.foldl (fun q p => (q.1, { q.2 with
      cmds := q.2.cmds ++ [(t, Content.write (Word.ofN p.1) p.2)], writes := q.2.writes ++ [(m, p.1, p.2)] })) q =
      (q.1, { q.2 with
        cmds := q.2.cmds ++ ps.map (fun p => (t, Content.write (Word.ofN p.1) p.2)),
        writes := q.2.writes ++ ps.map fun p => (m, p.1, p.2) }) := by
    clear ha hemit
    induction ps generalizing q with
    | nil => simp
    | cons p ps ih => rw [List.foldl_cons, ih]; simp
  rw [writeWords_onPage (f := fun q p => (q.1, { q.2 with
      cmds := q.2.cmds ++ [(t, Content.write (Word.ofN p.1) p.2)], writes := q.2.writes ++ [(m, p.1, p.2)] }))
    (fun p hp u hu => (pointWrite_unit m p.2 u (ha p hp).1 (ha p hp).2).trans
      (unitWrite_single m p.2 (hemit p hp u hu).1 (hemit p hp u hu).2)), hfold, ← accesses_onPage]
  unfold writePoints
  rw [List.map_map]
  rfl

/-! ### Reads -/

/-- Reads that change no more than the lanes' counts return their values. -/
theorem readWords_quiet {v : Lane} {m : Nat} {as : List Nat} {s : State} {g : Nat → Word}
    (h : ∀ a ∈ as, ∀ u, LanesOnly s u → readOn v m a u = (g a, u)) :
    readWords v m as s = (as.map g, accesses m (readPoints as) s) := by
  induction as generalizing s with
  | nil => rfl
  | cons a as ih =>
    have honly : LanesOnly s (countAccess (computing s) m a false s) := countAccess_only ..
    unfold readWords
    dsimp only
    rw [h a (List.mem_cons_self ..) _ honly, ih fun b hb u hu => h b (List.mem_cons_of_mem _ hb) u (honly.trans hu)]
    rfl

theorem readOn_sram (v : Lane) (m : Nat) {a : Nat} (s : State) (ha : 0x20000 ≤ a) (hb : a < 0x60000) :
    readOn v m a s = (s.sramWord a, s) := by
  have ht : (computing s).foldl (touchLane m a) s = s := List.foldl_fixed' (fun l => touchLane_sram m a s l hb) _
  simp (disch := omega) only [readOn, readValue, pointValue, pointTouch, ht, if_neg, if_pos]

/-- A register that a read clears no bit of. -/
theorem regAfterRead_quiet {a : Nat} (h : (regInfo a).rc = 0) (v : Word) : regAfterRead a v = v := by
  unfold regAfterRead
  rw [h]
  exact (congrArg (v &&& ·) (by decide)).trans BitVec.and_allOnes

/-- Reads at the units touch no lane. -/
theorem touchLane_unit (m a : Nat) (s : State) (l : Lane) (hb : a < 0x98000) : touchLane m a s l = s := by
  simp (disch := omega) only [touchLane, if_neg]

theorem readOn_unit (v : Lane) (m : Nat) {a : Nat} (s : State) (ha : 0x80000 ≤ a) (hb : a < 0x98000) :
    readOn v m a s = (pointValue v m a s, clearRc a s) := by
  have ht : (computing s).foldl (touchLane m a) s = s := List.foldl_fixed' (fun l => touchLane_unit m a s l hb) _
  have hne : a ≠ 0x9BE02 := by omega
  simp only [readOn, readValue, pointTouch, ht, if_neg hne, if_pos (And.intro ha hb)]

theorem clearRc_quiet {a : Nat} (h : (regInfo a).rc = 0) (s : State) : clearRc a s = s := by
  simp only [clearRc, regAfterRead_quiet h, if_true]

/-- A register of a unit that a read clears no bit of reads as its value. -/
theorem readOn_quiet (v : Lane) (m : Nat) {a : Nat} (s : State) (ha : 0x80000 ≤ a) (hb : a < 0x98000) (hrc : (regInfo a).rc = 0) :
    readOn v m a s = (pointValue v m a s, s) := by
  rw [readOn_unit v m s ha hb, clearRc_quiet hrc]

end Sys2Proof.Machine
end

section
/-! SUPPORT. What the opcodes of the host do at points that the checks pass (R127, R137, R138, R428, R431, R434, R435). -/

namespace Sys2Proof.Machine

open Sys2Proof

/-! ### Registers that a read leaves as they are -/

theorem chanInfo_rc (n off : Nat) : (chanInfo n off).rc = 0 := by
  unfold chanInfo
  split <;> rfl

theorem regInfo_chan_rc {n o : Nat} (hn : n < 176) (ho : o < 32) : (regInfo (chanAddr n o)).rc = 0 := by
  have hlo : ¬ chanAddr n o < 0x80000 := by unfold chanAddr; omega
  have hhi : chanAddr n o < 0x81600 := by unfold chanAddr; omega
  unfold regInfo
  rw [if_neg hlo, if_pos hhi, chanInfo_rc]

/-- Registers of the units outside the channels and the DMA engines. -/
def UnitReg (a : Nat) : Prop := (0x81600 ≤ a ∧ a < 0x8C900) ∨ (0x8C920 ≤ a ∧ a < 0x98000)

theorem pointValue_unit (v : Lane) (m : Nat) {a : Nat} (s : State) (h : UnitReg a) : pointValue v m a s = s.copyReg a := by
  unfold UnitReg at h
  unfold pointValue
  rw [if_neg (by omega), if_neg (by omega), if_neg (by omega), if_neg (by omega)]
  rcases h with ⟨h1, h2⟩ | ⟨h1, h2⟩
  · rw [if_pos h2]
  · rw [if_neg (by omega), if_neg (by omega), if_pos h2]

theorem UnitReg.range {a : Nat} (h : UnitReg a) : 0x80000 ≤ a ∧ a < 0x98000 := by unfold UnitReg at h; omega

theorem pointValue_chan (v : Lane) (m : Nat) {n o : Nat} (s : State) (hn : n < 176) (ho : o < 32) :
    pointValue v m (chanAddr n o) s = if 0x14 ≤ o ∧ o ≤ 0x1B then lifeWord s n o else s.copyReg (chanAddr n o) := by
  have hmod : chanAddr n o % 32 = o := by unfold chanAddr; omega
  have hdiv : (chanAddr n o - 0x80000) / 32 = n := by unfold chanAddr; omega
  have hlo : 0x80000 ≤ chanAddr n o := by unfold chanAddr; omega
  have hhi : chanAddr n o < 0x81600 := by unfold chanAddr; omega
  unfold pointValue
  rw [if_neg (by omega), if_neg (by omega), if_neg (by omega), if_pos hhi, hmod, hdiv]

theorem readOn_chan (v : Lane) (m : Nat) {n o : Nat} (s : State) (hn : n < 176) (ho : o < 32) :
    readOn v m (chanAddr n o) s = (if 0x14 ≤ o ∧ o ≤ 0x1B then lifeWord s n o else s.copyReg (chanAddr n o), s) := by
  rw [readOn_quiet v m s (by unfold chanAddr; omega) (by unfold chanAddr; omega) (regInfo_chan_rc hn ho), pointValue_chan v m s hn ho]

/-! ### Reads that clear -/

theorem clearRc_frame (a : Nat) (s : State) : clearRc a s = { s with copy := (clearRc a s).copy, live := (clearRc a s).live } := by
  unfold clearRc
  dsimp only
  split <;> split <;> rfl

theorem clearRc_other {a b : Nat} (h : a ≠ b) (s : State) : (clearRc a s).copyReg b = s.copyReg b := by
  have hlive (u : State) (w : Word) : (u.setLive a w).copyReg b = u.copyReg b := rfl
  have hcopy (u : State) (w : Word) : (u.setCopy a w).copyReg b = u.copyReg b := (State.setCopy_copyReg ..).trans (if_neg h)
  unfold clearRc
  dsimp only
  split <;> split <;> simp only [hlive, hcopy]

/-- Reads of different registers return what each held before the first. -/
theorem readWords_values (v : Lane) (m : Nat) {as : List Nat} {s : State} (hnodup : as.Nodup) (hunit : ∀ a ∈ as, UnitReg a) :
    (readWords v m as s).1 = as.map s.copyReg := by
  induction as generalizing s with
  | nil => rfl
  | cons a as ih =>
    obtain ⟨hnew, hrest⟩ := List.nodup_cons.1 hnodup
    have ha := hunit a (List.mem_cons_self ..)
    have honly : LanesOnly s (countAccess (computing s) m a false s) := countAccess_only ..
    unfold readWords
    dsimp only
    rw [readOn_unit v m _ ha.range.1 ha.range.2, pointValue_unit v m _ ha, honly.copyReg,
      ih hrest fun b hb => hunit b (List.mem_cons_of_mem _ hb)]
    refine congrArg (s.copyReg a :: ·) (List.map_congr_left fun b hb => ?_)
    have hne : a ≠ b := fun he => hnew (he.symm ▸ hb)
    rw [clearRc_other hne, honly.copyReg]

/-- Reads of registers take no lock and copy no record. -/
theorem RanFreely.readWords {s u : State} (h : RanFreely s u) (v : Lane) (m : Nat) {as : List Nat} (hunit : ∀ a ∈ as, UnitReg a) :
    RanFreely s (readWords v m as u).2 := by
  induction as generalizing u with
  | nil => exact h
  | cons a as ih =>
    have ha := hunit a (List.mem_cons_self ..)
    have hcount : RanFreely s (countAccess (computing u) m a false u) := h.accesses m [(a, false)]
    unfold Machine.readWords
    dsimp only
    rw [readOn_unit v m _ ha.range.1 ha.range.2]
    refine ih (hcount.congr ?_ ?_ ?_ ?_ ?_ ?_) fun b hb => hunit b (List.mem_cons_of_mem _ hb)
    all_goals rw [clearRc_frame]

/-! ### Commands at points that pass -/

section
variable {m : Nat} {sec : Bool} {s : State}

theorem readOnly_ok {as : List Nat} (v : Lane) (hok : ∀ a ∈ as, verdict s m sec a false .none = .ok) (hfree : Unlocked s m)
    (hb : s.ply.blocked = false) :
    readOnly v m sec as s = (stOk, (readWords v m as s).1, (readWords v m as s).2) := by
  have hpts : ∀ p ∈ readPoints as, verdict s m sec p.1 p.2 .none = .ok := fun p hp => by
    obtain ⟨a, ha, rfl⟩ := List.mem_map.1 hp
    exact hok a ha
  exact withPoints_ok hpts (fun p _ => hfree p.1) hb _

theorem writeOnly_ok {ps : List (Nat × Word)} (hok : ∀ p ∈ ps, verdict s m sec p.1 true .none = .ok) (hfree : Unlocked s m)
    (hb : s.ply.blocked = false) : writeOnly m sec ps s = (stOk, [], writeWords m ps s) := by
  have hpts : ∀ p ∈ writePoints (ps.map (·.1)), verdict s m sec p.1 p.2 .none = .ok := fun p hp => by
    obtain ⟨a, ha, rfl⟩ := List.mem_map.1 hp
    obtain ⟨q, hq, rfl⟩ := List.mem_map.1 ha
    exact hok q hq
  exact withPoints_ok hpts (fun p _ => hfree p.1) hb _

theorem readOnly_range {a : Nat} (v : Lane) (h : verdict s m sec a false .none = .range) :
    readOnly v m sec [a] s = (stRange, [], s) := by
  have hany : ([(a, false)].any fun p => decide (verdict s m sec p.1 p.2 .none = .range)) = true := by simp [h]
  unfold readOnly withPoints checkPoints readPoints
  rw [List.map_singleton, if_pos hany]
  rfl

theorem readOnly_refused {a : Nat} (v : Lane) (h : verdict s m sec a false .none = .refused) :
    readOnly v m sec [a] s = (stAccess, [], refuseAccess m a false 0 s) := by
  have hany : ¬ ([(a, false)].any fun p => decide (verdict s m sec p.1 p.2 .none = .range)) = true := by simp [h]
  have hfind : ([(a, false)].find? fun p => decide (verdict s m sec p.1 p.2 .none ≠ .ok)) = some (a, false) := by simp [h]
  unfold readOnly withPoints checkPoints readPoints
  rw [List.map_singleton, if_neg hany, hfind]
  rfl

end

theorem RanFreely.refuseAccess {s u : State} (h : RanFreely s u) (m a : Nat) (wr : Bool) (w : Word) :
    RanFreely s (refuseAccess m a wr w u) := by
  unfold Machine.refuseAccess
  split
  · exact h
  · split
    · exact h
    · split <;> exact h.congr rfl rfl rfl rfl rfl rfl

/-! ### Answers of commands that only read or only write -/

section
variable {c : Instr} {code : Nat} {h : ReqHead} {ws : List Word} {s : State} {k : Nat} {x : Session}
  (hstart : Starts code h ws s k x) (hexec : exec c s = .next (hostRow code h ws s)) (hcode : code ≠ 0 ∧ code ≠ 1 ∧ code ≠ 0x70)
  (hdef : opDefined code = true) (hsecure : secureOnly code = true → x.secure = true) (hfree : Unlocked s x.master)
include hstart hexec hcode hdef hsecure hfree

/-- A command that reads points which keep their values returns them. -/
theorem Answers.of_reads {as : List Nat} {g : Nat → Word}
    (hrun : ∀ l : Lane, runOpcode (covered s) h.port l code x.master x.secure ws (Counted h s k x) =
      readOnly l x.master x.secure as (Counted h s k x))
    (hok : ∀ a ∈ as, verdict s x.master x.secure a false .none = .ok)
    (hg : ∀ l : Lane, ∀ a ∈ as, ∀ u, LanesOnly (Counted h s k x) u → readOn l x.master a u = (g a, u)) (hlen : as.length ≤ 15104) :
    Answers c code h ws s x 0 (as.map g) (as.map g) (accesses x.master (as.map fun a => (a, false)) (Counted h s k x)) := by
  obtain ⟨hblocked, -⟩ := hstart.counted_ready
  refine .of_opcode hstart hexec hcode hdef hsecure (fun l => ?_) (by rw [List.length_map]; exact hlen) (hstart.ranFreely.accesses ..)
  rw [hrun l, readOnly_ok l (fun a ha => (Counted_verdict ..).trans (hok a ha)) hfree.counted hblocked, readWords_quiet (hg l)]
  rfl

/-- A command that writes at one unit sends its commands. -/
theorem Answers.of_unitWrites {ps : List (Nat × Word)} {t : Nat}
    (hrun : ∀ l : Lane, runOpcode (covered s) h.port l code x.master x.secure ws (Counted h s k x) =
      writeOnly x.master x.secure ps (Counted h s k x))
    (hok : ∀ p ∈ ps, verdict s x.master x.secure p.1 true .none = .ok) (ha : ∀ p ∈ ps, 0x80000 ≤ p.1 ∧ p.1 < 0x8A000)
    (hemit : ∀ p ∈ ps, ∀ u : State, u.copy = s.copy → emitAddrs u p.1 = [p.1] ∧ cmdTarget u p.1 = some t) :
    let C := Counted h s k x
    Answers c code h ws s x 0 [] [] (accesses x.master (ps.map fun p => (p.1, true)) { C with ply := { C.ply with
      cmds := C.ply.cmds ++ ps.map (fun p => (t, Content.write (Word.ofN p.1) p.2)),
      writes := C.ply.writes ++ ps.map fun p => (x.master, p.1, p.2) } }) := by
  intro C
  obtain ⟨hblocked, -⟩ := hstart.counted_ready
  have hpage : RanFreely s ({ C with ply := { C.ply with
      cmds := C.ply.cmds ++ ps.map (fun p => (t, Content.write (Word.ofN p.1) p.2)),
      writes := C.ply.writes ++ ps.map fun p => (x.master, p.1, p.2) } } : State) :=
    hstart.ranFreely.congr rfl rfl rfl rfl rfl rfl
  refine .of_opcode hstart hexec hcode hdef hsecure (fun l => ?_) (Nat.zero_le _) (hpage.accesses ..)
  rw [hrun l, writeOnly_ok (fun p hp => (Counted_verdict ..).trans (hok p hp)) hfree.counted hblocked,
    writeWords_unit (s := Counted h s k x) ha fun p hp u hu => hemit p hp u hu]
  rfl

end

/-! ### Where the registers of a unit stand -/

theorem emitAddrs_unit (s : State) {a : Nat} (ha : 0x81600 ≤ a) : emitAddrs s a = [a] := by
  unfold emitAddrs
  rw [if_neg (by omega)]

theorem emitAddrs_chan {s : State} {n : Nat} (hn : n < 176) (hp : pairOf s n = none) : emitAddrs s (chanAddr n 0) = [chanAddr n 0] := by
  have hdiv : (chanAddr n 0 - 0x80000) / 32 = n := by unfold chanAddr; omega
  unfold emitAddrs
  rw [if_pos (by unfold chanAddr; omega), hdiv]
  dsimp only
  rw [hp]

theorem cmdTarget_chan (s : State) {n : Nat} (hn : n < 176) : cmdTarget s (chanAddr n 0) = some (n / 16) := by
  have hdiv : (chanAddr n 0 - 0x80000) / 512 = n / 16 := by unfold chanAddr; omega
  unfold cmdTarget
  rw [if_neg (by unfold chanAddr; omega), if_pos (by unfold chanAddr; omega), hdiv]

theorem cmdTarget_lighting (s : State) {a : Nat} (ha : 0x86000 ≤ a) (hb : a < 0x88000) : cmdTarget s a = some 12 := by
  unfold cmdTarget
  rw [if_neg (by omega), if_neg (by omega), if_neg (by omega), if_neg (by omega), if_neg (by omega), if_neg (by omega), if_pos hb]
  rfl

end Sys2Proof.Machine
end

section
/-! EXEC. Host access to the Board (R128, R137, R138, R428, R431, R434, R435). -/

namespace Sys2Proof.Machine

open Sys2Proof

theorem exec_read (h : ReqHead) (ws : List Word) (s : State) : exec (.read h ws) s = .next (hostRow 0x10 h ws s) := rfl
theorem exec_write (h : ReqHead) (ws : List Word) (s : State) : exec (.write h ws) s = .next (hostRow 0x11 h ws s) := rfl
theorem exec_readList (h : ReqHead) (ws : List Word) (s : State) : exec (.readList h ws) s = .next (hostRow 0x12 h ws s) := rfl
theorem exec_modify (h : ReqHead) (ws : List Word) (s : State) : exec (.modify h ws) s = .next (hostRow 0x13 h ws s) := rfl
theorem exec_chCommand (h : ReqHead) (ws : List Word) (s : State) : exec (.chCommand h ws) s = .next (hostRow 0x20 h ws s) := rfl
theorem exec_chRead (h : ReqHead) (ws : List Word) (s : State) : exec (.chRead h ws) s = .next (hostRow 0x21 h ws s) := rfl
theorem exec_chLife (h : ReqHead) (ws : List Word) (s : State) : exec (.chLife h ws) s = .next (hostRow 0x22 h ws s) := rfl
theorem exec_lgtString (h : ReqHead) (ws : List Word) (s : State) : exec (.lgtString h ws) s = .next (hostRow 0x80 h ws s) := rfl
theorem exec_lgtPixels (h : ReqHead) (ws : List Word) (s : State) : exec (.lgtPixels h ws) s = .next (hostRow 0x81 h ws s) := rfl
theorem exec_lgtRead (h : ReqHead) (ws : List Word) (s : State) : exec (.lgtRead h ws) s = .next (hostRow 0x82 h ws s) := rfl
theorem exec_accRound (h : ReqHead) (ws : List Word) (s : State) : exec (.accRound h ws) s = .next (hostRow 0x92 h ws s) := rfl
theorem exec_accDen (h : ReqHead) (ws : List Word) (s : State) : exec (.accDen h ws) s = .next (hostRow 0x93 h ws s) := rfl
theorem exec_accRead (h : ReqHead) (ws : List Word) (s : State) : exec (.accRead h ws) s = .next (hostRow 0x94 h ws s) := rfl
theorem exec_busStatus (h : ReqHead) (ws : List Word) (s : State) : exec (.busStatus h ws) s = .next (hostRow 0xA3 h ws s) := rfl

/-! ### A request that waits at its target (R140, R142, R143) -/

/-- A request that meets a locked target leaves its place at the arbiters, and waits. -/
theorem hostRequest_waits {s : State} {p : Packet} {seq : Nat} (hreset : s.host.resetPort = none) (hblocked : s.ply.blocked = false)
    (hcarried : s.host.carried = []) (hcost : s.ply.hostWords + wordCost p.opcode p.payload ≤ 4096)
    (hwaits : (startRequest p seq s).ply.blocked = true) :
    hostRequest p seq s.ply.at_ s =
      { s with
        white := { s.white with arbs := (startRequest p seq s).white.arbs },
        black := { s.black with arbs := (startRequest p seq s).black.arbs },
        ply := { s.ply with blocked := true }, host := { s.host with stalled := s.host.stalled ++ [(p, seq, s.ply.at_)] } } := by
  unfold hostRequest
  rw [if_neg (by simp [hreset]), if_neg (by simp [hblocked]), if_pos (by simp [hcarried, hcost])]
  exact if_pos (show (startRequest p seq { s with ply := { s.ply with at_ := s.ply.at_ } }).ply.blocked = true from hwaits)

theorem noteLate_ply (l : Lane) (seq : Nat) (ws : List Word) (s : State) : (noteLate l seq ws s).ply = s.ply := by
  unfold noteLate
  dsimp only
  split <;> rfl

/-- An opcode that waits is left before it is answered. -/
theorem executeRequest_waits {p : Packet} {seq : Nat} {x : Session} {s v w : State} {other : List Word}
    (hdef : opDefined p.opcode = true) (hsecure : secureOnly p.opcode = false) (hcastle : p.opcode ≠ 0x70)
    (hrun : runOpcode p.covered p.port p.port p.opcode x.master x.secure p.payload s = (stOk, [], v))
    (hother : runOpcode p.covered p.port (otherLane p.port) p.opcode x.master x.secure p.payload s = (stOk, other, w))
    (hqueue : queuedFrames s p.port + 32 ≤ 128) (hb : v.ply.blocked = true) : (executeRequest p seq x s).ply.blocked = true := by
  have hn : ¬ 32 < frameCount ([] : List Word).length := by decide
  unfold executeRequest
  dsimp only
  rw [if_neg (by simp [hdef]), if_neg (by simp [hsecure]), show (if x.secure = true then 28 else 29) = x.master from rfl, hrun,
    hother, if_neg hn, if_neg (by rw [queueFull_room hqueue (Nat.not_lt.1 hn)]; decide),
    if_neg fun hc => hcastle hc.1, giveReply_ply, noteLate_ply]
  exact hb

theorem blockOn_waits {m a : Nat} (h : waitsFor s m a = true) (wr : Bool) : (blockOn m [(a, wr)] s).ply.blocked = true := by
  have hfind : ([(a, wr)].find? fun p => waitsFor s m p.1) = some (a, wr) := by simp [h]
  unfold blockOn
  rw [hfind]

theorem opRead_waits {s : State} {m : Nat} {sec : Bool} {a : Word} (v : Lane) (hok : verdict s m sec a.toNat false .none = .ok)
    (hwait : waitsFor s m a.toNat = true) : opRead v m sec [a, 1] s = (stOk, [], blockOn m [(a.toNat, false)] s) := by
  have hchecks : checkPoints m sec [(a.toNat, false)] s = (stOk, s) := checkPoints_ok (by simpa using hok)
  have hblocked := blockOn_waits hwait false
  have ha := a.isLt
  unfold opRead
  dsimp only
  rw [if_neg (by simp; omega)]
  unfold readOnly withPoints readPoints
  rw [show ((addrsFrom a.toNat (1 : Word).toNat).map fun a => (a, false)) = [(a.toNat, false)] from rfl, hchecks]
  dsimp only
  rw [if_pos rfl]
  unfold unlessBlocked
  rw [if_pos hblocked]
  rfl

section
variable {h : ReqHead} {s : State} {k : Nat} {x : Session}

theorem read_waits {a : Word} (hstart : Starts 0x10 h [a, 1] s k x) (hok : verdict s x.master x.secure a.toNat false .none = .ok)
    (hwait : waitsFor s x.master a.toNat = true) :
    Completes (.read h [a, 1]) s fun u => u = { s with
      white := { s.white with arbs := u.white.arbs }, black := { s.black with arbs := u.black.arbs }, free := s.free + 1,
      ply := { s.ply with blocked := true }, host := { s.host with stalled := u.host.stalled } } ∧
      ∃ p : Packet, u.host.stalled = s.host.stalled ++ [(p, h.seq, s.ply.at_)] ∧ p.opcode = 0x10 ∧ p.payload = [a, 1] := by
  obtain ⟨hreset, hblock, hcarried, hcost, hsession, hsec, hid, hhigh, hqueue, hlock, -⟩ := hstart
  have hcounted := startRequest_counted (s := { s with free := s.free + 1 }) (code := 0x10) (ws := [a, 1]) (covered s)
    (Config.deviceNonce s.free) (by decide) hsession hsec hid hhigh
  have hrun (l : Lane) := opRead_waits (s := Counted h s k x) l ((Counted_verdict h s k x ..).trans hok)
    ((Counted_waitsFor h s k x ..).trans hwait)
  have hgoes := executeRequest_waits
    (p := ⟨h.port, h.source, 0x10, h.sec, h.session, h.reqId, [a, 1], 0, Config.deviceNonce s.free, covered s⟩) (seq := h.seq)
    (x := x.took h.reqId.toNat s.ply.boundary) (s := Counted h s k x) rfl rfl (by simp) (hrun _) (hrun _) hqueue
    (blockOn_waits ((Counted_waitsFor h s k x ..).trans hwait) false)
  have hwaits := hostRequest_waits (s := { s with free := s.free + 1 }) (p := rowPacket 0x10 h [a, 1] s) (seq := h.seq) hreset hblock
    hcarried hcost ((congrArg (fun t : State => t.ply.blocked) hcounted).trans hgoes)
  have hrow : hostRow 0x10 h [a, 1] s = _ := (congrArg dropHostLocks hwaits).trans (dropHostLocks_free hlock)
  exact ⟨_, (exec_read ..).trans (congrArg _ hrow), rfl, _, rfl, rfl, rfl⟩

end

end Sys2Proof.Machine
end

section
/-! EXEC. Host access to the Board (R128, R137, R138, R428, R431, R434, R435). -/

namespace Sys2Proof.Machine

open Sys2Proof

section
variable {h : ReqHead} {ws : List Word} {s : State} {k : Nat} {x : Session}

/-- A request that is answered with a status alone, in the state that counts it. -/
theorem Answers.of_status {c : Instr} {code status : Nat} (hstart : Starts code h ws s k x)
    (hexec : exec c s = .next (hostRow code h ws s)) (hcode : code ≠ 0 ∧ code ≠ 1 ∧ code ≠ 0x70) (hdef : opDefined code = true)
    (hsecure : secureOnly code = true → x.secure = true)
    (hrun : ∀ l : Lane, runOpcode (covered s) h.port l code x.master x.secure ws (Counted h s k x) = (status, [], Counted h s k x)) :
    Answers c code h ws s x status [] [] (Counted h s k x) :=
  .of_opcode hstart hexec hcode hdef hsecure hrun (Nat.zero_le _) hstart.ranFreely

/-! ### READ (R428) -/

theorem opRead_range (v : Lane) (m : Nat) (sec : Bool) (a : Word) {n : Word} (hn : 4096 < n.toNat) (s : State) :
    opRead v m sec [a, n] s = (stRange, [], s) := if_pos (.inl hn)

theorem opRead_reads (v : Lane) (m : Nat) (sec : Bool) {a n : Word} (hn : n.toNat ≤ 4096) (ha : a.toNat + n.toNat ≤ 2 ^ 20)
    (s : State) : opRead v m sec [a, n] s = readOnly v m sec (addrsFrom a.toNat n.toNat) s := if_neg (by omega)

theorem opRead_one (v : Lane) (m : Nat) (sec : Bool) (a : Word) (s : State) :
    opRead v m sec [a, 1] s = readOnly v m sec [a.toNat] s :=
  opRead_reads v m sec (by decide) (by have := a.isLt; simp; omega) s

theorem opRead_length (v : Lane) (m : Nat) (sec : Bool) {ws : List Word} (hlen : ws.length ≠ 2) (s : State) :
    opRead v m sec ws s = (stLength, [], s) := by
  match ws, hlen with
  | [], _ => rfl
  | [_], _ => rfl
  | _ :: _ :: _ :: _, _ => rfl

theorem mem_addrsFrom {a n b : Nat} : b ∈ addrsFrom a n ↔ ∃ i < n, b = a + i := by
  simp [addrsFrom, eq_comm]

theorem sramWords_eq (s : State) (a n : Nat) : s.sramWords a n = (addrsFrom a n).map s.sramWord := by
  simp [State.sramWords, addrsFrom]

section
variable {a n : Word} (hws : ws = [a, n]) (hstart : Starts 0x10 h ws s k x)
include hws hstart

theorem read_tooMany (hn : 4096 < n.toNat) : Answers (.read h ws) 0x10 h ws s x 4 [] [] (Counted h s k x) := by
  subst hws
  exact .of_status hstart (exec_read ..) (by decide) (by decide) (fun hn => nomatch hn) fun l => opRead_range l _ _ a hn _

theorem read_sram (hfree : Unlocked s x.master) (hn : n.toNat ≤ 4096) (ha : 0x20000 ≤ a.toNat) (hb : a.toNat + n.toNat ≤ 0x60000)
    (hok : ∀ i : Nat, i < n.toNat → verdict s x.master x.secure (a.toNat + i) false .none = .ok) :
    Answers (.read h ws) 0x10 h ws s x 0 (s.sramWords a.toNat n.toNat) (s.sramWords a.toNat n.toNat)
      (accesses x.master ((addrsFrom a.toNat n.toNat).map fun a => (a, false)) (Counted h s k x)) := by
  subst hws
  rw [sramWords_eq]
  refine .of_reads hstart (exec_read ..) (by decide) (by decide) (fun hn => nomatch hn) hfree
    (fun l => opRead_reads l _ _ hn (by omega) _) ?_ ?_ (by simp [addrsFrom]; omega)
  · intro b hmem
    obtain ⟨i, hi, rfl⟩ := mem_addrsFrom.1 hmem
    exact hok i hi
  · intro l b hmem u hu
    obtain ⟨i, hi, rfl⟩ := mem_addrsFrom.1 hmem
    rw [readOn_sram l _ u (by omega) (by omega), hu.sramWord]
    rfl

end

section
variable {a n : Word} (hws : ws = [a, n]) (hstart : Starts 0x10 h ws s k x) (hn : n = 1)
include hws hstart hn

theorem read_noTarget (hv : verdict s x.master x.secure a.toNat false .none = .range) :
    Answers (.read h ws) 0x10 h ws s x 4 [] [] (Counted h s k x) := by
  subst hws hn
  exact .of_status hstart (exec_read ..) (by decide) (by decide) (fun hn => nomatch hn) fun l =>
    (opRead_one l _ _ a _).trans (readOnly_range l ((Counted_verdict ..).trans hv))

theorem read_refused (hv : verdict s x.master x.secure a.toNat false .none = .refused) :
    Answers (.read h ws) 0x10 h ws s x 3 [] [] (refuseAccess x.master a.toNat false 0 (Counted h s k x)) := by
  subst hws hn
  exact .of_opcode hstart (exec_read ..) (by decide) (by decide) (fun hn => nomatch hn)
    (fun l => (opRead_one l _ _ a _).trans (readOnly_refused l ((Counted_verdict ..).trans hv))) (Nat.zero_le _)
    (hstart.ranFreely.refuseAccess ..)

end

theorem read_length (hlen : ws.length ≠ 2) (hstart : Starts 0x10 h ws s k x) :
    Answers (.read h ws) 0x10 h ws s x 2 [] [] (Counted h s k x) :=
  .of_status hstart (exec_read ..) (by decide) (by decide) (fun hn => nomatch hn) fun l => opRead_length l _ _ hlen _

/-! ### WRITE (R428) -/

section
variable {a n : Word} {data : List Word} (hws : ws = a :: n :: data) (hstart : Starts 0x11 h ws s k x)
include hws hstart

theorem write_length (hlen : data.length ≠ n.toNat) : Answers (.write h ws) 0x11 h ws s x 2 [] [] (Counted h s k x) := by
  subst hws
  exact .of_status hstart (exec_write ..) (by decide) (by decide) (fun hn => nomatch hn) fun _ => if_pos hlen

theorem write_tooMany (hlen : data.length = n.toNat) (hn : 478 < n.toNat) :
    Answers (.write h ws) 0x11 h ws s x 4 [] [] (Counted h s k x) := by
  subst hws
  exact .of_status hstart (exec_write ..) (by decide) (by decide) (fun hn => nomatch hn) fun _ =>
    (if_neg (not_not_intro hlen)).trans (if_pos (.inl hn))

theorem write_sram (hfree : Unlocked s x.master) (hlen : data.length = n.toNat) (hn : n.toNat ≤ 478) (ha : 0x20000 ≤ a.toNat)
    (hb : a.toNat + n.toNat ≤ 0x60000)
    (hok : ∀ i : Nat, i < n.toNat → verdict s x.master x.secure (a.toNat + i) true .none = .ok) :
    Answers (.write h ws) 0x11 h ws s x 0 [] []
      (accesses x.master ((addrsFrom a.toNat n.toNat).map fun a => (a, true)) ((Counted h s k x).setSrams a.toNat data)) := by
  obtain ⟨hblocked, -⟩ := hstart.counted_ready
  subst hws
  have hran : RanFreely s ((Counted h s k x).setSrams a.toNat data) := by
    rw [State.setSrams_frame]
    exact hstart.ranFreely.congr rfl rfl rfl rfl rfl rfl
  refine .of_opcode hstart (exec_write ..) (by decide) (by decide) (fun hn => nomatch hn) (fun l => ?_) (Nat.zero_le _)
    (hran.accesses ..)
  have hruns : opWrite x.master x.secure (a :: n :: data) (Counted h s k x) =
      writeOnly x.master x.secure ((addrsFrom a.toNat n.toNat).zip data) (Counted h s k x) :=
    (if_neg (not_not_intro hlen)).trans (if_neg (by omega))
  have hpass : ∀ p ∈ (addrsFrom a.toNat n.toNat).zip data, verdict (Counted h s k x) x.master x.secure p.1 true .none = .ok := by
    intro p hp
    obtain ⟨i, hi, he⟩ := mem_addrsFrom.1 (List.of_mem_zip hp).1
    rw [Counted_verdict, he]
    exact hok i hi
  refine hruns.trans ((writeOnly_ok hpass hfree.counted hblocked).trans ?_)
  rw [← hlen] at hb ⊢
  rw [writeWords_sram _ data _ ha hb]
  rfl

end

/-! ### READ_LIST and MODIFY (R127, R428) -/

theorem readList_answers (hfree : Unlocked s x.master) (hne : ws ≠ []) (hlen : ws.length ≤ 480)
    (hok : ∀ a ∈ ws, 0x20000 ≤ a.toNat ∧ a.toNat < 0x60000 ∧ verdict s x.master x.secure a.toNat false .none = .ok)
    (hstart : Starts 0x12 h ws s k x) :
    let out := ws.map fun a => s.sramWord a.toNat
    Answers (.readList h ws) 0x12 h ws s x 0 out out
      (accesses x.master ((ws.map BitVec.toNat).map fun a => (a, false)) (Counted h s k x)) := by
  have hout : (ws.map fun a => s.sramWord a.toNat) = (ws.map BitVec.toNat).map s.sramWord := by rw [List.map_map]; rfl
  have hmem : ∀ b ∈ ws.map BitVec.toNat, 0x20000 ≤ b ∧ b < 0x60000 ∧ verdict s x.master x.secure b false .none = .ok := by
    intro b hb
    obtain ⟨a, ha, rfl⟩ := List.mem_map.1 hb
    exact hok a ha
  dsimp only
  rw [hout]
  refine .of_reads hstart (exec_readList ..) (by decide) (by decide) (fun hn => nomatch hn) hfree
    (fun l => if_neg (by simp [hne]; omega)) (fun b hb => (hmem b hb).2.2) (fun l b hb u hu => ?_) (by simp; omega)
  rw [readOn_sram l _ u (hmem b hb).1 (hmem b hb).2.1, hu.sramWord]
  rfl

theorem opModify_sram {s : State} {m : Nat} {sec : Bool} {a mask w : Word} (v : Lane) (ha : 0x20000 ≤ a.toNat)
    (hb : a.toNat < 0x60000) (hr : verdict s m sec a.toNat false .none = .ok) (hw : verdict s m sec a.toNat true .none = .ok)
    (hfree : Unlocked s m) (hblk : s.ply.blocked = false) : opModify v m sec [a, mask, w] s =
      (stOk, [s.sramWord a.toNat], accesses m [(a.toNat, false), (a.toNat, true)]
        (s.setSram a.toNat ((s.sramWord a.toNat &&& ~~~mask) ||| (w &&& mask)))) := by
  have honly : LanesOnly s (countAccess (computing s) m a.toNat false s) := countAccess_only ..
  have hown : ¬ ownCopy a.toNat = true := by simp [ownCopy]; omega
  have hport : ¬ (0x98000 ≤ a.toNat ∧ a.toNat < 0x99000) := by omega
  unfold opModify
  dsimp only
  rw [withPoints_ok (by simp [hr, hw]) (fun p _ => hfree p.1) hblk]
  unfold readWords readWords
  dsimp only
  rw [readOn_sram v m _ ha hb, honly.sramWord, if_neg hown, if_neg hport, pointWrite_sram m _ _ _ ha hb, List.headD_cons]
  have hall := accesses_only m [(a.toNat, false), (a.toNat, true)] s
  have hpage := accesses_onPage m [(a.toNat, false), (a.toNat, true)] s
    ((s.setSram a.toNat ((s.sramWord a.toNat &&& ~~~mask) ||| (w &&& mask))).sram, s.ply)
  change (stOk, [s.sramWord a.toNat], (accesses m [(a.toNat, false), (a.toNat, true)] s).setSram a.toNat _) = _
  refine congrArg (fun t => (stOk, [s.sramWord a.toNat], t)) (Eq.trans ?_ hpage.symm)
  generalize accesses m [(a.toNat, false), (a.toNat, true)] s = u at hall ⊢
  rw [hall]
  rfl

theorem modify_answers (hfree : Unlocked s x.master) {a mask w : Word} (hws : ws = [a, mask, w]) (ha : 0x20000 ≤ a.toNat)
    (hb : a.toNat < 0x60000) (hr : verdict s x.master x.secure a.toNat false .none = .ok)
    (hw : verdict s x.master x.secure a.toNat true .none = .ok) (hstart : Starts 0x13 h ws s k x) :
    let old := s.sramWord a.toNat
    Answers (.modify h ws) 0x13 h ws s x 0 [old] [old]
      (accesses x.master [(a.toNat, false), (a.toNat, true)]
        ((Counted h s k x).setSram a.toNat ((old &&& ~~~mask) ||| (w &&& mask)))) := by
  obtain ⟨hblocked, -⟩ := hstart.counted_ready
  subst hws
  have hran : RanFreely s ((Counted h s k x).setSram a.toNat ((s.sramWord a.toNat &&& ~~~mask) ||| (w &&& mask))) :=
    hstart.ranFreely.congr rfl rfl rfl rfl rfl rfl
  exact .of_opcode hstart (exec_modify ..) (by decide) (by decide) (fun hn => nomatch hn)
    (fun l => opModify_sram (s := Counted h s k x) l ha hb ((Counted_verdict ..).trans hr) ((Counted_verdict ..).trans hw)
      hfree.counted hblocked) (by simp) (hran.accesses ..)

end

end Sys2Proof.Machine
end

section
/-! EXEC. Host access to the units (R128, R137, R138, R428, R431, R434, R435). -/

namespace Sys2Proof.Machine

open Sys2Proof

theorem lgtReadAddrs_quiet : ∀ a ∈ lgtReadAddrs, 0x81600 ≤ a ∧ a < 0x8C900 ∧ (regInfo a).rc = 0 := by decide

theorem accReadAddrs_unit : ∀ a ∈ accReadAddrs, 0x81600 ≤ a ∧ a < 0x8C900 := by decide

theorem accReadAddrs_nodup : accReadAddrs.Nodup := by decide

theorem UnitReg.low {a : Nat} (ha : 0x81600 ≤ a) (hb : a < 0x8C900) : UnitReg a := .inl ⟨ha, hb⟩

theorem busStatusAddrs_unit {b : Nat} (hb : b ≤ 27) : ∀ a ∈ busStatusAddrs b, UnitReg a := by
  intro a ha
  have hb' : b < 28 := by omega
  clear hb
  revert a
  revert b
  unfold UnitReg
  decide

theorem busStatusAddrs_nodup {b : Nat} (hb : b ≤ 27) : (busStatusAddrs b).Nodup := by
  have hb' : b < 28 := by omega
  clear hb
  revert b
  decide

section
variable {h : ReqHead} {ws : List Word} {s : State} {k : Nat} {x : Session}

/-! ### CH_COMMAND (R431) -/

theorem opChCommand_range (m : Nat) (sec : Bool) {w : Word} (hw : 175 < w.field 19 12 ∨ w.field 11 8 = 0 ∨ 5 < w.field 11 8)
    (s : State) : opChCommand m sec [w] s = (stRange, [], s) := by
  have hnone : chEntry w = none := by
    unfold chEntry
    dsimp only
    split
    · rfl
    · next hn =>
      split
      case h_6 => rfl
      all_goals omega
  unfold opChCommand
  rw [if_neg (by simp), if_pos (by simp [hnone])]
  rfl

theorem opChCommand_writes (m : Nat) (sec : Bool) {w : Word} {ps : List (Nat × Word)} (hw : chEntry w = some ps) (s : State) :
    opChCommand m sec [w] s = writeOnly m sec ps s := by
  unfold opChCommand
  rw [if_neg (by simp), if_neg (by simp [hw]), List.flatMap_cons, List.flatMap_nil, hw, List.append_nil]
  rfl

theorem chCommand_range {w : Word} (hw : 175 < w.field 19 12 ∨ w.field 11 8 = 0 ∨ 5 < w.field 11 8) (hws : ws = [w])
    (hstart : Starts 0x20 h ws s k x) : Answers (.chCommand h ws) 0x20 h ws s x 4 [] [] (Counted h s k x) := by
  subst hws
  exact .of_status hstart (exec_chCommand ..) (by decide) (by decide) (fun hn => nomatch hn) fun _ => opChCommand_range _ _ hw _

/-- An entry in range is its writes of CH_CMD, to the tile of the channel (R431). -/
theorem chCommand_sends {w : Word} {vs : List Word} (hfree : Unlocked s x.master) (hws : ws = [w]) (hstart : Starts 0x20 h ws s k x)
    (hn : w.field 19 12 ≤ 175) (hok : verdict s x.master x.secure (chanAddr (w.field 19 12) 0) true .none = .ok)
    (hpair : pairOf s (w.field 19 12) = none)
    (hw : chEntry w = some (vs.map fun v => (chanAddr (w.field 19 12) 0, v))) :
    let C := Counted h s k x
    let ps := vs.map fun v => (chanAddr (w.field 19 12) 0, v)
    Answers (.chCommand h ws) 0x20 h ws s x 0 [] [] (accesses x.master (ps.map fun p => (p.1, true)) { C with ply := { C.ply with
      cmds := C.ply.cmds ++ ps.map (fun p => (w.field 19 12 / 16, Content.write (Word.ofN p.1) p.2)),
      writes := C.ply.writes ++ ps.map fun p => (x.master, p.1, p.2) } }) := by
  subst hws
  have hmem : ∀ p ∈ vs.map (fun v => (chanAddr (w.field 19 12) 0, v)), p.1 = chanAddr (w.field 19 12) 0 := by
    intro p hp
    obtain ⟨v, -, rfl⟩ := List.mem_map.1 hp
    rfl
  refine .of_unitWrites hstart (exec_chCommand ..) (by decide) (by decide) (fun hn => nomatch hn) hfree
    (fun _ => opChCommand_writes _ _ hw _) (fun p hp => ?_) (fun p hp => ?_) (fun p hp u hu => ?_)
  · rw [hmem p hp]; exact hok
  · rw [hmem p hp]; unfold chanAddr; omega
  · rw [hmem p hp]
    have hpair' : pairOf u (w.field 19 12) = none := by
      rw [← hpair]
      unfold pairOf State.copyReg
      rw [hu]
    exact ⟨emitAddrs_chan (by omega) hpair', cmdTarget_chan u (by omega)⟩

theorem chEntry_op {w : Word} (hn : w.field 19 12 ≤ 175) {op : Nat} {vs : List Word} (hop : w.field 11 8 = op)
    (hvs : (op, vs) ∈ ([(1, [0x80000]), (2, [0x40000]), (3, [0x20000]), (4, [0x10000]), (5, [0x20000, 0x80000])] :
      List (Nat × List Word))) : chEntry w = some (vs.map fun v => (chanAddr (w.field 19 12) 0, v)) := by
  unfold chEntry
  dsimp only
  rw [if_neg (by omega), hop]
  simp only [List.mem_cons, Prod.mk.injEq, List.not_mem_nil, or_false] at hvs
  rcases hvs with ⟨rfl, rfl⟩ | ⟨rfl, rfl⟩ | ⟨rfl, rfl⟩ | ⟨rfl, rfl⟩ | ⟨rfl, rfl⟩ <;> rfl

/-! ### CH_READ and CH_LIFE (R428) -/

theorem opChRead_one (v : Lane) (m : Nat) (sec : Bool) (offs : List Nat) {n : Word} (hn : n.toNat < 176) (s : State) :
    opChRead v m sec offs [n, 1] s = readOnly v m sec (offs.map (chanAddr n.toNat)) s := by
  have hone : (addrsFrom n.toNat (1 : Word).toNat).flatMap (fun c => offs.map (chanAddr c)) = offs.map (chanAddr n.toNat) :=
    List.append_nil _
  unfold opChRead
  dsimp only
  rw [if_neg (by simp; omega), hone]

/-- What a read of register `o` of a channel gives. -/
def chanValue (s : State) (n o : Nat) : Word := if 0x14 ≤ o ∧ o ≤ 0x1B then lifeWord s n o else s.copyReg (chanAddr n o)

theorem chanAddr_sub (n o : Nat) : chanAddr n o - chanAddr n 0 = o := by unfold chanAddr; omega

/-- One channel's registers are read. -/
theorem Answers.of_chanReads {c : Instr} {code : Nat} {offs : List Nat} {n : Word} (hws : ws = [n, 1]) (hstart : Starts code h ws s k x)
    (hexec : exec c s = .next (hostRow code h ws s)) (hcode : code ≠ 0 ∧ code ≠ 1 ∧ code ≠ 0x70) (hdef : opDefined code = true)
    (hsecure : secureOnly code = true → x.secure = true) (hfree : Unlocked s x.master) (hn : n.toNat < 176)
    (hrun : ∀ l : Lane, runOpcode (covered s) h.port l code x.master x.secure ws (Counted h s k x) =
      opChRead l x.master x.secure offs ws (Counted h s k x))
    (hok : ∀ o ∈ offs, verdict s x.master x.secure (chanAddr n.toNat o) false .none = .ok) (hoffs : ∀ o ∈ offs, o < 32)
    (hlen : offs.length ≤ 15104) :
    Answers c code h ws s x 0 (offs.map (chanValue s n.toNat)) (offs.map (chanValue s n.toNat))
      (accesses x.master ((offs.map (chanAddr n.toNat)).map fun a => (a, false)) (Counted h s k x)) := by
  have hout : offs.map (chanValue s n.toNat) =
      (offs.map (chanAddr n.toNat)).map fun a => chanValue s n.toNat (a - chanAddr n.toNat 0) := by
    rw [List.map_map]
    exact List.map_congr_left fun o _ => by rw [Function.comp_apply, chanAddr_sub]
  have hmem : ∀ a ∈ offs.map (chanAddr n.toNat), ∃ o ∈ offs, a = chanAddr n.toNat o := fun a ha => by
    obtain ⟨o, ho, rfl⟩ := List.mem_map.1 ha
    exact ⟨o, ho, rfl⟩
  rw [hout]
  refine .of_reads hstart hexec hcode hdef hsecure hfree (fun l => ?_) (fun a ha => ?_) (fun l a ha u hu => ?_) (by simpa using hlen)
  · rw [hrun l, hws, opChRead_one l _ _ offs hn]
  · obtain ⟨o, ho, rfl⟩ := hmem a ha
    exact hok o ho
  · obtain ⟨o, ho, rfl⟩ := hmem a ha
    rw [readOn_chan l _ u hn (hoffs o ho), chanAddr_sub, hu]
    rfl

/-! ### Lighting (R434) -/

theorem lgtRead_answers (hfree : Unlocked s x.master) (hstart : Starts 0x82 h [] s k x)
    (hok : ∀ a ∈ lgtReadAddrs, verdict s x.master x.secure a false .none = .ok) :
    Answers (.lgtRead h []) 0x82 h [] s x 0 (lgtReadAddrs.map s.copyReg) (lgtReadAddrs.map s.copyReg)
      (accesses x.master (lgtReadAddrs.map fun a => (a, false)) (Counted h s k x)) := by
  refine .of_reads hstart (exec_lgtRead ..) (by decide) (by decide) (fun hn => nomatch hn) hfree (fun _ => rfl) hok
    (fun l a ha u hu => ?_) (by decide)
  obtain ⟨hlo, hhi, hrc⟩ := lgtReadAddrs_quiet a ha
  rw [readOn_quiet l _ u (by omega) (by omega) hrc, pointValue_unit l _ u (.low hlo hhi), hu.copyReg]
  rfl

/-- Writes at the lighting unit are its commands. -/
theorem Answers.of_lighting {c : Instr} {code : Nat} {ps : List (Nat × Word)} (hstart : Starts code h ws s k x)
    (hexec : exec c s = .next (hostRow code h ws s)) (hcode : code ≠ 0 ∧ code ≠ 1 ∧ code ≠ 0x70) (hdef : opDefined code = true)
    (hsecure : secureOnly code = true → x.secure = true) (hfree : Unlocked s x.master)
    (hrun : ∀ l : Lane, runOpcode (covered s) h.port l code x.master x.secure ws (Counted h s k x) =
      writeOnly x.master x.secure ps (Counted h s k x))
    (hok : ∀ p ∈ ps, verdict s x.master x.secure p.1 true .none = .ok) (hps : ∀ p ∈ ps, 0x86000 ≤ p.1 ∧ p.1 < 0x88000) :
    let C := Counted h s k x
    Answers c code h ws s x 0 [] [] (accesses x.master (ps.map fun p => (p.1, true)) { C with ply := { C.ply with
      cmds := C.ply.cmds ++ ps.map (fun p => (12, Content.write (Word.ofN p.1) p.2)),
      writes := C.ply.writes ++ ps.map fun p => (x.master, p.1, p.2) } }) :=
  .of_unitWrites hstart hexec hcode hdef hsecure hfree hrun hok
    (fun p hp => by obtain ⟨hlo, hhi⟩ := hps p hp; omega)
    (fun p hp u _ => ⟨emitAddrs_unit u (by obtain ⟨hlo, hhi⟩ := hps p hp; omega), cmdTarget_lighting u (hps p hp).1 (hps p hp).2⟩)

/-- The writes of LGT_STRING (R434). -/
def stringWrites (w duty fade : Word) (lvl : List Word) : List (Nat × Word) :=
  [(strAddr (w.field 18 16) 4, duty), (strAddr (w.field 18 16) 5, fade)] ++
    ((List.range 16).map fun i => (strAddr (w.field 18 16) (16 + i), lvl.getD i 0)) ++
    [(strAddr (w.field 18 16) 0, Word.ofN (w.field 15 12 * 2 ^ 16))]

theorem zip_map_getD {α : Type} (f : Nat → Nat) (d : α) (xs : List α) :
    ((List.range xs.length).map f).zip xs = (List.range xs.length).map fun i => (f i, xs.getD i d) := by
  refine List.ext_getElem (by simp) fun i h1 h2 => ?_
  simp at h1
  simp [h1]

theorem opLgtString_writes (m : Nat) (sec : Bool) {w duty fade : Word} {lvl : List Word} (hlen : lvl.length = 16)
    (hduty : duty.toNat ≤ 0xFFFF) (hlvl : ∀ v ∈ lvl, v.toNat ≤ 0xFF) (s : State) :
    opLgtString m sec (w :: duty :: fade :: lvl) s = writeOnly m sec (stringWrites w duty fade lvl) s := by
  have hzip := zip_map_getD (fun i => strAddr (w.field 18 16) (16 + i)) 0 lvl
  rw [hlen] at hzip
  have hany : ¬ (lvl.any fun l => decide (0xFF < l.toNat)) = true := by simpa using hlvl
  unfold opLgtString
  dsimp only
  rw [if_neg (by simp [hlen]), if_neg (by
    rintro (hd | hl)
    · exact absurd hd (Nat.not_lt.2 hduty)
    · exact hany hl)]
  refine congrArg (fun ps => writeOnly m sec ps s) ?_
  unfold stringWrites
  rw [← hzip]
  rfl

theorem opLgtPixels_range (m : Nat) (sec : Bool) {w : Word} {px : List Word} (hlen : px.length = 48 * w.field 13 10)
    (hr : w.field 13 10 = 0 ∨ 9 < w.field 13 10 ∨ 24 < w.field 18 14 + w.field 13 10) (s : State) :
    opLgtPixels m sec (w :: px) s = (stRange, [], s) := by
  unfold opLgtPixels
  dsimp only
  rw [if_neg (by simp [hlen]; omega)]
  exact if_pos hr

/-- The writes of LGT_PIXELS without SWAP (R434). -/
def pixelWrites (w : Word) (px : List Word) : List (Nat × Word) :=
  ((List.range (48 * w.field 13 10)).map fun i => pixAddr (w.field 19 19) (48 * w.field 18 14 + i)).zip px

theorem opLgtPixels_writes (m : Nat) (sec : Bool) {w : Word} {px : List Word} (hlen : px.length = 48 * w.field 13 10)
    (hr : ¬ (w.field 13 10 = 0 ∨ 9 < w.field 13 10 ∨ 24 < w.field 18 14 + w.field 13 10)) (hswap : w.bit 0 = false) (s : State) :
    opLgtPixels m sec (w :: px) s = writeOnly m sec (pixelWrites w px) s := by
  unfold opLgtPixels
  dsimp only
  rw [if_neg (by simp [hlen]; omega), List.getD_cons_zero, if_neg hr, hswap]
  exact congrArg (fun ps => writeOnly m sec ps s) (List.append_nil _)

end

end Sys2Proof.Machine
end

section
/-! EXEC. Host access to the units (R128, R137, R138, R428, R431, R434, R435). -/

namespace Sys2Proof.Machine

open Sys2Proof

theorem strAddr_lighting {y o : Nat} (hy : y < 8) (ho : o < 32) : 0x86000 ≤ strAddr y o ∧ strAddr y o < 0x88000 := by
  unfold strAddr; omega

theorem stringWrites_lighting {w duty fade : Word} {lvl : List Word} :
    ∀ p ∈ stringWrites w duty fade lvl, 0x86000 ≤ p.1 ∧ p.1 < 0x88000 := by
  have hy : w.field 18 16 < 8 := Nat.mod_lt _ (by decide)
  intro p hp
  simp only [stringWrites, List.mem_append, List.mem_cons, List.not_mem_nil, or_false, List.mem_map, List.mem_range] at hp
  rcases hp with ((rfl | rfl) | ⟨i, hi, rfl⟩) | rfl
  · exact strAddr_lighting hy (by omega)
  · exact strAddr_lighting hy (by omega)
  · exact strAddr_lighting hy (by omega)
  · exact strAddr_lighting hy (by omega)

theorem pixelWrites_lighting {w : Word} {px : List Word} (hr : w.field 18 14 + w.field 13 10 ≤ 24) :
    ∀ p ∈ pixelWrites w px, 0x86000 ≤ p.1 ∧ p.1 < 0x88000 := by
  have hm : w.field 19 19 < 2 := Nat.mod_lt _ (by decide)
  intro p hp
  obtain ⟨i, hi, he⟩ := List.mem_map.1 (List.of_mem_zip hp).1
  rw [List.mem_range] at hi
  rw [← he]
  unfold pixAddr
  omega

section
variable {h : ReqHead} {ws : List Word} {s : State} {k : Nat} {x : Session}

theorem lgtString_answers (hfree : Unlocked s x.master) {w duty fade : Word} {lvl : List Word} (hws : ws = w :: duty :: fade :: lvl)
    (hlen : lvl.length = 16) (hduty : duty.toNat ≤ 0xFFFF) (hlvl : ∀ v ∈ lvl, v.toNat ≤ 0xFF) (hstart : Starts 0x80 h ws s k x)
    (hok : ∀ p ∈ stringWrites w duty fade lvl, verdict s x.master x.secure p.1 true .none = .ok) :
    let C := Counted h s k x
    let ps := stringWrites w duty fade lvl
    Answers (.lgtString h ws) 0x80 h ws s x 0 [] [] (accesses x.master (ps.map fun p => (p.1, true)) { C with ply := { C.ply with
      cmds := C.ply.cmds ++ ps.map (fun p => (12, Content.write (Word.ofN p.1) p.2)),
      writes := C.ply.writes ++ ps.map fun p => (x.master, p.1, p.2) } }) := by
  subst hws
  exact .of_lighting hstart (exec_lgtString ..) (by decide) (by decide) (fun hn => nomatch hn) hfree
    (fun _ => opLgtString_writes _ _ hlen hduty hlvl _) hok stringWrites_lighting

section
variable {w : Word} {px : List Word} (hws : ws = w :: px) (hlen : px.length = 48 * w.field 13 10) (hstart : Starts 0x81 h ws s k x)
include hws hlen hstart

theorem lgtPixels_range (hr : w.field 13 10 = 0 ∨ 9 < w.field 13 10 ∨ 24 < w.field 18 14 + w.field 13 10) :
    Answers (.lgtPixels h ws) 0x81 h ws s x 4 [] [] (Counted h s k x) := by
  subst hws
  exact .of_status hstart (exec_lgtPixels ..) (by decide) (by decide) (fun hn => nomatch hn) fun _ => opLgtPixels_range _ _ hlen hr _

theorem lgtPixels_answers (hfree : Unlocked s x.master) (hn0 : w.field 13 10 ≠ 0) (hn9 : w.field 13 10 ≤ 9)
    (hr : w.field 18 14 + w.field 13 10 ≤ 24) (hswap : w.bit 0 = false)
    (hok : ∀ p ∈ pixelWrites w px, verdict s x.master x.secure p.1 true .none = .ok) :
    let C := Counted h s k x
    let ps := pixelWrites w px
    Answers (.lgtPixels h ws) 0x81 h ws s x 0 [] [] (accesses x.master (ps.map fun p => (p.1, true)) { C with ply := { C.ply with
      cmds := C.ply.cmds ++ ps.map (fun p => (12, Content.write (Word.ofN p.1) p.2)),
      writes := C.ply.writes ++ ps.map fun p => (x.master, p.1, p.2) } }) := by
  subst hws
  exact .of_lighting hstart (exec_lgtPixels ..) (by decide) (by decide) (fun hn => nomatch hn) hfree
    (fun _ => opLgtPixels_writes _ _ hlen (by omega) hswap _) hok (pixelWrites_lighting hr)

end

/-! ### Access (R435) -/

theorem accRead_answers (hfree : Unlocked s x.master) (hstart : Starts 0x94 h [] s k x)
    (hok : ∀ a ∈ accReadAddrs, verdict s x.master x.secure a false .none = .ok) :
    ∃ v, Answers (.accRead h []) 0x94 h [] s x 0 (accReadAddrs.map s.copyReg) (accReadAddrs.map s.copyReg) v := by
  obtain ⟨hblocked, -⟩ := hstart.counted_ready
  have hunit : ∀ a ∈ accReadAddrs, UnitReg a := fun a ha => .low (accReadAddrs_unit a ha).1 (accReadAddrs_unit a ha).2
  have hrun (l : Lane) : readOnly l x.master x.secure accReadAddrs (Counted h s k x) =
      (stOk, accReadAddrs.map s.copyReg, (readWords l x.master accReadAddrs (Counted h s k x)).2) :=
    (readOnly_ok l (fun a ha => (Counted_verdict ..).trans (hok a ha)) hfree.counted hblocked).trans
      (congrArg (fun out => (stOk, out, _)) (readWords_values l x.master accReadAddrs_nodup hunit))
  obtain ⟨hlate, hblk, hnum, hat, hlock⟩ := hstart.ranFreely.readWords h.port x.master hunit
  exact ⟨_, .of_run (exec_accRead ..) hstart (by decide) rfl (fun hn => nomatch hn) (hrun _) (hrun _)
    (by rw [List.length_map]; decide) (fun hn => nomatch hn) hlate hblk hnum hat hlock⟩

/-- A command of one register of the access or the drive-enable unit. -/
theorem Answers.of_oneWrite {c : Instr} {code : Nat} {a t : Nat} {v : Word} (hstart : Starts code h ws s k x)
    (hexec : exec c s = .next (hostRow code h ws s)) (hcode : code ≠ 0 ∧ code ≠ 1 ∧ code ≠ 0x70) (hdef : opDefined code = true)
    (hsecure : secureOnly code = true → x.secure = true) (hfree : Unlocked s x.master)
    (hrun : ∀ l : Lane, runOpcode (covered s) h.port l code x.master x.secure ws (Counted h s k x) =
      writeOnly x.master x.secure [(a, v)] (Counted h s k x))
    (hok : verdict s x.master x.secure a true .none = .ok) (ha : 0x81600 ≤ a ∧ a < 0x8A000) (ht : ∀ u, cmdTarget u a = some t) :
    let C := Counted h s k x
    Answers c code h ws s x 0 [] [] (accesses x.master [(a, true)] { C with ply := { C.ply with
      cmds := C.ply.cmds ++ [(t, Content.write (Word.ofN a) v)], writes := C.ply.writes ++ [(x.master, a, v)] } }) :=
  Answers.of_unitWrites (ps := [(a, v)]) (t := t) hstart hexec hcode hdef hsecure hfree hrun
    (fun p hp => by rw [List.mem_singleton.1 hp]; exact hok)
    (fun p hp => by rw [List.mem_singleton.1 hp]; dsimp only; omega)
    (fun p hp u _ => by rw [List.mem_singleton.1 hp]; exact ⟨emitAddrs_unit u ha.1, ht u⟩)

/-! ### BUS_STATUS (R435) -/

theorem opBusStatus_range (v : Lane) (m : Nat) (sec : Bool) {w : Word} (hw : 27 < w.field 4 0) (s : State) :
    opBusStatus v m sec [w] s = (stRange, [], s) := if_pos hw

theorem opBusStatus_reads {s : State} {m : Nat} {sec : Bool} {w : Word} (v : Lane) (hb : w.field 4 0 ≤ 27)
    (hok : ∀ a ∈ busStatusAddrs (w.field 4 0), verdict s m sec a false .none = .ok) (hfree : Unlocked s m)
    (hblk : s.ply.blocked = false) : ∃ more : List Word, more.length = 8 ∧ opBusStatus v m sec [w] s =
      (stOk, ((busStatusAddrs (w.field 4 0)).map s.copyReg ++ more).take 8,
        { (readWords v m (busStatusAddrs (w.field 4 0)) s).2 with
          free := (readWords v m (busStatusAddrs (w.field 4 0)) s).2.free + 1 }) := by
  refine ⟨(List.range 8).map fun i => Word.ofN (Config.windowWord (readWords v m (busStatusAddrs (w.field 4 0)) s).2.free i),
    by simp, ?_⟩
  unfold opBusStatus
  dsimp only
  rw [if_neg (Nat.not_lt.2 hb), readOnly_ok v hok hfree hblk,
    readWords_values v m (busStatusAddrs_nodup hb) (busStatusAddrs_unit hb)]
  exact if_pos rfl

theorem busStatusAddrs_length (b : Nat) : (busStatusAddrs b).length ≤ 8 := by
  unfold busStatusAddrs
  split
  · exact (by decide : 6 ≤ 8)
  · split
    · exact (by decide : 4 ≤ 8)
    · exact (by decide : 3 ≤ 8)

theorem busStatus_answers {w : Word} (hfree : Unlocked s x.master) (hws : ws = [w]) (hstart : Starts 0xA3 h ws s k x)
    (hb : w.field 4 0 ≤ 27) (hok : ∀ a ∈ busStatusAddrs (w.field 4 0), verdict s x.master x.secure a false .none = .ok) :
    ∃ out other v, Answers (.busStatus h ws) 0xA3 h ws s x 0 out other v ∧ out.length = 8 ∧
      out.take (busStatusAddrs (w.field 4 0)).length =
        (busStatusAddrs (w.field 4 0)).map fun a => pointValue h.port x.master a s := by
  obtain ⟨hblocked, -⟩ := hstart.counted_ready
  subst hws
  have hpoints : (busStatusAddrs (w.field 4 0)).map (fun a => pointValue h.port x.master a s) =
      (busStatusAddrs (w.field 4 0)).map s.copyReg :=
    List.map_congr_left fun a ha => pointValue_unit h.port x.master s (busStatusAddrs_unit hb a ha)
  have hruns (l : Lane) := opBusStatus_reads (s := Counted h s k x) l hb (fun a ha => (Counted_verdict ..).trans (hok a ha))
    hfree.counted hblocked
  obtain ⟨more, hmore, hrun⟩ := hruns h.port
  obtain ⟨rest, -, hother⟩ := hruns (otherLane h.port)
  have hsix := busStatusAddrs_length (w.field 4 0)
  have hran : RanFreely s ({ (readWords h.port x.master (busStatusAddrs (w.field 4 0)) (Counted h s k x)).2 with
      free := (readWords h.port x.master (busStatusAddrs (w.field 4 0)) (Counted h s k x)).2.free + 1 } : State) :=
    (hstart.ranFreely.readWords h.port x.master (busStatusAddrs_unit hb)).congr rfl rfl rfl rfl rfl rfl
  obtain ⟨hlate, hblk, hnum, hat, hlock⟩ := hran
  refine ⟨_, _, _, .of_run (exec_busStatus ..) hstart (by decide) rfl (fun hn => nomatch hn) hrun hother (by simp)
    (fun hn => nomatch hn) hlate hblk hnum hat hlock, by simp [hmore], ?_⟩
  rw [hpoints, List.take_take, Nat.min_eq_left hsix, List.take_left' (List.length_map ..)]
  rfl

/-- Settles O58: the points of each command pass, so it runs in the state that counts it; its reads leave what they read, its writes
change Board SRAM or become commands of the ply, and the counting of its accesses changes the lanes' own counts alone. -/
theorem hostBoardAccess : Obligations.HostBoardAccess := by
  unfold Obligations.HostBoardAccess
  intro s h k x m C reads rd wr sends
  refine ⟨fun a hstart hok hwait => read_waits hstart hok hwait, fun hfree =>
    ⟨fun a n ws hws hstart => ⟨read_tooMany hws hstart, read_sram hws hstart hfree, read_noTarget hws hstart, read_refused hws hstart⟩,
    fun ws hlen hstart => read_length hlen hstart,
    fun a n data ws hws hstart => ⟨write_length hws hstart, write_tooMany hws hstart, write_sram hws hstart hfree⟩,
    fun ws hne hlen hok hstart => readList_answers hfree hne hlen hok hstart,
    fun a mask v ws hws ha hb hr hw hstart => modify_answers hfree hws ha hb hr hw hstart,
    fun w ws hws hstart => ⟨fun hw => chCommand_range hw hws hstart, fun hn hok hpair => ⟨?_, ?_, ?_, ?_, ?_⟩⟩,
    fun n ws hws hn => ⟨fun hstart hok => ?_, fun hstart hok => ?_⟩,
    fun hstart hok => lgtRead_answers hfree hstart hok, fun hstart hok => accRead_answers hfree hstart hok,
    fun w ws hws => ⟨fun hstart hok => ?_, fun hstart hsec hok => ?_⟩,
    fun w duty fade lvl ws hws hlen hduty hlvl hstart hok => lgtString_answers hfree hws hlen hduty hlvl hstart hok,
    fun w px ws hws hlen hstart => ⟨lgtPixels_range hws hlen hstart, lgtPixels_answers hws hlen hstart hfree⟩,
    fun w ws hws hstart => ⟨fun hw => ?_, busStatus_answers hfree hws hstart⟩⟩⟩
  · exact fun hop => chCommand_sends (vs := [0x80000]) hfree hws hstart hn hok hpair (chEntry_op hn hop (by decide))
  · exact fun hop => chCommand_sends (vs := [0x40000]) hfree hws hstart hn hok hpair (chEntry_op hn hop (by decide))
  · exact fun hop => chCommand_sends (vs := [0x20000]) hfree hws hstart hn hok hpair (chEntry_op hn hop (by decide))
  · exact fun hop => chCommand_sends (vs := [0x10000]) hfree hws hstart hn hok hpair (chEntry_op hn hop (by decide))
  · exact fun hop => chCommand_sends (vs := [0x20000, 0x80000]) hfree hws hstart hn hok hpair (chEntry_op hn hop (by decide))
  · exact .of_chanReads (offs := [1, 2, 0x1D, 0x1E]) hws hstart (exec_chRead ..) (by decide) (by decide) (fun hn => nomatch hn) hfree
      hn (fun _ => rfl) hok (by decide) (by decide)
  · exact .of_chanReads (offs := addrsFrom 0x14 8) hws hstart (exec_chLife ..) (by decide) (by decide) (fun hn => nomatch hn) hfree hn
      (fun _ => rfl) hok (by decide) (by decide)
  · subst hws
    exact Answers.of_oneWrite (a := 0x88001) (t := 13) hstart (exec_accRound ..) (by decide) (by decide) (fun hn => nomatch hn) hfree (fun _ => rfl) hok (by decide)
      (fun _ => rfl)
  · subst hws
    exact Answers.of_oneWrite (a := 0x88021) (t := 14) hstart (exec_accDen ..) (by decide) (by decide) (fun _ => hsec) hfree (fun _ => rfl) hok (by decide)
      (fun _ => rfl)
  · subst hws
    exact .of_status hstart (exec_busStatus ..) (by decide) (by decide) (fun hn => nomatch hn) fun l => opBusStatus_range l _ _ hw _

end

end Sys2Proof.Machine
end

section
/-! SUPPORT. What the supplies do to the loads (R57, R160, R302). -/

namespace Sys2Proof.Machine

open Sys2Proof

/-! ### Steps that change the loads and their reports -/

/-- From `s` to `u` the loads, their reports, the AO latch and the free values alone change, and no kept entry goes. -/
def LoadsOnly (s u : State) : Prop :=
  u = { s with free := u.free, chans := u.chans, douts := u.douts, strs := u.strs, mxs := u.mxs, den := u.den,
               targets := u.targets, pwr := u.pwr } ∧
  ∀ t : Nat, (s.tgt t).entries ⊆ (u.tgt t).entries

theorem LoadsOnly.refl (s : State) : LoadsOnly s s := ⟨rfl, fun _ => List.Subset.refl _⟩

theorem LoadsOnly.trans {s u v : State} (a : LoadsOnly s u) (b : LoadsOnly u v) : LoadsOnly s v := by
  obtain ⟨a1, a2⟩ := a
  obtain ⟨b1, b2⟩ := b
  refine ⟨?_, fun t _ he => b2 t (a2 t he)⟩
  rw [b1, a1]

/-- A change of a load, without a report. -/
theorem LoadsOnly.of_targets {s u : State} (h : u = { s with
    free := u.free, chans := u.chans, douts := u.douts, strs := u.strs, mxs := u.mxs, den := u.den, targets := u.targets,
    pwr := u.pwr }) (ht : u.targets = s.targets) : LoadsOnly s u :=
  ⟨h, fun t => by rw [State.tgt, State.tgt, ht]; exact List.Subset.refl _⟩

theorem LoadsOnly.pushEntry (t : Nat) (e : Entry) (s : State) : LoadsOnly s (pushEntry t e s) := by
  refine ⟨rfl, fun k => ?_⟩
  rw [Machine.pushEntry, State.modTgt_eq, State.setTgt_tgt]
  split
  · next h => subst h; exact List.subset_append_left ..
  · exact List.Subset.refl _

theorem mem_pushEntry (t : Nat) (e : Entry) (s : State) : e ∈ ((pushEntry t e s).tgt t).entries := by
  rw [pushEntry, State.modTgt_eq, State.setTgt_tgt, if_pos rfl]
  exact List.mem_append_right _ (List.mem_singleton.2 rfl)

section
variable {s u : State} (h : LoadsOnly s u)
include h

theorem LoadsOnly.sup : u.sup = s.sup := by rw [h.1]
theorem LoadsOnly.seq : u.seq = s.seq := by rw [h.1]
theorem LoadsOnly.live : u.live = s.live := by rw [h.1]
theorem LoadsOnly.lane (l : Lane) : u.lane l = s.lane l := by rw [h.1]; cases l <;> rfl
theorem LoadsOnly.chReg (n off : Nat) : chReg u n off = Machine.chReg s n off := by rw [h.1]; rfl
theorem LoadsOnly.leaderOf (n : Nat) : leaderOf u n = Machine.leaderOf s n := by rw [h.1]; rfl

end

/-- What every step keeps, all of them keep. -/
theorem foldl_keeps {α ι : Type} {F : State → ι → State} (read : State → α) (hF : ∀ s k, read (F s k) = read s) (ks : List ι)
    (s : State) : read (ks.foldl F s) = read s := by
  induction ks generalizing s with
  | nil => rfl
  | cons k ks ih => exact (ih _).trans (hF s k)

/-- The steps before one and those behind it. -/
theorem foldl_through {ι : Type} {F : State → ι → State} (hF : ∀ s k, LoadsOnly s (F s k)) (ks : List ι) (s : State) :
    LoadsOnly s (ks.foldl F s) ∧ ∀ k ∈ ks, ∃ v, LoadsOnly s v ∧ LoadsOnly (F v k) (ks.foldl F s) := by
  induction ks generalizing s with
  | nil => exact ⟨.refl s, fun k hk => nomatch hk⟩
  | cons k ks ih =>
    obtain ⟨hall, heach⟩ := ih (F s k)
    refine ⟨(hF s k).trans hall, fun j hj => ?_⟩
    rcases List.mem_cons.1 hj with rfl | hj
    · exact ⟨s, .refl s, hall⟩
    · obtain ⟨v, hv, hrest⟩ := heach j hj
      exact ⟨v, (hF s k).trans hv, hrest⟩

/-! ### Reports of the loads -/

/-- A step that is taken or not. -/
theorem LoadsOnly.ite {s u : State} {c : Prop} [Decidable c] (h : LoadsOnly s u ∧ u.chans = s.chans) :
    LoadsOnly s (if c then u else s) ∧ (if c then u else s).chans = s.chans := by
  split
  · exact h
  · exact ⟨.refl s, rfl⟩

theorem raiseWake_loads (cause idx : Nat) (s : State) :
    LoadsOnly s (raiseWake cause idx s) ∧ (raiseWake cause idx s).chans = s.chans := by
  unfold raiseWake
  split
  · exact ⟨.of_targets rfl rfl, rfl⟩
  · exact ⟨.refl s, rfl⟩

theorem parkFault_loads (n cause : Nat) (s : State) : LoadsOnly s (parkFault n cause s) ∧ (parkFault n cause s).chans = s.chans :=
  LoadsOnly.ite (raiseWake_loads ..)

theorem reportCh_loads (n cause : Nat) (w : Word) (s : State) :
    LoadsOnly s (reportCh n cause w s) ∧ (reportCh n cause w s).chans = s.chans ∧
    ∃ e ∈ ((reportCh n cause w s).tgt (n / 16)).entries, e.kind = 0 ∧ e.obj = n ∧ e.cause = cause := by
  obtain ⟨hpark, hchans⟩ := parkFault_loads n cause s
  unfold reportCh reportChAs
  dsimp only
  generalize parkFault n cause s = v at hpark hchans ⊢
  exact ⟨hpark.trans (.pushEntry ..), hchans, _, mem_pushEntry .., rfl, rfl, rfl⟩

theorem pushLgt_loads (obj cause : Nat) (w : Word) (a hi : Nat) (arg1 : Word) (copy : List (Nat × Word)) (s : State) :
    LoadsOnly s (pushLgt obj cause w a hi arg1 copy s) := .pushEntry ..

theorem modStr_loads (x : Nat) (f : Str → Str) (s : State) : LoadsOnly s (s.modStr x f) := .of_targets rfl rfl
theorem modMx_loads (m : Nat) (f : Mx → Mx) (s : State) : LoadsOnly s (s.modMx m f) := .of_targets rfl rfl
theorem modDout_loads (o : Nat) (f : Dout → Dout) (s : State) : LoadsOnly s (s.modDout o f) := .of_targets rfl rfl
theorem modChan_loads (n : Nat) (f : Chan → Chan) (s : State) : LoadsOnly s (s.modChan n f) := .of_targets rfl rfl

theorem reportStr_loads (x cause : Nat) (s : State) : LoadsOnly s (reportStr x cause s) := pushLgt_loads ..
theorem reportMx_loads (m cause hi : Nat) (s : State) : LoadsOnly s (reportMx m cause hi s) := pushLgt_loads ..

theorem changeStr_loads (x cause : Nat) (f : Str → Str) (s : State) : LoadsOnly s (changeStr x cause f s) :=
  (modStr_loads ..).trans (reportStr_loads ..)

theorem changeMx_loads (m cause : Nat) (f : Mx → Mx) (s : State) : LoadsOnly s (changeMx m cause f s) :=
  (modMx_loads ..).trans (reportMx_loads ..)

theorem changeDo_loads (o cause : Nat) (f : Dout → Dout) (s : State) : LoadsOnly s (changeDo o cause f s) := by
  have hfree (v : State) : LoadsOnly v { v with free := v.free + 1 } := .of_targets rfl rfl
  exact (modDout_loads ..).trans ((modDout_loads ..).trans ((hfree _).trans (.pushEntry ..)))

theorem denStopNow_loads (cause : Nat) (st : DenState) (s : State) : LoadsOnly s (denStopNow cause st s) := by
  unfold denStopNow
  split
  · have hden (d : Den) : LoadsOnly s { s with den := d } := .of_targets rfl rfl
    exact (hden _).trans (.pushEntry ..)
  · exact .refl s

/-- A generator that is stopped at once does not run. -/
theorem denStopNow_rests {cause : Nat} {st : DenState} (hst : st ≠ .running) (s : State) :
    (denStopNow cause st s).den.state ≠ .running := by
  unfold denStopNow
  split
  · exact hst
  · next h => exact h

/-! ### A feed that is lost or returns (R160, R302) -/

/-- Steps on the strings and then, unless `c` holds, on the matrices, none of which changes a channel. -/
theorem foldl_lighting {F G : State → Nat → State} {c : State → Bool}
    (hF : ∀ s x, LoadsOnly s (F s x) ∧ (F s x).chans = s.chans) (hG : ∀ s m, LoadsOnly s (G s m) ∧ (G s m).chans = s.chans)
    (xs ms : List Nat) (s : State) :
    LoadsOnly s (if c (xs.foldl F s) then xs.foldl F s else ms.foldl G (xs.foldl F s)) ∧
    (if c (xs.foldl F s) then xs.foldl F s else ms.foldl G (xs.foldl F s)).chans = s.chans := by
  have hfirst := (foldl_through (fun s x => (hF s x).1) xs s).1
  have hchans := foldl_keeps State.chans (fun s x => (hF s x).2) xs s
  generalize xs.foldl F s = v at hfirst hchans ⊢
  split
  · exact ⟨hfirst, hchans⟩
  · exact ⟨hfirst.trans (foldl_through (fun s m => (hG s m).1) ms v).1,
      (foldl_keeps State.chans (fun s m => (hG s m).2) ms v).trans hchans⟩

theorem lgtFeedLost_loads (f : Feed) (s : State) : LoadsOnly s (lgtFeedLost f s) ∧ (lgtFeedLost f s).chans = s.chans :=
  foldl_lighting (c := mxFeedOk) (fun _ _ => LoadsOnly.ite ⟨changeStr_loads .., rfl⟩) (fun _ _ => LoadsOnly.ite ⟨reportMx_loads .., rfl⟩) _ _ s

theorem lgtFeedBack_loads (f : Feed) (was : Bool) (s : State) :
    LoadsOnly s (lgtFeedBack f was s) ∧ (lgtFeedBack f was s).chans = s.chans :=
  foldl_lighting (c := fun _ => was) (fun _ _ => LoadsOnly.ite ⟨reportStr_loads .., rfl⟩) (fun _ _ => LoadsOnly.ite ⟨reportMx_loads .., rfl⟩) _ _ s

end Sys2Proof.Machine
end

section
/-! SUPPORT. Supply events and power-fail (R46 to R48, R52 to R54, R56 to R59, R160). -/

namespace Sys2Proof.Machine

open Sys2Proof

theorem exec_vlogLost (f : Feed) (x : Word) (s : State) : exec (.vlogLost f x) s = .next (vlogLost f x s) := rfl
theorem exec_vlogBack (f : Feed) (x : Word) (red : Bool) (s : State) : exec (.vlogBack f x red) s = .next (vlogBack f x red s) := rfl
theorem exec_reducedOn (a b : Bool) (x : Word) (s : State) : exec (.reducedOn ⟨a, b, x⟩) s = .next (reducedOn a b x s) := rfl
theorem exec_reducedOff (f : Feed) (x : Word) (s : State) : exec (.reducedOff f x) s = .next (reducedOff f x s) := rfl
theorem exec_vpwrLow (f : Feed) (x : Word) (s : State) : exec (.vpwrLow f x) s = .next (vpwrLow f x s) := rfl
theorem exec_vpwrMissing (f : Feed) (x : Word) (s : State) : exec (.vpwrMissing f x) s = .next (vpwrMissing f x s) := rfl
theorem exec_vpwrOk (f : Feed) (x : Word) (low : Bool) (s : State) : exec (.vpwrOk f ⟨x, low⟩) s = .next (vpwrOk f x low s) := rfl
theorem exec_powerFail (a b : Word) (s : State) : exec (.powerFail a b) s = .next (powerFail a b s) := rfl
theorem exec_lowPowerBrownout (s : State) : exec .lowPowerBrownout s = .next (lowPower s) := rfl

/-! ### Inputs of the supplies -/

theorem Numbering.sup {s : State} (h : Numbering s) (p : Supply) : Numbering { s with sup := p } := h

theorem Presented.sup {s u : State} {src : Nat} {ws : List Word} {act : Act} {p : Supply}
    (h : Presented src ws act { s with sup := p } u) : Presented src ws act s u := h

/-- An input is presented by its place in the sequencer alone. -/
theorem Presented.of_seq {s u v : State} {src : Nat} {ws : List Word} {act : Act} (h : Presented src ws act s u)
    (hv : v.seq = u.seq) : Presented src ws act s v := by
  unfold Presented at h ⊢
  rw [hv, h]

/-- A supply event changes the supply's bits, and is presented with its record. -/
theorem presentSupply_tells (code : Nat) (a0 a1 : Word) (s : State) (p : Supply) :
    Posts { s with sup := p } (presentSupply code a0 a1 { s with sup := p }) ∧
    (Numbering s → Presented 0x17 [Word.ofN (0x100 + code), a0, a1] (.upd [] [⟨0, code, 0x9E001, a0, a1⟩]) s
      (presentSupply code a0 a1 { s with sup := p })) :=
  ⟨present_posts .., fun h => (present_numbered 0x17 _ _ _ (h.sup p)).1.sup⟩

theorem feedWord_eq (f : Feed) : feedWord f = if f = .a then 0 else 1 := by cases f <;> rfl

theorem modVlog_eq (f : Feed) (g : VlogIn → VlogIn) (s : State) : modVlog f g s = { s with
    sup := if f = .a then { s.sup with vlogA := g (if f = .a then s.sup.vlogA else s.sup.vlogB) }
      else { s.sup with vlogB := g (if f = .a then s.sup.vlogA else s.sup.vlogB) } } := by cases f <;> rfl

theorem modVpwr_eq (f : Feed) (g : VpwrIn → VpwrIn) (s : State) : modVpwr f g s = { s with
    sup := if f = .a then { s.sup with vpwrA := g (if f = .a then s.sup.vpwrA else s.sup.vpwrB) }
      else { s.sup with vpwrB := g (if f = .a then s.sup.vpwrA else s.sup.vpwrB) } } := by cases f <;> rfl

/-! ### A power feed that goes missing or returns (R160, R302) -/

/-- An entry that channel `n` has made for `cause` is kept. -/
def KeepsEntry (n cause : Nat) (u : State) : Prop :=
  ∃ e ∈ (u.tgt (n / 16)).entries, e.kind = 0 ∧ e.obj = n ∧ e.cause = cause

theorem KeepsEntry.mono {n cause : Nat} {u v : State} (h : KeepsEntry n cause u) (hv : LoadsOnly u v) : KeepsEntry n cause v := by
  obtain ⟨e, he, hk⟩ := h
  exact ⟨e, hv.2 _ he, hk⟩

theorem mem_channelsOf {f : Feed} {n : Nat} : n ∈ channelsOf f ↔ n < 176 ∧ feedOf n = f := by
  simp [channelsOf]

theorem channelsOf_nodup (f : Feed) : (channelsOf f).Nodup := List.nodup_range.filter _

/-- What a feed that goes missing does to the loads: each of its channels reports it, and none changes. -/
theorem feedMissing_spec (f : Feed) (s : State) :
    let u := lgtFeedLost f ((channelsOf f).foldl (fun s n => reportCh n 0x008 0 s) s)
    LoadsOnly s u ∧ u.chans = s.chans ∧ ∀ n : Fin 176, feedOf n = f → KeepsEntry n 0x008 u := by
  obtain ⟨hall, heach⟩ := foldl_through (F := fun s n => reportCh n 0x008 0 s) (fun s n => (reportCh_loads n 0x008 0 s).1)
    (channelsOf f) s
  have hchans := foldl_keeps (F := fun s n => reportCh n 0x008 0 s) State.chans (fun s n => (reportCh_loads n 0x008 0 s).2.1)
    (channelsOf f) s
  dsimp only
  generalize (channelsOf f).foldl (fun s n => reportCh n 0x008 0 s) s = v at hall heach hchans ⊢
  obtain ⟨hlost, hlost'⟩ := lgtFeedLost_loads f v
  refine ⟨hall.trans hlost, hlost'.trans hchans, fun n hn => ?_⟩
  obtain ⟨w, -, hw⟩ := heach n (mem_channelsOf.2 ⟨n.isLt, hn⟩)
  exact KeepsEntry.mono (reportCh_loads n 0x008 0 w).2.2 (hw.trans hlost)

/-- A channel whose feed returns: a closed switch has an inrush window (R160, R167). -/
def Chan.windowed (c : Chan) (rr : Word) : Chan :=
  if c.sw then { c with inrush := true, arcSpoilt := true, used := 0, winRetry := rr } else c

theorem feedWindow_eq (n : Nat) (s : State) :
    feedWindow n s = if (s.chan n).sw then s.modChan n fun c => c.windowed (chReg s (leaderOf s n) 6) else s := by
  unfold feedWindow
  split
  · next h => simp only [State.modChan_eq, Chan.windowed, h, if_true]
  · rfl

theorem feedWindow_loads (n : Nat) (s : State) : LoadsOnly s (feedWindow n s) := by
  rw [feedWindow_eq]
  split
  · exact modChan_loads ..
  · exact .refl s

theorem feedWindow_chan (n p : Nat) (s : State) :
    (feedWindow n s).chan p = if n = p then (s.chan n).windowed (chReg s (leaderOf s n) 6) else s.chan p := by
  rw [feedWindow_eq]
  split
  · rw [State.modChan_eq, State.setChan_chan]
  · next h =>
    split
    · next he => subst he; rw [Chan.windowed, if_neg h]
    · rfl

/-- A channel whose feed returns reports it. -/
def feedReturn (s : State) (n : Nat) : State := reportCh n 0x009 0 (feedWindow n s)

theorem feedReturn_loads (s : State) (n : Nat) : LoadsOnly s (feedReturn s n) :=
  (feedWindow_loads n s).trans (reportCh_loads ..).1

theorem chan_of_chans {s u : State} (h : u.chans = s.chans) (n : Nat) : u.chan n = s.chan n := by rw [State.chan, h, State.chan]

theorem feedReturn_chan (s : State) (n p : Nat) :
    (feedReturn s n).chan p = if n = p then (s.chan n).windowed (chReg s (leaderOf s n) 6) else s.chan p :=
  (chan_of_chans (reportCh_loads ..).2.1 p).trans (feedWindow_chan n p s)

/-- What the return of a feed does beyond its channels (R302, R468, R475). -/
def feedLights (f : Feed) (was : Bool) (s : State) : State :=
  let s := lgtFeedBack f was s
  if (asleep s || s.pwr.committed) && wakeEnabled s 10 0 then raiseWake 10 (match f with | .a => 0 | .b => 1) s else s

theorem feedReturns_eq (f : Feed) (was : Bool) (s : State) :
    feedReturns f was s = feedLights f was ((channelsOf f).foldl feedReturn s) := rfl

theorem feedLights_loads (f : Feed) (was : Bool) (s : State) :
    LoadsOnly s (feedLights f was s) ∧ (feedLights f was s).chans = s.chans := by
  obtain ⟨hback, hchans⟩ := lgtFeedBack_loads f was s
  unfold feedLights
  dsimp only
  generalize lgtFeedBack f was s = v at hback hchans ⊢
  obtain ⟨hend, hend'⟩ := LoadsOnly.ite (c := ((asleep v || v.pwr.committed) && wakeEnabled v 10 0) = true)
    (raiseWake_loads 10 (match f with | .a => 0 | .b => 1) v)
  exact ⟨hback.trans hend, hend'.trans hchans⟩

/-- What the return of a feed that was missing does to the loads. -/
theorem feedReturns_spec (f : Feed) (was : Bool) (s : State) :
    let u := feedReturns f was s
    LoadsOnly s u ∧
    (∀ n : Fin 176, feedOf n = f → KeepsEntry n 0x009 u ∧ u.chan n = (s.chan n).windowed (chReg s (leaderOf s n) 6)) ∧
    ∀ n : Nat, feedOf n ≠ f → u.chan n = s.chan n := by
  obtain ⟨hall, heach⟩ := foldl_through feedReturn_loads (channelsOf f) s
  obtain ⟨-, hother, hchan⟩ := foldl_objects LoadsOnly.refl LoadsOnly.trans State.chan id feedReturn_loads
    (fun s k p hp => (feedReturn_chan s k p).trans (if_neg (Ne.symm hp))) (channelsOf f)
    (by rw [List.map_id]; exact channelsOf_nodup f) s
  rw [List.map_id] at hother
  rw [feedReturns_eq]
  dsimp only
  generalize (channelsOf f).foldl feedReturn s = v at hall heach hother hchan ⊢
  obtain ⟨hend, hchans⟩ := feedLights_loads f was v
  refine ⟨hall.trans hend, fun n hn => ⟨?_, ?_⟩, fun n hn => ?_⟩
  · obtain ⟨w, -, hw⟩ := heach n (mem_channelsOf.2 ⟨n.isLt, hn⟩)
    exact KeepsEntry.mono (reportCh_loads n 0x009 0 (feedWindow n w)).2.2 (hw.trans hend)
  · obtain ⟨w, hw, hread, hfin⟩ := hchan n (mem_channelsOf.2 ⟨n.isLt, hn⟩)
    rw [id] at hread hfin
    rw [chan_of_chans hchans, hfin, feedReturn_chan, if_pos rfl, hread, hw.leaderOf, hw.chReg]
  · rw [chan_of_chans hchans, hother n fun h => hn (mem_channelsOf.1 h).2]

/-! ### Power-fail (R57) -/

theorem free_loads (s : State) : LoadsOnly s { s with free := s.free + 1 } := .of_targets rfl rfl

theorem failChan_loads (s : State) (n : Nat) : LoadsOnly s (failChan s n) := by
  unfold failChan
  split
  · exact modChan_loads ..
  · exact (free_loads s).trans ((modChan_loads ..).trans (reportCh_loads ..).1)

theorem failChan_other (s : State) {n p : Nat} (h : p ≠ n) : (failChan s n).chan p = s.chan p := by
  unfold failChan
  split
  · rw [State.modChan_eq, State.setChan_chan, if_neg (Ne.symm h)]
  · exact (chan_of_chans (reportCh_loads ..).2.1 p).trans (by
      rw [State.modChan_eq, State.setChan_chan, if_neg (Ne.symm h)]; rfl)

theorem failChan_off (s : State) (n : Nat) :
    ((failChan s n).chan n).state = .off ∧ ((s.chan n).state ≠ .off → ((failChan s n).chan n).sw = false) := by
  unfold failChan
  split
  · next h =>
    rw [State.modChan_eq, State.setChan_chan, if_pos rfl]
    exact ⟨h, fun hn => absurd h hn⟩
  · rw [chan_of_chans (reportCh_loads ..).2.1, State.modChan_eq, State.setChan_chan, if_pos rfl]
    exact ⟨rfl, fun _ => rfl⟩

theorem failDo_loads (s : State) (o : Nat) : LoadsOnly s (failDo s o) ∧ (failDo s o).chans = s.chans := by
  unfold failDo
  split
  · exact ⟨.refl s, rfl⟩
  · exact ⟨(free_loads s).trans (changeDo_loads ..), rfl⟩

theorem failDo_other (s : State) {o p : Nat} (h : p ≠ o) : (failDo s o).dout p = s.dout p := by
  unfold failDo
  split
  · rfl
  · exact (changeDo_spec o _ _ _).2.1 p h

theorem failDo_off (s : State) (o : Nat) : ((failDo s o).dout o).state = .off := by
  unfold failDo
  split
  · next h => exact h
  · rw [(changeDo_spec o _ _ _).1]
    rfl

theorem failStr_loads (s : State) (x : Nat) :
    LoadsOnly s (failStr s x) ∧ (failStr s x).chans = s.chans ∧ (failStr s x).douts = s.douts := by
  unfold failStr
  split
  · exact ⟨modStr_loads .., rfl, rfl⟩
  · exact ⟨(free_loads s).trans (changeStr_loads ..), rfl, rfl⟩

theorem failStr_other (s : State) {x p : Nat} (h : p ≠ x) : (failStr s x).str p = s.str p := by
  unfold failStr
  split
  · simp [Ne.symm h]
  · exact (changeStr_spec x _ _ _).2.1 p h

theorem failStr_off (s : State) (x : Nat) : ((failStr s x).str x).state = .off ∧ ((failStr s x).str x).lit = false := by
  unfold failStr
  split
  · simp [Str.dark, Str.stop]
  · rw [(changeStr_spec x _ _ _).1]
    exact ⟨rfl, rfl⟩

theorem failMx_loads (s : State) (m : Nat) : LoadsOnly s (failMx s m) ∧ (failMx s m).chans = s.chans ∧
    (failMx s m).douts = s.douts ∧ (failMx s m).strs = s.strs := by
  unfold failMx
  split
  · exact ⟨modMx_loads .., rfl, rfl, rfl⟩
  · exact ⟨(free_loads s).trans (changeMx_loads ..), rfl, rfl, rfl⟩

theorem failMx_other (s : State) {m p : Nat} (h : p ≠ m) : (failMx s m).mx p = s.mx p := by
  unfold failMx
  split
  · simp [Ne.symm h]
  · exact (changeMx_spec m _ _ _).2.1 p h

theorem failMx_off (s : State) (m : Nat) : ((failMx s m).mx m).state = .off ∧ ((failMx s m).mx m).run = false := by
  unfold failMx
  split
  · simp [Mx.dark, Mx.stop]
  · rw [(changeMx_spec m _ _ _).1]
    exact ⟨rfl, rfl⟩

theorem denStopNow_objects (cause : Nat) (st : DenState) (s : State) :
    (denStopNow cause st s).chans = s.chans ∧ (denStopNow cause st s).douts = s.douts ∧ (denStopNow cause st s).strs = s.strs ∧
    (denStopNow cause st s).mxs = s.mxs := by
  unfold denStopNow
  split <;> exact ⟨rfl, rfl, rfl, rfl⟩

/-- Objects that a fold treats one by one: each is as its own step leaves it. -/
theorem foldl_range {α : Type} {read : State → Nat → α} {F : State → Nat → State} (hF : ∀ s k, LoadsOnly s (F s k))
    (ho : ∀ s k p, p ≠ k → read (F s k) p = read s p) (n : Nat) (s : State) :
    LoadsOnly s ((List.range n).foldl F s) ∧
    ∀ k < n, ∃ v, read v k = read s k ∧ read ((List.range n).foldl F s) k = read (F v k) k := by
  obtain ⟨hall, -, heach⟩ := foldl_objects LoadsOnly.refl LoadsOnly.trans read id hF ho (List.range n)
    (by rw [List.map_id]; exact List.nodup_range) s
  refine ⟨hall, fun k hk => ?_⟩
  obtain ⟨v, -, hread, hfin⟩ := heach k (List.mem_range.2 hk)
  exact ⟨v, hread, hfin⟩

/-- At power-fail every load goes off, and nothing but the loads changes (R57). -/
theorem loadsFail_spec (s : State) :
    let u := loadsFail s
    LoadsOnly s u ∧ (∀ n : Fin 176, (u.chan n).state = .off ∧ ((s.chan n).state ≠ .off → (u.chan n).sw = false)) ∧
    (∀ o : Fin 48, (u.dout o).state = .off) ∧ (∀ x : Fin 8, (u.str x).state = .off ∧ (u.str x).lit = false) ∧
    (∀ m : Fin 2, (u.mx m).state = .off ∧ (u.mx m).run = false) ∧ u.den.state ≠ .running := by
  obtain ⟨hch, hchan⟩ := foldl_range (read := State.chan) failChan_loads (fun s k p hp => failChan_other s hp) 176 s
  unfold loadsFail
  dsimp only
  generalize (List.range 176).foldl failChan s = v1 at hch hchan ⊢
  obtain ⟨hdo, hdout⟩ := foldl_range (read := State.dout) (fun s k => (failDo_loads s k).1) (fun s k p hp => failDo_other s hp) 48 v1
  have hdo1 := foldl_keeps State.chans (fun s k => (failDo_loads s k).2) (List.range 48) v1
  generalize (List.range 48).foldl failDo v1 = v2 at hdo hdout hdo1 ⊢
  obtain ⟨hst, hstr⟩ := foldl_range (read := State.str) (fun s k => (failStr_loads s k).1) (fun s k p hp => failStr_other s hp) 8 v2
  have hst1 := foldl_keeps State.chans (fun s k => (failStr_loads s k).2.1) (List.range 8) v2
  have hst2 := foldl_keeps State.douts (fun s k => (failStr_loads s k).2.2) (List.range 8) v2
  generalize (List.range 8).foldl failStr v2 = v3 at hst hstr hst1 hst2 ⊢
  obtain ⟨hm, hmx⟩ := foldl_range (read := State.mx) (fun s k => (failMx_loads s k).1) (fun s k p hp => failMx_other s hp) 2 v3
  have hm1 := foldl_keeps State.chans (fun s k => (failMx_loads s k).2.1) (List.range 2) v3
  have hm2 := foldl_keeps State.douts (fun s k => (failMx_loads s k).2.2.1) (List.range 2) v3
  have hm3 := foldl_keeps State.strs (fun s k => (failMx_loads s k).2.2.2) (List.range 2) v3
  generalize (List.range 2).foldl failMx v3 = v4 at hm hmx hm1 hm2 hm3 ⊢
  obtain ⟨hd1, hd2, hd3, hd4⟩ := denStopNow_objects 4 .stopped v4
  have hden := denStopNow_rests (cause := 4) (st := .stopped) (by decide) v4
  have hend := denStopNow_loads 4 .stopped v4
  generalize denStopNow 4 .stopped v4 = u at hd1 hd2 hd3 hd4 hden hend ⊢
  have hchans : u.chans = v1.chans := hd1.trans (hm1.trans (hst1.trans hdo1))
  have hdouts : u.douts = v2.douts := hd2.trans (hm2.trans hst2)
  have hstrs : u.strs = v3.strs := hd3.trans hm3
  refine ⟨hch.trans (hdo.trans (hst.trans (hm.trans hend))), fun n => ?_, fun o => ?_, fun x => ?_, fun m => ?_, hden⟩
  · obtain ⟨w, hread, hfin⟩ := hchan n n.isLt
    obtain ⟨hoff, hsw⟩ := failChan_off w n
    rw [chan_of_chans hchans, hfin, ← hread]
    exact ⟨hoff, hsw⟩
  · obtain ⟨w, -, hfin⟩ := hdout o o.isLt
    rw [State.dout, hdouts]
    exact (congrArg Dout.state hfin).trans (failDo_off w o)
  · obtain ⟨w, -, hfin⟩ := hstr x x.isLt
    rw [show u.str x = v3.str x by rw [State.str, hstrs, State.str], hfin]
    exact failStr_off w x
  · obtain ⟨w, -, hfin⟩ := hmx m m.isLt
    rw [show u.mx m = v4.mx m by rw [State.mx, hd4, State.mx], hfin]
    exact failMx_off w m

end Sys2Proof.Machine
end

section
/-! EXEC. Supply events (R46 to R48, R52 to R54, R56 to R59, R160). -/

namespace Sys2Proof.Machine

open Sys2Proof

/-- What an event of the supplies completes with (R85, R543). -/
def Tells (s : State) (c : Instr) (code : Nat) (a0 a1 : Word) (p : Supply) : Prop :=
  Completes c s fun u => Posts { s with sup := p } u ∧
    (Numbering s → Presented 0x17 [Word.ofN (0x100 + code), a0, a1] (.upd [] [⟨0, code, 0x9E001, a0, a1⟩]) s u)

theorem Tells.of_exec {s : State} {c : Instr} {code : Nat} {a0 a1 : Word} {p : Supply}
    (h : exec c s = .next (presentSupply code a0 a1 { s with sup := p })) : Tells s c code a0 a1 p :=
  ⟨_, h, presentSupply_tells ..⟩

/-! ### Reduced function (R47) -/

section
variable {s : State} {a b : Bool} {x : Word}

theorem reducedOn_trips {v : Supply} (hv : v = { s.sup with
      vlogA := { s.sup.vlogA with red := s.sup.vlogA.red || a }, vlogB := { s.sup.vlogB with red := s.sup.vlogB.red || b } })
    (ha : v.vlogA.red = true) (hb : v.vlogB.red = true) (hr : v.reduced = false) :
    reducedOn a b x s = presentSupply 5 x 0 { s with sup := { v with reduced := true } } := by
  subst hv
  exact if_pos (by simp only [modVlog, Bool.and_eq_true, Bool.not_eq_true']; exact ⟨⟨ha, hb⟩, hr⟩)

theorem reducedOn_stays {v : Supply} (hv : v = { s.sup with
      vlogA := { s.sup.vlogA with red := s.sup.vlogA.red || a }, vlogB := { s.sup.vlogB with red := s.sup.vlogB.red || b } })
    (h : v.vlogA.red = false ∨ v.vlogB.red = false ∨ v.reduced = true) : reducedOn a b x s = { s with sup := v } := by
  subst hv
  refine if_neg fun hn => ?_
  simp only [modVlog, Bool.and_eq_true, Bool.not_eq_true'] at hn
  obtain ⟨⟨ha, hb⟩, hr⟩ := hn
  rcases h with h | h | h
  · exact absurd (ha.symm.trans h) (by decide)
  · exact absurd (hb.symm.trans h) (by decide)
  · exact absurd (h.symm.trans hr) (by decide)

end

theorem reducedOff_ends {s : State} (f : Feed) (x : Word) (h : s.sup.reduced = true) :
    reducedOff f x s = presentSupply 6 x 0 { s with
      sup := { (if f = .a then { s.sup with vlogA := { s.sup.vlogA with red := false } }
        else { s.sup with vlogB := { s.sup.vlogB with red := false } }) with reduced := false } } := by
  cases f <;> exact if_pos h

theorem reducedOff_stays {s : State} (f : Feed) (x : Word) (h : s.sup.reduced = false) :
    reducedOff f x s = { s with
      sup := if f = .a then { s.sup with vlogA := { s.sup.vlogA with red := false } }
        else { s.sup with vlogB := { s.sup.vlogB with red := false } } } := by
  cases f <;> exact if_neg (by simp [modVlog, h])

/-! ### Power feeds (R52, R56, R160) -/

/-- The supply with feed `f` as given. -/
def Supply.feed (p : Supply) (f : Feed) (v : VpwrIn) : Supply := if f = .a then { p with vpwrA := v } else { p with vpwrB := v }

theorem modVpwr_const (f : Feed) (v : VpwrIn) (s : State) : modVpwr f (fun _ => v) s = { s with sup := s.sup.feed f v } := by
  cases f <;> rfl

/-- A feed whose event is presented, before what it does to the loads. -/
theorem feedEvent_spec (code : Nat) (f : Feed) (x : Word) (v : VpwrIn) (s : State) :
    let w := presentSupply code (feedWord f) x (modVpwr f (fun _ => v) s)
    Posts { s with sup := s.sup.feed f v } w ∧
    (Numbering s → Presented 0x17 [Word.ofN (0x100 + code), feedWord f, x] (.upd [] [⟨0, code, 0x9E001, feedWord f, x⟩]) s w) := by
  rw [modVpwr_const]
  exact presentSupply_tells ..

theorem vpwrMissing_completes (f : Feed) (x : Word) (s : State) :
    Completes (.vpwrMissing f x) s fun u =>
      u.sup = s.sup.feed f ⟨false, true⟩ ∧ u.chans = s.chans ∧ u.live = s.live ∧ u.copy = s.copy ∧ u.sram = s.sram ∧
      (∀ n : Fin 176, feedOf n = f → KeepsEntry n 0x008 u) ∧ (Numbering s → Presented 0x17 [0x00108, feedWord f, x]
        (.upd [] [⟨0, 8, 0x9E001, feedWord f, x⟩]) s u) := by
  obtain ⟨hposts, htold⟩ := feedEvent_spec 8 f x ⟨false, true⟩ s
  refine ⟨_, exec_vpwrMissing .., ?_⟩
  unfold vpwrMissing
  dsimp only
  generalize presentSupply 8 (feedWord f) x (modVpwr f (fun _ => ⟨false, true⟩) s) = w at hposts htold ⊢
  obtain ⟨hloads, hchans, hentry⟩ := feedMissing_spec f w
  generalize lgtFeedLost f ((channelsOf f).foldl (fun s n => reportCh n 0x008 0 s) w) = u at hloads hchans hentry ⊢
  refine ⟨hloads.sup.trans hposts.sup, hchans.trans ?_, hloads.live.trans ?_, ?_, ?_, hentry,
    fun hn => (htold hn).of_seq hloads.seq⟩
  · rw [hposts.1]
  · rw [hposts.1]
  · rw [hloads.1, hposts.1]
  · rw [hloads.1, hposts.1]

theorem feedOk_eq (f : Feed) (s : State) : feedOk s f = (if f = .a then s.sup.vpwrA else s.sup.vpwrB).ok := by cases f <;> rfl

theorem vpwrOk_low {f : Feed} {s : State} (x : Word) (low : Bool) (h : feedOk s f = true) :
    vpwrOk f x low s = presentSupply 9 (feedWord f) x (modVpwr f (fun _ => ⟨true, low⟩) s) := by
  unfold vpwrOk
  rw [h]
  rfl

theorem vpwrOk_returns {f : Feed} {s : State} (x : Word) (low : Bool) (h : feedOk s f = false) : vpwrOk f x low s =
    feedReturns f (mxFeedOk s) (presentSupply 9 (feedWord f) x (modVpwr f (fun _ => ⟨true, low⟩) s)) := by
  unfold vpwrOk
  rw [h]
  rfl

theorem vpwrOk_completes {f : Feed} {s : State} (x : Word) (low : Bool) (h : feedOk s f = false) :
    Completes (.vpwrOk f ⟨x, low⟩) s fun u =>
      u.sup = s.sup.feed f ⟨true, low⟩ ∧ u.live = s.live ∧ u.copy = s.copy ∧ u.sram = s.sram ∧
      (∀ n : Fin 176, feedOf n = f → KeepsEntry n 0x009 u ∧ u.chan n = (s.chan n).windowed (chReg s (leaderOf s n) 6)) ∧
      (∀ n : Nat, feedOf n ≠ f → u.chan n = s.chan n) ∧
      (Numbering s → Presented 0x17 [0x00109, feedWord f, x] (.upd [] [⟨0, 9, 0x9E001, feedWord f, x⟩]) s u) := by
  obtain ⟨hposts, htold⟩ := feedEvent_spec 9 f x ⟨true, low⟩ s
  refine ⟨_, (exec_vpwrOk ..).trans (congrArg _ (vpwrOk_returns x low h)), ?_⟩
  generalize presentSupply 9 (feedWord f) x (modVpwr f (fun _ => ⟨true, low⟩) s) = w at hposts htold ⊢
  obtain ⟨hloads, hmine, hother⟩ := feedReturns_spec f (mxFeedOk s) w
  generalize feedReturns f (mxFeedOk s) w = u at hloads hmine hother ⊢
  have hchan (n : Nat) : w.chan n = s.chan n := (hposts.chan n).trans rfl
  have hleader (n : Nat) : leaderOf w n = leaderOf s n := by rw [hposts.1]; rfl
  have hreg (n : Nat) : chReg w n 6 = chReg s n 6 := (hposts.chReg n 6).trans rfl
  refine ⟨hloads.sup.trans hposts.sup, hloads.live.trans ?_, ?_, ?_, fun n hn => ⟨(hmine n hn).1, ?_⟩,
    fun n hn => (hother n hn).trans (hchan n), fun hn => (htold hn).of_seq hloads.seq⟩
  · rw [hposts.1]
  · rw [hloads.1, hposts.1]
  · rw [hloads.1, hposts.1]
  · rw [(hmine n hn).2, hchan, hleader, hreg]

/-! ### Power-fail (R57) -/

theorem powerFail_completes {s : State} (a b : Word) (h : s.sup.powerFail = false) :
    Completes (.powerFail a b) s fun u =>
      u.sup = { s.sup with powerFail := true, vlogA := ⟨false, true⟩, vlogB := ⟨false, true⟩ } ∧
      (∀ n : Fin 176, (u.chan n).state = .off ∧ ((s.chan n).state ≠ .off → (u.chan n).sw = false)) ∧
      (∀ o : Fin 48, (u.dout o).state = .off) ∧ (∀ x : Fin 8, (u.str x).state = .off ∧ (u.str x).lit = false) ∧
      (∀ m : Fin 2, (u.mx m).state = .off ∧ (u.mx m).run = false) ∧ u.den.state ≠ .running ∧
      (∀ l : Lane, (s.lane l).role ≠ .out →
        (u.lane l).nvm.life = (s.lane l).lifeJournal ∧ (u.lane l).nvm.failImage = (s.lane l).image) ∧
      u.live = s.live ∧ u.copy = s.copy ∧ u.sram = s.sram ∧ u.cores = s.cores ∧
      (Numbering s → Presented 0x17 [0x00102, a, b] (.powerFail a b) s u) := by
  have hne : ¬ s.sup.powerFail = true := by simp [h]
  refine ⟨_, (exec_powerFail ..).trans (congrArg _ (if_neg hne)), ?_⟩
  obtain ⟨p, hp⟩ : ∃ p, p = ({ s.sup with powerFail := true, vlogA := ⟨false, true⟩, vlogB := ⟨false, true⟩ } : Supply) := ⟨_, rfl⟩
  rw [← hp]
  have hposts : Posts { s with sup := p } (present 0x17 [0x00102, a, b] (.powerFail a b) { s with sup := p }) := present_posts ..
  have htold (hn : Numbering s) : Presented 0x17 [0x00102, a, b] (.powerFail a b) s
      (present 0x17 [0x00102, a, b] (.powerFail a b) { s with sup := p }) := (present_numbered 0x17 _ _ _ (hn.sup p)).1.sup
  dsimp only
  generalize present 0x17 [0x00102, a, b] (.powerFail a b) { s with sup := p } = w at hposts htold ⊢
  obtain ⟨hloads, hchan, hdout, hstr, hmx, hden⟩ := loadsFail_spec w
  generalize loadsFail w = v at hloads hchan hdout hstr hmx hden ⊢
  have hlane (l : Lane) : v.lane l = { s.lane l with nvm := (v.lane l).nvm, startStatus := (v.lane l).startStatus } := by
    rw [hloads.lane l]
    exact (hposts.lane l).trans (by cases l <;> rfl)
  have hch (n : Nat) : w.chan n = s.chan n := (hposts.chan n).trans rfl
  refine ⟨hloads.sup.trans hposts.sup, fun n => ?_, hdout, hstr, hmx, hden, fun l hl => ?_, ?_, ?_, ?_, ?_,
    fun hn => (htold hn).of_seq hloads.seq⟩
  · obtain ⟨hoff, hsw⟩ := hchan n
    rw [hch] at hsw
    exact ⟨hoff, hsw⟩
  · have hrole : (v.lane l).role ≠ .out := by rw [hlane l]; exact hl
    have hlife : (v.lane l).lifeJournal = (s.lane l).lifeJournal := by rw [hlane l]
    have himage : (v.lane l).image = (s.lane l).image := by rw [hlane l]
    rw [State.mapLanes_lane, if_neg hrole]
    exact ⟨hlife, himage⟩
  all_goals
    simp only [State.mapLanes]
    rw [hloads.1, hposts.1]

/-! ### Low power (R59) -/

theorem lowPower_holds {s : State} (h : s.sup.aoLp = true) : lowPower s = { s with
    sup := { s.sup with aoLp := false, lpbo := true },
    pwr := { s.pwr with held := if s.pwr.held = none then some (8, 0) else s.pwr.held } } := by
  unfold lowPower raiseWake
  rw [if_pos h]
  dsimp only
  cases hh : s.pwr.held with
  | none => rfl
  | some q =>
    simp only [reduceCtorEq, if_false]
    rw [← hh]

/-- Settles O52: an event of the supplies changes its bits and is presented; the loads of a feed and of a power-fail change one by
one, and the presented input, the lanes and the registers stay as they are meanwhile. -/
theorem supplyEvents : Obligations.SupplyEvents := by
  unfold Obligations.SupplyEvents
  intro s f
  refine ⟨fun x => ⟨?_, fun red => ?_, fun a b => ⟨fun ha hb hr => ?_, fun h => ?_⟩, fun h => ?_, fun h => ?_, ?_, ?_,
    fun low h => ?_, fun low h => ?_⟩, fun a b => ⟨fun h => ?_, fun h => powerFail_completes a b h⟩, rfl, rfl, fun h => ?_, fun h => ?_⟩
  · exact Tells.of_exec ((exec_vlogLost ..).trans (by cases f <;> rfl))
  · exact Tells.of_exec ((exec_vlogBack ..).trans (by cases f <;> rfl))
  · exact Tells.of_exec ((exec_reducedOn ..).trans (congrArg _ (reducedOn_trips rfl ha hb hr)))
  · exact (exec_reducedOn ..).trans (congrArg _ (reducedOn_stays rfl h))
  · exact Tells.of_exec ((exec_reducedOff ..).trans ((congrArg _ (reducedOff_ends f x h)).trans (by cases f <;> rfl)))
  · exact (exec_reducedOff ..).trans ((congrArg _ (reducedOff_stays f x h)).trans (by cases f <;> rfl))
  · exact Tells.of_exec ((exec_vpwrLow ..).trans (by cases f <;> rfl))
  · have hc := vpwrMissing_completes f x s
    rw [feedWord_eq] at hc
    exact hc
  · have hok : feedOk s f = true := (feedOk_eq f s).trans h
    exact Tells.of_exec ((exec_vpwrOk ..).trans ((congrArg _ (vpwrOk_low x low hok)).trans (by cases f <;> rfl)))
  · have hc := vpwrOk_completes x low ((feedOk_eq f s).trans h)
    rw [feedWord_eq] at hc
    exact hc
  · exact (exec_powerFail ..).trans (congrArg _ (if_pos h))
  · exact (exec_lowPowerBrownout ..).trans (congrArg _ (if_neg (by simp [h])))
  · exact (exec_lowPowerBrownout ..).trans (congrArg _ (lowPower_holds h))

end Sys2Proof.Machine
end

section
/-! EXEC. Starts (R63, R65, R67 to R71, R73, R78, R100, R477 to R479, R558). -/

namespace Sys2Proof.Machine

open Sys2Proof

/-! ### The cold start -/

theorem exec_coldStart (va vb pa pb cal : Bool) (s : State) : exec (.coldStart va vb pa pb cal) s = .next (coldStart va vb pa pb cal s) := rfl

/-- AO power-on: the module is reset, and what the AO domain keeps begins anew. -/
def aoOn (s : State) : State :=
  let s := moduleReset 15 0 s
  { s with
    white := s.white.firstPower, black := s.black.firstPower, sup := { s.sup with lpbo := false },
    acc := { Access.reset with tokens := s.acc.tokens },
    pwr := { Pwr.reset with aLvl := s.pwr.aLvl, bLvl := s.pwr.bLvl, elapsed := s.pwr.elapsed } }

/-- The rails are up: the lanes, the supplies and the power state that a cold start leads to. -/
def railsUp (va vb pa pb cal : Bool) (s : State) : State :=
  let up := fun (g : LaneSt) =>
    { g with coreOk := true, ioOk := true, anaOk := true, startStatus := (Word.ofN 0).setBit 9 true, restarted := false }
  let a : VlogIn := ⟨va, !va || (s.sup.vlogA.ok && s.sup.vlogA.red)⟩
  let b : VlogIn := ⟨vb, !vb || (s.sup.vlogB.ok && s.sup.vlogB.red)⟩
  { s with
    white := up s.white, black := up s.black, lanes := Lanes.reset, copy := [], maintenance := false,
    fab := { s.fab with calFail := !cal },
    sup := { s.sup with
      vlogA := a, vlogB := b, vpwrA := ⟨pa, !pa || (s.sup.vpwrA.ok && s.sup.vpwrA.low)⟩,
      vpwrB := ⟨pb, !pb || (s.sup.vpwrB.ok && s.sup.vpwrB.low)⟩, reduced := a.red && b.red,
      powerFail := false, fabAna := true, fabValid := false, tilesOk := true, tileLow := [], aoOk := true, aoLp := false },
    pwr := { s.pwr with
      state := .idle, waking := false, held := none, wakeStatus := 0, parkMinutes := 0, clk := false, locked := false } }

theorem coldStart_starts {va vb pa pb cal : Bool} {s : State} (hv : (va || vb) = true) (hp : s.pwr.state ≠ .parked)
    (hd : s.pwr.state ≠ .deep) (hw : s.white.boot = .held) (hb : s.black.boot = .held) :
    coldStart va vb pa pb cal s = railsUp va vb pa pb cal (if s.sup.aoOk then s else aoOn s) := by
  have hv' : (!va && !vb) = false := by rw [← Bool.not_or, hv, Bool.not_true]
  exact if_neg (by simp [hv', hp, hd, hw, hb])

theorem railsUp_lane (va vb pa pb cal : Bool) (s : State) (l : Lane) : (railsUp va vb pa pb cal s).lane l = { s.lane l with
    coreOk := true, ioOk := true, anaOk := true, startStatus := 0x00200, restarted := false } := by
  cases l <;> rfl

theorem aoOn_lane (s : State) (l : Lane) : ((aoOn s).lane l).boot = .held ∧ ((aoOn s).lane l).resetCause = 0x08000 := by
  cases l <;> exact ⟨rfl, rfl⟩

theorem coldStart_settles (s : State) (va vb pa pb cal : Bool) :
    (va = false → vb = false → exec (.coldStart va vb pa pb cal) s = .next s) ∧
    ((va || vb) = true → s.pwr.state ≠ .parked → s.pwr.state ≠ .deep → s.white.boot = .held → s.black.boot = .held →
      Completes (.coldStart va vb pa pb cal) s fun u =>
        (∀ l : Lane, (u.lane l).coreOk = true ∧ (u.lane l).ioOk = true ∧ (u.lane l).anaOk = true ∧
          (u.lane l).startStatus = 0x00200 ∧ (u.lane l).boot = .held ∧
          (u.lane l).resetCause = (if s.sup.aoOk then (s.lane l).resetCause else 0x08000)) ∧
        u.sup = { s.sup with
          vlogA := ⟨va, !va || (s.sup.vlogA.ok && s.sup.vlogA.red)⟩, vlogB := ⟨vb, !vb || (s.sup.vlogB.ok && s.sup.vlogB.red)⟩,
          vpwrA := ⟨pa, !pa || (s.sup.vpwrA.ok && s.sup.vpwrA.low)⟩, vpwrB := ⟨pb, !pb || (s.sup.vpwrB.ok && s.sup.vpwrB.low)⟩,
          reduced := u.sup.vlogA.red && u.sup.vlogB.red,
          powerFail := false, fabAna := true, fabValid := false, tilesOk := true, tileLow := [], aoOk := true, aoLp := false,
          lpbo := s.sup.lpbo && s.sup.aoOk } ∧
        u.pwr.state = .idle ∧ u.fab.calFail = !cal ∧ u.lanes = Lanes.reset ∧
        (s.sup.aoOk = false → u.pwr.retention = [] ∧ u.pwr.banksOk = 0 ∧ u.pwr.rtc = 0 ∧ u.acc.latch = [] ∧ u.acc.handles = [] ∧
          u.upd = Upd.reset)) := by
  refine ⟨fun ha hb => (exec_coldStart ..).trans (congrArg _ ?_), fun hv hp hd hw hb =>
    .of_next ((exec_coldStart ..).trans (congrArg _ (coldStart_starts hv hp hd hw hb))) ?_⟩
  · subst ha hb
    unfold coldStart
    exact if_pos (by simp)
  · have hheld : ∀ l, (s.lane l).boot = .held := fun | .white => hw | .black => hb
    cases hao : s.sup.aoOk with
    | true =>
      rw [if_pos rfl]
      refine ⟨fun l => ?_, ?_, rfl, rfl, rfl, fun h => absurd h (by decide)⟩
      · rw [railsUp_lane]
        exact ⟨rfl, rfl, rfl, rfl, hheld l, rfl⟩
      · rw [Bool.and_true]
        rfl
    | false =>
      rw [if_neg Bool.false_ne_true]
      refine ⟨fun l => ?_, ?_, rfl, rfl, rfl, fun _ => ⟨rfl, rfl, rfl, rfl, rfl, rfl⟩⟩
      · obtain ⟨hboot, hcause⟩ := aoOn_lane s l
        rw [railsUp_lane]
        exact ⟨rfl, rfl, rfl, rfl, hboot, hcause⟩
      · rw [Bool.and_false]
        rfl

end Sys2Proof.Machine
end

section
/-! EXEC. The boot of a lane: its release, the lock of its clock and the check of its image (R63, R65, R70, R478, R479). -/

namespace Sys2Proof.Machine

open Sys2Proof

/-! ### The release of a lane -/

theorem exec_laneResetRelease (l : Lane) (s : State) : exec (.laneResetRelease l) s = .next (resetRelease l s) := rfl

/-- The lane as its release leaves it, with the supplies of the analogue fabric. -/
def released (l : Lane) (s : State) : State :=
  { s.modLane l fun g => { g with boot := .code, coreOk := true, ioOk := true, anaOk := true } with
    sup := { s.sup with fabAna := true } }

theorem released_lane (l : Lane) (s : State) :
    (released l s).lane l = { s.lane l with boot := .code, coreOk := true, ioOk := true, anaOk := true } := by cases l <;> rfl

theorem released_other (l : Lane) (s : State) : (released l s).lane (otherLane l) = s.lane (otherLane l) := by cases l <;> rfl

theorem released_mayJoin (l : Lane) (s : State) : mayJoin (released l s) l = mayJoin s l := by cases l <;> rfl

theorem resetRelease_eq {l : Lane} {s : State} (hb : (s.lane l).boot = .held) (hm : mayBoot s = true) :
    resetRelease l s = if mayJoin s l then enterStage l 1 (released l s) else released l s := by
  unfold resetRelease
  rw [if_neg (by simp [hb, hm])]
  have hsup (t : State) (ht : t.sup = s.sup) : { t with sup := { t.sup with fabAna := true } } =
      { t with sup := { s.sup with fabAna := true } } := by rw [ht]
  have h := hsup (s.modLane l fun g => { g with boot := .code, coreOk := true, ioOk := true, anaOk := true }) (by cases l <;> rfl)
  dsimp only
  rw [h]
  change (if mayJoin (released l s) l = true then enterStage l 1 (released l s) else released l s) = _
  rw [released_mayJoin]

/-- Entering a joining stage sets the lane's role and stage, and presents the record of it. -/
theorem enterStage_posts (l : Lane) (stage : Nat) (s : State) :
    Posts (s.modLane l fun g => { g with role := .joining, joinStage := stage, probation := 0, cutOver := none }) (enterStage l stage s) :=
  present_posts ..

theorem enterStage_lane (l : Lane) (stage : Nat) (s : State) :
    ((enterStage l stage s).lane l).boot = (s.lane l).boot ∧ ((enterStage l stage s).lane l).role = .joining ∧
    ((enterStage l stage s).lane l).joinStage = stage ∧
    ((enterStage l stage s).lane (otherLane l)).role = (s.lane (otherLane l)).role := by
  have hposts := enterStage_posts l stage s
  have hown := hposts.lane l
  have hother := hposts.lane (otherLane l)
  rw [modLane_same] at hown
  rw [modLane_other] at hother
  rw [hown, hother]
  exact ⟨rfl, rfl, rfl, rfl⟩

theorem laneResetRelease_settles (s : State) (l : Lane) :
    ((s.lane l).boot ≠ .held → exec (.laneResetRelease l) s = .next s) ∧
    ((s.lane l).boot = .held → mayBoot s = true → mayJoin s l = false → exec (.laneResetRelease l) s =
      .next { s.setLane l { s.lane l with boot := .code, coreOk := true, ioOk := true, anaOk := true } with
        sup := { s.sup with fabAna := true } }) ∧
    ((s.lane l).boot = .held → (s.lane l).role = .out → mayBoot s = true → mayJoin s l = true →
      Completes (.laneResetRelease l) s fun u =>
        (u.lane l).boot = .code ∧ (u.lane l).role = .joining ∧ (u.lane l).joinStage = 1 ∧
        (u.lane (otherLane l)).role = (s.lane (otherLane l)).role) := by
  refine ⟨fun hb => (exec_laneResetRelease ..).trans (congrArg _ (if_pos (.inl hb))), fun hb hm hj =>
    (exec_laneResetRelease ..).trans (congrArg _ ((resetRelease_eq hb hm).trans (if_neg (by simp [hj])))), fun hb _ hm hj =>
    .of_next ((exec_laneResetRelease ..).trans (congrArg _ ((resetRelease_eq hb hm).trans (if_pos hj)))) ?_⟩
  obtain ⟨hboot, hrole, hstage, hother⟩ := enterStage_lane l 1 (released l s)
  rw [released_lane] at hboot
  rw [released_other] at hother
  exact ⟨hboot, hrole, hstage, hother⟩

/-! ### The lock of the clock -/

theorem exec_pllLocked (l : Lane) (s : State) : exec (.pllLocked l) s = .next (pllLocked l s) := rfl

theorem pllLocked_settles (s : State) (l : Lane) :
    ((s.lane l).boot ≠ .held → (s.lane l).pll = false → s.seq.running = false → exec (.pllLocked l) s =
      .next (s.setLane l { s.lane l with pll := true, clk250 := !(s.pwr.waking && s.pwr.banksOk.getLsbD 0) })) ∧
    ((s.lane l).boot = .held ∨ (s.lane l).pll = true → exec (.pllLocked l) s = .next s) ∧
    ((s.lane l).boot ≠ .held → (s.lane l).pll = false → s.seq.running = true → s.pwr.clk = false → s.pwr.locked = false →
      Completes (.pllLocked l) s fun u =>
        let v := s.setLane l { s.lane l with pll := true, clk250 := false }
        Posts v u ∧ (Numbering v → Presented 0x17 [0x00109] .locked v u)) := by
  refine ⟨fun hb hp hr => (exec_pllLocked ..).trans (congrArg _ ?_),
    fun h => (exec_pllLocked ..).trans (congrArg _ (if_pos h)), fun hb hp hr hc hk =>
      .of_present ((exec_pllLocked ..).trans (congrArg _ ?_))⟩
  · unfold pllLocked
    rw [if_neg (by simp [hb, hp])]
    simp [hr]
  · unfold pllLocked
    rw [if_neg (by simp [hb, hp])]
    simp [hr, hc, hk]

/-! ### The check of the image -/

theorem exec_imageVerified (l : Lane) (act fb : Bool) (s : State) : exec (.imageVerified l act fb) s = .next (imageVerified l act fb s) :=
  rfl

section
variable {s : State} {l : Lane} {act fb : Bool} (hb : (s.lane l).boot = .code)
include hb

theorem imageVerified_active {i : Image} (ha : (act || recordMatches s (s.lane l)) = true)
    (hi : (s.lane l).nvm.fw.active = some i) (hu : unconfirmed s (s.lane l) = false) : imageVerified l act fb s =
      s.setLane l { s.lane l with boot := .image, slot := 0, imgFail := false, imageId := i.ident } := by
  unfold imageVerified
  rw [if_neg (not_not.2 hb), if_pos (by simp [ha, hi, hu]), modLane_eq]
  simp only [hi, Option.map_some, Option.getD_some]

theorem imageVerified_fallback {j : Image}
    (hf : ((act || recordMatches s (s.lane l)) && (s.lane l).nvm.fw.active.isSome && !unconfirmed s (s.lane l)) = false)
    (hfb : fb = true) (hj : (s.lane l).nvm.fw.fallback = some j) : imageVerified l act fb s = fallbackRecord l
      (s.setLane l { s.lane l with boot := .image, slot := 1, imgFail := true, imageId := j.ident }) := by
  unfold imageVerified
  rw [if_neg (not_not.2 hb), if_neg (by simp only [hf]; exact Bool.false_ne_true), if_pos (by simp [hfb, hj]), modLane_eq]
  simp only [hj, Option.map_some, Option.getD_some]

theorem imageVerified_none (ha : act = false) (hr : recordMatches s (s.lane l) = false) (hfb : fb = false) :
    imageVerified l act fb s = heldOut l .stuck (s.modLane l fun g => { g with imgFail := true }) := by
  unfold imageVerified
  rw [if_neg (not_not.2 hb), if_neg (by simp [ha, hr]), if_neg (by simp [hfb])]

end

/-- A lane that is held out of service: its start status alone changes with its role, stage and boot. -/
theorem heldOut_lane (l : Lane) (boot : Boot) (s : State) : (heldOut l boot s).lane l = { s.lane l with
    role := .out, joinStage := 0, boot := boot, startStatus := ((heldOut l boot s).lane l).startStatus } := by cases l <;> rfl

theorem heldOut_other (l : Lane) (boot : Boot) (s : State) : (heldOut l boot s).lane (otherLane l) = s.lane (otherLane l) := by
  cases l <;> rfl

theorem unconfirmed_of {s : State} {g : LaneSt} {i : Image} (hi : g.nvm.fw.active = some i) :
    unconfirmed s g = (!g.restarted && !s.pwr.waking && !i.confirmed) := by simp [unconfirmed, hi]

theorem imageVerified_settles (s : State) (l : Lane) (act fb : Bool) (i j : Image) (hb : (s.lane l).boot = .code) :
    (act = true ∨ recordMatches s (s.lane l) = true → (s.lane l).nvm.fw.active = some i →
      i.confirmed = true ∨ (s.lane l).restarted = true ∨ s.pwr.waking = true →
      exec (.imageVerified l act fb) s =
        .next (s.setLane l { s.lane l with boot := .image, slot := 0, imgFail := false, imageId := i.ident })) ∧
    ((act = false ∧ recordMatches s (s.lane l) = false) ∨
        ((s.lane l).nvm.fw.active = some i ∧ i.confirmed = false ∧ (s.lane l).restarted = false ∧ s.pwr.waking = false) →
      fb = true → (s.lane l).nvm.fw.fallback = some j → Completes (.imageVerified l act fb) s fun u =>
        Posts (s.setLane l { s.lane l with boot := .image, slot := 1, imgFail := true, imageId := j.ident }) u) ∧
    (act = false → recordMatches s (s.lane l) = false → fb = false → Completes (.imageVerified l act fb) s fun u =>
      (u.lane l).boot = .stuck ∧ (u.lane l).role = .out ∧ (u.lane l).imgFail = true ∧ u.lane (otherLane l) = s.lane (otherLane l)) := by
  refine ⟨fun ha hi hc => (exec_imageVerified ..).trans (congrArg _ (imageVerified_active hb (by simpa using ha) hi ?_)),
    fun h hfb hj => .of_next ((exec_imageVerified ..).trans (congrArg _ (imageVerified_fallback hb ?_ hfb hj))) (present_posts ..),
    fun ha hr hfb => .of_next ((exec_imageVerified ..).trans (congrArg _ (imageVerified_none hb ha hr hfb))) ?_⟩
  · rw [unconfirmed_of hi]
    rcases hc with hc | hc | hc <;> simp [hc]
  · rcases h with ⟨ha, hr⟩ | ⟨hi, hc, hr, hw⟩
    · simp [ha, hr]
    · rw [unconfirmed_of hi]
      simp [hc, hr, hw]
  · rw [heldOut_lane, heldOut_other, modLane_same, modLane_other]
    exact ⟨rfl, rfl, rfl, rfl⟩

end Sys2Proof.Machine
end

section
/-! EXEC. The configuration that a lane takes at M10 or K10 (R65, R71, R470, R478): what it reads. -/

namespace Sys2Proof.Machine

open Sys2Proof

/-! ### The lanes themselves, and PWR_WAKE_CTL, while a configuration is applied -/

/-- What a configuration leaves: the state of each lane. -/
def State.bothLanes (s : State) : LaneSt × LaneSt := (s.white, s.black)

theorem State.bothLanes_of {s u : State} (hw : u.white = s.white) (hb : u.black = s.black) : u.bothLanes = s.bothLanes :=
  Prod.ext hw hb

theorem State.lane_of_bothLanes {s u : State} (h : u.bothLanes = s.bothLanes) (l : Lane) : u.lane l = s.lane l := by
  obtain ⟨hw, hb⟩ := Prod.mk.inj h
  cases l <;> assumption

/-- Every step of a loop over members of a list keeps what is read. -/
theorem foldl_keeps_mem {α ι : Type} {F : State → ι → State} (read : State → α) (ks : List ι)
    (hF : ∀ s, ∀ k ∈ ks, read (F s k) = read s) (s : State) : read (ks.foldl F s) = read s := by
  induction ks generalizing s with
  | nil => rfl
  | cons k ks ih => exact (ih (fun s j hj => hF s j (List.mem_cons_of_mem k hj)) _).trans (hF s k List.mem_cons_self)

theorem setCopy_lanes (a : Nat) (v : Word) (s : State) : (s.setCopy a v).bothLanes = s.bothLanes := State.bothLanes_of rfl rfl

theorem setCopies_lanes (ps : List (Nat × Word)) (s : State) : (s.setCopies ps).bothLanes = s.bothLanes :=
  foldl_keeps State.bothLanes (fun _ _ => setCopy_lanes ..) ps s

theorem setCopies_copyReg {ps : List (Nat × Word)} {a : Nat} (h : ∀ p ∈ ps, p.1 ≠ a) (s : State) :
    (s.setCopies ps).copyReg a = s.copyReg a :=
  foldl_keeps_mem (fun u => u.copyReg a) ps (fun _ p hp => (State.setCopy_copyReg ..).trans (if_neg (h p hp))) s

theorem tokenCopy_lanes (s : State) : (tokenCopy s).bothLanes = s.bothLanes := setCopies_lanes ..

theorem tokenCopy_copyReg {a : Nat} (h : 0x88020 ≤ a) (s : State) : (tokenCopy s).copyReg a = s.copyReg a :=
  setCopies_copyReg (fun p hp => by
    have := (List.mem_filter.1 hp).2
    simp only [Bool.and_eq_true, decide_eq_true_eq] at this
    omega) s

/-- Loading programs and choosing what each core runs touches the cores alone. -/
theorem setCoreKinds_keeps {α : Type} (read : State → α) (hread : ∀ s c f, read (s.modCore c f) = read s) (i : ConfigImage) (s : State) :
    read (setCoreKinds i s) = read s := by
  refine (foldl_keeps read (fun s c => ?_) _ _).trans ?_
  · split
    · rfl
    · exact hread ..
  · exact foldl_keeps read (fun s p => hread ..) _ s

theorem setCoreKinds_lanes (i : ConfigImage) (s : State) : (setCoreKinds i s).bothLanes = s.bothLanes :=
  setCoreKinds_keeps State.bothLanes (fun _ _ _ => State.bothLanes_of rfl rfl) i s

theorem setCoreKinds_copyReg (i : ConfigImage) (a : Nat) (s : State) : (setCoreKinds i s).copyReg a = s.copyReg a :=
  setCoreKinds_keeps (fun s => s.copyReg a) (fun _ _ _ => rfl) i s

theorem tableWrite_frame (a : Nat) (v : Word) (s : State) : tableWrite a v s = { s with shadow := (tableWrite a v s).shadow } := by
  unfold tableWrite
  generalize (a - 0x9B000) % 0xC0 = off
  dsimp only
  split <;> rfl

theorem configReg_lanes (a : Nat) (v : Word) (s : State) :
    (configReg a v s).white = s.white ∧ (configReg a v s).black = s.black ∧ (configReg a v s).pwr = s.pwr := by
  unfold configReg
  dsimp only
  split
  · rw [tableWrite_frame]
    exact ⟨rfl, rfl, rfl⟩
  · repeat' split
    all_goals exact ⟨rfl, rfl, rfl⟩

theorem loadConfig_lanes (i : ConfigImage) (s : State) : (loadConfig i s).bothLanes = s.bothLanes :=
  (tokenCopy_lanes _).trans ((setCoreKinds_lanes i _).trans (foldl_keeps State.bothLanes
    (fun s _ => State.bothLanes_of (configReg_lanes _ _ s).1 (configReg_lanes _ _ s).2.1) _ _))

/-- PWR_WAKE_CTL takes the value that the image lists for it alone. -/
theorem loadConfig_wakeCtl {i : ConfigImage} {v : Word} (hi : i.regs = [(0x9E006, v)]) (s : State) :
    (loadConfig i s).copyReg 0x9E006 = regWrite 0x9E006 (s.copyReg 0x9E006) v := by
  refine (tokenCopy_copyReg (by decide) _).trans ((setCoreKinds_copyReg i _ _).trans ?_)
  rw [hi, List.foldl_cons, List.foldl_nil, if_neg (by simp)]
  exact (State.setCopy_copyReg ..).trans (if_pos rfl)

theorem wireWarn_lanes (n : Nat) (was : Bool) (s : State) :
    (wireWarn n was s).bothLanes = s.bothLanes ∧ (wireWarn n was s).copy = s.copy := by
  rw [(wireWarn_only n was s).1]
  exact ⟨State.bothLanes_of rfl rfl, rfl⟩

theorem startWire_lanes (n : Nat) (s : State) : (startWire n s).bothLanes = s.bothLanes ∧ (startWire n s).copy = s.copy := by
  unfold startWire
  dsimp only
  split
  · exact wireWarn_lanes ..
  · exact ⟨State.bothLanes_of rfl rfl, rfl⟩

theorem restoreRegs_lanes (t : Nat) (s : State) : (restoreRegs t s).bothLanes = s.bothLanes := by
  refine foldl_keeps State.bothLanes (fun s a => ?_) _ s
  dsimp only
  split <;> exact State.bothLanes_of rfl rfl

theorem restoreRegs_copyReg {t a : Nat} (h : configOf t a = false) (s : State) : (restoreRegs t s).copyReg a = s.copyReg a := by
  refine foldl_keeps_mem (fun s => s.copyReg a) _ (fun u b hb => ?_) s
  have hba : b ≠ a := by
    rintro rfl
    exact Bool.false_ne_true (h.symm.trans (List.mem_filter.1 hb).2)
  dsimp only
  split
  · rfl
  · exact (State.setCopy_copyReg ..).trans (if_neg hba)

/-- Below the buses, a target's restoring ends with the wire models of a tile. -/
theorem restoreTarget_lanes {t : Nat} (ht : t < 15) (s : State) : (restoreTarget t s).bothLanes = s.bothLanes := by
  have hregs := restoreRegs_lanes t s
  unfold restoreTarget
  generalize restoreRegs t s = v at hregs ⊢
  dsimp only
  rw [if_neg (c := 15 ≤ t ∧ t < 43) (by omega)]
  split
  · exact (foldl_keeps State.bothLanes (fun s k => (startWire_lanes _ s).1) _ _).trans hregs
  · exact hregs

theorem restoreTarget_copyReg {t a : Nat} (ht : t < 15) (h : configOf t a = false) (s : State) :
    (restoreTarget t s).copyReg a = s.copyReg a := by
  have hregs := restoreRegs_copyReg h s
  unfold restoreTarget
  generalize restoreRegs t s = v at hregs ⊢
  dsimp only
  rw [if_neg (c := 15 ≤ t ∧ t < 43) (by omega)]
  split
  · exact (congrArg (fun m => Sparse.get regReset m a) (foldl_keeps State.copy (fun s k => (startWire_lanes _ s).2) _ v)).trans hregs
  · exact hregs

/-! ### What a wake restores -/

theorem restoreChan_lanes (n : Nat) (s : State) : (restoreChan n s).bothLanes = s.bothLanes := by
  unfold restoreChan
  dsimp only
  repeat' split
  all_goals exact State.bothLanes_of rfl rfl

theorem restoreBankZero_lanes (s : State) : (restoreBankZero s).bothLanes = s.bothLanes :=
  State.bothLanes_of (congrArg Prod.fst (setCopies_lanes ..)) (congrArg Prod.snd (setCopies_lanes ..))

theorem restoreBank_lanes (b : Nat) (s : State) : (restoreBank b s).bothLanes = s.bothLanes := by
  refine foldl_keeps State.bothLanes (fun s p => ?_) _ s
  exact State.bothLanes_of rfl rfl

/-- The good banks return to the lanes' copy. -/
def restoreBanks (s : State) : State :=
  [1, 2, 3, 4, 5, 6, 7].foldl (fun s b => if s.pwr.banksOk.getLsbD b then restoreBank b s else s)
    (if s.pwr.banksOk.getLsbD 0 then restoreBankZero s else s)

theorem restoreBanks_lanes (s : State) : (restoreBanks s).bothLanes = s.bothLanes := by
  refine (foldl_keeps State.bothLanes (fun s b => ?_) _ _).trans ?_
  · split
    · exact restoreBank_lanes b s
    · rfl
  · split
    · exact restoreBankZero_lanes s
    · rfl

/-- The registers of the sleeping tiles stand for the lanes' copy. -/
def showSleeping (s : State) : State :=
  let s := s.pwr.sleeping.foldl (fun s t => (s.clearCopy (tileRange t).1).clearCopy (tileRange t).2) s
  (s.live.filter fun p => ofSleepingTile s p.1).foldl (fun s p => s.setCopy p.1 p.2) s

theorem showSleeping_lanes (s : State) : (showSleeping s).bothLanes = s.bothLanes := by
  refine (foldl_keeps State.bothLanes (fun s p => ?_) _ _).trans (foldl_keeps State.bothLanes (fun s t => ?_) _ s)
  all_goals exact State.bothLanes_of rfl rfl

/-- The slots do not run again where their bank is lost. -/
def stopSlots (s : State) : State :=
  if s.pwr.banksOk.getLsbD 5 then s
  else (List.range 16).foldl (fun s k => s.setCopy (sigAddr k 0) ((s.copyReg (sigAddr k 0)).put 19 18 0)) s

theorem stopSlots_lanes (s : State) : (stopSlots s).bothLanes = s.bothLanes := by
  unfold stopSlots
  split
  · rfl
  · exact foldl_keeps State.bothLanes (fun s k => setCopy_lanes ..) _ s

/-- A tile that was not asleep takes its registers, and its channels what was kept of them. -/
def restoreTile (s : State) (t : Nat) : State :=
  if s.pwr.sleeping.contains t then s
  else (List.range 16).foldl (fun s k => restoreChan (16 * t + k) s) (restoreTarget t s)

theorem restoreTile_lanes {t : Nat} (ht : t < 15) (s : State) : (restoreTile s t).bothLanes = s.bothLanes := by
  unfold restoreTile
  split
  · rfl
  · exact (foldl_keeps State.bothLanes (fun s k => restoreChan_lanes _ s) _ _).trans (restoreTarget_lanes ht s)

theorem restoreRetained_eq (s : State) :
    restoreRetained s = (List.range 11).foldl restoreTile (stopSlots (showSleeping (restoreBanks s))) := rfl

theorem restoreRetained_lanes (s : State) : (restoreRetained s).bothLanes = s.bothLanes := by
  rw [restoreRetained_eq]
  refine (foldl_keeps_mem State.bothLanes _ (fun s t ht => restoreTile_lanes ?_ s) _).trans
    ((stopSlots_lanes _).trans ((showSleeping_lanes _).trans (restoreBanks_lanes s)))
  have := List.mem_range.1 ht
  omega

/-! ### The configuration as a whole -/

theorem applyConfig_lanes (i : ConfigImage) (s : State) : (applyConfig i s).bothLanes = s.bothLanes := by
  have hload := loadConfig_lanes i s
  unfold applyConfig
  generalize loadConfig i s = v at hload ⊢
  refine (foldl_keeps_mem State.bothLanes _ (fun s t ht => restoreTarget_lanes ?_ s) _).trans ?_
  · simp only [fioT, lgtT, accT, denT, List.mem_cons, List.not_mem_nil, or_false] at ht
    omega
  · split
    · exact (restoreRetained_lanes v).trans hload
    · exact (foldl_keeps_mem State.bothLanes _ (fun s t ht => restoreTarget_lanes (by have := List.mem_range.1 ht; omega) s) _).trans hload

theorem configOf_wakeCtl {t : Nat} (ht : t < 15) : configOf t 0x9E006 = false := by
  have h : ∀ t : Fin 15, configOf t 0x9E006 = false := by decide
  exact h ⟨t, ht⟩

theorem setCopies_pwr (ps : List (Nat × Word)) (s : State) : (s.setCopies ps).pwr = s.pwr := by
  refine foldl_keeps State.pwr (fun s p => ?_) ps s
  rfl

theorem loadConfig_pwr (i : ConfigImage) (s : State) : (loadConfig i s).pwr = s.pwr :=
  (setCopies_pwr ..).trans ((setCoreKinds_keeps State.pwr (fun _ _ _ => rfl) i _).trans
    (foldl_keeps State.pwr (fun s _ => (configReg_lanes _ _ s).2.2) _ _))

theorem applyConfig_wakeCtl {i : ConfigImage} {v : Word} {s : State} (hw : s.pwr.waking = false) (hi : i.regs = [(0x9E006, v)]) :
    (applyConfig i s).copyReg 0x9E006 = regWrite 0x9E006 (s.copyReg 0x9E006) v := by
  have hload := loadConfig_wakeCtl hi s
  have hpwr := loadConfig_pwr i s
  unfold applyConfig
  generalize loadConfig i s = u at hload hpwr ⊢
  dsimp only
  rw [hpwr, hw, if_neg Bool.false_ne_true]
  have hkeep {ts : List Nat} (hts : ∀ t ∈ ts, t < 15) (s : State) :
      (ts.foldl (fun s t => restoreTarget t s) s).copyReg 0x9E006 = s.copyReg 0x9E006 :=
    foldl_keeps_mem (fun s => s.copyReg 0x9E006) ts (fun s t ht => restoreTarget_copyReg (hts t ht) (configOf_wakeCtl (hts t ht)) s) s
  exact (hkeep (by decide) _).trans ((hkeep (by decide) _).trans hload)

end Sys2Proof.Machine
end

section
/-! EXEC. The configuration at M10 or K10, and the meeting of the lanes at M11 (R65 to R71, R100, R477). -/

namespace Sys2Proof.Machine

open Sys2Proof

/-! ### The configuration of a lane -/

theorem exec_configApplied (l : Lane) (ok : Bool) (i : ConfigImage) (s : State) :
    exec (.configApplied l ok i) s = .next (configApplied l ok i s) := rfl

/-- The lane waits at M11, with the image taken by its port or refused. -/
def waiting (ok : Bool) (i : ConfigImage) (g : LaneSt) : LaneSt :=
  { (if ok then portConfig i g else { g with cfgDefault := true }) with boot := .waiting }

theorem waiting_image (i : ConfigImage) (g : LaneSt) :
    (waiting true i g).boot = .waiting ∧ (waiting true i g).cfgDefault = false ∧ (waiting true i g).cfgImage = some i ∧
    (waiting true i g).cfgDigest = i.digest ∧ (waiting true i g).startBlack = i.startBlack := ⟨rfl, rfl, rfl, rfl, rfl⟩

theorem waiting_keeps (ok : Bool) (i : ConfigImage) (g : LaneSt) :
    (waiting ok i g).role = g.role ∧ (waiting ok i g).stale = g.stale ∧ (waiting ok i g).restarted = g.restarted := by
  cases ok <;> exact ⟨rfl, rfl, rfl⟩

theorem activeLane_waiting (ok : Bool) (i : ConfigImage) (l : Lane) (s : State) :
    activeLane (s.setLane l (waiting ok i (s.lane l))) = activeLane s :=
  laneIn_setLane s l _ .active (waiting_keeps ..).1 (waiting_keeps ..).2.1

theorem setLane_lanes (s : State) (l : Lane) (g : LaneSt) : (s.setLane l g).lanes = s.lanes := by cases l <;> rfl

theorem setLane_copyReg (s : State) (l : Lane) (g : LaneSt) (a : Nat) : (s.setLane l g).copyReg a = s.copyReg a := by cases l <;> rfl

theorem setLane_pwr (s : State) (l : Lane) (g : LaneSt) : (s.setLane l g).pwr = s.pwr := by cases l <;> rfl

theorem startsAlone {s v : State} {l : Lane} (h : v.lanes = s.lanes) : ({ v with lanes := { v.lanes with start := some l, solo := true } } : State) =
    { v with lanes := { s.lanes with start := some l, solo := true } } := by rw [h]

section
variable {l : Lane} {ok : Bool} {i : ConfigImage} {s : State} (hb : (s.lane l).boot = .image) (ha : activeLane s = none)
include hb ha

/-- Where no lane is active, the lane waits; a restarted one, or the shared registers, may go on from there. -/
theorem configApplied_eq : configApplied l ok i s =
    let c := ok && configOk i
    let v := s.setLane l (waiting c i (s.lane l))
    if s.lanes.start.isSome then v
    else if (s.lane l).restarted then
      if c then { v with lanes := { s.lanes with start := some l, solo := true } } else heldOut l .started v
    else if c then applyConfig i v else v := by
  have hactive := activeLane_waiting (ok && configOk i) i l s
  have hlanes := setLane_lanes s l (waiting (ok && configOk i) i (s.lane l))
  have hrestart : ((s.setLane l (waiting (ok && configOk i) i (s.lane l))).lane l).restarted = (s.lane l).restarted := by
    rw [State.setLane_lane, if_pos rfl, (waiting_keeps ..).2.2]
  unfold configApplied
  dsimp only
  rw [if_neg (not_not.2 hb)]
  change (match activeLane (s.setLane l (waiting (ok && configOk i) i (s.lane l))) with
    | some _ => _
    | none => _) = _
  rw [hactive, ha]
  change (if (s.setLane l (waiting (ok && configOk i) i (s.lane l))).lanes.start.isSome = true then _
    else if ((s.setLane l (waiting (ok && configOk i) i (s.lane l))).lane l).restarted = true then _ else _) = _
  rw [hlanes, hrestart]
  exact if_congr Iff.rfl rfl (if_congr Iff.rfl (if_congr Iff.rfl (startsAlone hlanes) rfl) rfl)

theorem configApplied_settles :
    ((s.lane l).restarted = false → exec (.configApplied l false i) s =
      .next (s.setLane l { s.lane l with cfgDefault := true, boot := .waiting })) ∧
    (configOk i = false → exec (.configApplied l true i) s = exec (.configApplied l false i) s) ∧
    ((s.lane l).restarted = false → configOk i = true → s.lanes.start = none → Completes (.configApplied l true i) s fun u =>
      (u.lane l).boot = .waiting ∧ (u.lane l).cfgDefault = false ∧ (u.lane l).cfgImage = some i ∧
      (u.lane l).cfgDigest = i.digest ∧ (u.lane l).startBlack = i.startBlack ∧ u.lane (otherLane l) = s.lane (otherLane l) ∧
      (∀ v : Word, s.pwr.waking = false → i.regs = [(0x9E006, v)] →
        u.copyReg 0x9E006 = regWrite 0x9E006 (s.copyReg 0x9E006) v)) ∧
    ((s.lane l).restarted = true → configOk i = true → s.lanes.start = none → Completes (.configApplied l true i) s fun u =>
      (u.lane l).boot = .waiting ∧ u.lanes = { s.lanes with start := some l, solo := true } ∧ u.chans = s.chans ∧
      u.copy = s.copy) := by
  refine ⟨fun hr => ?_, fun hok => ?_, fun hr hok hs => ?_, fun hr hok hs => ?_⟩
  · rw [exec_configApplied, configApplied_eq hb ha, hr]
    exact congrArg _ (ite_self _)
  · rw [exec_configApplied, exec_configApplied, configApplied_eq hb ha, configApplied_eq hb ha, hok, Bool.and_false, Bool.and_false]
  · refine .of_next ((exec_configApplied ..).trans (congrArg _ (configApplied_eq hb ha))) ?_
    rw [hs, hr, hok]
    rw [if_neg (by simp), if_neg (by simp), if_pos (by simp)]
    rw [Bool.and_true]
    generalize hv : s.setLane l (waiting true i (s.lane l)) = v
    have hlane := State.lane_of_bothLanes (applyConfig_lanes i v)
    have hown : v.lane l = waiting true i (s.lane l) := by rw [← hv, State.setLane_lane, if_pos rfl]
    have hother : v.lane (otherLane l) = s.lane (otherLane l) := by
      rw [← hv, State.setLane_lane, if_neg (Ne.symm (otherLane_ne l))]
    obtain ⟨hboot, hdefault, himage, hdigest, hblack⟩ := waiting_image i (s.lane l)
    have hpwr : v.pwr = s.pwr := by rw [← hv, setLane_pwr]
    have hcopy : v.copyReg 0x9E006 = s.copyReg 0x9E006 := by rw [← hv, setLane_copyReg]
    rw [hlane l, hlane (otherLane l), hown, hother]
    refine ⟨hboot, hdefault, himage, hdigest, hblack, rfl, fun w hw hi => ?_⟩
    rw [← hpwr] at hw
    rw [← hcopy]
    exact applyConfig_wakeCtl hw hi
  · refine .of_next ((exec_configApplied ..).trans (congrArg _ (configApplied_eq hb ha))) ?_
    rw [hs, hr, hok]
    have hboot : ((s.setLane l (waiting true i (s.lane l))).lane l).boot = .waiting := by
      rw [State.setLane_lane, if_pos rfl]
      rfl
    exact ⟨by cases l <;> exact hboot, rfl, by cases l <;> rfl, by cases l <;> rfl⟩

end

end Sys2Proof.Machine
end

section
/-! EXEC. M11: the epoch, the lane that starts, and the lane that is held out (R67 to R71, R477). -/

namespace Sys2Proof.Machine

open Sys2Proof

/-! ### The epoch -/

/-- The epoch that a start without a wake begins (R67, R68). -/
def nextEpoch (s : State) : Nat := min (max s.white.nvm.epoch s.black.nvm.epoch + 1) 0xFFFFF

/-- A lane as the advance of the epoch leaves it: one that has reached M11 journals it. -/
def LaneSt.withEpoch (e : Nat) (g : LaneSt) : LaneSt :=
  let g := if g.boot = .waiting then { g with nvm := { g.nvm.programmed with epoch := e } } else g
  { g with startStatus := g.startStatus.setBit 8 (decide (e = 0xFFFFF)) }

theorem LaneSt.withEpoch_waiting {e : Nat} {g : LaneSt} (h : g.boot = .waiting) : (g.withEpoch e).nvm.epoch = e := by
  simp only [LaneSt.withEpoch, h, if_true]

theorem LaneSt.withEpoch_other {e : Nat} {g : LaneSt} (h : g.boot ≠ .waiting) :
    g.withEpoch e = { g with startStatus := (g.withEpoch e).startStatus } := by
  simp only [LaneSt.withEpoch, h, if_false]

theorem LaneSt.withEpoch_startStatus (e : Nat) (g : LaneSt) :
    (g.withEpoch e).startStatus = g.startStatus.setBit 8 (decide (e = 0xFFFFF)) := by
  unfold LaneSt.withEpoch
  dsimp only
  split <;> rfl

theorem keepsEpoch_of {s : State} (h : s.pwr.waking = false) : keepsEpoch s = false := by simp [keepsEpoch, h]

theorem advanceEpoch_eq {s : State} (h : s.pwr.waking = false) : advanceEpoch s =
    { s.mapLanes (LaneSt.withEpoch (nextEpoch s)) with
      seq := { Seq.reset with next := nextEpoch s * 2 ^ 40, epochEnd := decide (nextEpoch s = 0xFFFFF) },
      maintenance := s.maintenance || decide (max s.white.nvm.epoch s.black.nvm.epoch = 0xFFFFF) } := by
  unfold advanceEpoch
  rw [if_neg (by simp [keepsEpoch_of h])]
  rfl

theorem chooseStart_eq (l : Lane) (solo : Bool) (out : Option Lane) {s : State} (h : s.pwr.waking = false) :
    (chooseStart l solo out s).lanes = { s.lanes with start := some l, solo := solo } ∧
    (chooseStart l solo out s).seq =
      { Seq.reset with next := nextEpoch s * 2 ^ 40, epochEnd := decide (nextEpoch s = 0xFFFFF) } ∧
    (chooseStart l solo out s).copy = s.copy := by
  unfold chooseStart
  rw [advanceEpoch_eq h]
  cases out with
  | none => exact ⟨rfl, rfl, rfl⟩
  | some o => cases o <;> exact ⟨rfl, rfl, rfl⟩

theorem chooseStart_none_lane (l : Lane) (solo : Bool) {s : State} (h : s.pwr.waking = false) (k : Lane) :
    (chooseStart l solo none s).lane k = (s.lane k).withEpoch (nextEpoch s) := by
  unfold chooseStart
  rw [advanceEpoch_eq h]
  cases k <;> rfl

theorem chooseStart_out_lane (l o : Lane) (solo : Bool) {s : State} (h : s.pwr.waking = false) :
    ((chooseStart l solo (some o) s).lane o).role = .out ∧ ((chooseStart l solo (some o) s).lane o).boot = .started ∧
    ∀ k, ((chooseStart l solo (some o) s).lane k).nvm = ((s.lane k).withEpoch (nextEpoch s)).nvm := by
  unfold chooseStart
  rw [advanceEpoch_eq h]
  refine ⟨?_, ?_, fun k => ?_⟩
  · cases o <;> rfl
  · cases o <;> rfl
  · cases o <;> cases k <;> rfl

/-! ### One lane alone -/

theorem exec_soloTimeout (l : Lane) (s : State) : exec (.soloTimeout l) s = .next (soloTimeout l s) := rfl

theorem soloTimeout_settles {s : State} {l : Lane} (hb : (s.lane l).boot = .waiting) (ho : (s.lane (otherLane l)).boot ≠ .waiting)
    (ha : activeLane s = none) (hs : s.lanes.start = none) (hd : (s.lane l).cfgDefault = false) (hw : s.pwr.waking = false) :
    Completes (.soloTimeout l) s fun u =>
      let e := min (max s.white.nvm.epoch s.black.nvm.epoch + 1) 0xFFFFF
      u.lanes = { s.lanes with start := some l, solo := true } ∧ (u.lane l).nvm.epoch = e ∧
      u.lane (otherLane l) = { s.lane (otherLane l) with startStatus := (u.lane (otherLane l)).startStatus } ∧
      u.seq = { Seq.reset with next := e * 2 ^ 40, epochEnd := decide (e = 0xFFFFF) } := by
  have heq : soloTimeout l s = chooseStart l true none s := by
    unfold soloTimeout
    dsimp only
    rw [if_neg (by simp [hb, ho, ha, hs]), if_pos hd]
  refine .of_next ((exec_soloTimeout ..).trans (congrArg _ heq)) ?_
  obtain ⟨hlanes, hseq, -⟩ := chooseStart_eq l true none hw
  rw [chooseStart_none_lane l true hw, chooseStart_none_lane l true hw]
  exact ⟨hlanes, LaneSt.withEpoch_waiting hb, LaneSt.withEpoch_other ho, hseq⟩

/-! ### The lanes meet -/

theorem exec_lanesMeet (s : State) : exec .lanesMeet s = .next (lanesMeet s) := rfl

theorem lanesMeet_unready {s : State} (h : s.white.boot ≠ .waiting) : exec .lanesMeet s = .next s :=
  (exec_lanesMeet s).trans (congrArg _ (if_pos (.inl h)))

/-- The cross-link joins the lanes that meet. -/
def linked (s : State) : State := { s with lanes := { s.lanes with xa := true, xb := true } }

/-- Both lanes show whether their start settings differ. -/
def compared (s : State) : State :=
  (linked s).mapLanes fun g => { g with startStatus := g.startStatus.setBit 14 (decide (s.white.startBlack ≠ s.black.startBlack)) }

section
variable {s : State} (hwb : s.white.boot = .waiting) (hbb : s.black.boot = .waiting) (ha : activeLane s = none)
  (hs : s.lanes.start = none)
include hwb hbb ha hs

theorem lanesMeet_alike (hwd : s.white.cfgDefault = false) (hbd : s.black.cfgDefault = false)
    (hi : s.white.imageId = s.black.imageId) (hc : s.white.cfgDigest = s.black.cfgDigest) :
    lanesMeet s = chooseStart (startLane (compared s)) false none (compared s) := by
  unfold lanesMeet
  rw [if_neg (by simp [hwb, hbb, ha, hs])]
  change (if (s.white.cfgDefault && s.black.cfgDefault) = true then _ else if s.white.cfgDefault = true then _
    else if s.black.cfgDefault = true then _ else if s.white.imageId ≠ s.black.imageId ∨ s.white.cfgDigest ≠ s.black.cfgDigest then _ else _) = _
  rw [hwd, hbd, if_neg (by decide), if_neg (by decide), if_neg (by decide), if_neg (by simp [hi, hc])]
  rfl

theorem lanesMeet_defaulted {l : Lane} (hd : (s.lane l).cfgDefault = true) (ho : (s.lane (otherLane l)).cfgDefault = false) :
    lanesMeet s = chooseStart (otherLane l) true (some l) (linked s) := by
  unfold lanesMeet
  rw [if_neg (by simp [hwb, hbb, ha, hs])]
  change (if (s.white.cfgDefault && s.black.cfgDefault) = true then _ else if s.white.cfgDefault = true then _
    else if s.black.cfgDefault = true then _ else _) = _
  cases l with
  | white => rw [show s.white.cfgDefault = true from hd, show s.black.cfgDefault = false from ho]; rfl
  | black => rw [show s.black.cfgDefault = true from hd, show s.white.cfgDefault = false from ho]; rfl

end

theorem compared_lane (s : State) (l : Lane) : (compared s).lane l = { s.lane l with
    startStatus := (s.lane l).startStatus.setBit 14 (decide (s.white.startBlack ≠ s.black.startBlack)) } := by cases l <;> rfl

theorem startLane_compared {s : State} (hw : s.pwr.waking = false) :
    startLane (compared s) = if s.white.startBlack = true ∧ s.black.startBlack = true then Lane.black else .white := by
  unfold startLane
  rw [keepsEpoch_of (s := compared s) hw, if_neg Bool.false_ne_true]
  exact if_congr (Bool.and_eq_true _ _).to_iff rfl rfl

theorem lanesMeet_settles {s : State} (hwb : s.white.boot = .waiting) (hbb : s.black.boot = .waiting) (ha : activeLane s = none)
    (hs : s.lanes.start = none) (hw : s.pwr.waking = false) :
    (s.white.cfgDefault = false → s.black.cfgDefault = false → s.white.imageId = s.black.imageId →
      s.white.cfgDigest = s.black.cfgDigest → Completes .lanesMeet s fun u =>
        let e := min (max s.white.nvm.epoch s.black.nvm.epoch + 1) 0xFFFFF
        let first := if s.white.startBlack = true ∧ s.black.startBlack = true then Lane.black else .white
        u.lanes = { s.lanes with xa := true, xb := true, start := some first, solo := false } ∧
        u.white.nvm.epoch = e ∧ u.black.nvm.epoch = e ∧
        u.seq = { Seq.reset with next := e * 2 ^ 40, epochEnd := decide (e = 0xFFFFF) } ∧
        u.white.startStatus.bit 14 = decide (s.white.startBlack ≠ s.black.startBlack) ∧ u.copy = s.copy) ∧
    (∀ l : Lane, (s.lane l).cfgDefault = true → (s.lane (otherLane l)).cfgDefault = false →
      Completes .lanesMeet s fun u =>
        let e := min (max s.white.nvm.epoch s.black.nvm.epoch + 1) 0xFFFFF
        u.lanes = { s.lanes with xa := true, xb := true, start := some (otherLane l), solo := true } ∧
        (u.lane l).role = .out ∧ (u.lane l).boot = .started ∧ u.white.nvm.epoch = e ∧ u.black.nvm.epoch = e ∧
        u.seq = { Seq.reset with next := e * 2 ^ 40, epochEnd := decide (e = 0xFFFFF) }) := by
  refine ⟨fun hwd hbd hi hc => .of_next ((exec_lanesMeet s).trans (congrArg _ (lanesMeet_alike hwb hbb ha hs hwd hbd hi hc))) ?_,
    fun l hd ho => .of_next ((exec_lanesMeet s).trans (congrArg _ (lanesMeet_defaulted hwb hbb ha hs hd ho))) ?_⟩
  · have hw' : (compared s).pwr.waking = false := hw
    obtain ⟨hlanes, hseq, hcopy⟩ := chooseStart_eq (startLane (compared s)) false none hw'
    have hlane := chooseStart_none_lane (startLane (compared s)) false hw'
    rw [startLane_compared hw] at *
    have hwait : ∀ k, ((compared s).lane k).boot = .waiting := fun k => by
      rw [compared_lane]
      cases k <;> assumption
    refine ⟨hlanes, ?_, ?_, hseq, ?_, hcopy⟩
    · exact (congrArg (fun g : LaneSt => g.nvm.epoch) (hlane .white)).trans (LaneSt.withEpoch_waiting (hwait .white))
    · exact (congrArg (fun g : LaneSt => g.nvm.epoch) (hlane .black)).trans (LaneSt.withEpoch_waiting (hwait .black))
    · refine (congrArg (fun g : LaneSt => g.startStatus.bit 14) (hlane .white)).trans ?_
      rw [compared_lane]
      rw [LaneSt.withEpoch_startStatus, bit_setBit _ _ _ _ (by decide), if_neg (by decide), bit_setBit _ _ _ _ (by decide), if_pos rfl]
  · have hw' : (linked s).pwr.waking = false := hw
    obtain ⟨hlanes, hseq, -⟩ := chooseStart_eq (otherLane l) true (some l) hw'
    obtain ⟨hrole, hboot, hnvm⟩ := chooseStart_out_lane (otherLane l) l true hw'
    exact ⟨hlanes, hrole, hboot, (congrArg Nvm.epoch (hnvm .white)).trans (LaneSt.withEpoch_waiting hwb),
      (congrArg Nvm.epoch (hnvm .black)).trans (LaneSt.withEpoch_waiting hbb), hseq⟩

end Sys2Proof.Machine
end

section
/-! EXEC. What phase A leaves as it is in the ply that begins (R79, R86, R245, R446): the state's operations. -/

namespace Sys2Proof.Machine

open Sys2Proof

/-- What stands when a ply has begun: its boundary and number, the time bases, the state of the module, the lanes' roles and the
records and commands that are kept. -/
structure Ground where
  now : Nat
  elapsed : Nat
  running : Bool
  boundary : Nat
  number : Nat
  phase : Phase
  power : PwrState
  start : Option Lane
  ring : List Rec
  log : List PlyLog
  white : Role
  black : Role

/-- The ground of a state. -/
def State.ground (s : State) : Ground :=
  ⟨s.now, s.pwr.elapsed, s.seq.running, s.ply.boundary, s.ply.number, s.ply.phase, s.pwr.state, s.lanes.start, s.ring, s.log,
    s.white.role, s.black.role⟩

section
variable (s : State)

/-! ### Accesses to one part of the state -/

@[simp] theorem ground_setCopy (a : Nat) (v : Word) : (s.setCopy a v).ground = s.ground := rfl
@[simp] theorem ground_setLive (a : Nat) (v : Word) : (s.setLive a v).ground = s.ground := rfl
@[simp] theorem ground_clearCopy (r : Nat × Nat) : (s.clearCopy r).ground = s.ground := rfl
@[simp] theorem ground_setComp (i : Nat) (c : Comp) : (s.setComp i c).ground = s.ground := rfl
@[simp] theorem ground_setSlot (k : Nat) (c : SigSlot) : (s.setSlot k c).ground = s.ground := rfl
@[simp] theorem ground_setStream (x : Nat) (c : Stream) : (s.setStream x c).ground = s.ground := rfl
@[simp] theorem ground_setDma (e : Nat) (d : Dma) : (s.setDma e d).ground = s.ground := rfl
@[simp] theorem ground_setDin (d : Nat) (c : Din) : (s.setDin d c).ground = s.ground := rfl
@[simp] theorem ground_setDoutRuns (o : Nat) (c : DoutRuns) : (s.setDoutRuns o c).ground = s.ground := rfl
@[simp] theorem ground_modCore (c : Nat) (f : Kwask → Kwask) : (s.modCore c f).ground = s.ground := rfl
@[simp] theorem ground_modBox (k : Nat) (f : Mbx → Mbx) : (s.modBox k f).ground = s.ground := rfl
@[simp] theorem ground_modBus (b : Nat) (f : Bus → Bus) : (s.modBus b f).ground = s.ground := rfl
@[simp] theorem ground_modLife (n : Nat) (f : Life → Life) : (s.modLife n f).ground = s.ground := rfl
@[simp] theorem ground_laneRecord (r : RecDraft) : (laneRecord r s).ground = s.ground := rfl

theorem ground_mapLanes {f : LaneSt → LaneSt} (hf : ∀ g, (f g).role = g.role) : (s.mapLanes f).ground = s.ground := by
  simp only [State.ground, State.mapLanes, hf]

theorem ground_modLane (l : Lane) {f : LaneSt → LaneSt} (hf : ∀ g, (f g).role = g.role) : (s.modLane l f).ground = s.ground := by
  cases l <;> simp only [State.ground, State.modLane, State.setLane, State.lane, hf]

theorem ground_setSrams (ws : List Word) (a : Nat) : (s.setSrams a ws).ground = s.ground := by
  induction ws generalizing s a with
  | nil => rfl
  | cons w ws ih => exact (ih ..).trans rfl

@[simp] theorem ground_laneRecords (rs : List RecDraft) : (laneRecords rs s).ground = s.ground :=
  foldl_keeps State.ground (fun s r => ground_laneRecord s r) rs s

@[simp] theorem ground_emit (cs : List (Nat × Content)) : (emit cs s).ground = s.ground := rfl

/-! ### Inputs -/

theorem epochCarry_running : (epochCarry s).seq.running = s.seq.running := by
  unfold epochCarry
  dsimp only
  repeat' split
  all_goals rfl

theorem numberInput_running (t : Nat) (i : Input) : (numberInput t i s).seq.running = s.seq.running := epochCarry_running s

theorem present_running (src : Nat) (payload : List Word) (act : Act) : (present src payload act s).seq.running = s.seq.running := by
  unfold present
  dsimp only
  split
  · split
    · rfl
    · split
      · exact numberInput_running ..
      · rfl
  · rfl

@[simp] theorem ground_present (src : Nat) (payload : List Word) (act : Act) : (present src payload act s).ground = s.ground := by
  have hrun := present_running s src payload act
  obtain ⟨hall, hw, hb⟩ := present_posts src payload act s
  generalize present src payload act s = u at hrun hall hw hb
  have hwhite : u.white.role = s.white.role := by rw [hw]
  have hblack : u.black.role = s.black.role := by rw [hb]
  rw [hall]
  simp only [State.ground, hrun, hwhite, hblack]

end

end Sys2Proof.Machine
end

section
/-! EXEC. What phase A leaves as it is in the ply that begins (R245): the sample blocks. -/

namespace Sys2Proof.Machine

open Sys2Proof

section
variable (s : State)

/-! ### Events and comparators -/

@[simp] theorem ground_postEvent (idx kind pos : Nat) (w : Word) : (postEvent idx kind pos w s).ground = s.ground := by
  unfold postEvent
  dsimp only
  split <;> simp

theorem ground_countLost {f : State → State} (hf : (f s).ground = s.ground) : (countLost f s).ground = s.ground := by
  unfold countLost
  dsimp only
  split <;> simp [hf]

/-- A step that is taken or not. -/
theorem ground_ite {c : Prop} [Decidable c] {u v : State} {g : Ground} (hu : u.ground = g) (hv : v.ground = g) :
    (if c then u else v).ground = g := by
  split <;> assumption

@[simp] theorem ground_compSample (i : Nat) (p : Nat × Word) : (compSample i p s).ground = s.ground := by
  unfold compSample
  extract_lets pos x a st flagged valid _ _ _ _ _ _ _ _ hl h high ll l low prev
  have hflagged : flagged.ground = s.ground := ground_setCopy ..
  have hvalid : valid.ground = s.ground := ground_ite ((ground_postEvent ..).trans (ground_setCopy ..)) rfl
  have hhigh : high.ground = s.ground := ground_ite ((ground_postEvent ..).trans ((ground_setCopy ..).trans hvalid)) hvalid
  have hlow : low.ground = s.ground := ground_ite ((ground_postEvent ..).trans ((ground_setCopy ..).trans hhigh)) hhigh
  clear_value flagged low
  split
  · exact ground_ite hflagged ((ground_postEvent ..).trans hflagged)
  · split
    · extract_lets d up dn rising falling
      have hrising : rising.ground = s.ground := ground_ite ((ground_postEvent ..).trans ((ground_setCopy ..).trans hlow)) hlow
      exact (ground_setComp ..).trans (ground_ite ((ground_postEvent ..).trans ((ground_setCopy ..).trans hrising)) hrising)
    · exact (ground_setComp ..).trans hlow

@[simp] theorem ground_compBlock (blk : List Word) : (compBlock blk s).ground = s.ground := by
  unfold compBlock
  split
  · exact foldl_keeps State.ground (fun s i => foldl_keeps State.ground (fun s p => ground_compSample s i p) _ s) _ s
  · rfl

/-! ### The latest values and the order of the blocks -/

@[simp] theorem ground_latestValues (blk : List Word) : (latestValues blk s).ground = s.ground := by
  unfold latestValues
  refine (foldl_keeps State.ground (fun s n => ?_) _ _).trans (foldl_keeps State.ground (fun s i => ?_) _ s)
  · dsimp only
    split <;> simp only [ground_setCopy]
  · split <;> simp only [ground_setCopy]

@[simp] theorem ground_fabricRecords (first : Bool) (blk : List Word) : (fabricRecords first blk s).ground = s.ground := by
  simp only [fabricRecords, apply_ite State.ground, ground_laneRecord, ite_self]

@[simp] theorem ground_measStatus (blk : List Word) : (measStatus blk s).ground = s.ground := ground_setCopy ..

@[simp] theorem ground_sigDrop (k reason : Nat) : (sigDrop k reason s).ground = s.ground := by
  unfold sigDrop
  split
  · exact ground_setSlot ..
  · rfl

@[simp] theorem ground_fab (f : Fabric) : ({ s with fab := f } : State).ground = s.ground := rfl

@[simp] theorem ground_blockOrder (frame : Nat) (blk : List Word) : (blockOrder frame blk s).ground = s.ground := by
  unfold blockOrder
  extract_lets t0 late v gap u
  have hv : v.ground = s.ground := ground_ite ((ground_laneRecord ..).trans (ground_setCopy ..)) rfl
  clear_value v gap
  have hu : u.ground = s.ground := by
    unfold u
    split
    · extract_lets miss w
      have hw : w.ground = s.ground := (ground_laneRecord ..).trans ((ground_setCopy ..).trans hv)
      clear_value w
      refine ground_ite ((foldl_keeps State.ground (fun s k => ?_) _ _).trans ((ground_fab ..).trans hw)) hv
      exact ground_ite (ground_sigDrop ..) rfl
    · exact hv
  exact (ground_fab ..).trans hu

/-! ### Signatures -/

@[simp] theorem ground_sigFlush (k : Nat) : (sigFlush k s).ground = s.ground := by
  unfold sigFlush
  split <;> simp only [ground_postEvent, ground_setSlot]

@[simp] theorem ground_sigFlushAll : (sigFlushAll s).ground = s.ground := by
  unfold sigFlushAll
  split
  · exact ground_countLost s (foldl_keeps State.ground (fun s k => ground_sigFlush s k) _ s)
  · rfl

@[simp] theorem ground_sigFinish (k : Nat) (pts : List Word) : (sigFinish k pts s).ground = s.ground := by
  unfold sigFinish
  extract_lets cfg env slot v w st runs st' tol fl out bad sw cnt cnt'
  have hv : v.ground = s.ground := ground_setSlot ..
  clear_value v
  have hw : w.ground = s.ground := by
    refine (foldl_keeps State.ground (fun s p => ?_) _ _).trans hv
    exact ground_ite rfl ((ground_setCopy ..).trans (ground_setCopy ..))
  clear_value w
  refine ground_ite ((ground_postEvent ..).trans hv) (ground_ite (ground_ite ?_ ?_) (ground_ite ?_ hv))
  · exact (ground_postEvent ..).trans ((ground_setCopy ..).trans ((ground_setCopy ..).trans hw))
  · exact (ground_setCopy ..).trans hw
  · exact (ground_postEvent ..).trans ((ground_setCopy ..).trans ((ground_setCopy ..).trans hv))

@[simp] theorem ground_sigStep (k : Nat) (p : Nat × Word) : (sigStep k p s).ground = s.ground := by
  unfold sigStep
  split
  · rfl
  · dsimp only
    simp only [apply_ite State.ground, ground_sigFinish, ground_setSlot, ite_self]

@[simp] theorem ground_sigBlock (blk : List Word) : (sigBlock blk s).ground = s.ground := by
  unfold sigBlock
  split
  · refine foldl_keeps State.ground (fun s k => ?_) _ s
    dsimp only
    split
    · exact ground_sigFlush ..
    · rw [ground_setSlot]
      exact (foldl_keeps State.ground (fun s p => ground_sigStep s k p) _ _).trans (ground_sigFlush ..)
  · rfl

/-! ### Streams -/

@[simp] theorem ground_ringWrite (base size off : Nat) (ws : List Word) : (ringWrite base size off ws s).ground = s.ground := by
  refine ground_mapLanes s fun g => ?_
  split <;> rfl

@[simp] theorem ground_markGap (x : Nat) : (markGap x s).ground = s.ground := by
  unfold markGap
  split
  · rfl
  · simp only [ground_ringWrite, ground_setStream]

@[simp] theorem ground_streamRecord (x seq : Nat) (blk : List Word) : (streamRecord x seq blk s).ground = s.ground := by
  unfold streamRecord
  dsimp only
  simp only [apply_ite State.ground, ground_laneRecord, ground_markGap, ground_setCopy, ground_ringWrite, ground_setStream, ite_self]

@[simp] theorem ground_measBlock (seq frame : Nat) (blk : List Word) : (measBlock seq frame blk s).ground = s.ground := by
  refine (foldl_keeps State.ground (fun s x => ground_streamRecord s x seq blk) _ _).trans ((ground_countLost _ ?_).trans ?_)
  · rw [ground_sigBlock, ground_compBlock]
  · rw [ground_measStatus, ground_fabricRecords, ground_latestValues, ground_blockOrder]

/-! ### The field inputs, the counters and the driver's door -/

@[simp] theorem ground_setDiBit (base d : Nat) (b : Bool) : (setDiBit base d b s).ground = s.ground := ground_setCopy ..

@[simp] theorem ground_diShow (d : Nat) (known lvl : Bool) : (diShow d known lvl s).ground = s.ground := by
  simp only [diShow, apply_ite State.ground, ground_setDiBit, ite_self]

@[simp] theorem ground_diSample (d : Nat) (x : Word) : (diSample d x s).ground = s.ground := by
  simp only [diSample, apply_ite State.ground, ground_setDiBit, ground_setDin, ground_diShow, ground_laneRecord, ite_self]

@[simp] theorem ground_doSample (o : Nat) (x : Word) : (doSample o x s).ground = s.ground := by
  simp only [doSample, apply_ite State.ground, ground_setDoutRuns, ground_setCopy, ground_laneRecord, ite_self]

@[simp] theorem ground_fioBlock (blk : List Word) : (fioBlock blk s).ground = s.ground := by
  refine (foldl_keeps State.ground (fun s o => ?_) _ _).trans (foldl_keeps State.ground (fun s d => ground_diSample s d _) _ s)
  split
  · exact ground_doSample ..
  · rfl

@[simp] theorem ground_lifeBlock (blk : List Word) : (lifeBlock blk s).ground = s.ground := by
  refine foldl_keeps State.ground (fun s n => ?_) _ s
  split
  · exact ground_modLife ..
  · rfl

@[simp] theorem ground_doorCheck (was : Bool) : (doorCheck was s).ground = s.ground := by
  simp only [doorCheck, apply_ite State.ground, ground_emit, ite_self]

/-! ### The blocks of a ply -/

/-- The records and the time of the input in work are no part of the ground. -/
theorem ground_recs (rs : List (RecDraft × Nat)) (t : Nat) : ({ s with ply := { s.ply with recs := rs, at_ := t } } : State).ground = s.ground := rfl

theorem ground_due (is : List Input) : ({ s with seq := { s.seq with due := is } } : State).ground = s.ground := rfl

theorem ground_runBlock (i : Input) (recs : List RecDraft) : (runBlock i recs s).2.ground = s.ground := by
  unfold runBlock
  dsimp only
  rw [ground_recs, ground_lifeBlock, ground_doorCheck, ground_fioBlock, ground_measBlock, ground_laneRecords, ground_recs]

/-- One input of the set: a block is processed, and any other is kept. -/
def blockStep (r : List Input × State) (i : Input) : List Input × State :=
  match i.act with
  | .block recs => let q := runBlock i recs r.2; (r.1 ++ [{ i with act := .upd [] q.1 }], q.2)
  | _ => (r.1 ++ [i], r.2)

theorem ground_blockStep (is : List Input) (r : List Input × State) : (is.foldl blockStep r).2.ground = r.2.ground := by
  induction is generalizing r with
  | nil => rfl
  | cons i is ih =>
    refine (ih _).trans ?_
    unfold blockStep
    split
    · exact ground_runBlock ..
    · rfl

@[simp] theorem ground_phaseBlocks : (phaseBlocks s).ground = s.ground := by
  have h : phaseBlocks s = sigFlushAll { (s.seq.due.foldl blockStep ([], s)).2 with
      seq := { (s.seq.due.foldl blockStep ([], s)).2.seq with due := (s.seq.due.foldl blockStep ([], s)).1 } } := rfl
  rw [h, ground_sigFlushAll, ground_due, ground_blockStep]

end

end Sys2Proof.Machine
end

section
/-! EXEC. What phase A leaves as it is in the ply that begins (R86, R446): the writes, the cores, the mailboxes and the engines. -/

namespace Sys2Proof.Machine

open Sys2Proof

section
variable (s : State)

/-! ### The writes of the measurement registers -/

@[simp] theorem ground_envWritten (a : Nat) (was : Word) : (envWritten a was s).ground = s.ground := by
  unfold envWritten
  dsimp only
  split
  · exact ground_ite (ground_setSlot ..) rfl
  · rfl

@[simp] theorem ground_measApply (p : MeasWrite) : (measApply p s).ground = s.ground := by
  unfold measApply
  extract_lets a old v i k dropped _ chosen cleared x _ e _
  have hv : v.ground = s.ground := ground_setCopy ..
  clear_value v
  have hdropped : dropped.ground = s.ground := (ground_sigDrop ..).trans hv
  have hchosen : chosen.ground = s.ground := ground_ite ((ground_setSlot ..).trans hdropped) hdropped
  have hcleared : cleared.ground = s.ground := (ground_clearCopy ..).trans hchosen
  clear_value cleared chosen
  refine ground_ite ((ground_setCopy ..).trans ((ground_setComp ..).trans hv)) (ground_ite (ground_ite ?_ hchosen)
    (ground_ite (ground_ite ?_ (ground_ite ?_ hv)) (ground_ite ?_ (ground_ite ((ground_envWritten ..).trans hv) hv))))
  · exact (ground_setCopy ..).trans hcleared
  · exact (ground_clearCopy ..).trans ((ground_setStream ..).trans hv)
  · exact (ground_setStream ..).trans hv
  · exact (ground_setDma ..).trans hv

@[simp] theorem ground_measApplyAll : (measApplyAll s).ground = s.ground :=
  (foldl_keeps State.ground (fun s p => ground_measApply s p) _ _).trans rfl

/-! ### The tables, the buses and the engines -/

@[simp] theorem ground_takeCommit : (takeCommit s).ground = s.ground := ground_ite ((ground_laneRecord ..).trans rfl) rfl

@[simp] theorem ground_busStateLater (b code : Nat) (node : Option Nat) : (busStateLater b code node s).ground = s.ground := rfl

@[simp] theorem ground_moveBack (b : Nat) : (moveBack b s).ground = s.ground := by
  unfold moveBack
  dsimp only
  split
  · exact ground_ite ((ground_busStateLater ..).trans (ground_modBus ..)) rfl
  · rfl

@[simp] theorem ground_dmaBoundary : (dmaBoundary s).ground = s.ground := by
  refine foldl_keeps State.ground (fun s e => ?_) _ s
  dsimp only
  split
  · exact ground_setDma ..
  · rfl

@[simp] theorem ground_presentPacket (p : Packet) : (presentPacket p s).ground = s.ground :=
  (ground_present ..).trans (ground_modLane s p.port fun _ => rfl)

@[simp] theorem ground_enginesBegin : (enginesBegin s).ground = s.ground := by
  refine foldl_keeps State.ground (fun s l => ?_) _ s
  exact (foldl_keeps State.ground (fun s p => ground_presentPacket s p) _ _).trans (ground_modLane s l fun _ => rfl)

/-! ### The cores -/

@[simp] theorem ground_dropTileWrites (m : Nat) : (dropTileWrites m s).ground = s.ground := rfl

@[simp] theorem ground_clearCompose (m : Nat) : (clearCompose m s).ground = s.ground :=
  foldl_keeps State.ground (fun _ _ => ground_ite (ground_clearCopy ..) rfl) _ s

@[simp] theorem ground_dropFrames (m : Nat) : (dropFrames m s).ground = s.ground :=
  foldl_keeps State.ground (fun _ _ => ground_ite ((ground_setLive ..).trans ((ground_setCopy ..).trans (ground_modBus ..))) rfl) _ s

theorem ground_recoverLock (t m : Nat) (wrote : Bool) : (recoverLock t m wrote s).2.ground = s.ground := by
  unfold recoverLock
  split
  · exact ground_dropTileWrites s m
  · dsimp only
    exact ground_dropFrames s m
  · dsimp only
    exact ground_clearCompose s m
  all_goals exact rfl

theorem ground_foldLanes (ls : List Lane) (f : LaneSt → LaneSt) (hf : ∀ g, (f g).role = g.role) :
    (ls.foldl (fun s l => s.modLane l f) s).ground = s.ground :=
  foldl_keeps State.ground (fun s l => ground_modLane s l hf) ls s

@[simp] theorem ground_abandonIn (ls : List Lane) (m t : Nat) : (abandonIn ls m t s).ground = s.ground := by
  unfold abandonIn
  extract_lets held undone r v
  have hv : v.ground = s.ground := by
    refine (ground_foldLanes _ held _ ?_).trans (ground_recoverLock ..)
    exact fun _ => rfl
  clear_value v
  exact ground_ite rfl (ground_ite ((ground_laneRecord ..).trans hv) hv)

@[simp] theorem ground_abandonLocks (m : Nat) : (abandonLocks m s).ground = s.ground :=
  foldl_keeps State.ground (fun s t => ground_abandonIn s _ m t) _ s

@[simp] theorem ground_stopProgram (c cause bundle : Nat) : (stopProgram c cause bundle s).ground = s.ground :=
  (ground_laneRecord ..).trans (ground_modCore ..)

@[simp] theorem ground_resetCore (c : Nat) : (resetCore c s).ground = s.ground :=
  (ground_laneRecord ..).trans ((ground_abandonLocks ..).trans
    (ground_ite (ground_modCore ..) ((ground_stopProgram ..).trans (ground_modCore ..))))

@[simp] theorem ground_runCore (c : Nat) : (runCore c s).ground = s.ground := ground_modCore ..

@[simp] theorem ground_takeCtl (c : Nat) : (takeCtl c s).ground = s.ground := by
  unfold takeCtl
  extract_lets w hold taken reset st stopped asleep
  have htaken : taken.ground = s.ground := ground_modCore ..
  have hreset : reset.ground = s.ground := ground_ite ((ground_resetCore ..).trans htaken) htaken
  have hstopped : stopped.ground = s.ground := ground_ite ((ground_stopProgram ..).trans hreset) hreset
  have hasleep : asleep.ground = s.ground := ground_ite ((ground_modCore ..).trans hstopped) hstopped
  exact ground_ite ((ground_runCore ..).trans hasleep) hasleep

/-- A loop that gathers what its steps say beside the state. -/
theorem ground_gather {α ι : Type} {F : α × State → ι → α × State} (hF : ∀ r k, (F r k).2.ground = r.2.ground) (ks : List ι) (r : α × State) :
    (ks.foldl F r).2.ground = r.2.ground := by
  induction ks generalizing r with
  | nil => rfl
  | cons k ks ih => exact (ih _).trans (hF r k)

theorem ground_kwBoundary : (kwBoundary s).2.ground = s.ground := ground_gather (fun r c => ground_takeCtl r.2 c) _ _

/-! ### The mailboxes -/

theorem ground_postStep (k : Nat) (ws : List Word) : (postStep k ws s).2.ground = s.ground := by
  unfold postStep
  split
  · exact (ground_laneRecord ..).trans (ground_modBox ..)
  · exact ground_modBox ..

@[simp] theorem ground_mbx (m : Mailboxes) : ({ s with mbx := m } : State).ground = s.ground := rfl

@[simp] theorem ground_receiverReset (k : Nat) : (receiverReset k s).ground = s.ground :=
  ground_ite (ground_modBox ..) ((ground_laneRecord ..).trans ((ground_mbx ..).trans (ground_modBox ..)))

@[simp] theorem ground_senderReset (k : Nat) : (senderReset k s).ground = s.ground := (ground_modBox ..).trans (ground_clearCopy ..)

@[simp] theorem ground_mbxCoreReset (c : Nat) : (mbxCoreReset c s).ground = s.ground := by
  refine foldl_keeps State.ground (fun s k => ?_) _ s
  have h := ground_ite (c := mbxReceiver s k = c) (ground_receiverReset s k) (rfl : s.ground = s.ground)
  exact ground_ite ((ground_senderReset ..).trans h) h

@[simp] theorem ground_clearWaits : (clearWaits s).ground = s.ground :=
  foldl_keeps State.ground (fun _ _ => ground_ite (ground_modBox ..) rfl) _ s

theorem ground_stalePair (i j : Nat) : (stalePair i j s).2.ground = s.ground := by
  unfold stalePair
  extract_lets count n stale
  split
  · split
    · rfl
    · split
      · exact ground_modBox ..
      · exact (ground_laneRecord ..).trans ((ground_mbx ..).trans ((ground_modBox ..).trans ((ground_modBox ..).trans (ground_modBox ..))))
  · exact ground_modBox ..

theorem ground_staleStep : (staleStep s).2.ground = s.ground := by
  refine ground_gather (fun r p => ?_) _ _
  dsimp only
  split <;> exact ground_stalePair ..

@[simp] theorem ground_ringBell (k : Nat) : (ringBell k s).ground = s.ground :=
  ground_ite ((ground_modCore ..).trans (ground_modBox ..)) (ground_modBox ..)

@[simp] theorem ground_firmwareAcks : (firmwareAcks s).ground = s.ground :=
  foldl_keeps State.ground (fun _ _ => ground_ite (ground_ite rfl (ground_mbx ..)) rfl) _ s

@[simp] theorem ground_mbxPhaseA (resets : List Nat) : (mbxPhaseA resets s).ground = s.ground := by
  unfold mbxPhaseA
  extract_lets acks posts _ later acked r reset st
  have hlater : later.ground = s.ground := (foldl_keeps State.ground (fun s p => ground_modBox ..) _ _).trans (ground_mbx ..)
  clear_value later
  have hacked : acked.ground = s.ground := (foldl_keeps State.ground (fun s p => ground_modBox ..) _ _).trans hlater
  clear_value acked
  have hr : r.2.ground = s.ground := by
    refine (ground_gather (fun r p => ?_) _ _).trans hacked
    dsimp only
    split <;> exact ground_postStep ..
  clear_value r
  have hreset : reset.ground = s.ground := (foldl_keeps State.ground (fun s c => ground_mbxCoreReset s c) _ _).trans hr
  clear_value reset
  have hst : st.2.ground = s.ground := (ground_staleStep _).trans ((ground_clearWaits _).trans hreset)
  clear_value st
  exact (ground_firmwareAcks _).trans ((foldl_keeps State.ground (fun s k => ground_ringBell s k) _ _).trans hst)

end

end Sys2Proof.Machine
end

section
/-! EXEC. A ply begins at the marker that closes an empty window (R79, R83 to R87). -/

namespace Sys2Proof.Machine

open Sys2Proof

/-! ### Phase A -/

theorem castleSwap_none {s : State} (h : s.lanes.castle = none) : castleSwap s = s := by
  unfold castleSwap
  rw [h]

theorem updBoundary_idle {s : State} (h : s.upd.stage = .idle) : updBoundary s = s := by
  unfold updBoundary
  dsimp only
  rw [h]

theorem ground_pwrBoundary {s : State} (h : s.pwr.next = none) : (pwrBoundary s).ground = s.ground := by
  unfold pwrBoundary
  rw [h]
  extract_lets _ settled _ clocked _
  have hclocked : clocked.ground = s.ground := by
    refine ground_ite (c := settled.pwr.clkReq = true) ((ground_laneRecord ..).trans ((ground_mapLanes _ ?_).trans rfl)) rfl
    exact fun _ => rfl
  exact ground_ite hclocked hclocked

/-- Without a castling, an activation or a change of the power state, phase A leaves the ground of its ply. -/
theorem ground_phaseA {s : State} (hc : s.lanes.castle = none) (hu : s.upd.stage = .idle) (hn : s.pwr.next = none) :
    (phaseA s).ground = s.ground := by
  unfold phaseA
  rw [castleSwap_none hc, updBoundary_idle hu]
  have hboundary : (takeCommit (pwrBoundary s)).ground = s.ground := (ground_takeCommit _).trans (ground_pwrBoundary hn)
  have hmoved := (foldl_keeps State.ground (fun s b => ground_moveBack s b) (List.range 28) (takeCommit (pwrBoundary s))).trans hboundary
  dsimp only
  rw [if_neg (by rw [hu]; decide), ground_enginesBegin, ground_phaseBlocks, ground_dmaBoundary, ground_mbxPhaseA, ground_kwBoundary,
    ground_measApplyAll]
  exact hmoved

/-! ### The marker of an empty window -/

/-- An epoch carry changes the sequencer and what the lanes keep of the epoch. -/
theorem epochCarry_frame (s : State) :
    epochCarry s = { s with seq := (epochCarry s).seq, white := (epochCarry s).white, black := (epochCarry s).black } ∧
    (epochCarry s).white.role = s.white.role ∧ (epochCarry s).black.role = s.black.role ∧
    (epochCarry s).seq = { s.seq with epochEnd := (epochCarry s).seq.epochEnd, recs := (epochCarry s).seq.recs } := by
  have hrole (g : LaneSt) (e : Nat) :
      (if g.role = .out then g else { g with nvm := { g.nvm.programmed with epoch := e } }).role = g.role := by split <;> rfl
  unfold epochCarry
  dsimp only
  split
  · split
    · exact ⟨rfl, hrole .., hrole .., rfl⟩
    · exact ⟨rfl, hrole .., hrole .., rfl⟩
  · exact ⟨rfl, rfl, rfl, rfl⟩

/-- The marker at time `b` of a window that holds nothing. -/
structure Opened (b : Nat) (s u : State) : Prop where
  window : ∃ m : Input, u.seq.window = [m] ∧ m.seq = s.seq.next ∧ m.time = b ∧ m.src = 0
  held : u.seq.held = s.seq.held
  ground : u.ground = s.ground
  rest : u = { s with seq := u.seq, white := u.white, black := u.black }

theorem numberMarker_opens (b : Nat) {s : State} (hw : s.seq.window = []) : Opened b s (numberMarker b s) := by
  obtain ⟨hall, hwhite, hblack, hseq⟩ := epochCarry_frame s
  unfold numberMarker
  generalize epochCarry s = v at hall hwhite hblack hseq
  have hwin : v.seq.window = [] := by rw [hseq]; exact hw
  have hnext : v.seq.next = s.seq.next := by rw [hseq]
  have hrun : v.seq.running = s.seq.running := by rw [hseq]
  refine ⟨⟨⟨v.seq.next, b, 0, [], nextCount v 0, .none⟩, ?_, hnext, rfl, rfl⟩, ?_, ?_, ?_⟩
  · change v.seq.window ++ _ = _
    rw [hwin]
    rfl
  · change v.seq.held = _
    rw [hseq]
  · rw [hall]
    simp only [State.ground, afterNumber, countSource, hwhite, hblack, hrun]
  · rw [hall]
    rfl

theorem closeWindow_opens (b : Nat) {s : State} (hw : s.seq.window = []) (hh : s.seq.held = []) (hs : s.seq.spilled = 0)
    (hp : s.ply.phase = .none) : Opened b s (closeWindow b s) := by
  have hspill : spillRecord s = s := if_pos hs
  have hmark := numberMarker_opens b hw
  unfold closeWindow
  rw [hspill]
  generalize numberMarker b s = u at hmark
  obtain ⟨hwindow, hheld, hground, hrest⟩ := hmark
  have hphase : u.ply.phase = .none := (congrArg (fun v : State => v.ply.phase) hrest).trans hp
  dsimp only
  rw [hphase, if_neg (by decide)]
  have hlist : numberHeld false u = { u with seq := { u.seq with held := [] } } := by
    unfold numberHeld
    rw [hheld, hh]
    rfl
  rw [hlist]
  exact ⟨hwindow, hh.symm, hground, by rw [hrest]⟩

/-! ### The ply of that marker -/

theorem recordPromo_none {n : Nat} {s : State} (h : s.lanes.promo = none) : recordPromo n s = s := by
  unfold recordPromo
  rw [h]

theorem setSrams_frame (ws : List Word) (a : Nat) (s : State) : s.setSrams a ws = { s with sram := (s.setSrams a ws).sram } := by
  induction ws generalizing s a with
  | nil => rfl
  | cons w ws ih => exact (ih (a + 1) (s.setSram a w)).trans rfl

theorem placeRecord_frame (i : Input) (s : State) : placeRecord i s = { s with sram := (placeRecord i s).sram, free := s.free + 1 } := by
  exact congrArg (fun v : State => { v with free := s.free + 1 }) (setSrams_frame (inputWords i) _ s)

/-- The state in which phase A of the ply of marker `m` begins. -/
def atMarker (m : Input) (s : State) : State :=
  placeRecord m { s with ply := plyOf m s, seq := { s.seq with window := [], due := s.seq.due ++ [], recs := [] } }

/-- Without a castling, a promotion, an activation or a change of the power state, a ply that begins afresh has the boundary and
the number of its marker. -/
theorem ground_startPly {s : State} {m : Input} (hp : s.ply = Ply.reset) (hw : s.seq.window = [m]) (hm : m.src = 0)
    (hc : s.lanes.castle = none) (hpromo : s.lanes.promo = none) (hu : s.upd.stage = .idle) (hn : s.pwr.next = none) :
    (startPly s).ground = { s.ground with boundary := m.time, number := m.seq, phase := .a } := by
  have heq : startPly s = phaseA (recordPromo m.seq (atMarker m s)) := by
    unfold startPly
    have hover : plyOver s = true := by simp [plyOver, hp, Ply.reset]
    rw [if_pos hover]
    have htake : [m].takeWhile (fun i => decide (i.src ≠ 0)) = [] := by simp [hm]
    have hdrop : [m].dropWhile (fun i => decide (i.src ≠ 0)) = [m] := by simp [hm]
    rw [hw, htake, hdrop]
    dsimp only
    rw [hp, if_neg (by simp [Ply.reset])]
    rfl
  have hground : (atMarker m s).ground = { s.ground with boundary := m.time, number := m.seq, phase := .a } := by
    unfold atMarker
    rw [placeRecord_frame]
    unfold plyOf
    rw [hp]
    rfl
  have hrest : (atMarker m s).lanes = s.lanes ∧ (atMarker m s).upd = s.upd ∧ (atMarker m s).pwr = s.pwr := by
    unfold atMarker
    rw [placeRecord_frame]
    exact ⟨rfl, rfl, rfl⟩
  generalize atMarker m s = u at heq hground hrest
  obtain ⟨hlanes, hupd, hpwr⟩ := hrest
  rw [heq, recordPromo_none (by rw [hlanes]; exact hpromo),
    ground_phaseA (by rw [hlanes]; exact hc) (by rw [hupd]; exact hu) (by rw [hpwr]; exact hn), hground]

end Sys2Proof.Machine
end

section
/-! EXEC. M12: the first active ply (R63, R67, R73, R78, R464, R558). -/

namespace Sys2Proof.Machine

open Sys2Proof

theorem exec_firstActivePly (ms : BitVec 8) (s : State) : exec (.firstActivePly ms) s = .next (firstActivePly ms.toNat s) := rfl

/-! ### The steps of M12 -/

/-- The lanes take their roles, with the lifetime counters and the wake levels. -/
def takesOver (l : Lane) (peer solo : Bool) (ms : Nat) (s : State) : State :=
  let o := otherLane l
  let s := s.modLane l fun g => { g with role := .active, boot := .started, stale := false }
  let s := if peer then s.modLane o fun g => { g with role := .standby, boot := .started, stale := false } else s
  let s := setStartStatus l true peer solo ms s
  let s := if peer then setStartStatus o false true solo ms s else s
  let s := restoreLife l s
  s.setCopies (levelCopy s)

/-- The time base starts at 0, and numbering begins. -/
def numbers (l : Lane) (s : State) : State :=
  { s with
    now := 0, seq := { s.seq with running := true }, ply := Ply.reset, log := [], ring := [], ringLost := 0,
    lanes := { s.lanes with start := none, solo := false },
    pwr := { s.pwr with
      elapsed := s.clock, state := .idle, entering := false, clk := (s.lane l).clk250, locked := (s.lane l).clk250, next := none },
    upd := if (s.upd.stage = .first ∨ s.upd.stage = .castling) ∧ s.upd.firstLane = l
      then { s.upd with stage := .second, pauseFrom := 0 } else s.upd }

/-- The first ply begins, and every target is sent the restore sequence. -/
def firstPly (s : State) : State :=
  let s := startPly (closeWindow 0 s)
  emit ((List.range 45).map fun t => (t, Content.restore 0 s.ply.number 0)) s

/-- M12 of lane `l`, which takes nothing over: with or without a peer, alone or not, and at a wake or not. -/
def startsFrom (l : Lane) (peer solo waking : Bool) (ms : Nat) (s : State) : State :=
  let o := otherLane l
  let s := firstPly (wakeInputs l (startRecords l (numbers l (takesOver l peer solo ms s))))
  let s := if waking then wakeAccess s else s
  let s := { s with pwr := { s.pwr with waking := false } }
  if !peer && decide ((s.lane o).boot = .waiting) then restartReady o s else s

/-- M12 of lane `l`. -/
def startsUp (l : Lane) (ms : Nat) (s : State) : State :=
  let s := if (s.lane l).restarted then startAnew l s else s
  startsFrom l (!s.lanes.solo && decide ((s.lane (otherLane l)).boot = .waiting)) s.lanes.solo s.pwr.waking ms s

theorem firstActivePly_eq (ms : Nat) (s : State) : firstActivePly ms s =
    match s.lanes.start, activeLane s with
    | some l, none => startsUp l ms s
    | _, _ => s := rfl

theorem firstActivePly_none {ms : BitVec 8} {s : State} (h : s.lanes.start = none) : exec (.firstActivePly ms) s = .next s := by
  rw [exec_firstActivePly, firstActivePly_eq, h]

/-! ### What the lanes take over -/

theorem setCopies_frame (ps : List (Nat × Word)) (s : State) : s.setCopies ps = { s with copy := (s.setCopies ps).copy } := by
  induction ps generalizing s with
  | nil => rfl
  | cons p ps ih => exact (ih (s.setCopy p.1 p.2)).trans rfl

theorem restoreLife_role (l k : Lane) (s : State) : ((restoreLife l s).lane k).role = (s.lane k).role := by
  unfold restoreLife
  dsimp only
  rw [State.mapLanes_lane]
  cases k <;> exact (apply_ite LaneSt.role ..).trans (ite_self _)

theorem restoreLife_frame (l : Lane) (s : State) : restoreLife l s = { s with
    white := (restoreLife l s).white, black := (restoreLife l s).black, life := (restoreLife l s).life } := rfl

/-- The lanes with the roles and the start status of a start. -/
def rolesTaken (l : Lane) (ms : Nat) (s : State) : State :=
  setStartStatus (otherLane l) false true false ms (setStartStatus l true true false ms
    ((s.modLane l fun g => { g with role := .active, boot := .started, stale := false }).modLane (otherLane l)
      fun g => { g with role := .standby, boot := .started, stale := false }))

theorem takesOver_eq (l : Lane) (ms : Nat) (s : State) : takesOver l true false ms s =
    (restoreLife l (rolesTaken l ms s)).setCopies (levelCopy (restoreLife l (rolesTaken l ms s))) := rfl

theorem rolesTaken_lanes (l : Lane) (ms : Nat) (s : State) : LanesOnly s (rolesTaken l ms s) :=
  (LanesOnly.setLane s l _).trans ((LanesOnly.setLane ..).trans ((LanesOnly.setLane ..).trans (LanesOnly.setLane ..)))

theorem rolesTaken_role (l : Lane) (ms : Nat) (s : State) :
    ((rolesTaken l ms s).lane l).role = .active ∧ ((rolesTaken l ms s).lane (otherLane l)).role = .standby := by
  cases l <;> exact ⟨rfl, rfl⟩

/-- Beside its lanes, the lifetime counters and the copy, a start leaves the state. -/
theorem takesOver_frame (l : Lane) (ms : Nat) (s : State) : ∃ w b life copy,
    takesOver l true false ms s = { s with white := w, black := b, life := life, copy := copy } := by
  rw [takesOver_eq]
  obtain ⟨w, b, hlanes⟩ : ∃ w b, rolesTaken l ms s = { s with white := w, black := b } := ⟨_, _, rolesTaken_lanes l ms s⟩
  obtain ⟨w', b', life, hlife⟩ : ∃ w b life, restoreLife l (rolesTaken l ms s) = { s with white := w, black := b, life := life } :=
    ⟨_, _, _, (restoreLife_frame l _).trans (by rw [hlanes])⟩
  exact ⟨w', b', life, _, (setCopies_frame _ _).trans (by rw [hlife])⟩

theorem takesOver_role (l : Lane) (ms : Nat) (s : State) :
    ((takesOver l true false ms s).lane l).role = .active ∧ ((takesOver l true false ms s).lane (otherLane l)).role = .standby := by
  have hrole (k : Lane) : ((takesOver l true false ms s).lane k).role = ((rolesTaken l ms s).lane k).role := by
    refine .trans ?_ (restoreLife_role l k _)
    rw [takesOver_eq, setCopies_frame]
    cases k <;> rfl
  rw [hrole, hrole]
  exact rolesTaken_role l ms s

theorem startRecords_frame (l : Lane) (s : State) :
    startRecords l s = { s with seq := { s.seq with recs := (startRecords l s).seq.recs } } := rfl

theorem wakeInputs_asleep {l : Lane} {s : State} (h : s.pwr.waking = false) : wakeInputs l s = s := by
  unfold wakeInputs
  rw [h]
  rfl

end Sys2Proof.Machine
end


section
/-! EXEC. What the first active ply begins with, and the starts as a whole (R63, R65, R67 to R71, R73, R78, R100, R477 to R479, R558). -/

namespace Sys2Proof.Machine

open Sys2Proof

/-- A state in which the first ply may begin: nothing is numbered, and no change of the roles, the firmware or the power state waits. -/
structure Fresh (s : State) : Prop where
  window : s.seq.window = []
  held : s.seq.held = []
  spilled : s.seq.spilled = 0
  ply : s.ply = Ply.reset
  castle : s.lanes.castle = none
  promo : s.lanes.promo = none
  stage : s.upd.stage = .idle
  next : s.pwr.next = none

theorem firstPly_ground {s : State} (h : Fresh s) :
    (firstPly s).ground = { s.ground with boundary := 0, number := s.seq.next, phase := .a } ∧
    ∀ t : Fin 45, ((t : Nat), Content.restore 0 s.seq.next 0) ∈ (firstPly s).ply.cmds := by
  obtain ⟨hwindow, hheld, hspilled, hply, hcastle, hpromo, hstage, hnext⟩ := h
  have hopen := closeWindow_opens 0 hwindow hheld hspilled (by rw [hply]; rfl)
  unfold firstPly
  generalize closeWindow 0 s = v at hopen ⊢
  obtain ⟨⟨m, hm, hseq, htime, hsrc⟩, -, hground, hrest⟩ := hopen
  have hrest' : v.ply = s.ply ∧ v.lanes = s.lanes ∧ v.upd = s.upd ∧ v.pwr = s.pwr := by
    rw [hrest]
    exact ⟨rfl, rfl, rfl, rfl⟩
  obtain ⟨hp, hl, hu, hw⟩ := hrest'
  have hstart := ground_startPly (hp.trans hply) hm hsrc (by rw [hl, hcastle]) (by rw [hl, hpromo]) (by rw [hu, hstage]) (by rw [hw, hnext])
  rw [hground, htime, hseq] at hstart
  generalize startPly v = u at hstart ⊢
  have hnumber : u.ply.number = s.seq.next := congrArg Ground.number hstart
  refine ⟨(ground_emit ..).trans hstart, fun t => ?_⟩
  dsimp only
  rw [hnumber]
  exact List.mem_append_right _ (List.mem_map.2 ⟨t, List.mem_range.2 t.isLt, rfl⟩)

theorem numbers_fresh {l : Lane} {s : State} (hstage : s.upd.stage = .idle) (hcastle : s.lanes.castle = none)
    (hpromo : s.lanes.promo = none) (hwindow : s.seq.window = []) (hheld : s.seq.held = []) (hspilled : s.seq.spilled = 0) :
    Fresh (numbers l s) where
  window := hwindow
  held := hheld
  spilled := hspilled
  ply := rfl
  castle := hcastle
  promo := hpromo
  stage := (congrArg Upd.stage (if_neg (by simp [hstage]))).trans hstage
  next := rfl

theorem numbers_ground (l : Lane) (s : State) : (numbers l s).ground =
    ⟨0, s.clock, true, 0, 0, .none, .idle, none, [], [], s.white.role, s.black.role⟩ := rfl

theorem startsUp_eq {l : Lane} {ms : Nat} {s : State} (hr : (s.lane l).restarted = false)
    (hb : (s.lane (otherLane l)).boot = .waiting) (hsolo : s.lanes.solo = false) (hw : s.pwr.waking = false) :
    startsUp l ms s = { firstPly (startRecords l (numbers l (takesOver l true false ms s))) with
      pwr := { (firstPly (startRecords l (numbers l (takesOver l true false ms s)))).pwr with waking := false } } := by
  obtain ⟨w, b, life, copy, htaken⟩ := takesOver_frame l ms s
  have hwake : (startRecords l (numbers l (takesOver l true false ms s))).pwr.waking = false := by
    rw [htaken]
    exact hw
  have hkept : (if (s.lane l).restarted = true then startAnew l s else s) = s := if_neg (by rw [hr]; decide)
  unfold startsUp
  dsimp only
  rw [hkept, hsolo, hb, hw]
  change startsFrom l true false false ms s = _
  unfold startsFrom
  rw [wakeInputs_asleep hwake]
  rfl

theorem firstActivePly_settles {s : State} (ms : BitVec 8) {l : Lane} (hs : s.lanes.start = some l) (ha : activeLane s = none)
    (hr : (s.lane l).restarted = false) (hb : (s.lane (otherLane l)).boot = .waiting) (hsolo : s.lanes.solo = false)
    (hw : s.pwr.waking = false) (hstage : s.upd.stage = .idle) (hcastle : s.lanes.castle = none) (hpromo : s.lanes.promo = none)
    (hwindow : s.seq.window = []) (hheld : s.seq.held = []) (hspilled : s.seq.spilled = 0) :
    Completes (.firstActivePly ms) s fun u =>
      (u.lane l).role = .active ∧ (u.lane (otherLane l)).role = .standby ∧ u.seq.running = true ∧ u.ply.boundary = 0 ∧
      u.pwr.elapsed = s.clock ∧ u.now = 0 ∧ u.ply.number = s.seq.next ∧ u.ply.phase = .a ∧ u.ring = [] ∧ u.log = [] ∧ u.lanes.start = none ∧
      u.pwr.state = .idle ∧ ∀ t : Fin 45, ((t : Nat), Content.restore 0 s.seq.next 0) ∈ u.ply.cmds := by
  have heq : firstActivePly ms.toNat s = startsUp l ms.toNat s := by rw [firstActivePly_eq, hs, ha]
  refine .of_next ((exec_firstActivePly ms s).trans (congrArg _ (heq.trans (startsUp_eq hr hb hsolo hw)))) ?_
  have hroles := takesOver_role l ms.toNat s
  obtain ⟨w, b, life, copy, htaken⟩ := takesOver_frame l ms.toNat s
  rw [htaken] at hroles ⊢
  have hfresh : Fresh (startRecords l (numbers l { s with white := w, black := b, life := life, copy := copy })) := by
    obtain ⟨h₁, h₂, h₃, h₄, h₅, h₆, h₇, h₈⟩ := numbers_fresh (l := l) (s := { s with white := w, black := b, life := life, copy := copy })
      hstage hcastle hpromo hwindow hheld hspilled
    exact ⟨h₁, h₂, h₃, h₄, h₅, h₆, h₇, h₈⟩
  obtain ⟨hground, hcmds⟩ := firstPly_ground hfresh
  generalize firstPly (startRecords l (numbers l { s with white := w, black := b, life := life, copy := copy })) = u at hground hcmds ⊢
  have hwhite : u.white.role = w.role := congrArg Ground.white hground
  have hblack : u.black.role = b.role := congrArg Ground.black hground
  refine ⟨?_, ?_, congrArg Ground.running hground, congrArg Ground.boundary hground, congrArg Ground.elapsed hground,
    congrArg Ground.now hground, congrArg Ground.number hground, congrArg Ground.phase hground, congrArg Ground.ring hground,
    congrArg Ground.log hground, congrArg Ground.start hground, congrArg Ground.power hground, hcmds⟩
  · cases l
    · exact hwhite.trans hroles.1
    · exact hblack.trans hroles.1
  · cases l
    · exact hblack.trans hroles.2
    · exact hwhite.trans hroles.2

/-- Settles O54: each start by the lemma on its event, and the first active ply through the ground that phase A keeps. -/
theorem startSequence : Obligations.StartSequence := by
  unfold Obligations.StartSequence
  intro s
  refine ⟨coldStart_settles s, fun l => ?_, fun hwb hbb ha hs hwd hbd hi hc hw => (lanesMeet_settles hwb hbb ha hs hw).1 hwd hbd hi hc,
    fun l hwb hbb ha hs hd ho hw => (lanesMeet_settles hwb hbb ha hs hw).2 l hd ho, lanesMeet_unready,
    fun hs ms => firstActivePly_none hs, fun ms l hs ha hr hb hsolo hw hstage hcastle hpromo hwindow hheld hspilled _ =>
      firstActivePly_settles ms hs ha hr hb hsolo hw hstage hcastle hpromo hwindow hheld hspilled⟩
  intro g o
  obtain ⟨h₁, h₂, h₃⟩ := laneResetRelease_settles s l
  obtain ⟨h₄, h₅, h₆⟩ := pllLocked_settles s l
  exact ⟨h₁, h₂, h₃, h₄, h₅, h₆, fun act fb i j hb => imageVerified_settles s l act fb i j hb,
    fun i hb ha => configApplied_settles hb ha, fun hb ho ha hs hd hw => soloTimeout_settles hb ho ha hs hd hw⟩

end Sys2Proof.Machine
end

section
/-! Every operation keeps the queue of commands. The `_kept` lemmas above assume the invariant; these hold from every state.
The choices and folds that operations are built of, and the operations of sessions, targets, units and records. -/

namespace Sys2Proof.Machine

open Sys2Proof

theorem queue_ite {c : Prop} [Decidable c] {a b : State} {q : List Instr} (ha : a.pending = q) (hb : b.pending = q) :
    (if c then a else b).pending = q := by
  split <;> assumption

theorem queue_ite2 {α : Type} {c : Prop} [Decidable c] {a b : α × State} {q : List Instr} (ha : a.2.pending = q) (hb : b.2.pending = q) :
    (if c then a else b).2.pending = q := by
  split <;> assumption

theorem queue_ite3 {α β : Type} {c : Prop} [Decidable c] {a b : α × β × State} {q : List Instr} (ha : a.2.2.pending = q)
    (hb : b.2.2.pending = q) : (if c then a else b).2.2.pending = q := by
  split <;> assumption

theorem queue_ite4 {α β γ : Type} {c : Prop} [Decidable c] {a b : α × β × γ × State} {q : List Instr} (ha : a.2.2.2.pending = q)
    (hb : b.2.2.2.pending = q) : (if c then a else b).2.2.2.pending = q := by
  split <;> assumption

theorem queue_foldl {ι : Type} {F : State → ι → State} (hF : ∀ s k, (F s k).pending = s.pending) (ks : List ι) (s : State) :
    (ks.foldl F s).pending = s.pending :=
  foldl_keeps State.pending hF ks s

theorem queue_foldl2 {α ι : Type} {F : α × State → ι → α × State} (hF : ∀ r k, (F r k).2.pending = r.2.pending) (ks : List ι) (r : α × State) :
    (ks.foldl F r).2.pending = r.2.pending := by
  induction ks generalizing r with
  | nil => rfl
  | cons k ks ih => exact (ih _).trans (hF r k)

theorem queue_foldr {ι : Type} {F : ι → State → State} (hF : ∀ k s, (F k s).pending = s.pending) (ks : List ι) (s : State) :
    (ks.foldr F s).pending = s.pending := by
  induction ks with
  | nil => rfl
  | cons k ks ih => exact (hF k _).trans ih

theorem State.mapLanes_queue (s : State) (f : LaneSt → LaneSt) : (State.mapLanes s f).pending = s.pending := rfl

theorem dropHostLocks_queue (s : State) : (dropHostLocks s).pending = s.pending := by
  unfold dropHostLocks
  exact queue_ite (State.mapLanes_queue ..) rfl

theorem State.setLane_queue (s : State) (l : Lane) (g : LaneSt) : (State.setLane s l g).pending = s.pending := by
  unfold State.setLane
  split <;> rfl

theorem State.modLane_queue (s : State) (l : Lane) (f : LaneSt → LaneSt) : (State.modLane s l f).pending = s.pending := by
  unfold State.modLane
  exact State.setLane_queue ..

theorem addFrames_queue (fs : List Frame) (s : State) : (addFrames fs s).pending = s.pending := by
  unfold addFrames
  split
  · rfl
  · exact queue_ite rfl rfl

theorem plainReply_queue (p : Packet) (key : Option Nat) (status seq : Nat) (s : State) : (plainReply p key status seq s).pending =
    s.pending := by
  unfold plainReply
  exact addFrames_queue ..

theorem laneRecord_queue (r : RecDraft) (s : State) : (laneRecord r s).pending = s.pending := rfl

theorem answerFailed_queue (p : Packet) (seq : Nat) (s : State) : (answerFailed p seq s).pending = s.pending := by
  unfold answerFailed
  exact (queue_ite (State.modLane_queue ..) ((plainReply_queue ..).trans (by
    split
    · rfl
    · rfl))).trans (laneRecord_queue ..)

theorem setSession_queue (r : Option Lane) (k : Nat) (x : Session) (s : State) : (setSession r k x s).pending = s.pending := by
  unfold setSession
  split
  · rfl
  · exact State.modLane_queue ..

theorem hello_queue (r : Option Lane) (p : Packet) (s : State) : (hello r p s).2.2.2.pending = s.pending := by
  unfold hello
  refine queue_ite4 rfl (queue_ite4 rfl (queue_ite4 rfl (queue_ite4 rfl ?_)))
  cases r with
  | none => exact setSession_queue ..
  | some l => exact (State.modLane_queue ..).trans (setSession_queue ..)

theorem executeHello_queue (p : Packet) (seq : Nat) (s : State) : (executeHello p seq s).pending = s.pending := by
  unfold executeHello
  exact queue_ite (plainReply_queue ..) (queue_ite (plainReply_queue ..) (queue_ite (plainReply_queue ..) ((addFrames_queue ..).trans
    (hello_queue ..))))

theorem giveReply_queue (p : Packet) (fs : List Frame) (s : State) : (giveReply p fs s).pending = s.pending := by
  unfold giveReply
  exact (addFrames_queue ..).trans (by
    split
    · exact setSession_queue ..
    · rfl)

theorem closeSession_queue (r : Option Lane) (k cause : Nat) (s : State) : (closeSession r k cause s).pending = s.pending := by
  unfold closeSession
  split
  · split
    · rfl
    · exact laneRecord_queue ..
  · exact State.modLane_queue ..

theorem executeClose_queue (p : Packet) (seq k : Nat) (x : Session) (s : State) : (executeClose p seq k x s).pending = s.pending := by
  unfold executeClose
  exact queue_ite (giveReply_queue ..) ((plainReply_queue ..).trans (closeSession_queue ..))

theorem emit_queue (cs : List (Nat × Content)) (s : State) : (emit cs s).pending = s.pending := rfl

theorem State.setTgt_queue (s : State) (t : Nat) (g : Target) : (State.setTgt s t g).pending = s.pending := rfl

theorem State.modTgt_queue (s : State) (t : Nat) (f : Target → Target) : (State.modTgt s t f).pending = s.pending := by
  unfold State.modTgt
  exact State.setTgt_queue ..

theorem cancelCastle_queue (s : State) : (cancelCastle s).pending = s.pending := by
  unfold cancelCastle
  split
  · rfl
  · extract_lets a claimed _ closed _ answered
    have hclaimed : claimed.pending = s.pending :=
      queue_ite ((emit_queue ..).trans (queue_foldl (fun _ _ => State.modTgt_queue ..) ..)) rfl
    have hanswered : answered.pending = s.pending := by
      unfold answered
      split <;> exact hclaimed
    exact (laneRecord_queue ..).trans hanswered

theorem checkCastle_queue (s : State) : (checkCastle s).pending = s.pending := by
  unfold checkCastle
  exact queue_ite rfl (cancelCastle_queue ..)

theorem castleRequest_queue (req : Option CastleReq) (cov : Bool) (s : State) : (castleRequest req cov s).pending = s.pending := by
  unfold castleRequest
  exact queue_ite (checkCastle_queue ..) rfl

theorem noteLate_queue (l : Lane) (seq : Nat) (ws : List Word) (s : State) : (noteLate l seq ws s).pending = s.pending := by
  unfold noteLate
  exact queue_ite rfl rfl

theorem answerOnly_queue (status : Nat) (s : State) : (answerOnly status s).2.2.pending = s.pending := rfl

theorem opModuleReset_queue (l : Lane) (ws : List Word) (s : State) : (opModuleReset l ws s).2.2.pending = s.pending := by
  unfold opModuleReset
  split
  · exact queue_ite3 (answerOnly_queue ..) (answerOnly_queue ..)
  · exact answerOnly_queue ..

theorem boardPresent_queue (l : Lane) (t a : Nat) (r : BoardReq) (s : State) : (boardPresent l t a r s).2.pending = s.pending := by
  unfold boardPresent
  exact queue_ite2 rfl (by
    split
    · exact State.setLane_queue ..
    · exact queue_ite2 (State.setLane_queue ..) (State.setLane_queue ..))

theorem presentBoth_queue (t a : Nat) (r : BoardReq) (s : State) : (presentBoth t a r s).2.pending = s.pending := by
  unfold presentBoth
  exact (boardPresent_queue ..).trans (queue_ite (boardPresent_queue ..) rfl)

theorem parkAccess_queue (m a : Nat) (wr : Bool) (t : Nat) (s : State) : (parkAccess m a wr t s).pending = s.pending := by
  unfold parkAccess
  split
  · exact presentBoth_queue ..
  · rfl

theorem blockOn_queue (m : Nat) (pts : List (Nat × Bool)) (s : State) : (blockOn m pts s).pending = s.pending := by
  unfold blockOn
  split
  · exact parkAccess_queue ..
  · rfl

theorem State.setLive_queue (s : State) (a : Nat) (v : Word) : (State.setLive s a v).pending = s.pending := rfl

theorem State.setCopy_queue (s : State) (a : Nat) (v : Word) : (State.setCopy s a v).pending = s.pending := rfl

theorem clearRc_queue (a : Nat) (s : State) : (clearRc a s).pending = s.pending := by
  unfold clearRc
  exact (queue_ite rfl (State.setLive_queue ..)).trans (queue_ite rfl (State.setCopy_queue ..))

theorem mbxLater_queue (k : Nat) (e : MbxLater) (s : State) : (mbxLater k e s).pending = s.pending := rfl

theorem sstatRead_queue (k : Nat) (s : State) : (sstatRead k s).pending = s.pending := by
  unfold sstatRead
  exact queue_ite rfl (mbxLater_queue ..)

theorem State.setCore_queue (s : State) (c : Nat) (k : Kwask) : (State.setCore s c k).pending = s.pending := rfl

theorem State.modCore_queue (s : State) (c : Nat) (f : Kwask → Kwask) : (State.modCore s c f).pending = s.pending := by
  unfold State.modCore
  exact State.setCore_queue ..

theorem latchCounters_queue (l : Lane) (m : Nat) (s : State) : (latchCounters l m s).pending = s.pending := by
  unfold latchCounters
  exact State.modLane_queue ..

theorem latchTime_queue (l : Lane) (m : Nat) (s : State) : (latchTime l m s).pending = s.pending := by
  unfold latchTime
  exact State.modLane_queue ..

theorem touchLane_queue (m a : Nat) (s : State) (l : Lane) : (touchLane m a s l).pending = s.pending := by
  unfold touchLane
  exact queue_ite (latchCounters_queue ..) (queue_ite (latchTime_queue ..) (queue_ite (State.modLane_queue ..) (queue_ite
    (State.modLane_queue ..) (queue_ite (State.modLane_queue ..) rfl))))

theorem pointTouch_queue (ls : List Lane) (m a : Nat) (s : State) : (pointTouch ls m a s).pending = s.pending := by
  unfold pointTouch
  extract_lets v
  have hv : v.pending = s.pending := queue_foldl (fun _ _ => touchLane_queue ..) ..
  exact queue_ite ((clearRc_queue ..).trans hv) (queue_ite ((sstatRead_queue ..).trans hv)
    (queue_ite ((State.modCore_queue ..).trans hv) (queue_ite hv hv)))

theorem readOn_queue (v : Lane) (m a : Nat) (s : State) : (readOn v m a s).2.pending = s.pending := by
  unfold readOn
  exact pointTouch_queue ..

theorem pointRead_queue (m a : Nat) (s : State) : (pointRead m a s).2.pending = s.pending := by
  unfold pointRead
  exact readOn_queue ..

theorem writeRefused_queue (m a : Nat) (v : Word) (s : State) : (writeRefused m a v s).pending = s.pending := by
  unfold writeRefused
  exact laneRecord_queue ..

theorem State.setDma_queue (s : State) (e : Nat) (d : Dma) : (State.setDma s e d).pending = s.pending := rfl

theorem dmaStart_queue (m e : Nat) (s : State) : (dmaStart m e s).pending = s.pending := by
  unfold dmaStart
  exact queue_ite (writeRefused_queue ..) (State.setDma_queue ..)

theorem dropTileWrites_queue (m : Nat) (s : State) : (dropTileWrites m s).pending = s.pending := rfl

theorem State.setBus_queue (s : State) (b : Nat) (x : Bus) : (State.setBus s b x).pending = s.pending := rfl

theorem State.modBus_queue (s : State) (b : Nat) (f : Bus → Bus) : (State.modBus s b f).pending = s.pending := by
  unfold State.modBus
  exact State.setBus_queue ..

theorem dropFrames_queue (m : Nat) (s : State) : (dropFrames m s).pending = s.pending := by
  unfold dropFrames
  exact queue_foldl (fun _ _ => queue_ite ((State.setLive_queue ..).trans ((State.setCopy_queue ..).trans (State.modBus_queue ..)))
    rfl) ..

theorem State.clearCopy_queue (s : State) (r : Nat × Nat) : (State.clearCopy s r).pending = s.pending := rfl

theorem clearCompose_queue (m : Nat) (s : State) : (clearCompose m s).pending = s.pending := by
  unfold clearCompose
  exact queue_foldl (fun _ _ => queue_ite (State.clearCopy_queue ..) rfl) ..

theorem recoverLock_queue (t m : Nat) (wrote : Bool) (s : State) : (recoverLock t m wrote s).2.pending = s.pending := by
  unfold recoverLock
  split
  · exact dropTileWrites_queue ..
  · exact show (dropFrames m s).pending = s.pending from dropFrames_queue m s
  · exact show (clearCompose m s).pending = s.pending from clearCompose_queue m s
  all_goals rfl

theorem abandonIn_queue (ls : List Lane) (m t : Nat) (s : State) : (abandonIn ls m t s).pending = s.pending := by
  unfold abandonIn
  exact queue_ite rfl ((queue_ite (laneRecord_queue ..) rfl).trans ((queue_foldl (fun _ _ => State.modLane_queue ..) ..).trans
    (recoverLock_queue ..)))

theorem abandonLocksIn_queue (ls : List Lane) (m : Nat) (s : State) : (abandonLocksIn ls m s).pending = s.pending := by
  unfold abandonLocksIn
  exact queue_foldl (fun _ _ => abandonIn_queue ..) ..

theorem abandonLocks_queue (m : Nat) (s : State) : (abandonLocks m s).pending = s.pending := by
  unfold abandonLocks
  exact abandonLocksIn_queue ..

theorem dmaAbort_queue (e n : Nat) (s : State) : (dmaAbort e n s).pending = s.pending := by
  unfold dmaAbort
  exact (abandonLocks_queue ..).trans (queue_ite (State.setDma_queue ..) rfl)

theorem dmaCtlWrite_queue (m e : Nat) (v : Word) (s : State) : (dmaCtlWrite m e v s).pending = s.pending := by
  unfold dmaCtlWrite
  exact (queue_ite (dmaStart_queue ..) rfl).trans (queue_ite (dmaAbort_queue ..) rfl)

theorem State.setSram_queue (s : State) (a : Nat) (v : Word) : (State.setSram s a v).pending = s.pending := rfl

theorem laneLocalWrite_queue (m a : Nat) (v : Word) (s : State) (l : Lane) : (laneLocalWrite m a v s l).pending = s.pending := by
  unfold laneLocalWrite
  exact queue_ite (State.modLane_queue ..) (queue_ite (queue_ite (State.modLane_queue ..) rfl) (queue_ite (State.modLane_queue ..) rfl))

theorem eachLaneWrite_queue (m a : Nat) (v : Word) (s : State) : (eachLaneWrite m a v s).pending = s.pending := by
  unfold eachLaneWrite
  exact queue_foldl (fun _ _ => laneLocalWrite_queue ..) ..

theorem unitWrite_queue (m a : Nat) (v : Word) (s : State) : (unitWrite m a v s).pending = s.pending := by
  refine queue_foldl (fun s b => ?_) _ s
  split <;> rfl

theorem measWrite_queue (m a : Nat) (v : Word) (s : State) : (measWrite m a v s).pending = s.pending := by
  unfold measWrite
  exact (queue_ite (writeRefused_queue ..) rfl).trans (by
    split
    · rfl
    · rfl)

theorem dmaFieldWrite_queue (m e off : Nat) (v : Word) (s : State) : (dmaFieldWrite m e off v s).pending = s.pending := by
  unfold dmaFieldWrite
  exact queue_ite (writeRefused_queue ..) rfl

theorem refuseBus_queue (b reason a : Nat) (v : Word) (s : State) : (refuseBus b reason a v s).pending = s.pending := by
  unfold refuseBus
  exact State.modTgt_queue ..

theorem afterNumber_queue (n : Nat) (s : State) : (afterNumber n s).pending = s.pending := rfl

theorem epochCarry_queue (s : State) : (epochCarry s).pending = s.pending := by
  unfold epochCarry
  exact queue_ite ((queue_ite (State.mapLanes_queue ..) rfl).trans (State.mapLanes_queue ..)) rfl

theorem numberInput_queue (t : Nat) (i : Input) (s : State) : (numberInput t i s).pending = s.pending := by
  unfold numberInput
  exact (afterNumber_queue ..).trans (epochCarry_queue ..)

theorem countSource_queue (src : Nat) (s : State) : (countSource src s).pending = s.pending := rfl

theorem present_queue (src : Nat) (payload : List Word) (act : Act) (s : State) : (present src payload act s).pending = s.pending := by
  simp only [present, numberInput_queue, countSource_queue, apply_ite State.pending, ite_self]

theorem countsShown_queue (b : Nat) (s : State) : (countsShown b s).pending = s.pending := by
  unfold countsShown
  exact State.modBus_queue ..

theorem presentBus_queue (b : Nat) (ws : List Word) (recs : List RecDraft) (s : State) : (presentBus b ws recs s).pending = s.pending
    := by
  unfold presentBus
  exact (present_queue ..).trans (countsShown_queue ..)

theorem busNotSent_queue (b tag reason : Nat) (s : State) : (busNotSent b tag reason s).pending = s.pending := by
  unfold busNotSent
  exact presentBus_queue ..

theorem submitWrite_queue (b : Nat) (v : Word) (s : State) : (submitWrite b v s).pending = s.pending := by
  unfold submitWrite
  exact queue_ite (emit_queue ..) (queue_ite (refuseBus_queue ..) (queue_ite (busNotSent_queue ..) (emit_queue ..)))

theorem busqWrite_queue (m a : Nat) (v : Word) (s : State) : (busqWrite m a v s).pending = s.pending := by
  unfold busqWrite
  refine queue_ite rfl ?_
  split
  · exact queue_ite (refuseBus_queue ..) rfl
  · exact (submitWrite_queue ..).trans (State.modBus_queue ..)
  · exact unitWrite_queue ..
  · rfl
  · rfl

theorem hostWrite_queue (m a : Nat) (v : Word) (s : State) : (hostWrite m a v s).pending = s.pending := by
  unfold hostWrite
  exact queue_ite ((queue_ite (writeRefused_queue ..) rfl).trans (queue_ite rfl rfl)) (queue_ite rfl (writeRefused_queue ..))

theorem mbxCfgWrite_queue (m k : Nat) (v : Word) (s : State) : (mbxCfgWrite m k v s).pending = s.pending := by
  unfold mbxCfgWrite
  exact queue_ite rfl (writeRefused_queue ..)

theorem postMessage_queue (k : Nat) (ws : List Word) (s : State) : (postMessage k ws s).pending = s.pending := rfl

theorem postWrite_queue (m k : Nat) (v : Word) (s : State) : (postWrite m k v s).pending = s.pending := by
  unfold postWrite
  exact queue_ite (writeRefused_queue ..) (queue_ite (postMessage_queue ..) rfl)

theorem sctlWrite_queue (m k : Nat) (v : Word) (s : State) : (sctlWrite m k v s).pending = s.pending := by
  unfold sctlWrite
  exact queue_ite (writeRefused_queue ..) (mbxLater_queue ..)

theorem sstatWrite_queue (k : Nat) (v : Word) (s : State) : (sstatWrite k v s).pending = s.pending := by
  unfold sstatWrite
  exact mbxLater_queue ..

theorem rstatWrite_queue (k : Nat) (v : Word) (s : State) : (rstatWrite k v s).pending = s.pending := by
  unfold rstatWrite
  exact queue_ite (mbxLater_queue ..) rfl

theorem ackMessages_queue (k n : Nat) (s : State) : (ackMessages k n s).pending = s.pending := by
  unfold ackMessages
  exact queue_ite rfl rfl

theorem ackWrite_queue (m k : Nat) (v : Word) (s : State) : (ackWrite m k v s).pending = s.pending := by
  unfold ackWrite
  exact queue_ite (writeRefused_queue ..) (ackMessages_queue ..)

theorem mbxCtlWrite_queue (m : Nat) (v : Word) (s : State) : (mbxCtlWrite m v s).pending = s.pending := by
  unfold mbxCtlWrite
  exact queue_ite (writeRefused_queue ..) rfl

theorem mbxWrite_queue (m a : Nat) (v : Word) (s : State) : (mbxWrite m a v s).pending = s.pending := by
  unfold mbxWrite
  dsimp only
  exact queue_ite (by
    split
    · exact mbxCfgWrite_queue ..
    · exact postWrite_queue ..
    · exact sctlWrite_queue ..
    · exact sstatWrite_queue ..
    · exact rstatWrite_queue ..
    · exact ackWrite_queue ..
    · rfl) (queue_ite (queue_ite rfl (State.setCopy_queue ..)) (queue_ite (mbxCtlWrite_queue ..) rfl))

theorem tableWrite_queue (a : Nat) (v : Word) (s : State) : (tableWrite a v s).pending = s.pending := by
  unfold tableWrite
  exact queue_ite rfl rfl

theorem commitTables_queue (s : State) : (commitTables s).pending = s.pending := rfl

theorem clearCounter_queue (t m : Nat) (s : State) : (clearCounter t m s).pending = s.pending := by
  unfold clearCounter
  exact State.mapLanes_queue ..

theorem cntSelWrite_queue (writer : Nat) (v : Word) (s : State) : (cntSelWrite writer v s).pending = s.pending := by
  unfold cntSelWrite
  exact queue_ite (writeRefused_queue ..) ((queue_ite (State.mapLanes_queue ..) rfl).trans ((queue_ite (clearCounter_queue ..)
    rfl).trans (State.setCopy_queue ..)))

theorem swinWrite_queue (m : Nat) (v : Word) (s : State) : (swinWrite m v s).pending = s.pending := by
  unfold swinWrite
  exact State.setCopy_queue ..

theorem arbWrite_queue (m a : Nat) (v : Word) (s : State) : (arbWrite m a v s).pending = s.pending := by
  unfold arbWrite
  exact queue_ite (tableWrite_queue ..) (queue_ite (queue_ite (commitTables_queue ..) rfl) (queue_ite (cntSelWrite_queue ..) (queue_ite
    (eachLaneWrite_queue ..) (queue_ite (swinWrite_queue ..) rfl))))

theorem scoLogWrite_queue (c off : Nat) (v : Word) (s : State) : (scoLogWrite c off v s).pending = s.pending := by
  unfold scoLogWrite
  exact queue_ite (State.setCopy_queue ..) (queue_ite (writeRefused_queue ..) rfl)

theorem castleInput_queue (s : State) : (castleInput s).pending = s.pending := by
  unfold castleInput
  exact present_queue ..

theorem presentLane_queue (code : Nat) (arg0 arg1 : Word) (s : State) : (presentLane code arg0 arg1 s).pending = s.pending := by
  unfold presentLane
  exact present_queue ..

theorem stageRecord_queue (l : Lane) (stage : Nat) (s : State) : (stageRecord l stage s).pending = s.pending := by
  unfold stageRecord
  exact presentLane_queue ..

theorem enterStage_queue (l : Lane) (stage : Nat) (s : State) : (enterStage l stage s).pending = s.pending := by
  unfold enterStage
  exact (stageRecord_queue ..).trans (State.modLane_queue ..)

theorem laneOut_queue (l : Lane) (why : Nat) (s : State) : (laneOut l why s).pending = s.pending := by
  unfold laneOut
  exact (presentLane_queue ..).trans (State.modLane_queue ..)

theorem joinIdentity_queue (l : Lane) (s : State) : (joinIdentity l s).pending = s.pending := by
  unfold joinIdentity
  exact (queue_ite (enterStage_queue ..) (laneOut_queue ..)).trans (enterStage_queue ..)

theorem beginJoin_queue (l : Lane) (s : State) : (beginJoin l s).pending = s.pending := by
  unfold beginJoin
  exact queue_ite ((joinIdentity_queue ..).trans (State.modLane_queue ..)) rfl

theorem joinEnWrite_queue (v : Bool) (s : State) : (joinEnWrite v s).pending = s.pending := by
  unfold joinEnWrite
  extract_lets was _ written cleared
  have hcleared : cleared.pending = s.pending := queue_ite (State.mapLanes_queue ..) rfl
  split
  · exact hcleared
  · exact queue_ite ((beginJoin_queue ..).trans hcleared) (queue_ite ((enterStage_queue ..).trans hcleared) hcleared)

theorem divUnlock_queue (s : State) : (divUnlock s).pending = s.pending := by
  unfold divUnlock
  dsimp only
  exact queue_ite (by
    split
    · exact queue_ite (beginJoin_queue ..) rfl
    · rfl) rfl

theorem laneCtlWrite_queue (m : Nat) (v : Word) (s : State) : (laneCtlWrite m v s).pending = s.pending := by
  unfold laneCtlWrite
  exact (queue_ite (castleInput_queue ..) rfl).trans ((joinEnWrite_queue ..).trans ((queue_ite (divUnlock_queue ..) rfl).trans
    (queue_ite (writeRefused_queue ..) rfl)))

theorem kwCtlWrite_queue (m c : Nat) (v : Word) (s : State) : (kwCtlWrite m c v s).pending = s.pending := by
  unfold kwCtlWrite
  exact (queue_ite rfl (State.modCore_queue ..)).trans (queue_ite (writeRefused_queue ..) rfl)

theorem kwWrite_queue (m a : Nat) (v : Word) (s : State) : (kwWrite m a v s).pending = s.pending := by
  unfold kwWrite
  dsimp only
  split
  · exact kwCtlWrite_queue ..
  · rfl
  · exact queue_ite (writeRefused_queue ..) rfl
  · rfl

theorem pendWake_queue (cause : Nat) (s : State) : (pendWake cause s).pending = s.pending := by
  unfold pendWake
  exact queue_ite rfl rfl

theorem beginEntry_queue (target : Nat) (s : State) : (beginEntry target s).pending = s.pending := by
  unfold beginEntry
  exact laneRecord_queue ..

theorem requestPower_queue (target : Nat) (s : State) : (requestPower target s).2.pending = s.pending := by
  unfold requestPower
  exact queue_ite2 rfl (queue_ite2 rfl (queue_ite2 (queue_ite2 (queue_ite2 (pendWake_queue ..) rfl) (queue_ite2 rfl rfl)) (queue_ite2
    rfl (queue_ite2 rfl (queue_ite2 rfl (beginEntry_queue ..))))))

theorem pwrCtlWrite_queue (m : Nat) (v : Word) (s : State) : (pwrCtlWrite m v s).pending = s.pending := by
  unfold pwrCtlWrite
  exact (queue_ite (queue_ite (writeRefused_queue ..) (requestPower_queue ..)) rfl).trans (queue_ite rfl rfl)

theorem pwrWrite_queue (m a : Nat) (v : Word) (s : State) : (pwrWrite m a v s).pending = s.pending := by
  unfold pwrWrite
  split
  · exact eachLaneWrite_queue ..
  · exact queue_ite rfl rfl
  · exact pwrCtlWrite_queue ..
  · exact State.setCopy_queue ..
  · exact State.setCopy_queue ..
  · exact State.setCopy_queue ..
  · exact State.setCopy_queue ..
  · exact State.setCopy_queue ..
  · rfl

theorem plainWrite_queue (m a : Nat) (v : Word) (s : State) : (plainWrite m a v s).pending = s.pending := by
  unfold plainWrite
  exact queue_ite rfl (queue_ite (State.setSram_queue ..) (queue_ite (eachLaneWrite_queue ..) (queue_ite (unitWrite_queue ..)
    (queue_ite (measWrite_queue ..) (queue_ite (queue_ite (dmaFieldWrite_queue ..) rfl) (queue_ite (measWrite_queue ..) (queue_ite
    (unitWrite_queue ..) (queue_ite (busqWrite_queue ..) (queue_ite (hostWrite_queue ..) (queue_ite (mbxWrite_queue ..) (queue_ite
    (arbWrite_queue ..) (queue_ite (queue_ite (scoLogWrite_queue ..) rfl) (queue_ite (queue_ite (laneCtlWrite_queue ..) rfl) (queue_ite
    (kwWrite_queue ..) (queue_ite (pwrWrite_queue ..) rfl)))))))))))))))

theorem pointWrite_queue (m a : Nat) (v : Word) (s : State) : (pointWrite m a v s).pending = s.pending := by
  unfold pointWrite
  exact queue_ite (dmaCtlWrite_queue ..) (plainWrite_queue ..)

theorem countAccess_queue (ls : List Lane) (m a : Nat) (wr : Bool) (s : State) : (countAccess ls m a wr s).pending = s.pending := by
  unfold countAccess
  split
  · exact queue_foldl (fun _ _ => State.modLane_queue ..) ..
  · rfl

theorem readWords_queue (v : Lane) (m : Nat) (as : List Nat) (s : State) : (readWords v m as s).2.pending = s.pending := by
  induction as generalizing s with
  | nil => rfl
  | cons a as ih => exact (ih _).trans ((readOn_queue ..).trans (countAccess_queue ..))

theorem refuseAccess_queue (m a : Nat) (wr : Bool) (v : Word) (s : State) : (refuseAccess m a wr v s).pending = s.pending := by
  unfold refuseAccess
  split
  · rfl
  · exact queue_ite rfl (queue_ite (writeRefused_queue ..) rfl)

theorem checkPoints_queue (m : Nat) (sec : Bool) (pts : List (Nat × Bool)) (s : State) : (checkPoints m sec pts s).2.pending =
    s.pending := by
  unfold checkPoints
  exact queue_ite2 rfl (by
    split
    · exact refuseAccess_queue ..
    · rfl)

theorem readOnly_queue (v : Lane) (m : Nat) (sec : Bool) (as : List Nat) (s : State) : (readOnly v m sec as s).2.2.pending = s.pending
    := by
  unfold readOnly
  exact (queue_ite3 (queue_ite3 ((answerOnly_queue ..).trans (blockOn_queue ..)) ((readWords_queue ..).trans (blockOn_queue ..)))
    (answerOnly_queue ..)).trans (checkPoints_queue ..)

theorem opRead_queue (v : Lane) (m : Nat) (sec : Bool) (ws : List Word) (s : State) : (opRead v m sec ws s).2.2.pending = s.pending :=
    by
  unfold opRead
  split
  · exact queue_ite3 (answerOnly_queue ..) (readOnly_queue ..)
  · exact answerOnly_queue ..

theorem writeWords_queue (m : Nat) (ps : List (Nat × Word)) (s : State) : (writeWords m ps s).pending = s.pending := by
  unfold writeWords
  exact queue_foldl (fun _ _ => (pointWrite_queue ..).trans (countAccess_queue ..)) ..

theorem writeOnly_queue (m : Nat) (sec : Bool) (ps : List (Nat × Word)) (s : State) : (writeOnly m sec ps s).2.2.pending = s.pending :=
    by
  unfold writeOnly
  exact (queue_ite3 (queue_ite3 ((answerOnly_queue ..).trans (blockOn_queue ..)) ((answerOnly_queue ..).trans ((writeWords_queue
    ..).trans (blockOn_queue ..)))) (answerOnly_queue ..)).trans (checkPoints_queue ..)

theorem opWrite_queue (m : Nat) (sec : Bool) (ws : List Word) (s : State) : (opWrite m sec ws s).2.2.pending = s.pending := by
  unfold opWrite
  split
  · exact queue_ite3 (answerOnly_queue ..) (queue_ite3 (answerOnly_queue ..) (writeOnly_queue ..))
  · exact answerOnly_queue ..

theorem opReadList_queue (v : Lane) (m : Nat) (sec : Bool) (ws : List Word) (s : State) : (opReadList v m sec ws s).2.2.pending =
    s.pending := by
  unfold opReadList
  exact queue_ite3 (answerOnly_queue ..) (readOnly_queue ..)

theorem modifyEach_queue (m a : Nat) (mask x : Word) (s : State) : (modifyEach m a mask x s).pending = s.pending := by
  unfold modifyEach
  exact queue_foldl (fun _ _ => laneLocalWrite_queue ..) ..

theorem modifyPort_queue (m a : Nat) (mask x : Word) (s : State) : (modifyPort m a mask x s).pending = s.pending := by
  unfold modifyPort
  exact queue_ite rfl (writeRefused_queue ..)

theorem opModify_queue (v : Lane) (m : Nat) (sec : Bool) (ws : List Word) (s : State) : (opModify v m sec ws s).2.2.pending = s.pending
    := by
  unfold opModify
  split
  · exact (queue_ite3 (queue_ite3 ((answerOnly_queue ..).trans (blockOn_queue ..)) ((queue_ite (modifyEach_queue ..) (queue_ite
      (modifyPort_queue ..) (pointWrite_queue ..))).trans ((countAccess_queue ..).trans ((readWords_queue ..).trans (blockOn_queue
      ..))))) (answerOnly_queue ..)).trans (checkPoints_queue ..)
  · exact answerOnly_queue ..

theorem opChCommand_queue (m : Nat) (sec : Bool) (ws : List Word) (s : State) : (opChCommand m sec ws s).2.2.pending = s.pending := by
  unfold opChCommand
  exact queue_ite3 (answerOnly_queue ..) (queue_ite3 (answerOnly_queue ..) (writeOnly_queue ..))

theorem opChRead_queue (v : Lane) (m : Nat) (sec : Bool) (offs : List Nat) (ws : List Word) (s : State) : (opChRead v m sec offs ws
    s).2.2.pending = s.pending := by
  unfold opChRead
  split
  · exact queue_ite3 (answerOnly_queue ..) (readOnly_queue ..)
  · exact answerOnly_queue ..

theorem opEvtRead_queue (ws : List Word) (s : State) : (opEvtRead ws s).2.2.pending = s.pending := by
  unfold opEvtRead
  exact queue_ite3 (answerOnly_queue ..) (queue_ite3 (answerOnly_queue ..) rfl)

theorem recordReply_queue (v : Lane) (head : List Word) (srcs : List LateSrc) (s : State) : (recordReply v head srcs s).2.2.pending =
    s.pending := rfl

theorem addStreamUsed_queue (l : Lane) (n : Nat) (s : State) : (addStreamUsed l n s).pending = s.pending := by
  unfold addStreamUsed
  split <;> rfl

theorem accesses_queue (m : Nat) (pts : List (Nat × Bool)) (s : State) : (accesses m pts s).pending = s.pending := by
  unfold accesses
  exact queue_foldl (fun _ _ => countAccess_queue ..) ..

theorem opStrRead_queue (l v : Lane) (m : Nat) (sec : Bool) (ws : List Word) (s : State) : (opStrRead l v m sec ws s).2.2.pending =
    s.pending := by
  unfold opStrRead
  split
  · exact queue_ite3 (answerOnly_queue ..) ((queue_ite3 (queue_ite3 ((answerOnly_queue ..).trans (blockOn_queue ..))
      ((recordReply_queue ..).trans ((addStreamUsed_queue ..).trans (queue_ite ((measWrite_queue ..).trans ((accesses_queue ..).trans
      (blockOn_queue ..))) ((accesses_queue ..).trans (blockOn_queue ..)))))) (answerOnly_queue ..)).trans (checkPoints_queue ..))
  · exact answerOnly_queue ..

theorem State.setBox_queue (s : State) (k : Nat) (c : Mbx) : (State.setBox s k c).pending = s.pending := rfl

theorem State.modBox_queue (s : State) (k : Nat) (f : Mbx → Mbx) : (State.modBox s k f).pending = s.pending := by
  unfold State.modBox
  exact State.setBox_queue ..

theorem withMbxPoints_queue {m : Nat} {sec : Bool} {pts : List (Nat × Bool)} {s : State} {run : State → Answered}
    (hrun : ∀ s, (run s).2.2.pending = s.pending) : (withMbxPoints m sec pts s run).2.2.pending = s.pending := by
  unfold withMbxPoints
  split
  · exact (answerOnly_queue ..).trans (refuseAccess_queue ..)
  · exact queue_ite3 ((answerOnly_queue ..).trans (blockOn_queue ..)) ((hrun _).trans ((accesses_queue ..).trans (blockOn_queue ..)))

theorem opMbxPost_queue (m : Nat) (sec : Bool) (ws : List Word) (s : State) : (opMbxPost m sec ws s).2.2.pending = s.pending := by
  unfold opMbxPost
  split
  · exact answerOnly_queue ..
  · exact queue_ite3 (answerOnly_queue ..) (queue_ite3 (answerOnly_queue ..) (withMbxPoints_queue fun s =>
      queue_ite3 (answerOnly_queue ..) ((answerOnly_queue ..).trans ((postMessage_queue ..).trans (State.modBox_queue ..)))))

theorem opMbxFetch_queue (m : Nat) (sec : Bool) (ws : List Word) (s : State) : (opMbxFetch m sec ws s).2.2.pending = s.pending := by
  unfold opMbxFetch
  split
  · exact queue_ite3 (answerOnly_queue ..) (queue_ite3 (answerOnly_queue ..) (withMbxPoints_queue fun s =>
      (ackMessages_queue ..).trans (State.modBox_queue ..)))
  · exact answerOnly_queue ..

theorem State.modNvm_queue (s : State) (r : Option Lane) (f : Nvm → Nvm) : (State.modNvm s r f).pending = s.pending := by
  unfold State.modNvm
  split
  · exact State.mapLanes_queue ..
  · exact State.modLane_queue ..

theorem State.modUpd_queue (s : State) (r : Option Lane) (f : Upd → Upd) : (State.modUpd s r f).pending = s.pending := by
  unfold State.modUpd
  split <;> rfl

theorem updBegin_queue (r : Option Lane) (kind lanes len : Nat) (s : State) : (updBegin r kind lanes len s).2.pending = s.pending := by
  unfold updBegin
  exact queue_ite2 rfl (queue_ite2 rfl (queue_ite2 rfl ((queue_ite (laneRecord_queue ..) rfl).trans ((State.modNvm_queue ..).trans
    (State.modUpd_queue ..)))))

theorem updData_queue (r : Option Lane) (off : Nat) (ws : List Word) (s : State) : (updData r off ws s).2.pending = s.pending := by
  unfold updData
  exact queue_ite2 rfl (queue_ite2 rfl (queue_ite2 rfl (queue_ite2 rfl (queue_ite2 rfl ((State.modUpd_queue ..).trans
    (State.modNvm_queue ..))))))

theorem updVerify_queue (r : Option Lane) (s : State) : (updVerify r s).2.pending = s.pending := by
  unfold updVerify
  exact queue_ite2 rfl (State.modUpd_queue ..)

theorem updActivate_queue (lanes : Nat) (s : State) : (updActivate lanes s).2.pending = s.pending := by
  unfold updActivate
  exact queue_ite2 rfl (queue_ite2 rfl (queue_ite2 rfl (laneRecord_queue ..)))

theorem clearLaneWork_queue (s : State) : (clearLaneWork s).pending = s.pending := rfl

theorem resendReplies_queue (l : Lane) (fs : List Frame) (s : State) : (resendReplies l fs s).pending = s.pending := by
  unfold resendReplies
  exact State.modLane_queue ..

theorem portFails_queue (l : Lane) (s : State) : (portFails l s).pending = s.pending := by
  unfold portFails
  exact queue_ite (queue_ite rfl rfl) (queue_ite (resendReplies_queue ..) rfl)

theorem endUpdate_queue (phase : UpdPhase) (result : Nat) (s : State) : (endUpdate phase result s).pending = s.pending := rfl

theorem fallBack_queue (stage : ActStage) (l : Lane) (result : Nat) (s : State) : (fallBack stage l result s).pending = s.pending := by
  unfold fallBack
  exact laneRecord_queue ..

theorem updLaneReset_queue (l : Lane) (cause : LaneCause) (s : State) : (updLaneReset l cause s).pending = s.pending := by
  unfold updLaneReset
  exact queue_ite rfl (by
    split
    · exact queue_ite (endUpdate_queue ..) rfl
    · exact queue_ite ((endUpdate_queue ..).trans (State.modLane_queue ..)) rfl
    · exact queue_ite ((endUpdate_queue ..).trans (State.modLane_queue ..)) rfl
    · exact queue_ite ((endUpdate_queue ..).trans (State.modLane_queue ..)) rfl
    · exact queue_ite ((fallBack_queue ..).trans (State.modLane_queue ..)) rfl
    · exact (fallBack_queue ..).trans (State.modLane_queue ..)
    · exact (fallBack_queue ..).trans (State.modLane_queue ..)
    · rfl)

theorem laneReset_queue (l : Lane) (cause : LaneCause) (s : State) : (laneReset l cause s).pending = s.pending := by
  unfold laneReset
  exact (checkCastle_queue ..).trans ((queue_ite rfl (clearLaneWork_queue ..)).trans ((abandonLocksIn_queue ..).trans
    ((State.modLane_queue ..).trans ((portFails_queue ..).trans (updLaneReset_queue ..)))))

theorem recoveryActivate_queue (l : Lane) (lanes : Nat) (s : State) : (recoveryActivate l lanes s).2.pending = s.pending := by
  unfold recoveryActivate
  exact queue_ite2 rfl (queue_ite2 rfl ((queue_ite (laneReset_queue ..) (State.modUpd_queue ..)).trans ((State.modUpd_queue ..).trans
    (State.modLane_queue ..))))

theorem updConfirm_queue (s : State) : (updConfirm s).2.pending = s.pending := by
  unfold updConfirm
  exact queue_ite2 rfl ((laneRecord_queue ..).trans ((endUpdate_queue ..).trans (State.mapLanes_queue ..)))

theorem updRequest_queue (r : Option Lane) (code : Nat) (ws : List Word) (s : State) : (updRequest r code ws s).2.2.pending = s.pending
    := by
  unfold updRequest
  split
  · exact queue_ite3 rfl (updBegin_queue ..)
  · exact queue_ite3 rfl (updData_queue ..)
  · exact queue_ite3 rfl (updVerify_queue ..)
  · exact queue_ite3 rfl (by
      split
      · exact updActivate_queue ..
      · exact recoveryActivate_queue ..)
  · exact queue_ite3 rfl (updConfirm_queue ..)
  · exact queue_ite3 rfl rfl

theorem keyLoad_queue (slot : Nat) (ws : List Word) (s : State) : (keyLoad slot ws s).2.pending = s.pending := by
  unfold keyLoad
  split
  · rfl
  · exact queue_ite2 rfl (queue_ite2 rfl (by
      split
      · rfl
      · exact laneRecord_queue ..))

theorem opKeyLoad_queue (ws : List Word) (s : State) : (opKeyLoad ws s).2.2.pending = s.pending := by
  unfold opKeyLoad
  split
  · exact answerOnly_queue ..
  · exact (answerOnly_queue ..).trans (keyLoad_queue ..)

theorem opPwrRequest_queue (ws : List Word) (s : State) : (opPwrRequest ws s).2.2.pending = s.pending := by
  unfold opPwrRequest
  split
  · exact (answerOnly_queue ..).trans (requestPower_queue ..)
  · exact answerOnly_queue ..

theorem opLaneReset_queue (ws : List Word) (s : State) : (opLaneReset ws s).2.2.pending = s.pending := by
  unfold opLaneReset
  split
  · exact queue_ite3 (answerOnly_queue ..) (answerOnly_queue ..)
  · exact answerOnly_queue ..

theorem opLgtString_queue (m : Nat) (sec : Bool) (ws : List Word) (s : State) : (opLgtString m sec ws s).2.2.pending = s.pending := by
  unfold opLgtString
  exact queue_ite3 (answerOnly_queue ..) (queue_ite3 (answerOnly_queue ..) (writeOnly_queue ..))

theorem opLgtPixels_queue (m : Nat) (sec : Bool) (ws : List Word) (s : State) : (opLgtPixels m sec ws s).2.2.pending = s.pending := by
  unfold opLgtPixels
  exact queue_ite3 (answerOnly_queue ..) (queue_ite3 (answerOnly_queue ..) (writeOnly_queue ..))

theorem loadLatch_queue (s : State) : (loadLatch s).pending = s.pending := rfl

theorem opAccEnrol_queue (m : Nat) (sec : Bool) (ws : List Word) (s : State) : (opAccEnrol m sec ws s).2.2.pending = s.pending := by
  unfold opAccEnrol
  exact queue_ite3 (answerOnly_queue ..) (queue_ite3 (answerOnly_queue ..) ((queue_ite3 (queue_ite3 ((answerOnly_queue ..).trans
    (blockOn_queue ..)) (queue_ite3 ((answerOnly_queue ..).trans ((accesses_queue ..).trans (blockOn_queue ..))) (by
    split
    · exact (answerOnly_queue ..).trans ((accesses_queue ..).trans (blockOn_queue ..))
    · exact (emit_queue ..).trans ((loadLatch_queue ..).trans ((State.setCopy_queue ..).trans ((State.setLive_queue ..).trans
        ((accesses_queue ..).trans (blockOn_queue ..)))))))) (answerOnly_queue ..)).trans (checkPoints_queue ..)))

theorem pushEntry_queue (t : Nat) (e : Entry) (s : State) : (pushEntry t e s).pending = s.pending := by
  unfold pushEntry
  exact State.modTgt_queue ..

theorem pushAcc_queue (obj cause : Nat) (w : Word) (copy : List (Nat × Word)) (rec : RecDraft) (s : State) : (pushAcc obj cause w copy
    rec s).pending = s.pending := by
  unfold pushAcc
  exact pushEntry_queue ..

theorem reportSess_queue (cause : Nat) (s : State) : (reportSess cause s).pending = s.pending := by
  unfold reportSess
  exact pushAcc_queue ..

theorem endSession_queue (cause : Nat) (s : State) : (endSession cause s).pending = s.pending := by
  unfold endSession
  exact queue_ite (reportSess_queue ..) rfl

theorem withAccesses_queue {m : Nat} {sec : Bool} {pts : List (Nat × Bool)} {s : State} {run : State → Answered}
    (hrun : ∀ s, (run s).2.2.pending = s.pending) : (withAccesses m sec pts s run).2.2.pending = s.pending :=
  queue_ite3 (queue_ite3 ((answerOnly_queue ..).trans ((blockOn_queue ..).trans (checkPoints_queue ..)))
    ((hrun _).trans ((accesses_queue ..).trans ((blockOn_queue ..).trans (checkPoints_queue ..)))))
    ((answerOnly_queue ..).trans (checkPoints_queue ..))

theorem opAccDelete_queue (m : Nat) (sec : Bool) (ws : List Word) (s : State) : (opAccDelete m sec ws s).2.2.pending = s.pending := by
  unfold opAccDelete
  split
  · refine withAccesses_queue fun s => queue_ite3 (answerOnly_queue ..) ?_
    extract_lets _ erased loaded told
    have hloaded : loaded.pending = s.pending := loadLatch_queue ..
    exact (answerOnly_queue ..).trans (queue_ite ((endSession_queue ..).trans hloaded) hloaded)
  · exact answerOnly_queue ..

theorem oneWrite_queue (m : Nat) (sec : Bool) (ws : List Word) (a : Nat) (f : Word → Word) (s : State) : (oneWrite m sec ws a f
    s).2.2.pending = s.pending := by
  unfold oneWrite
  split
  · exact writeOnly_queue ..
  · exact answerOnly_queue ..

theorem State.setSrams_queue (s : State) (a : Nat) (ws : List Word) : (s.setSrams a ws).pending = s.pending := by
  induction ws generalizing s a with
  | nil => rfl
  | cons w ws ih => exact (ih ..).trans rfl

theorem placeBuffer_queue (ws : List Word) (s : State) : (placeBuffer ws s).pending = s.pending := by
  unfold placeBuffer
  exact State.setSrams_queue ..

theorem opBusSend_queue (m : Nat) (sec : Bool) (ws : List Word) (s : State) : (opBusSend m sec ws s).2.2.pending = s.pending := by
  unfold opBusSend
  split
  · exact queue_ite3 (answerOnly_queue ..) (queue_ite3 (answerOnly_queue ..) ((queue_ite3 (queue_ite3 ((answerOnly_queue ..).trans
      (blockOn_queue ..)) ((answerOnly_queue ..).trans ((queue_ite (refuseBus_queue ..) (emit_queue ..)).trans ((queue_ite rfl
      (placeBuffer_queue ..)).trans ((State.modBus_queue ..).trans ((busqWrite_queue ..).trans ((accesses_queue ..).trans
      (blockOn_queue ..)))))))) (answerOnly_queue ..)).trans (checkPoints_queue ..)))
  · exact answerOnly_queue ..

theorem opBusTap_queue (ws : List Word) (s : State) : (opBusTap ws s).2.2.pending = s.pending := by
  unfold opBusTap
  exact queue_ite3 (answerOnly_queue ..) (queue_ite3 (answerOnly_queue ..) ((answerOnly_queue ..).trans (State.modBus_queue ..)))

theorem opBusRead_queue (v : Lane) (m : Nat) (sec : Bool) (ws : List Word) (s : State) : (opBusRead v m sec ws s).2.2.pending =
    s.pending := by
  unfold opBusRead
  exact queue_ite3 (answerOnly_queue ..) (queue_ite3 (answerOnly_queue ..) ((queue_ite3 (queue_ite3 ((answerOnly_queue ..).trans
    (blockOn_queue ..)) ((recordReply_queue ..).trans ((accesses_queue ..).trans (blockOn_queue ..)))) (answerOnly_queue ..)).trans
    (checkPoints_queue ..)))

theorem opBusStatus_queue (v : Lane) (m : Nat) (sec : Bool) (ws : List Word) (s : State) : (opBusStatus v m sec ws s).2.2.pending =
    s.pending := by
  unfold opBusStatus
  split
  · extract_lets b r
    have hr : r.2.2.pending = s.pending := readOnly_queue ..
    clear_value r
    exact queue_ite3 (answerOnly_queue ..) (queue_ite3 hr hr)
  · exact answerOnly_queue ..

theorem runOpcode_queue (cov : Bool) (l v : Lane) (code m : Nat) (sec : Bool) (ws : List Word) (s : State) : (runOpcode cov l v code m
    sec ws s).2.2.pending = s.pending := by
  unfold runOpcode
  split
  · exact queue_ite3 rfl (answerOnly_queue ..)
  · exact opModuleReset_queue ..
  · exact opRead_queue ..
  · exact opWrite_queue ..
  · exact opReadList_queue ..
  · exact opModify_queue ..
  · exact opChCommand_queue ..
  · exact opChRead_queue ..
  · exact opChRead_queue ..
  · exact opEvtRead_queue ..
  · exact opStrRead_queue ..
  · exact opMbxPost_queue ..
  · exact opMbxFetch_queue ..
  · exact queue_ite3 rfl (answerOnly_queue ..)
  · exact updRequest_queue ..
  · exact updRequest_queue ..
  · exact updRequest_queue ..
  · exact updRequest_queue ..
  · exact updRequest_queue ..
  · exact updRequest_queue ..
  · exact opKeyLoad_queue ..
  · exact opPwrRequest_queue ..
  · exact queue_ite3 rfl (answerOnly_queue ..)
  · exact queue_ite3 (queue_ite3 (answerOnly_queue ..) (queue_ite3 (answerOnly_queue ..) (answerOnly_queue ..))) (answerOnly_queue ..)
  · exact opLaneReset_queue ..
  · exact queue_ite3 rfl (answerOnly_queue ..)
  · exact opLgtString_queue ..
  · exact opLgtPixels_queue ..
  · exact queue_ite3 (readOnly_queue ..) (answerOnly_queue ..)
  · exact opAccEnrol_queue ..
  · exact opAccDelete_queue ..
  · exact oneWrite_queue ..
  · exact oneWrite_queue ..
  · exact queue_ite3 (readOnly_queue ..) (answerOnly_queue ..)
  · exact opBusSend_queue ..
  · exact opBusTap_queue ..
  · exact opBusRead_queue ..
  · exact opBusStatus_queue ..

theorem executeRequest_queue (p : Packet) (seq : Nat) (x : Session) (s : State) : (executeRequest p seq x s).pending = s.pending := by
  unfold executeRequest
  exact queue_ite (giveReply_queue ..) (queue_ite (giveReply_queue ..) (queue_ite (giveReply_queue ..) (queue_ite (giveReply_queue ..)
    ((queue_ite (castleRequest_queue ..) (giveReply_queue ..)).trans ((noteLate_queue ..).trans (runOpcode_queue ..))))))

theorem startRequest_queue (p : Packet) (seq : Nat) (s : State) : (startRequest p seq s).pending = s.pending := by
  unfold startRequest
  dsimp only
  exact queue_ite (answerFailed_queue ..) (queue_ite (executeHello_queue ..) (by
    split
    · exact plainReply_queue ..
    · exact queue_ite (plainReply_queue ..) (by
        split
        · exact plainReply_queue ..
        · exact plainReply_queue ..
        · exact queue_ite (plainReply_queue ..) (addFrames_queue ..)
        · exact (queue_ite (executeClose_queue ..) (executeRequest_queue ..)).trans (setSession_queue ..))))

theorem hostRequest_queue (p : Packet) (seq at_ : Nat) (s : State) : (hostRequest p seq at_ s).pending = s.pending := by
  unfold hostRequest
  exact queue_ite rfl (queue_ite rfl (queue_ite (queue_ite rfl (startRequest_queue ..)) (State.modLane_queue ..)))

theorem hostRow_queue (code : Nat) (h : ReqHead) (ws : List Word) (s : State) : (hostRow code h ws s).pending = s.pending := by
  unfold hostRow
  exact (dropHostLocks_queue ..).trans (hostRequest_queue ..)

theorem accSilence_queue (s : State) : (accSilence s).pending = s.pending := by
  unfold accSilence
  exact queue_ite (State.modTgt_queue ..) rfl

theorem stopProgram_queue (c cause bundle : Nat) (s : State) : (stopProgram c cause bundle s).pending = s.pending := by
  unfold stopProgram
  exact (laneRecord_queue ..).trans (State.modCore_queue ..)

theorem withdrawLane_queue (l : Lane) (cause : WithdrawCause) (s : State) : (withdrawLane l cause s).pending = s.pending := by
  unfold withdrawLane
  exact laneReset_queue ..

end Sys2Proof.Machine
end

section
/-! Operations that keep the queue, continued. -/

namespace Sys2Proof.Machine

open Sys2Proof

theorem faultCore_queue (c : Nat) (s : State) : (faultCore c s).pending = s.pending := by
  have hwithdraw (l : Lane) (s : State) : (if (s.lane l).inStep then withdrawLane l .coreFault s else s).pending = s.pending :=
    queue_ite (withdrawLane_queue ..) rfl
  unfold faultCore
  extract_lets done f both
  have hdone : done.pending = s.pending := State.modCore_queue ..
  split
  · exact queue_ite ((withdrawLane_queue ..).trans ((withdrawLane_queue ..).trans hdone)) ((hwithdraw ..).trans hdone)
  · exact (hwithdraw ..).trans ((hwithdraw ..).trans hdone)

theorem overrun_queue (c : Nat) (s : State) : (overrun c s).pending = s.pending := by
  unfold overrun
  exact (queue_ite (stopProgram_queue ..) (faultCore_queue ..)).trans (State.modCore_queue ..)

theorem goOn_queue (c b used : Nat) (s : State) : (goOn c b used s).pending = s.pending := by
  unfold goOn
  exact (queue_ite (stopProgram_queue ..) (State.modCore_queue ..)).trans (State.modCore_queue ..)

theorem haltCore_queue (c t : Nat) (asleep : Bool) (s : State) : (haltCore c t asleep s).pending = s.pending := by
  unfold haltCore
  exact queue_ite (overrun_queue ..) (State.setCore_queue ..)

theorem follow_queue (c t : Nat) (f : Machine.Flow) (s : State) : (follow c t f s).pending = s.pending := by
  unfold follow
  split
  · exact goOn_queue ..
  · exact goOn_queue ..
  · exact (goOn_queue ..).trans (State.modCore_queue ..)
  · exact (goOn_queue ..).trans (State.modCore_queue ..)
  · exact haltCore_queue ..
  · exact haltCore_queue ..
  · exact faultCore_queue ..

theorem endBundle_queue (c t : Nat) (ps : List (Nat × Word)) (refused : Bool) (s : State) : (endBundle c t ps refused s).pending =
    s.pending := by
  unfold endBundle
  split
  · exact faultCore_queue ..
  · exact (queue_ite (stopProgram_queue ..) (follow_queue ..)).trans (State.modCore_queue ..)

theorem refuseLoad_queue (c : Nat) (wr : Bool) (s : State) : (refuseLoad c wr s).pending = s.pending := by
  unfold refuseLoad
  exact State.modCore_queue ..

theorem localAccess_queue (c a : Nat) (wr : Bool) (v : Word) (s : State) : (localAccess c a wr v s).2.pending = s.pending := by
  unfold localAccess
  exact queue_ite2 (queue_ite2 (State.modCore_queue ..) (refuseLoad_queue ..)) (by
    split
    · exact State.modCore_queue ..
    · exact refuseLoad_queue ..)

theorem completeAccess_queue (c a : Nat) (wr : Bool) (v : Word) (s : State) : (completeAccess c a wr v s).pending = s.pending := by
  unfold completeAccess
  exact queue_ite (pointWrite_queue ..) ((State.modCore_queue ..).trans (pointRead_queue ..))

theorem boardAccess_queue (c t a : Nat) (wr : Bool) (lk : LockFlag) (v : Word) (s : State) : (boardAccess c t a wr lk v s).2.pending =
    s.pending := by
  unfold boardAccess
  split
  · extract_lets r
    have hr : r.2.pending = s.pending := presentBoth_queue ..
    exact queue_ite2 ((completeAccess_queue ..).trans hr) ((State.modCore_queue ..).trans hr)
  · exact (refuseLoad_queue ..).trans (refuseAccess_queue ..)

theorem lsuTrigger_queue (c t dst : Nat) (a : Word) (s : State) : (lsuTrigger c t dst a s).2.pending = s.pending := by
  unfold lsuTrigger
  exact (queue_ite2 (localAccess_queue ..) (boardAccess_queue ..)).trans (State.modCore_queue ..)

theorem runMoves_queue (c t : Nat) (ps : List (Nat × Word)) (st : List Word) (s : State) : (runMoves c t ps st s).pending = s.pending
    := by
  unfold runMoves
  extract_lets v
  have hv : v.pending = s.pending := State.setCore_queue ..
  split
  · exact (endBundle_queue ..).trans hv
  · exact (endBundle_queue ..).trans ((lsuTrigger_queue ..).trans hv)

theorem issueMoves_queue (c : Nat) (ms : List Move) (imm : Word) (s : State) : (issueMoves c ms imm s).pending = s.pending := by
  unfold issueMoves
  exact queue_ite rfl (queue_ite rfl (queue_ite (overrun_queue ..) (by
    split
    · exact faultCore_queue ..
    · exact runMoves_queue ..)))

theorem issueOne_queue (c dst : Nat) (a : Word) (s : State) : (issueOne c dst a s).pending = s.pending := by
  unfold issueOne
  exact issueMoves_queue ..

theorem raiseWake_queue (cause idx : Nat) (s : State) : (raiseWake cause idx s).pending = s.pending := by
  unfold raiseWake
  split <;> rfl

theorem railsDown_queue (s : State) : (railsDown s).pending = s.pending := by
  unfold railsDown
  dsimp only
  exact State.mapLanes_queue ..

theorem moduleReset_queue (bit last : Nat) (s : State) : (moduleReset bit last s).pending = s.pending := by
  unfold moduleReset
  exact clearLaneWork_queue ..

theorem aoBrownout_queue (s : State) : (aoBrownout s).pending = s.pending := by
  simp only [aoBrownout, railsDown_queue, moduleReset_queue, State.mapLanes_queue, apply_ite State.pending, ite_self]

theorem ownAccess_queue (c a : Nat) (wr : Bool) (v : Word) (s : State) : (ownAccess c a wr v s).pending = s.pending := by
  unfold ownAccess
  exact (queue_ite (stopProgram_queue ..) rfl).trans (localAccess_queue ..)

theorem debugWrote_queue (m a : Nat) (s : State) : (debugWrote m a s).pending = s.pending := by
  unfold debugWrote
  exact queue_ite rfl rfl

theorem refuseCore_queue (c : Nat) (wr : Bool) (s : State) : (refuseCore c wr s).pending = s.pending := by
  unfold refuseCore
  exact (queue_ite (stopProgram_queue ..) rfl).trans (refuseLoad_queue ..)

theorem dmaMove_queue (e w n : Nat) (s : State) : (dmaMove e w n s).2.2.pending = s.pending := by
  induction n generalizing w s with
  | zero => rfl
  | succ n ih =>
    have hread (m a : Nat) : (pointRead m a (countAccess (computing s) m a false s)).2.pending = s.pending :=
      (pointRead_queue ..).trans (countAccess_queue ..)
    exact queue_ite3 (refuseAccess_queue ..) (queue_ite3 (parkAccess_queue ..) (queue_ite3 (parkAccess_queue ..)
      (queue_ite3 ((refuseAccess_queue ..).trans (hread ..))
        ((ih ..).trans ((pointWrite_queue ..).trans ((countAccess_queue ..).trans (hread ..)))))))

theorem dmaFinish_queue (e : Nat) (s : State) : (dmaFinish e s).pending = s.pending := by
  unfold dmaFinish
  extract_lets d n k r x
  have hr : r.2.2.pending = s.pending := dmaMove_queue ..
  refine queue_ite ?_ rfl
  split <;> exact (State.setDma_queue ..).trans hr

theorem refuseDma_queue (e : Nat) (s : State) : (refuseDma e s).pending = s.pending := by
  simp only [refuseDma, State.setDma_queue, dmaFinish_queue, apply_ite State.pending, ite_self]

theorem abandonJoin_queue (l : Lane) (s : State) : (abandonJoin l s).pending = s.pending := by
  simp only [abandonJoin, laneOut_queue, presentLane_queue, State.modLane_queue, apply_ite State.pending, ite_self]

theorem refuseMaster_queue (m : Nat) (wr : Bool) (s : State) : (refuseMaster m wr s).pending = s.pending := by
  unfold refuseMaster
  exact queue_ite (refuseCore_queue ..) (queue_ite (refuseDma_queue ..) (queue_ite (by
    split
    · exact abandonJoin_queue ..
    · rfl) rfl))

theorem masterDo_queue {act : State → State} (hact : ∀ s, (act s).pending = s.pending) (m a : Nat) (v : Word) (s : State) :
    (masterDo m a v act s).pending = s.pending := by
  unfold masterDo
  split
  · exact queue_ite (presentBoth_queue ..) ((debugWrote_queue ..).trans ((hact _).trans (countAccess_queue ..)))
  · exact (refuseMaster_queue ..).trans (refuseAccess_queue ..)

theorem masterWrite_queue (m a : Nat) (v : Word) (s : State) : (masterWrite m a v s).pending = s.pending := by
  unfold masterWrite
  exact queue_ite (ownAccess_queue ..) (masterDo_queue (fun _ => pointWrite_queue ..) ..)

theorem grantPut_queue (m : Nat) (p : Option (Nat × Word)) (s : State) : (grantPut m p s).pending = s.pending := by
  unfold grantPut
  split
  · exact pointWrite_queue ..
  · rfl

theorem grantCore_queue (t c : Nat) (s : State) : (grantCore t c s).pending = s.pending := by
  unfold grantCore
  split
  · rfl
  · exact queue_ite ((completeAccess_queue ..).trans (State.modCore_queue ..)) rfl

theorem uncountGrant_queue (l : Lane) (t m : Nat) (s : State) : (uncountGrant l t m s).pending = s.pending := by
  unfold uncountGrant
  exact State.modLane_queue ..

theorem grantAccess_queue (l : Lane) (t m : Nat) (s : State) : (grantAccess l t m s).pending = s.pending := by
  unfold grantAccess
  exact queue_ite (queue_ite (grantCore_queue ..) rfl) (queue_ite ((queue_ite (dmaFinish_queue ..) rfl).trans (uncountGrant_queue ..))
    rfl)

theorem arbDecide_queue (l : Lane) (t bank cycle : Nat) (s : State) : (arbDecide l t bank cycle s).2.pending = s.pending := by
  unfold arbDecide
  exact queue_ite2 rfl (by
    split
    · rfl
    · exact State.setLane_queue ..)

theorem arbiterGrant_queue (l : Lane) (t bank cycle : Nat) (s : State) : (arbiterGrant l t bank cycle s).pending = s.pending := by
  unfold arbiterGrant
  extract_lets r
  have hr : r.2.pending = s.pending := arbDecide_queue ..
  split
  · exact hr
  · exact queue_ite (queue_ite ((grantPut_queue ..).trans hr) hr) ((grantAccess_queue ..).trans hr)

theorem State.setChan_queue (s : State) (n : Nat) (c : Chan) : (State.setChan s n c).pending = s.pending := rfl

theorem State.modChan_queue (s : State) (n : Nat) (f : Chan → Chan) : (State.modChan s n f).pending = s.pending := by
  unfold State.modChan
  exact State.setChan_queue ..

theorem parkFault_queue (n cause : Nat) (s : State) : (parkFault n cause s).pending = s.pending := by
  unfold parkFault
  exact queue_ite (raiseWake_queue ..) rfl

theorem reportChAs_queue (n cause : Nat) (w2 arg1 : Word) (own pulse : Bool) (s : State) : (reportChAs n cause w2 arg1 own pulse
    s).pending = s.pending := by
  unfold reportChAs
  exact (pushEntry_queue ..).trans (parkFault_queue ..)

theorem settleEntries_queue (n : Nat) (s : State) : (settleEntries n s).pending = s.pending := by
  unfold settleEntries
  exact State.modTgt_queue ..

theorem changeOne_queue (at_ cause : Nat) (w2 : Option Word) (arg1 : Word) (pulse : Bool) (f : Chan → Chan) (s : State) (m : Nat) :
    (changeOne at_ cause w2 arg1 pulse f s m).pending = s.pending := by
  unfold changeOne
  exact (reportChAs_queue ..).trans ((queue_ite (settleEntries_queue ..) rfl).trans (State.modChan_queue ..))

theorem changeGroup_queue (n cause : Nat) (arg1 : Word) (f : Chan → Chan) (s : State) : (changeGroup n cause arg1 f s).pending =
    s.pending := by
  unfold changeGroup
  exact queue_foldl (fun _ _ => changeOne_queue ..) ..

theorem reportCh_queue (n cause : Nat) (arg1 : Word) (s : State) : (reportCh n cause arg1 s).pending = s.pending := by
  unfold reportCh
  exact reportChAs_queue ..

theorem latchTrip_queue (n code latch : Nat) (arg1 : Word) (s : State) : (latchTrip n code latch arg1 s).pending = s.pending := by
  unfold latchTrip
  exact queue_ite (changeGroup_queue ..) (reportCh_queue ..)

theorem arcWindow_queue (t : Nat) (q : Bool) (m : ArcMeasure) (s : State) : (arcWindow t q m s).pending = s.pending := by
  unfold arcWindow
  exact queue_ite rfl (queue_ite (State.modChan_queue ..) ((queue_ite (latchTrip_queue ..) (reportCh_queue ..)).trans
    (State.modChan_queue ..)))

theorem feedArcMark_queue (t half q : Nat) (s : State) : (feedArcMark t half q s).pending = s.pending := by
  unfold feedArcMark
  exact (reportCh_queue ..).trans (State.setLive_queue ..)

theorem arcHalf_queue (t half : Nat) (ws : List (ArcMeasure × Bool)) (s : State) : (arcHalf t half ws s).pending = s.pending := by
  unfold arcHalf
  exact queue_ite rfl ((queue_foldl (fun _ _ => queue_ite rfl (arcWindow_queue ..)) ..).trans (queue_ite (feedArcMark_queue ..) rfl))

theorem arcRestart_queue (t : Nat) (s : State) : (arcRestart t s).pending = s.pending := by
  unfold arcRestart
  exact queue_foldl (fun _ _ => State.modChan_queue ..) ..

theorem arpStep_queue (l : Lane) (target sender : Nat) (s : State) : (arpStep l target sender s).pending = s.pending := by
  unfold arpStep
  exact queue_ite rfl (State.modLane_queue ..)

theorem assignmentStep_queue (n : Nat) (s : State) : (assignmentStep n s).pending = s.pending := by
  unfold assignmentStep
  exact queue_ite rfl (queue_ite rfl rfl)

theorem backfedSample_queue (n : Nat) (v : Word) (settled : Bool) (s : State) : (backfedSample n v settled s).pending = s.pending := by
  unfold backfedSample
  exact queue_ite (State.modChan_queue ..) (queue_ite ((reportCh_queue ..).trans (State.modChan_queue ..)) (queue_ite ((reportCh_queue
    ..).trans (State.modChan_queue ..)) (State.modChan_queue ..)))

theorem boardRequest_queue (l : Lane) (m a : Nat) (wr : Bool) (lk : LockFlag) (cycle : Nat) (s : State) : (boardRequest l m a wr lk
    cycle s).pending = s.pending := by
  unfold boardRequest
  exact queue_ite (ownAccess_queue ..) (by
    split
    · exact boardPresent_queue ..
    · exact (refuseMaster_queue ..).trans (refuseAccess_queue ..))

theorem issueBundle_queue (c : Nat) (s : State) : (issueBundle c s).pending = s.pending := by
  unfold issueBundle
  exact queue_ite rfl (queue_ite (issueMoves_queue ..) (queue_ite (overrun_queue ..) ((stopProgram_queue ..).trans (State.modCore_queue
    ..))))

theorem busAbortReq_queue (b tag : Nat) (s : State) : (busAbortReq b tag s).pending = s.pending := by
  unfold busAbortReq
  exact (queue_ite (State.modBus_queue ..) (queue_ite ((busNotSent_queue ..).trans (State.modBus_queue ..)) rfl)).trans (queue_ite rfl
    rfl)

theorem wufFrame_queue (n : Nat) (fr : List Word) (s : State) : (wufFrame n fr s).pending = s.pending := by
  unfold wufFrame
  exact queue_ite (raiseWake_queue ..) rfl

theorem gotExpected_queue (b flt : Nat) (s : State) : (gotExpected b flt s).pending = s.pending := by
  unfold gotExpected
  exact queue_ite (State.modBus_queue ..) rfl

theorem storeFrame_queue (b flt cycle col : Nat) (fr : List Word) (sof : Nat) (s : State) : (storeFrame b flt cycle col fr sof
    s).pending = s.pending := by
  unfold storeFrame
  split
  · exact State.modBus_queue ..
  · exact (present_queue ..).trans (State.modBus_queue ..)

theorem compareCopies_queue (b : Nat) (same : Bool) (s : State) : (compareCopies b same s).pending = s.pending := by
  unfold compareCopies
  exact queue_ite rfl (State.modBus_queue ..)

theorem frameReceived_queue (b : Nat) (fr : List Word) (sof cycle col : Nat) (same badFcs : Bool) (s : State) : (frameReceived b fr sof
    cycle col same badFcs s).pending = s.pending := by
  unfold frameReceived
  dsimp only
  exact queue_ite (queue_ite (wufFrame_queue ..) rfl) (queue_ite rfl (queue_ite (State.modBus_queue ..) (queue_ite rfl (queue_ite
    (State.modBus_queue ..) (by
    split
    · rfl
    · exact (gotExpected_queue ..).trans ((storeFrame_queue ..).trans (queue_ite (compareCopies_queue ..) rfl)))))))

theorem busSent_queue (b : Nat) (obj : Bool) (tag sof : Nat) (s : State) : (busSent b obj tag sof s).pending = s.pending := by
  unfold busSent
  exact presentBus_queue ..

theorem objectSent_queue (b obj sof : Nat) (s : State) : (objectSent b obj sof s).pending = s.pending := by
  unfold objectSent
  exact queue_ite ((busSent_queue ..).trans (State.modBus_queue ..)) rfl

theorem queuedSent_queue (b tag sof : Nat) (s : State) : (queuedSent b tag sof s).pending = s.pending := by
  unfold queuedSent
  exact queue_ite ((busSent_queue ..).trans (State.modBus_queue ..)) rfl

theorem busStateLater_queue (b code : Nat) (node : Option Nat) (s : State) : (busStateLater b code node s).pending = s.pending := by
  unfold busStateLater
  exact pushEntry_queue ..

theorem busOffEnd_queue (n : Nat) (s : State) : (busOffEnd n s).pending = s.pending := by
  unfold busOffEnd
  exact queue_ite ((busStateLater_queue ..).trans (State.modBus_queue ..)) rfl

theorem markStarted_queue (b : Nat) (s : State) : (markStarted b s).pending = s.pending := by
  unfold markStarted
  split
  · exact queue_ite rfl rfl
  · rfl

theorem busQueueReq_queue (b tag : Nat) (fr : List Word) (s : State) : (busQueueReq b tag fr s).pending = s.pending := by
  unfold busQueueReq
  exact queue_ite (busNotSent_queue ..) (queue_ite (busNotSent_queue ..) ((State.modBus_queue ..).trans (queue_ite (markStarted_queue
    ..) rfl)))

theorem busUpdateReq_queue (b obj tag : Nat) (fr : List Word) (s : State) : (busUpdateReq b obj tag fr s).pending = s.pending := by
  unfold busUpdateReq
  exact queue_ite (busNotSent_queue ..) (State.modBus_queue ..)

theorem State.modStr_queue (s : State) (x : Nat) (f : Str → Str) : (State.modStr s x f).pending = s.pending := rfl

theorem bypassOne_queue (x k : Nat) (s : State) : (bypassOne x k s).pending = s.pending := by
  unfold bypassOne
  exact queue_ite (State.modStr_queue ..) rfl

theorem busReport_queue (b kind code : Nat) (w1 : Word) (s : State) : (busReport b kind code w1 s).pending = s.pending := by
  unfold busReport
  exact presentBus_queue ..

theorem busStateNow_queue (b code : Nat) (s : State) : (busStateNow b code s).pending = s.pending := by
  unfold busStateNow
  exact busReport_queue ..

theorem busOff_queue (n : Nat) (s : State) : (busOff n s).pending = s.pending := by
  unfold busOff
  extract_lets tag cfg times susp off dropped told
  have hoff : off.pending = s.pending := State.modBus_queue ..
  have hdropped : dropped.pending = s.pending := by
    unfold dropped
    clear_value tag
    split
    · exact (busNotSent_queue ..).trans hoff
    · exact hoff
  have htold : told.pending = s.pending := (busStateNow_queue ..).trans hdropped
  exact queue_ite ((busStateLater_queue ..).trans htold) htold

theorem canErrorStep_queue (n tec fr lec : Nat) (s : State) : (canErrorStep n tec fr lec s).pending = s.pending := by
  unfold canErrorStep
  exact queue_ite rfl ((queue_ite (busOff_queue ..) (queue_ite rfl ((busStateLater_queue ..).trans (State.modBus_queue ..)))).trans
    (State.modBus_queue ..))

theorem refuseTile_queue (t blk off reason : Nat) (v : Word) (s : State) : (refuseTile t blk off reason v s).pending = s.pending := by
  unfold refuseTile
  exact State.modTgt_queue ..

theorem refuseCh_queue (n off reason : Nat) (v : Word) (s : State) : (refuseCh n off reason v s).pending = s.pending := by
  unfold refuseCh
  exact refuseTile_queue ..

theorem chProbe_queue (n : Nat) (s : State) : (chProbe n s).pending = s.pending := by
  unfold chProbe
  exact queue_ite (State.modChan_queue ..) rfl

theorem chOff_queue (n : Nat) (s : State) : (chOff n s).pending = s.pending := by
  unfold chOff
  exact queue_ite rfl (by
    split
    · exact changeGroup_queue ..
    · exact changeGroup_queue ..
    · exact changeGroup_queue ..
    · exact changeGroup_queue ..
    · exact queue_ite (changeGroup_queue ..) rfl
    · rfl
    · rfl)

theorem coolInstead_queue (n cause : Nat) (src : Src) (s : State) : (coolInstead n cause src s).pending = s.pending := by
  unfold coolInstead
  exact changeGroup_queue ..

theorem closeSafe_queue (n : Nat) (s : State) : (closeSafe n s).pending = s.pending := by
  unfold closeSafe
  exact changeGroup_queue ..

theorem closeOn_queue (n : Nat) (s : State) : (closeOn n s).pending = s.pending := by
  unfold closeOn
  exact changeGroup_queue ..

theorem finishClosing_queue (n : Nat) (src : Src) (s : State) : (finishClosing n src s).pending = s.pending := by
  unfold finishClosing
  exact queue_ite (coolInstead_queue ..) (queue_ite (closeSafe_queue ..) (closeOn_queue ..))

theorem freewheelOrClose_queue (n : Nat) (src : Src) (s : State) : (freewheelOrClose n src s).pending = s.pending := by
  unfold freewheelOrClose
  exact queue_ite ((queue_foldl (fun _ _ => State.modChan_queue ..) ..).trans (State.modChan_queue ..)) (finishClosing_queue ..)

theorem startTurnOn_queue (n : Nat) (s : State) : (startTurnOn n s).pending = s.pending := by
  unfold startTurnOn
  exact queue_ite (coolInstead_queue ..) (queue_ite (freewheelOrClose_queue ..) (State.modChan_queue ..))

theorem chOn_queue (n : Nat) (v : Word) (s : State) : (chOn n v s).pending = s.pending := by
  unfold chOn
  exact queue_ite rfl (queue_ite (refuseCh_queue ..) (queue_ite (refuseCh_queue ..) (by
    split
    · exact refuseCh_queue ..
    · exact queue_ite rfl (startTurnOn_queue ..)
    · exact queue_ite (changeGroup_queue ..) (queue_ite (State.modChan_queue ..) (startTurnOn_queue ..))
    · exact queue_foldl (fun _ _ => State.modChan_queue ..) ..
    · exact queue_foldl (fun _ _ => State.modChan_queue ..) ..
    · rfl
    · rfl)))

theorem chClear_queue (n : Nat) (v : Word) (s : State) : (chClear n v s).pending = s.pending := by
  unfold chClear
  exact queue_ite rfl (queue_ite (refuseCh_queue ..) (changeGroup_queue ..))

theorem chCtl_queue (n : Nat) (v : Word) (s : State) : (chCtl n v s).pending = s.pending := by
  unfold chCtl
  exact (queue_ite (chProbe_queue ..) rfl).trans ((queue_ite (chOff_queue ..) (queue_ite (chOn_queue ..) rfl)).trans (queue_ite
    (chClear_queue ..) rfl))

theorem chCfgWrite_queue (n : Nat) (v : Word) (s : State) : (chCfgWrite n v s).pending = s.pending := by
  unfold chCfgWrite
  exact queue_ite (refuseCh_queue ..) ((State.modChan_queue ..).trans (State.setLive_queue ..))

theorem wireWarn_queue (n : Nat) (was : Bool) (s : State) : (wireWarn n was s).pending = s.pending := by
  unfold wireWarn
  exact queue_ite ((reportCh_queue ..).trans (State.modChan_queue ..)) (State.modChan_queue ..)

theorem startWire_queue (n : Nat) (s : State) : (startWire n s).pending = s.pending := by
  unfold startWire
  exact (queue_ite (wireWarn_queue ..) rfl).trans (State.modChan_queue ..)

theorem chWrite_queue (n off : Nat) (v : Word) (s : State) : (chWrite n off v s).pending = s.pending := by
  unfold chWrite
  split
  · exact chCtl_queue ..
  · exact State.modChan_queue ..
  · exact chCfgWrite_queue ..
  · exact queue_ite (refuseCh_queue ..) (queue_ite (refuseCh_queue ..) (State.setLive_queue ..))
  · exact (queue_ite ((refuseCh_queue ..).trans (State.setLive_queue ..)) (State.setLive_queue ..)).trans (queue_ite (refuseCh_queue
      ..) rfl)
  · exact queue_ite (refuseCh_queue ..) (State.setLive_queue ..)
  · exact queue_ite (refuseCh_queue ..) (State.setLive_queue ..)
  · exact queue_ite (refuseCh_queue ..) (State.setLive_queue ..)
  · exact queue_ite (refuseCh_queue ..) (State.setLive_queue ..)
  · exact queue_ite (refuseCh_queue ..) ((startWire_queue ..).trans (State.setLive_queue ..))
  · exact (queue_ite rfl (refuseCh_queue ..)).trans (State.setLive_queue ..)
  · exact queue_ite ((queue_foldl (fun _ _ => State.modChan_queue ..) ..).trans (State.setLive_queue ..)) (refuseCh_queue ..)
  · exact queue_ite (State.setLive_queue ..) (refuseCh_queue ..)

theorem State.clearLive_queue (s : State) (r : (Nat × Nat) × Nat × Nat) : (State.clearLive s r).pending = s.pending := rfl

theorem resetTile_queue (t cause : Nat) (s : State) : (resetTile t cause s).pending = s.pending := by
  unfold resetTile
  extract_lets _ chans live _ fab tgt
  have hchans : chans.pending = s.pending := queue_foldl (fun _ _ => State.modChan_queue ..) ..
  clear_value chans
  have hlive : live.pending = s.pending := (State.clearLive_queue ..).trans hchans
  clear_value live
  have hfab : fab.pending = s.pending := hlive
  clear_value fab
  exact (present_queue ..).trans ((State.modTgt_queue ..).trans hfab)

theorem ambWrite_queue (t : Nat) (v : Word) (s : State) : (ambWrite t v s).pending = s.pending := by
  unfold ambWrite
  exact (queue_foldl (fun _ _ => queue_ite (wireWarn_queue ..) rfl) ..).trans (State.setLive_queue ..)

theorem tileRegWrite_queue (t off : Nat) (v : Word) (s : State) : (tileRegWrite t off v s).pending = s.pending := by
  unfold tileRegWrite
  exact queue_ite (queue_ite (resetTile_queue ..) rfl) (queue_ite (ambWrite_queue ..) (queue_ite (State.setLive_queue ..)
    (refuseTile_queue ..)))

theorem tileApply_queue (a : Nat) (v : Word) (s : State) : (tileApply a v s).pending = s.pending := by
  unfold tileApply
  dsimp only
  exact queue_ite (queue_ite rfl (queue_ite (queue_ite (refuseCh_queue ..) rfl) (chWrite_queue ..))) (queue_ite rfl (tileRegWrite_queue
    ..))

theorem presentKind_queue (t : Nat) (now : List (Nat × Word)) (es : List Entry) (k : Nat) (s : State) : (presentKind t now es k
    s).pending = s.pending := by
  unfold presentKind
  exact queue_ite rfl ((present_queue ..).trans (State.modTgt_queue ..))

theorem presentShadow_queue (t : Nat) (s : State) : (presentShadow t s).pending = s.pending := by
  unfold presentShadow
  split
  · rfl
  · exact (present_queue ..).trans (State.modTgt_queue ..)

theorem State.setReported_queue (s : State) (ps : List (Nat × Word)) : (State.setReported s ps).pending = s.pending := by
  unfold State.setReported
  exact queue_foldl (fun _ _ => State.setCopy_queue ..) ..

theorem presentReport_queue (t : Nat) (all : Bool) (now : List (Nat × Word)) (s : State) : (presentReport t all now s).pending =
    s.pending := by
  unfold presentReport
  exact (queue_foldl (fun _ _ => presentKind_queue ..) ..).trans ((queue_ite (presentShadow_queue ..) rfl).trans ((presentKind_queue
    ..).trans ((queue_ite (State.setReported_queue ..) rfl).trans (State.modTgt_queue ..))))

theorem presentUnit_queue (t : Nat) (all : Bool) (s : State) : (presentUnit t all s).pending = s.pending := by
  unfold presentUnit
  exact (presentReport_queue ..).trans (queue_ite (presentShadow_queue ..) rfl)

theorem fullTileReport_queue (t : Nat) (s : State) : (fullTileReport t s).pending = s.pending := by
  unfold fullTileReport
  exact queue_foldl (fun _ _ => reportCh_queue ..) ..

theorem claimChan_queue (n : Nat) (s : State) : (claimChan n s).pending = s.pending := by
  unfold claimChan
  split
  · exact State.modChan_queue ..
  · exact State.modChan_queue ..
  · exact State.modChan_queue ..
  · rfl

theorem reportGrp_queue (g : Nat) (recs : List RecDraft) (s : State) : (reportGrp g recs s).pending = s.pending := by
  unfold reportGrp
  exact pushEntry_queue ..

theorem State.modDout_queue (s : State) (o : Nat) (f : Dout → Dout) : (State.modDout s o f).pending = s.pending := rfl

theorem reportDo_queue (o cause : Nat) (s : State) : (reportDo o cause s).pending = s.pending := by
  simp only [reportDo, pushEntry_queue, State.modDout_queue]

theorem fioClaim_queue (s : State) : (fioClaim s).pending = s.pending := by
  unfold fioClaim
  exact (queue_foldl (fun _ _ => reportGrp_queue ..) ..).trans ((queue_foldl (fun _ _ => (reportDo_queue ..).trans (queue_ite
    (State.modDout_queue ..) rfl)) ..).trans (State.modTgt_queue ..))

theorem pushLgt_queue (obj cause : Nat) (w : Word) (a hi : Nat) (arg1 : Word) (copy : List (Nat × Word)) (s : State) : (pushLgt obj
    cause w a hi arg1 copy s).pending = s.pending := by
  unfold pushLgt
  exact pushEntry_queue ..

theorem reportMx_queue (m cause hi : Nat) (s : State) : (reportMx m cause hi s).pending = s.pending := by
  unfold reportMx
  exact pushLgt_queue ..

theorem State.modMx_queue (s : State) (m : Nat) (f : Mx → Mx) : (State.modMx s m f).pending = s.pending := rfl

theorem reportStr_queue (x cause : Nat) (s : State) : (reportStr x cause s).pending = s.pending := by
  unfold reportStr
  exact pushLgt_queue ..

theorem lgtClaim_queue (s : State) : (lgtClaim s).pending = s.pending := by
  unfold lgtClaim
  exact (queue_foldl (fun _ _ => (reportMx_queue ..).trans (queue_ite (State.modMx_queue ..) rfl)) ..).trans ((queue_foldl (fun _ _ =>
    (reportStr_queue ..).trans (queue_ite (State.modStr_queue ..) rfl)) ..).trans (State.modTgt_queue ..))

theorem accClaim_queue (s : State) : (accClaim s).pending = s.pending := by
  unfold accClaim
  exact (pushEntry_queue ..).trans (State.modTgt_queue ..)

theorem denClaim_queue (s : State) : (denClaim s).pending = s.pending := by
  unfold denClaim
  exact pushEntry_queue ..

theorem busClaim_queue (b : Nat) (l : Lane) (s : State) : (busClaim b l s).pending = s.pending := by
  unfold busClaim
  exact State.modBus_queue ..

theorem claimUnit_queue (t : Nat) (l : Lane) (s : State) : (claimUnit t l s).pending = s.pending := by
  unfold claimUnit
  exact queue_ite ((presentUnit_queue ..).trans ((fullTileReport_queue ..).trans (queue_foldl (fun _ _ => claimChan_queue ..) ..)))
    (queue_ite ((presentUnit_queue ..).trans (fioClaim_queue ..)) (queue_ite ((presentUnit_queue ..).trans (lgtClaim_queue ..))
    (queue_ite ((presentUnit_queue ..).trans (accClaim_queue ..)) (queue_ite ((presentUnit_queue ..).trans (denClaim_queue ..))
    (queue_ite ((presentBus_queue ..).trans (busClaim_queue ..)) rfl)))))

theorem recoverStep_queue (n : Nat) (s : State) : (recoverStep n s).pending = s.pending := by
  unfold recoverStep
  exact State.modBus_queue ..

theorem canCfgEffect_queue (n : Nat) (was v : Word) (s : State) : (canCfgEffect n was v s).pending = s.pending := by
  unfold canCfgEffect
  exact (queue_ite (recoverStep_queue ..) rfl).trans (queue_ite ((busStateLater_queue ..).trans (State.modBus_queue ..)) (queue_ite
    ((busStateLater_queue ..).trans (State.modBus_queue ..)) rfl))

theorem ttRestoreCells_queue (s : State) (n : Nat) : (ttRestoreCells s n).pending = s.pending := by
  unfold ttRestoreCells
  exact queue_foldl (fun _ _ => State.setLive_queue ..) ..

theorem busConfigured_queue (b : Nat) (s : State) : (busConfigured b s).pending = s.pending := by
  unfold busConfigured
  exact queue_ite rfl (queue_ite ((canCfgEffect_queue ..).trans (ttRestoreCells_queue ..)) (queue_ite (State.modBus_queue ..) rfl))

theorem restoreRegs_queue (t : Nat) (s : State) : (restoreRegs t s).pending = s.pending := by
  unfold restoreRegs
  exact queue_foldl (fun _ _ => (State.setLive_queue ..).trans (queue_ite rfl (State.setCopy_queue ..))) ..

theorem restoreTarget_queue (t : Nat) (s : State) : (restoreTarget t s).pending = s.pending := by
  unfold restoreTarget
  exact (queue_ite (queue_foldl (fun _ _ => startWire_queue ..) ..) (queue_ite (busConfigured_queue ..) rfl)).trans (restoreRegs_queue
    ..)

theorem acceptClaim_queue (t : Nat) (l : Lane) (restore : Bool) (count ply idx : Nat) (s : State) : (acceptClaim t l restore count ply
    idx s).pending = s.pending := by
  simp only [acceptClaim, claimUnit_queue, State.setTgt_queue, restoreTarget_queue, restoreRegs_queue, apply_ite State.pending,
    ite_self]

theorem mxColShort_queue (m c : Nat) (low : Bool) (s : State) : (mxColShort m c low s).pending = s.pending := by
  unfold mxColShort
  exact queue_ite ((reportMx_queue ..).trans (State.modMx_queue ..)) (State.modMx_queue ..)

theorem coldStart_queue (vlogA vlogB vpwrA vpwrB calOk : Bool) (s : State) : (coldStart vlogA vlogB vpwrA vpwrB calOk s).pending =
    s.pending := by
  simp only [coldStart, moduleReset_queue, apply_ite State.pending, ite_self]

theorem refuseFio_queue (obj off reason a : Nat) (v : Word) (s : State) : (refuseFio obj off reason a v s).pending = s.pending := by
  unfold refuseFio
  exact State.modTgt_queue ..

theorem changeDo_queue (o cause : Nat) (f : Dout → Dout) (s : State) : (changeDo o cause f s).pending = s.pending := by
  unfold changeDo
  exact (reportDo_queue ..).trans (State.modDout_queue ..)

theorem fioOff_queue (o : Nat) (s : State) : (fioOff o s).pending = s.pending := by
  unfold fioOff
  dsimp only
  split
  · exact changeDo_queue ..
  · exact changeDo_queue ..
  · exact changeDo_queue ..
  · exact queue_ite (changeDo_queue ..) rfl
  · rfl

theorem fioOn_queue (o : Nat) (v : Word) (s : State) : (fioOn o v s).pending = s.pending := by
  unfold fioOn
  exact queue_ite rfl (queue_ite (refuseFio_queue ..) (by
    split
    · exact refuseFio_queue ..
    · exact queue_ite (changeDo_queue ..) (queue_ite (changeDo_queue ..) (changeDo_queue ..))
    · exact queue_ite (changeDo_queue ..) (queue_ite (changeDo_queue ..) (changeDo_queue ..))
    · rfl))

theorem fioGrpCtl_queue (g : Nat) (v : Word) (s : State) : (fioGrpCtl g v s).pending = s.pending := by
  unfold fioGrpCtl
  exact queue_foldl (fun _ _ => queue_ite (fioOff_queue ..) (queue_ite (fioOn_queue ..) rfl)) ..

theorem setDiBit_queue (base d : Nat) (b : Bool) (s : State) : (setDiBit base d b s).pending = s.pending := by
  unfold setDiBit
  exact State.setCopy_queue ..

theorem State.setDin_queue (s : State) (d : Nat) (c : Din) : (State.setDin s d c).pending = s.pending := rfl

theorem diUnknown_queue (d : Nat) (s : State) : (diUnknown d s).pending = s.pending := by
  unfold diUnknown
  exact (setDiBit_queue ..).trans ((setDiBit_queue ..).trans (State.setDin_queue ..))

theorem fioDiCfg_queue (d : Nat) (v : Word) (s : State) : (fioDiCfg d v s).pending = s.pending := by
  unfold fioDiCfg
  exact (diUnknown_queue ..).trans (queue_ite (State.setLive_queue ..) (refuseFio_queue ..))

theorem fioClear_queue (o : Nat) (s : State) : (fioClear o s).pending = s.pending := by
  unfold fioClear
  exact queue_ite (changeDo_queue ..) rfl

theorem fioCtl_queue (o : Nat) (v : Word) (s : State) : (fioCtl o v s).pending = s.pending := by
  unfold fioCtl
  exact (queue_ite (fioOff_queue ..) (queue_ite (fioOn_queue ..) rfl)).trans (queue_ite (fioClear_queue ..) rfl)

theorem fioApply_queue (a : Nat) (v : Word) (s : State) : (fioApply a v s).pending = s.pending := by
  unfold fioApply
  exact queue_ite (queue_ite (refuseFio_queue ..) (State.setLive_queue ..)) (queue_ite (State.setLive_queue ..) (queue_ite
    (fioGrpCtl_queue ..) (queue_ite (fioDiCfg_queue ..) (queue_ite (by
    split
    · exact fioCtl_queue ..
    · exact queue_ite (State.setLive_queue ..) (refuseFio_queue ..)
    · exact State.modDout_queue ..
    · rfl) rfl))))

theorem refuseLgt_queue (obj off reason a : Nat) (v : Word) (s : State) : (refuseLgt obj off reason a v s).pending = s.pending := by
  unfold refuseLgt
  exact State.modTgt_queue ..

theorem changeStr_queue (x cause : Nat) (f : Str → Str) (s : State) : (changeStr x cause f s).pending = s.pending := by
  unfold changeStr
  exact (reportStr_queue ..).trans (State.modStr_queue ..)

theorem lgtOff_queue (x : Nat) (s : State) : (lgtOff x s).pending = s.pending := by
  unfold lgtOff
  dsimp only
  split
  · exact changeStr_queue ..
  · exact changeStr_queue ..
  · exact changeStr_queue ..
  · exact State.modStr_queue ..
  · exact queue_ite (changeStr_queue ..) (State.modStr_queue ..)
  · rfl

theorem lgtOn_queue (x : Nat) (withGo : Bool) (v : Word) (s : State) : (lgtOn x withGo v s).pending = s.pending := by
  unfold lgtOn
  exact queue_ite rfl (queue_ite (refuseLgt_queue ..) (by
    split
    · exact refuseLgt_queue ..
    · exact queue_ite (changeStr_queue ..) (changeStr_queue ..)
    · exact queue_ite (changeStr_queue ..) (changeStr_queue ..)
    · exact queue_ite (State.modStr_queue ..) rfl))

theorem lgtGo_queue (x : Nat) (s : State) : (lgtGo x s).pending = s.pending := by
  unfold lgtGo
  split
  · rfl
  · rfl
  · exact State.modStr_queue ..

theorem lgtClear_queue (x : Nat) (s : State) : (lgtClear x s).pending = s.pending := by
  unfold lgtClear
  split
  · exact changeStr_queue ..
  · exact State.modStr_queue ..
  · rfl

theorem lgtCtl_queue (x : Nat) (v : Word) (s : State) : (lgtCtl x v s).pending = s.pending := by
  unfold lgtCtl
  exact (queue_ite (lgtOff_queue ..) (queue_ite (lgtOn_queue ..) (queue_ite (lgtGo_queue ..) rfl))).trans (queue_ite (lgtClear_queue
    ..) rfl)

theorem strCfg_queue (x : Nat) (v : Word) (s : State) : (strCfg x v s).pending = s.pending := by
  unfold strCfg
  exact queue_ite (refuseLgt_queue ..) ((State.modStr_queue ..).trans (State.setLive_queue ..))

theorem strApply_queue (x off a : Nat) (v : Word) (s : State) : (strApply x off a v s).pending = s.pending := by
  unfold strApply
  split
  · exact lgtCtl_queue ..
  · exact strCfg_queue ..
  · exact queue_ite (refuseLgt_queue ..) (State.setLive_queue ..)
  · exact queue_ite (refuseLgt_queue ..) (State.setLive_queue ..)
  · exact queue_ite (refuseLgt_queue ..) (State.setLive_queue ..)
  · exact queue_ite (refuseLgt_queue ..) (queue_ite (refuseLgt_queue ..) (State.setLive_queue ..))
  · exact State.setLive_queue ..
  · exact State.modStr_queue ..
  · exact queue_ite (State.setLive_queue ..) rfl

theorem changeMx_queue (m cause : Nat) (f : Mx → Mx) (s : State) : (changeMx m cause f s).pending = s.pending := by
  unfold changeMx
  exact (reportMx_queue ..).trans (State.modMx_queue ..)

theorem mxOffCmd_queue (m : Nat) (s : State) : (mxOffCmd m s).pending = s.pending := by
  unfold mxOffCmd
  dsimp only
  split
  · exact changeMx_queue ..
  · exact changeMx_queue ..
  · exact changeMx_queue ..
  · exact State.modMx_queue ..
  · exact queue_ite (changeMx_queue ..) (State.modMx_queue ..)
  · rfl

theorem mxOnCmd_queue (m : Nat) (withGo : Bool) (v : Word) (s : State) : (mxOnCmd m withGo v s).pending = s.pending := by
  unfold mxOnCmd
  exact queue_ite rfl (queue_ite (refuseLgt_queue ..) (by
    split
    · exact refuseLgt_queue ..
    · exact queue_ite (changeMx_queue ..) (changeMx_queue ..)
    · exact queue_ite (changeMx_queue ..) (changeMx_queue ..)
    · exact queue_ite (State.modMx_queue ..) rfl))

theorem mxGoCmd_queue (m : Nat) (s : State) : (mxGoCmd m s).pending = s.pending := by
  unfold mxGoCmd
  split
  · rfl
  · rfl
  · exact State.modMx_queue ..

theorem mxSwapCmd_queue (m : Nat) (s : State) : (mxSwapCmd m s).pending = s.pending := by
  unfold mxSwapCmd
  exact State.modMx_queue ..

theorem mxClearCmd_queue (m : Nat) (s : State) : (mxClearCmd m s).pending = s.pending := by
  unfold mxClearCmd
  exact queue_ite (changeMx_queue ..) rfl

theorem mxCtl_queue (m : Nat) (v : Word) (s : State) : (mxCtl m v s).pending = s.pending := by
  unfold mxCtl
  exact (queue_ite (mxOffCmd_queue ..) (queue_ite (mxOnCmd_queue ..) (queue_ite (mxGoCmd_queue ..) rfl))).trans ((queue_ite
    (mxSwapCmd_queue ..) rfl).trans (queue_ite (mxClearCmd_queue ..) rfl))

theorem mxApply_queue (m off a : Nat) (v : Word) (s : State) : (mxApply m off a v s).pending = s.pending := by
  unfold mxApply
  split
  · exact mxCtl_queue ..
  · exact queue_ite (State.setLive_queue ..) (refuseLgt_queue ..)
  · exact State.setLive_queue ..
  · exact queue_ite (refuseLgt_queue ..) (State.setLive_queue ..)
  · exact queue_ite (refuseLgt_queue ..) (queue_ite (refuseLgt_queue ..) (State.setLive_queue ..))
  · exact State.modMx_queue ..
  · rfl

theorem lgtApply_queue (a : Nat) (v : Word) (s : State) : (lgtApply a v s).pending = s.pending := by
  unfold lgtApply
  exact queue_ite (queue_ite (refuseLgt_queue ..) (State.setLive_queue ..)) (queue_ite (strApply_queue ..) (queue_ite (mxApply_queue
    ..) (queue_ite (State.setLive_queue ..) rfl)))

theorem refuseAcc_queue (obj off reason a : Nat) (v : Word) (s : State) : (refuseAcc obj off reason a v s).pending = s.pending := by
  unfold refuseAcc
  exact State.modTgt_queue ..

theorem startRound_queue (trigger handle ant : Nat) (s : State) : (startRound trigger handle ant s).pending = s.pending := rfl

theorem commandRound_queue (ant : Nat) (v : Word) (s : State) : (commandRound ant v s).pending = s.pending := by
  unfold commandRound
  exact queue_ite (refuseAcc_queue ..) (startRound_queue ..)

theorem tokWrite_queue (i : Nat) (v : Word) (s : State) : (tokWrite i v s).pending = s.pending := by
  unfold tokWrite
  exact (queue_ite (endSession_queue ..) rfl).trans ((loadLatch_queue ..).trans (State.setLive_queue ..))

theorem accApply_queue (a : Nat) (v : Word) (s : State) : (accApply a v s).pending = s.pending := by
  unfold accApply
  exact queue_ite (State.setLive_queue ..) (queue_ite ((queue_ite (commandRound_queue ..) rfl).trans ((queue_ite (endSession_queue ..)
    rfl).trans (State.setLive_queue ..))) (queue_ite (queue_ite (refuseAcc_queue ..) (State.setLive_queue ..)) (queue_ite (queue_ite
    (refuseAcc_queue ..) (State.setLive_queue ..)) (queue_ite (queue_ite (refuseAcc_queue ..) (State.setLive_queue ..)) (queue_ite
    (queue_ite (refuseAcc_queue ..) (State.setLive_queue ..)) (queue_ite (queue_ite (refuseAcc_queue ..) (State.setLive_queue ..))
    (queue_ite (State.setLive_queue ..) (queue_ite (State.setLive_queue ..) (queue_ite (queue_ite (refuseAcc_queue ..)
    (State.setLive_queue ..)) (queue_ite (tokWrite_queue ..) rfl))))))))))

theorem denStopSoon_queue (cause : Nat) (s : State) : (denStopSoon cause s).pending = s.pending := by
  unfold denStopSoon
  exact queue_ite rfl rfl

theorem reportDen_queue (cause : Nat) (s : State) : (reportDen cause s).pending = s.pending := by
  unfold reportDen
  exact pushAcc_queue ..

theorem denRun_queue (v : Word) (s : State) : (denRun v s).pending = s.pending := by
  unfold denRun
  exact queue_ite rfl (queue_ite (refuseAcc_queue ..) (queue_ite rfl (reportDen_queue ..)))

theorem denClearCmd_queue (s : State) : (denClearCmd s).pending = s.pending := by
  unfold denClearCmd
  exact queue_ite (reportDen_queue ..) rfl

theorem denCtl_queue (v : Word) (s : State) : (denCtl v s).pending = s.pending := by
  unfold denCtl
  exact (queue_ite (denStopSoon_queue ..) (queue_ite (denRun_queue ..) rfl)).trans (queue_ite (denClearCmd_queue ..) rfl)

theorem denCfg_queue (v : Word) (s : State) : (denCfg v s).pending = s.pending := by
  unfold denCfg
  exact queue_ite (refuseAcc_queue ..) ((queue_ite rfl (denStopSoon_queue ..)).trans (State.setLive_queue ..))

theorem denApply_queue (a : Nat) (v : Word) (s : State) : (denApply a v s).pending = s.pending := by
  unfold denApply
  exact queue_ite (denCtl_queue ..) (queue_ite (denCfg_queue ..) rfl)

theorem ttTakeCells_queue (s : State) (n : Nat) : (ttTakeCells s n).pending = s.pending := by
  unfold ttTakeCells
  exact (State.modBus_queue ..).trans (queue_foldr (fun _ _ => State.setLive_queue ..) ..)

theorem canApply_queue (n off a : Nat) (v : Word) (s : State) : (canApply n off a v s).pending = s.pending := by
  unfold canApply
  exact queue_ite (refuseBus_queue ..) (by
    split
    · exact (canCfgEffect_queue ..).trans (State.setLive_queue ..)
    · exact State.modBus_queue ..
    · exact (queue_ite ((State.modBus_queue ..).trans (ttTakeCells_queue ..)) rfl).trans (State.setLive_queue ..)
    · exact State.setLive_queue ..)

theorem linWakeStep_queue (n : Nat) (s : State) : (linWakeStep n s).pending = s.pending := by
  unfold linWakeStep
  exact queue_ite ((busStateLater_queue ..).trans (State.modBus_queue ..)) rfl

theorem linSleepStep_queue (n : Nat) (s : State) : (linSleepStep n s).pending = s.pending := by
  unfold linSleepStep
  exact queue_ite (State.modBus_queue ..) rfl

theorem linApply_queue (n off a : Nat) (v : Word) (s : State) : (linApply n off a v s).pending = s.pending := by
  unfold linApply
  exact queue_ite (refuseBus_queue ..) (by
    split
    · exact (queue_ite (State.modBus_queue ..) (queue_ite ((busStateLater_queue ..).trans (State.modBus_queue ..)) rfl)).trans
        (State.setLive_queue ..)
    · exact State.modBus_queue ..
    · exact (queue_ite (linWakeStep_queue ..) rfl).trans ((queue_ite (linSleepStep_queue ..) rfl).trans (State.setLive_queue ..))
    · exact State.setLive_queue ..)

theorem tsApply_queue (x off a : Nat) (v : Word) (s : State) : (tsApply x off a v s).pending = s.pending := by
  unfold tsApply
  split
  · exact queue_ite (refuseBus_queue ..) (queue_ite (refuseBus_queue ..) ((queue_ite rfl ((queue_ite (busStateLater_queue ..)
      rfl).trans (State.modBus_queue ..))).trans (State.setLive_queue ..)))
  · exact queue_ite (refuseBus_queue ..) (State.setLive_queue ..)
  · exact queue_ite (refuseBus_queue ..) (State.setLive_queue ..)
  · exact queue_ite (refuseBus_queue ..) (State.setLive_queue ..)
  · exact queue_ite (queue_ite (refuseBus_queue ..) ((State.modBus_queue ..).trans (State.setLive_queue ..))) rfl

theorem showOwned_queue (b : Nat) (s : State) : (showOwned b s).pending = s.pending := by
  unfold showOwned
  exact State.setCopy_queue ..

theorem ackSlot_queue (b k : Nat) (s : State) : (ackSlot b k s).pending = s.pending := by
  unfold ackSlot
  exact queue_ite ((showOwned_queue ..).trans ((State.setCopy_queue ..).trans (State.modBus_queue ..))) rfl

end Sys2Proof.Machine
end

section
/-! Operations that keep the queue, continued. -/

namespace Sys2Proof.Machine

open Sys2Proof

theorem ackAll_queue (b : Nat) (s : State) : (ackAll b s).pending = s.pending := by
  unfold ackAll
  exact queue_foldl (fun _ _ => ackSlot_queue ..) ..

theorem busApply_queue (a : Nat) (v : Word) (s : State) : (busApply a v s).pending = s.pending := by
  unfold busApply
  exact queue_ite (canApply_queue ..) (queue_ite (by
    split
    · exact State.modBus_queue ..
    · exact State.setLive_queue ..) (queue_ite (linApply_queue ..) (queue_ite (tsApply_queue ..) (queue_ite (queue_ite (ackAll_queue
        ..) (ackSlot_queue ..)) rfl))))

theorem targetWrite_queue (t a : Nat) (v : Word) (s : State) : (targetWrite t a v s).pending = s.pending := by
  unfold targetWrite
  exact queue_ite (queue_ite (tileApply_queue ..) rfl) (queue_ite (queue_ite (fioApply_queue ..) rfl) (queue_ite (queue_ite
    (lgtApply_queue ..) rfl) (queue_ite (queue_ite (accApply_queue ..) rfl) (queue_ite (queue_ite (denApply_queue ..) rfl) (queue_ite
    (queue_ite (busApply_queue ..) rfl) rfl)))))

/-- Each refusal that a bus holds is presented. -/
theorem presentRefusals_queue (src : Nat) (rs : List Refused) (s : State) : (rs.foldl (fun s r =>
    present src [0x20001, r.word0, r.value]
      (.upd [(r.addr, s.liveReg r.addr)] [⟨2, 0x004, Word.ofN r.addr, r.value, r.word0⟩]) s) s).pending = s.pending :=
  queue_foldl (fun _ _ => present_queue ..) rs s

theorem busClose_queue (b : Nat) (s : State) : (busClose b s).pending = s.pending := by
  unfold busClose
  extract_lets t g closed told
  have hclosed : closed.pending = s.pending := State.modTgt_queue ..
  clear_value closed
  have htold : told.pending = s.pending := (presentRefusals_queue ..).trans hclosed
  clear_value told
  split
  · exact (presentBus_queue ..).trans htold
  · exact (countsShown_queue ..).trans ((State.setReported_queue ..).trans htold)

theorem targetClose_queue (t : Nat) (s : State) : (targetClose t s).pending = s.pending := by
  unfold targetClose
  exact queue_ite (presentUnit_queue ..) ((queue_ite (busClose_queue ..) rfl).trans (presentShadow_queue ..))

theorem busSubmit_queue (b op obj tag : Nat) (fr : List Word) (s : State) : (busSubmit b op obj tag fr s).pending = s.pending := by
  unfold busSubmit
  split
  · exact busQueueReq_queue ..
  · exact busUpdateReq_queue ..
  · exact busAbortReq_queue ..
  · exact refuseBus_queue ..

theorem startTest_queue (i ant : Nat) (s : State) : (startTest i ant s).pending = s.pending := by
  simp only [startTest, startRound_queue, apply_ite State.pending, ite_self]

theorem roundCommand_queue (trigger ant : Nat) (test : Option Nat) (s : State) : (roundCommand trigger ant test s).pending = s.pending
    := by
  unfold roundCommand
  exact queue_ite rfl (by
    split
    · exact queue_ite rfl (startTest_queue ..)
    · exact queue_ite (refuseAcc_queue ..) (startRound_queue ..))

theorem parkTarget_queue (t : Nat) (s : State) : (parkTarget t s).pending = s.pending := by
  unfold parkTarget
  exact (State.modTgt_queue ..).trans (queue_ite (queue_foldl (fun _ _ => queue_ite rfl (chOff_queue ..)) ..) (queue_ite (queue_foldl
    (fun _ _ => fioOff_queue ..) ..) (queue_ite ((queue_foldl (fun _ _ => mxOffCmd_queue ..) ..).trans (queue_foldl (fun _ _ =>
    lgtOff_queue ..) ..)) (queue_ite (State.modBus_queue ..) (queue_ite (State.modBus_queue ..) rfl)))))

theorem applyContent_queue (t : Nat) (l : Lane) (c : Content) (s : State) : (applyContent t l c s).pending = s.pending := by
  unfold applyContent
  split
  · exact targetWrite_queue ..
  · exact targetClose_queue ..
  · exact acceptClaim_queue ..
  · exact acceptClaim_queue ..
  · exact State.modTgt_queue ..
  · exact queue_ite (busSubmit_queue ..) rfl
  · exact queue_ite (roundCommand_queue ..) rfl
  · exact parkTarget_queue ..

theorem shadowFailed_queue (t : Nat) (missing : Bool) (count ply idx : Nat) (s : State) : (shadowFailed t missing count ply idx
    s).pending = s.pending := by
  unfold shadowFailed
  exact State.modTgt_queue ..

theorem shadowCompare_queue (t count : Nat) (c : Content) (isShadow : Bool) (ply idx : Nat) (s : State) : (shadowCompare t count c
    isShadow ply idx s).pending = s.pending := by
  unfold shadowCompare
  dsimp only
  split
  · exact (queue_ite rfl (queue_ite (shadowFailed_queue ..) (shadowFailed_queue ..))).trans (State.modTgt_queue ..)
  · exact State.modTgt_queue ..

theorem applyCommand_queue (t : Nat) (l : Lane) (count ply idx : Nat) (c : Content) (s : State) : (applyCommand t l count ply idx c
    s).pending = s.pending := by
  unfold applyCommand
  exact (applyContent_queue ..).trans ((queue_ite (State.modTgt_queue ..) rfl).trans ((queue_ite (shadowCompare_queue ..) rfl).trans
    (State.modTgt_queue ..)))

theorem commandOnce_queue (t : Nat) (l : Lane) (count ply idx : Nat) (c : Content) (s : State) : (commandOnce t l count ply idx c
    s).pending = s.pending := by
  unfold commandOnce
  exact queue_ite (applyCommand_queue ..) (queue_ite (State.modTgt_queue ..) rfl)

/-- A lane that sends its commands again leaves the queue. -/
theorem commandsOnce_queue (t : Nat) (l : Lane) (es : List Emitted) (s : State) :
    (es.foldl (fun s e => commandOnce t l e.count e.ply e.idx e.content s) s).pending = s.pending := by
  induction es generalizing s with
  | nil => rfl
  | cons e es ih => rw [List.foldl_cons, ih, commandOnce_queue]

theorem withPly_queue (p : Ply) (s : State) : ({ s with ply := p } : State).pending = s.pending := rfl

theorem resendFrom_queue (t : Nat) (l : Lane) (count : Nat) (s : State) : (resendFrom t l count s).pending = s.pending := by
  unfold resendFrom
  split
  · split <;> rfl
  · exact (commandsOnce_queue ..).trans (withPly_queue ..)

theorem commandStep_queue (t : Nat) (l : Lane) (count ply idx : Nat) (c : Content) (s : State) : (commandStep t l count ply idx c
    s).pending = s.pending := by
  unfold commandStep
  split
  · exact acceptClaim_queue ..
  · exact acceptClaim_queue ..
  · exact queue_ite rfl ((queue_ite rfl (queue_ite ((commandOnce_queue ..).trans (resendFrom_queue ..)) (commandOnce_queue ..))).trans
      ((queue_ite (busClaim_queue ..) rfl).trans (State.setTgt_queue ..)))

theorem setStartStatus_queue (l : Lane) (active peer solo : Bool) (ms : Nat) (s : State) : (setStartStatus l active peer solo ms
    s).pending = s.pending := by
  unfold setStartStatus
  exact State.modLane_queue ..

theorem heldOut_queue (l : Lane) (boot : Boot) (s : State) : (heldOut l boot s).pending = s.pending := by
  unfold heldOut
  exact (setStartStatus_queue ..).trans (State.modLane_queue ..)

theorem restartReady_queue (l : Lane) (s : State) : (restartReady l s).pending = s.pending := by
  unfold restartReady
  exact queue_ite ((laneOut_queue ..).trans (heldOut_queue ..)) (queue_ite (State.modLane_queue ..) ((queue_ite (beginJoin_queue ..)
    (State.modLane_queue ..)).trans (State.modLane_queue ..)))

theorem restoreChan_queue (n : Nat) (s : State) : (restoreChan n s).pending = s.pending := by
  unfold restoreChan
  exact (queue_ite (State.modChan_queue ..) rfl).trans (queue_ite rfl (queue_ite (State.modChan_queue ..) (State.modChan_queue ..)))

theorem restoreBank_queue (b : Nat) (s : State) : (restoreBank b s).pending = s.pending := by
  unfold restoreBank
  exact queue_foldl (fun _ _ => State.setCopy_queue ..) ..

theorem State.setCopies_queue (s : State) (ps : List (Nat × Word)) : (State.setCopies s ps).pending = s.pending := by
  unfold State.setCopies
  exact queue_foldl (fun _ _ => State.setCopy_queue ..) ..

theorem restoreBankZero_queue (s : State) : (restoreBankZero s).pending = s.pending := by
  unfold restoreBankZero
  exact (State.setCopy_queue ..).trans ((State.setCopy_queue ..).trans ((State.setCopies_queue ..).trans ((State.setCopy_queue
    ..).trans (State.setCopy_queue ..))))

theorem restoreRetained_queue (s : State) : (restoreRetained s).pending = s.pending := by
  unfold restoreRetained
  exact (queue_foldl (fun _ _ => queue_ite rfl ((queue_foldl (fun _ _ => restoreChan_queue ..) ..).trans (restoreTarget_queue ..)))
    ..).trans ((queue_ite rfl (queue_foldl (fun _ _ => State.setCopy_queue ..) ..)).trans ((queue_foldl (fun _ _ => State.setCopy_queue
    ..) ..).trans ((queue_foldl (fun _ _ => (State.clearCopy_queue ..).trans (State.clearCopy_queue ..)) ..).trans ((queue_foldl (fun _
    _ => queue_ite (restoreBank_queue ..) rfl) ..).trans (queue_ite (restoreBankZero_queue ..) rfl)))))

theorem tokenCopy_queue (s : State) : (tokenCopy s).pending = s.pending := by
  unfold tokenCopy
  exact State.setCopies_queue ..

theorem loadPrograms_queue (ps : List (Nat × List Word)) (s : State) : (loadPrograms ps s).pending = s.pending := by
  unfold loadPrograms
  exact queue_foldl (fun _ _ => State.modCore_queue ..) ..

theorem setCoreKinds_queue (i : ConfigImage) (s : State) : (setCoreKinds i s).pending = s.pending := by
  unfold setCoreKinds
  exact (queue_foldl (fun _ _ => queue_ite rfl (State.modCore_queue ..)) ..).trans (loadPrograms_queue ..)

theorem configReg_queue (a : Nat) (v : Word) (s : State) : (configReg a v s).pending = s.pending := by
  simp only [configReg, tableWrite_queue, State.setCopy_queue, apply_ite State.pending, ite_self]

theorem loadConfig_queue (i : ConfigImage) (s : State) : (loadConfig i s).pending = s.pending := by
  unfold loadConfig
  exact (tokenCopy_queue ..).trans ((setCoreKinds_queue ..).trans (queue_foldl (fun _ _ => configReg_queue ..) ..))

theorem applyConfig_queue (i : ConfigImage) (s : State) : (applyConfig i s).pending = s.pending := by
  unfold applyConfig
  exact (queue_foldl (fun _ _ => restoreTarget_queue ..) ..).trans ((queue_ite (restoreRetained_queue ..) (queue_foldl (fun _ _ =>
    restoreTarget_queue ..) ..)).trans (loadConfig_queue ..))

theorem configApplied_queue (l : Lane) (ok : Bool) (i : ConfigImage) (s : State) : (configApplied l ok i s).pending = s.pending := by
  unfold configApplied
  extract_lets c v
  have hv : v.pending = s.pending := State.modLane_queue ..
  clear_value v
  refine queue_ite rfl ?_
  split
  · exact (restartReady_queue ..).trans (queue_ite hv hv)
  · exact queue_ite hv (queue_ite (queue_ite hv ((heldOut_queue ..).trans hv)) (queue_ite ((applyConfig_queue ..).trans hv) hv))

theorem updResume_queue (l : Lane) (s : State) : (updResume l s).pending = s.pending := by
  unfold updResume
  exact queue_ite (laneRecord_queue ..) rfl

theorem groupSample_queue (n : Nat) (s : State) : (groupSample n s).pending = s.pending := by
  unfold groupSample
  exact (State.modChan_queue ..).trans (queue_foldl (fun _ _ => State.modChan_queue ..) ..)

theorem takeSample_queue (n : Nat) (fine coarse : Word) (limited : Bool) (s : State) : (takeSample n fine coarse limited s).pending =
    s.pending := by
  unfold takeSample
  exact (queue_ite (groupSample_queue ..) rfl).trans ((queue_ite (reportCh_queue ..) rfl).trans (State.modChan_queue ..))

theorem unpowerTile_queue (t : Nat) (s : State) : (unpowerTile t s).pending = s.pending := by
  unfold unpowerTile
  exact (State.clearLive_queue ..).trans (queue_foldl (fun _ _ => State.setChan_queue ..) ..)

theorem deepAfter_queue (s : State) : (deepAfter s).pending = s.pending := by
  unfold deepAfter
  exact queue_ite (queue_foldl (fun _ _ => unpowerTile_queue ..) ..) rfl

theorem denStopNow_queue (cause : Nat) (st : DenState) (s : State) : (denStopNow cause st s).pending = s.pending := by
  unfold denStopNow
  exact queue_ite (reportDen_queue ..) rfl

theorem denHalf_queue (readP readN : Bool) (s : State) : (denHalf readP readN s).pending = s.pending := by
  unfold denHalf
  exact queue_ite rfl (by
    split
    · exact denStopNow_queue ..
    · exact queue_ite (denStopNow_queue ..) rfl)

theorem fioThermalRelease_queue (o : Nat) (s : State) : (fioThermalRelease o s).pending = s.pending := by
  unfold fioThermalRelease
  exact (queue_ite rfl (queue_ite (changeDo_queue ..) (queue_ite (changeDo_queue ..) (changeDo_queue ..)))).trans (State.modDout_queue
    ..)

theorem moveStep_queue (b : Nat) (s : State) : (moveStep b s).pending = s.pending := by
  unfold moveStep
  exact queue_ite ((busStateNow_queue ..).trans (State.modBus_queue ..)) rfl

theorem domStep_queue (b : Nat) (s : State) : (domStep b s).pending = s.pending := by
  unfold domStep
  exact queue_ite ((moveStep_queue ..).trans ((busStateLater_queue ..).trans (State.modBus_queue ..))) rfl

theorem hotSet_queue (n code : Nat) (arg1 : Word) (f : Chan → Chan) (s : State) : (hotSet n code arg1 f s).pending = s.pending := by
  unfold hotSet
  exact (queue_ite (changeGroup_queue ..) (queue_ite (changeGroup_queue ..) (reportCh_queue ..))).trans (State.modChan_queue ..)

theorem dtSet_queue (n : Nat) (temp : Word) (s : State) : (dtSet n temp s).pending = s.pending := by
  unfold dtSet
  exact queue_ite rfl (hotSet_queue ..)

theorem coolRelease_queue (n : Nat) (temp : Word) (s : State) : (coolRelease n temp s).pending = s.pending := by
  unfold coolRelease
  exact queue_ite rfl (queue_ite (queue_ite rfl (changeGroup_queue ..)) (changeGroup_queue ..))

theorem dtClear_queue (n : Nat) (temp : Word) (s : State) : (dtClear n temp s).pending = s.pending := by
  unfold dtClear
  exact queue_ite ((coolRelease_queue ..).trans (State.modChan_queue ..)) rfl

theorem closeAllSessions_queue (cause : Nat) (s : State) : (closeAllSessions cause s).pending = s.pending := by
  unfold closeAllSessions
  exact queue_foldl (fun _ _ => laneRecord_queue ..) ..

theorem commitEntry_queue (s : State) : (commitEntry s).pending = s.pending := by
  unfold commitEntry
  exact queue_ite rfl ((laneRecord_queue ..).trans ((endSession_queue ..).trans (closeAllSessions_queue ..)))

theorem updErased_queue (r : Option Lane) (l : Lane) (s : State) : (updErased r l s).pending = s.pending := by
  unfold updErased
  exact State.modUpd_queue ..

theorem fioBackfed_queue (o : Nat) (above below settled : Bool) (s : State) : (fioBackfed o above below settled s).pending = s.pending
    := by
  unfold fioBackfed
  exact queue_ite (State.modDout_queue ..) (queue_ite (changeDo_queue ..) (queue_ite (changeDo_queue ..) (State.modDout_queue ..)))

theorem fioSafe_queue (o : Nat) (s : State) : (fioSafe o s).pending = s.pending := by
  unfold fioSafe
  dsimp only
  split
  · exact queue_ite (changeDo_queue ..) (queue_ite (changeDo_queue ..) (changeDo_queue ..))
  · exact queue_ite (changeDo_queue ..) (queue_ite (changeDo_queue ..) (changeDo_queue ..))
  · exact queue_ite (changeDo_queue ..) (queue_ite (changeDo_queue ..) (changeDo_queue ..))
  · exact queue_ite (changeDo_queue ..) rfl
  · rfl

theorem fioTimeout_queue (s : State) : (fioTimeout s).pending = s.pending := by
  unfold fioTimeout
  exact queue_ite ((queue_foldl (fun _ _ => fioSafe_queue ..) ..).trans (State.modTgt_queue ..)) rfl

theorem fioSilence_queue (s : State) : (fioSilence s).pending = s.pending := by
  unfold fioSilence
  exact queue_ite ((queue_foldl (fun _ _ => by
    split
    · exact changeDo_queue ..
    · exact changeDo_queue ..
    · rfl) ..).trans (State.modTgt_queue ..)) rfl

theorem openSession_queue (i : Nat) (s : State) : (openSession i s).pending = s.pending := by
  unfold openSession
  exact reportSess_queue ..

theorem presentParkRecords_queue (s : State) : (presentParkRecords s).pending = s.pending := by
  simp only [presentParkRecords, present_queue, State.setLive_queue, apply_ite State.pending, ite_self]

theorem wakeAccess_queue (s : State) : (wakeAccess s).pending = s.pending := by
  unfold wakeAccess
  extract_lets shown _ pushed
  have hpushed : pushed.pending = s.pending := (queue_foldl (fun _ _ => pushEntry_queue ..) ..).trans (presentParkRecords_queue ..)
  clear_value pushed
  split
  · rename_i i _ _ _ _
    exact queue_ite hpushed ((openSession_queue i _).trans hpushed)
  · exact hpushed

theorem countLost_queue {f : State → State} (hf : ∀ s, (f s).pending = s.pending) (s : State) : (countLost f s).pending = s.pending :=
    by
  unfold countLost
  exact queue_ite (hf s) ((laneRecord_queue ..).trans (hf s))

theorem postEvent_queue (idx kind pos : Nat) (w1 : Word) (s : State) : (postEvent idx kind pos w1 s).pending = s.pending := by
  unfold postEvent
  exact queue_ite (State.setCopy_queue ..) ((State.setCopy_queue ..).trans ((State.setCopy_queue ..).trans (State.setCopy_queue ..)))

theorem State.setSlot_queue (s : State) (k : Nat) (c : SigSlot) : (State.setSlot s k c).pending = s.pending := rfl

theorem sigFlush_queue (k : Nat) (s : State) : (sigFlush k s).pending = s.pending := by
  unfold sigFlush
  split
  · exact (postEvent_queue ..).trans (State.setSlot_queue ..)
  · rfl

theorem sigFlushAll_queue (s : State) : (sigFlushAll s).pending = s.pending := by
  unfold sigFlushAll
  exact queue_ite (countLost_queue (fun _ => queue_foldl (fun _ _ => sigFlush_queue ..) ..) ..) rfl

theorem State.modLife_queue (s : State) (n : Nat) (f : Life → Life) : (State.modLife s n f).pending = s.pending := rfl

theorem lifeBlock_queue (blk : List Word) (s : State) : (lifeBlock blk s).pending = s.pending := by
  unfold lifeBlock
  exact queue_foldl (fun _ _ => queue_ite (State.modLife_queue ..) rfl) ..

theorem doorCheck_queue (was : Bool) (s : State) : (doorCheck was s).pending = s.pending := by
  unfold doorCheck
  exact queue_ite (emit_queue ..) rfl

theorem State.setDoutRuns_queue (s : State) (o : Nat) (c : DoutRuns) : (State.setDoutRuns s o c).pending = s.pending := rfl

theorem doSample_queue (o : Nat) (x : Word) (s : State) : (doSample o x s).pending = s.pending := by
  unfold doSample
  exact queue_ite rfl ((queue_ite (laneRecord_queue ..) rfl).trans ((queue_ite (laneRecord_queue ..) rfl).trans ((State.setCopy_queue
    ..).trans ((State.setCopy_queue ..).trans (State.setDoutRuns_queue ..)))))

theorem diShow_queue (d : Nat) (known lvl : Bool) (s : State) : (diShow d known lvl s).pending = s.pending := by
  unfold diShow
  exact (queue_ite (setDiBit_queue ..) (queue_ite (setDiBit_queue ..) rfl)).trans (setDiBit_queue ..)

theorem diSample_queue (d : Nat) (x : Word) (s : State) : (diSample d x s).pending = s.pending := by
  unfold diSample
  exact queue_ite rfl (queue_ite ((queue_ite (State.setDin_queue ..) (queue_ite ((setDiBit_queue ..).trans ((diShow_queue ..).trans
    (State.setDin_queue ..))) (State.setDin_queue ..))).trans (setDiBit_queue ..)) ((queue_ite ((laneRecord_queue ..).trans
    (setDiBit_queue ..)) rfl).trans (State.setDin_queue ..)))

theorem fioBlock_queue (blk : List Word) (s : State) : (fioBlock blk s).pending = s.pending := by
  unfold fioBlock
  exact (queue_foldl (fun _ _ => by
    split
    · exact doSample_queue ..
    · rfl) ..).trans (queue_foldl (fun _ _ => diSample_queue ..) ..)

theorem State.setStream_queue (s : State) (x : Nat) (c : Machine.Stream) : (State.setStream s x c).pending = s.pending := rfl

theorem ringWrite_queue (base size off : Nat) (ws : List Word) (s : State) : (ringWrite base size off ws s).pending = s.pending := by
  unfold ringWrite
  exact State.mapLanes_queue ..

theorem markGap_queue (x : Nat) (s : State) : (markGap x s).pending = s.pending := by
  unfold markGap
  split
  · rfl
  · exact (ringWrite_queue ..).trans (State.setStream_queue ..)

theorem streamRecord_queue (x seq : Nat) (blk : List Word) (s : State) : (streamRecord x seq blk s).pending = s.pending := by
  unfold streamRecord
  exact queue_ite rfl (queue_ite (State.setStream_queue ..) ((queue_ite rfl ((laneRecord_queue ..).trans ((markGap_queue ..).trans
    ((State.setCopy_queue ..).trans (State.setCopy_queue ..))))).trans ((queue_ite ((State.setCopy_queue ..).trans (ringWrite_queue
    ..)) rfl).trans (State.setStream_queue ..))))

theorem streamBlock_queue (seq : Nat) (blk : List Word) (s : State) : (streamBlock seq blk s).pending = s.pending := by
  unfold streamBlock
  exact queue_foldl (fun _ _ => streamRecord_queue ..) ..

theorem sigFinish_queue (k : Nat) (pts : List Word) (s : State) : (sigFinish k pts s).pending = s.pending := by
  unfold sigFinish
  exact (queue_ite (postEvent_queue ..) (queue_ite ((queue_ite ((postEvent_queue ..).trans ((State.setCopy_queue ..).trans
    (State.setCopy_queue ..))) (State.setCopy_queue ..)).trans (queue_foldl (fun _ _ => queue_ite rfl ((State.setCopy_queue ..).trans
    (State.setCopy_queue ..))) ..)) (queue_ite ((postEvent_queue ..).trans ((State.setCopy_queue ..).trans (State.setCopy_queue ..)))
    rfl))).trans (State.setSlot_queue ..)

theorem sigStep_queue (k : Nat) (p : Nat × Word) (s : State) : (sigStep k p s).pending = s.pending := by
  unfold sigStep
  split
  · rfl
  · exact queue_ite rfl (queue_ite (sigFinish_queue ..) (State.setSlot_queue ..))

theorem sigBlock_queue (blk : List Word) (s : State) : (sigBlock blk s).pending = s.pending := by
  unfold sigBlock
  exact queue_ite (queue_foldl (fun _ _ => (queue_ite rfl ((State.setSlot_queue ..).trans (queue_foldl (fun _ _ => sigStep_queue ..)
    ..))).trans (sigFlush_queue ..)) ..) rfl

theorem State.setComp_queue (s : State) (i : Nat) (c : Comp) : (State.setComp s i c).pending = s.pending := rfl

/-- A result that an event accompanies keeps the queue where the event's operation does. -/
theorem postedIf_queue {c : Prop} [Decidable c] (i k pos : Nat) (x w : Word) (a : Nat) (s : State) :
    (if c then postEvent i k pos x (s.setCopy a w) else s).pending = s.pending :=
  queue_ite ((postEvent_queue ..).trans (State.setCopy_queue ..)) rfl

theorem compSample_queue (i : Nat) (p : Nat × Word) (s : State) : (compSample i p s).pending = s.pending := by
  unfold compSample
  extract_lets pos x a st flagged cleared base hi lo roc sup hyst filt c hl h high ll l low prev
  have hcleared : cleared.pending = s.pending := postedIf_queue ..
  have hhigh : high.pending = s.pending := (postedIf_queue ..).trans hcleared
  have hlow : low.pending = s.pending := (postedIf_queue ..).trans hhigh
  clear_value low
  refine queue_ite (queue_ite (State.setCopy_queue ..) ((postEvent_queue ..).trans (State.setCopy_queue ..))) ?_
  split
  · exact (State.setComp_queue ..).trans ((postedIf_queue ..).trans ((postedIf_queue ..).trans hlow))
  · exact (State.setComp_queue ..).trans hlow

theorem compBlock_queue (blk : List Word) (s : State) : (compBlock blk s).pending = s.pending := by
  unfold compBlock
  exact queue_ite (queue_foldl (fun _ _ => queue_foldl (fun _ _ => compSample_queue ..) ..) ..) rfl

theorem measStatus_queue (blk : List Word) (s : State) : (measStatus blk s).pending = s.pending := by
  unfold measStatus
  exact State.setCopy_queue ..

theorem fabricRecords_queue (first : Bool) (blk : List Word) (s : State) : (fabricRecords first blk s).pending = s.pending := by
  unfold fabricRecords
  exact (queue_ite rfl (laneRecord_queue ..)).trans (queue_ite (laneRecord_queue ..) rfl)

theorem latestValues_queue (blk : List Word) (s : State) : (latestValues blk s).pending = s.pending := by
  unfold latestValues
  extract_lets latest
  have hlatest : latest.pending = s.pending := by
    refine queue_foldl (fun s i => ?_) _ s
    split
    · exact State.setCopy_queue ..
    · rfl
  clear_value latest
  refine (queue_foldl (fun s n => ?_) _ latest).trans hlatest
  extract_lets cur last mean raw told
  have hraw : raw.pending = s.pending := (State.setCopy_queue ..).trans ((State.setCopy_queue ..).trans (State.setCopy_queue ..))
  clear_value raw
  have htold : told.pending = s.pending := by
    unfold told
    split
    · exact (State.setCopy_queue ..).trans hraw
    · exact hraw
  exact (State.setCopy_queue ..).trans ((State.setCopy_queue ..).trans htold)

theorem sigDrop_queue (k reason : Nat) (s : State) : (sigDrop k reason s).pending = s.pending := by
  unfold sigDrop
  exact queue_ite (State.setSlot_queue ..) rfl

theorem recordedCopy_queue (r : RecDraft) (a : Nat) (w : Word) (s : State) :
    (laneRecord r (s.setCopy a w)).pending = s.pending :=
  (laneRecord_queue ..).trans (State.setCopy_queue ..)

theorem withFab_queue (f : Fabric) (s : State) : ({ s with fab := f } : State).pending = s.pending := rfl

theorem sigDrops_queue (p : SigRun → Bool) (ks : List Nat) (s : State) :
    (ks.foldl (fun (s : State) k => if (s.slot k).run.any p then sigDrop k 3 s else s) s).pending = s.pending := by
  refine queue_foldl (fun s k => ?_) ks s
  exact queue_ite (sigDrop_queue ..) rfl

theorem blockOrder_queue (frame : Nat) (blk : List Word) (s : State) : (blockOrder frame blk s).pending = s.pending := by
  unfold blockOrder
  extract_lets t0 late marked gap missed _
  have hmarked : marked.pending = s.pending := by
    unfold marked
    split
    · exact recordedCopy_queue ..
    · rfl
  clear_value marked
  have hmissed : missed.pending = s.pending := by
    unfold missed
    split
    · exact queue_ite ((sigDrops_queue ..).trans ((withFab_queue ..).trans ((recordedCopy_queue ..).trans hmarked))) hmarked
    · exact hmarked
  clear_value missed
  exact (withFab_queue ..).trans hmissed

theorem measBlock_queue (seq frame : Nat) (blk : List Word) (s : State) : (measBlock seq frame blk s).pending = s.pending := by
  unfold measBlock
  exact (streamBlock_queue ..).trans ((countLost_queue (fun _ => (sigBlock_queue ..).trans (compBlock_queue ..)) ..).trans
    ((measStatus_queue ..).trans ((fabricRecords_queue ..).trans ((latestValues_queue ..).trans (blockOrder_queue ..)))))

theorem laneRecords_queue (rs : List RecDraft) (s : State) : (laneRecords rs s).pending = s.pending := by
  unfold laneRecords
  exact queue_foldl (fun _ _ => laneRecord_queue ..) ..

theorem runBlock_queue (i : Input) (recs : List RecDraft) (s : State) : (runBlock i recs s).2.pending = s.pending := by
  unfold runBlock
  dsimp only
  exact (lifeBlock_queue ..).trans ((doorCheck_queue ..).trans ((fioBlock_queue ..).trans ((measBlock_queue ..).trans
    (laneRecords_queue ..))))

theorem phaseBlocks_queue (s : State) : (phaseBlocks s).pending = s.pending := by
  unfold phaseBlocks
  exact (sigFlushAll_queue ..).trans (queue_foldl2 (fun _ _ => by
    split
    · exact runBlock_queue ..
    · rfl) ..)

theorem recordPromo_queue (n : Nat) (s : State) : (recordPromo n s).pending = s.pending := by
  unfold recordPromo
  split
  · rfl
  · exact laneRecord_queue ..

theorem placeRecord_queue (i : Input) (s : State) : (placeRecord i s).pending = s.pending := by
  unfold placeRecord
  exact State.setSrams_queue ..

theorem presentPacket_queue (p : Packet) (s : State) : (presentPacket p s).pending = s.pending := by
  unfold presentPacket
  exact (present_queue ..).trans (State.modLane_queue ..)

theorem enginesBegin_queue (s : State) : (enginesBegin s).pending = s.pending := by
  unfold enginesBegin
  exact queue_foldl (fun _ _ => (queue_foldl (fun _ _ => presentPacket_queue ..) ..).trans (State.modLane_queue ..)) ..

theorem dmaBoundary_queue (s : State) : (dmaBoundary s).pending = s.pending := by
  unfold dmaBoundary
  dsimp only
  exact queue_foldl (fun _ _ => by
    split
    · exact State.setDma_queue ..
    · rfl) ..

theorem firmwareAcks_queue (s : State) : (firmwareAcks s).pending = s.pending := by
  unfold firmwareAcks
  exact queue_foldl (fun _ _ => queue_ite (ackMessages_queue ..) rfl) ..

theorem wakeCore_queue (c : Nat) (s : State) : (wakeCore c s).pending = s.pending := by
  unfold wakeCore
  exact State.modCore_queue ..

theorem ringBell_queue (k : Nat) (s : State) : (ringBell k s).pending = s.pending := by
  unfold ringBell
  exact (queue_ite (wakeCore_queue ..) rfl).trans (State.modBox_queue ..)

theorem stalePair_queue (i j : Nat) (s : State) : (stalePair i j s).2.pending = s.pending := by
  simp only [stalePair, State.modBox_queue, laneRecord_queue, apply_ite Prod.snd, apply_ite State.pending, ite_self]

theorem stalePairs_queue (ps : List (Nat × Nat)) (r : List Nat × State) : (ps.foldl (fun r p =>
    let q := stalePair p.1 p.2 r.2
    if q.1 then (r.1 ++ [p.1, p.2], q.2) else (r.1, q.2)) r).2.pending = r.2.pending := by
  refine queue_foldl2 (fun r p => ?_) ps r
  have hq := stalePair_queue p.1 p.2 r.2
  dsimp only
  split <;> exact hq

theorem staleStep_queue (s : State) : (staleStep s).2.pending = s.pending := by
  unfold staleStep
  exact stalePairs_queue _ ([], s)

theorem clearWaits_queue (s : State) : (clearWaits s).pending = s.pending := by
  unfold clearWaits
  exact queue_foldl (fun _ _ => queue_ite (State.modBox_queue ..) rfl) ..

theorem senderReset_queue (k : Nat) (s : State) : (senderReset k s).pending = s.pending := by
  unfold senderReset
  exact (State.modBox_queue ..).trans (State.clearCopy_queue ..)

theorem receiverReset_queue (k : Nat) (s : State) : (receiverReset k s).pending = s.pending := by
  simp only [receiverReset, State.modBox_queue, laneRecord_queue, apply_ite State.pending, ite_self]

theorem mbxCoreReset_queue (c : Nat) (s : State) : (mbxCoreReset c s).pending = s.pending := by
  unfold mbxCoreReset
  exact queue_foldl (fun _ _ => (queue_ite (senderReset_queue ..) rfl).trans (queue_ite (receiverReset_queue ..) rfl)) ..

theorem postStep_queue (k : Nat) (ws : List Word) (s : State) : (postStep k ws s).2.pending = s.pending := by
  unfold postStep
  exact queue_ite2 ((laneRecord_queue ..).trans (State.modBox_queue ..)) (State.modBox_queue ..)

theorem ackStep_queue (k n : Nat) (s : State) : (ackStep k n s).pending = s.pending := by
  unfold ackStep
  exact State.modBox_queue ..

theorem postSteps_queue (ps : List (Nat × List Word)) (r : List Nat × State) : (ps.foldl (fun (r : List Nat × State) p =>
    let q := postStep p.1 p.2 r.2
    if q.1 then (r.1 ++ [p.1], q.2) else (r.1, q.2)) r).2.pending = r.2.pending := by
  refine queue_foldl2 (fun r p => ?_) ps r
  have hq := postStep_queue p.1 p.2 r.2
  dsimp only
  split <;> exact hq

theorem mbxPhaseA_queue (resets : List Nat) (s : State) : (mbxPhaseA resets s).pending = s.pending := by
  unfold mbxPhaseA
  extract_lets acks posts _ later acked r reset st
  have hlater : later.pending = s.pending := queue_foldl (fun _ _ => State.modBox_queue ..) ..
  clear_value later
  have hacked : acked.pending = s.pending := (queue_foldl (fun _ _ => ackStep_queue ..) ..).trans hlater
  clear_value acked
  have hr : r.2.pending = s.pending := (postSteps_queue ..).trans hacked
  clear_value r
  have hreset : reset.pending = s.pending := (queue_foldl (fun _ _ => mbxCoreReset_queue ..) ..).trans hr
  clear_value reset
  have hst : st.2.pending = s.pending := by
    unfold st
    rw [staleStep_queue, clearWaits_queue, hreset]
  clear_value st
  exact (firmwareAcks_queue ..).trans ((queue_foldl (fun s k => ringBell_queue k s) ..).trans hst)

theorem runCore_queue (c : Nat) (s : State) : (runCore c s).pending = s.pending := by
  unfold runCore
  exact State.modCore_queue ..

theorem resetCore_queue (c : Nat) (s : State) : (resetCore c s).pending = s.pending := by
  unfold resetCore
  exact (laneRecord_queue ..).trans ((abandonLocks_queue ..).trans ((queue_ite rfl (stopProgram_queue ..)).trans (State.modCore_queue
    ..)))

theorem takeCtl_queue (c : Nat) (s : State) : (takeCtl c s).pending = s.pending := by
  unfold takeCtl
  exact (queue_ite (runCore_queue ..) rfl).trans ((queue_ite (State.modCore_queue ..) rfl).trans ((queue_ite (stopProgram_queue ..)
    rfl).trans ((queue_ite (resetCore_queue ..) rfl).trans (State.modCore_queue ..))))

theorem kwBoundary_queue (s : State) : (kwBoundary s).2.pending = s.pending := by
  unfold kwBoundary
  exact queue_foldl2 (fun _ _ => takeCtl_queue ..) ..

theorem envWritten_queue (a : Nat) (was : Word) (s : State) : (envWritten a was s).pending = s.pending := by
  unfold envWritten
  dsimp only
  split
  · exact queue_ite (State.setSlot_queue ..) rfl
  · rfl

theorem measApply_queue (p : MeasWrite) (s : State) : (measApply p s).pending = s.pending := by
  unfold measApply
  exact (queue_ite ((State.setCopy_queue ..).trans (State.setComp_queue ..)) (queue_ite ((queue_ite ((State.setCopy_queue ..).trans
    (State.clearCopy_queue ..)) rfl).trans ((queue_ite (State.setSlot_queue ..) rfl).trans (sigDrop_queue ..))) (queue_ite (queue_ite
    ((State.clearCopy_queue ..).trans (State.setStream_queue ..)) (queue_ite (State.setStream_queue ..) rfl)) (queue_ite
    (State.setDma_queue ..) (queue_ite (envWritten_queue ..) rfl))))).trans (State.setCopy_queue ..)

theorem measApplyAll_queue (s : State) : (measApplyAll s).pending = s.pending := by
  unfold measApplyAll
  exact queue_foldl (fun _ _ => measApply_queue ..) ..

theorem moveBack_queue (b : Nat) (s : State) : (moveBack b s).pending = s.pending := by
  unfold moveBack
  split
  · exact queue_ite ((busStateLater_queue ..).trans (State.modBus_queue ..)) rfl
  · rfl

theorem takeCommit_queue (s : State) : (takeCommit s).pending = s.pending := by
  unfold takeCommit
  exact queue_ite (laneRecord_queue ..) rfl

theorem pwrBoundary_queue (s : State) : (pwrBoundary s).pending = s.pending := by
  unfold pwrBoundary
  extract_lets _ moved _ clocked
  have hmoved : moved.pending = s.pending := by
    unfold moved
    split <;> rfl
  have hclocked : clocked.pending = s.pending :=
    queue_ite ((laneRecord_queue ..).trans ((State.mapLanes_queue ..).trans hmoved)) hmoved
  exact queue_ite hclocked hclocked

theorem updBoundary_queue (s : State) : (updBoundary s).pending = s.pending := by
  unfold updBoundary
  dsimp only
  split
  · split
    · rfl
    · exact (laneReset_queue ..).trans (State.modLane_queue ..)
  · exact queue_ite ((laneOut_queue ..).trans (State.modLane_queue ..)) rfl
  · exact queue_ite ((laneReset_queue ..).trans (State.modLane_queue ..)) rfl
  · rfl

theorem castleSwap_queue (s : State) : (castleSwap s).pending = s.pending := by
  unfold castleSwap
  split
  · extract_lets roles _ counted _ owed
    have hroles : roles.pending = s.pending := (State.modLane_queue ..).trans (State.modLane_queue ..)
    have howed : owed.pending = s.pending := by
      unfold owed
      split <;> exact hroles
    exact queue_ite ((laneRecord_queue ..).trans howed) rfl
  · rfl

theorem phaseA_queue (s : State) : (phaseA s).pending = s.pending := by
  unfold phaseA
  exact (queue_ite rfl ((enginesBegin_queue ..).trans ((phaseBlocks_queue ..).trans ((dmaBoundary_queue ..).trans ((mbxPhaseA_queue
    ..).trans ((kwBoundary_queue ..).trans ((measApplyAll_queue ..).trans ((queue_foldl (fun _ _ => moveBack_queue ..) ..).trans
    ((takeCommit_queue ..).trans (pwrBoundary_queue ..)))))))))).trans ((updBoundary_queue ..).trans (castleSwap_queue ..))

theorem startPly_queue (s : State) : (startPly s).pending = s.pending := by
  unfold startPly
  exact queue_ite (by
    split
    · rfl
    · split
      · exact (phaseBlocks_queue ..).trans ((recordPromo_queue ..).trans (placeRecord_queue ..))
      · exact (phaseA_queue ..).trans ((recordPromo_queue ..).trans (placeRecord_queue ..))) rfl

theorem numberHeldOne_queue (keep : Bool) (s : State) (i : Input) : (numberHeldOne keep s i).pending = s.pending := by
  unfold numberHeldOne
  exact queue_ite (numberInput_queue ..) rfl

theorem numberHeld_queue (keep : Bool) (s : State) : (numberHeld keep s).pending = s.pending := by
  unfold numberHeld
  exact queue_foldl (fun _ _ => numberHeldOne_queue ..) ..

theorem commitOne_queue (s : State) (r : RecDraft × Nat) : (commitOne s r).pending = s.pending := by
  unfold commitOne
  exact queue_ite ((afterNumber_queue ..).trans (epochCarry_queue ..)) rfl

theorem commitRecords_queue (rs : List (RecDraft × Nat)) (s : State) : (commitRecords rs s).pending = s.pending := by
  unfold commitRecords
  exact queue_foldl (fun _ _ => commitOne_queue ..) ..

theorem numberMarker_queue (b : Nat) (s : State) : (numberMarker b s).pending = s.pending := by
  simp only [numberMarker, afterNumber_queue, countSource_queue, epochCarry_queue]

theorem spillRecord_queue (s : State) : (spillRecord s).pending = s.pending := by
  unfold spillRecord
  exact queue_ite rfl rfl

theorem closeWindow_queue (b : Nat) (s : State) : (closeWindow b s).pending = s.pending := by
  unfold closeWindow
  exact (numberHeld_queue ..).trans ((queue_ite (commitRecords_queue ..) rfl).trans ((numberMarker_queue ..).trans (spillRecord_queue
    ..)))

theorem wakeInputs_queue (l : Lane) (s : State) : (wakeInputs l s).pending = s.pending := by
  unfold wakeInputs
  exact queue_ite (present_queue ..) rfl

theorem startRecords_queue (l : Lane) (s : State) : (startRecords l s).pending = s.pending := rfl

theorem restoreLife_queue (l : Lane) (s : State) : (restoreLife l s).pending = s.pending := by
  unfold restoreLife
  exact State.mapLanes_queue ..

theorem advanceEpoch_queue (s : State) : (advanceEpoch s).pending = s.pending := by
  simp only [advanceEpoch, State.mapLanes_queue, apply_ite State.pending, ite_self]

theorem startAnew_queue (l : Lane) (s : State) : (startAnew l s).pending = s.pending := by
  unfold startAnew
  extract_lets cleared loaded epoch
  have hcleared : cleared.pending = s.pending := clearLaneWork_queue ..
  have hloaded : loaded.pending = s.pending := by
    unfold loaded
    split
    · exact (loadConfig_queue ..).trans hcleared
    · exact (tokenCopy_queue ..).trans hcleared
  exact show epoch.pending = s.pending from (advanceEpoch_queue ..).trans ((State.modLane_queue ..).trans hloaded)

theorem firstActivePly_queue (ms : Nat) (s : State) : (firstActivePly ms s).pending = s.pending := by
  unfold firstActivePly
  split
  · exact (queue_ite (restartReady_queue ..) rfl).trans ((queue_ite (wakeAccess_queue ..) rfl).trans ((emit_queue ..).trans
      ((startPly_queue ..).trans ((closeWindow_queue ..).trans ((wakeInputs_queue ..).trans ((startRecords_queue ..).trans
      ((State.setCopies_queue ..).trans ((restoreLife_queue ..).trans ((queue_ite (setStartStatus_queue ..) rfl).trans
      ((setStartStatus_queue ..).trans ((queue_ite (State.modLane_queue ..) rfl).trans ((State.modLane_queue ..).trans (queue_ite
      (startAnew_queue ..) rfl)))))))))))))
  · rfl

theorem firstProbeEnd_queue (n : Nat) (vOff vProbe : Word) (s : State) : (firstProbeEnd n vOff vProbe s).pending = s.pending := by
  unfold firstProbeEnd
  split
  · exact (freewheelOrClose_queue ..).trans ((reportCh_queue ..).trans ((queue_ite (reportCh_queue ..) rfl).trans ((queue_ite
      (reportCh_queue ..) rfl).trans (State.modChan_queue ..))))
  · rfl

theorem mxFrame_queue (m : Nat) (openCols : List (Fin 48)) (s : State) : (mxFrame m openCols s).pending = s.pending := by
  unfold mxFrame
  exact (queue_foldl (fun _ _ => queue_ite ((reportMx_queue ..).trans (State.modMx_queue ..)) rfl) ..).trans ((queue_ite
    (reportMx_queue ..) rfl).trans ((State.modMx_queue ..).trans ((queue_ite (reportMx_queue ..) rfl).trans ((queue_ite
    (State.modMx_queue ..) rfl).trans (State.modMx_queue ..)))))

theorem freewheelEnd_queue (n : Nat) (vNeg : Word) (s : State) : (freewheelEnd n vNeg s).pending = s.pending := by
  unfold freewheelEnd
  split
  · exact (queue_ite (queue_foldl (fun _ _ => changeOne_queue ..) ..) ((finishClosing_queue ..).trans (queue_foldl (fun _ _ =>
      State.modChan_queue ..) ..))).trans (queue_foldl (fun _ _ => State.modChan_queue ..) ..)
  · exact queue_ite (queue_foldl (fun _ _ => changeOne_queue ..) ..) rfl

theorem reportHandle_queue (h cause : Nat) (touch : Bool) (s : State) : (reportHandle h cause touch s).pending = s.pending := by
  unfold reportHandle
  exact pushAcc_queue ..

theorem touch_queue (h : Nat) (s : State) : (touch h s).pending = s.pending := by
  simp only [touch, startRound_queue, reportHandle_queue, apply_ite State.pending, ite_self]

theorem scanHandle_queue (h : Nat) (above : Bool) (s : State) : (scanHandle h above s).pending = s.pending := by
  unfold scanHandle
  exact queue_ite (queue_ite (touch_queue ..) (queue_ite (reportHandle_queue ..) rfl)) rfl

theorem stuckHandle_queue (h : Nat) (s : State) : (stuckHandle h s).pending = s.pending := by
  unfold stuckHandle
  exact queue_ite (reportHandle_queue ..) rfl

theorem safeOpen_queue (n : Nat) (s : State) : (safeOpen n s).pending = s.pending := by
  unfold safeOpen
  exact changeGroup_queue ..

theorem safeKeep_queue (n mode : Nat) (s : State) : (safeKeep n mode s).pending = s.pending := by
  unfold safeKeep
  exact changeGroup_queue ..

theorem holdExpiry_queue (n : Nat) (s : State) : (holdExpiry n s).pending = s.pending := by
  unfold holdExpiry
  dsimp only
  exact queue_ite rfl (by
    split
    · rfl
    · rfl
    · exact queue_ite (safeOpen_queue ..) (queue_ite (queue_ite (coolInstead_queue ..) (queue_ite ((freewheelOrClose_queue ..).trans
        (safeKeep_queue ..)) (closeSafe_queue ..))) (safeKeep_queue ..))
    · exact queue_ite (safeOpen_queue ..) (queue_ite (queue_ite (coolInstead_queue ..) (queue_ite ((freewheelOrClose_queue ..).trans
        (safeKeep_queue ..)) (closeSafe_queue ..))) (safeKeep_queue ..))
    · exact queue_ite (safeOpen_queue ..) (queue_ite (queue_ite (coolInstead_queue ..) (queue_ite ((freewheelOrClose_queue ..).trans
        (safeKeep_queue ..)) (closeSafe_queue ..))) (safeKeep_queue ..))
    · exact queue_ite (safeOpen_queue ..) (queue_foldl (fun _ _ => State.modChan_queue ..) ..)
    · exact queue_ite (safeOpen_queue ..) (queue_foldl (fun _ _ => State.modChan_queue ..) ..))

theorem holdUpEnd_queue (s : State) : (holdUpEnd s).pending = s.pending := by
  simp only [holdUpEnd, railsDown_queue, moduleReset_queue, apply_ite State.pending, ite_self]

theorem linkChange_queue (l : Lane) (up : Bool) (s : State) : (linkChange l up s).pending = s.pending := by
  unfold linkChange
  exact queue_ite rfl ((present_queue ..).trans (State.modLane_queue ..))

theorem offerPacket_queue (p : Packet) (s : State) : (offerPacket p s).pending = s.pending := by
  unfold offerPacket
  exact queue_ite (presentPacket_queue ..) (queue_ite (State.modLane_queue ..) (State.modLane_queue ..))

theorem sendNow_queue (fs : List Frame) (l : Lane) (s : State) : (sendNow fs l s).pending = s.pending := by
  unfold sendNow
  exact State.modLane_queue ..

theorem recoverySession_queue (l : Lane) (p : Packet) (s : State) : (recoverySession l p s).pending = s.pending := by
  unfold recoverySession
  extract_lets answer
  split
  · exact sendNow_queue ..
  · refine queue_ite (sendNow_queue ..) ?_
    split
    · exact sendNow_queue ..
    · exact sendNow_queue ..
    · exact sendNow_queue ..
    · extract_lets r fs kept
      have hr : r.2.2.pending = s.pending := (updRequest_queue ..).trans (setSession_queue ..)
      clear_value r
      refine (sendNow_queue ..).trans ?_
      unfold kept
      split
      · exact (setSession_queue ..).trans hr
      · exact hr

theorem answerAlone_queue (l : Lane) (p : Packet) (s : State) : (answerAlone l p s).pending = s.pending := by
  unfold answerAlone
  exact queue_ite (sendNow_queue ..) (queue_ite (sendNow_queue ..) (queue_ite (sendNow_queue ..) (queue_ite (queue_ite (sendNow_queue
    ..) (sendNow_queue ..)) (queue_ite (sendNow_queue ..) (queue_ite (queue_ite (sendNow_queue ..) ((sendNow_queue ..).trans
    (hello_queue ..))) (queue_ite (recoverySession_queue ..) (sendNow_queue ..)))))))

theorem receivePacket_queue (l : Lane) (h : HostFrame) (os : List (BitVec 8)) (s : State) : (receivePacket l h os s).pending =
    s.pending := by
  unfold receivePacket
  exact queue_ite rfl (queue_ite (State.modLane_queue ..) ((queue_ite (offerPacket_queue ..) (answerAlone_queue ..)).trans ((queue_ite
    rfl (State.modLane_queue ..)).trans (queue_ite rfl rfl))))

end Sys2Proof.Machine
end

section
/-! Operations that keep the queue, continued; the commands themselves. -/

namespace Sys2Proof.Machine

open Sys2Proof

theorem fallbackRecord_queue (l : Lane) (s : State) : (fallbackRecord l s).pending = s.pending := by
  unfold fallbackRecord
  exact present_queue ..

theorem imageVerified_queue (l : Lane) (activeOk fallbackOk : Bool) (s : State) : (imageVerified l activeOk fallbackOk s).pending =
    s.pending := by
  unfold imageVerified
  exact queue_ite rfl (queue_ite (State.modLane_queue ..) (queue_ite ((fallbackRecord_queue ..).trans (State.modLane_queue ..))
    ((heldOut_queue ..).trans (State.modLane_queue ..))))

theorem imbalanceChange_queue (n : Nat) (outside : Bool) (s : State) : (imbalanceChange n outside s).pending = s.pending := by
  unfold imbalanceChange
  exact queue_ite ((reportCh_queue ..).trans (State.modChan_queue ..)) rfl

theorem inrushEnd_queue (n : Nat) (s : State) : (inrushEnd n s).pending = s.pending := by
  unfold inrushEnd
  exact queue_foldl (fun _ _ => State.modChan_queue ..) ..

theorem journalLife_queue (s : State) : (journalLife s).pending = s.pending := by
  unfold journalLife
  exact State.mapLanes_queue ..

theorem junctionSet_queue (n : Nat) (temp : Word) (s : State) : (junctionSet n temp s).pending = s.pending := by
  unfold junctionSet
  exact queue_ite rfl (hotSet_queue ..)

theorem junctionClear_queue (n : Nat) (temp : Word) (s : State) : (junctionClear n temp s).pending = s.pending := by
  unfold junctionClear
  exact queue_ite ((coolRelease_queue ..).trans (State.modChan_queue ..)) rfl

theorem laneRail_queue (l : Lane) (r : Rail) (s : State) : (laneRail l r s).pending = s.pending := by
  unfold laneRail
  exact (State.modLane_queue ..).trans (laneReset_queue ..)

theorem resetRelease_queue (l : Lane) (s : State) : (resetRelease l s).pending = s.pending := by
  unfold resetRelease
  exact queue_ite rfl ((queue_ite (enterStage_queue ..) rfl).trans (State.modLane_queue ..))

theorem chooseStart_queue (l : Lane) (solo : Bool) (out : Option Lane) (s : State) : (chooseStart l solo out s).pending = s.pending :=
    by
  unfold chooseStart
  refine Eq.trans ?_ (advanceEpoch_queue ..)
  split
  · exact heldOut_queue ..
  · rfl

theorem reapply_queue (l : Lane) (s : State) : (reapply l s).pending = s.pending := by
  unfold reapply
  split
  · exact applyConfig_queue ..
  · rfl

theorem lanesMeet_queue (s : State) : (lanesMeet s).pending = s.pending := by
  unfold lanesMeet
  exact queue_ite rfl (queue_ite (chooseStart_queue ..) (queue_ite (chooseStart_queue ..) (queue_ite (chooseStart_queue ..) ((queue_ite
    ((chooseStart_queue ..).trans (reapply_queue ..)) (chooseStart_queue ..)).trans (State.mapLanes_queue ..)))))

theorem mxSafe_queue (m : Nat) (s : State) : (mxSafe m s).pending = s.pending := by
  unfold mxSafe
  split
  · exact queue_ite (changeMx_queue ..) (changeMx_queue ..)
  · exact queue_ite (changeMx_queue ..) (changeMx_queue ..)
  · exact queue_ite (changeMx_queue ..) (changeMx_queue ..)
  · exact queue_ite (changeMx_queue ..) rfl
  · rfl

theorem strSafe_queue (x : Nat) (s : State) : (strSafe x s).pending = s.pending := by
  unfold strSafe
  dsimp only
  split
  · exact queue_ite (changeStr_queue ..) (queue_ite (changeStr_queue ..) (changeStr_queue ..))
  · exact queue_ite (changeStr_queue ..) (queue_ite (changeStr_queue ..) (changeStr_queue ..))
  · exact queue_ite (changeStr_queue ..) (queue_ite (changeStr_queue ..) (changeStr_queue ..))
  · exact queue_ite (changeStr_queue ..) (queue_ite (State.modStr_queue ..) rfl)
  · rfl

theorem lgtTimeout_queue (s : State) : (lgtTimeout s).pending = s.pending := by
  unfold lgtTimeout
  exact queue_ite ((queue_foldl (fun _ _ => mxSafe_queue ..) ..).trans ((queue_foldl (fun _ _ => strSafe_queue ..) ..).trans
    (State.modTgt_queue ..))) rfl

theorem lgtSilence_queue (s : State) : (lgtSilence s).pending = s.pending := by
  unfold lgtSilence
  exact queue_ite ((queue_foldl (fun _ _ => by
    split
    · exact changeMx_queue ..
    · exact changeMx_queue ..
    · rfl) ..).trans ((queue_foldl (fun _ _ => by
    split
    · exact changeStr_queue ..
    · exact changeStr_queue ..
    · rfl) ..).trans (State.modTgt_queue ..))) rfl

theorem fioLimit_queue (o : Nat) (s : State) : (fioLimit o s).pending = s.pending := by
  unfold fioLimit
  exact queue_ite (changeDo_queue ..) (queue_ite (changeDo_queue ..) rfl)

theorem busWindow_queue (b code cycle col idx : Nat) (s : State) : (busWindow b code cycle col idx s).pending = s.pending := by
  unfold busWindow
  exact busReport_queue ..

theorem linFail_queue (n code : Nat) (missing : Bool) (id : Nat) (s : State) : (linFail n code missing id s).pending = s.pending := by
  unfold linFail
  exact (busWindow_queue ..).trans (State.modBus_queue ..)

theorem linRespond_queue (n : Nat) (r : LinResult) (s : State) : (linRespond n r s).pending = s.pending := by
  unfold linRespond
  dsimp only
  split
  · exact (storeFrame_queue ..).trans ((queue_ite (compareCopies_queue ..) rfl).trans (State.modBus_queue ..))
  · exact objectSent_queue ..
  · exact (linFail_queue ..).trans (State.modBus_queue ..)
  · exact (linFail_queue ..).trans (State.modBus_queue ..)
  · exact (linFail_queue ..).trans (State.modBus_queue ..)
  · exact (linFail_queue ..).trans (State.modBus_queue ..)
  · exact (linFail_queue ..).trans ((State.modBus_queue ..).trans (State.modBus_queue ..))
  · exact queue_ite ((busStateLater_queue ..).trans (State.modBus_queue ..)) ((linFail_queue ..).trans (State.modBus_queue ..))
  · rfl

theorem linSlotStep_queue (n : Nat) (s : State) : (linSlotStep n s).pending = s.pending := by
  unfold linSlotStep
  exact queue_ite rfl (queue_ite ((busStateLater_queue ..).trans (State.modBus_queue ..)) (State.modBus_queue ..))

theorem linRestart_queue (n : Nat) (s : State) : (linRestart n s).pending = s.pending := by
  unfold linRestart
  exact queue_ite (State.modBus_queue ..) rfl

theorem mxLineShort_queue (m l : Nat) (s : State) : (mxLineShort m l s).pending = s.pending := by
  unfold mxLineShort
  exact queue_ite ((reportMx_queue ..).trans (State.modMx_queue ..)) (queue_ite ((reportMx_queue ..).trans (State.modMx_queue ..)) rfl)

theorem mxLine_queue (m : Nat) (s : State) : (mxLine m s).pending = s.pending := by
  unfold mxLine
  exact State.modMx_queue ..

theorem abandonLock_queue (l : Lane) (t : Nat) (s : State) : (abandonLock l t s).pending = s.pending := by
  unfold abandonLock
  split
  · rfl
  · exact abandonIn_queue ..

theorem endRecovery_queue (l : Lane) (t : Nat) (s : State) : (endRecovery l t s).pending = s.pending := by
  unfold endRecovery
  exact State.modLane_queue ..

theorem lowPower_queue (s : State) : (lowPower s).pending = s.pending := by
  unfold lowPower
  exact queue_ite (raiseWake_queue ..) rfl

theorem promoRecord_queue (f : Lane) (code : Nat) (ply : Option Nat) (s : State) : (promoRecord f code ply s).pending = s.pending := by
  unfold promoRecord
  split <;> exact queue_ite rfl (recordPromo_queue ..)

theorem replayFrames_queue (l : Lane) (plies : List PlyLog) (queue : List Frame) (s : State) : (replayFrames l plies queue s).pending =
    s.pending := by
  unfold replayFrames
  exact State.modLane_queue ..

theorem emitAgain_queue (l : Lane) (plies : List PlyLog) (s : State) : (emitAgain l plies s).pending = s.pending := by
  unfold emitAgain
  exact (queue_foldl (fun _ _ => queue_foldl (fun _ _ => commandStep_queue ..) ..) ..).trans (queue_foldl (fun _ _ => acceptClaim_queue
    ..) ..)

theorem renumberRecords_queue (was : List Rec) (s : State) : (renumberRecords was s).pending = s.pending := by
  unfold renumberRecords
  exact queue_ite (commitRecords_queue ..) (queue_foldl (fun _ _ => commitOne_queue ..) ..)

theorem renumberOne_queue (s : State) (i : Input) : (renumberOne s i).pending = s.pending := by
  unfold renumberOne
  exact queue_ite ((numberHeld_queue ..).trans ((numberMarker_queue ..).trans (spillRecord_queue ..))) (numberHeldOne_queue ..)

theorem renumber_queue (s : State) : (renumber s).pending = s.pending := by
  unfold renumber
  exact queue_foldl (fun _ _ => renumberOne_queue ..) ..

theorem promote_queue (l f : Lane) (code : Nat) (s : State) : (promote l f code s).pending = s.pending := by
  simp only [promote, startPly_queue, promoRecord_queue, replayFrames_queue, emitAgain_queue, renumberRecords_queue, renumber_queue,
    cancelCastle_queue, State.modLane_queue]

theorem joinAlone_queue (l : Lane) (s : State) : (joinAlone l s).pending = s.pending := by
  simp only [joinAlone, State.modLane_queue, apply_ite State.pending, ite_self]

theorem onSilence_queue (code : Nat) (s : State) : (onSilence code s).pending = s.pending := by
  unfold onSilence
  split
  · exact promote_queue ..
  · split
    · exact joinAlone_queue ..
    · rfl

theorem markerTimeout_queue (s : State) : (markerTimeout s).pending = s.pending := by
  unfold markerTimeout
  exact queue_ite rfl (queue_ite (queue_ite (onSilence_queue ..) rfl) ((onSilence_queue ..).trans (queue_ite rfl rfl)))

theorem modFault_queue (n : Nat) (s : State) : (modFault n s).pending = s.pending := by
  unfold modFault
  exact queue_ite rfl rfl

theorem mxHot_queue (m : Nat) (set : Bool) (s : State) : (mxHot m set s).pending = s.pending := by
  unfold mxHot
  exact queue_ite ((queue_ite (changeMx_queue ..) rfl).trans (State.modMx_queue ..)) ((queue_ite rfl (queue_ite (changeMx_queue ..)
    (changeMx_queue ..))).trans (State.modMx_queue ..))

theorem onTimeEnd_queue (x : Nat) (regulated under : Bool) (s : State) : (onTimeEnd x regulated under s).pending = s.pending := by
  unfold onTimeEnd
  exact (queue_ite (reportStr_queue ..) rfl).trans (State.modStr_queue ..)

theorem strTrip_queue (x cause code bit : Nat) (s : State) : (strTrip x cause code bit s).pending = s.pending := by
  unfold strTrip
  exact queue_ite (changeStr_queue ..) (queue_ite (changeStr_queue ..) rfl)

theorem reportLed_queue (x k cause : Nat) (s : State) : (reportLed x k cause s).pending = s.pending := by
  unfold reportLed
  exact pushLgt_queue ..

theorem ledOpen_queue (x k tick : Nat) (s : State) : (ledOpen x k tick s).pending = s.pending := by
  unfold ledOpen
  exact queue_ite rfl (queue_ite (strTrip_queue ..) (queue_ite rfl ((reportLed_queue ..).trans (State.modStr_queue ..))))

theorem openLoadResult_queue (n : Nat) (v : Word) (s : State) : (openLoadResult n v s).pending = s.pending := by
  unfold openLoadResult
  exact queue_ite ((queue_ite (reportCh_queue ..) rfl).trans (State.modChan_queue ..)) rfl

theorem tripOrRetry_queue (n code bit latch : Nat) (mayRetry : Bool) (arg1 : Word) (s : State) : (tripOrRetry n code bit latch mayRetry
    arg1 s).pending = s.pending := by
  unfold tripOrRetry
  exact (queue_ite (changeGroup_queue ..) (reportCh_queue ..)).trans (State.modChan_queue ..)

theorem overTrip_queue (n : Nat) (s : State) : (overTrip n s).pending = s.pending := by
  unfold overTrip
  exact queue_ite (tripOrRetry_queue ..) rfl

theorem pairImbalanceRecord_queue (n : Nat) (s : State) : (pairImbalanceRecord n s).pending = s.pending := by
  unfold pairImbalanceRecord
  exact queue_ite (laneRecord_queue ..) rfl

theorem radioFaults_queue (lf uwb : Nat) (s : State) : (radioFaults lf uwb s).pending = s.pending := by
  unfold radioFaults
  exact (queue_foldl (fun _ _ => queue_ite (pushAcc_queue ..) rfl) ..).trans ((queue_foldl (fun _ _ => queue_ite (pushAcc_queue ..)
    rfl) ..).trans (State.setLive_queue ..))

theorem parkPollStep_queue (s : State) : (parkPollStep s).pending = s.pending := by
  unfold parkPollStep
  exact queue_ite (radioFaults_queue ..) rfl

theorem pathState_queue (p : Sys2Proof.Path) (up : Bool) (s : State) : (pathState p up s).pending = s.pending := by
  unfold pathState
  exact (checkCastle_queue ..).trans ((presentLane_queue ..).trans (by
    split
    · rfl
    · rfl))

theorem coreBegin_queue (c : Nat) (s : State) : (coreBegin c s).pending = s.pending := by
  unfold coreBegin
  exact State.modCore_queue ..

theorem coresBegin_queue (s : State) : (coresBegin s).pending = s.pending := by
  unfold coresBegin
  exact queue_foldl (fun _ _ => coreBegin_queue ..) ..

theorem startCores_queue (s : State) : (startCores s).pending = s.pending := by
  unfold startCores
  exact queue_ite rfl (coresBegin_queue ..)

theorem hostRequests_queue (all : List (Packet × Nat × Nat)) (s : State) : (hostRequests all s).pending = s.pending := by
  unfold hostRequests
  exact (dropHostLocks_queue ..).trans (queue_foldl (fun _ _ => hostRequest_queue ..) ..)

theorem hostStep_queue (due : List (Packet × Nat × Nat)) (s : State) : (hostStep due s).pending = s.pending := by
  unfold hostStep
  exact hostRequests_queue ..

theorem sigLeft_queue (n : Nat) (s : State) : (sigLeft n s).pending = s.pending := by
  unfold sigLeft
  exact (sigFlushAll_queue ..).trans (queue_foldl (fun _ _ => queue_ite (sigDrop_queue ..) rfl) ..)

theorem pairDegraded_queue (n : Nat) (gone : Bool) (old new : Word) (s : State) : (pairDegraded n gone old new s).pending = s.pending
    := by
  unfold pairDegraded
  exact queue_ite (laneRecord_queue ..) rfl

theorem takeRestoreRequest_queue (t : Nat) (s : State) : (takeRestoreRequest t s).pending = s.pending := by
  unfold takeRestoreRequest
  exact (emit_queue ..).trans (queue_foldl (fun _ _ => (sigLeft_queue ..).trans (pairDegraded_queue ..)) ..)

theorem sigBegin_queue (n start : Nat) (s : State) : (sigBegin n start s).pending = s.pending := by
  unfold sigBegin
  exact queue_foldl (fun _ _ => queue_ite ((queue_ite ((sigFlush_queue ..).trans (sigDrop_queue ..)) (queue_foldl (fun _ _ =>
    sigStep_queue ..) ..)).trans ((State.setSlot_queue ..).trans (sigFlush_queue ..))) rfl) ..

theorem pairAlarm_queue (n : Nat) (s : State) : (pairAlarm n s).pending = s.pending := rfl

theorem pairAlarmsOf_queue (n : Nat) (s : State) : (pairAlarmsOf n s).pending = s.pending := by
  unfold pairAlarmsOf
  split
  · exact (pairAlarm_queue ..).trans (pairAlarm_queue ..)
  · rfl

theorem takeEntry_queue (t : Nat) (s : State) (e : Entry) : (takeEntry t s e).pending = s.pending := by
  unfold takeEntry
  exact queue_ite ((queue_ite (sigLeft_queue ..) rfl).trans ((queue_ite (sigBegin_queue ..) rfl).trans ((pairAlarmsOf_queue ..).trans
    ((pairDegraded_queue ..).trans ((State.modLife_queue ..).trans ((laneRecords_queue ..).trans (State.setReported_queue ..)))))))
    ((laneRecords_queue ..).trans (queue_ite (State.setCopies_queue ..) (State.setReported_queue ..)))

theorem setCapture_queue (i : Nat) (ws : List Word) (s : State) : (setCapture i ws s).pending = s.pending := by
  unfold setCapture
  exact queue_foldl (fun _ _ => State.setSram_queue ..) ..

theorem capture_queue (seq : Nat) (words : List Word) (s : State) : (capture seq words s).pending = s.pending := by
  unfold capture
  exact setCapture_queue ..

theorem takeFrame_queue (b slot flt : Nat) (words : List Word) (seq : Nat) (s : State) : (takeFrame b slot flt words seq s).pending =
    s.pending := by
  simp only [takeFrame, capture_queue, showOwned_queue, State.setCopy_queue, State.modBus_queue, State.setSrams_queue, apply_ite
    State.pending, ite_self]

theorem linkEvent_queue (l : Lane) (up : Bool) (s : State) : (linkEvent l up s).pending = s.pending := by
  unfold linkEvent
  exact queue_ite (laneRecord_queue ..) ((queue_ite rfl ((laneRecord_queue ..).trans (resendReplies_queue ..))).trans
    ((State.modLane_queue ..).trans (laneRecord_queue ..)))

theorem wakeInput_queue (cause : Nat) (s : State) : (wakeInput cause s).pending = s.pending := by
  unfold wakeInput
  exact queue_ite rfl (queue_ite (raiseWake_queue ..) (pendWake_queue ..))

theorem updVerified_queue (r : Option Lane) (l : Lane) (code : Nat) (checkAt : Word) (s : State) : (updVerified r l code checkAt
    s).pending = s.pending := by
  unfold updVerified
  dsimp only
  exact queue_ite rfl (by
    split
    · exact State.modUpd_queue ..
    · exact (queue_ite (laneRecord_queue ..) rfl).trans ((queue_ite (State.modNvm_queue ..) rfl).trans (State.modUpd_queue ..)))

theorem updReady_queue (l : Lane) (s : State) : (updReady l s).pending = s.pending := by
  unfold updReady
  exact queue_ite rfl rfl

theorem diverge_queue (component : Nat) (s : State) : (diverge component s).pending = s.pending := by
  unfold diverge
  split
  · rfl
  · extract_lets times n _ counted told _ stage
    have htold : told.pending = s.pending := rfl
    clear_value told
    have hstage : stage.pending = s.pending :=
      queue_ite ((laneOut_queue ..).trans htold) ((joinIdentity_queue ..).trans ((State.modLane_queue ..).trans htold))
    exact (checkCastle_queue ..).trans hstage

theorem takeInput_queue (s : State) (i : Input) : (takeInput s i).pending = s.pending := by
  unfold takeInput
  extract_lets _ timed placed
  have htimed : timed.pending = s.pending := rfl
  clear_value timed
  have hplaced : placed.pending = s.pending := by
    unfold placed
    split
    · exact htimed
    · exact (placeRecord_queue ..).trans htimed
  clear_value placed
  refine Eq.trans ?_ hplaced
  split
  · rfl
  · exact (laneRecords_queue ..).trans (State.setCopies_queue ..)
  · exact (State.setReported_queue ..).trans (queue_ite
      ((takeRestoreRequest_queue ..).trans ((queue_foldl (fun _ _ => takeEntry_queue ..) ..).trans (laneRecords_queue ..)))
      ((queue_foldl (fun _ _ => takeEntry_queue ..) ..).trans (laneRecords_queue ..)))
  · rename_i recs _
    exact (laneRecords_queue ..).trans (runBlock_queue i recs placed)
  · exact takeFrame_queue ..
  · rfl
  · exact linkEvent_queue ..
  · exact castleRequest_queue ..
  · exact laneRecord_queue ..
  · exact (wakeInput_queue ..).trans (State.setCopies_queue ..)
  · rfl
  · exact updErased_queue ..
  · exact updVerified_queue ..
  · exact updReady_queue ..
  · exact (diverge_queue ..).trans (queue_ite (laneRecord_queue ..) rfl)

theorem writeDiffs_queue (s : State) : (writeDiffs s).pending = s.pending := by
  simp only [writeDiffs, laneRecord_queue, emit_queue, apply_ite State.pending, ite_self]

theorem freeCores_queue (i : ConfigImage) (s : State) : (freeCores i s).pending = s.pending := by
  unfold freeCores
  exact queue_foldl (fun _ _ => queue_ite (State.modCore_queue ..) rfl) ..

theorem resumeConfig_queue (s : State) : (resumeConfig s).pending = s.pending := by
  unfold resumeConfig
  split
  · rfl
  · exact (loadPrograms_queue ..).trans ((freeCores_queue ..).trans (queue_foldl (fun _ _ => configReg_queue ..) ..))

theorem updPhaseB_queue (s : State) : (updPhaseB s).pending = s.pending := by
  unfold updPhaseB
  exact queue_ite rfl ((writeDiffs_queue ..).trans (resumeConfig_queue ..))

theorem settleAgreed_queue (s : State) : (settleAgreed s).pending = s.pending := by
  unfold settleAgreed
  exact queue_ite rfl rfl

theorem phaseBStep_queue (s : State) : (phaseBStep s).pending = s.pending := by
  unfold phaseBStep
  extract_lets settled _ phased due _ begun hosted
  have hphased : phased.pending = s.pending := show settled.pending = _ from settleAgreed_queue ..
  have hbegun : begun.pending = s.pending := (updPhaseB_queue ..).trans hphased
  have hhosted : hosted.pending = s.pending :=
    (hostStep_queue ..).trans ((queue_foldl takeInput_queue ..).trans hbegun)
  exact queue_ite (settleAgreed_queue ..) (queue_ite hphased ((startCores_queue ..).trans hhosted))

theorem linkWithdraw_queue (s : State) : (linkWithdraw s).pending = s.pending := by
  unfold linkWithdraw
  split
  · exact queue_ite (withdrawLane_queue ..) rfl
  · rfl

theorem linkOutcome_queue (failed : Option Nat) (s : State) : (linkOutcome failed s).pending = s.pending := by
  unfold linkOutcome
  split <;> rfl

theorem sendAll_queue (l : Option Lane) (failed : Option Nat) (es : List Emitted) (s : State) : (sendAll l failed es s).pending =
    s.pending := by
  unfold sendAll
  split
  · rfl
  · exact queue_foldl (fun _ _ => queue_ite rfl (commandStep_queue ..)) ..

theorem stampOne_queue (r : List Emitted × State) (p : Nat × Content) : (stampOne r p).2.pending = r.2.pending := by
  unfold stampOne
  exact State.modTgt_queue ..

theorem emitPly_queue (failed : Option Nat) (s : State) : (emitPly failed s).pending = s.pending := by
  unfold emitPly
  extract_lets cmds parks room cut told _ handed _ begun r e
  have hhanded : handed.pending = s.pending := queue_ite (queue_ite rfl rfl) (queue_ite rfl rfl)
  clear_value handed
  have hbegun : begun.pending = s.pending := hhanded
  clear_value begun
  have hr : r.2.pending = s.pending := (queue_foldl2 (fun _ _ => stampOne_queue ..) ..).trans hbegun
  clear_value r
  exact (sendAll_queue ..).trans hr

theorem captureRetention_queue (l : Lane) (s : State) : (captureRetention l s).pending = s.pending := by
  unfold captureRetention
  exact queue_ite rfl rfl

theorem linCommand_queue (bit : Nat) (f : Nat → Bool) (s : State) : (linCommand bit f s).pending = s.pending := by
  unfold linCommand
  exact emit_queue ..

theorem quietCan_queue (q : Bool) (s : State) : (quietCan q s).pending = s.pending := by
  unfold quietCan
  exact queue_foldl (fun _ _ => queue_ite ((State.modBus_queue ..).trans (markStarted_queue ..)) (queue_ite (State.modBus_queue ..)
    (State.modBus_queue ..))) ..

theorem abandonEntry_queue (s : State) : (abandonEntry s).pending = s.pending := by
  unfold abandonEntry
  exact (laneRecord_queue ..).trans (queue_ite ((linCommand_queue ..).trans (quietCan_queue ..)) rfl)

theorem abortPoint_queue (s : State) : (abortPoint s).pending = s.pending := by
  unfold abortPoint
  exact queue_ite rfl (by
    split
    · exact queue_ite (abandonEntry_queue ..) rfl
    · exact queue_ite (abandonEntry_queue ..) ((linCommand_queue ..).trans (quietCan_queue ..))
    · exact queue_ite (abandonEntry_queue ..) rfl)

theorem pwrEndB_queue (s : State) : (pwrEndB s).pending = s.pending := by
  unfold pwrEndB
  split
  · exact queue_ite (captureRetention_queue ..) (abortPoint_queue ..)
  · exact abortPoint_queue ..

theorem coresFinish_queue (s : State) : (coresFinish s).pending = s.pending := by
  unfold coresFinish
  exact queue_foldl (fun _ _ => queue_ite (State.setCore_queue ..) rfl) ..

theorem copyRecords_queue (s : State) : (copyRecords s).pending = s.pending := by
  unfold copyRecords
  exact queue_ite rfl rfl

theorem dmaFinishAll_queue (s : State) : (dmaFinishAll s).pending = s.pending := by
  unfold dmaFinishAll
  exact queue_foldl (fun _ _ => dmaFinish_queue ..) ..

theorem hostResume_queue (s : State) : (hostResume s).pending = s.pending := by
  unfold hostResume
  exact queue_ite (hostRequests_queue ..) rfl

theorem endPhaseB_queue (s : State) : (endPhaseB s).2.pending = s.pending := by
  simp only [endPhaseB, copyRecords_queue, dropHostLocks_queue, dmaFinishAll_queue, startCores_queue, hostResume_queue, apply_ite
    State.pending, apply_ite Prod.snd, ite_self]

theorem phaseCStep_queue (endWhite endBlack : Nat) (failed : Option Nat) (s : State) :
    (phaseCStep endWhite endBlack failed s).pending = s.pending := by
  unfold phaseCStep
  extract_lets q ended t _ phased timed worked
  have hq : q.2.pending = s.pending := queue_ite2 rfl (endPhaseB_queue ..)
  have hphased : phased.pending = s.pending := hq
  have htimed : timed.pending = s.pending := (State.modLane_queue ..).trans ((State.modLane_queue ..).trans hphased)
  have hworked : worked.pending = s.pending := queue_ite htimed ((pwrEndB_queue ..).trans ((coresFinish_queue ..).trans htimed))
  exact queue_ite rfl (queue_ite hq
    ((linkWithdraw_queue ..).trans ((linkOutcome_queue ..).trans ((emitPly_queue ..).trans hworked))))

theorem updateImages_queue (s : State) : (updateImages s).pending = s.pending := by
  unfold updateImages
  exact State.mapLanes_queue ..

theorem updJoined_queue (s : State) : (updJoined s).pending = s.pending := by
  unfold updJoined
  exact queue_ite (queue_ite (endUpdate_queue ..) rfl) rfl

theorem joined_queue (l : Lane) (s : State) : (joined l s).pending = s.pending := by
  unfold joined
  exact (laneRecord_queue ..).trans ((setStartStatus_queue ..).trans (State.modLane_queue ..))

theorem probationStep_queue (l : Lane) (same : Bool) (s : State) : (probationStep l same s).pending = s.pending := by
  unfold probationStep
  exact queue_ite (enterStage_queue ..) ((queue_ite ((updJoined_queue ..).trans (joined_queue ..)) rfl).trans (State.modLane_queue ..))

theorem crcErrors_queue (s : State) : (crcErrors s).pending = s.pending := by
  unfold crcErrors
  exact (State.modLane_queue ..).trans (State.modLane_queue ..)

theorem phaseDStep_queue (diff : Option Nat) (s : State) : (phaseDStep diff s).pending = s.pending := by
  unfold phaseDStep
  extract_lets linked _ phased digested checked _ compared
  have hlinked : linked.pending = s.pending := queue_ite (linkWithdraw_queue ..) rfl
  clear_value linked
  have hdigested : digested.pending = s.pending := hlinked
  clear_value digested
  have hchecked : checked.pending = s.pending := (crcErrors_queue ..).trans hdigested
  clear_value checked
  have hcompared : compared.pending = s.pending := by
    unfold compared
    split
    · exact (probationStep_queue ..).trans hchecked
    · exact (diverge_queue ..).trans hchecked
    · exact hchecked
  clear_value compared
  exact queue_ite hlinked ((updateImages_queue ..).trans hcompared)

theorem commandedReset_queue (s : State) : (commandedReset s).pending = s.pending := by
  unfold commandedReset
  exact queue_foldl (fun _ _ => queue_ite (withdrawLane_queue ..) (laneReset_queue ..)) ..

theorem cutOver_queue (s : State) : (cutOver s).pending = s.pending := by
  unfold cutOver
  split
  · exact queue_ite ((State.modLane_queue ..).trans ((enterStage_queue ..).trans (enterStage_queue ..))) rfl
  · rfl

theorem captureNumber_queue (s : State) : (captureNumber s).pending = s.pending := by
  simp only [captureNumber, loadLatch_queue, apply_ite State.pending, ite_self]

theorem showWrites_queue (s : State) : (showWrites s).pending = s.pending := by
  unfold showWrites
  exact queue_foldl (fun _ _ => State.setCopy_queue ..) ..

theorem releasePort_queue (l : Lane) (s : State) : (releasePort l s).pending = s.pending := by
  unfold releasePort
  exact State.modLane_queue ..

theorem releaseReplies_queue (s : State) : (releaseReplies s).pending = s.pending := by
  unfold releaseReplies
  exact (releasePort_queue ..).trans ((releasePort_queue ..).trans ((State.modLane_queue ..).trans (State.modLane_queue ..)))

theorem closeLog_queue (n first : Nat) (made : List Frame) (live : Bool) (s : State) : (closeLog n first made live s).pending =
    s.pending := rfl

theorem giveOwed_queue (s : State) : (giveOwed s).pending = s.pending := by
  unfold giveOwed
  exact queue_foldl (fun _ _ => giveReply_queue ..) ..

theorem phaseEStep_queue (fits : Bool) (s : State) : (phaseEStep fits s).pending = s.pending := by
  simp only [phaseEStep, startPly_queue, commandedReset_queue, cutOver_queue, captureNumber_queue, showWrites_queue,
    releaseReplies_queue, closeLog_queue, commitRecords_queue, giveOwed_queue, apply_ite State.pending, ite_self]

theorem beacon_queue (x : Nat) (nodes : BitVec 8) (s : State) : (beacon x nodes s).pending = s.pending := by
  unfold beacon
  exact queue_ite rfl ((queue_foldl (fun _ _ => queue_ite ((busStateLater_queue ..).trans (State.modBus_queue ..)) rfl) ..).trans
    (State.modBus_queue ..))

theorem pllLocked_queue (l : Lane) (s : State) : (pllLocked l s).pending = s.pending := by
  unfold pllLocked
  exact queue_ite rfl ((queue_ite (present_queue ..) rfl).trans (State.modLane_queue ..))

theorem boundaryStep_queue (s : State) : (boundaryStep s).pending = s.pending := by
  unfold boundaryStep
  dsimp only
  exact queue_ite rfl (by
    split
    · rfl
    · exact (startPly_queue ..).trans (closeWindow_queue ..))

theorem pastAlarm_queue (s : State) : (pastAlarm s).pending = s.pending := by
  unfold pastAlarm
  exact queue_ite (raiseWake_queue ..) rfl

theorem sleepTile_queue (t : Nat) (s : State) : (sleepTile t s).pending = s.pending := by
  unfold sleepTile
  exact queue_foldl (fun _ _ => State.modChan_queue ..) ..

theorem powerDown_queue (s : State) : (powerDown s).pending = s.pending := by
  unfold powerDown
  exact queue_ite rfl ((pastAlarm_queue ..).trans ((clearLaneWork_queue ..).trans (queue_foldl (fun _ _ => queue_ite (sleepTile_queue
    ..) (unpowerTile_queue ..)) ..)))

theorem failCause_queue (s : State) : (failCause s).2.pending = s.pending := rfl

theorem failMx_queue (s : State) (m : Nat) : (failMx s m).pending = s.pending := by
  unfold failMx
  exact queue_ite (State.modMx_queue ..) ((changeMx_queue ..).trans (failCause_queue ..))

theorem failStr_queue (s : State) (x : Nat) : (failStr s x).pending = s.pending := by
  unfold failStr
  exact queue_ite (State.modStr_queue ..) ((changeStr_queue ..).trans (failCause_queue ..))

theorem failDo_queue (s : State) (o : Nat) : (failDo s o).pending = s.pending := by
  unfold failDo
  exact queue_ite rfl ((changeDo_queue ..).trans (failCause_queue ..))

theorem failChan_queue (s : State) (n : Nat) : (failChan s n).pending = s.pending := by
  unfold failChan
  exact queue_ite (State.modChan_queue ..) ((reportCh_queue ..).trans ((State.modChan_queue ..).trans (failCause_queue ..)))

theorem loadsFail_queue (s : State) : (loadsFail s).pending = s.pending := by
  unfold loadsFail
  exact (denStopNow_queue ..).trans ((queue_foldl (fun _ _ => failMx_queue ..) ..).trans ((queue_foldl (fun _ _ => failStr_queue ..)
    ..).trans ((queue_foldl (fun _ _ => failDo_queue ..) ..).trans (queue_foldl (fun _ _ => failChan_queue ..) ..))))

theorem powerFail_queue (a b : Word) (s : State) : (powerFail a b s).pending = s.pending := by
  unfold powerFail
  exact queue_ite rfl ((State.mapLanes_queue ..).trans ((loadsFail_queue ..).trans (present_queue ..)))

theorem presence_queue (i : Nat) (s : State) : (presence i s).pending = s.pending := by
  unfold presence
  exact queue_ite (queue_ite rfl (startRound_queue ..)) rfl

theorem periodStart_queue (x : Nat) (s : State) : (periodStart x s).pending = s.pending := by
  unfold periodStart
  exact (queue_ite (reportStr_queue ..) rfl).trans (State.modStr_queue ..)

theorem presentSupply_queue (code : Nat) (a0 a1 : Word) (s : State) : (presentSupply code a0 a1 s).pending = s.pending := by
  unfold presentSupply
  exact present_queue ..

theorem modVlog_queue (f : Feed) (g : VlogIn → VlogIn) (s : State) : (modVlog f g s).pending = s.pending := by
  unfold modVlog
  split <;> rfl

theorem reducedOff_queue (f : Feed) (sample : Word) (s : State) : (reducedOff f sample s).pending = s.pending := by
  simp only [reducedOff, presentSupply_queue, modVlog_queue, apply_ite State.pending, ite_self]

theorem reducedOn_queue (a b : Bool) (sample : Word) (s : State) : (reducedOn a b sample s).pending = s.pending := by
  simp only [reducedOn, presentSupply_queue, modVlog_queue, apply_ite State.pending, ite_self]

theorem ttLose_queue (n code : Nat) (s : State) : (ttLose n code s).pending = s.pending := by
  unfold ttLose
  exact (busWindow_queue ..).trans (State.modBus_queue ..)

theorem resumeQueue_queue (n : Nat) (s : State) : (resumeQueue n s).pending = s.pending := by
  unfold resumeQueue
  exact queue_ite (State.modBus_queue ..) rfl

theorem ttReference_queue (n cycle : Nat) (gap higher : Bool) (s : State) : (ttReference n cycle gap higher s).pending = s.pending := by
  unfold ttReference
  exact queue_ite rfl (queue_ite (ttLose_queue ..) ((queue_ite (busStateLater_queue ..) rfl).trans ((State.modBus_queue ..).trans
    (resumeQueue_queue ..))))

theorem releaseStep_queue (s : State) : (releaseStep s).pending = s.pending := by
  unfold releaseStep
  split
  · exact queue_ite (emit_queue ..) rfl
  · rfl

theorem retryOffEnd_queue (n : Nat) (s : State) : (retryOffEnd n s).pending = s.pending := by
  unfold retryOffEnd
  dsimp only
  split
  · exact changeGroup_queue ..
  · exact queue_ite (changeGroup_queue ..) (queue_foldl (fun _ _ => State.modChan_queue ..) ..)
  · rfl

theorem sendRetry_queue (s : State) : (sendRetry s).pending = s.pending := by
  unfold sendRetry
  split
  · exact queue_ite rfl rfl
  · rfl

theorem reverseChange_queue (n : Nat) (s : State) : (reverseChange n s).pending = s.pending := by
  unfold reverseChange
  exact queue_ite rfl (queue_ite ((reportCh_queue ..).trans (State.modChan_queue ..)) ((reportCh_queue ..).trans (State.modChan_queue
    ..)))

theorem nextRound_queue (s : State) : (nextRound s).pending = s.pending := by
  unfold nextRound
  split
  · exact queue_ite (startRound_queue ..) rfl
  · exact startTest_queue ..
  · rfl

theorem roundSession_queue (rd : Round) (g : Option Answer) (s : State) : (roundSession rd g s).pending = s.pending := by
  unfold roundSession
  extract_lets inside _ opened _ ranged ok _ checked
  have hopened : opened.pending = s.pending := by
    unfold opened
    split
    · exact queue_ite (openSession_queue ..) (queue_ite (reportSess_queue ..) rfl)
    · rfl
  clear_value opened
  have hranged : ranged.pending = s.pending := queue_ite hopened hopened
  clear_value ranged
  have hchecked : checked.pending = s.pending := hranged
  exact queue_ite (queue_ite hchecked ((endSession_queue ..).trans hchecked)) hranged

theorem pushEntries_queue (es : List Entry) (s : State) : (pushEntries es s).pending = s.pending := by
  unfold pushEntries
  exact queue_foldl (fun _ _ => pushEntry_queue ..) ..

theorem reportRound_queue (rd : Round) (g : Option Nat) (s : State) : (reportRound rd g s).pending = s.pending := by
  unfold reportRound
  exact pushEntries_queue ..

theorem parkOutcome_queue (rd : Round) (g : Option Answer) (s : State) : (parkOutcome rd g s).pending = s.pending := by
  unfold parkOutcome
  dsimp only
  split
  · exact queue_ite rfl (raiseWake_queue ..)
  · exact (queue_ite (raiseWake_queue ..) rfl).trans (queue_ite rfl rfl)

theorem takeRanges_queue (rd : Round) (s : State) : (takeRanges rd s).pending = s.pending := by
  unfold takeRanges
  exact queue_foldl (fun _ _ => by
    split
    · exact State.setLive_queue ..
    · rfl) ..

theorem finishRound_queue (lf uwb : Nat) (s : State) : (finishRound lf uwb s).pending = s.pending := by
  unfold finishRound
  split
  · rfl
  · exact queue_ite rfl ((nextRound_queue ..).trans ((queue_ite ((roundSession_queue ..).trans (reportRound_queue ..))
      (parkOutcome_queue ..)).trans ((takeRanges_queue ..).trans (radioFaults_queue ..))))

theorem satCollide_queue (x k : Nat) (s : State) : (satCollide x k s).pending = s.pending := by
  unfold satCollide
  exact queue_ite ((busStateLater_queue ..).trans (State.modBus_queue ..)) rfl

theorem satLostStep_queue (x k : Nat) (s : State) : (satLostStep x k s).pending = s.pending := by
  unfold satLostStep
  exact queue_ite ((busStateLater_queue ..).trans (State.modBus_queue ..)) rfl

theorem sensorFailed_queue (n : Nat) (s : State) : (sensorFailed n s).pending = s.pending := by
  unfold sensorFailed
  exact hotSet_queue ..

theorem shortTrip_queue (n : Nat) (s : State) : (shortTrip n s).pending = s.pending := by
  unfold shortTrip
  exact queue_ite (tripOrRetry_queue ..) rfl

theorem ledShort_queue (x k : Nat) (below : Bool) (s : State) : (ledShort x k below s).pending = s.pending := by
  unfold ledShort
  exact queue_ite rfl (queue_ite (State.modStr_queue ..) ((reportLed_queue ..).trans (State.modStr_queue ..)))

theorem soloTimeout_queue (l : Lane) (s : State) : (soloTimeout l s).pending = s.pending := by
  unfold soloTimeout
  exact queue_ite rfl (queue_ite (chooseStart_queue ..) (queue_ite (chooseStart_queue ..) (heldOut_queue ..)))

theorem strCooled_queue (x : Nat) (s : State) : (strCooled x s).pending = s.pending := by
  unfold strCooled
  exact (queue_ite rfl (queue_ite (changeStr_queue ..) (changeStr_queue ..))).trans (State.modStr_queue ..)

theorem strHot_queue (x : Nat) (s : State) : (strHot x s).pending = s.pending := by
  unfold strHot
  exact (queue_ite (changeStr_queue ..) rfl).trans (State.modStr_queue ..)

theorem supersede_queue (l : Lane) (s : State) : (supersede l s).pending = s.pending := by
  unfold supersede
  exact (presentLane_queue ..).trans ((State.modLane_queue ..).trans (laneReset_queue ..))

theorem ttSyncLost_queue (n : Nat) (s : State) : (ttSyncLost n s).pending = s.pending := by
  unfold ttSyncLost
  exact queue_ite rfl (queue_ite (ttLose_queue ..) (State.modBus_queue ..))

theorem fioThermal_queue (o : Nat) (s : State) : (fioThermal o s).pending = s.pending := by
  unfold fioThermal
  exact (queue_ite (changeDo_queue ..) rfl).trans (State.modDout_queue ..)

theorem tileReset_queue (t : Nat) (cause : TileCause) (s : State) : (tileReset t cause s).pending = s.pending := by
  unfold tileReset
  exact (resetTile_queue ..).trans (by
    split
    · rfl
    · rfl
    · rfl)

theorem silenceChan_queue (n : Nat) (s : State) : (silenceChan n s).pending = s.pending := by
  unfold silenceChan
  split
  · exact (reportChAs_queue ..).trans (State.modChan_queue ..)
  · exact (reportChAs_queue ..).trans (State.modChan_queue ..)
  · exact State.modChan_queue ..
  · exact State.modChan_queue ..
  · rfl

theorem tileSilence_queue (t : Nat) (s : State) : (tileSilence t s).pending = s.pending := by
  unfold tileSilence
  exact queue_ite ((queue_foldl (fun _ _ => silenceChan_queue ..) ..).trans (State.modTgt_queue ..)) rfl

theorem tileSilentPresent_queue (t : Nat) (s : State) : (tileSilentPresent t s).pending = s.pending := by
  unfold tileSilentPresent
  exact queue_ite (presentUnit_queue ..) rfl

theorem takeReply_queue (i : Nat) (r : Reply) (s : State) : (takeReply i r s).pending = s.pending := by
  unfold takeReply
  split
  · rfl
  · exact queue_ite rfl rfl

theorem ttCycle_queue (n : Nat) (s : State) : (ttCycle n s).pending = s.pending := by
  unfold ttCycle
  exact (queue_ite ((State.modBus_queue ..).trans (ttTakeCells_queue ..)) (queue_ite rfl (queue_ite ((State.modBus_queue ..).trans
    (ttTakeCells_queue ..)) ((State.modBus_queue ..).trans (ttTakeCells_queue ..))))).trans (resumeQueue_queue ..)

theorem ttMiss_queue (n code idx : Nat) (s : State) : (ttMiss n code idx s).pending = s.pending := by
  unfold ttMiss
  exact (busWindow_queue ..).trans (State.modBus_queue ..)

theorem ttClose_queue (n : Nat) (s : State) : (ttClose n s).pending = s.pending := by
  unfold ttClose
  exact queue_ite rfl (by
    split
    · exact ttMiss_queue ..
    · exact ttMiss_queue ..
    · rfl
    · exact State.modBus_queue ..)

theorem ttOpen_queue (n : Nat) (fits : Bool) (s : State) : (ttOpen n fits s).pending = s.pending := by
  unfold ttOpen
  extract_lets x next cell obj set
  have hnext : next.pending = s.pending := State.modBus_queue ..
  clear_value next
  refine queue_ite rfl (Eq.trans ?_ hnext)
  split
  · exact queue_ite (State.modBus_queue ..) (queue_ite (ttMiss_queue ..) (State.modBus_queue ..))
  all_goals exact State.modBus_queue ..

theorem fioLow_queue (g : Nat) (s : State) : (fioLow g s).pending = s.pending := by
  unfold fioLow
  exact (reportGrp_queue ..).trans (State.setLive_queue ..)

theorem fioMissing_queue (g : Nat) (s : State) : (fioMissing g s).pending = s.pending := by
  unfold fioMissing
  exact (reportGrp_queue ..).trans ((queue_foldl (fun _ _ => queue_ite (changeDo_queue ..) rfl) ..).trans (State.setLive_queue ..))

theorem fioReturn_queue (g : Nat) (low : Bool) (s : State) : (fioReturn g low s).pending = s.pending := by
  unfold fioReturn
  exact (reportGrp_queue ..).trans ((queue_ite rfl (queue_foldl (fun _ _ => queue_ite (reportDo_queue ..) rfl) ..)).trans
    (State.setLive_queue ..))

theorem vlogBack_queue (f : Feed) (sample : Word) (red : Bool) (s : State) : (vlogBack f sample red s).pending = s.pending := by
  unfold vlogBack
  exact (presentSupply_queue ..).trans (modVlog_queue ..)

theorem vlogLost_queue (f : Feed) (sample : Word) (s : State) : (vlogLost f sample s).pending = s.pending := by
  unfold vlogLost
  exact (presentSupply_queue ..).trans (modVlog_queue ..)

theorem modVpwr_queue (f : Feed) (g : VpwrIn → VpwrIn) (s : State) : (modVpwr f g s).pending = s.pending := by
  unfold modVpwr
  split <;> rfl

theorem vpwrLow_queue (f : Feed) (sample : Word) (s : State) : (vpwrLow f sample s).pending = s.pending := by
  unfold vpwrLow
  exact (presentSupply_queue ..).trans (modVpwr_queue ..)

theorem lgtFeedLost_queue (f : Feed) (s : State) : (lgtFeedLost f s).pending = s.pending := by
  unfold lgtFeedLost
  exact (queue_ite rfl (queue_foldl (fun _ _ => queue_ite (reportMx_queue ..) rfl) ..)).trans (queue_foldl (fun _ _ => queue_ite
    (changeStr_queue ..) rfl) ..)

theorem vpwrMissing_queue (f : Feed) (sample : Word) (s : State) : (vpwrMissing f sample s).pending = s.pending := by
  unfold vpwrMissing
  exact (lgtFeedLost_queue ..).trans ((queue_foldl (fun _ _ => reportCh_queue ..) ..).trans ((presentSupply_queue ..).trans
    (modVpwr_queue ..)))

theorem lgtFeedBack_queue (f : Feed) (mxWas : Bool) (s : State) : (lgtFeedBack f mxWas s).pending = s.pending := by
  unfold lgtFeedBack
  exact (queue_ite rfl (queue_foldl (fun _ _ => queue_ite (reportMx_queue ..) rfl) ..)).trans (queue_foldl (fun _ _ => queue_ite
    (reportStr_queue ..) rfl) ..)

theorem feedWindow_queue (n : Nat) (s : State) : (feedWindow n s).pending = s.pending := by
  unfold feedWindow
  exact queue_ite (State.modChan_queue ..) rfl

theorem feedReturns_queue (f : Feed) (was : Bool) (s : State) : (feedReturns f was s).pending = s.pending := by
  unfold feedReturns
  exact (queue_ite (raiseWake_queue ..) rfl).trans ((lgtFeedBack_queue ..).trans (queue_foldl (fun _ _ => (reportCh_queue ..).trans
    (feedWindow_queue ..)) ..))

theorem vpwrOk_queue (f : Feed) (sample : Word) (low : Bool) (s : State) : (vpwrOk f sample low s).pending = s.pending := by
  unfold vpwrOk
  exact (queue_ite (feedReturns_queue ..) rfl).trans ((presentSupply_queue ..).trans (modVpwr_queue ..))

theorem wakeStep_queue (cause idx : Nat) (bankFail : BitVec 8) (multi : Bool) (s : State) : (wakeStep cause idx bankFail multi
    s).pending = s.pending := by
  unfold wakeStep
  exact queue_ite (queue_ite (raiseWake_queue ..) rfl) (queue_ite rfl rfl)

theorem wakeFall_queue (i : Feed) (s : State) : (wakeFall i s).pending = s.pending := by
  unfold wakeFall
  exact (present_queue ..).trans (by
    split
    · rfl
    · rfl)

theorem wakeRise_queue (i : Feed) (s : State) : (wakeRise i s).pending = s.pending := by
  unfold wakeRise
  exact (queue_ite ((present_queue ..).trans (queue_ite (raiseWake_queue ..) rfl)) (queue_ite (raiseWake_queue ..) rfl)).trans (by
    split
    · rfl
    · rfl)

theorem linWakeHeard_queue (n : Nat) (s : State) : (linWakeHeard n s).pending = s.pending := by
  unfold linWakeHeard
  exact (queue_ite (queue_ite ((busStateLater_queue ..).trans (State.modBus_queue ..)) rfl) (queue_ite (raiseWake_queue ..) rfl)).trans
    (queue_ite (raiseWake_queue ..) rfl)

theorem wireTrip_queue (n : Nat) (s : State) : (wireTrip n s).pending = s.pending := by
  unfold wireTrip
  exact (latchTrip_queue ..).trans (State.modChan_queue ..)

theorem wireUpdate_queue (n : Nat) (s : State) : (wireUpdate n s).pending = s.pending := by
  unfold wireUpdate
  exact queue_ite rfl ((queue_ite (wireTrip_queue ..) rfl).trans ((wireWarn_queue ..).trans (State.modChan_queue ..)))

theorem withdrawReceived_queue (cause : WithdrawCause) (s : State) : (withdrawReceived cause s).pending = s.pending := by
  unfold withdrawReceived
  exact (onSilence_queue ..).trans (by
    split
    · exact withdrawLane_queue ..
    · rfl)

/-- Settles O2: every command answers the next state of its operation, and that operation keeps the queue. -/
theorem everyCommandCompletesAndKeepsTheQueue : Obligations.EveryCommandCompletesAndKeepsTheQueue := by
  intro c s
  cases c with
  | accDelete | accDen | accEnrol | accRead | accRound | busRead | busSend | busStatus | busTap | castle | chCommand | chLife
  | chRead | close | evtRead | hello | keyLoad | laneReset | laneStatus | lgtPixels | lgtRead | lgtString | mbxFetch | mbxPost
  | mbxStatus | modify | moduleReset | ping | pwrRequest | pwrStatus | read | readList | strRead | updActivate | updBegin
  | updConfirm | updData | updStatus | updVerify | write =>
    exact ⟨_, rfl, hostRow_queue ..⟩
  | accUnitSilent => exact ⟨_, rfl, accSilence_queue ..⟩
  | accessTableWrite => exact ⟨_, rfl, tableWrite_queue ..⟩
  | add | and | call | divs | divu | eq | flagsClr | halt | jmp | jnz | jz | ld | ldL | ldU | lt | ltu | muls | mulu | neg | or
  | push | ret | sabs | sadd | sar | shl | shr | sleep | smul | sneg | ssub | st | stL | stU | sub | xor =>
    exact ⟨_, rfl, issueOne_queue ..⟩
  | alarm => exact ⟨_, rfl, queue_ite ((present_queue ..).trans (queue_ite (raiseWake_queue ..) rfl)) (queue_ite (raiseWake_queue ..)
    rfl)⟩
  | aoRailBrownout => exact ⟨_, rfl, aoBrownout_queue ..⟩
  | arbGrantsRead => exact ⟨_, rfl, latchCounters_queue ..⟩
  | arbSwinWrite | clk250 | comparatorConfigWrite | coreReset | coreRun | coreSleep | coreStop | evqTailWrite | mbxAck | post
  | pwrCtlReq | registerWrite | scoLogWrite | signatureConfigWrite | streamEnable | streamRdWrite =>
    exact ⟨_, rfl, masterWrite_queue ..⟩
  | arbiterGrant => exact ⟨_, rfl, arbiterGrant_queue ..⟩
  | arcWindowEnd => exact ⟨_, rfl, (arcHalf_queue ..).trans ((arcHalf_queue ..).trans (arcRestart_queue ..))⟩
  | arpRequest => exact ⟨_, rfl, arpStep_queue ..⟩
  | assignmentReceived => exact ⟨_, rfl, assignmentStep_queue ..⟩
  | backfedEval => exact ⟨_, rfl, backfedSample_queue ..⟩
  | boardRequest => exact ⟨_, rfl, queue_ite (boardRequest_queue ..) rfl⟩
  | budget => exact ⟨_, rfl, queue_ite (overrun_queue ..) rfl⟩
  | bundleIssue => exact ⟨_, rfl, issueBundle_queue ..⟩
  | busAbort => exact ⟨_, rfl, queue_ite (busAbortReq_queue ..) rfl⟩
  | busFrameReceived => exact ⟨_, rfl, frameReceived_queue ..⟩
  | busFrameTransmitted => exact ⟨_, rfl, queue_ite (objectSent_queue ..) (queuedSent_queue ..)⟩
  | busOffReturn => exact ⟨_, rfl, busOffEnd_queue ..⟩
  | busQueue => exact ⟨_, rfl, queue_ite (busQueueReq_queue ..) rfl⟩
  | busUpdateObject => exact ⟨_, rfl, queue_ite rfl (queue_ite (refuseBus_queue ..) (busUpdateReq_queue ..))⟩
  | bypassClose => exact ⟨_, rfl, bypassOne_queue ..⟩
  | canError => exact ⟨_, rfl, canErrorStep_queue ..⟩
  | caseDiff => exact ⟨_, rfl, (reportCh_queue ..).trans (State.setLive_queue ..)⟩
  | chCfgWrite => exact ⟨_, rfl, queue_ite (tileApply_queue ..) rfl⟩
  | chClear => exact ⟨_, rfl, queue_ite (chClear_queue ..) rfl⟩
  | chOff => exact ⟨_, rfl, queue_ite (chOff_queue ..) rfl⟩
  | chOn => exact ⟨_, rfl, queue_ite (chOn_queue ..) rfl⟩
  | chProbe => exact ⟨_, rfl, queue_ite (chProbe_queue ..) rfl⟩
  | claimReceived => exact ⟨_, rfl, acceptClaim_queue ..⟩
  | clear | clearAll => exact ⟨_, rfl, cntSelWrite_queue ..⟩
  | colShort => exact ⟨_, rfl, mxColShort_queue ..⟩
  | coldStart => exact ⟨_, rfl, coldStart_queue ..⟩
  | commandReceived => exact ⟨_, rfl, commandStep_queue ..⟩
  | commit => exact ⟨_, rfl, commitTables_queue ..⟩
  | configApplied => exact ⟨_, rfl, configApplied_queue ..⟩
  | conversionComplete => exact ⟨_, rfl, updResume_queue ..⟩
  | coreFault | uncorrectableError | withdraw => exact ⟨_, rfl, withdrawLane_queue ..⟩
  | coreWatchdog => exact ⟨_, rfl, queue_ite (withdrawLane_queue ..) rfl⟩
  | currentSample => exact ⟨_, rfl, takeSample_queue ..⟩
  | dbgEnDeactivation => exact ⟨_, rfl, abandonLocks_queue ..⟩
  | deepAfterExpiry => exact ⟨_, rfl, deepAfter_queue ..⟩
  | denCfgWrite => exact ⟨_, rfl, queue_ite (denCfg_queue ..) rfl⟩
  | denClear => exact ⟨_, rfl, queue_ite (denClearCmd_queue ..) rfl⟩
  | denHalfPeriod => exact ⟨_, rfl, denHalf_queue ..⟩
  | denSilence | stop => exact ⟨_, rfl, queue_ite (denStopSoon_queue ..) rfl⟩
  | diCfgWrite => exact ⟨_, rfl, (queue_ite (State.setCopy_queue ..) rfl).trans (fioDiCfg_queue ..)⟩
  | divUnlock => exact ⟨_, rfl, divUnlock_queue ..⟩
  | dmaAbort => exact ⟨_, rfl, masterDo_queue (fun _ => dmaAbort_queue ..) ..⟩
  | dmaComplete => exact ⟨_, rfl, dmaFinish_queue ..⟩
  | dmaStart => exact ⟨_, rfl, masterDo_queue (fun _ => dmaStart_queue ..) ..⟩
  | doClear => exact ⟨_, rfl, queue_ite (fioClear_queue ..) rfl⟩
  | doOff => exact ⟨_, rfl, queue_ite (fioOff_queue ..) rfl⟩
  | doOn => exact ⟨_, rfl, queue_ite (fioOn_queue ..) rfl⟩
  | doThermalRelease => exact ⟨_, rfl, fioThermalRelease_queue ..⟩
  | domTimeout => exact ⟨_, rfl, domStep_queue ..⟩
  | dt => exact ⟨_, rfl, dtSet_queue ..⟩
  | dtRelease => exact ⟨_, rfl, dtClear_queue ..⟩
  | entryCommit => exact ⟨_, rfl, commitEntry_queue ..⟩
  | epochEndReset | moduleResetAssert | recoveryReset => exact ⟨_, rfl, queue_ite (moduleReset_queue ..) rfl⟩
  | eraseComplete => exact ⟨_, rfl, queue_ite (updErased_queue ..) (present_queue ..)⟩
  | fabAnaLost | fabAnaSettled | muxReferenceCheck => exact ⟨_, rfl, rfl⟩
  | fioBackfedEval => exact ⟨_, rfl, fioBackfed_queue ..⟩
  | fioTimedOut => exact ⟨_, rfl, fioTimeout_queue ..⟩
  | fioUnitSilent => exact ⟨_, rfl, fioSilence_queue ..⟩
  | firstActivePly => exact ⟨_, rfl, firstActivePly_queue ..⟩
  | firstTurnOnProbeEnd => exact ⟨_, rfl, firstProbeEnd_queue ..⟩
  | frameStart => exact ⟨_, rfl, mxFrame_queue ..⟩
  | freewheelProbeEnd => exact ⟨_, rfl, freewheelEnd_queue ..⟩
  | go => exact ⟨_, rfl, queue_ite (lgtGo_queue ..) rfl⟩
  | grpOff | grpOn => exact ⟨_, rfl, queue_ite (fioGrpCtl_queue ..) rfl⟩
  | handleScan => exact ⟨_, rfl, scanHandle_queue ..⟩
  | handleStuck => exact ⟨_, rfl, stuckHandle_queue ..⟩
  | healthWindowExpiry => exact ⟨_, rfl, queue_ite (fallBack_queue ..) rfl⟩
  | holdTimeExpiry => exact ⟨_, rfl, holdExpiry_queue ..⟩
  | holdUpEnd => exact ⟨_, rfl, holdUpEnd_queue ..⟩
  | hostLinkLoss | hostLinkUp => exact ⟨_, rfl, linkChange_queue ..⟩
  | hostPacket => exact ⟨_, rfl, receivePacket_queue ..⟩
  | imageVerified => exact ⟨_, rfl, imageVerified_queue ..⟩
  | imbalance => exact ⟨_, rfl, imbalanceChange_queue ..⟩
  | inputPresented | sampleBlock => exact ⟨_, rfl, queue_ite (present_queue ..) rfl⟩
  | inrushWindowEnd => exact ⟨_, rfl, inrushEnd_queue ..⟩
  | joinAbandoned => exact ⟨_, rfl, by
        split
        · exact abandonJoin_queue ..
        · rfl⟩
  | joinEn => exact ⟨_, rfl, joinEnWrite_queue ..⟩
  | joinRetry | pollPeriodDouble => exact ⟨_, rfl, queue_ite rfl rfl⟩
  | journalWriteComplete => exact ⟨_, rfl, queue_ite (queue_ite (journalLife_queue ..) (laneRecord_queue ..)) rfl⟩
  | junction => exact ⟨_, rfl, junctionSet_queue ..⟩
  | junctionRelease => exact ⟨_, rfl, junctionClear_queue ..⟩
  | keepAlive => exact ⟨_, rfl, queue_ite (State.modTgt_queue ..) rfl⟩
  | laneCtlCastle => exact ⟨_, rfl, castleInput_queue ..⟩
  | laneRailBrownout => exact ⟨_, rfl, laneRail_queue ..⟩
  | laneReady | rtcReport => exact ⟨_, rfl, present_queue ..⟩
  | laneResetEvent | laneWatchdog => exact ⟨_, rfl, laneReset_queue ..⟩
  | laneResetRelease => exact ⟨_, rfl, resetRelease_queue ..⟩
  | lanesMeet => exact ⟨_, rfl, lanesMeet_queue ..⟩
  | lgtTimedOut => exact ⟨_, rfl, lgtTimeout_queue ..⟩
  | lgtUnitSilent => exact ⟨_, rfl, lgtSilence_queue ..⟩
  | lifetimeJournal => exact ⟨_, rfl, journalLife_queue ..⟩
  | limit => exact ⟨_, rfl, fioLimit_queue ..⟩
  | linResponse => exact ⟨_, rfl, linRespond_queue ..⟩
  | linSleep => exact ⟨_, rfl, queue_ite (linSleepStep_queue ..) rfl⟩
  | linSlot => exact ⟨_, rfl, linSlotStep_queue ..⟩
  | linWake => exact ⟨_, rfl, queue_ite (linWakeStep_queue ..) rfl⟩
  | linWakeRestart => exact ⟨_, rfl, linRestart_queue ..⟩
  | lineShort => exact ⟨_, rfl, mxLineShort_queue ..⟩
  | lineSlot => exact ⟨_, rfl, mxLine_queue ..⟩
  | lockAbandoned => exact ⟨_, rfl, abandonLock_queue ..⟩
  | lockRecoveryEnd => exact ⟨_, rfl, endRecovery_queue ..⟩
  | lowPowerBrownout => exact ⟨_, rfl, lowPower_queue ..⟩
  | markerTimeout => exact ⟨_, rfl, markerTimeout_queue ..⟩
  | modOffsetTrack => exact ⟨_, rfl, queue_ite (modFault_queue ..) (queue_ite (queue_ite (modFault_queue ..) rfl) rfl)⟩
  | moved => exact ⟨_, rfl, moveStep_queue ..⟩
  | mxClear => exact ⟨_, rfl, queue_ite (mxClearCmd_queue ..) rfl⟩
  | mxGo => exact ⟨_, rfl, queue_ite (mxGoCmd_queue ..) rfl⟩
  | mxOff => exact ⟨_, rfl, queue_ite (mxOffCmd_queue ..) rfl⟩
  | mxOn => exact ⟨_, rfl, queue_ite (mxOnCmd_queue ..) rfl⟩
  | mxThermal => exact ⟨_, rfl, mxHot_queue ..⟩
  | onTimeEnd => exact ⟨_, rfl, onTimeEnd_queue ..⟩
  | openLed => exact ⟨_, rfl, ledOpen_queue ..⟩
  | openLoadProbe => exact ⟨_, rfl, openLoadResult_queue ..⟩
  | openString | short => exact ⟨_, rfl, strTrip_queue ..⟩
  | overcurrent => exact ⟨_, rfl, overTrip_queue ..⟩
  | pairImbalance => exact ⟨_, rfl, pairImbalanceRecord_queue ..⟩
  | parkPoll => exact ⟨_, rfl, parkPollStep_queue ..⟩
  | pathDown | pathUp => exact ⟨_, rfl, pathState_queue ..⟩
  | pendingSessionExpiry => exact ⟨_, rfl, by
        split
        · exact queue_ite (closeSession_queue ..) rfl
        · rfl⟩
  | phaseBStart => exact ⟨_, rfl, phaseBStep_queue ..⟩
  | phaseCEmit => exact ⟨_, rfl, phaseCStep_queue ..⟩
  | phaseDDigest => exact ⟨_, rfl, phaseDStep_queue ..⟩
  | phaseECommit => exact ⟨_, rfl, phaseEStep_queue ..⟩
  | plcaBeacon => exact ⟨_, rfl, beacon_queue ..⟩
  | pllLocked => exact ⟨_, rfl, pllLocked_queue ..⟩
  | plyBoundary => exact ⟨_, rfl, boundaryStep_queue ..⟩
  | pop => exact ⟨_, rfl, issueMoves_queue ..⟩
  | powerDownComplete => exact ⟨_, rfl, powerDown_queue ..⟩
  | powerFail => exact ⟨_, rfl, powerFail_queue ..⟩
  | presenceFrame => exact ⟨_, rfl, presence_queue ..⟩
  | pwmPeriodStart => exact ⟨_, rfl, periodStart_queue ..⟩
  | recover => exact ⟨_, rfl, queue_ite (recoverStep_queue ..) rfl⟩
  | reducedOff => exact ⟨_, rfl, reducedOff_queue ..⟩
  | reducedOn => exact ⟨_, rfl, reducedOn_queue ..⟩
  | referenceReceived => exact ⟨_, rfl, ttReference_queue ..⟩
  | releaseMessage => exact ⟨_, rfl, releaseStep_queue ..⟩
  | retryOffTimeEnd => exact ⟨_, rfl, retryOffEnd_queue ..⟩
  | retryTelegram => exact ⟨_, rfl, sendRetry_queue ..⟩
  | reverse => exact ⟨_, rfl, reverseChange_queue ..⟩
  | round => exact ⟨_, rfl, queue_ite (accApply_queue ..) rfl⟩
  | roundEnd => exact ⟨_, rfl, finishRound_queue ..⟩
  | run => exact ⟨_, rfl, queue_ite (denRun_queue ..) rfl⟩
  | rxAck => exact ⟨_, rfl, queue_ite (ackSlot_queue ..) rfl⟩
  | rxAckAll => exact ⟨_, rfl, queue_ite (ackAll_queue ..) rfl⟩
  | satCollision => exact ⟨_, rfl, satCollide_queue ..⟩
  | satLost => exact ⟨_, rfl, satLostStep_queue ..⟩
  | scoTimeRead => exact ⟨_, rfl, latchTime_queue ..⟩
  | sensorFail => exact ⟨_, rfl, sensorFailed_queue ..⟩
  | sessEnd => exact ⟨_, rfl, queue_ite (endSession_queue ..) rfl⟩
  | sessionIdleTimeout => exact ⟨_, rfl, by
        split
        · exact queue_ite rfl (closeSession_queue ..)
        · rfl⟩
  | sessionTimeout => exact ⟨_, rfl, queue_ite rfl (endSession_queue ..)⟩
  | shadowMissing => exact ⟨_, rfl, by
        split
        · exact (shadowFailed_queue ..).trans (State.modTgt_queue ..)
        · rfl⟩
  | shadowReceived => exact ⟨_, rfl, queue_ite (shadowCompare_queue ..) rfl⟩
  | shortCircuit => exact ⟨_, rfl, shortTrip_queue ..⟩
  | shortLed => exact ⟨_, rfl, ledShort_queue ..⟩
  | soloTimeout => exact ⟨_, rfl, soloTimeout_queue ..⟩
  | strCfgWrite => exact ⟨_, rfl, queue_ite (strCfg_queue ..) rfl⟩
  | strClear => exact ⟨_, rfl, queue_ite (lgtClear_queue ..) rfl⟩
  | strOff => exact ⟨_, rfl, queue_ite (lgtOff_queue ..) rfl⟩
  | strOn => exact ⟨_, rfl, queue_ite (lgtOn_queue ..) rfl⟩
  | strThermalRelease => exact ⟨_, rfl, strCooled_queue ..⟩
  | strThermalSet => exact ⟨_, rfl, strHot_queue ..⟩
  | superseded => exact ⟨_, rfl, supersede_queue ..⟩
  | swap => exact ⟨_, rfl, queue_ite (mxSwapCmd_queue ..) rfl⟩
  | syncLost => exact ⟨_, rfl, ttSyncLost_queue ..⟩
  | thermal => exact ⟨_, rfl, fioThermal_queue ..⟩
  | tileReset => exact ⟨_, rfl, tileReset_queue ..⟩
  | tileSilent => exact ⟨_, rfl, tileSilence_queue ..⟩
  | tileSilentReport => exact ⟨_, rfl, tileSilentPresent_queue ..⟩
  | tokenReply => exact ⟨_, rfl, takeReply_queue ..⟩
  | tokenWrite => exact ⟨_, rfl, queue_ite (tokWrite_queue ..) rfl⟩
  | ttCycleStart => exact ⟨_, rfl, ttCycle_queue ..⟩
  | ttWindowEnd => exact ⟨_, rfl, ttClose_queue ..⟩
  | ttWindowStart => exact ⟨_, rfl, ttOpen_queue ..⟩
  | verifyResult => exact ⟨_, rfl, queue_ite (updVerified_queue ..) (present_queue ..)⟩
  | vfldLow => exact ⟨_, rfl, fioLow_queue ..⟩
  | vfldMissing => exact ⟨_, rfl, fioMissing_queue ..⟩
  | vfldOk => exact ⟨_, rfl, fioReturn_queue ..⟩
  | vlogBack => exact ⟨_, rfl, vlogBack_queue ..⟩
  | vlogLost => exact ⟨_, rfl, vlogLost_queue ..⟩
  | vpwrLow => exact ⟨_, rfl, vpwrLow_queue ..⟩
  | vpwrMissing => exact ⟨_, rfl, vpwrMissing_queue ..⟩
  | vpwrOk => exact ⟨_, rfl, vpwrOk_queue ..⟩
  | wakeEvent => exact ⟨_, rfl, wakeStep_queue ..⟩
  | wakeInputFall => exact ⟨_, rfl, wakeFall_queue ..⟩
  | wakeInputRise => exact ⟨_, rfl, wakeRise_queue ..⟩
  | wakeReceived => exact ⟨_, rfl, linWakeHeard_queue ..⟩
  | wireModelUpdate => exact ⟨_, rfl, wireUpdate_queue ..⟩
  | withdrawReceived => exact ⟨_, rfl, withdrawReceived_queue ..⟩

end Sys2Proof.Machine
end
